-- ==== Sys2Proof/Word.lean ====
section
/-! DEFINITION. The word types of the DZ7160: bytes, 32-bit registers (R5), 64-bit quantities (R8) and octet strings (R10). -/

namespace Sys2Proof

/-- A byte. -/
abbrev Byte := BitVec 8
/-- A BAR0 register (R5). -/
abbrev Word := BitVec 32
/-- A 64-bit quantity (R8). -/
abbrev DWord := BitVec 64
/-- An octet string, in the byte order of its standard, or a structure as it lies in memory (R10). -/
abbrev Bytes := List Byte

end Sys2Proof
end

