-- ==== Sys2Proof/Syntax.lean ====
section
/-! DEFINITION. The commands of the DZ7160 model: the operand types, and `Instr` with one constructor per row of the
table of operations and events. Data that a step takes from outside the part (what a DMA read returned, whether a
host write was refused, what the comparator saw) are operands: host memory and the outside world are not state. -/

namespace Sys2Proof

/-- What a DMA read returned (R52, R86): refused by the host; failed (completion timeout, poison, completer abort);
otherwise the bytes, which may be fewer than asked for. -/
structure DmaRead where
  refused : Bool := false
  failed  : Bool := false
  data    : Bytes := []
deriving DecidableEq, Repr

/-- How a DMA read ended whose bytes stand beside it. -/
inductive DmaEnd where
  | done | refused | failed
deriving DecidableEq, Repr

/-- The kinds of release-comparator mismatch (R243). -/
inductive MmKind where
  | data | status | signature | skew
deriving DecidableEq, Repr

/-- A unit that goes through the clearing (R252, R311). -/
inductive ClrUnit where
  | twin (n : Nat) | grove (g : Nat) | engine (g : Nat)
deriving DecidableEq, Repr

/-- How an engine phase ended (R300, R307, R310, R314). -/
inductive PhaseResult where
  | ok | faultE3 | zeroOrInfinite | iterationLimit
deriving DecidableEq, Repr

/-- How a lane presents its results to the release comparator (R243): the bits that a fault inverted in the output, in the
sapling's write data, in the result length, status and sub-status, and in the sequence signature; and the lane clock. -/
structure LaneEnd where
  out  : Bytes := []
  sap  : Bytes := []
  stat : Bytes := []
  sig  : Bytes := []
  clk  : Nat := 0
deriving DecidableEq, Repr

/-- Outcomes of the twins' known-answer tests of a clearing (R255), one bit a twin: AES, TDES, digests, comparison unit,
context slots, release comparator. -/
structure TwinTests where
  aes      : BitVec 96
  tdes     : BitVec 96
  digest   : BitVec 96
  cmp      : BitVec 96
  ctx      : BitVec 96
  release  : BitVec 96
deriving DecidableEq, Repr

/-- Those of a grove: its mask generator, key cache and SRAM (R255). -/
structure GroveTests where
  mgen     : Bool
  cache    : Bool
  sram     : Bool
deriving DecidableEq, Repr

/-- Those of an engine: its algorithms, validation stage and zeroisation readback (R311). -/
structure EngineTests where
  engAlg   : Bool
  engCheck : Bool
  engRead  : Bool
deriving DecidableEq, Repr

/-- Outcomes of all tests of a clearing. -/
structure ClearTests extends TwinTests, GroveTests, EngineTests
deriving DecidableEq, Repr

/-- The two health tests (R365). -/
inductive HealthKind where
  | repetition | proportion
deriving DecidableEq, Repr

/-- What the migration peer answered in the FABRIC key agreement (R397). -/
structure PeerAnswer where
  reachable : Bool := false
  certOk    : Bool := false
deriving DecidableEq, Repr

/-- The kinds of replication message (R421, R422): to the replica, and back to the source. -/
inductive ReplKind where
  | copy | rollEnd | retirePrev | erase | ack | ended
deriving DecidableEq, Repr

/-- A replication message as it leaves its session and its key wrap (R421): the generations of a key domain. -/
structure ReplMsg where
  peer      : Nat
  domain    : Nat
  kind      : ReplKind
  gen       : Nat := 0
  dmk       : Bytes := []
  prevGen   : Nat := 0
  prevDmk   : Bytes := []
  prevValid : Bool := false
deriving DecidableEq, Repr

/-- A spill offer (R424). -/
structure SpillOffer where
  credit : Nat
  gens   : List (Nat × Nat × Bool) := []
deriving DecidableEq, Repr

/-- A spilled item as it reaches the peer (R425). -/
structure SpillItem where
  peer     : Nat
  slot     : Nat
  seq      : Nat
  slice    : Nat
  domain   : Nat
  desc     : Bytes
  input    : Bytes
  remaining : Nat
deriving DecidableEq, Repr

/-- What a spill peer returns (R426). -/
structure SpillRet where
  executed : Bool
  status   : Nat
  sub      : Nat
  output   : Bytes := []
  /-- the host refuses the write of the output, or the read of its scatter list fails (R86) -/
  refused  : Bool := false
deriving DecidableEq, Repr

/-- What JOIN learns of the partner (R430, R438): its role and what must agree, the outcome of the test swap, and the epoch
and holder that it states. -/
structure PairCompat where
  reached   : Bool := false
  role      : Nat := 0
  ddtSize   : Nat := 0
  ddtRetain : Nat := 0
  lcState   : Nat := 0
  unitId    : Nat := 0
  atomicsOk : Bool := false
  epoch     : Nat := 0
  holder    : Nat := 0
deriving DecidableEq, Repr

/-- How a CompareAndSwap on the witness word completed (R428): the value found, or an error. -/
inductive SwapResult where
  | found (v : DWord) | error
deriving DecidableEq, Repr

/-- A completion slot as a new active reads it (R128). -/
structure CqSlot where
  slice : Nat
  ring  : Nat
  count : Nat
  entry : Bytes
deriving DecidableEq, Repr

/-- A key half as a mirrored slot record carries it (R337, R437). -/
structure MirrorKey where
  alg    : Nat
  part   : Nat
  usage  : Nat
  mode   : Nat
  exp    : Nat
  cust   : Bool
  nb     : Nat
  na     : Nat
  ksi    : Option Bytes
  curve  : Option Bytes
  gen    : Nat
  mat    : Bytes
  ext    : Nat
deriving DecidableEq, Repr

/-- A mirror update as it reaches the standby (R127, R128, R437, R438), in the layouts that the spec gives its parts: head
record (R97) and body entry (R100), table entry (R101), ring (R399), slice (R646). -/
inductive MirrorMsg where
  | record (slot : Nat) (head body : Bytes)
  | table (entry : Bytes)
  | tableKey (key : Nat)
  | ring (slice : Nat) (entry : Bytes)
  | slice (num : Nat) (entry : DWord)
  | keySlot (dom num : Nat) (act sap : Option MirrorKey)
  | domain (num state gen prevGen : Nat) (prevValid : Bool) (dmk prevDmk : Bytes) (newGen : Nat) (newDmk : Bytes) (slotQuota extQuota : Nat)
  | repl (domain index : Nat) (en : Bool) (peer : Nat)
deriving DecidableEq, Repr

/-- What the standby acknowledges: the acceptance in a journal slot (R127), or the oldest other change (R437). -/
inductive AckOf where
  | record (slot : Nat)
  | change
deriving DecidableEq, Repr

/-- What resets warm (R600). -/
inductive WarmSource where
  | warmPin | perst | hotReset
deriving DecidableEq, Repr

/-- What a monitor of the tamper domain meets (R467, R469, R471, R631). Times are how long it lasted. -/
inductive Detection where
  /-- a LID_N input high -/
  | lid (highNs : Nat)
  /-- one sample of the canopy and of the light-sensitive oscillator pair -/
  | light (canopy osc : Bool)
  /-- one sample of the temperature sensors, in the steps of TMP_TEMP; on battery the first alone -/
  | temps (a b : Nat)
  /-- a rail's level: 0 VDD_CORE_IN, 1 VDD_IO, 2 VBAT -/
  | volt (rail mv ns : Nat)
  /-- a rail's departure from its average over the microsecond before -/
  | glitch (rail mv ns : Nat)
  /-- SYSCLK_IN over 10 µs, in Hz, and its longest time without an edge -/
  | sysclk (hz gapNs : Nat)
  /-- an internal clock's departure from its setting, in parts per million -/
  | clock (ppm : Nat)
  /-- an invalid state encoding, or a shadow copy that differs (R472) -/
  | integrity (tamperDomain : Bool)
  /-- an inline integrity failure of DDR5 -/
  | memory
  /-- ZEROISE_REQ_N low -/
  | zeroiseReq (lowNs : Nat)
  /-- VBAT below 2.45 V -/
  | vbat (mv ms : Nat)
  /-- no tick of the RTC -/
  | rtcStill (us : Nat)
deriving DecidableEq, Repr

/-- What wakes the part from STANDBY (R590). -/
inductive WakeSource where
  | smbus (addr : Nat) | warmPin
deriving DecidableEq, Repr

/-- What start-up stage 3 takes from a boot image (R603, R549, R571, R573, R236). The bytes of an image have no layout in the
spec, so whether its signature verifies comes with it (log entry 88). -/
structure BootImage where
  version   : Nat := 0
  sigOk     : Bool := true
  nymjorMl  : Bytes := []
  patch     : Nat := 0
  /-- rate, density and ranks in the places of MEM_DDR_CFG (R583) -/
  ddrParams : Word := 0
  /-- base, configuration and permissions of regions 0 to 31, in order (R549, R561) -/
  rules     : List (Nat × Word × Word) := []
deriving DecidableEq, Repr


/-- The commands: one constructor per row of the table of operations and events (file 95: each step whole and indivisible).
An operand with a default value says what came with the event beside the row's own operands; the default stands for nothing of
the kind, and every meaning and statement holds for each of its values. -/
inductive Instr where
  /-- REGISTER_WRITE (R5): A host write to a register that has no row of its own takes effect per its access type, or is discarded and possibly reported. -/
  | registerWrite (bar off size : Nat) (value : DWord)
  /-- READ_LO_LATCH (R8): A read of a 64-bit pair's _LO register returns the low half and latches the matching _HI value. -/
  | readLoLatch (off size : Nat)
  /-- SMBUS_BLOCK_WRITE (R642): An SMBus block-write command 0x10 writes 4 bytes at a BAR0 offset as master HOST. -/
  | smbusBlockWrite (off : Nat) (value : Word)
  /-- SMBUS_BLOCK_READ (R642): An SMBus block-read command 0x11 returns 4 bytes from a BAR0 offset as master HOST. -/
  | smbusBlockRead (off : Nat)
  /-- RING_STATUS_READ (R641): A read of the lower half of RING_STATUS(r) returns it and latches the upper half. -/
  | ringStatusRead (slice ring : Nat) (upper : Bool)
  /-- PPS_EDGE (R31): A PPS edge is captured, judged valid or not for the time state, and moves the phase correction, acquisition count and any waiting APPLY_AT_PPS. -/
  | ppsEdge
  /-- PPS_MISS (R31): The window of an expected PPS edge passes without a valid edge; PPS_MISS is set and a second consecutive miss in LOCKED enters HOLDOVER. -/
  | ppsMiss
  /-- ACQUIRE_TIMEOUT (R648): No valid PPS edge within 10 s of ST in ACQUIRING moves the time base to FREE_RUN. -/
  | acquireTimeout
  /-- HOLDOVER_LIMIT_EXCEEDED (R33): TIM_ERR_EST grows past TIM_HOLD_LIMIT in HOLDOVER and the time base enters FREE_RUN. -/
  | holdoverLimitExceeded
  /-- TREF_VALIDATED (R32): TREF_IN measured within 100 ppm over 10 ms of ST becomes valid and TREF_VALID reads 1. -/
  | trefValidated
  /-- TREF_LOSS (R32): A valid TREF_IN departs by more than 100 ppm or stops for more than 1 µs; it becomes invalid and LOCKED may enter HOLDOVER. -/
  | trefLoss
  /-- SLEW_COMPLETE (R36): The remaining ST correction is used up and ST returns to its nominal rate. -/
  | slewComplete
  /-- TIM_TOKEN_GO (R40): A write of TIM_TOKEN_CTRL.GO captures the nonce and ST and starts verification of the time token. -/
  | timTokenGo (newNonce : Bool)
  /-- TOKEN_VERIFY_DONE (R644): Token verification ends; checks decide TIM_TOKEN_STAT and an accepted token sets or slews ST, or waits for a PPS edge. -/
  | tokenVerifyDone (token : Bytes) (read : DmaEnd)
  /-- TOKEN_PPS_TIMEOUT (R645): A token waiting for a PPS edge gets none within 2 s of ST, or PPS_EN is cleared, and ends NO_PPS. -/
  | tokenPpsTimeout
  /-- TIM_NEW_NONCE (R643): NEW_NONCE draws a fresh token nonce from the management DRBG and voids the previous one. -/
  | timNewNonce
  /-- TIM_SET_APPLY (R35): A write of TIM_SET_CTRL.APPLY in an open time ceremony applies a quorum set or forward step, now or at the next PPS edge. -/
  | timSetApply (value : Word)
  /-- TIM_FENCE_START (R39): A write of TIM_FENCE.START sets BUSY until every block holds the latest set or step. -/
  | timFenceStart
  /-- TIM_FENCE_DONE (R643): Every block of R39 holds the new ST and shifted expiries, and TIM_FENCE.BUSY clears. -/
  | timFenceDone
  /-- TIM_REF_CFG_WRITE (R32): A write of TIM_REF_CFG changes reference selection, restarting TREF measurement and ending a token's PPS wait if PPS_EN is cleared. -/
  | timRefCfgWrite (value : Word)
  /-- SQ_DOORBELL (R61): A submission doorbell write is checked for width, ring and generation and records a new tail or faults the ring. -/
  | sqDoorbell (slice ring : Nat) (bits : Nat) (aligned : Bool) (value : DWord)
  /-- CQ_DOORBELL (R61): A completion doorbell write is checked and records a new consumed count or faults the ring. -/
  | cqDoorbell (slice ring : Nat) (bits : Nat) (aligned : Bool) (value : DWord)
  /-- DESCRIPTOR_FETCH (R51): A descriptor, its scatter lists and short input arrive and pass through the fetch checks in order. -/
  | descriptorFetch (slice ring : Nat) (desc inList outList shortIn : DmaRead)
  /-- ACCEPT_DESCRIPTOR (R92): When acceptance conditions allow, a fetched descriptor is looked up in the deduplication table and committed as a new request, replay or attachment. -/
  | acceptDescriptor (slice ring : Nat)
  /-- HEAD_WRITE_BACK (R64): The device writes the head write-back word covering accepted items within 1 µs of ST of the last acceptance. -/
  | headWriteBack (slice ring : Nat) (refused : Bool)
  /-- LONG_INPUT_FETCH (R52): The input of an item above 256 bytes is fetched into grove staging after placement and checked for refusal or shortfall. -/
  | longInputFetch (slot : Nat) (input : DmaRead)
  /-- COMPLETION_POST (R58): An owed completion entry is written to its ring when the ring can post, after the item's output and before its MSI-X message. -/
  | completionPost (slice ring : Nat) (refused : Bool)
  /-- IRQ_TIMER (R76): TIME µs of ST pass since the oldest counted entry and the ring's vector is raised. -/
  | irqTimer (slice ring : Nat)
  /-- MSIX_UNMASK (R76): Unmasking a vector with its pending bit set sends one message. -/
  | msixUnmask (vector : Nat)
  /-- RING_CREATE (R73): CREATE checks the staged settings, increments the generation, zeroes the counts and leaves the ring HELD, or fails with a result. -/
  | ringCreate
  /-- RING_ENABLE (R69): ENABLE rewrites the head write-back word, posts held entries and resumes fetching, taking staged settings on a NEEDS_SETTINGS ring. -/
  | ringEnable
  /-- RING_HOLD (R69): HOLD stops fetching on an ACTIVE ring, or rewrites the head write-back and posts held entries of a PARKED or FAULT ring. -/
  | ringHold
  /-- RING_DESTROY (R67): DESTROY returns a quiescent HELD ring to ABSENT, keeping its generation, or completes NOT_QUIESCENT. -/
  | ringDestroy
  /-- RING_SELECT (R71): A write of HIF_RING_SEL loads the staging registers from the selected ring's configuration. -/
  | ringSelect (value : Word)
  /-- RING_SETTINGS_WRITE (R72): A write of HIF_RING_IRQ, MOD or POLICY on a defined ring takes effect or is discarded whole as an access violation. -/
  | ringSettingsWrite (off : Nat) (value : Word)
  /-- RING_BARRIER_RESOLVE (R79): Every item ahead of a RING_BARRIER has its entry written; the barrier completes and items behind it may start. -/
  | ringBarrierResolve (slot : Nat)
  /-- RELEASE_AT_FIRE (R79): A RELEASE_AT reaches its release time at a delay-list tick, completes OK and releases the items behind it. -/
  | releaseAtFire (slot : Nat)
  /-- SLICE_BARRIER_RESOLVE (R80): A complete slice barrier instance's predecessors have all completed; its barrier entries are written and held items released. -/
  | sliceBarrierResolve (slice id : Nat)
  /-- SLICE_BARRIER_DISSOLVE (R82): A joined barrier descriptor's deadline passes before arrivals are complete; the instance dissolves with EXPIRED 0x01. -/
  | sliceBarrierDissolve (slice id : Nat)
  /-- DDT_STALL_RETRY (R104): A stalled deduplication insertion is retried at a dispatch epoch and acceptance resumes on success. -/
  | ddtStallRetry
  /-- DDT_REINIT (R136): A write of DDT_BASE or DDT_SIZE with no ring defined clears READY and starts initialising the table empty with new hash keys. -/
  | ddtReinit (off : Nat) (value : Word)
  /-- DDT_INIT_DONE (R136): Table initialisation finishes, DDT_STAT.READY reads 1 and acceptance may proceed. -/
  | ddtInitDone
  /-- ANCHOR_FLUSH_START (R115): After a supply warning, once dispatch is held and lane operations settled, the anchor flush clears FLUSH_DONE and starts writing. -/
  | anchorFlushStart
  /-- ANCHOR_FLUSH_DONE (R115): The anchor header and FLUSH_DONE marker are written and the recorder flush may start. -/
  | anchorFlushDone
  /-- RECOVER_CLOSE (R124): JNL_RECOVER_CTRL.CLOSE completes every AWAITING record with EXPIRED 0x00 and makes their entries DONE. -/
  | recoverClose
  /-- MIRROR_ACK (R127): The standby's mirror acknowledgement arrives and completes the waiting acceptance in synchronous mode. -/
  | mirrorAck (of : AckOf)
  /-- MIRROR_ACK_TIMEOUT (R127): No acknowledgement within 40 µs of ST; the active enters sync-degraded mode and completes the waiting acceptances. -/
  | mirrorAckTimeout (of : AckOf)
  /-- DISPATCH_EPOCH (R143): The 1 µs dispatch epoch refreshes loads, releases holds, grants credits, readmits units and evaluates epoch-driven conditions. -/
  | dispatchEpoch
  /-- REEF_LEVEL_CHANGE (R173): A backlog or outstanding condition holds for its required time and the reef level moves. -/
  | reefLevelChange
  /-- ITEM_PLACEMENT (R153): The head PENDING item is placed on a candidate grove chosen by key affinity and load once one exists. -/
  | itemPlacement
  /-- TWIN_DISPATCH (R157): A free twin takes the earliest eligible PLACED or its own SUSPENDED item and enters RUNNING. -/
  | twinDispatch (twin : Nat) (badKeys : List Nat := [])
  /-- CONTEXT_SAVE_DONE (R161): A preempted twin has saved its item's masked context in both lanes; the item is SUSPENDED and the twin free. -/
  | contextSaveDone (twin : Nat)
  /-- DEADLINE_EXPIRY (R170): An unstarted item's deadline passes under EXPIRE and it finishes EXPIRED at the next dispatch epoch. -/
  | deadlineExpiry (slot : Nat)
  /-- RESTART_BACKOFF_EXPIRY (R247): A restarted item's back-off of 2 or 4 µs expires at a delay-list tick and it becomes eligible for a twin. -/
  | restartBackoffExpiry (slot : Nat)
  /-- FIRMWARE_TIMER (R165): A firmware timer on the delay list fires and wakes a firmware thread task. -/
  | firmwareTimer (task : Nat)
  /-- FW_TASK_DEADLINE_MISS (R166): A thread task misses its deadline, raising DSP_FW_MISS and a recorder record, and continues. -/
  | fwTaskDeadlineMiss (task : Nat)
  /-- FLOW_STALL_RETRY (R150): A failed flow-table insertion is retried at a dispatch epoch and the ring resumes on success. -/
  | flowStallRetry (slice ring : Nat)
  /-- SLICE_HIST_CLEAR (R180): DSP_SLICE_HIST_CTRL.CLEAR clears the selected slice's histogram buckets. -/
  | sliceHistClear
  /-- SLICE_HIST_CLEAR_ALL (R180): DSP_SLICE_HIST_CTRL.CLEAR_ALL clears every slice's histogram buckets. -/
  | sliceHistClearAll
  /-- SLICE_HIST_READ (R180): A read of DSP_SLICE_HIST(0) latches all 16 buckets of the selected slice. -/
  | sliceHistRead
  /-- RELEASE_COMPARE (R243): Both lanes of a twin present their results and the release comparator compares them. -/
  | releaseCompare (twin : Nat) (principal check : LaneEnd) (dmaRefused : Bool := false)
  /-- SKEW_TIMEOUT (R244): Neither lane presents within twice the lane time plus 10 µs of ST and a SKEW mismatch is declared. -/
  | skewTimeout (twin : Nat)
  /-- MASK_SEED_ARRIVAL (R237): A 384-bit seed from the grove DRBG arrives at the mask generator, ending EXHAUSTED if in force. -/
  | maskSeedArrival (grove : Nat)
  /-- MASK_GEN_EXHAUSTED (R241): The current seed is used up with no next seed; the grove stops being a candidate for twin items. -/
  | maskGenExhausted (grove : Nat)
  /-- STAGING_ECC_ERROR (R251): An uncorrectable error in staged input discards the staging and refetches once, or completes INTERNAL_FAULT 0x02. -/
  | stagingEccError (slot : Nat)
  /-- CLEARING_TESTS_DONE (R253): A unit's known-answer tests end; it goes IN_SERVICE, HELD or FAILED. -/
  | clearingTestsDone (unit : ClrUnit) (twins : TwinTests) (grove : GroveTests) (engine : EngineTests) (us : Nat)
  /-- TWIN_CLEAR (R256): A LAN_CLEAR_CMD CLEAR naming a twin starts draining it for the clearing, or is refused. -/
  | twinClear (twin : Nat)
  /-- GROVE_CLEAR (R256): A LAN_CLEAR_CMD CLEAR naming a grove returns its PLACED items and drains its twins for the clearing, or is refused. -/
  | groveClear (grove : Nat)
  /-- CLEAR_DRAIN_DONE (R256): A draining unit finishes its items and enters the clearing; LAN_CLEAR_CMD_STAT.BUSY clears. -/
  | clearDrainDone
  /-- READMIT_HOLD_WRITE (R258): A write of LAN_CLEAR_CTRL.READMIT_HOLD; clearing it releases every HELD unit at the next dispatch epoch. -/
  | readmitHoldWrite (value : Word)
  /-- PKE_DISPATCH (R285): A free public-key engine takes its earliest eligible PLACED item and starts its engine phase. -/
  | pkeDispatch (grove : Nat)
  /-- ENGINE_PHASE_DONE (R300): An engine phase ends after validation, operation and fault check; the operand RAM is zeroised and the release phase takes a twin. -/
  | enginePhaseDone (grove : Nat) (res : PhaseResult) (altered : Bytes := []) (clean : Bool := true)
  /-- PKE_ABORT (R315): PKE_ABORT_CMD.GO stops the named item's engine phase, or completes NOT_FOUND, NOT_RUNNING, TOO_LATE or SUPERSEDED. -/
  | pkeAbort (value : Word)
  /-- ABORT_READBACK_DONE (R314): The aborted engine's operand RAM is zeroed and read back; the item completes ABORTED, or the engine is gated. -/
  | abortReadbackDone (grove : Nat) (clean : Bool := true)
  /-- PKE_CLEAR (R311): PKE_CLEAR_CMD CLEAR sends an engine to the clearing once its engine phase has ended. -/
  | pkeClear (value : Word)
  /-- KEY_LOAD_DONE (R350): An unwrap unit finishes a key load and inserts the entry in the grove cache, replacing an unpinned entry if full. -/
  | keyLoadDone (grove : Nat) (slot : Nat)
  /-- SLOT_PROMOTE (R342): KEY_SLOT_CMD PROMOTE starts the check-value comparison and test operation of the selected slot's sapling. -/
  | slotPromote (value : Word)
  /-- PROMOTE_DONE (R343): PROMOTE commits the sapling as active in one atomic word, or ends with a failure result. -/
  | promoteDone (testOk : Bool)
  /-- SLOT_DISCARD (R346): KEY_SLOT_CMD DISCARD empties the selected slot's sapling. -/
  | slotDiscard
  /-- SLOT_DELETE (R346): KEY_SLOT_CMD DELETE empties both halves and frees the slot. -/
  | slotDelete
  /-- SLOT_SET_WINDOW (R346): KEY_SLOT_CMD SET_WINDOW writes KEY_WIN_NB and KEY_WIN_NA into the sapling's validity window. -/
  | slotSetWindow
  /-- SLOT_INFO (R346): KEY_SLOT_CMD INFO loads the information registers for the selected half. -/
  | slotInfo (half : Bool)
  /-- KEY_FENCE_START (R347): A write of KEY_FENCE.START sets BUSY until earlier commits reach every grove cache, and with WAIT_USERS until their users finish. -/
  | keyFenceStart (value : Word)
  /-- KEY_FENCE_DONE (R347): Every earlier commit is visible to every grove cache and waited users have finished; KEY_FENCE.BUSY clears. -/
  | keyFenceDone
  /-- RETIRE_PREV (R329): KEY_DOM_CMD.RETIRE_PREV clears PREV_VALID of the selected domain, or completes BAD_STATE. -/
  | retirePrev
  /-- DOMAIN_ERASE (R330): KEY_DOM_ERASE within the domain's ceremony deletes its slots, record and DMK and returns it to EMPTY. -/
  | domainErase
  /-- STORE_REINIT (R324): KEY_STORE_CMD.REINIT within the unlock ceremony starts drawing a new BBKEK and erasing the key store, or completes NO_ENTROPY. -/
  | storeReinit
  /-- REINIT_DONE (R324): REINIT writes the new check record and STORE reads READY. -/
  | reinitDone
  /-- ROLL_DONE (R328): Every slot of a rolling domain is resealed; the new generation becomes current and PREV_VALID is set. -/
  | rollDone
  /-- QUOTA_WRITE (R331): A write of KEY_DOM_QUOTA within a ceremony sets the domain's quotas, or is discarded if the sums would exceed the store. -/
  | quotaWrite (value : Word)
  /-- OSC_SETTLED (R376): The 4 ms oscillator settling of STARTUP ends and the start-up tests begin. -/
  | oscSettled
  /-- STARTUP_TESTS_PASS (R376): Every source passes the health tests on 4,096 samples and conditioning of the first blocks begins. -/
  | startupTestsPass (samples : List (List Bool) := [])
  /-- BLOCK_CONDITIONED (R367): 1,024 samples of one source are compressed into a conditioned block and given to a waiting DRBG or the pool. -/
  | blockConditioned (source : Nat) (samples : List Bool := [])
  /-- HEALTH_FAILURE (R377): A source fails a health test; every DRBG stops, the pool empties and a rerun or NO_RANDOMNESS follows. -/
  | healthFailure (source : Nat) (kind : HealthKind) (samples : List Bool := [])
  /-- RERUN_PASS (R375): The failing source passes its rerun and blocks conditioned after it restore the DRBGs. -/
  | rerunPass (source : Nat) (samples : List Bool := [])
  /-- KAT_FAILURE (R369): A conditioner or CTR_DRBG known-answer test ends failed and the entropy block enters NO_RANDOMNESS. -/
  | katFailure
  /-- STARTUP_TIMEOUT (R375): The DRBGs are not all instantiated within 200 ms of ST of entering STARTUP and NO_RANDOMNESS is entered. -/
  | startupTimeout
  /-- DRBG_RESEED_TIMER (R372): MAX_AGE ms of ST pass since a DRBG's last reseed and it asks for a reseed. -/
  | drbgReseedTimer (inst : Nat)
  /-- RNG_RESTART (R375): RNG_CTRL.RESTART leaves NO_RANDOMNESS through STARTUP, or completes BAD_STATE. -/
  | rngRestart
  /-- RAW_MODE_ENABLE (R383): Setting RNG_RAW_CTRL.EN detaches the selected source into the raw buffer, where the life-cycle state allows. -/
  | rawModeEnable (value : Word)
  /-- RAW_MODE_DISABLE (R383): Clearing RNG_RAW_CTRL.EN re-attaches the source after it passes a start-up test. -/
  | rawModeDisable (value : Word)
  /-- RAW_DATA_READ (R383): A read of RNG_RAW_DATA returns and removes up to 32 buffered raw samples. -/
  | rawDataRead (samples : List Bool := [])
  /-- RESEED_CTRL_WRITE (R386): A write of RNG_RESEED_CTRL sets the stretch limit and maximum age, making a DRBG past a lowered limit STARVED at once. -/
  | reseedCtrlWrite (value : Word)
  /-- SLICE_BIND (R388): BIND binds an UNBOUND slice with the staged PASID, domain, rings, weight and policy, or fails. -/
  | sliceBind
  /-- SLICE_FREEZE (R391): FREEZE stops acceptance and drains or squashes the slice's work towards FROZEN. -/
  | sliceFreeze (squash : Bool)
  /-- SLICE_THAW (R390): THAW returns a FROZEN slice to BOUND. -/
  | sliceThaw
  /-- SLICE_RESET (R394): RESET drains or squashes the slice and then destroys its rings, keeping the binding. -/
  | sliceReset (squash : Bool)
  /-- SLICE_REMOVE (R394): REMOVE drains or squashes the slice, destroys its rings and enters RETAINING. -/
  | sliceRemove (squash : Bool)
  /-- SLICE_SAVE (R399): SAVE of a FROZEN or SAVED slice agrees the image key, scans the table and writes the sealed image. -/
  | sliceSave (peer : PeerAnswer)
  /-- SLICE_PREPARE (R396): PREPARE stages an UNBOUND target slice and issues a 64-bit nonce valid for 60 s of ST. -/
  | slicePrepare
  /-- SLICE_RESTORE (R402): RESTORE reads and checks a state image for a PREPARED slice. -/
  | sliceRestore (image : Bytes) (read : DmaEnd)
  /-- SLICE_DRAIN_DONE (R393): A draining slice has no ACCEPTED, IN_SERVICE or AWAITING record and owed entries are written; the command completes. -/
  | sliceDrainDone (slice : Nat)
  /-- SAVE_DONE (R400): SAVE finishes writing the image and the slice is SAVED, or fails and keeps its state. -/
  | saveDone (slice : Nat)
  /-- RESTORE_DONE (R403): RESTORE binds the slice, defines its rings PARKED, reopens chains and inserts entries, or fails to UNBOUND. -/
  | restoreDone (slice : Nat)
  /-- PREPARE_EXPIRY (R390): 60 s of ST pass after PREPARE without RESTORE and the slice returns to UNBOUND. -/
  | prepareExpiry (slice : Nat)
  /-- RETAIN_ELAPSED (R390): DDT_RETAIN elapses after a slice entered RETAINING and it becomes UNBOUND. -/
  | retainElapsed (slice : Nat)
  /-- SLICE_SELECT (R406): A write of HIF_SLICE_SEL loads the slice staging registers from the selected slice. -/
  | sliceSelect (value : Word)
  /-- SLICE_CFG_WRITE (R408): A write of HIF_SLICE_PASID, CFG or RINGS changes permitted fields or is discarded whole. -/
  | sliceCfgWrite (off : Nat) (value : Word)
  /-- PORT_ENABLE (R410): A write of FAB_CTRL enables or disables the fabric and its ports, moving ports to TRAINING or DISABLED. -/
  | portEnable (value : Word)
  /-- PORT_TRAINED (R410): A port's lanes train and FEC locks; the port enters AUTH. -/
  | portTrained (port : Nat)
  /-- PORT_AUTH_DONE (R410): The neighbour's certificate and signature are checked and the port goes UP or REFUSED. -/
  | portAuthDone (port neighbour peerPort unit : Nat) (ok : Bool)
  /-- PORT_DOWN (R410): An UP port loses lock or exhausts retries and goes DOWN, removing its routes. -/
  | portDown (port : Nat)
  /-- PORT_RETRAIN_TIMER (R410): 1 ms of ST after going DOWN the port returns to TRAINING. -/
  | portRetrainTimer (port : Nat)
  /-- AUTH_RETRY_TIMER (R410): Every 10 ms of ST a port stuck in AUTH for lack of randomness retries. -/
  | authRetryTimer (port : Nat)
  /-- FRAME_RECEIVE (R419): A frame of a routed class is delivered, dropped, forwarded or flooded. -/
  | frameReceive (port : Nat) (bytes : Bytes := [])
  /-- DISCOVERY_TIMER (R415): Every PERIOD ms of ST the device floods a discovery message on every UP port. -/
  | discoveryTimer
  /-- DISCOVERY_RECEIVE (R415): A discovery message judged new updates the node table and is flooded onward. -/
  | discoveryReceive (port : Nat) (bytes : Bytes)
  /-- NODE_AGE_OUT (R416): Three periods pass without a new message; the node stops being LIVE and its routes are removed. -/
  | nodeAgeOut (node : Nat)
  /-- ROUTE_AGE_OUT (R417): A route not refreshed for AGE ms of ST is removed. -/
  | routeAgeOut (node cls : Nat)
  /-- ROUTE_FLUSH (R443): A write of FAB_ROUTE_CTRL.FLUSH removes every routing entry. -/
  | routeFlush (value : Word)
  /-- SESSION_SETUP (R413): A sealed frame for a peer with no session sets one up by a signed P-384 ECDH over CONTROL frames. -/
  | sessionSetup (peer : Nat) (pub : Bytes) (sigOk : Bool := true)
  /-- SESSION_REKEY (R413): A session reaches 2^48 frames or 1 h of ST and is set up again. -/
  | sessionRekey (peer : Nat) (pub : Bytes := [])
  /-- SESSION_BREAK (R413): A frame left unacknowledged for 1 ms of ST breaks its session. -/
  | sessionBreak (peer : Nat)
  /-- REPLICATE_RECEIVE (R421): A replica receives a domain copy or change and installs or applies it under its open ceremony. -/
  | replicateReceive (m : ReplMsg)
  /-- SPILL_OFFER_TIMER (R424): Every 100 µs of ST a device with IN_LIMIT sends its credit and generations to each spill peer. -/
  | spillOfferTimer
  /-- SPILL_OFFER_RECEIVE (R424): An offer from a spill peer updates its credit and generations at the origin. -/
  | spillOfferReceive (peer : Nat) (o : SpillOffer)
  /-- SPILL_ITEM_RECEIVE (R425): A peer receives a spilled item and places it in its own dispatch under EXECUTE_LATE. -/
  | spillItemReceive (m : SpillItem)
  /-- SPILL_RETURN (R426): The origin receives a spilled item's return and posts it or runs the item locally. -/
  | spillReturn (peer slot : Nat) (r : SpillRet)
  /-- SPILL_TIMEOUT (R426): No return within TIMEOUT µs of ST; the origin sends a cancel and runs the item locally. -/
  | spillTimeout (slot : Nat)
  /-- PAIR_ACTIVATE (R430): ACTIVATE swaps the witness and an UNPAIRED device becomes ACTIVE_ALONE. -/
  | pairActivate
  /-- PAIR_JOIN (R438): JOIN checks compatibility and witness atomics, then erases local state and starts copying from the partner. -/
  | pairJoin (compat : PairCompat)
  /-- PAIR_SWITCHOVER (R434): SWITCHOVER makes the ACTIVE device hand over to its standby. -/
  | pairSwitchover
  /-- PAIR_LEAVE (R430): LEAVE returns the device to UNPAIRED, erasing mirrored state unless it was ACTIVE_ALONE. -/
  | pairLeave
  /-- LEASE_RENEWAL_TIMER (R431): Every 40 µs of ST the active sends a renewal with its epoch and ST on both pair links. -/
  | leaseRenewalTimer
  /-- RENEWAL_RECEIVE (R431): The standby receives a renewal, acknowledges it and resets its lease expiry. -/
  | renewalReceive (port epoch : Nat) (peerSt : Nat := 0)
  /-- RENEWAL_ACK_RECEIVE (R431): The active receives a renewal acknowledgement and extends its own lease. -/
  | renewalAckReceive (epoch sentSt peerSt : Nat)
  /-- LEASE_GUARD_EXPIRY (R431): The standby's lease expiry plus 40 µs guard passes and it issues its witness swap. -/
  | leaseGuardExpiry
  /-- ACK_MISSING_TIMEOUT (R432): 80 µs of ST pass since the latest acknowledged renewal and the active swaps the witness to go alone. -/
  | ackMissingTimeout
  /-- ACTIVE_LEASE_EXPIRY (R431): The active's lease ends without a won swap; it stops writing host memory and becomes FENCED. -/
  | activeLeaseExpiry
  /-- WITNESS_SWAP_DONE (R428): A CompareAndSwap on the witness word completes; the device acts on a win or changes role on a loss or error. -/
  | witnessSwapDone (r : SwapResult) (slots : List CqSlot)
  /-- WITNESS_RETRY_TIMER (R428): Every 1 ms of ST a failed or errored witness swap is retried. -/
  | witnessRetryTimer
  /-- RELEASE_RECEIVE (R434): The standby receives RELEASE and swaps the witness without waiting for lease expiry. -/
  | releaseReceive
  /-- SYNC_COPY_DONE (R438): The joining copy completes; the joiner becomes STANDBY, the partner ACTIVE and synchronous mirroring resumes. -/
  | syncCopyDone
  /-- MIRROR_RECEIVE (R437): The standby receives a mirror update and applies and acknowledges it. -/
  | mirrorReceive (epoch : Nat) (m : MirrorMsg)
  /-- CEREMONY_BEGIN (R452): BEGIN reads the parameter block, draws ID, nonce and ephemeral key and publishes the challenge, or fails. -/
  | ceremonyBegin (param : DmaRead)
  /-- CEREMONY_SUBMIT (R455): SUBMIT fetches a relayed approval from CUS_RESP_ADDR and counts or rejects it. -/
  | ceremonySubmit (resp : Bytes) (read : DmaEnd)
  /-- CEREMONY_END (R452): END returns an OPEN slot to IDLE with DONE, discarding uncommitted protected staging. -/
  | ceremonyEnd
  /-- CEREMONY_ABANDON (R452): ABANDON returns a COLLECTING or OPEN slot to IDLE with ABANDONED. -/
  | ceremonyAbandon
  /-- CARD_APPROVAL (R456): A card in a local port returns its complete approval, which is checked and counted or rejected. -/
  | cardApproval (cer port : Nat) (resp envelope : Bytes)
  /-- CEREMONY_WINDOW_EXPIRY (R452): CUS_WINDOW passes without quorum and the slot returns to IDLE with WINDOW_EXPIRED. -/
  | ceremonyWindowExpiry (cer : Nat)
  /-- CEREMONY_OPEN_TIMEOUT (R452): 300 s of ST after quorum an OPEN slot returns to IDLE with TIMED_OUT. -/
  | ceremonyOpenTimeout (cer : Nat)
  /-- CARD_INSERT (R633): CUSn_DET_N goes low stably for 50 µs and the port activates the card. -/
  | cardInsert (port : Nat)
  /-- CARD_ATR_TIMEOUT (R633): No ATR within 40,000 clocks; the port retries at class B once or deactivates. -/
  | cardAtrTimeout (port : Nat)
  /-- CARD_REMOVE (R445): CUSn_DET_N goes high stably and the port deactivates the card within 1 ms. -/
  | cardRemove (port : Nat)
  /-- ALARM_DETECTION (R480): A monitor source fires; it opens or joins an event and its class's response is carried out. -/
  | alarmDetection (det : Detection)
  /-- ALARM_WINDOW_CLOSE (R480): The 10 µs joining window of an alarm event closes and its evidence record is queued. -/
  | alarmWindowClose
  /-- SHROUD_PATTERN_PERIOD (R470): Every 50 µs the tamper domain drives a new shroud pattern and compares the sensed pattern: `altered` is
  the sensed pattern XOR the driven one, pair k in bits 16k+15 to 16k. -/
  | shroudPatternPeriod (altered : BitVec 64)
  /-- HOST_ZEROISE (R467): A write of 0x2E50_0001 to TMP_CMD raises the HOST_ZEROISE alarm. -/
  | hostZeroise (value : Word)
  /-- BATTERY_ALARM (R482): On battery alone a watched source fires; the BBKEK is erased or LOCK set and battery-buffer entries are written. -/
  | batteryAlarm (det : Detection)
  /-- RTC_PAIR_TIMER (R484): Every 1 s of ST the tamper domain stores an (ST, RTC) pair. -/
  | rtcPairTimer
  /-- TAMPER_UNLOCK (R488): A write of TMP_UNLOCK.UNLOCK in an open UNLOCK ceremony checks the unlock conditions and clears the lock or refuses. -/
  | tamperUnlock (value : Word)
  /-- TMP_TOKEN_GO (R487): TMP_TOKEN_CTRL.GO loads and checks a vendor unlock token. -/
  | tmpTokenGo (token : Bytes) (read : DmaEnd)
  /-- TMP_NEW_NONCE (R492): TMP_TOKEN_CTRL.NEW_NONCE draws a fresh unlock nonce and voids any accepted token. -/
  | tmpNewNonce
  /-- EVIDENCE_APPEND (R497): The evidence engine writes the next queued record, or raises a repeat count, and commits it by an atomic head-count write. -/
  | evidenceAppend
  /-- EVIDENCE_EXPORT (R511): EVL_EXPORT_CMD.EXPORT in an open ceremony writes an EXPORT record and starts building the signed summary. -/
  | evidenceExport (value : Word)
  /-- EXPORT_DONE (R511): The signed summary is written to host memory and the evidence queue is released. -/
  | exportDone (refused : Bool)
  /-- RECORDER_FLUSH (R507): ERC_CMD.FLUSH starts copying unflushed ring records to the MRAM region. -/
  | recorderFlush
  /-- RECORDER_FLUSH_DONE (R508): A recorder flush ends with every copied record marked FLUSHED. -/
  | recorderFlushDone
  /-- HOST_MARK (R504): ERC_CMD.MARK writes a HOST_MARK recorder record carrying ERC_MARK. -/
  | hostMark
  /-- RECORDER_CLEAR (R509): ERC_CLEAR.CLEAR in an open ceremony writes a RECORDER_CLEARED record and erases both recorder regions. -/
  | recorderClear (value : Word)
  /-- LC_REQUEST_LOAD (R525): LCS_REQ_CTRL.LOAD fetches and checks a signed transition request. -/
  | lcRequestLoad (req : Bytes) (read : DmaEnd)
  /-- LC_GO (R526): A matching write of LCS_GO programs TARGET and INTENT and starts the transition, or completes with a refusal. -/
  | lcGo (value : Word)
  /-- DEBUG_CHALLENGE (R536): LCS_DBG_CMD.CHALLENGE draws a nonce and publishes a debug challenge. -/
  | debugChallenge
  /-- DEBUG_TOKEN_GO (R537): LCS_DBG_TOKEN_CTRL.GO loads and checks a Nymjor debug response. -/
  | debugTokenGo (resp : Bytes) (read : DmaEnd)
  /-- DEBUG_OPEN (R538): A matching write of LCS_DBG_OPEN opens the debug scope and sets its expiry. -/
  | debugOpen (value : Word)
  /-- DEBUG_CLOSE (R539): LCS_DBG_CMD.CLOSE returns the debug scope to the state's default. -/
  | debugClose
  /-- DEBUG_EXPIRY (R539): ST reaches the debug expiry and the scope returns to the default. -/
  | debugExpiry
  /-- DEBUG_ACCESS (R534, R560): A debug-master access is checked by the gates and denials are reported and counted. With
  `core`, the debug master halts (true) or resumes (false) a management pair instead. -/
  | debugAccess (write : Bool) (addr : Nat) (data : Bytes) (core : Option (Nat × Bool))
  /-- JTAG_BYPASS (R540): The IEEE 1149.1 BYPASS instruction. -/
  | jtagBypass (tdi : Bool)
  /-- JTAG_IDCODE (R628): The IDCODE instruction shifts out the device identification code. -/
  | jtagIdcode
  /-- JTAG_SAMPLE_PRELOAD (R540): The SAMPLE/PRELOAD boundary-scan instruction. -/
  | jtagSamplePreload (pins preload : Bytes)
  /-- JTAG_EXTEST (R540): The EXTEST boundary-scan instruction, with tamper monitoring continuing. -/
  | jtagExtest (pins : Bytes)
  /-- JTAG_CLAMP (R540): The CLAMP boundary-scan instruction. -/
  | jtagClamp
  /-- JTAG_HIGHZ (R540): The HIGHZ boundary-scan instruction. -/
  | jtagHighz
  /-- MEMORY_TEST_MODE (R533): A JTAG private instruction enters memory BIST or repair access where the state permits. -/
  | memoryTestMode (enter : Bool)
  /-- FUSE_PROGRAM (R519): The JTAG fuse port programs identity, root, key or trim fuse groups in BLANK. -/
  | fuseProgram (group word : Nat) (value : Word)
  /-- ACC_COMMIT (R550): ACC_COMMIT.COMMIT checks the staged regions and copies them to the central table, opening a new epoch, or refuses. -/
  | accCommit
  /-- ACC_DISCARD (R550): ACC_COMMIT.DISCARD reloads the staging registers from the committed table. -/
  | accDiscard
  /-- COMMIT_REPLICATED (R552): The last gate takes the new rules and epoch and COMMIT_BUSY clears. -/
  | commitReplicated
  /-- ACC_FENCE_START (R554): ACC_FENCE.START records the current epoch and sets BUSY. -/
  | accFenceStart
  /-- ACC_FENCE_DONE (R554): Every gate holds the epoch and older accesses have retired; ACC_FENCE.BUSY clears. -/
  | accFenceDone
  /-- VIOLATION_CLEAR (R559): Clearing ACC_VIOL_STAT.VALID releases the violation latch and clears ACC_VIOL_MORE. -/
  | violationClear
  /-- SRAM_SCRUB (R566): Background scrubbing reads SRAM words and writes back corrected ones. -/
  | sramScrub (addr bad : Nat)
  /-- MRAM_SCRUB (R568): Each MRAM word is read every 24 h of ST and rewritten when corrected. -/
  | mramScrub (addr bad : Nat)
  /-- DDR_PATROL_SCRUB (R581): The DDR5 patrol scrub reads every line once per DDR_HOURS and rewrites corrected lines. -/
  | ddrPatrolScrub (addr : Nat) (bad : List Nat) (tagOk : Bool)
  /-- MRAM_MERGE_FLUSH (R569): Merged MRAM writes held in SRAM are written at most once per 1 ms of ST. -/
  | mramMergeFlush
  /-- PWR_STANDBY (R589): PWR_CMD STANDBY enters STANDBY when the device is quiet, or completes NOT_QUIET. -/
  | pwrStandby
  /-- STANDBY_WAKE (R590): A matching SMBus address or WARM_RST_N wakes the device from STANDBY on the power-retained path. -/
  | standbyWake (src : WakeSource)
  /-- GROVE_ENABLE (R587): Setting a PWR_GROVE_EN bit wakes the grove, which then enters CLEARING. -/
  | groveEnable (grove : Nat)
  /-- GROVE_DISABLE (R587): Clearing a PWR_GROVE_EN bit drains the grove and switches it off. -/
  | groveDisable (grove : Nat)
  /-- DOMAIN_WAKE_DONE (R586): A power domain's wake step signals ready and the next step starts. -/
  | domainWakeDone (domain : Nat)
  /-- DOMAIN_WAKE_TIMEOUT (R586): A wake step's ready signal misses twice its bound; the domain is switched off and FAULT set. -/
  | domainWakeTimeout (domain : Nat)
  /-- SUPPLY_WARNING (R596): VDD_CORE_IN falls through 0.90 V or PFAIL_N is held low; acceptance and dispatch stop and groves are gated. -/
  | supplyWarning (pfail : Bool) (mv : Nat)
  /-- SUPPLY_WARNING_CLEAR (R597): The warning clears before reset; the flush is voided and acceptance, dispatch and groves resume. -/
  | supplyWarningClear (minMv : Nat)
  /-- BOOST_VOLTAGE_DROP (R592): VDD_CORE_IN below 0.93 V for 1 µs moves every OP3 grove to OP2 within 10 µs. -/
  | boostVoltageDrop (mv : Nat)
  /-- RAIL_RESET (R594): A rail other than VDD_CORE_IN reaches its reset level and holds the device in cold reset. -/
  | railReset (rail : Nat) (mv : Nat := 0)
  /-- POWER_LOSS (R28): VDD_CORE_IN reaches 0.86 V or is lost; ST and volatile state are lost. -/
  | powerLoss
  /-- POWER_ON_RESET (R600): VDD_CORE_IN becomes valid and start-up runs the full path with ST at 0 in UNSET. -/
  | powerOnReset (vbatKept : Bool)
  /-- COLD_RESET (R600): POR_N low for 10 µs with power retained starts the power-retained path, clearing RW-L locks. -/
  | coldReset
  /-- WARM_RESET (R600): WARM_RST_N, PERST_N or a PCIe hot reset restarts on the power-retained path, parking rings. -/
  | warmReset (src : WarmSource)
  /-- FUNCTION_LEVEL_RESET (R600): A PCIe function-level reset restarts on the power-retained path with the link up. -/
  | functionLevelReset
  /-- DVFS_EVALUATION (R591): Every 100 µs of ST the governor sets each grove's operating point and applies the power cap. -/
  | dvfsEvaluation (mv watts : Nat)
  /-- MGMT_DISAGREE (R17): A management pair's cores disagree; the pair is reset and its threads move to the other pair. -/
  | mgmtDisagree (pair : Nat)
  /-- CONFIG_SAVE (R606): CFG_CMD.SAVE captures the persistent set into the older configuration block. -/
  | configSave
  /-- CONFIG_SAVE_DONE (R606): SAVE writes the check word last and completes, or ends WRITE_FAIL or SUPERSEDED. -/
  | configSaveDone (writeOk : Bool)
  /-- FUSE_LOAD (R520): Start-up stage 1 loads fuses and checks their check words. -/
  | fuseLoad (idOk rootOk : Bool)
  /-- LIFECYCLE_DECODE (R529): Start-up stage 2 decodes the life-cycle state and resumes any transition in progress. -/
  | lifecycleDecode (failStep : Option Nat)
  /-- BOOT_IMAGE_VERIFY (R603): Start-up stage 3 verifies a signed boot image or the retained image's digest. -/
  | bootImageVerify (a : BootImage) (b : BootImage := {}) (retained : Bool := false)
  /-- DDR5_TRAINING (R578): Start-up stage 4 trains DDR5 in full or exits self-refresh, and trains the PCIe link. -/
  | ddr5Training (ok : Bool)
  /-- CONFIG_LOAD (R607): Start-up stage 6 applies the newest valid configuration block, checks the key store and moves battery records. -/
  | configLoad
  /-- TIME_REF_START (R602): Start-up stage 7 starts the time references and draws the first token nonce. -/
  | timeRefStart
  /-- JOURNAL_RECOVERY (R120): Start-up stage 8 rebuilds the journal head from DDR5 or the MRAM anchor and re-dispatches or restores records. -/
  | journalRecovery
  /-- CARD_ATR_RECEIVE (R633): The card's ATR arrives after RST rises; the port becomes ACTIVE, or a T=0-only card is deactivated and reported UNSUPPORTED. -/
  | cardAtrReceive (port : Nat) (t1 : Bool)
  /-- MGMT_PAIR_RESET_DONE (R17): A management pair reset after a lockstep disagreement completes and the pair returns to service, ending FW_UNAVAILABLE behaviour. -/
  | mgmtPairResetDone (pair : Nat)
  /-- SPILL_CANCEL_RECEIVE (R426): A spill peer receives the origin's cancel for a spilled item it holds. -/
  | spillCancelReceive (peer slot : Nat)
  /-- DOMAIN_ERASE_DONE (R330): The erase of a domain's slots, record and DMK finishes, up to 1 µs of ST per slot after the command, and the domain is EMPTY with KEY_DOM_CMD_STAT.BUSY clear. -/
  | domainEraseDone
  /-- RAW_SOURCE_REATTACH (R383): A source leaving raw mode passes its 4,096-sample start-up test and is re-attached to the conditioner. -/
  | rawSourceReattach (source : Nat) (samples : List Bool := [])
  /-- ALARM_SOURCE_CLEAR (R490): A monitor source stops firing, for example a lid closed again, and its TMP_ACTIVE bit clears, so the SOURCE_ACTIVE unlock check can pass. -/
  | alarmSourceClear (source : Nat)
deriving DecidableEq, Repr

end Sys2Proof
end

