-- ==== Sys2Proof/Machine/RegMap.lean ====
section
/-! DEFINITION. The BAR0 register map (R636 to R638): the offset of every register, its access type (R5) and its
reset value, from the register tables R42, R89, R132, R134, R181, R281, R316, R361, R384, R406, R442, R463, R490,
R513, R514, R541, R561, R582, R610 and R613. A value that the table gives per unit, per fuses or as kept stands
here as 0 and is computed from the typed state (log entry 5). -/

namespace Sys2Proof.Machine

/-- Access types of R5. -/
inductive Acc where
  | ro | rw | wo | w1c | rs | rwq | rwl
deriving DecidableEq, Repr

/-- TIM_ST_LO (R42). -/
abbrev Off.timStLo : Nat := 0x10000
/-- TIM_ST_HI (R42). -/
abbrev Off.timStHi : Nat := 0x10004
/-- TIM_STATE (R42). -/
abbrev Off.timState : Nat := 0x10008
/-- TIM_ERR_EST (R42). -/
abbrev Off.timErrEst : Nat := 0x1000C
/-- TIM_REF_CFG (R42). -/
abbrev Off.timRefCfg : Nat := 0x10010
/-- TIM_HOLD_LIMIT (R42). -/
abbrev Off.timHoldLimit : Nat := 0x10014
/-- TIM_SLEW_REM_LO (R42). -/
abbrev Off.timSlewRemLo : Nat := 0x10018
/-- TIM_SLEW_REM_HI (R42). -/
abbrev Off.timSlewRemHi : Nat := 0x1001C
/-- TIM_PPS_CAP_LO (R42). -/
abbrev Off.timPpsCapLo : Nat := 0x10020
/-- TIM_PPS_CAP_HI (R42). -/
abbrev Off.timPpsCapHi : Nat := 0x10024
/-- TIM_TOKEN_NONCE_LO (R42). -/
abbrev Off.timTokenNonceLo : Nat := 0x10028
/-- TIM_TOKEN_NONCE_HI (R42). -/
abbrev Off.timTokenNonceHi : Nat := 0x1002C
/-- TIM_TOKEN_ADDR_LO (R42). -/
abbrev Off.timTokenAddrLo : Nat := 0x10030
/-- TIM_TOKEN_ADDR_HI (R42). -/
abbrev Off.timTokenAddrHi : Nat := 0x10034
/-- TIM_TOKEN_CTRL (R42). -/
abbrev Off.timTokenCtrl : Nat := 0x10038
/-- TIM_TOKEN_STAT (R42). -/
abbrev Off.timTokenStat : Nat := 0x1003C
/-- TIM_TA_HANDLE_LO (R42). -/
abbrev Off.timTaHandleLo : Nat := 0x10040
/-- TIM_TA_HANDLE_HI (R42). -/
abbrev Off.timTaHandleHi : Nat := 0x10044
/-- TIM_SET_VALUE_LO (R42). -/
abbrev Off.timSetValueLo : Nat := 0x10048
/-- TIM_SET_VALUE_HI (R42). -/
abbrev Off.timSetValueHi : Nat := 0x1004C
/-- TIM_SET_CTRL (R42). -/
abbrev Off.timSetCtrl : Nat := 0x10050
/-- TIM_FENCE (R42). -/
abbrev Off.timFence : Nat := 0x10054
/-- TIM_EVT (R42). -/
abbrev Off.timEvt : Nat := 0x10058
/-- HIF_DEV_REV (R89). -/
abbrev Off.hifDevRev : Nat := 0x0
/-- HIF_RING_SEL (R89). -/
abbrev Off.hifRingSel : Nat := 0x10
/-- HIF_RING_CMD (R89). -/
abbrev Off.hifRingCmd : Nat := 0x14
/-- HIF_RING_CMD_STAT (R89). -/
abbrev Off.hifRingCmdStat : Nat := 0x18
/-- HIF_SQ_BASE_LO (R89). -/
abbrev Off.hifSqBaseLo : Nat := 0x20
/-- HIF_SQ_BASE_HI (R89). -/
abbrev Off.hifSqBaseHi : Nat := 0x24
/-- HIF_CQ_BASE_LO (R89). -/
abbrev Off.hifCqBaseLo : Nat := 0x28
/-- HIF_CQ_BASE_HI (R89). -/
abbrev Off.hifCqBaseHi : Nat := 0x2C
/-- HIF_HWB_ADDR_LO (R89). -/
abbrev Off.hifHwbAddrLo : Nat := 0x30
/-- HIF_HWB_ADDR_HI (R89). -/
abbrev Off.hifHwbAddrHi : Nat := 0x34
/-- HIF_RING_SIZE (R89). -/
abbrev Off.hifRingSize : Nat := 0x38
/-- HIF_RING_IRQ (R89). -/
abbrev Off.hifRingIrq : Nat := 0x3C
/-- HIF_RING_MOD (R89). -/
abbrev Off.hifRingMod : Nat := 0x40
/-- HIF_RING_POLICY (R89). -/
abbrev Off.hifRingPolicy : Nat := 0x44
/-- HIF_RING_STATE (R89). -/
abbrev Off.hifRingState : Nat := 0x48
/-- HIF_RING_ACCEPTED (R89). -/
abbrev Off.hifRingAccepted : Nat := 0x4C
/-- HIF_RING_POSTED (R89). -/
abbrev Off.hifRingPosted : Nat := 0x50
/-- HIF_RING_CONSUMED (R89). -/
abbrev Off.hifRingConsumed : Nat := 0x54
/-- HIF_RING_FAULT_ADDR_LO (R89). -/
abbrev Off.hifRingFaultAddrLo : Nat := 0x58
/-- HIF_RING_FAULT_ADDR_HI (R89). -/
abbrev Off.hifRingFaultAddrHi : Nat := 0x5C
/-- HIF_EVT (R89). -/
abbrev Off.hifEvt : Nat := 0x60
/-- HIF_EVT_EN (R89). -/
abbrev Off.hifEvtEn : Nat := 0x64
/-- HIF_EVT_RING (R89). -/
abbrev Off.hifEvtRing : Nat := 0x68
/-- HIF_RINGS_FREE (R89). -/
abbrev Off.hifRingsFree : Nat := 0x6C
/-- JNL_STAT (R132). -/
abbrev Off.jnlStat : Nat := 0x20000
/-- JNL_NEXT_SEQ_LO (R132). -/
abbrev Off.jnlNextSeqLo : Nat := 0x20008
/-- JNL_NEXT_SEQ_HI (R132). -/
abbrev Off.jnlNextSeqHi : Nat := 0x2000C
/-- JNL_OLDEST_SEQ_LO (R132). -/
abbrev Off.jnlOldestSeqLo : Nat := 0x20010
/-- JNL_OLDEST_SEQ_HI (R132). -/
abbrev Off.jnlOldestSeqHi : Nat := 0x20014
/-- JNL_BODY_BASE_LO (R132). -/
abbrev Off.jnlBodyBaseLo : Nat := 0x20018
/-- JNL_BODY_BASE_HI (R132). -/
abbrev Off.jnlBodyBaseHi : Nat := 0x2001C
/-- JNL_ANCHOR_STAT (R132). -/
abbrev Off.jnlAnchorStat : Nat := 0x20020
/-- JNL_ANCHOR_RECS (R132). -/
abbrev Off.jnlAnchorRecs : Nat := 0x20024
/-- JNL_RECOVER_CTRL (R132). -/
abbrev Off.jnlRecoverCtrl : Nat := 0x20028
/-- JNL_RECOVER_STAT (R132). -/
abbrev Off.jnlRecoverStat : Nat := 0x2002C
/-- JNL_WIN_CURSOR (R132). -/
abbrev Off.jnlWinCursor : Nat := 0x20030
/-- JNL_MIRROR_LAT (R132). -/
abbrev Off.jnlMirrorLat : Nat := 0x20034
/-- JNL_EVT (R132). -/
abbrev Off.jnlEvt : Nat := 0x20038
/-- JNL_EVT_EN (R132). -/
abbrev Off.jnlEvtEn : Nat := 0x2003C
/-- JNL_WIN (R132). -/
abbrev Off.jnlWin : Nat := 0x21000
/-- DDT_BASE_LO (R134). -/
abbrev Off.ddtBaseLo : Nat := 0x30000
/-- DDT_BASE_HI (R134). -/
abbrev Off.ddtBaseHi : Nat := 0x30004
/-- DDT_SIZE (R134). -/
abbrev Off.ddtSize : Nat := 0x30008
/-- DDT_RETAIN (R134). -/
abbrev Off.ddtRetain : Nat := 0x3000C
/-- DDT_STAT (R134). -/
abbrev Off.ddtStat : Nat := 0x30010
/-- DDT_LIVE (R134). -/
abbrev Off.ddtLive : Nat := 0x30014
/-- DDT_CAPACITY (R134). -/
abbrev Off.ddtCapacity : Nat := 0x30018
/-- DDT_ATTACH (R134). -/
abbrev Off.ddtAttach : Nat := 0x3001C
/-- DDT_REPLAY (R134). -/
abbrev Off.ddtReplay : Nat := 0x30020
/-- DDT_EVICT (R134). -/
abbrev Off.ddtEvict : Nat := 0x30024
/-- DDT_STALL_US (R134). -/
abbrev Off.ddtStallUs : Nat := 0x30028
/-- DDT_EVT (R134). -/
abbrev Off.ddtEvt : Nat := 0x3002C
/-- DDT_EVT_EN (R134). -/
abbrev Off.ddtEvtEn : Nat := 0x30030
/-- DSP_STAT (R181). -/
abbrev Off.dspStat : Nat := 0x40000
/-- DSP_GROVE_MASK (R181). -/
abbrev Off.dspGroveMask : Nat := 0x40004
/-- DSP_GROVE_STATE (R181). -/
abbrev Off.dspGroveState : Nat := 0x40008
/-- DSP_PLACE_CTRL (R181). -/
abbrev Off.dspPlaceCtrl : Nat := 0x4000C
/-- DSP_PREEMPT_CTRL (R181). -/
abbrev Off.dspPreemptCtrl : Nat := 0x40010
/-- DSP_REEF_CTRL (R181). -/
abbrev Off.dspReefCtrl : Nat := 0x40014
/-- DSP_BACKLOG (R181). -/
abbrev Off.dspBacklog : Nat := 0x40018
/-- DSP_REEF_L1_CNT (R181). -/
abbrev Off.dspReefL1Cnt : Nat := 0x4001C
/-- DSP_REEF_L2_CNT (R181). -/
abbrev Off.dspReefL2Cnt : Nat := 0x40020
/-- DSP_REEF_L3_CNT (R181). -/
abbrev Off.dspReefL3Cnt : Nat := 0x40024
/-- DSP_REEF_L3_US (R181). -/
abbrev Off.dspReefL3Us : Nat := 0x40028
/-- DSP_EXPIRED (R181). -/
abbrev Off.dspExpired : Nat := 0x4002C
/-- DSP_LATE (R181). -/
abbrev Off.dspLate : Nat := 0x40030
/-- DSP_PREEMPTS (R181). -/
abbrev Off.dspPreempts : Nat := 0x40034
/-- DSP_DELAY_STAT (R181). -/
abbrev Off.dspDelayStat : Nat := 0x40038
/-- DSP_FLOW_STAT (R181). -/
abbrev Off.dspFlowStat : Nat := 0x4003C
/-- DSP_CHAIN_STAT (R181). -/
abbrev Off.dspChainStat : Nat := 0x40040
/-- DSP_FW_MISS (R181). -/
abbrev Off.dspFwMiss : Nat := 0x40044
/-- DSP_GROVE_SEL (R181). -/
abbrev Off.dspGroveSel : Nat := 0x40048
/-- DSP_GROVE_DEPTH (R181). -/
abbrev Off.dspGroveDepth : Nat := 0x4004C
/-- DSP_GROVE_WAIT (R181). -/
abbrev Off.dspGroveWait : Nat := 0x40050
/-- DSP_LANE_SEL (R181). -/
abbrev Off.dspLaneSel : Nat := 0x40054
/-- DSP_BUSY_LO (R181). -/
abbrev Off.dspBusyLo : Nat := 0x40058
/-- DSP_BUSY_HI (R181). -/
abbrev Off.dspBusyHi : Nat := 0x4005C
/-- DSP_SLICE_SEL (R181). -/
abbrev Off.dspSliceSel : Nat := 0x40060
/-- DSP_SLICE_DEPTH (R181). -/
abbrev Off.dspSliceDepth : Nat := 0x40064
/-- DSP_SLICE_HIST_CTRL (R181). -/
abbrev Off.dspSliceHistCtrl : Nat := 0x40068
/-- DSP_EVT (R181). -/
abbrev Off.dspEvt : Nat := 0x4006C
/-- DSP_EVT_EN (R181). -/
abbrev Off.dspEvtEn : Nat := 0x40070
/-- DSP_SLICE_HIST(b) (R181). -/
abbrev Off.dspSliceHist : Nat := 0x40080
/-- LAN_STAT (R281). -/
abbrev Off.lanStat : Nat := 0x50000
/-- LAN_UCODE_REV (R281). -/
abbrev Off.lanUcodeRev : Nat := 0x50004
/-- LAN_CLEAR_CTRL (R281). -/
abbrev Off.lanClearCtrl : Nat := 0x50008
/-- LAN_CLEAR_CMD (R281). -/
abbrev Off.lanClearCmd : Nat := 0x5000C
/-- LAN_CLEAR_CMD_STAT (R281). -/
abbrev Off.lanClearCmdStat : Nat := 0x50010
/-- LAN_TWIN_SEL (R281). -/
abbrev Off.lanTwinSel : Nat := 0x50014
/-- LAN_TWIN_STATE (R281). -/
abbrev Off.lanTwinState : Nat := 0x50018
/-- LAN_GROVE_SEL (R281). -/
abbrev Off.lanGroveSel : Nat := 0x50020
/-- LAN_GROVE_INFO (R281). -/
abbrev Off.lanGroveInfo : Nat := 0x50024
/-- LAN_MGEN_REMAIN (R281). -/
abbrev Off.lanMgenRemain : Nat := 0x50028
/-- LAN_MGEN_RESEEDS (R281). -/
abbrev Off.lanMgenReseeds : Nat := 0x5002C
/-- LAN_MM_TOTAL (R281). -/
abbrev Off.lanMmTotal : Nat := 0x50030
/-- LAN_MM_WINDOW (R281). -/
abbrev Off.lanMmWindow : Nat := 0x50034
/-- LAN_LAST_MM (R281). -/
abbrev Off.lanLastMm : Nat := 0x50038
/-- LAN_LAST_MM_ST_LO (R281). -/
abbrev Off.lanLastMmStLo : Nat := 0x5003C
/-- LAN_LAST_MM_ST_HI (R281). -/
abbrev Off.lanLastMmStHi : Nat := 0x50040
/-- LAN_RESTARTS (R281). -/
abbrev Off.lanRestarts : Nat := 0x50044
/-- LAN_INTFAULT (R281). -/
abbrev Off.lanIntfault : Nat := 0x50048
/-- LAN_CTX_USED (R281). -/
abbrev Off.lanCtxUsed : Nat := 0x5004C
/-- LAN_EVT (R281). -/
abbrev Off.lanEvt : Nat := 0x50050
/-- LAN_EVT_EN (R281). -/
abbrev Off.lanEvtEn : Nat := 0x50054
/-- PKE_STAT (R316). -/
abbrev Off.pkeStat : Nat := 0x60000
/-- PKE_ENG_SEL (R316). -/
abbrev Off.pkeEngSel : Nat := 0x60004
/-- PKE_ENG_STATE (R316). -/
abbrev Off.pkeEngState : Nat := 0x60008
/-- PKE_ENG_QUEUE (R316). -/
abbrev Off.pkeEngQueue : Nat := 0x6000C
/-- PKE_ABORT_SLICE (R316). -/
abbrev Off.pkeAbortSlice : Nat := 0x60010
/-- PKE_ABORT_ID_LO (R316). -/
abbrev Off.pkeAbortIdLo : Nat := 0x60014
/-- PKE_ABORT_ID_HI (R316). -/
abbrev Off.pkeAbortIdHi : Nat := 0x60018
/-- PKE_ABORT_CMD (R316). -/
abbrev Off.pkeAbortCmd : Nat := 0x6001C
/-- PKE_ABORT_STAT (R316). -/
abbrev Off.pkeAbortStat : Nat := 0x60020
/-- PKE_CLEAR_CMD (R316). -/
abbrev Off.pkeClearCmd : Nat := 0x60024
/-- PKE_CLEAR_CMD_STAT (R316). -/
abbrev Off.pkeClearCmdStat : Nat := 0x60028
/-- PKE_FAULTS (R316). -/
abbrev Off.pkeFaults : Nat := 0x6002C
/-- PKE_ABORTS (R316). -/
abbrev Off.pkeAborts : Nat := 0x60030
/-- PKE_LAST_FAULT (R316). -/
abbrev Off.pkeLastFault : Nat := 0x60034
/-- PKE_INVALID (R316). -/
abbrev Off.pkeInvalid : Nat := 0x60038
/-- PKE_EVT (R316). -/
abbrev Off.pkeEvt : Nat := 0x6003C
/-- PKE_EVT_EN (R316). -/
abbrev Off.pkeEvtEn : Nat := 0x60040
/-- KEY_STAT (R361). -/
abbrev Off.keyStat : Nat := 0x70000
/-- KEY_SEL_DOMAIN (R361). -/
abbrev Off.keySelDomain : Nat := 0x70004
/-- KEY_SEL_SLOT (R361). -/
abbrev Off.keySelSlot : Nat := 0x70008
/-- KEY_SLOT_CMD (R361). -/
abbrev Off.keySlotCmd : Nat := 0x7000C
/-- KEY_SLOT_CMD_STAT (R361). -/
abbrev Off.keySlotCmdStat : Nat := 0x70010
/-- KEY_EXP_KCV_LO (R361). -/
abbrev Off.keyExpKcvLo : Nat := 0x70014
/-- KEY_EXP_KCV_HI (R361). -/
abbrev Off.keyExpKcvHi : Nat := 0x70018
/-- KEY_WIN_NB_LO (R361). -/
abbrev Off.keyWinNbLo : Nat := 0x7001C
/-- KEY_WIN_NB_HI (R361). -/
abbrev Off.keyWinNbHi : Nat := 0x70020
/-- KEY_WIN_NA_LO (R361). -/
abbrev Off.keyWinNaLo : Nat := 0x70024
/-- KEY_WIN_NA_HI (R361). -/
abbrev Off.keyWinNaHi : Nat := 0x70028
/-- KEY_SLOT_INFO (R361). -/
abbrev Off.keySlotInfo : Nat := 0x7002C
/-- KEY_SLOT_GEN (R361). -/
abbrev Off.keySlotGen : Nat := 0x70030
/-- KEY_DOM_STAT (R361). -/
abbrev Off.keyDomStat : Nat := 0x70034
/-- KEY_DOM_GEN (R361). -/
abbrev Off.keyDomGen : Nat := 0x70038
/-- KEY_DOM_USE (R361). -/
abbrev Off.keyDomUse : Nat := 0x7003C
/-- KEY_DOM_QUOTA (R361). -/
abbrev Off.keyDomQuota : Nat := 0x70040
/-- KEY_DOM_CMD (R361). -/
abbrev Off.keyDomCmd : Nat := 0x70044
/-- KEY_DOM_ERASE (R361). -/
abbrev Off.keyDomErase : Nat := 0x70048
/-- KEY_DOM_CMD_STAT (R361). -/
abbrev Off.keyDomCmdStat : Nat := 0x7004C
/-- KEY_FENCE (R361). -/
abbrev Off.keyFence : Nat := 0x70050
/-- KEY_STORE_CMD (R361). -/
abbrev Off.keyStoreCmd : Nat := 0x70054
/-- KEY_STORE_STAT (R361). -/
abbrev Off.keyStoreStat : Nat := 0x70058
/-- KEY_STORE_SLOTS (R361). -/
abbrev Off.keyStoreSlots : Nat := 0x7005C
/-- KEY_STORE_EXT (R361). -/
abbrev Off.keyStoreExt : Nat := 0x70060
/-- KEY_CACHE_SEL (R361). -/
abbrev Off.keyCacheSel : Nat := 0x70064
/-- KEY_CACHE_STAT (R361). -/
abbrev Off.keyCacheStat : Nat := 0x70068
/-- KEY_CACHE_HITS (R361). -/
abbrev Off.keyCacheHits : Nat := 0x7006C
/-- KEY_CACHE_MISSES (R361). -/
abbrev Off.keyCacheMisses : Nat := 0x70070
/-- KEY_LOAD_FAIL (R361). -/
abbrev Off.keyLoadFail : Nat := 0x70074
/-- KEY_EVT (R361). -/
abbrev Off.keyEvt : Nat := 0x70078
/-- KEY_EVT_EN (R361). -/
abbrev Off.keyEvtEn : Nat := 0x7007C
/-- KEY_ID_CERT (R361). -/
abbrev Off.keyIdCert : Nat := 0x71000
/-- RNG_STAT (R384). -/
abbrev Off.rngStat : Nat := 0x80000
/-- RNG_CTRL (R384). -/
abbrev Off.rngCtrl : Nat := 0x80004
/-- RNG_CMD_STAT (R384). -/
abbrev Off.rngCmdStat : Nat := 0x80008
/-- RNG_RESEED_CTRL (R384). -/
abbrev Off.rngReseedCtrl : Nat := 0x8000C
/-- RNG_SRC_SEL (R384). -/
abbrev Off.rngSrcSel : Nat := 0x80010
/-- RNG_SRC_STAT (R384). -/
abbrev Off.rngSrcStat : Nat := 0x80014
/-- RNG_SRC_BIAS (R384). -/
abbrev Off.rngSrcBias : Nat := 0x80018
/-- RNG_SRC_CORR (R384). -/
abbrev Off.rngSrcCorr : Nat := 0x8001C
/-- RNG_SRC_FAILS (R384). -/
abbrev Off.rngSrcFails : Nat := 0x80020
/-- RNG_DRBG_SEL (R384). -/
abbrev Off.rngDrbgSel : Nat := 0x80024
/-- RNG_DRBG_STAT (R384). -/
abbrev Off.rngDrbgStat : Nat := 0x80028
/-- RNG_DRBG_REQS (R384). -/
abbrev Off.rngDrbgReqs : Nat := 0x8002C
/-- RNG_DRBG_RESEEDS (R384). -/
abbrev Off.rngDrbgReseeds : Nat := 0x80030
/-- RNG_DRBG_STRETCHED (R384). -/
abbrev Off.rngDrbgStretched : Nat := 0x80034
/-- RNG_FAIL_ST_LO (R384). -/
abbrev Off.rngFailStLo : Nat := 0x80038
/-- RNG_FAIL_ST_HI (R384). -/
abbrev Off.rngFailStHi : Nat := 0x8003C
/-- RNG_RAW_CTRL (R384). -/
abbrev Off.rngRawCtrl : Nat := 0x80040
/-- RNG_RAW_DATA (R384). -/
abbrev Off.rngRawData : Nat := 0x80044
/-- RNG_RAW_STAT (R384). -/
abbrev Off.rngRawStat : Nat := 0x80048
/-- RNG_EVT (R384). -/
abbrev Off.rngEvt : Nat := 0x8004C
/-- RNG_EVT_EN (R384). -/
abbrev Off.rngEvtEn : Nat := 0x80050
/-- HIF_SLICE_SEL (R406). -/
abbrev Off.hifSliceSel : Nat := 0x100
/-- HIF_SLICE_PASID (R406). -/
abbrev Off.hifSlicePasid : Nat := 0x104
/-- HIF_SLICE_CFG (R406). -/
abbrev Off.hifSliceCfg : Nat := 0x108
/-- HIF_SLICE_RINGS (R406). -/
abbrev Off.hifSliceRings : Nat := 0x10C
/-- HIF_SLICE_CMD (R406). -/
abbrev Off.hifSliceCmd : Nat := 0x110
/-- HIF_SLICE_CMD_STAT (R406). -/
abbrev Off.hifSliceCmdStat : Nat := 0x114
/-- HIF_SLICE_STATE (R406). -/
abbrev Off.hifSliceState : Nat := 0x118
/-- HIF_MIG_ADDR_LO (R406). -/
abbrev Off.hifMigAddrLo : Nat := 0x11C
/-- HIF_MIG_ADDR_HI (R406). -/
abbrev Off.hifMigAddrHi : Nat := 0x120
/-- HIF_MIG_LEN (R406). -/
abbrev Off.hifMigLen : Nat := 0x124
/-- HIF_MIG_NEED (R406). -/
abbrev Off.hifMigNeed : Nat := 0x128
/-- HIF_MIG_CTRL (R406). -/
abbrev Off.hifMigCtrl : Nat := 0x12C
/-- HIF_MIG_KEY_LO (R406). -/
abbrev Off.hifMigKeyLo : Nat := 0x130
/-- HIF_MIG_KEY_HI (R406). -/
abbrev Off.hifMigKeyHi : Nat := 0x134
/-- HIF_MIG_TARGET_UID(i) (R406). -/
abbrev Off.hifMigTargetUid : Nat := 0x138
/-- HIF_MIG_NONCE_LO (R406). -/
abbrev Off.hifMigNonceLo : Nat := 0x148
/-- HIF_MIG_NONCE_HI (R406). -/
abbrev Off.hifMigNonceHi : Nat := 0x14C
/-- HIF_SLICE_EVT (R406). -/
abbrev Off.hifSliceEvt : Nat := 0x150
/-- HIF_SLICE_EVT_EN (R406). -/
abbrev Off.hifSliceEvtEn : Nat := 0x154
/-- FAB_STAT (R442). -/
abbrev Off.fabStat : Nat := 0x120000
/-- FAB_CTRL (R442). -/
abbrev Off.fabCtrl : Nat := 0x120004
/-- FAB_NODE_ID (R442). -/
abbrev Off.fabNodeId : Nat := 0x120008
/-- FAB_DISC_CTRL (R442). -/
abbrev Off.fabDiscCtrl : Nat := 0x12000C
/-- FAB_PORT_SEL (R442). -/
abbrev Off.fabPortSel : Nat := 0x120010
/-- FAB_PORT_STAT (R442). -/
abbrev Off.fabPortStat : Nat := 0x120014
/-- FAB_PORT_RETRY (R442). -/
abbrev Off.fabPortRetry : Nat := 0x120018
/-- FAB_ROUTE_CTRL (R442). -/
abbrev Off.fabRouteCtrl : Nat := 0x12001C
/-- FAB_ROUTE_STAT (R442). -/
abbrev Off.fabRouteStat : Nat := 0x120020
/-- FAB_FLOODED (R442). -/
abbrev Off.fabFlooded : Nat := 0x120024
/-- FAB_DROPPED (R442). -/
abbrev Off.fabDropped : Nat := 0x120028
/-- FAB_NODE_CURSOR (R442). -/
abbrev Off.fabNodeCursor : Nat := 0x12002C
/-- FAB_SPILL_CTRL (R442). -/
abbrev Off.fabSpillCtrl : Nat := 0x120030
/-- FAB_SPILL_STAT (R442). -/
abbrev Off.fabSpillStat : Nat := 0x120034
/-- FAB_SPILL_LOST (R442). -/
abbrev Off.fabSpillLost : Nat := 0x120038
/-- FAB_REPL_SEL (R442). -/
abbrev Off.fabReplSel : Nat := 0x12003C
/-- FAB_REPL_CTRL (R442). -/
abbrev Off.fabReplCtrl : Nat := 0x120040
/-- FAB_REPL_STAT (R442). -/
abbrev Off.fabReplStat : Nat := 0x120044
/-- FAB_PAIR_CTRL (R442). -/
abbrev Off.fabPairCtrl : Nat := 0x120048
/-- FAB_PAIR_DEMOTE (R442). -/
abbrev Off.fabPairDemote : Nat := 0x12004C
/-- FAB_PAIR_UID(i) (R442). -/
abbrev Off.fabPairUid : Nat := 0x120050
/-- FAB_WITNESS_ADDR_LO (R442). -/
abbrev Off.fabWitnessAddrLo : Nat := 0x120060
/-- FAB_WITNESS_ADDR_HI (R442). -/
abbrev Off.fabWitnessAddrHi : Nat := 0x120064
/-- FAB_PAIR_CMD (R442). -/
abbrev Off.fabPairCmd : Nat := 0x120068
/-- FAB_PAIR_CMD_STAT (R442). -/
abbrev Off.fabPairCmdStat : Nat := 0x12006C
/-- FAB_PAIR_STAT (R442). -/
abbrev Off.fabPairStat : Nat := 0x120070
/-- FAB_PAIR_EPOCH_LO (R442). -/
abbrev Off.fabPairEpochLo : Nat := 0x120074
/-- FAB_PAIR_EPOCH_HI (R442). -/
abbrev Off.fabPairEpochHi : Nat := 0x120078
/-- FAB_PAIR_OFFSET_LO (R442). -/
abbrev Off.fabPairOffsetLo : Nat := 0x12007C
/-- FAB_PAIR_OFFSET_HI (R442). -/
abbrev Off.fabPairOffsetHi : Nat := 0x120080
/-- FAB_EVT (R442). -/
abbrev Off.fabEvt : Nat := 0x120084
/-- FAB_EVT_EN (R442). -/
abbrev Off.fabEvtEn : Nat := 0x120088
/-- FAB_SPILL_PEER(i) (R442). -/
abbrev Off.fabSpillPeer : Nat := 0x1200A0
/-- FAB_NODE_WIN (R442). -/
abbrev Off.fabNodeWin : Nat := 0x121000
/-- CUS_STAT (R463). -/
abbrev Off.cusStat : Nat := 0x90000
/-- CUS_PORT_CTRL (R463). -/
abbrev Off.cusPortCtrl : Nat := 0x90004
/-- CUS_CER_SEL (R463). -/
abbrev Off.cusCerSel : Nat := 0x90008
/-- CUS_CER_CFG (R463). -/
abbrev Off.cusCerCfg : Nat := 0x90010
/-- CUS_CER_CMD (R463). -/
abbrev Off.cusCerCmd : Nat := 0x90014
/-- CUS_CER_CMD_STAT (R463). -/
abbrev Off.cusCerCmdStat : Nat := 0x90018
/-- CUS_CER_STATE (R463). -/
abbrev Off.cusCerState : Nat := 0x9001C
/-- CUS_PARAM_ADDR_LO (R463). -/
abbrev Off.cusParamAddrLo : Nat := 0x90020
/-- CUS_PARAM_ADDR_HI (R463). -/
abbrev Off.cusParamAddrHi : Nat := 0x90024
/-- CUS_PARAM_LEN (R463). -/
abbrev Off.cusParamLen : Nat := 0x90028
/-- CUS_RESP_ADDR_LO (R463). -/
abbrev Off.cusRespAddrLo : Nat := 0x9002C
/-- CUS_RESP_ADDR_HI (R463). -/
abbrev Off.cusRespAddrHi : Nat := 0x90030
/-- CUS_CER_ID_LO (R463). -/
abbrev Off.cusCerIdLo : Nat := 0x90034
/-- CUS_CER_ID_HI (R463). -/
abbrev Off.cusCerIdHi : Nat := 0x90038
/-- CUS_WINDOW (R463). -/
abbrev Off.cusWindow : Nat := 0x9003C
/-- CUS_SCOPE_SEL (R463). -/
abbrev Off.cusScopeSel : Nat := 0x90040
/-- CUS_SCOPE_STAT (R463). -/
abbrev Off.cusScopeStat : Nat := 0x90044
/-- CUS_POLICY(c) (R463). -/
abbrev Off.cusPolicy : Nat := 0x90048
/-- CUS_EVT (R463). -/
abbrev Off.cusEvt : Nat := 0x90088
/-- CUS_EVT_EN (R463). -/
abbrev Off.cusEvtEn : Nat := 0x9008C
/-- CUS_CHAL (R463). -/
abbrev Off.cusChal : Nat := 0x91000
/-- CUS_ROSTER (R463). -/
abbrev Off.cusRoster : Nat := 0x92000
/-- TMP_STAT (R490). -/
abbrev Off.tmpStat : Nat := 0xA0000
/-- TMP_CTRL (R490). -/
abbrev Off.tmpCtrl : Nat := 0xA0004
/-- TMP_ACTIVE (R490). -/
abbrev Off.tmpActive : Nat := 0xA0008
/-- TMP_LATCHED (R490). -/
abbrev Off.tmpLatched : Nat := 0xA000C
/-- TMP_NOTIFY (R490). -/
abbrev Off.tmpNotify : Nat := 0xA0010
/-- TMP_SRC_SEL (R490). -/
abbrev Off.tmpSrcSel : Nat := 0xA0014
/-- TMP_SRC_CFG (R490). -/
abbrev Off.tmpSrcCfg : Nat := 0xA0018
/-- TMP_SRC_COUNT (R490). -/
abbrev Off.tmpSrcCount : Nat := 0xA001C
/-- TMP_LAST_ST_LO (R490). -/
abbrev Off.tmpLastStLo : Nat := 0xA0020
/-- TMP_LAST_ST_HI (R490). -/
abbrev Off.tmpLastStHi : Nat := 0xA0024
/-- TMP_CMD (R490). -/
abbrev Off.tmpCmd : Nat := 0xA0028
/-- TMP_UNLOCK (R490). -/
abbrev Off.tmpUnlock : Nat := 0xA002C
/-- TMP_UNLOCK_STAT (R490). -/
abbrev Off.tmpUnlockStat : Nat := 0xA0030
/-- TMP_UNLOCK_NONCE_LO (R490). -/
abbrev Off.tmpUnlockNonceLo : Nat := 0xA0034
/-- TMP_UNLOCK_NONCE_HI (R490). -/
abbrev Off.tmpUnlockNonceHi : Nat := 0xA0038
/-- TMP_TOKEN_ADDR_LO (R490). -/
abbrev Off.tmpTokenAddrLo : Nat := 0xA003C
/-- TMP_TOKEN_ADDR_HI (R490). -/
abbrev Off.tmpTokenAddrHi : Nat := 0xA0040
/-- TMP_TOKEN_CTRL (R490). -/
abbrev Off.tmpTokenCtrl : Nat := 0xA0044
/-- TMP_TOKEN_STAT (R490). -/
abbrev Off.tmpTokenStat : Nat := 0xA0048
/-- TMP_TEMP (R490). -/
abbrev Off.tmpTemp : Nat := 0xA004C
/-- TMP_VBAT (R490). -/
abbrev Off.tmpVbat : Nat := 0xA0050
/-- TMP_RTC_LO (R490). -/
abbrev Off.tmpRtcLo : Nat := 0xA0054
/-- TMP_RTC_HI (R490). -/
abbrev Off.tmpRtcHi : Nat := 0xA0058
/-- TMP_BATT_STAT (R490). -/
abbrev Off.tmpBattStat : Nat := 0xA005C
/-- TMP_EVT (R490). -/
abbrev Off.tmpEvt : Nat := 0xA0060
/-- TMP_EVT_EN (R490). -/
abbrev Off.tmpEvtEn : Nat := 0xA0064
/-- EVL_STAT (R513). -/
abbrev Off.evlStat : Nat := 0xB0000
/-- EVL_CURSOR (R513). -/
abbrev Off.evlCursor : Nat := 0xB0004
/-- EVL_QUEUE_LOST (R513). -/
abbrev Off.evlQueueLost : Nat := 0xB0008
/-- EVL_EXPORT_ADDR_LO (R513). -/
abbrev Off.evlExportAddrLo : Nat := 0xB000C
/-- EVL_EXPORT_ADDR_HI (R513). -/
abbrev Off.evlExportAddrHi : Nat := 0xB0010
/-- EVL_EXPORT_NONCE_LO (R513). -/
abbrev Off.evlExportNonceLo : Nat := 0xB0014
/-- EVL_EXPORT_NONCE_HI (R513). -/
abbrev Off.evlExportNonceHi : Nat := 0xB0018
/-- EVL_EXPORT_CMD (R513). -/
abbrev Off.evlExportCmd : Nat := 0xB001C
/-- EVL_EXPORT_STAT (R513). -/
abbrev Off.evlExportStat : Nat := 0xB0020
/-- EVL_EVT (R513). -/
abbrev Off.evlEvt : Nat := 0xB0024
/-- EVL_EVT_EN (R513). -/
abbrev Off.evlEvtEn : Nat := 0xB0028
/-- EVL_WIN (R513). -/
abbrev Off.evlWin : Nat := 0xB1000
/-- ERC_STAT (R514). -/
abbrev Off.ercStat : Nat := 0xC0000
/-- ERC_CTRL (R514). -/
abbrev Off.ercCtrl : Nat := 0xC0004
/-- ERC_CMD (R514). -/
abbrev Off.ercCmd : Nat := 0xC0008
/-- ERC_MARK (R514). -/
abbrev Off.ercMark : Nat := 0xC000C
/-- ERC_CLEAR (R514). -/
abbrev Off.ercClear : Nat := 0xC0010
/-- ERC_TRIG_SEL (R514). -/
abbrev Off.ercTrigSel : Nat := 0xC0014
/-- ERC_TRIG_CFG (R514). -/
abbrev Off.ercTrigCfg : Nat := 0xC0018
/-- ERC_SNAP_SEL (R514). -/
abbrev Off.ercSnapSel : Nat := 0xC001C
/-- ERC_SNAP (R514). -/
abbrev Off.ercSnap : Nat := 0xC0020
/-- ERC_CURSOR (R514). -/
abbrev Off.ercCursor : Nat := 0xC0024
/-- ERC_LOST (R514). -/
abbrev Off.ercLost : Nat := 0xC0028
/-- ERC_EVT (R514). -/
abbrev Off.ercEvt : Nat := 0xC002C
/-- ERC_EVT_EN (R514). -/
abbrev Off.ercEvtEn : Nat := 0xC0030
/-- ERC_WIN (R514). -/
abbrev Off.ercWin : Nat := 0xC1000
/-- LCS_STAT (R541). -/
abbrev Off.lcsStat : Nat := 0xD0000
/-- LCS_UNIT_ID(i) (R541). -/
abbrev Off.lcsUnitId : Nat := 0xD0004
/-- LCS_REQ_ADDR_LO (R541). -/
abbrev Off.lcsReqAddrLo : Nat := 0xD0014
/-- LCS_REQ_ADDR_HI (R541). -/
abbrev Off.lcsReqAddrHi : Nat := 0xD0018
/-- LCS_REQ_CTRL (R541). -/
abbrev Off.lcsReqCtrl : Nat := 0xD001C
/-- LCS_REQ_STAT (R541). -/
abbrev Off.lcsReqStat : Nat := 0xD0020
/-- LCS_GO (R541). -/
abbrev Off.lcsGo : Nat := 0xD0024
/-- LCS_GO_STAT (R541). -/
abbrev Off.lcsGoStat : Nat := 0xD0028
/-- LCS_DBG_REQ (R541). -/
abbrev Off.lcsDbgReq : Nat := 0xD002C
/-- LCS_DBG_CMD (R541). -/
abbrev Off.lcsDbgCmd : Nat := 0xD0030
/-- LCS_DBG_TOKEN_ADDR_LO (R541). -/
abbrev Off.lcsDbgTokenAddrLo : Nat := 0xD0034
/-- LCS_DBG_TOKEN_ADDR_HI (R541). -/
abbrev Off.lcsDbgTokenAddrHi : Nat := 0xD0038
/-- LCS_DBG_TOKEN_CTRL (R541). -/
abbrev Off.lcsDbgTokenCtrl : Nat := 0xD003C
/-- LCS_DBG_STAT (R541). -/
abbrev Off.lcsDbgStat : Nat := 0xD0040
/-- LCS_DBG_OPEN (R541). -/
abbrev Off.lcsDbgOpen : Nat := 0xD0044
/-- LCS_DBG_EXPIRY_LO (R541). -/
abbrev Off.lcsDbgExpiryLo : Nat := 0xD0048
/-- LCS_DBG_EXPIRY_HI (R541). -/
abbrev Off.lcsDbgExpiryHi : Nat := 0xD004C
/-- LCS_EVT (R541). -/
abbrev Off.lcsEvt : Nat := 0xD0050
/-- LCS_EVT_EN (R541). -/
abbrev Off.lcsEvtEn : Nat := 0xD0054
/-- LCS_DBG_CHAL (R541). -/
abbrev Off.lcsDbgChal : Nat := 0xD1000
/-- ACC_STAT (R561). -/
abbrev Off.accStat : Nat := 0xE0000
/-- ACC_COMMIT (R561). -/
abbrev Off.accCommit : Nat := 0xE0004
/-- ACC_FENCE (R561). -/
abbrev Off.accFence : Nat := 0xE0008
/-- ACC_VIOL_STAT (R561). -/
abbrev Off.accViolStat : Nat := 0xE0010
/-- ACC_VIOL_ADDR_LO (R561). -/
abbrev Off.accViolAddrLo : Nat := 0xE0014
/-- ACC_VIOL_ADDR_HI (R561). -/
abbrev Off.accViolAddrHi : Nat := 0xE0018
/-- ACC_VIOL_MORE (R561). -/
abbrev Off.accViolMore : Nat := 0xE001C
/-- ACC_VIOL_TOTAL (R561). -/
abbrev Off.accViolTotal : Nat := 0xE0020
/-- ACC_DBG_DENIED (R561). -/
abbrev Off.accDbgDenied : Nat := 0xE0024
/-- ACC_EVT (R561). -/
abbrev Off.accEvt : Nat := 0xE0028
/-- ACC_EVT_EN (R561). -/
abbrev Off.accEvtEn : Nat := 0xE002C
/-- ACC_RGN_BASE_LO(r) (R561). -/
abbrev Off.accRgnBaseLo : Nat := 0xE0100
/-- ACC_RGN_BASE_HI(r) (R561). -/
abbrev Off.accRgnBaseHi : Nat := 0xE0104
/-- ACC_RGN_CFG(r) (R561). -/
abbrev Off.accRgnCfg : Nat := 0xE0108
/-- ACC_RGN_PERM(r) (R561). -/
abbrev Off.accRgnPerm : Nat := 0xE010C
/-- MEM_STAT (R582). -/
abbrev Off.memStat : Nat := 0xF0000
/-- MEM_DDR_CFG (R582). -/
abbrev Off.memDdrCfg : Nat := 0xF0004
/-- MEM_DDR_USABLE (R582). -/
abbrev Off.memDdrUsable : Nat := 0xF0008
/-- MEM_SCRUB_CTRL (R582). -/
abbrev Off.memScrubCtrl : Nat := 0xF000C
/-- MEM_SCRUB_STAT (R582). -/
abbrev Off.memScrubStat : Nat := 0xF0010
/-- MEM_CE_SRAM (R582). -/
abbrev Off.memCeSram : Nat := 0xF0014
/-- MEM_CE_MRAM (R582). -/
abbrev Off.memCeMram : Nat := 0xF0018
/-- MEM_CE_DDR (R582). -/
abbrev Off.memCeDdr : Nat := 0xF001C
/-- MEM_UE_COUNT (R582). -/
abbrev Off.memUeCount : Nat := 0xF0020
/-- MEM_LAST_ERR (R582). -/
abbrev Off.memLastErr : Nat := 0xF0024
/-- MEM_LAST_ADDR_LO (R582). -/
abbrev Off.memLastAddrLo : Nat := 0xF0028
/-- MEM_LAST_ADDR_HI (R582). -/
abbrev Off.memLastAddrHi : Nat := 0xF002C
/-- MEM_DDR_DEV_SEL (R582). -/
abbrev Off.memDdrDevSel : Nat := 0xF0030
/-- MEM_DDR_DEV_CE (R582). -/
abbrev Off.memDdrDevCe : Nat := 0xF0034
/-- MEM_MRAM_WEAR (R582). -/
abbrev Off.memMramWear : Nat := 0xF0038
/-- MEM_EVT (R582). -/
abbrev Off.memEvt : Nat := 0xF003C
/-- MEM_EVT_EN (R582). -/
abbrev Off.memEvtEn : Nat := 0xF0040
/-- PWR_STATE (R610). -/
abbrev Off.pwrState : Nat := 0x100000
/-- PWR_READY_STAGE (R610). -/
abbrev Off.pwrReadyStage : Nat := 0x100004
/-- PWR_RESET_CAUSE (R610). -/
abbrev Off.pwrResetCause : Nat := 0x100008
/-- PWR_CMD (R610). -/
abbrev Off.pwrCmd : Nat := 0x10000C
/-- PWR_CMD_STAT (R610). -/
abbrev Off.pwrCmdStat : Nat := 0x100010
/-- PWR_GROVE_EN (R610). -/
abbrev Off.pwrGroveEn : Nat := 0x100014
/-- PWR_GROVE_PWR (R610). -/
abbrev Off.pwrGrovePwr : Nat := 0x100018
/-- PWR_GROVE_OP (R610). -/
abbrev Off.pwrGroveOp : Nat := 0x10001C
/-- PWR_GOV_CTRL (R610). -/
abbrev Off.pwrGovCtrl : Nat := 0x100020
/-- PWR_POWER_CAP (R610). -/
abbrev Off.pwrPowerCap : Nat := 0x100024
/-- PWR_POWER_EST (R610). -/
abbrev Off.pwrPowerEst : Nat := 0x100028
/-- PWR_VCORE (R610). -/
abbrev Off.pwrVcore : Nat := 0x10002C
/-- PWR_VMIN (R610). -/
abbrev Off.pwrVmin : Nat := 0x100030
/-- PWR_DOM_SEL (R610). -/
abbrev Off.pwrDomSel : Nat := 0x100034
/-- PWR_DOM_STAT (R610). -/
abbrev Off.pwrDomStat : Nat := 0x100038
/-- PWR_SMB_WAKE (R610). -/
abbrev Off.pwrSmbWake : Nat := 0x10003C
/-- PWR_WARN_CNT (R610). -/
abbrev Off.pwrWarnCnt : Nat := 0x100040
/-- PWR_EVT (R610). -/
abbrev Off.pwrEvt : Nat := 0x100044
/-- PWR_EVT_EN (R610). -/
abbrev Off.pwrEvtEn : Nat := 0x100048
/-- PWR_INT_EN (R610). -/
abbrev Off.pwrIntEn : Nat := 0x10004C
/-- CFG_STAT (R613). -/
abbrev Off.cfgStat : Nat := 0x110000
/-- CFG_GEN (R613). -/
abbrev Off.cfgGen : Nat := 0x110004
/-- CFG_CMD (R613). -/
abbrev Off.cfgCmd : Nat := 0x110008
/-- CFG_CMD_STAT (R613). -/
abbrev Off.cfgCmdStat : Nat := 0x11000C

/-- Registers of the HIF block: BAR0 offset, access, reset value (part 1). -/
def regRowsHif : List (Nat × Acc × Word) :=
  [(0x0, .ro, 0x0#32), (0x10, .rw, 0x0#32), (0x14, .wo, 0x0#32), (0x18, .ro, 0x0#32),
   (0x20, .rw, 0x0#32), (0x24, .rw, 0x0#32), (0x28, .rw, 0x0#32), (0x2C, .rw, 0x0#32),
   (0x30, .rw, 0x0#32), (0x34, .rw, 0x0#32), (0x38, .rw, 0x606#32), (0x3C, .rw, 0x10001#32),
   (0x40, .rw, 0x0#32), (0x44, .rw, 0x7D0#32), (0x48, .ro, 0x0#32), (0x4C, .ro, 0x0#32),
   (0x50, .ro, 0x0#32), (0x54, .ro, 0x0#32), (0x58, .ro, 0x0#32), (0x5C, .ro, 0x0#32),
   (0x60, .w1c, 0x0#32), (0x64, .rw, 0x0#32), (0x68, .ro, 0x0#32), (0x6C, .ro, 0x4000#32),
   (0x100, .rw, 0x0#32), (0x104, .rw, 0x0#32), (0x108, .rw, 0x1010000#32), (0x10C, .rw, 0x0#32),
   (0x110, .wo, 0x0#32), (0x114, .ro, 0x0#32), (0x118, .ro, 0x0#32), (0x11C, .rw, 0x0#32),
   (0x120, .rw, 0x0#32), (0x124, .rw, 0x0#32), (0x128, .ro, 0x0#32), (0x12C, .rw, 0x0#32),
   (0x130, .rw, 0x0#32), (0x134, .rw, 0x0#32), (0x138, .rw, 0x0#32), (0x13C, .rw, 0x0#32)]

/-- Registers of the HIF block: BAR0 offset, access, reset value (part 2). -/
def regRowsHif1 : List (Nat × Acc × Word) :=
  [(0x140, .rw, 0x0#32), (0x144, .rw, 0x0#32), (0x148, .rw, 0x0#32), (0x14C, .rw, 0x0#32),
   (0x150, .w1c, 0x0#32), (0x154, .rw, 0x0#32)]

/-- Registers of the TIM block: BAR0 offset, access, reset value. -/
def regRowsTim : List (Nat × Acc × Word) :=
  [(0x10000, .ro, 0x0#32), (0x10004, .ro, 0x0#32), (0x10008, .ro, 0x0#32), (0x1000C, .ro, 0xFFFFFFFF#32),
   (0x10010, .rw, 0x0#32), (0x10014, .rw, 0xF4240#32), (0x10018, .ro, 0x0#32), (0x1001C, .ro, 0x0#32),
   (0x10020, .ro, 0x0#32), (0x10024, .ro, 0x0#32), (0x10028, .ro, 0x0#32), (0x1002C, .ro, 0x0#32),
   (0x10030, .rw, 0x0#32), (0x10034, .rw, 0x0#32), (0x10038, .wo, 0x0#32), (0x1003C, .ro, 0x0#32),
   (0x10040, .rwq, 0x0#32), (0x10044, .rwq, 0x0#32), (0x10048, .rwq, 0x0#32), (0x1004C, .rwq, 0x0#32),
   (0x10050, .rwq, 0x0#32), (0x10054, .rw, 0x0#32), (0x10058, .w1c, 0x0#32)]

/-- Registers of the JNL block: BAR0 offset, access, reset value. -/
def regRowsJnl : List (Nat × Acc × Word) :=
  [(0x20000, .ro, 0x0#32), (0x20008, .ro, 0x0#32), (0x2000C, .ro, 0x0#32), (0x20010, .ro, 0x0#32),
   (0x20014, .ro, 0x0#32), (0x20018, .rw, 0x0#32), (0x2001C, .rw, 0x0#32), (0x20020, .ro, 0x0#32),
   (0x20024, .ro, 0x0#32), (0x20028, .wo, 0x0#32), (0x2002C, .ro, 0x0#32), (0x20030, .rw, 0x0#32),
   (0x20034, .ro, 0x0#32), (0x20038, .w1c, 0x0#32), (0x2003C, .rw, 0x0#32)]

/-- Registers of the DDT block: BAR0 offset, access, reset value. -/
def regRowsDdt : List (Nat × Acc × Word) :=
  [(0x30000, .rw, 0x0#32), (0x30004, .rw, 0x0#32), (0x30008, .rw, 0x12#32), (0x3000C, .rw, 0x2710#32),
   (0x30010, .ro, 0x0#32), (0x30014, .ro, 0x0#32), (0x30018, .ro, 0x100000#32), (0x3001C, .ro, 0x0#32),
   (0x30020, .ro, 0x0#32), (0x30024, .ro, 0x0#32), (0x30028, .ro, 0x0#32), (0x3002C, .w1c, 0x0#32),
   (0x30030, .rw, 0x0#32)]

/-- Registers of the DSP block: BAR0 offset, access, reset value (part 1). -/
def regRowsDsp : List (Nat × Acc × Word) :=
  [(0x40000, .ro, 0x0#32), (0x40004, .rw, 0x0#32), (0x40008, .ro, 0x0#32), (0x4000C, .rw, 0x200014#32),
   (0x40010, .rw, 0x80A01#32), (0x40014, .rw, 0x3E81000#32), (0x40018, .ro, 0x0#32), (0x4001C, .ro, 0x0#32),
   (0x40020, .ro, 0x0#32), (0x40024, .ro, 0x0#32), (0x40028, .ro, 0x0#32), (0x4002C, .ro, 0x0#32),
   (0x40030, .ro, 0x0#32), (0x40034, .ro, 0x0#32), (0x40038, .ro, 0x0#32), (0x4003C, .ro, 0x0#32),
   (0x40040, .ro, 0x0#32), (0x40044, .ro, 0x0#32), (0x40048, .rw, 0x0#32), (0x4004C, .ro, 0x0#32),
   (0x40050, .ro, 0x0#32), (0x40054, .rw, 0x0#32), (0x40058, .ro, 0x0#32), (0x4005C, .ro, 0x0#32),
   (0x40060, .rw, 0x0#32), (0x40064, .ro, 0x0#32), (0x40068, .wo, 0x0#32), (0x4006C, .w1c, 0x0#32),
   (0x40070, .rw, 0x0#32), (0x40080, .ro, 0x0#32), (0x40084, .ro, 0x0#32), (0x40088, .ro, 0x0#32),
   (0x4008C, .ro, 0x0#32), (0x40090, .ro, 0x0#32), (0x40094, .ro, 0x0#32), (0x40098, .ro, 0x0#32),
   (0x4009C, .ro, 0x0#32), (0x400A0, .ro, 0x0#32), (0x400A4, .ro, 0x0#32), (0x400A8, .ro, 0x0#32)]

/-- Registers of the DSP block: BAR0 offset, access, reset value (part 2). -/
def regRowsDsp1 : List (Nat × Acc × Word) :=
  [(0x400AC, .ro, 0x0#32), (0x400B0, .ro, 0x0#32), (0x400B4, .ro, 0x0#32), (0x400B8, .ro, 0x0#32),
   (0x400BC, .ro, 0x0#32)]

/-- Registers of the LAN block: BAR0 offset, access, reset value. -/
def regRowsLan : List (Nat × Acc × Word) :=
  [(0x50000, .ro, 0x0#32), (0x50004, .ro, 0x0#32), (0x50008, .rw, 0x0#32), (0x5000C, .wo, 0x0#32),
   (0x50010, .ro, 0x0#32), (0x50014, .rw, 0x0#32), (0x50018, .ro, 0x4#32), (0x50020, .rw, 0x0#32),
   (0x50024, .ro, 0x4#32), (0x50028, .ro, 0x0#32), (0x5002C, .ro, 0x0#32), (0x50030, .ro, 0x0#32),
   (0x50034, .ro, 0x0#32), (0x50038, .ro, 0x0#32), (0x5003C, .ro, 0x0#32), (0x50040, .ro, 0x0#32),
   (0x50044, .ro, 0x0#32), (0x50048, .ro, 0x0#32), (0x5004C, .ro, 0x0#32), (0x50050, .w1c, 0x0#32),
   (0x50054, .rw, 0x0#32)]

/-- Registers of the PKE block: BAR0 offset, access, reset value. -/
def regRowsPke : List (Nat × Acc × Word) :=
  [(0x60000, .ro, 0xC0000#32), (0x60004, .rw, 0x0#32), (0x60008, .ro, 0x4#32), (0x6000C, .ro, 0x0#32),
   (0x60010, .rw, 0x0#32), (0x60014, .rw, 0x0#32), (0x60018, .rw, 0x0#32), (0x6001C, .wo, 0x0#32),
   (0x60020, .ro, 0x0#32), (0x60024, .wo, 0x0#32), (0x60028, .ro, 0x0#32), (0x6002C, .ro, 0x0#32),
   (0x60030, .ro, 0x0#32), (0x60034, .ro, 0x0#32), (0x60038, .ro, 0x0#32), (0x6003C, .w1c, 0x0#32),
   (0x60040, .rw, 0x0#32)]

/-- Registers of the KEY block: BAR0 offset, access, reset value. -/
def regRowsKey : List (Nat × Acc × Word) :=
  [(0x70000, .ro, 0x0#32), (0x70004, .rw, 0x0#32), (0x70008, .rw, 0x1#32), (0x7000C, .wo, 0x0#32),
   (0x70010, .ro, 0x0#32), (0x70014, .rw, 0x0#32), (0x70018, .rw, 0x0#32), (0x7001C, .rw, 0x0#32),
   (0x70020, .rw, 0x0#32), (0x70024, .rw, 0x0#32), (0x70028, .rw, 0x0#32), (0x7002C, .ro, 0x0#32),
   (0x70030, .ro, 0x0#32), (0x70034, .ro, 0x0#32), (0x70038, .ro, 0x0#32), (0x7003C, .ro, 0x0#32),
   (0x70040, .rwq, 0x0#32), (0x70044, .wo, 0x0#32), (0x70048, .rwq, 0x0#32), (0x7004C, .ro, 0x0#32),
   (0x70050, .rw, 0x0#32), (0x70054, .rwq, 0x0#32), (0x70058, .ro, 0x0#32), (0x7005C, .ro, 0x0#32),
   (0x70060, .ro, 0x1000#32), (0x70064, .rw, 0x0#32), (0x70068, .ro, 0x0#32), (0x7006C, .ro, 0x0#32),
   (0x70070, .ro, 0x0#32), (0x70074, .ro, 0x0#32), (0x70078, .w1c, 0x0#32), (0x7007C, .rw, 0x0#32)]

/-- Registers of the RNG block: BAR0 offset, access, reset value. -/
def regRowsRng : List (Nat × Acc × Word) :=
  [(0x80000, .ro, 0x0#32), (0x80004, .wo, 0x0#32), (0x80008, .ro, 0x0#32), (0x8000C, .rw, 0x3E80012#32),
   (0x80010, .rw, 0x0#32), (0x80014, .ro, 0x0#32), (0x80018, .ro, 0x0#32), (0x8001C, .ro, 0x0#32),
   (0x80020, .ro, 0x0#32), (0x80024, .rw, 0x0#32), (0x80028, .ro, 0x0#32), (0x8002C, .ro, 0x0#32),
   (0x80030, .ro, 0x0#32), (0x80034, .ro, 0x0#32), (0x80038, .ro, 0x0#32), (0x8003C, .ro, 0x0#32),
   (0x80040, .rw, 0x0#32), (0x80044, .ro, 0x0#32), (0x80048, .ro, 0x0#32), (0x8004C, .w1c, 0x0#32),
   (0x80050, .rw, 0x0#32)]

/-- Registers of the CUS block: BAR0 offset, access, reset value. -/
def regRowsCus : List (Nat × Acc × Word) :=
  [(0x90000, .ro, 0x0#32), (0x90004, .rw, 0x0#32), (0x90008, .rw, 0x0#32), (0x90010, .rw, 0x0#32),
   (0x90014, .wo, 0x0#32), (0x90018, .ro, 0x0#32), (0x9001C, .ro, 0x0#32), (0x90020, .rw, 0x0#32),
   (0x90024, .rw, 0x0#32), (0x90028, .rw, 0x0#32), (0x9002C, .rw, 0x0#32), (0x90030, .rw, 0x0#32),
   (0x90034, .ro, 0x0#32), (0x90038, .ro, 0x0#32), (0x9003C, .rwq, 0x78#32), (0x90040, .rw, 0x80000000#32),
   (0x90044, .ro, 0x0#32), (0x90048, .rwq, 0x12#32), (0x9004C, .rwq, 0x12#32), (0x90050, .rwq, 0x12#32),
   (0x90054, .rwq, 0x12#32), (0x90058, .rwq, 0x12#32), (0x9005C, .rwq, 0x12#32), (0x90060, .rwq, 0x12#32),
   (0x90064, .rwq, 0x12#32), (0x90068, .rwq, 0x12#32), (0x9006C, .rwq, 0x12#32), (0x90070, .rwq, 0x12#32),
   (0x90074, .rwq, 0x12#32), (0x90078, .rwq, 0x12#32), (0x9007C, .rwq, 0x12#32), (0x90080, .rwq, 0x12#32),
   (0x90084, .rwq, 0x12#32), (0x90088, .w1c, 0x0#32), (0x9008C, .rw, 0x0#32)]

/-- Registers of the TMP block: BAR0 offset, access, reset value. -/
def regRowsTmp : List (Nat × Acc × Word) :=
  [(0xA0000, .ro, 0x0#32), (0xA0004, .rw, 0x0#32), (0xA0008, .ro, 0x0#32), (0xA000C, .ro, 0x0#32),
   (0xA0010, .w1c, 0x0#32), (0xA0014, .rw, 0x1#32), (0xA0018, .rwl, 0x0#32), (0xA001C, .ro, 0x0#32),
   (0xA0020, .ro, 0x0#32), (0xA0024, .ro, 0x0#32), (0xA0028, .wo, 0x0#32), (0xA002C, .rwq, 0x0#32),
   (0xA0030, .ro, 0x0#32), (0xA0034, .ro, 0x0#32), (0xA0038, .ro, 0x0#32), (0xA003C, .rw, 0x0#32),
   (0xA0040, .rw, 0x0#32), (0xA0044, .wo, 0x0#32), (0xA0048, .ro, 0x0#32), (0xA004C, .ro, 0x0#32),
   (0xA0050, .ro, 0x0#32), (0xA0054, .ro, 0x0#32), (0xA0058, .ro, 0x0#32), (0xA005C, .ro, 0x0#32),
   (0xA0060, .w1c, 0x0#32), (0xA0064, .rw, 0x0#32)]

/-- Registers of the EVL block: BAR0 offset, access, reset value. -/
def regRowsEvl : List (Nat × Acc × Word) :=
  [(0xB0000, .ro, 0x0#32), (0xB0004, .rw, 0x0#32), (0xB0008, .ro, 0x0#32), (0xB000C, .rw, 0x0#32),
   (0xB0010, .rw, 0x0#32), (0xB0014, .rw, 0x0#32), (0xB0018, .rw, 0x0#32), (0xB001C, .rwq, 0x0#32),
   (0xB0020, .ro, 0x0#32), (0xB0024, .w1c, 0x0#32), (0xB0028, .rw, 0x0#32)]

/-- Registers of the ERC block: BAR0 offset, access, reset value. -/
def regRowsErc : List (Nat × Acc × Word) :=
  [(0xC0000, .ro, 0x0#32), (0xC0004, .rw, 0x3E8#32), (0xC0008, .wo, 0x0#32), (0xC000C, .rw, 0x0#32),
   (0xC0010, .rwq, 0x0#32), (0xC0014, .rw, 0x1#32), (0xC0018, .rw, 0x0#32), (0xC001C, .rw, 0x1#32),
   (0xC0020, .rw, 0x0#32), (0xC0024, .rw, 0x0#32), (0xC0028, .ro, 0x0#32), (0xC002C, .w1c, 0x0#32),
   (0xC0030, .rw, 0x0#32)]

/-- Registers of the LCS block: BAR0 offset, access, reset value. -/
def regRowsLcs : List (Nat × Acc × Word) :=
  [(0xD0000, .ro, 0x0#32), (0xD0004, .ro, 0x0#32), (0xD0008, .ro, 0x0#32), (0xD000C, .ro, 0x0#32),
   (0xD0010, .ro, 0x0#32), (0xD0014, .rw, 0x0#32), (0xD0018, .rw, 0x0#32), (0xD001C, .wo, 0x0#32),
   (0xD0020, .ro, 0x0#32), (0xD0024, .rwq, 0x0#32), (0xD0028, .ro, 0x0#32), (0xD002C, .rw, 0x0#32),
   (0xD0030, .wo, 0x0#32), (0xD0034, .rw, 0x0#32), (0xD0038, .rw, 0x0#32), (0xD003C, .wo, 0x0#32),
   (0xD0040, .ro, 0x0#32), (0xD0044, .rwq, 0x0#32), (0xD0048, .ro, 0x0#32), (0xD004C, .ro, 0x0#32),
   (0xD0050, .w1c, 0x0#32), (0xD0054, .rw, 0x0#32)]

/-- Registers of the ACC block: BAR0 offset, access, reset value. -/
def regRowsAcc : List (Nat × Acc × Word) :=
  [(0xE0000, .ro, 0x0#32), (0xE0004, .wo, 0x0#32), (0xE0008, .rw, 0x0#32), (0xE0010, .rw, 0x0#32),
   (0xE0014, .ro, 0x0#32), (0xE0018, .ro, 0x0#32), (0xE001C, .ro, 0x0#32), (0xE0020, .ro, 0x0#32),
   (0xE0024, .ro, 0x0#32), (0xE0028, .w1c, 0x0#32), (0xE002C, .rw, 0x0#32)]

/-- Registers of the MEM block: BAR0 offset, access, reset value. -/
def regRowsMem : List (Nat × Acc × Word) :=
  [(0xF0000, .ro, 0x0#32), (0xF0004, .ro, 0x0#32), (0xF0008, .ro, 0x0#32), (0xF000C, .rw, 0x18#32),
   (0xF0010, .ro, 0x0#32), (0xF0014, .ro, 0x0#32), (0xF0018, .ro, 0x0#32), (0xF001C, .ro, 0x0#32),
   (0xF0020, .ro, 0x0#32), (0xF0024, .ro, 0x0#32), (0xF0028, .ro, 0x0#32), (0xF002C, .ro, 0x0#32),
   (0xF0030, .rw, 0x0#32), (0xF0034, .ro, 0x0#32), (0xF0038, .ro, 0x0#32), (0xF003C, .w1c, 0x0#32),
   (0xF0040, .rw, 0x0#32)]

/-- Registers of the PWR block: BAR0 offset, access, reset value. -/
def regRowsPwr : List (Nat × Acc × Word) :=
  [(0x100000, .ro, 0x1#32), (0x100004, .ro, 0x1#32), (0x100008, .rs, 0x0#32), (0x10000C, .wo, 0x0#32),
   (0x100010, .ro, 0x0#32), (0x100014, .rw, 0x0#32), (0x100018, .ro, 0x0#32), (0x10001C, .ro, 0x0#32),
   (0x100020, .rw, 0x2#32), (0x100024, .rw, 0x96#32), (0x100028, .ro, 0x0#32), (0x10002C, .ro, 0x0#32),
   (0x100030, .ro, 0xFFF#32), (0x100034, .rw, 0x0#32), (0x100038, .ro, 0x0#32), (0x10003C, .rw, 0x4C#32),
   (0x100040, .ro, 0x0#32), (0x100044, .w1c, 0x0#32), (0x100048, .rw, 0x0#32), (0x10004C, .rw, 0x0#32)]

/-- Registers of the CFG block: BAR0 offset, access, reset value. -/
def regRowsCfg : List (Nat × Acc × Word) :=
  [(0x110000, .ro, 0x0#32), (0x110004, .ro, 0x0#32), (0x110008, .wo, 0x0#32), (0x11000C, .ro, 0x0#32)]

/-- Registers of the FAB block: BAR0 offset, access, reset value (part 1). -/
def regRowsFab : List (Nat × Acc × Word) :=
  [(0x120000, .ro, 0x0#32), (0x120004, .rw, 0x0#32), (0x120008, .rwl, 0x0#32), (0x12000C, .rw, 0x10000A#32),
   (0x120010, .rw, 0x0#32), (0x120014, .ro, 0x0#32), (0x120018, .ro, 0x0#32), (0x12001C, .rw, 0x3E8#32),
   (0x120020, .ro, 0x0#32), (0x120024, .ro, 0x0#32), (0x120028, .ro, 0x0#32), (0x12002C, .rw, 0x0#32),
   (0x120030, .rw, 0x1F400004#32), (0x120034, .ro, 0x0#32), (0x120038, .ro, 0x0#32), (0x12003C, .rw, 0x0#32),
   (0x120040, .rwq, 0x0#32), (0x120044, .ro, 0x0#32), (0x120048, .rwl, 0x10000100#32), (0x12004C, .rw, 0x1003#32),
   (0x120050, .rwq, 0x0#32), (0x120054, .rwq, 0x0#32), (0x120058, .rwq, 0x0#32), (0x12005C, .rwq, 0x0#32),
   (0x120060, .rwl, 0x0#32), (0x120064, .rwl, 0x0#32), (0x120068, .wo, 0x0#32), (0x12006C, .ro, 0x0#32),
   (0x120070, .ro, 0x0#32), (0x120074, .ro, 0x0#32), (0x120078, .ro, 0x0#32), (0x12007C, .ro, 0x0#32),
   (0x120080, .ro, 0x0#32), (0x120084, .w1c, 0x0#32), (0x120088, .rw, 0x0#32), (0x1200A0, .rw, 0x0#32),
   (0x1200A4, .rw, 0x0#32), (0x1200A8, .rw, 0x0#32), (0x1200AC, .rw, 0x0#32), (0x1200B0, .rw, 0x0#32)]

/-- Registers of the FAB block: BAR0 offset, access, reset value (part 2). -/
def regRowsFab1 : List (Nat × Acc × Word) :=
  [(0x1200B4, .rw, 0x0#32), (0x1200B8, .rw, 0x0#32), (0x1200BC, .rw, 0x0#32)]

/-- The 64 regions of four registers each (R551, R561). -/
def accRegionRows : List (Nat × Acc × Word) :=
  (List.range 256).map (fun i => (0xE0100 + 4 * i, Acc.rwq, 0#32))

/-- The rows of the block that holds a BAR0 offset (R637). -/
def regRows (off : Nat) : List (Nat × Acc × Word) :=
  match off / 0x10000 with
  | 0 => regRowsHif ++ regRowsHif1
  | 1 => regRowsTim
  | 2 => regRowsJnl
  | 3 => regRowsDdt
  | 4 => regRowsDsp ++ regRowsDsp1
  | 5 => regRowsLan
  | 6 => regRowsPke
  | 7 => regRowsKey
  | 8 => regRowsRng
  | 9 => regRowsCus
  | 10 => regRowsTmp
  | 11 => regRowsEvl
  | 12 => regRowsErc
  | 13 => regRowsLcs
  | 14 => regRowsAcc ++ accRegionRows
  | 15 => regRowsMem
  | 16 => regRowsPwr
  | 17 => regRowsCfg
  | 18 => regRowsFab ++ regRowsFab1
  | _ => []

/-- The row of a register, none where the tables name no register at the offset (R640). -/
def regRow (off : Nat) : Option (Nat × Acc × Word) := (regRows off).find? (fun r => r.1 == off)

/-- Reset value of a register (R638); 0 where none is named. -/
def regReset (off : Nat) : Word := match regRow off with | some r => r.2.2 | none => 0#32

/-- Access type of a register, none where none is named. -/
def regAcc (off : Nat) : Option Acc := match regRow off with | some r => some r.2.1 | none => none

end Sys2Proof.Machine
end

