-- ==== Sys2Proof/Machine/BlocksA.lean ====
section
/-! DEFINITION. The typed state of the part, first half: time base, host interface, journal, deduplication table,
dispatch, lanes and public-key engines. Plain data. Times are ns of ST as numbers; a register that only stores what
is written or counted stands in the register file and has no field here. -/

namespace Sys2Proof.Machine

/-- The register file: BAR0 offset and value, offsets strictly rising, no entry equal to the register's reset value. -/
abbrev RegFile := List (Nat × Word)

/-- Time states (R33), in the order of their codes. -/
inductive TimeState where
  | unset | acquiring | locked | holdover | freeRun
deriving DecidableEq, Repr

/-- A time token that passed every check and waits for its PPS edge (R40, R645). -/
structure TokenWait where
  value : Nat
  since : Nat
deriving DecidableEq, Repr

/-- A time token in progress: what the GO write captured (R40). -/
structure TokenJob where
  nonce     : DWord
  goSt      : Nat
  issued    : Nat
  live      : Bool
  wait      : Option TokenWait := none
deriving DecidableEq, Repr

/-- Settlement time base (R28 to R44, R643 to R645, R648), apart from the counter itself. -/
structure Tim where
  state      : TimeState := .unset
  slewRem    : Int := 0
  slewPhase  : Nat := 0
  slewedSince : Int := 0
  ppsCap     : Nat := 0
  ppsValid   : Bool := false
  lastValid  : Option Nat := none
  misses     : Nat := 0
  acqSince   : Nat := 0
  acqCount   : Nat := 0
  lastOffset : Option Int := none
  changes    : List Nat := []
  trefValid  : Bool := false
  trefSince  : Nat := 0
  nonce      : DWord := 0
  nonceIssued : Nat := 0
  nonceLive  : Bool := false
  token      : Option TokenJob := none
  tokenStat  : Nat := 0
  fenceBusy  : Bool := false
  lastSet    : Nat := 0
  setWait    : Option Nat := none
deriving DecidableEq, Repr

/-- Ring states (R66), in the order of their codes. -/
inductive RingState where
  | absent | held | active | parked | fault
deriving DecidableEq, Repr

/-- A descriptor fetched and not yet accepted, with its short input and the first check of R51 that it fails. -/
structure Fetched where
  desc  : Bytes
  input : Bytes := []
  fail  : Option (Nat × Nat) := none
deriving DecidableEq, Repr

/-- An open chain instance of a ring (R147): its ID and the sequences of its members, in order. -/
structure ChainInst where
  gid     : Nat
  members : List Nat
  /-- members accepted before a migration or recovery, all complete (R403) -/
  earlier : Nat := 0
deriving DecidableEq, Repr

/-- A ring pair that is defined or has been (R45, R66 to R73). -/
structure Ring where
  slice    : Nat
  num      : Nat
  state    : RingState := .absent
  cause    : Nat := 0
  gen      : Nat := 0
  accepted : Word := 0
  posted   : Word := 0
  consumed : Word := 0
  tail     : Word := 0
  sqBase   : Nat := 0
  cqBase   : Nat := 0
  hwbAddr  : Nat := 0
  sqLog2   : Nat := 6
  cqLog2   : Nat := 6
  irq      : Word := 0x00010001
  mod      : Word := 0
  policy   : Word := 0x7D0
  needsSettings : Bool := false
  faultAddr : Nat := 0
  irqCount  : Nat := 0
  irqOldest : Nat := 0
  fetched   : List Fetched := []
  hwb       : Option Word := none
  hwbSince  : Option Nat := none
  flowStall : Bool := false
  ddtStall  : Bool := false
  chains    : List ChainInst := []
deriving DecidableEq, Repr

/-- An open slice-barrier instance (R80): mask, and the joined rings with their record sequence. -/
structure Barrier where
  slice  : Nat
  id     : Nat
  mask   : Nat
  joined : List (Nat × Nat) := []
  /-- resolved, and kept until every one of its entries is written (R80) -/
  resolved : Bool := false
deriving DecidableEq, Repr

/-- An MSI-X table entry (R75): address, data, and whether it is masked; a pending bit. -/
structure MsixEntry where
  vec     : Nat
  addr    : Nat := 0
  data    : Nat := 0
  masked  : Bool := true
  pending : Bool := false
deriving DecidableEq, Repr

/-- ENABLE or HOLD from PARKED or FAULT in progress (R69, R74): the ring, the state that it ends in, how many held entries
are still to be posted, and whether it took the staged settings. -/
structure RingJob where
  slice : Nat
  num   : Nat
  dest  : RingState
  left  : Nat
  took  : Bool := false
deriving DecidableEq, Repr

/-- Host interface (R45 to R91). -/
structure Hif where
  rings     : List Ring := []
  cmdBusy   : Option RingJob := none
  cmdResult : Nat := 0
  cmdGen    : Nat := 0
  evtRing   : Word := 0
  msix      : List MsixEntry := []
  funcMask  : Bool := false
  barriers  : List Barrier := []
  statusLatch : List (Nat × Word) := []
deriving DecidableEq, Repr

/-- Record states (R98), in the order of their codes. -/
inductive RecState where
  | free | accepted | inService | owed | complete | awaiting | replay
deriving DecidableEq, Repr

/-- A head record (R97, R98), both forms. -/
structure Rec where
  slot      : Nat
  seq       : Nat
  reqId     : DWord
  slice     : Nat
  ring      : Nat
  st        : RecState
  mirrored  : Bool := false
  spilled   : Bool := false
  recovered : Bool := false
  pos       : Word := 0
  opcode    : Nat := 0
  remaining : Nat := 0
  status    : Nat := 0
  sub       : Nat := 0
  backlog   : Bool := false
  late      : Bool := false
  resLen    : Nat := 0
  cst       : DWord := 0
  /-- deadline of a record that has no item: AWAITING (R121) -/
  deadline  : Nat := 0
deriving DecidableEq, Repr

/-- An acceptance that waits for the standby's acknowledgement (R92, R127): the record's slot, and where on its ring. -/
structure MirrorWait where
  slot  : Nat
  since : Nat
  slice : Nat
  ring  : Nat
  pos   : Word
  /-- an attachment, which makes no record of its own -/
  att   : Bool := false
deriving DecidableEq, Repr

/-- A completion entry owed to a ring (R58, R69): the record, and the interrupt conditions of R76 that hold for it. -/
structure Owed where
  slot   : Nat
  slice  : Nat
  ring   : Nat
  irqNow : Bool := false
  long   : Bool := false
deriving DecidableEq, Repr

/-- A slice as the anchor's slice table holds it (R646). -/
structure AnchorSlice where
  num     : Nat
  state   : Nat
  pasid   : Nat
  noPasid : Bool
  domain  : Nat
  rings   : Nat
  weight  : Nat
  expiry  : Nat
deriving DecidableEq, Repr

/-- A ring as the anchor's ring table holds it (R115). -/
structure AnchorRing where
  slice    : Nat
  ring     : Nat
  gen      : Nat
  accepted : Word
  posted   : Word
deriving DecidableEq, Repr

/-- The journal anchor in MRAM (R115, R116). -/
structure Anchor where
  nextSeq : Nat
  recs    : List Rec
  fresh   : Nat
  completed : List Nat
  rings   : List AnchorRing
  slices  : List AnchorSlice
  epoch   : Nat
  crcOk   : Bool
deriving DecidableEq, Repr

/-- Acceptance journal (R92 to R136). -/
structure Jnl where
  nextSeq    : Nat := 0
  hiStored   : Option Nat := none
  /-- bytes 32 to 511 of the body entries whose item has gone: they stay until the slot is taken again (R96, R99, R100) -/
  bodies     : List (Nat × Bytes) := []
  recs       : List Rec := []
  fresh      : Nat := 0
  completed  : List Nat := []
  owed       : List Owed := []
  mirrorWait : List MirrorWait := []
  degraded   : Bool := false
  anchor     : Option Anchor := none
  flushDone  : Bool := false
  flushBusy  : Bool := false
  flushStart : Nat := 0
  bootResult : Nat := 0
  dipFlush   : Bool := false
  lastFlushUs : Nat := 0
  anchorRecs : Word := 0
  recovering : Bool := false
  recoverOpen : Bool := false
deriving DecidableEq, Repr

/-- A deduplication entry (R101). `doneAt` is the completion ST that retention counts from, shifted as R105 states. -/
inductive DdtState where
  | inFlight | done | awaiting
deriving DecidableEq, Repr

structure DdtEntry where
  slice  : Nat
  reqId  : DWord
  st     : DdtState
  status : Nat := 0
  outcome : Word := 0
  seq    : Nat
  time   : DWord := 0
  doneAt : Nat := 0
  /-- retention of this entry in ns, where it is not that of DDT_RETAIN (R403) -/
  retain : Option Nat := none
deriving DecidableEq, Repr

/-- Where the two-hash engine keeps the keys of one table: key and bucket (R102). -/
abbrev Occ := List ((Nat × Nat) × Nat)

/-- Deduplication table (R101 to R110, R134 to R136). -/
structure Ddt where
  entries  : List DdtEntry := []
  occ      : Occ := []
  hashKey  : Nat := 0
  ready    : Bool := false
  initing  : Bool := false
  needKeys : Bool := false
  stalledSince : Option Nat := none
  stallNs  : Nat := 0
  moves    : List (Nat × Nat) := []
deriving DecidableEq, Repr

/-- Dispatch states (R137); `control` is a control descriptor, which never enters them (R138). -/
inductive DState where
  | control | held | pending | placed | running | suspended | finished
deriving DecidableEq, Repr

/-- Attributes of a key half (R337). Usage, mode and exportability as ASCII codes. -/
structure KeyAttr where
  alg    : Nat := 0
  part   : Nat := 0
  usage  : Nat := 0
  mode   : Nat := 0
  exp    : Nat := 0
  cust   : Bool := false
  nb     : Nat := 0
  na     : Nat := 0
  ksi    : Option Bytes := none
  curve  : Option Bytes := none
  gen    : Nat := 0
deriving DecidableEq, Repr

/-- One half of a slot (R336, R337, R340). -/
structure Half where
  attr : KeyAttr
  mat  : Bytes
  ext  : Nat := 0
deriving DecidableEq, Repr

/-- A key that an item resolved at step B (R195). -/
structure KeyRes where
  dom  : Nat
  slot : Nat
  gen  : Nat
  attr : KeyAttr
  mat  : Bytes
  sap  : Bool := false
  kb   : Bytes := []
deriving DecidableEq, Repr

/-- What one generate call of a DRBG gives (R370): the key and the counter block that its bytes come from, and the draw's own
number for values that the spec leaves free (log entry 7). -/
structure RndOut where
  key : Bytes := []
  v   : Nat := 0
  ctr : Nat := 0
deriving DecidableEq, Repr

/-- A stretch of a mask generator's output (R237): the seed that it comes from, the number of its first block, and how many
blocks it has. -/
structure MaskRun where
  seed  : Bytes := []
  first : Nat := 0
  left  : Nat := 0
deriving DecidableEq, Repr

/-- Phase of a public-key item (R285). -/
inductive PkePhase where
  | none | engine | between | release
deriving DecidableEq, Repr

/-- An accepted item with its journal body (R100) and its dispatch data (R137 to R180). -/
structure Item where
  slot      : Nat
  seq       : Nat
  slice     : Nat
  ring      : Nat
  desc      : Bytes
  input     : Bytes
  staged    : Bool := false
  acceptSt  : Nat
  /-- ST_QUAL of the acceptance (R100) -/
  qual      : Nat := 0
  /-- the deadline was past at acceptance (R171) -/
  pastAt    : Bool := false
  /-- ring and position whose head write-back publishes the acceptance (R18, R64) -/
  pubRing   : Nat := 0
  pubPos    : Word := 0
  deadline  : Nat
  absDl     : Bool := false
  key       : Nat
  restarts  : Nat := 0
  attached  : Nat := 0
  represented : Bool := false
  ds        : DState
  started   : Bool := false
  startSt   : Nat := 0
  runSt     : Nat := 0
  /-- lane time done before a suspension, in ns -/
  doneNs    : Nat := 0
  engineSt  : Nat := 0
  preds     : List Nat := []
  need      : Nat := 0
  relAt     : Option Nat := none
  relAbs    : Bool := false
  fired     : Bool := false
  grove     : Nat := 0
  twin      : Option Nat := none
  ctxSlot   : Option Nat := none
  preempt   : Bool := false
  pke       : PkePhase := .none
  readback  : Bool := false
  mark      : Option (Nat × Nat) := none
  notBefore : Option Nat := none
  mmTwins   : List Nat := []
  keys      : List KeyRes := []
  keysOk    : Bool := false
  /-- key loads that this item asked for at its present grove (R351) -/
  missed    : Nat := 0
  rnd       : Option RndOut := none
  /-- the mask blocks reserved for its execution, those of both lanes (R239) -/
  masks     : List MaskRun := []
  /-- what the engine phase handed over: the public result, and the shares of the secret one for the two lanes (R286) -/
  engPub    : Bytes := []
  engSec    : List (List Bytes) := []
  eccOnce   : Bool := false
  spill     : Option (Nat × Nat) := none
  spillFrom : Option (Nat × Nat) := none
  noSpill   : Bool := false
  /-- key domain of the item's slice (R354) -/
  dom       : Nat := 0
  /-- ST at which the comparator released the result, and the sapling that the release replaced, for a response of the
  same grove clock cycle (R19) -/
  relSt     : Option Nat := none
  sapWas    : Option (Option Half) := none
deriving DecidableEq, Repr

/-- A flow that stalls a ring, and the flow table of the two-hash engine (R150). -/
structure FlowTab where
  occ     : Occ := []
  hashKey : Nat := 0
  moves   : List (Nat × Nat) := []
deriving DecidableEq, Repr

/-- A firmware thread task that is ready (R166, R167): its class, its pair, its deadline, and the run time that it still needs
(a free value, log entry 7). -/
structure FwTask where
  id       : Nat
  cls      : Nat
  pair     : Nat
  deadline : Nat
  left     : Nat
  missed   : Bool := false
deriving DecidableEq, Repr

/-- A firmware timer on the delay list (R165): the thread class, its expiry, and when it was inserted. -/
structure FwTimer where
  cls : Nat
  due : Nat
  ins : Nat
deriving DecidableEq, Repr

/-- Per-slice counts of dispatch: histogram (R179) and credits received (R175). -/
structure SliceCnt where
  num     : Nat
  hist    : List Nat := []
  got     : Nat := 0
  lastRing : Nat := 15
  /-- the slice is among those that share the credits (R175) -/
  share    : Bool := false
deriving DecidableEq, Repr

/-- Device dispatch (R137 to R183). -/
structure Dsp where
  items     : List Item := []
  flows     : FlowTab := {}
  reef      : Nat := 0
  reefSince : Nat := 0
  upSince   : Option Nat := none
  downSince : Option Nat := none
  /-- outstanding records at or below 30,720 since (R173) -/
  lowSince  : Option Nat := none
  l3Since   : Option Nat := none
  l3Ns      : Nat := 0
  /-- items that reached OWED, and records that reached COMPLETE, since the last epoch (R174) -/
  epochOwed : Nat := 0
  epochPosted : Nat := 0
  lastEpoch : Nat := 0
  rr        : Nat := 11
  loads     : List Nat := []
  deferred  : Nat := 0
  /-- the tick at which delay-list entries fired last, and how many of them (R164) -/
  fireTick  : Nat := 0
  fireCount : Nat := 0
  /-- the ready thread tasks, those of each pair in the order of their deadlines (R166) -/
  fw        : List FwTask := []
  fwNext    : Nat := 0
  fwTimers  : List FwTimer := []
  /-- until when the tasks and the busy ST of the two pairs are brought up to date (R166, R180) -/
  fwSt      : Nat := 0
  mgmtBusy  : List Nat := [0, 0]
  /-- credits left of the present epoch (R174, R175) -/
  credits   : Nat := 0
  counts    : List SliceCnt := []
  histLatch : List Nat := []
  busy      : List (Nat × Nat) := []
  /-- the settings that a dispatch epoch has taken up (R22, R105, R183) -/
  eff       : RegFile := []
deriving DecidableEq, Repr

/-- Unit states (R252), in the order of their codes. -/
inductive UnitState where
  | inService | clearing | held | failed | gated
deriving DecidableEq, Repr

/-- A saved context in one lane (R259): the item, the cipher or digest state in shares, the positions of the sequencer, the
input and the output, the mask reservation, and the grove key-cache entries by domain, slot and generation. -/
structure LaneCtx where
  slot   : Nat
  item   : Nat
  state  : List Bytes
  seqPos : Nat
  inPos  : Nat
  outPos : Nat
  masks  : List MaskRun
  keys   : List (Nat × Nat × Nat)
deriving DecidableEq, Repr

/-- A lane (R232 to R236, R259): its patch level, the shares of each key that it has bound, the shares of the secret state
in its scratch and datapath, and its context store. The check lane holds everything complemented (R242). -/
structure Lane where
  level : Nat := 0
  keys  : List (List Bytes) := []
  work  : List Bytes := []
  ctx   : List LaneCtx := []
deriving DecidableEq, Repr

/-- A twin (R252, R253, R259, R282): `passed` waits for the next epoch, `draining` for its items; its principal lane and
its check lane. -/
structure Twin where
  num      : Nat
  state    : UnitState := .gated
  passed   : Bool := false
  draining : Bool := false
  /-- ST at which it joined the pool last (R168) -/
  joinSt   : Nat := 0
  mm       : Nat := 0
  testUs   : Nat := 0
  running  : Option Nat := none
  main     : Lane := {}
  check    : Lane := {}
deriving DecidableEq, Repr

/-- State of a mask generator (R241, R282). -/
inductive MgenState where
  | running | reseedPending | exhausted | failed
deriving DecidableEq, Repr

/-- A grove (R252, R254, R237 to R241, R248, R249). -/
structure Grove where
  num      : Nat
  state    : UnitState := .gated
  passed   : Bool := false
  draining : Bool := false
  /-- ST at which it joined the pool last (R168) -/
  joinSt   : Nat := 0
  mgen     : MgenState := .running
  /-- what is left of the current seed, of the next seed where one is held, and the reserve (R237, R240) -/
  cur      : MaskRun := {}
  nxt      : MaskRun := {}
  hold     : List MaskRun := []
  reseeds  : Nat := 0
  mgenIn   : Bool := true
  mmSts    : List Nat := []
  threshSts : List Nat := []
  byThresh : Bool := false
  /-- it left service by the mismatch threshold, so that its window restarts when it rejoins (R248) -/
  byCount  : Bool := false
  testsHeld : Bool := false
deriving DecidableEq, Repr

/-- Lanes and clearing (R232 to R283). -/
structure Lan where
  twins    : List Twin := (List.range 96).map (fun n => { num := n })
  groves   : List Grove := (List.range 12).map (fun n => { num := n })
  devMm    : List Nat := []
  cmdBusy  : Option ClrUnit := none
  cmdResult : Nat := 0
  lastMm   : Word := 0
  lastMmSt : DWord := 0
  patch    : Nat := 0
deriving DecidableEq, Repr

/-- A public-key engine (R284, R311, R314, R317). -/
structure Engine where
  num      : Nat
  state    : UnitState := .gated
  passed   : Bool := false
  draining : Bool := false
  /-- ST at which it joined the pool last (R168) -/
  joinSt   : Nat := 0
  zeroFail : Bool := false
  testUs   : Nat := 0
  item     : Option Nat := none
  /-- operand RAM, zero beyond these bytes (R284, R290) -/
  ram      : Bytes := []
  /-- the RAM has been overwritten and its readback is not done (R290), and the record whose entry waits for it (R314) -/
  readback : Bool := false
  after    : Option Nat := none
deriving DecidableEq, Repr

/-- Public-key engines (R284 to R318). -/
structure Pke where
  engines  : List Engine := (List.range 12).map (fun n => { num := n })
  /-- abort in progress: slot and engine; and the ST of its write (R315) -/
  abort    : Option (Nat × Nat) := none
  abortSt  : Nat := 0
  abortResult : Nat := 0
  abortEng : Nat := 0
  clearBusy : Option Nat := none
  clearResult : Nat := 0
  lastFault : Word := 0
deriving DecidableEq, Repr

end Sys2Proof.Machine
end

