-- ==== Sys2Proof/Machine/BlocksB.lean ====
section
/-! DEFINITION. The typed state of the part, second half: slices, key engine and store, entropy. Plain data. -/

namespace Sys2Proof.Machine

/-- Slice states (R389), in the order of their codes. -/
inductive SliceState where
  | unbound | bound | draining | frozen | saving | saved | prepared | restoring | retaining
deriving DecidableEq, Repr

/-- The slice commands that keep BUSY set (R391, R400, R402). -/
inductive SliceCmd where
  | freeze | reset | remove | save | restore
deriving DecidableEq, Repr

/-- A slice that is not in its reset state (R387 to R407). -/
structure Slice where
  num     : Nat
  state   : SliceState := .unbound
  pasid   : Nat := 0
  noPasid : Bool := false
  domain  : Nat := 0
  rings   : Nat := 0
  weight  : Nat := 1
  expiry  : Nat := 1
  /-- weight and policy that a dispatch epoch has taken up (R387) -/
  effWeight : Nat := 1
  effExpiry : Nat := 1
  prev    : SliceState := .unbound
  cmd     : Option SliceCmd := none
  squash  : Bool := false
  result  : Nat := 0
  since   : Nat := 0
  nonce   : DWord := 0
  nonceSt : Nat := 0
  /-- what SAVE or RESTORE in progress will end with, and the image that RESTORE read -/
  pendingResult : Nat := 0
  image   : Bytes := []
  origin  : Option Nat := none
  keyRefs : List DWord := []
deriving DecidableEq, Repr

/-- A slot that exists (R336). -/
structure Slot where
  dom : Nat
  num : Nat
  act : Option Half := none
  sap : Option Half := none
deriving DecidableEq, Repr

/-- Domain states (R326). -/
inductive DomState where
  | empty | active | rolling
deriving DecidableEq, Repr

/-- A key domain that is not EMPTY or has a quota (R326 to R331). -/
structure Domain where
  num     : Nat
  state   : DomState := .empty
  gen     : Nat := 0
  dmk     : Bytes := []
  prevGen : Nat := 0
  prevDmk : Bytes := []
  prevValid : Bool := false
  /-- RETIRE_PREV made, the previous generation still accepted until the next key fence ends (R329) -/
  retiring : Bool := false
  newGen  : Nat := 0
  newDmk  : Bytes := []
  slotQuota : Nat := 0
  extQuota  : Nat := 0
deriving DecidableEq, Repr

/-- A grove key cache entry (R349, R351): the key, the items that pin it, and whether a commit superseded it (R348). -/
structure CacheEnt where
  grove : Nat
  dom   : Nat
  slot  : Nat
  gen   : Nat
  kb    : Bytes := []
  attr  : KeyAttr
  /-- the material, in shares (R349) -/
  shares : List Bytes
  pins  : List Nat := []
  stale : Bool := false
  ref   : Bool := true
deriving DecidableEq, Repr

/-- A load that a grove dispatcher asked the key engine for (R158, R350). -/
structure KeyLoad where
  grove : Nat
  item  : Nat
  idx   : Nat
deriving DecidableEq, Repr

/-- Key store states (R323) and BBKEK states (R362), in the order of their codes. -/
inductive StoreState where
  | uninit | ready | unreadable
deriving DecidableEq, Repr

inductive BbkekState where
  | absent | valid | erased
deriving DecidableEq, Repr

/-- A reservation for a sapling (R341): the item, its slot, whether the slot is new, and its extension blocks. -/
structure KeyResv where
  item : Nat
  dom  : Nat
  slot : Nat
  new  : Bool
  ext  : Nat
deriving DecidableEq, Repr

/-- Key engine and key store (R319 to R363, R650). -/
structure Key where
  bbkek    : BbkekState := .absent
  bbkekVal : Bytes := []
  store    : StoreState := .uninit
  /-- the check record in MRAM: the root code and BBKEK it was sealed under (R323) -/
  check    : Option (Nat × Bytes) := none
  domains  : List Domain := []
  slots    : List Slot := []
  cache    : List CacheEnt := []
  loads    : List KeyLoad := []
  resvs    : List KeyResv := []
  /-- PROMOTE in progress: domain, slot, KCV_LEN (R342) -/
  promote  : Option (Nat × Nat × Nat) := none
  slotResult : Nat := 0
  info     : Word := 0
  infoGen  : Word := 0
  domErase : Option Nat := none
  domResult : Nat := 0
  fence    : Bool := false
  waitUsers : Bool := false
  /-- slots and sequences of the items that the fence in progress waits for (R347) -/
  users    : List (Nat × Nat) := []
  reinit   : Bool := false
  /-- ID of the ceremony that a REINIT in progress ran in -/
  reinitId : DWord := 0
  storeResult : Nat := 0
  hits     : List Nat := List.replicate 12 0
  misses   : List Nat := List.replicate 12 0
deriving DecidableEq, Repr

/-- Entropy states (R375), in the order of their codes. -/
inductive RngState where
  | off | startup | running | retest | noRandomness
deriving DecidableEq, Repr

/-- Source states (R385), in the order of their codes. -/
inductive SrcState where
  | off | startup | ok | retest | failed | raw
deriving DecidableEq, Repr

/-- A noise source (R364 to R366, R383, R385). `reattach` is set while it leaves raw mode. -/
structure Source where
  num      : Nat
  state    : SrcState := .off
  lastFail : Nat := 0
  fails    : Nat := 0
  reattach : Bool := false
  /-- the repetition count test: the last sample, and how many in a row are equal to it -/
  last     : Bool := false
  run      : Nat := 0
  /-- the adaptive proportion test: the window's first sample, how many samples it has, how many are equal to the first -/
  winBit   : Bool := false
  win      : Nat := 0
  winCnt   : Nat := 0
  /-- the last 65,536 samples, newest first -/
  hist     : List Bool := []
deriving DecidableEq, Repr

/-- DRBG states (R371), in the order of their codes. -/
inductive DrbgState where
  | uninst | serving | stretching | starved | stopped
deriving DecidableEq, Repr

/-- A DRBG instance (R370 to R372). -/
structure Drbg where
  num      : Nat
  state    : DrbgState := .uninst
  reqs     : Nat := 0
  reseeds  : Nat := 0
  stretched : Nat := 0
  seedSt   : Nat := 0
  ageDue   : Bool := false
  /-- the working state of SP 800-90A: the AES-256 key and the counter block -/
  key      : Bytes := []
  v        : Nat := 0
deriving DecidableEq, Repr


/-- Entropy block (R364 to R386). `ctr` is the model's own counter of free values (log entry 7). -/
structure Rng where
  state    : RngState := .off
  cause    : Nat := 0
  /-- conditioned blocks that wait, oldest first -/
  pool     : List Bytes := []
  sources  : List Source := (List.range 24).map (fun n => { num := n })
  drbgs    : List Drbg := (List.range 13).map (fun n => { num := n })
  retestSrc : Nat := 0
  retestFromStartup : Bool := false
  settled  : Bool := false
  testsOk  : Bool := false
  startSt  : Nat := 0
  failSt   : DWord := 0
  lastFail : Option Nat := none
  cmdBusy  : Bool := false
  cmdResult : Nat := 0
  rawOn    : Bool := false
  raw      : List Bool := []
  rawOverflow : Bool := false
  ctr      : Nat := 0
deriving DecidableEq, Repr

end Sys2Proof.Machine
end

