-- ==== Sys2Proof/Config.lean ====
section
/-! DEFINITION. What an implementation or a cited standard fixes and the spec does not spell out: opaque constants
without a body, so that no proof can see a value (log entries 5 to 9, 79). Each is a function of all it may depend on. -/

namespace Sys2Proof.Config

/-- Free randomness: byte `i` of the value drawn when the model's draw counter stood at `ctr` (R364 to R370, log entry 7). -/
opaque rndByte (ctr i : Nat) : Byte
/-- A free choice that the spec leaves open, at counter `ctr`, for the thing numbered `n` (log entry 7). -/
opaque freeBool (ctr n : Nat) : Bool
/-- A free number that the spec leaves open, at counter `ctr`, for the thing numbered `n` (log entry 7). -/
opaque freeNat (ctr n : Nat) : Nat
/-- Link retransmissions that a port has counted at an ST: no rule says when a frame is lost on the wire (R409, R442, log
entry 49). -/
opaque portRetries (st port : Nat) : BitVec 32
/-- MINOR of HIF_DEV_REV, fixed per unit (R2). -/
opaque minorRev : BitVec 8
/-- The 128-bit unit ID, per unit (R541). -/
opaque unitId : BitVec 128
/-- ROM microcode revision, per unit (R282). -/
opaque romRev : BitVec 16
/-- Identity certificate bytes of the selected root (R361); zero beyond its length. -/
opaque idCertByte (root i : Nat) : Byte

/-! Two-hash table engine (R102): the keyed hash functions and the choice of the entry to relocate. -/
/-- First candidate bucket of a key under hash key `hk` (R102). -/
opaque bucketA (hk k1 k2 : Nat) : Nat
/-- Second candidate bucket (R102). -/
opaque bucketB (hk k1 k2 : Nat) : Nat
/-- Which of the four occupants of a full bucket is relocated at move `m` (R102). -/
opaque victim (hk k1 k2 m : Nat) : Nat

/-! Ciphers and hashes, by their standards. -/
/-- AES block cipher, `dec` for decryption, key of 16, 24 or 32 bytes. -/
opaque aes (dec : Bool) (key : Bytes) (blk : BitVec 128) : BitVec 128
/-- DES block cipher under 8 key bytes; TDES is three of its passes. -/
opaque des (dec : Bool) (key : Bytes) (blk : BitVec 64) : BitVec 64
/-- Hash functions by the code of R269 (0x01 to 0x08; 0x15 and 0x16 for the cSHAKE of KMAC): byte `i` of the first chaining
state, which for KMAC holds its key and customisation. -/
opaque hashInit (alg : Nat) (key cust : Bytes) (i : Nat) : Byte
/-- Byte `i` of the chaining state after one more block. -/
opaque hashStep (alg : Nat) (st blk : Bytes) (i : Nat) : Byte
/-- Byte `i` of the digest of `len` bytes, from the chaining state, the bytes of the last, incomplete block and the number of
bytes in all. -/
opaque hashFin (alg : Nat) (st rest : Bytes) (total len i : Nat) : Byte
/-- SHA-1, for EMV option B alone (R211). -/
opaque sha1Byte (msg : Bytes) (i : Nat) : Byte
/-- Byte `i` of the state of a stream under padding method 3, by the message so far (R272, log entry 28). -/
opaque longStateByte (msg : Bytes) (i : Nat) : Byte
/-- The message that such a state stands for. -/
opaque longMsg (st : Bytes) : Bytes

/-- The sealed material of a slot record, by the slot seal key, the generation and the material (R437): its layout is not
given. -/
opaque slotSealByte : Bytes → Nat → Bytes → Nat → Byte

/-! What the lanes hold of an item while it runs (R243, R259, log entry 81). -/
/-- Byte `i` of the cipher or digest state of a part after `ns` of its lane time. -/
opaque laneStateByte (desc input : Bytes) (keys : List Bytes) (ns i : Nat) : Byte
/-- Positions in a part after `ns` of its lane time: 0 of the sequencer, 1 in the input, 2 in the output. -/
opaque lanePos (desc : Bytes) (ns what : Nat) : Nat
/-- The 64-bit signature of the microcode addresses and branch outcomes of a verb, by patch level. -/
opaque seqSig (level : Nat) (desc : Bytes) : BitVec 64

/-! Derivations of the cited standards that are not written out. -/
/-- EMV derivations of an AES key by options A and B and by ARPC method 1, which EMV Book 2 gives for TDES, byte `i` (R211,
R215, log entry 79): 0 card key by option A, 1 card key by option B, 2 ARPC. -/
opaque emvAesByte (what : Nat) (key data : Bytes) (i : Nat) : Byte
/-- AES DUKPT working key (ANSI X9.24-3), purpose 0 PIN encryption, 1 MAC verification, 2 initial key, byte `i` (R228). -/
opaque dukptAesByte (bdk ksn : Bytes) (alg purpose i : Nat) : Byte
/-- TDES DUKPT variant key (ANSI X9.24-1), purpose 0 PIN, 1 MAC request, byte `i` (R228). -/
opaque dukptTdesByte (bdk ksn : Bytes) (purpose i : Nat) : Byte
/-- The method byte of the optional block KC of ANSI X9.143, by the method of R190. -/
opaque kcCode (method : Nat) : Byte

/-! Public-key and lattice operations (R292 to R299). -/
/-- Parameters p, a, b, Gx, Gy and n of a named curve, by algorithm ID (R292), index 0 to 5. -/
opaque curveParam (alg idx : Nat) : Nat
/-- A square root modulo a prime that is 1 modulo 4. -/
opaque sqrtMod (p a : Nat) : Nat
/-- The nonce of RFC 6979 with additional data (R298). -/
opaque rfc6979 (n d hashAlg : Nat) (hash extra : Bytes) : Nat
/-- Prime factor 0 or 1 of a generated RSA key, by modulus bits and exponent (R294, R307). -/
opaque rsaPrime (bits e : Nat) (rnd : Bytes) (which : Nat) : Nat
/-- Scalar of a generated pair, from 1 below n (R289). -/
opaque ecScalar (n : Nat) (rnd : Bytes) : Nat
/-- FIPS 203: byte `i` of the encapsulation key of a seed, of the ciphertext of a message, of the secret that encapsulation
gives, and of the one that decapsulation gives. -/
opaque kemEkByte (alg : Nat) (seed : Bytes) (i : Nat) : Byte
opaque kemCtByte (alg : Nat) (ek m : Bytes) (i : Nat) : Byte
opaque kemSecByte (alg : Nat) (ek m : Bytes) (i : Nat) : Byte
opaque kemDecByte (alg : Nat) (seed ct : Bytes) (i : Nat) : Byte
/-- FIPS 204: byte `i` of the public key of a seed and of a signature, and verification. -/
opaque dsaPkByte (alg : Nat) (seed : Bytes) (i : Nat) : Byte
opaque dsaSigByte (alg : Nat) (seed ctx msg rnd : Bytes) (i : Nat) : Byte
opaque dsaVerify (alg : Nat) (pk sig ctx msg : Bytes) : Bool
/-- FIPS 205: verification. -/
opaque slhVerify (alg : Nat) (pk sig ctx msg : Bytes) : Bool
/-- Byte `i` of the key input that two units agree on in one exchange of the FABRIC method, by their unit IDs and the nonce
(R398). -/
opaque fabricSecByte (src tgt nonce : Bytes) (i : Nat) : Byte

/-! The device's identity. -/
/-- Byte `i` of the FACTORY (1), FIELD (2) or RETURN (3) root that the part's fuses hold (R319, R570). -/
opaque rootByte (root i : Nat) : Byte
/-- Byte `i` of the fuse group of the Nymjor service key: its P-384 public key (97 bytes), then the SHA-384 of its ML-DSA-65
public key (R570). -/
opaque nymjorByte (i : Nat) : Byte

end Sys2Proof.Config
end

