-- ==== Sys2Proof/Machine/Operands.lean ====
section
/-! DEFINITION. Operand forms: bit fields of registers (R5), byte order (R10), octet-string helpers, and the free
values of `Config` as octet strings. -/

namespace Sys2Proof.Machine

/-- Bits `hi` to `lo` of a register, as a number. -/
def fld (v : Word) (hi lo : Nat) : Nat := (v.toNat >>> lo) % 2 ^ (hi + 1 - lo)

/-- Bit `i` of a register. -/
def bit (v : Word) (i : Nat) : Bool := v.getLsbD i

/-- A flag as a number. -/
def b2n (b : Bool) : Nat := if b then 1 else 0

/-- A register from its fields: (lowest bit, value) pairs that do not overlap. -/
def packW (l : List (Nat × Nat)) : Word := BitVec.ofNat 32 (l.foldl (fun a p => a + p.2 * 2 ^ p.1) 0)

/-- Saturation at `m`. -/
def sat (m v : Nat) : Nat := if v ≤ m then v else m

/-- Low half of a 64-bit quantity (R8). -/
def loW (v : Nat) : Word := BitVec.ofNat 32 v
/-- High half of a 64-bit quantity (R8). -/
def hiW (v : Nat) : Word := BitVec.ofNat 32 (v / 2 ^ 32)

/-- `n` bytes at `off`, little-endian (R10); bytes that are not there count as 0. -/
def le (b : Bytes) (off : Nat) : Nat → Nat
  | 0 => 0
  | n + 1 => (b.getD off 0).toNat + 256 * le b (off + 1) n

/-- `n` bytes at `off`. -/
def bsub (b : Bytes) (off n : Nat) : Bytes := (b.drop off).take n

/-- Byte at `off` as a number. -/
def byteAt (b : Bytes) (off : Nat) : Nat := (b.getD off 0).toNat

/-- An octet string as a big-endian number (R293). -/
def beNat (b : Bytes) : Nat := b.foldl (fun a x => a * 256 + x.toNat) 0

/-- `n` bytes of a number, little-endian (R10). -/
def toLe (n v : Nat) : Bytes := (List.range n).map (fun i => BitVec.ofNat 8 (v / 256 ^ i))

/-- `n` bytes of a number, big-endian. -/
def toBe (n v : Nat) : Bytes := (List.range n).map (fun i => BitVec.ofNat 8 (v / 256 ^ (n - 1 - i)))

/-- `n` zero bytes. -/
def zeros (n : Nat) : Bytes := List.replicate n 0

/-- An octet string padded with zero bytes to `n`. -/
def padTo (n : Nat) (b : Bytes) : Bytes := b ++ zeros (n - b.length)

/-- Whether every byte is 0. -/
def allZero (b : Bytes) : Bool := b.all (· == 0)

/-- Bytewise exclusive or. -/
def bxor (a b : Bytes) : Bytes := List.zipWith (· ^^^ ·) a b

/-- An octet string from a byte-indexed function. -/
def mkBytes (n : Nat) (f : Nat → Byte) : Bytes := (List.range n).map f

/-- High and low nibble. -/
def hiNib (b : Byte) : Nat := b.toNat / 16
/-- Low nibble. -/
def loNib (b : Byte) : Nat := b.toNat % 16

/-- The nibbles of an octet string, most significant first (R189). -/
def nibbles (b : Bytes) : List Nat := b.flatMap (fun x => [hiNib x, loNib x])

/-- Octets from nibbles, two a byte. -/
def ofNibbles : List Nat → Bytes
  | a :: b :: t => BitVec.ofNat 8 (a * 16 + b) :: ofNibbles t
  | [a] => [BitVec.ofNat 8 (a * 16)]
  | [] => []

/-- The lowest-numbered element that has a property. -/
def findIdx0 (l : List α) (p : α → Bool) : Option Nat :=
  let i := l.findIdx p
  if i < l.length then some i else none

/-- Change the elements that have a property. -/
def updWhere (p : α → Bool) (f : α → α) (l : List α) : List α := l.map (fun x => if p x then f x else x)

/-- Change the first element that has a property, or append a new one. -/
def upsert (p : α → Bool) (new : α) (f : α → α) (l : List α) : List α :=
  if l.any p then updWhere p f l else l ++ [f new]

/-- The element with the smallest measure; of equals, the first. -/
def minBy (m : α → Nat) : List α → Option α
  | [] => none
  | a :: t => match minBy m t with
    | none => some a
    | some b => if m a ≤ m b then some a else some b

/-- ceil(a / b). -/
def ceilDiv (a b : Nat) : Nat := (a + b - 1) / b

end Sys2Proof.Machine
end

