-- ==== Sys2Proof/Machine/Verb.lean ====
section
/-! DEFINITION. Descriptors and the checks made on them before dispatch: the fetch checks of R51, R52, R78 and R146, and
steps A2 to A6 of R192, R276 and R300 for every opcode of R77, R184, R264 and R295. Everything here is a function of the
descriptor and of what the DMA reads returned. -/

namespace Sys2Proof.Machine

/-! ### Descriptor fields (R47, R48) -/

abbrev Desc := Bytes
def Desc.op (d : Desc) : Nat := le d 0 2
def Desc.flags (d : Desc) : Nat := le d 2 2
def Desc.flow (d : Desc) : Nat := le d 4 4
def Desc.rid (d : Desc) : Nat := le d 8 8
def Desc.deadline (d : Desc) : Nat := le d 16 8
def Desc.chain (d : Desc) : Nat := byteAt d 24
def Desc.pred (d : Desc) : Nat := byteAt d 25
def Desc.barrier (d : Desc) : Nat := le d 26 2
def Desc.inLen (d : Desc) : Nat := le d 28 4
def Desc.inPtr (d : Desc) : Nat := le d 32 8
def Desc.outLen (d : Desc) : Nat := le d 40 4
def Desc.outPtr (d : Desc) : Nat := le d 48 8
def Desc.key1 (d : Desc) : Nat := le d 56 8
def Desc.key2 (d : Desc) : Nat := le d 64 8
def Desc.deadlineRel (d : Desc) : Bool := d.flags % 2 == 1
def Desc.irqNow (d : Desc) : Bool := d.flags / 2 % 2 == 1
def Desc.directInput (d : Desc) : Bool := d.flags / 4 % 2 == 1
def Desc.outputSgl (d : Desc) : Bool := d.flags / 8 % 2 == 1
/-- Key-block lengths (R187). -/
def Desc.kb1 (d : Desc) : Nat := le d 72 2
def Desc.kb2 (d : Desc) : Nat := le d 74 2
/-- Verb data length (R187), where the key blocks fit the input. -/
def Desc.dlen (d : Desc) : Nat := d.inLen - (d.kb1 + d.kb2)
/-- A parameter byte. -/
def Desc.p (d : Desc) (n : Nat) : Nat := byteAt d n
/-- A two-character code, first character first (R189). -/
def Desc.chars (d : Desc) (n : Nat) : Nat := byteAt d n * 256 + byteAt d (n + 1)
/-- Bytes `off` to `off + n - 1` are 0. -/
def Desc.z (d : Desc) (off n : Nat) : Bool := allZero (bsub d off n)
/-- The class and whether it is a control descriptor (R77). -/
def Desc.cls (d : Desc) : Nat := d.op / 256
def Desc.isControl (d : Desc) : Bool := d.cls == 0

/-! ### Key handles (R332, R334) -/

def hDom (h : Nat) : Nat := h / 2 ^ 48 % 1024
def hSlot (h : Nat) : Nat := h / 2 ^ 32 % 65536
def hGen (h : Nat) : Nat := h % 2 ^ 32
/-- A non-zero handle that names nothing by its form (R332). -/
def hBad (h : Nat) : Bool := h != 0 && (h / 2 ^ 58 != 0 || hSlot h == 0)
/-- A handle of a key block in the input. -/
def hIsKb (h : Nat) : Bool := h != 0 && hSlot h == 0xFFFF
/-- A handle of a persistent slot. -/
def hIsSlot (h : Nat) : Bool := h / 2 ^ 58 == 0 && 1 ≤ hSlot h && decide (hSlot h ≤ 0xFFFD)
/-- A target slot (R334). -/
def hIsTarget (h : Nat) : Bool := hIsSlot h && hGen h == 0
/-- Two handles name the same slot. -/
def hSameSlot (a b : Nat) : Bool := hDom a == hDom b && hSlot a == hSlot b

/-- What a verb asks of a handle at step A2. -/
inductive HReq where
  | none | key | opt | slot | target | optTarget
deriving DecidableEq, Repr

def HReq.ok (r : HReq) (h : Nat) : Bool :=
  match r with
  | .none => h == 0
  | .key => h != 0 && !hBad h
  | .opt => !hBad h
  | .slot => hIsSlot h
  | .target => hIsTarget h
  | .optTarget => h == 0 || hIsTarget h

/-! ### Defined opcodes (R77, R184, R264, R295, R382) -/

def paymentOps : List Nat :=
  [0x0101, 0x0102, 0x0103, 0x0104, 0x0201, 0x0202, 0x0203, 0x0204, 0x0301, 0x0302, 0x0401, 0x0402, 0x0403, 0x0404, 0x0405,
   0x0410, 0x0411, 0x0501, 0x0502, 0x0503, 0x0511, 0x0512]
def bulkOps : List Nat := [0x0601, 0x0602, 0x0603, 0x0604, 0x0605, 0x0606, 0x0607, 0x0611, 0x0612]
def digestOps : List Nat := [0x0701, 0x0702, 0x0703, 0x0710]
def pkeOps : List Nat :=
  [0x0801, 0x0802, 0x0803, 0x0804, 0x0810, 0x0811, 0x0812, 0x0813, 0x0814, 0x0820, 0x0821, 0x0901, 0x0902, 0x0903, 0x0910,
   0x0911, 0x0912, 0x0920]
def Desc.isDefined (d : Desc) : Bool :=
  decide (d.op ≤ 3) || paymentOps.contains d.op || bulkOps.contains d.op || digestOps.contains d.op || pkeOps.contains d.op
    || d.op == 0x0A01
/-- A verb with an engine phase (R185, R285). -/
def Desc.usesEngine (d : Desc) : Bool := (pkeOps.contains d.op && d.op != 0x0920) || d.op == 0x0410 || d.op == 0x0411

/-! ### Scatter lists (R50) -/

/-- What a walk along a list finds: its data end before LAST, a broken list, or the total. -/
inductive Sgl where
  | short | bad | total (n : Nat)
deriving DecidableEq, Repr

def sglWalk : Nat → Nat → Bytes → Sgl
  | 0, _, _ => .bad
  | n + 1, acc, b =>
    if b.length < 16 then .short
    else
      let fl := le b 12 4
      if 2 ≤ fl then .bad
      else if fl = 1 then .total (acc + le b 8 4)
      else sglWalk n (acc + le b 8 4) (b.drop 16)

/-- A list read as check 4 and check 5 of R51 see it. -/
def sglRead (r : DmaRead) : Sgl := if r.refused || r.failed then .short else sglWalk 4096 0 r.data

/-! ### Steps A2 to A6 -/

/-- Output length of a PIN block format (R200). -/
def pinLen (f : Nat) : Nat := if f = 4 then 16 else 8
/-- The format codes. -/
def pinFmt (f : Nat) : Bool := [0, 1, 3, 4].contains f

/-- Step A2: the two handles (R184, R264, R295). -/
def Desc.handleReq (d : Desc) : HReq × HReq :=
  let o := d.op
  if [0x0101, 0x0102, 0x0103, 0x0104, 0x0403, 0x0501, 0x0503, 0x0511, 0x0606, 0x0607].contains o then (.key, .key)
  else if o = 0x0401 then (.key, .target)
  else if o = 0x0402 then (.slot, .key)
  else if o = 0x0404 then (.opt, .optTarget)
  else if o = 0x0410 ∨ o = 0x0411 then (.slot, .slot)
  else if o = 0x0701 ∨ o = 0x0710 ∨ o = 0x0920 ∨ o = 0x0A01 then (.none, .none)
  else if o = 0x0803 ∨ o = 0x0814 ∨ o = 0x0903 then (.key, .target)
  else if o = 0x0804 then (.slot, .slot)
  else if o = 0x0802 ∨ o = 0x0811 ∨ o = 0x0813 ∨ o = 0x0912 then (.opt, .none)
  else if o = 0x0820 ∨ o = 0x0901 ∨ o = 0x0910 then (.target, .none)
  else if o = 0x0821 then (.slot, .none)
  else if o = 0x0902 then (.opt, .target)
  else (.key, .none)

/-- The target slot of a verb that writes one: domain and slot (R184, R225, R295). -/
def Desc.target? (d : Desc) : Option (Nat × Nat) :=
  let o := d.op
  if [0x0401, 0x0803, 0x0814, 0x0902, 0x0903].contains o then some (hDom d.key2, hSlot d.key2)
  else if o = 0x0404 then (if d.key2 = 0 then none else some (hDom d.key2, hSlot d.key2))
  else if o = 0x0410 ∨ o = 0x0411 then some (hDom d.key1, le d 84 2)
  else if o = 0x0820 ∨ o = 0x0901 ∨ o = 0x0910 then some (hDom d.key1, hSlot d.key1)
  else none

/-- A target slot differs from every key of the item (R192, A2). -/
def Desc.targetDiffers (d : Desc) : Bool :=
  let o := d.op
  match d.target? with
  | none => true
  | some t =>
    if o = 0x0820 ∨ o = 0x0901 ∨ o = 0x0910 then true
    else if o = 0x0410 ∨ o = 0x0411 then (hDom d.key1, hSlot d.key1) != t && (hDom d.key2, hSlot d.key2) != t
    else d.key1 == 0 || (hDom d.key1, hSlot d.key1) != t

def Desc.stepA2 (d : Desc) : Bool :=
  let r := d.handleReq
  r.1.ok d.key1 && r.2.ok d.key2 && d.targetDiffers
    && (if d.op = 0x0404 then d.key1 != 0 || d.key2 != 0 else true)
    && (if d.op = 0x0606 ∨ d.op = 0x0607 then d.key1 != d.key2 else true)

/-- Step A3: a key-block length per handle (R188). -/
def kbLenOk (h l : Nat) : Bool := if hIsKb h then decide (16 ≤ l ∧ l ≤ 4096) else l == 0

/-- The first of a list of checks that fails, as its sub-status. -/
def firstBad : List (Bool × Nat) → Option Nat
  | [] => none
  | (ok, code) :: t => if ok then firstBad t else some code

/-- Decimalisation table (R205). -/
def dectabOk (d : Desc) (off : Nat) : Bool :=
  let t := bsub d off 16
  t.all (fun b => decide (b.toNat ≤ 9)) && (List.range 10).all (fun v => t.any (fun b => b.toNat == v))

/-- The key-block usages of ANSI X9.143 for symmetric keys (R189, R221; log entry 18): usage, the key algorithms that may
carry it and the modes it allows. -/
def usageTable : List (Nat × List Nat × List Nat) :=
  let tdes := [0x01, 0x02]
  let sym := [0x01, 0x02, 0x11, 0x12, 0x13]
  let bde := [0x42, 0x44, 0x45]
  let cgv := [0x43, 0x47, 0x56]
  -- B0 to B3, C0, D0 to D3
  [0x4230, 0x4231, 0x4232, 0x4233].map (fun u => (u, sym, [0x58])) ++ [(0x4330, sym, cgv)]
    ++ [0x4430, 0x4432, 0x4433].map (fun u => (u, sym, bde))
    -- E0 to E6, I0, K0, K1, K4
    ++ [0x4530, 0x4531, 0x4532, 0x4533, 0x4534, 0x4535, 0x4536].map (fun u => (u, sym, [0x58])) ++ [(0x4930, sym, [0x4E])]
    ++ [0x4B30, 0x4B31, 0x4B34].map (fun u => (u, sym, bde))
    -- M0 to M5 and M8 of TDES, M6, M7
    ++ [0x4D30, 0x4D31, 0x4D32, 0x4D33, 0x4D34, 0x4D35, 0x4D38].map (fun u => (u, tdes, cgv)) ++ [(0x4D36, sym, cgv), (0x4D37, [0x21], cgv)]
    -- P0, V0 to V4
    ++ [(0x5030, sym, bde)] ++ [0x5630, 0x5631, 0x5632, 0x5633, 0x5634].map (fun u => (u, sym, cgv))

/-- Usage, mode and exportability that an algorithm can carry (R221). -/
def attrsOk (alg usage mode exp : Nat) : Bool :=
  (usageTable.any (fun r => r.1 == usage && r.2.1.contains alg && r.2.2.contains mode)) && (exp == 0x45 || exp == 0x4E)

/-- Output key attributes of the hybrid, derive and unwrap verbs (R225, R296). -/
def deriveAttrsOk (alg usage mode exp kcv : Nat) : Bool :=
  (alg == 0x11 || alg == 0x13) && [0x4B30, 0x4B31, 0x5030, 0x4D36, 0x4430].contains usage
    && attrsOk alg usage mode exp && decide (3 ≤ kcv ∧ kcv ≤ 8)

/-- Attributes of a generated key pair (R295; log entry 18). -/
def pairAttrsOk (usage mode exp : Nat) : Bool :=
  ((usage == 0x5330 && [0x53, 0x56].contains mode) || (usage == 0x4431 && [0x42, 0x44, 0x45].contains mode)
    || (usage == 0x4B33 && [0x42, 0x44, 0x45, 0x58].contains mode)) && (exp == 0x45 || exp == 0x4E)

def kcvParams (d : Desc) (off : Nat) : List (Bool × Nat) :=
  [(decide (d.p off ≤ 3), 0x40), (d.p (off + 1) == 0 || decide (3 ≤ d.p (off + 1) ∧ d.p (off + 1) ≤ 8), 0x40)]

/-- PIN format pairs (R201). -/
def pinPair (a b : Nat) : Bool := a == 1 || b != 1

/-- Step A4 of the payment classes (R202 to R229). -/
def payParams (d : Desc) : List (Bool × Nat) :=
  let o := d.op
  let p := d.p
  if o = 0x0101 then
    [(pinFmt (p 76), 0x40), (pinFmt (p 77), 0x40), (decide (p 78 ≤ 1), 0x41), (d.z 79 49, 0x41), (pinPair (p 76) (p 77), 0x44),
     (!(p 78 == 1 && p 77 == 1), 0x40)]
  else if o = 0x0102 ∨ o = 0x0104 then
    [(pinFmt (p 76), 0x40), (decide (4 ≤ p 77 ∧ p 77 ≤ 12), 0x40), (d.z 94 34, 0x41), (dectabOk d 78, 0x46)]
  else if o = 0x0103 then [(pinFmt (p 76), 0x40), (d.z 77 51, 0x41)]
  else if o = 0x0201 then
    [(decide (p 76 ≤ 2), 0x40), (decide (p 77 < 8), 0x41), (decide (p 78 ≤ (if p 76 = 2 then 8 else 0)), 0x40), (d.z 79 49, 0x41)]
  else if o = 0x0202 ∨ o = 0x0203 then [(decide (3 ≤ p 76 ∧ p 76 ≤ 5), 0x40), (d.z 77 51, 0x41)]
  else if o = 0x0204 then [(decide (3 ≤ p 76 ∧ p 76 ≤ 5), 0x40), (decide (p 77 < 2), 0x41), (d.z 78 50, 0x41)]
  else if o = 0x0301 ∨ o = 0x0302 then
    let iso := p 76 == 1 || p 76 == 3
    let dig := if p 78 = 1 then 32 else if p 78 = 2 then 48 else if p 78 = 3 then 64 else 32
    [([1, 3, 6, 7].contains (p 76), 0x40), (if iso then decide (1 ≤ p 77 ∧ p 77 ≤ 3) else p 77 == 0, 0x40),
     (if p 76 = 7 then decide (1 ≤ p 78 ∧ p 78 ≤ 4) else p 78 == 0, 0x40),
     (if iso then decide (4 ≤ p 79 ∧ p 79 ≤ 8) else if p 76 = 6 then decide (4 ≤ p 79 ∧ p 79 ≤ 16) else decide (8 ≤ p 79 ∧ p 79 ≤ dig), 0x40),
     (d.z 80 48, 0x41)]
  else if o = 0x0401 ∨ o = 0x0405 then kcvParams d 76 ++ [(d.z 78 50, 0x41)]
  else if o = 0x0402 ∨ o = 0x0403 then [(d.z 76 52, 0x41)]
  else if o = 0x0404 then
    [([1, 2, 0x11, 0x12, 0x13, 0x21].contains (p 76), 0x40)] ++ kcvParams d 81
      ++ [(d.z 83 45, 0x41), (attrsOk (p 76) (d.chars 77) (p 79) (p 80), 0x47)]
  else if o = 0x0410 ∨ o = 0x0411 then
    [(d.z 83 1, 0x41), (decide (1 ≤ le d 84 2 ∧ le d 84 2 ≤ 0xFFFD), 0x40), (o == 0x0411 || d.z 118 8, 0x41), (d.z 126 2, 0x41),
     (decide (1 ≤ p 76 ∧ p 76 ≤ 3), 0x47), (deriveAttrsOk (p 77) (d.chars 78) (p 80) (p 81) (p 82), 0x47)]
  else if o = 0x0501 then
    [([0x11, 0x12, 0x13].contains (p 76), 0x40), (d.z 78 50, 0x41), ([0, 3, 4].contains (p 77), 0x44)]
  else if o = 0x0502 then
    [([0x11, 0x12, 0x13].contains (p 76), 0x40), (decide (4 ≤ p 77 ∧ p 77 ≤ 16), 0x40), (d.z 78 50, 0x41)]
  else if o = 0x0503 then
    [([0x11, 0x12, 0x13].contains (p 76), 0x40), (p 77 == 0x4E || p 77 == 0x45, 0x40), (d.z 78 50, 0x41)]
  else if o = 0x0511 then [(d.z 78 50, 0x41), ([0, 3].contains (p 76) && [0, 3, 4].contains (p 77), 0x44)]
  else if o = 0x0512 then [(decide (4 ≤ p 76 ∧ p 76 ≤ 8), 0x40), (decide (1 ≤ p 77 ∧ p 77 ≤ 2), 0x40), (d.z 78 50, 0x41)]
  else []

/-- Part codes (R265). -/
def hasState (part : Nat) : Bool := part == 2 || part == 3
def putsState (part : Nat) : Bool := part == 1 || part == 2
def isFinal (part : Nat) : Bool := part == 0 || part == 3

/-- Kinds of the bulk verbs. -/
def isGcm (o : Nat) : Bool := o == 0x0604 || o == 0x0605
def isXts (o : Nat) : Bool := o == 0x0606 || o == 0x0607
def isCbcEnc (o : Nat) : Bool := o == 0x0602 || o == 0x0611
def isTdesCbc (o : Nat) : Bool := o == 0x0611 || o == 0x0612
def isGcmDec (o : Nat) : Bool := o == 0x0605
/-- PAD chosen, and the AAD length that the part carries (R268). -/
def Desc.padOn (d : Desc) : Bool := d.p 77 / 4 % 2 == 1
def Desc.aad (d : Desc) : Nat := if isGcm d.op && (d.p 76 == 0 || d.p 76 == 1) then le d 80 4 else 0

/-- Step A4 of class 0x06 (R268; log entry 19). -/
def bulkParams (d : Desc) : List (Bool × Nat) :=
  let o := d.op
  let p := d.p
  let part := p 76
  let first := part == 0 || part == 1
  let ctr := o == 0x0601
  [(decide (part ≤ 3) && (!isXts o || part == 0), 0x40),
   (decide (p 77 < 8), 0x41),
   ((if ctr then p 77 % 4 != 3 else p 77 % 4 == 0) && (p 77 / 4 % 2 == 0 || (isCbcEnc o && isFinal part)), 0x40),
   (if isGcm o then decide (12 ≤ p 78 ∧ p 78 ≤ 16) else p 78 == 0, 0x40),
   (d.z 79 1, 0x41),
   (if isGcm o && first then decide (le d 80 4 ≤ 65536) else le d 80 4 == 0, 0x40),
   (if isXts o then decide (16 ≤ le d 84 4 ∧ le d 84 4 ≤ 262144) else le d 84 4 == 0, 0x40),
   (if !first then d.z 88 16 else if isGcm o then d.z 100 4 else if isTdesCbc o then d.z 96 8 else true, 0x40),
   (d.z 104 24, 0x41)]

/-- The output lengths of the class 0x07 algorithms: least and greatest, unkeyed flag (R269). -/
def digestRange (compare : Bool) (alg : Nat) : Option (Nat × Nat) :=
  if alg = 1 ∨ alg = 4 then some (32, 32) else if alg = 2 ∨ alg = 5 then some (48, 48) else if alg = 3 ∨ alg = 6 then some (64, 64)
  else if alg = 7 ∨ alg = 8 then some (1, if compare then 64 else 256) else none
def macRange (alg : Nat) : Option (Nat × Nat) :=
  if alg = 0x10 then some (4, 16) else if alg = 0x11 ∨ alg = 0x14 then some (8, 32) else if alg = 0x12 then some (8, 48)
  else if alg = 0x13 then some (8, 64) else if alg = 0x15 ∨ alg = 0x16 then some (4, 64)
  else if alg = 0x17 ∨ alg = 0x18 then some (4, 8) else none

/-- Step A4 of class 0x07 (R269; log entry 19). -/
def digestParams (d : Desc) : List (Bool × Nat) :=
  let o := d.op
  let alg := d.p 77
  let len := le d 78 2
  let r := if o = 0x0701 ∨ o = 0x0710 then digestRange (o == 0x0710) alg else macRange alg
  let kmac := alg == 0x15 || alg == 0x16
  let n := d.p 81
  [(decide (d.p 76 ≤ 3), 0x40), (r.isSome, 0x40), (r.elim false (fun q => decide (q.1 ≤ len ∧ len ≤ q.2)), 0x40),
   (if alg = 0x17 ∨ alg = 0x18 then decide (1 ≤ d.p 80 ∧ d.p 80 ≤ 3) else d.p 80 == 0, 0x40),
   (if kmac then decide (n ≤ 32) else n == 0, 0x40), (d.z 82 14, 0x41),
   (if kmac then d.z (96 + n) (32 - n) else d.z 96 32, 0x40)]

/-! Public-key parameters (R292, R295, R296, R301). -/
def isCurve (a : Nat) : Bool := decide (1 ≤ a ∧ a ≤ 6)
def isKem (a : Nat) : Bool := decide (0x30 ≤ a ∧ a ≤ 0x32)
def isDsa (a : Nat) : Bool := decide (0x40 ≤ a ∧ a ≤ 0x42)
def isSlh (a : Nat) : Bool := decide (0x50 ≤ a ∧ a ≤ 0x57)
def algFits (o a : Nat) : Bool :=
  if o ≤ 0x0804 then a == 0x20
  else if o = 0x0810 ∨ o = 0x0811 then isCurve a
  else if o = 0x0812 ∨ o = 0x0813 then a == 0x10
  else if o = 0x0814 then isCurve a || a == 0x11
  else if o = 0x0820 then isCurve a || a == 0x10 || a == 0x11 || a == 0x20
  else if o = 0x0821 then isCurve a || a == 0x10 || a == 0x11 || a == 0x20 || isKem a || isDsa a
  else if o ≤ 0x0903 then isKem a
  else if o ≤ 0x0912 then isDsa a
  else isSlh a

/-- Hash length of a code of R216. -/
def hashLen (h : Nat) : Nat := if h = 1 ∨ h = 4 then 32 else if h = 2 then 48 else if h = 3 then 64 else 0

def pkeParams (d : Desc) : List (Bool × Nat) :=
  let o := d.op
  let p := d.p
  let a := p 76
  let rsaSig := o == 0x0801 || o == 0x0802
  let ecSig := o == 0x0810 || o == 0x0811
  let wrap := o == 0x0803 || o == 0x0804
  let derive := [0x0803, 0x0814, 0x0902, 0x0903].contains o
  let gen := [0x0820, 0x0901, 0x0910].contains o
  let noKeyRsa := o == 0x0802 && d.key1 == 0
  let genRsa := o == 0x0820 && a == 0x20
  let sized := noKeyRsa || genRsa || a == 6
  let ctx := [0x0911, 0x0912, 0x0920].contains o
  let party := [0x0814, 0x0902, 0x0903].contains o
  let sz := le d 80 2
  let ex := le d 92 8
  [(algFits o a, 0x40),
   (if rsaSig then p 77 == 1 || p 77 == 2 else if wrap then p 77 == 3 else if o = 0x0911 then decide (p 77 ≤ 1) else p 77 == 0, 0x40),
   (if rsaSig || ecSig || wrap then decide (1 ≤ p 78 ∧ p 78 ≤ 4) else p 78 == 0, 0x40),
   (if rsaSig || ecSig then decide (p 79 ≤ 1) else p 79 == 0, 0x40),
   (if noKeyRsa then decide (1024 ≤ sz ∧ sz ≤ 8192) else if genRsa then decide (2048 ≤ sz ∧ sz ≤ 8192 ∧ sz % 64 = 0)
    else if a = 6 then decide (192 ≤ sz ∧ sz ≤ 576) else sz == 0, if sized then 0x4C else 0x41),
   (if rsaSig && p 77 == 2 then decide (p 82 ≤ hashLen (p 78)) else p 82 == 0, 0x40),
   (d.z 83 1, 0x41),
   (derive || p 84 == 0, 0x41), (derive || gen || d.z 85 4, 0x41), (derive || p 89 == 0, 0x41), (d.z 90 2, 0x41),
   (if noKeyRsa then decide (3 ≤ ex) && ex % 2 == 1 else if genRsa then ex == 0 || (decide (65537 ≤ ex) && ex % 2 == 1) else ex == 0,
    if noKeyRsa || genRsa then 0x40 else 0x41),
   (ctx || p 100 == 0, 0x41), (d.z 101 3, 0x41), (party || d.z 104 24, 0x41),
   (!derive || deriveAttrsOk (p 84) (d.chars 85) (p 87) (p 88) (p 89), 0x47),
   (!gen || pairAttrsOk (d.chars 85) (p 87) (p 88), 0x47)]

/-- Sizes of R292: field length, lattice and hash-based keys, ciphertexts and signatures. -/
def curveL (d : Desc) : Nat :=
  let a := d.p 76
  if a = 1 ∨ a = 4 then 32 else if a = 2 ∨ a = 5 then 48 else if a = 3 then 66 else ceilDiv (le d 80 2) 8
def kemEk (a : Nat) : Nat := if a = 0x30 then 800 else if a = 0x31 then 1184 else 1568
def kemCt (a : Nat) : Nat := if a = 0x30 then 768 else if a = 0x31 then 1088 else 1568
def dsaPk (a : Nat) : Nat := if a = 0x40 then 1312 else if a = 0x41 then 1952 else 2592
def dsaSig (a : Nat) : Nat := if a = 0x40 then 2420 else if a = 0x41 then 3309 else 4627
def slhPk (a : Nat) : Nat := if a < 0x54 then 32 else if a < 0x56 then 48 else 64
/-- FIPS 205 signature lengths of the eight sets. -/
def slhSig (a : Nat) : Nat :=
  if a = 0x50 ∨ a = 0x51 then 7856 else if a = 0x52 ∨ a = 0x53 then 17088 else if a = 0x54 ∨ a = 0x55 then 16224 else 29792
/-- Hybrid suites (R224): EI and ciphertext lengths. -/
def suiteEi (s : Nat) : Nat := if s = 1 then 65 else if s = 2 then 97 else 32
def suiteCt (s : Nat) : Nat := if s = 2 then 1568 else 1088
/-- Curve block length (R293). -/
def curveBlk (d : Desc) : Nat := if d.p 76 = 6 then 6 * curveL d + 1 else 0
/-- Least and greatest length of a point: compressed and uncompressed, or the infinity byte (R293). -/
def ptLens (d : Desc) : List Nat := if d.p 76 = 0x11 ∨ d.p 76 = 0x10 then [32] else [1, 1 + curveL d, 1 + 2 * curveL d]

/-- The byte lengths that n can have: one less than L at the least for algorithm 0x06 (R293, R305). -/
def nLens (d : Desc) : List Nat := if d.p 76 = 6 then [curveL d - 1, curveL d] else [curveL d]

/-- Step A5: whether the verb accepts its data length, as a FORMAT_INVALID sub-status (R202 to R229, R271, R297). For the
verbs of a resolved key the modulus length is not known yet: any length that some key could take is accepted here
(log entry 20). -/
def dataFail (d : Desc) : Option Nat :=
  let o := d.op
  let n := d.dlen
  let p := d.p
  let ex := fun (k : Nat) => if n = k then none else some 0x43
  let atl := fun (k : Nat) => if k ≤ n then none else some 0x43
  let rng := fun (a b : Nat) => if a ≤ n ∧ n ≤ b then none else some 0x43
  if d.inLen < d.kb1 + d.kb2 then some 0x43
  else if o = 0x0A01 then rng 0 256
  else if o = 0x0101 then ex 56 else if o = 0x0102 then ex 58 else if o = 0x0103 then ex 52 else if o = 0x0104 then ex 36
  else if o = 0x0201 then rng 44 1067 else if o = 0x0202 then ex 24 else if o = 0x0203 then ex 27 else if o = 0x0204 then ex 32
  else if o = 0x0301 then atl (if p 77 = 1 then 1 else 0)
  else if o = 0x0302 then atl (p 79 + (if p 77 = 1 then 1 else 0))
  else if o = 0x0401 ∨ o = 0x0403 then rng 16 4096
  else if o = 0x0402 ∨ o = 0x0404 ∨ o = 0x0405 ∨ o = 0x0410 then ex 0
  else if o = 0x0411 then ex (suiteEi (p 76) + suiteCt (p 76))
  else if o = 0x0501 then ex 48 else if o = 0x0502 then atl (12 + p 77) else if o = 0x0503 then ex 8
  else if o = 0x0511 then ex 38 else if o = 0x0512 then atl (10 + p 76)
  else if bulkOps.contains o then
    let part := p 76
    let fixed := (if hasState part then 512 else 0) + d.aad + (if isGcmDec o && isFinal part then p 78 else 0)
    let data := n - fixed
    let blk := if isTdesCbc o then 8 else 16
    let aligned := if isXts o then decide (0 < data) && data % le d 84 4 == 0
      else if isFinal part then (o == 0x0601 || isGcm o || (isCbcEnc o && d.padOn) || data % blk == 0)
      else data % blk == 0
    let w := p 77 % 4
    let wrap := o == 0x0601 && !hasState part && decide (2 ^ (if w = 0 then 32 else if w = 1 then 64 else 128) < ceilDiv data 16)
    if n < fixed then some 0x43 else if !aligned then some 0x48 else if wrap then some 0x49 else none
  else if digestOps.contains o then
    atl ((if hasState (p 76) then 512 else 0) + (if (o == 0x0703 || o == 0x0710) && isFinal (p 76) then le d 78 2 else 0))
  else if o = 0x0801 then (if p 79 = 1 then ex (hashLen (p 78)) else none)
  else if o = 0x0802 then
    let k := ceilDiv (le d 80 2) 8
    if d.key1 = 0 then (if p 79 = 1 then ex (2 * k + hashLen (p 78)) else atl (2 * k))
    else rng (128 + (if p 79 = 1 then hashLen (p 78) else 0)) (if p 79 = 1 then 1024 + hashLen (p 78) else 262144)
  else if o = 0x0803 then rng 256 1024
  else if o = 0x0804 ∨ o = 0x0821 ∨ o = 0x0901 ∨ o = 0x0910 then ex 0
  else if o = 0x0810 then (if p 79 = 1 then ex (curveBlk d + hashLen (p 78)) else atl (curveBlk d))
  else if o = 0x0811 then
    let base := curveBlk d + (if p 79 = 1 then hashLen (p 78) else 0)
    let q := if d.key1 = 0 then ptLens d else [0]
    let fits := fun (k : Nat) => if p 79 = 1 then n == k else decide (k ≤ n)
    if q.any (fun x => (nLens d).any (fun y => fits (base + x + 2 * y))) then none else some 0x43
  else if o = 0x0812 then none
  else if o = 0x0813 then atl (64 + (if d.key1 = 0 then 32 else 0))
  else if o = 0x0814 then (if (ptLens d).any (fun x => n == curveBlk d + x) then none else some 0x43)
  else if o = 0x0820 then ex (curveBlk d)
  else if o = 0x0902 then ex (if d.key1 = 0 then kemEk (p 76) else 0)
  else if o = 0x0903 then ex (kemCt (p 76))
  else if o = 0x0911 then atl (p 100)
  else if o = 0x0912 then atl ((if d.key1 = 0 then dsaPk (p 76) else 0) + dsaSig (p 76) + p 100)
  else if o = 0x0920 then atl (slhPk (p 76) + slhSig (p 76) + p 100)
  else none

/-- Implied result length (R53, R203 to R230, R270, R297), known before a key is loaded; the RSA verbs whose length is
that of a resolved modulus answer 0 and are compared when the key is resolved (log entry 20). -/
def Desc.implied (d : Desc) : Nat :=
  let o := d.op
  let p := d.p
  if o = 0x0101 ∨ o = 0x0501 ∨ o = 0x0511 then pinLen (p 77)
  else if o = 0x0A01 then le d 76 4
  else if o = 0x0104 then 22
  else if o = 0x0201 then (if p 76 = 1 then 8 else if p 76 = 2 then 4 else 0)
  else if o = 0x0202 then 3
  else if o = 0x0301 then p 79
  else if o = 0x0401 ∨ o = 0x0405 ∨ o = 0x0411 then 8
  else if o = 0x0402 ∨ o = 0x0503 then 512
  else if o = 0x0403 then d.dlen + 128
  else if o = 0x0404 then (if d.key1 = 0 then 8 else 520)
  else if o = 0x0410 then suiteEi (p 76) + suiteCt (p 76) + 8
  else if bulkOps.contains o then
    let part := p 76
    let fixed := (if hasState part then 512 else 0) + d.aad + (if isGcmDec o && isFinal part then p 78 else 0)
    let data := d.dlen - fixed
    let blk := if isTdesCbc o then 8 else 16
    (if d.padOn then (data / blk + 1) * blk else data) + (if o == 0x0604 && isFinal part then p 78 else 0)
      + (if putsState part then 512 else 0)
  else if digestOps.contains o then
    (if (o == 0x0701 || o == 0x0702) && isFinal (p 76) then le d 78 2 else 0) + (if putsState (p 76) then 512 else 0)
  else if o = 0x0803 ∨ o = 0x0814 ∨ o = 0x0903 then 8
  else if o = 0x0810 then 2 * (nLens d).foldl min (curveL d)
  else if o = 0x0812 then 64
  else if o = 0x0820 ∨ o = 0x0821 then
    let a := p 76
    if a = 0x20 then ceilDiv (le d 80 2) 8 else if a = 0x10 ∨ a = 0x11 then 32 else if isKem a then kemEk a
    else if isDsa a then dsaPk a else 1 + 2 * curveL d
  else if o = 0x0901 then kemEk (p 76)
  else if o = 0x0902 then kemCt (p 76) + 8
  else if o = 0x0910 then dsaPk (p 76)
  else if o = 0x0911 then dsaSig (p 76)
  else 0

def Desc.paramFail (d : Desc) : Option Nat :=
  let o := d.op
  firstBad (if o = 0x0A01 then [(d.z 72 4, 0x41), (decide (1 ≤ le d 76 4 ∧ le d 76 4 ≤ 65536), 0x40), (d.z 80 48, 0x41)]
    else if paymentOps.contains o then payParams d else if bulkOps.contains o then bulkParams d
    else if digestOps.contains o then digestParams d else pkeParams d)

/-- Steps A2 to A6 in order, as status and sub-status (R192, R276, R300, R382). -/
def Desc.verbFail (d : Desc) : Option (Nat × Nat) :=
  if d.isControl then none
  else if !d.stepA2 then some (0x11, 0x45)
  else if d.op ≠ 0x0A01 ∧ (!kbLenOk d.key1 d.kb1 || !kbLenOk d.key2 d.kb2) then some (0x11, 0x42)
  else match d.paramFail with
    | some x => some (0x11, x)
    | none => match dataFail d with
      | some x => some (0x11, x)
      | none => if d.outLen < d.implied then some (0x10, 0x03) else none

/-! ### Fetch checks (R51, R52, R78, R146, R649) -/

/-- Check 9: the fields of a control descriptor (R78). -/
def Desc.controlOk (d : Desc) : Bool :=
  d.flow == 0 && d.z 24 2 && d.inLen == 0 && d.outLen == 0 && d.inPtr == 0 && d.outPtr == 0 && d.key1 == 0 && d.key2 == 0
    && (if d.op = 2 then d.z 74 54
        else if d.op = 3 then decide (le d 72 8 < 2 ^ 61) && decide (d.p 80 < 2) && d.z 81 47
        else d.z 72 56)

/-- Whether a list is read: input and output (R649, R48). -/
def Desc.readsInList (d : Desc) : Bool := d.inLen != 0 && !d.directInput
def Desc.readsOutList (d : Desc) : Bool := d.outLen != 0 && d.outputSgl

/-- The fetch checks, then steps A2 to A6: the first failure (R51, R192). -/
def Desc.fetchFail (d : Desc) (inList outList shortIn : DmaRead) : Option (Nat × Nat) :=
  let inS := sglRead inList
  let outS := sglRead outList
  if !d.isDefined then some (0x11, 0x01)
  else if 16 ≤ d.flags ∨ d.z 44 4 = false ∨ 2 ^ 61 ≤ d.deadline ∨ (d.op ≠ 2 ∧ d.barrier ≠ 0) then some (0x11, 0x02)
  else if (d.chain = 0 ∧ d.pred ≠ 0) ∨ 32 ≤ d.pred then some (0x11, 0x02)
  else if 262144 < d.inLen ∨ 262144 < d.outLen then some (0x11, 0x05)
  else if (d.readsInList ∧ d.inPtr % 16 ≠ 0) ∨ (d.readsOutList ∧ d.outPtr % 16 ≠ 0) then some (0x11, 0x04)
  else if (d.readsInList ∧ inS = .short) ∨ (d.readsOutList ∧ outS = .short) then some (0x30, 0x01)
  else if (d.readsInList ∧ inS = .bad) ∨ (d.readsOutList ∧ outS = .bad) then some (0x11, 0x03)
  else if d.readsInList ∧ inS ≠ .total d.inLen then some (0x10, 0x01)
  else if d.readsOutList ∧ outS ≠ .total d.outLen then some (0x10, 0x04)
  else if d.inLen ≠ 0 ∧ d.inLen ≤ 256 ∧ shortIn.refused then some (0x30, 0x01)
  else if d.inLen ≠ 0 ∧ d.inLen ≤ 256 ∧ (shortIn.failed ∨ shortIn.data.length < d.inLen) then some (0x10, 0x02)
  else if d.isControl ∧ d.controlOk = false then some (0x11, 0x02)
  else d.verbFail

/-- The short input kept with the descriptor (R52). -/
def Desc.shortInput (d : Desc) (r : DmaRead) : Bytes := if d.inLen ≤ 256 then r.data.take d.inLen else []

/-! ### Costs (R186, R217, R280, R306, R308) -/

/-- ns of `per` for each started unit of `u` bytes. -/
def perUnit (n u per : Nat) : Nat := ceilDiv n u * per

/-- Hashing of `n` bytes by a code of R216 (R217). -/
def hashNs (h n : Nat) : Nat :=
  if h = 1 then perUnit n 64 120 else if h = 4 then perUnit n 136 100 else perUnit n 128 150

/-- Number of one-bits. -/
def popNat (n : Nat) : Nat := ((List.range 64).filter (fun i => n / 2 ^ i % 2 == 1)).length

/-- The transaction counter of a DUKPT verb's KSN (R228), `inp` the verb data. -/
def ksnCounter (o : Nat) (inp : Bytes) : Nat := if o ≤ 0x0503 then beNat (bsub inp 8 4) else beNat (bsub inp 7 3) % 2 ^ 21

/-- Data of a bulk or digest part, without its fixed fields. -/
def Desc.dataLen (d : Desc) : Nat :=
  let part := d.p 76
  let ex := if isGcmDec d.op && isFinal part then d.p 78
    else if (d.op == 0x0703 || d.op == 0x0710) && isFinal part then le d 78 2 else 0
  d.dlen - ((if hasState part then 512 else 0) + d.aad + ex)

/-- Rate of a class 0x07 algorithm: unit in bytes and ns per unit (R280). -/
def digestRate (alg : Nat) : Nat × Nat :=
  if alg = 0x10 then (16, 40) else if alg = 0x17 ∨ alg = 0x18 then (8, 50) else if alg = 1 ∨ alg = 0x11 then (64, 120)
  else if alg = 2 ∨ alg = 3 ∨ alg = 0x12 ∨ alg = 0x13 then (128, 150)
  else if alg = 4 ∨ alg = 8 ∨ alg = 0x14 ∨ alg = 0x16 then (136, 100) else if alg = 5 then (104, 100) else if alg = 6 then (72, 100)
  else (168, 100)

/-- Bytes of the digest or message of a signing or verifying verb: what its verb data holds after the curve block, the public
key and the signature (R297). -/
def Desc.signedLen (d : Desc) (inp : Bytes) (bits : Nat) : Nat :=
  let o := d.op
  let host := d.key1 == 0
  let k := ceilDiv bits 8
  let l := curveL d
  let nl := if d.p 76 = 6 ∧ byteAt inp (5 * l) = 0 then l - 1 else l
  let q := if byteAt inp (curveBlk d) = 4 then 1 + 2 * l else if byteAt inp (curveBlk d) = 0 then 1 else 1 + l
  d.dlen - (if o = 0x0802 then (if host then 2 * k else k)
    else if o = 0x0810 then curveBlk d
    else if o = 0x0811 then curveBlk d + (if host then q else 0) + 2 * nl
    else if o = 0x0813 then (if host then 96 else 64)
    else if o = 0x0912 then (if host then dsaPk (d.p 76) else 0) + dsaSig (d.p 76)
    else if o = 0x0920 then slhPk (d.p 76) + slhSig (d.p 76)
    else 0)

/-- Lane time at OP2 in ns; `inp` is the verb data, `bits` the RSA modulus length where there is one. -/
def laneNs (d : Desc) (inp : Bytes) (bits : Nat) : Nat :=
  let o := d.op
  let n := d.dlen
  let p := d.p
  let ones := popNat (ksnCounter o inp)
  let msg := if p 76 = 6 then perUnit (n - (if o = 0x0302 then p 79 else 0)) 16 40
    else if p 76 = 7 then hashNs (p 78) (n - (if o = 0x0302 then p 79 else 0))
    else perUnit (n - (if o = 0x0302 then p 79 else 0)) 8 50
  if o = 0x0A01 then 1000 + perUnit (le d 76 4) 16 35
  else if o = 0x0101 then 3600 else if o = 0x0102 ∨ o = 0x0103 then 3500 else if o = 0x0104 then 4200
  else if o = 0x0201 then 5200 + perUnit (n - 43) 16 20
  else if o = 0x0202 ∨ o = 0x0203 then 3200 else if o = 0x0204 then 4400
  else if o = 0x0301 then 3000 + msg else if o = 0x0302 then 3200 + msg
  else if o = 0x0401 then 6000 + perUnit n 16 40 else if o = 0x0402 then 6500 else if o = 0x0403 then 9000 + perUnit n 16 40
  else if o = 0x0404 then (if d.key1 = 0 then 5000 else 8000) else if o = 0x0405 then 2400
  else if o = 0x0410 then 12000 else if o = 0x0411 then 10000
  else if o = 0x0501 then 4000 + 100 * ones else if o = 0x0502 then 4200 + 100 * ones + perUnit (n - (12 + p 77)) 16 40
  else if o = 0x0503 then 7000 else if o = 0x0511 then 4200 + 150 * ones
  else if o = 0x0512 then 4400 + 150 * ones + perUnit (n - (10 + p 76)) 8 50
  else if bulkOps.contains o then
    let part := p 76
    let k := d.dataLen
    1500 + (if hasState part then 1200 else 0) + (if putsState part then 1200 else 0)
      + (if isGcm o then perUnit (k + d.aad) 16 40 else if isXts o then perUnit k 16 45 + k / le d 84 4 * 100
         else if isTdesCbc o then perUnit (if d.padOn then (k / 8 + 1) * 8 else k) 8 60
         else if o = 0x0602 then perUnit (if d.padOn then (k / 16 + 1) * 16 else k) 16 50 else perUnit k 16 35)
  else if digestOps.contains o then
    let part := p 76
    let r := digestRate (p 77)
    let more := if (p 77 = 7 ∨ p 77 = 8) ∧ isFinal part ∧ (o = 0x0701 ∨ o = 0x0710) then (ceilDiv (le d 78 2) r.1 - 1) * r.2 else 0
    1500 + (if hasState part then 1200 else 0) + (if putsState part then 1200 else 0) + perUnit d.dataLen r.1 r.2 + more
  else if o = 0x0801 ∨ o = 0x0802 ∨ o = 0x0810 ∨ o = 0x0811 then
    2000 + (if o ≤ 0x0802 then ceilDiv bits 1024 * 500 else 0) + (if p 79 = 0 then hashNs (p 78) (d.signedLen inp bits) else 0)
  else if o = 0x0803 ∨ o = 0x0804 then 6000 + ceilDiv bits 1024 * 500
  else if o = 0x0812 then 2000 + 2 * perUnit n 128 150 else if o = 0x0813 then 2000 + perUnit (d.signedLen inp bits) 128 150
  else if o = 0x0911 ∨ o = 0x0912 then 3000 + perUnit (d.signedLen inp bits) 136 100
  else if o = 0x0814 ∨ o = 0x0902 ∨ o = 0x0903 then 10000
  else if o = 0x0820 ∨ o = 0x0901 ∨ o = 0x0910 then 4000 else if o = 0x0821 then 2000
  else if o = 0x0920 then
    let a := p 76
    (if a = 0x50 then 160000 else if a = 0x51 then 170000 else if a = 0x52 then 450000 else if a = 0x53 then 480000
     else if a = 0x54 then 240000 else if a = 0x55 then 260000 else if a = 0x56 then 340000 else 370000)
      + perUnit (d.signedLen inp bits) (if a % 2 = 0 then 64 else 136) (if a % 2 = 0 then 120 else 100)
  else 0

/-- PKE time at OP2 in ns (R224, R306): row and column; the signing iterations of ML-DSA at their typical number. -/
def pkeNs (d : Desc) (inp : Bytes) (bits : Nat) : Nat :=
  let o := d.op
  let a := d.p 76
  let rsa := fun (x1 x2 x3 x4 x8 : Nat) => if bits ≤ 1024 then x1 else if bits ≤ 2048 then x2 else if bits ≤ 3072 then x3 else if bits ≤ 4096 then x4 else x8
  let crv := fun (l : List Nat) =>
    let pb := le d 80 2
    if a = 6 then (if pb ≤ 256 then l.getD 5 0 else if pb ≤ 384 then l.getD 6 0 else l.getD 7 0) else l.getD (a - 1) 0
  let hash := if (o == 0x0801 || o == 0x0802 || o == 0x0810 || o == 0x0811) && d.p 79 == 0 then hashNs (d.p 78) (d.signedLen inp bits) else 0
  let body :=
    if o = 0x0410 then (if a = 1 then 95000 else if a = 2 then 190000 else 70000)
    else if o = 0x0411 then (if a = 1 then 80000 else if a = 2 then 160000 else 62000)
    else if o = 0x0801 ∨ o = 0x0803 then rsa 54000 54000 160000 360000 3500000
    else if o = 0x0802 ∨ o = 0x0804 then rsa 1500 4000 8000 14000 52000
    else if o = 0x0810 then crv [13300, 30000, 62000, 18000, 42000, 24000, 52000, 105000]
    else if o = 0x0811 then crv [26700, 62000, 130000, 38000, 90000, 50000, 110000, 230000]
    else if o = 0x0812 then 10000 else if o = 0x0813 then 20000
    else if o = 0x0814 then (if a = 0x11 then 8000 else crv [12000, 27000, 56000, 17000, 39000, 22000, 48000, 100000])
    else if o = 0x0820 then
      (if a = 0x20 then rsa 40000000 40000000 140000000 400000000 6000000000 else if a = 0x10 then 10500 else if a = 0x11 then 8500
       else crv [14000, 31000, 64000, 19000, 43000, 26000, 55000, 110000])
    else if o = 0x0821 then 1000
    else if o = 0x0901 then (if a = 0x30 then 20000 else if a = 0x31 then 30000 else 42000)
    else if o = 0x0902 then (if a = 0x30 then 24000 else if a = 0x31 then 34000 else 48000)
    else if o = 0x0903 then (if a = 0x30 then 28000 else if a = 0x31 then 40000 else 56000)
    else if o = 0x0910 then (if a = 0x40 then 40000 else if a = 0x41 then 60000 else 85000)
    else if o = 0x0911 then (if a = 0x40 then 75000 else if a = 0x41 then 109000 else 141000)
    else if o = 0x0912 then (if a = 0x40 then 20000 else if a = 0x41 then 30000 else 45000)
    else 0
  body + hash

/-- A time at OP2 at another operating point (R186). -/
def atOp (op ns : Nat) : Nat := if op = 0 then ns * 3 else if op = 1 then ns * 1333 / 1000 else if op = 3 then ns * 3 / 4 else ns

/-- The verb draws from its grove's DRBG (R184, R295). HYBRID_RESPOND, whose DRBG column says No, uses private keys in the
engine and draws their blinding (R291; DEDUCED, log entry 80). -/
def Desc.drawsRandom (d : Desc) : Bool :=
  let o := d.op
  if o = 0x0A01 then true else if o = 0x0101 then d.p 77 != 0 else if o = 0x0501 ∨ o = 0x0511 then d.p 77 == 3 || d.p 77 == 4
  else [0x0104, 0x0402, 0x0403, 0x0404, 0x0410, 0x0503, 0x0801, 0x0803, 0x0804, 0x0810, 0x0812, 0x0814, 0x0820, 0x0901, 0x0902,
        0x0903, 0x0910, 0x0911, 0x0411].contains o

/-- Preemptible by its opcode and length (R160). -/
def Desc.preemptible (d : Desc) : Bool := (d.cls == 6 || d.cls == 7) && decide (4096 < d.inLen)

end Sys2Proof.Machine
end

