-- ==== Sys2Proof/Machine/Crypto.lean ====
section
/-! DEFINITION. Ciphers, modes, MACs, derivations and PIN blocks in terms of the block ciphers and hashes of `Config`
(log entry 6): R189, R190, R200, R213, R216, R272, R322. -/

namespace Sys2Proof.Machine

/-! ### Block ciphers -/

/-- Key algorithms of R189. -/
def algIsAes (a : Nat) : Bool := a == 0x11 || a == 0x12 || a == 0x13
def algIsTdes (a : Nat) : Bool := a == 0x01 || a == 0x02
def algLen (a : Nat) : Nat :=
  if a = 0x01 ∨ a = 0x11 then 16 else if a = 0x02 ∨ a = 0x12 then 24 else 32
/-- Strength rank of a key (R220). -/
def algRank (a : Nat) : Nat :=
  if a = 0x01 then 1 else if a = 0x02 then 2 else if a = 0x11 then 3 else if a = 0x12 then 4 else if a = 0x13 ∨ a = 0x21 then 5 else 0
/-- Strength rank of an RSA modulus (R297). -/
def rsaRank (bits : Nat) : Nat := if 4096 ≤ bits then 5 else if 3072 ≤ bits then 4 else 3

def bv64 (b : Bytes) : BitVec 64 := BitVec.ofNat 64 (beNat b)
def bv128 (b : Bytes) : BitVec 128 := BitVec.ofNat 128 (beNat b)

/-- Single DES under the first 8 bytes of a key. -/
def desEnc (key b : Bytes) : Bytes := toBe 8 (Config.des false (key.take 8) (bv64 b)).toNat
def desDec (key b : Bytes) : Bytes := toBe 8 (Config.des true (key.take 8) (bv64 b)).toNat

/-- Block size of an algorithm, and one block pass: AES, or TDES as three DES passes, the third under the first part where
the key has two. -/
def blkSize (alg : Nat) : Nat := if algIsAes alg then 16 else 8
def blkPass (dec : Bool) (alg : Nat) (key b : Bytes) : Bytes :=
  let k2 := key.drop 8
  let k3 := if key.length = 24 then key.drop 16 else key
  if algIsAes alg then toBe 16 (Config.aes dec key (bv128 (padTo 16 b))).toNat
  else if dec then desDec key (desEnc k2 (desDec k3 (padTo 8 b)))
  else desEnc k3 (desDec k2 (desEnc key (padTo 8 b)))
def enc (alg : Nat) (key b : Bytes) : Bytes := blkPass false alg key b
def dec (alg : Nat) (key b : Bytes) : Bytes := blkPass true alg key b

/-- Blocks of `n` bytes; the last may be short. -/
def chunks (n : Nat) : Nat → Bytes → List Bytes
  | 0, _ => []
  | f + 1, b => if b.isEmpty then [] else b.take n :: chunks n f (b.drop n)
def blocks (n : Nat) (b : Bytes) : List Bytes := chunks n (b.length + 1) b

/-! ### The comparison unit (R262) -/

/-- Two operands in shares, each zero-extended to 64 bytes: only whether all the shares together cancel leaves the unit. -/
def cmpShares (a b : List Bytes) : Bool := allZero ((a ++ b).foldl (fun x s => bxor x (padTo 64 s)) (zeros 64))
/-- The outcome for two operands of equal length, from 1 to 64 bytes. -/
def cmpUnit (a b : Bytes) : Bool := a.length == b.length && cmpShares [a] [b]
/-- PIN digits, with their number before them. -/
def cmpDigits (a b : List Nat) : Bool := cmpUnit (padTo 13 ((a.length :: a).map (BitVec.ofNat 8))) (padTo 13 ((b.length :: b).map (BitVec.ofNat 8)))

/-! ### Hashes and derivations -/

/-- Block of a hash function or sponge, in bytes, by the code of R269. -/
def hashRate (alg : Nat) : Nat :=
  if alg = 1 then 64 else if alg = 2 ∨ alg = 3 then 128 else if alg = 4 ∨ alg = 8 ∨ alg = 0x16 then 136 else if alg = 5 then 104
  else if alg = 6 then 72 else 168

/-- A hash in progress: chaining state, and the bytes that do not fill a block yet. -/
structure HashSt where
  st   : Bytes
  rest : Bytes := []

def hashStart (alg : Nat) (key cust : Bytes) : HashSt := { st := mkBytes 200 (Config.hashInit alg key cust) }
/-- More data: whole blocks are compressed, and what is left waits. -/
def HashSt.more (alg : Nat) (h : HashSt) (data : Bytes) : HashSt :=
  let r := hashRate alg
  let b := h.rest ++ data
  let n := b.length / r * r
  { st := (blocks r (b.take n)).foldl (fun s x => mkBytes 200 (Config.hashStep alg s x)) h.st, rest := b.drop n }
/-- The digest of `n` bytes, after `total` bytes in all. -/
def HashSt.fin (alg : Nat) (h : HashSt) (total n : Nat) : Bytes := mkBytes n (Config.hashFin alg h.st h.rest total n)

/-- An unkeyed digest by the code of R269. -/
def hashOf (alg : Nat) (m : Bytes) (n : Nat) : Bytes := ((hashStart alg [] []).more alg m).fin alg m.length n

/-- The key of HMAC in a block, each byte altered by `x` (FIPS 198). -/
def hmacPad (alg : Nat) (key : Bytes) (x : Byte) : Bytes :=
  (padTo (hashRate alg) (if hashRate alg < key.length then hashOf alg key (hashLen alg) else key)).map (· ^^^ x)
/-- The end of HMAC: the inner digest under the outer key. -/
def hmacOuter (alg : Nat) (key inner : Bytes) (n : Nat) : Bytes := (hashOf alg (hmacPad alg key 0x5C ++ inner) (hashLen alg)).take n
/-- HMAC by a hash code of R269: 0x01 SHA-256, 0x02 SHA-384, 0x03 SHA-512, 0x04 SHA3-256. -/
def hmac (alg : Nat) (key m : Bytes) (n : Nat) : Bytes := hmacOuter alg key (hashOf alg (hmacPad alg key 0x36 ++ m) (hashLen alg)) n
/-- KMAC128 and KMAC256 with a fixed output length (R269). -/
def kmac (alg : Nat) (key cust m : Bytes) (n : Nat) : Bytes := ((hashStart alg key cust).more alg m).fin alg m.length n
def sha256 (m : Bytes) : Bytes := hashOf 1 m 32
def sha384 (m : Bytes) : Bytes := hashOf 2 m 48

/-- SP 800-108 counter mode with HMAC, laid out as R322 states: `n` bytes. -/
def kdf (alg hl : Nat) (key label ctx : Bytes) (n : Nat) : Bytes :=
  let fixed := label ++ [0] ++ ctx ++ toBe 4 (n * 8)
  ((List.range (ceilDiv n hl)).flatMap (fun i => hmac alg key (toBe 4 (i + 1) ++ fixed) hl)).take n
def kdf256 (key label ctx : Bytes) (n : Nat) : Bytes := kdf 1 32 key label ctx n

/-! ### CTR_DRBG with AES-256 and no derivation function (SP 800-90A; R370, R382) -/

/-- Byte `i` of a generate call's output, its first bytes, and the output from its block `k` on. -/
def RndOut.byte (r : RndOut) (i : Nat) : Byte := (enc 0x13 r.key (toBe 16 ((r.v + 1 + i / 16) % 2 ^ 128))).getD (i % 16) 0
def RndOut.bytes (r : RndOut) (n : Nat) : Bytes := mkBytes n r.byte
def RndOut.past (k : Nat) (r : RndOut) : RndOut := { r with v := r.v + k }

/-- The update function. -/
def Drbg.update (data : Bytes) (g : Drbg) : Drbg :=
  let t := bxor ((RndOut.mk g.key g.v 0).bytes 48) data
  { g with key := t.take 32, v := beNat (t.drop 32) }
/-- The personalisation string: unit ID, instance number, ST; its layout is log entry 86. -/
def Drbg.personal (now : Nat) (g : Drbg) : Bytes := padTo 48 (toLe 16 Config.unitId.toNat ++ toLe 1 g.num ++ toLe 8 now)
/-- The seed of an instantiation, and that of a reseed: one conditioned block each. -/
def Drbg.seedNew (now : Nat) (block : Bytes) (g : Drbg) : Drbg :=
  ({ g with key := zeros 32, v := 0 } : Drbg).update (bxor (padTo 48 block) (g.personal now))
def Drbg.seedMore (block : Bytes) (g : Drbg) : Drbg := g.update (padTo 48 block)
/-- Additional input within the seed length: none, padded, or compressed by SHA3-384. -/
def drbgExtra (a : Bytes) : Bytes := if a.length ≤ 48 then padTo 48 a else hashOf 5 a 48
/-- One generate call for `n` bytes: its output, and the state after it. -/
def Drbg.generate (n ctr : Nat) (extra : Bytes) (g : Drbg) : RndOut × Drbg :=
  let g1 := if extra.isEmpty then g else g.update (drbgExtra extra)
  ({ key := g1.key, v := g1.v, ctr := ctr }, ({ g1 with v := g1.v + ceilDiv n 16 } : Drbg).update (drbgExtra extra))

/-- The labels of R226, R274, R299 and R322, in ASCII. -/
def asciiBytes (s : String) : Bytes := s.toList.map (fun c => BitVec.ofNat 8 c.toNat)
def lblStream : Bytes := asciiBytes "DYZHATIK STREAM 1"
def lblSlot : Bytes := asciiBytes "DYZHATIK SLOT 1"
def lblLsk : Bytes := asciiBytes "DYZHATIK LOCAL KB 1"
def lblHybrid : Bytes := asciiBytes "DYZHATIK HYBRID 1"
def lblKeyest : Bytes := asciiBytes "DYZHATIK KEYEST 1"

/-! ### CMAC and ISO/IEC 9797-1 -/

/-- Doubling in the CMAC field. -/
def cmacDbl (n : Nat) (b : Bytes) : Bytes :=
  let v := beNat b
  let w := 2 ^ (8 * n)
  let x := v * 2 % w
  toBe n (if v * 2 < w then x else x ^^^ (if n = 16 then 0x87 else 0x1B))

/-- A chained MAC in progress: chaining value, and the last bytes, at most a block, which wait for more. -/
structure MacSt where
  chain : Bytes
  rest  : Bytes := []

/-- More data under a block pass: every whole block that is not the last is chained. -/
def MacSt.more (pass : Bytes → Bytes) (n : Nat) (s : MacSt) (data : Bytes) : MacSt :=
  let b := s.rest ++ data
  let k := (b.length - 1) / n * n
  { chain := (blocks n (b.take k)).foldl (fun c x => pass (bxor c x)) s.chain, rest := b.drop k }

/-- The end of a CMAC. -/
def cmacEnd (alg : Nat) (key : Bytes) (s : MacSt) : Bytes :=
  let n := blkSize alg
  let k1 := cmacDbl n (enc alg key (zeros n))
  let last := if s.rest.length = n then bxor s.rest k1 else bxor (padTo n (s.rest ++ [0x80])) (cmacDbl n k1)
  enc alg key (bxor s.chain last)
/-- CMAC over a message. -/
def cmac (alg : Nat) (key m : Bytes) : Bytes :=
  cmacEnd alg key (MacSt.more (enc alg key) (blkSize alg) { chain := zeros (blkSize alg) } m)

/-- Padding methods 1 to 3 of ISO/IEC 9797-1 to 8-byte blocks; the length block of method 3 alone where the message is
empty (log entry 22). -/
def isoPad (method : Nat) (m : Bytes) : Bytes :=
  let fill := fun (b : Bytes) => b ++ zeros ((8 - b.length % 8) % 8)
  if method = 1 then fill m else if method = 2 then fill (m ++ [0x80]) else toBe 8 (m.length * 8) ++ fill m

/-- MAC algorithm 1 and algorithm 3 over padded data, from a chaining value. -/
def macAlg1From (alg : Nat) (key chain p : Bytes) : Bytes := (blocks 8 p).foldl (fun c b => enc alg key (bxor c b)) chain
def macAlg3From (key chain p : Bytes) : Bytes :=
  desEnc key (desDec (key.drop 8) ((blocks 8 p).foldl (fun c b => desEnc key (bxor c b)) chain))
def macAlg1 (alg : Nat) (key p : Bytes) : Bytes := macAlg1From alg key (zeros 8) p
def macAlg3 (key p : Bytes) : Bytes := macAlg3From key (zeros 8) p

/-! ### Check values (R190) -/

/-- Whether a check-value method suits an algorithm; method 0 and length 0 are the defaults. -/
def kcvSuits (method alg : Nat) : Bool :=
  if method = 0 then true else if method = 3 then alg == 0x21 else algIsAes alg || algIsTdes alg
def kcvMethod (method alg : Nat) : Nat := if method ≠ 0 then method else if alg = 0x21 then 3 else if algIsAes alg then 2 else 1
def kcvLen (len alg : Nat) : Nat := if len ≠ 0 then len else if alg = 0x21 then 8 else if algIsAes alg then 5 else 3
/-- The check value, first `n` bytes. The default method of an asymmetric key is SHA-256 of the stored material (log
entry 23). -/
def kcv (method n alg : Nat) (key : Bytes) : Bytes :=
  let m := kcvMethod method alg
  if 0x80 ≤ alg then (sha256 key).take n
  else if m = 3 then (hmac 1 key [] 32).take n
  else if m = 2 then (cmac alg key (zeros (blkSize alg))).take n
  else (enc alg key (zeros (blkSize alg))).take n
/-- KCV field (R189). -/
def kcvField (method len alg : Nat) (key : Bytes) : Bytes := padTo 8 (kcv method (kcvLen len alg) alg key)

/-! ### PAN, BCD and PIN blocks (R189, R200) -/

def isDigit (b : Byte) : Bool := decide (0x30 ≤ b.toNat ∧ b.toNat ≤ 0x39)
/-- A PAN field as its digits. -/
def panDigits (f : Bytes) : Option (List Nat) :=
  let n := byteAt f 0
  if 12 ≤ n ∧ n ≤ 19 ∧ (bsub f 1 n).all isDigit ∧ allZero (bsub f (1 + n) (19 - n)) then
    some ((bsub f 1 n).map (fun b => b.toNat - 0x30))
  else none

/-- `n` BCD digits, left-aligned, the rest of the field 0xF. -/
def bcdOk (n : Nat) (f : Bytes) : Bool :=
  let l := nibbles f
  (l.take n).all (fun x => decide (x ≤ 9)) && (l.drop n).all (· == 15)
/-- Expiry YYMM. -/
def expiryOk (f : Bytes) : Bool :=
  bcdOk 4 f && (let m := hiNib (f.getD 1 0) * 10 + loNib (f.getD 1 0); decide (1 ≤ m ∧ m ≤ 12))
/-- Digits as a BCD field of `n` bytes, 0xF fill. -/
def toBcd (n : Nat) (ds : List Nat) : Bytes := ofNibbles ((ds ++ List.replicate (2 * n) 15).take (2 * n))

/-- The PAN part of formats 0 and 3: the 12 rightmost digits without the check digit, right-justified after zeros. -/
def panField0 (pan : List Nat) : Bytes :=
  let ds := (pan.take (pan.length - 1)).drop (pan.length - 13)
  ofNibbles (List.replicate (16 - ds.length) 0 ++ ds)
/-- The PAN field of format 4. -/
def panField4 (pan : List Nat) : Bytes := ofNibbles (((pan.length - 12) :: pan ++ List.replicate 32 0).take 32)

/-- PIN digits of a block in the clear: nibbles after control and length, with the format's checks (R200). -/
def pinOf (fmt : Nat) (clear : Bytes) : Option (List Nat) :=
  let l := nibbles (clear.take 8)
  let n := l.getD 1 0
  let ds := (l.drop 2).take n
  let fill := l.drop (2 + n)
  let fillOk := if fmt = 0 then fill.all (· == 15) else if fmt = 3 then fill.all (fun x => decide (10 ≤ x))
    else if fmt = 4 then fill.all (· == 10) else true
  if l.getD 0 99 = fmt ∧ 4 ≤ n ∧ n ≤ 12 ∧ ds.all (fun x => decide (x ≤ 9)) ∧ fillOk then some ds else none

/-- Decrypt and decode a PIN block. -/
def pinDecode (fmt alg : Nat) (key blk : Bytes) (pan : List Nat) : Option (List Nat) :=
  if fmt = 4 then pinOf 4 (dec alg key (bxor (dec alg key (blk.take 16)) (panField4 pan)))
  else
    let c := dec alg key (blk.take 8)
    pinOf fmt (if fmt = 1 then c else bxor c (panField0 pan))

/-- Build and encrypt a PIN block; fill and random field from what was drawn (R200, log entry 7). -/
def pinEncode (fmt alg : Nat) (key : Bytes) (pin pan : List Nat) (rnd : RndOut) : Bytes :=
  let n := pin.length
  let fill := (List.range (14 - n)).map (fun i =>
    if fmt = 0 then 15 else if fmt = 4 then 10 else if fmt = 3 then 10 + Config.freeNat rnd.ctr (2000 + i) % 6 else Config.freeNat rnd.ctr (2000 + i) % 16)
  let f := ofNibbles ([fmt, n] ++ pin ++ fill)
  if fmt = 4 then enc alg key (bxor (enc alg key (f ++ rnd.bytes 8)) (panField4 pan))
  else enc alg key (if fmt = 1 then f else bxor f (panField0 pan))

/-- Decimalise (R213): decimal nibbles in order, then the others less 10. -/
def decimalise (b : Bytes) : List Nat :=
  let l := nibbles b
  l.filter (fun x => decide (x ≤ 9)) ++ (l.filter (fun x => decide (10 ≤ x))).map (· - 10)

/-- Check value of R213. -/
def cvv (key : Bytes) (pan : List Nat) (expiry svc : Bytes) : List Nat :=
  let ds := pan ++ nibbles expiry ++ (nibbles svc).take 3
  let b := ofNibbles ((ds ++ List.replicate 32 0).take 32)
  decimalise (enc 0x01 key (bxor (desEnc key (b.take 8)) (bsub b 8 8)))

/-- Natural PIN of the offset method (R204). -/
def naturalPin (alg : Nat) (key valid : Bytes) (tab : Bytes) (n : Nat) : List Nat :=
  ((nibbles (enc alg key (valid.take (blkSize alg)))).map (fun x => byteAt tab x)).take n

/-! ### TDES keys (R222, R357) -/

/-- Number of one-bits of a byte. -/
def ones8 (x : Byte) : Nat := ((List.range 8).filter (fun i => x.getLsbD i)).length
/-- Odd parity on every byte. -/
def oddParity (b : Bytes) : Bytes := b.map (fun (x : Byte) => if ones8 (x >>> 1) % 2 = 0 then x ||| 1 else x &&& 0xFE)
/-- The weak and semi-weak DES keys of SP 800-67, with odd parity (log entry 79): the two halves of each repeat two
patterns of bytes 0 to 3 and of bytes 4 to 7. -/
def desWeak (k : Bytes) : Bool :=
  let rep := fun (a b : Byte) => [a, b, a, b]
  [(rep 0x01 0x01, rep 0x01 0x01), (rep 0xFE 0xFE, rep 0xFE 0xFE), (rep 0x1F 0x1F, rep 0x0E 0x0E), (rep 0xE0 0xE0, rep 0xF1 0xF1),
   (rep 0x01 0xFE, rep 0x01 0xFE), (rep 0xFE 0x01, rep 0xFE 0x01), (rep 0x1F 0xE0, rep 0x0E 0xF1), (rep 0xE0 0x1F, rep 0xF1 0x0E),
   (rep 0x01 0xE0, rep 0x01 0xF1), (rep 0xE0 0x01, rep 0xF1 0x01), (rep 0x1F 0xFE, rep 0x0E 0xFE), (rep 0xFE 0x1F, rep 0xFE 0x0E),
   (rep 0x01 0x1F, rep 0x01 0x0E), (rep 0x1F 0x01, rep 0x0E 0x01), (rep 0xE0 0xFE, rep 0xF1 0xFE), (rep 0xFE 0xE0, rep 0xFE 0xF1)].any
    (fun p => oddParity k == p.1 ++ p.2)
/-- A TDES key one of whose parts is weak or semi-weak. -/
def tdesWeak (k : Bytes) : Bool := (blocks 8 k).any desWeak
/-- A generated TDES value is acceptable (R222): odd parity, distinct parts, none of them weak. -/
def tdesGood (k : Bytes) : Bool :=
  oddParity k == k && !tdesWeak k && k.take 8 != bsub k 8 8 && (k.length != 24 || (bsub k 8 8 != bsub k 16 8 && k.take 8 != bsub k 16 8))

/-! ### EMV (R211, R215; Book 2, log entry 79) -/

/-- The digits that diversify a card key, of at least 16: PAN and PSN, left-filled with zeros. -/
def emvDigits (w : Nat) (pan : List Nat) (psn : Byte) : List Nat :=
  let l := pan ++ [hiNib psn, loNib psn]
  List.replicate (w - l.length) 0 ++ l
/-- The 8 bytes that option A or option B encrypts under a TDES key. -/
def emvDiv (optB : Bool) (pan : List Nat) (psn : Byte) : Bytes :=
  let l := emvDigits 16 pan psn
  if optB && decide (16 < pan.length) then
    ofNibbles ((decimalise (mkBytes 20 (Config.sha1Byte (ofNibbles (if l.length % 2 = 0 then l else 0 :: l))))).take 16)
  else ofNibbles (l.drop (l.length - 16))
/-- The card key of an issuer master key. -/
def emvCardKey (alg : Nat) (optB : Bool) (mk : Bytes) (pan : List Nat) (psn : Byte) : Bytes :=
  if algIsAes alg then mkBytes (algLen alg) (Config.emvAesByte (if optB then 1 else 0) mk (ofNibbles (emvDigits 32 pan psn)))
  else
    let y := emvDiv optB pan psn
    oddParity (enc alg mk y ++ enc alg mk (y.map (fun (x : Byte) => ~~~x)))
/-- The common session key of a card key and an ATC. -/
def emvSession (alg : Nat) (ck atc : Bytes) : Bytes :=
  let n := blkSize alg
  if alg = 0x11 then enc alg ck (padTo n atc)
  else (enc alg ck (padTo n (atc ++ [0xF0])) ++ enc alg ck (padTo n (atc ++ [0x0F]))).take (if algIsAes alg then algLen alg else 16)
/-- The ARPC by method 1 or 2. -/
def emvArpc (alg method : Nat) (sk arqc arc prop : Bytes) : Bytes :=
  if method = 1 then
    let y := bxor arqc (padTo 8 (arc.take 2))
    if algIsAes alg then mkBytes 8 (Config.emvAesByte 2 sk y) else enc 0x01 sk y
  else
    let m := arqc ++ arc ++ prop
    if algIsAes alg then (cmac alg sk m).take 4 else (macAlg3 sk (isoPad 2 m)).take 4

/-! ### Modes (R272) -/

/-- Increment the rightmost `w` bits of a counter block. -/
def ctrInc (w : Nat) (b : Bytes) (k : Nat) : Bytes :=
  let v := beNat b
  toBe 16 (v / 2 ^ w * 2 ^ w + (v % 2 ^ w + k) % 2 ^ w)

/-- CTR over data from a counter block. -/
def ctrMode (key ctr0 : Bytes) (w : Nat) (data : Bytes) : Bytes :=
  (((blocks 16 data).zipIdx).flatMap (fun (b, i) => bxor b (enc 0x11 key (ctrInc w ctr0 i))))

/-- CBC: output and the last cipher block. -/
def cbcEnc (alg : Nat) (key iv data : Bytes) : Bytes × Bytes :=
  (blocks (blkSize alg) data).foldl (fun (o, c) b => let x := enc alg key (bxor c b); (o ++ x, x)) ([], iv)
def cbcDec (alg : Nat) (key iv data : Bytes) : Bytes × Bytes :=
  (blocks (blkSize alg) data).foldl (fun (o, c) b => (o ++ bxor c (dec alg key b), b)) ([], iv)
/-- PKCS #7 padding. -/
def pkcs7 (n : Nat) (data : Bytes) : Bytes := let k := n - data.length % n; data ++ List.replicate k (BitVec.ofNat 8 k)

/-- Multiplication in the GCM field, most significant bit first. -/
def gfMul (x y : Nat) : Nat :=
  ((List.range 128).foldl (fun (z, v) i =>
    let z1 := if x / 2 ^ (127 - i) % 2 = 1 then z ^^^ v else z
    (z1, if v % 2 = 1 then (v / 2) ^^^ (0xE1 * 2 ^ 120) else v / 2)) (0, y)).1
/-- GHASH from an accumulator over zero-padded blocks. -/
def ghash (h acc : Nat) (data : Bytes) : Nat :=
  (blocks 16 data).foldl (fun a b => gfMul (a ^^^ beNat (padTo 16 b)) h) acc
def gcmH (key : Bytes) : Nat := beNat (enc 0x13 key (zeros 16))
def gcmJ0 (iv : Bytes) : Bytes := iv.take 12 ++ toBe 4 1
/-- Tag of a finished GHASH. -/
def gcmTag (key iv : Bytes) (acc aadLen len : Nat) : Bytes :=
  bxor (toBe 16 (gfMul (acc ^^^ (aadLen * 8 * 2 ^ 64 + len * 8)) (gcmH key))) (enc 0x13 key (gcmJ0 iv))

/-- One AES-256-GCM seal in one piece: ciphertext and tag. -/
def gcmSeal (key iv aad data : Bytes) : Bytes × Bytes :=
  let c := ctrMode key (ctrInc 32 (gcmJ0 iv) 1) 32 data
  (c, gcmTag key iv (ghash (gcmH key) (ghash (gcmH key) 0 aad) c) aad.length data.length)

/-- XTS tweak doubling, little-endian. -/
def xtsDbl (t : Bytes) : Bytes :=
  let v := beNat t.reverse
  let x := v * 2 % 2 ^ 128
  (toBe 16 (if v * 2 < 2 ^ 128 then x else x ^^^ 0x87)).reverse
def xtsPow (t : Bytes) : Nat → Bytes
  | 0 => t
  | n + 1 => xtsDbl (xtsPow t n)
def xtsBlk (d : Bool) (key t b : Bytes) : Bytes := bxor (blkPass d 0x11 key (bxor b t)) t
/-- One data unit, with ciphertext stealing (IEEE 1619). -/
def xtsUnit (d : Bool) (k1 k2 tweak data : Bytes) : Bytes :=
  let t := enc 0x11 k2 tweak
  let bs := blocks 16 data
  let n := data.length / 16
  let r := data.length % 16
  let whole := fun (m : Nat) => (((bs.take m).zipIdx).flatMap (fun (b, i) => xtsBlk d k1 (xtsPow t i) b))
  if r = 0 then whole n
  else
    let a := bs.getD (n - 1) []
    let z := bs.getD n []
    let cc := xtsBlk d k1 (xtsPow t (if d then n else n - 1)) a
    let last := xtsBlk d k1 (xtsPow t (if d then n - 1 else n)) (z ++ cc.drop r)
    whole (n - 1) ++ last ++ cc.take r
/-- A sequence of data units; the tweak counts up (R272). -/
def xts (d : Bool) (k1 k2 start data : Bytes) (unit : Nat) : Bytes :=
  let s := beNat start.reverse
  ((blocks unit data).zipIdx).flatMap (fun (u, i) => xtsUnit d k1 k2 (toBe 16 ((s + i) % 2 ^ 128)).reverse u)

end Sys2Proof.Machine
end

