-- ==== Sys2Proof/Machine/Curve.lean ====
section
/-! DEFINITION. Arithmetic of the public-key engine (R284, R289, R292 to R299, R305): prime-field curves, the curves of
RFC 7748 and RFC 8032, RSA by its factors, and the paddings of RSA, written out over the hashes of `Config`
(log entry 79). -/

namespace Sys2Proof.Machine

/-! ### Numbers modulo m -/

/-- Inverse modulo `m`, where there is one. -/
def modInv (a m : Nat) : Nat := (Nat.gcdA (a % m) m % (m : Int)).toNat

/-- Modular power by squaring, over the bits of the exponent. -/
def powMod (m b e : Nat) : Nat :=
  (List.range (Nat.log2 e + 1)).foldr (fun i a => let s := a * a % m; if e / 2 ^ i % 2 = 1 then s * b % m else s) (1 % m)

/-- A square root modulo a prime, where there is one. -/
def sqrtMod (p a : Nat) : Nat := if p % 4 = 3 then powMod p a ((p + 1) / 4) else Config.sqrtMod p a

/-- Bits of a number. -/
def bitLen (n : Nat) : Nat := if n = 0 then 0 else Nat.log2 n + 1

/-! ### Short-Weierstrass curves (R292, R293, R305) -/

/-- y² = x³ + ax + b modulo p, base point of order n, cofactor h. -/
structure Curve where
  p  : Nat
  a  : Nat
  b  : Nat
  gx : Nat
  gy : Nat
  n  : Nat
  h  : Nat

/-- An affine point; none is the point at infinity. -/
abbrev Pt := Option (Nat × Nat)

def Curve.on (c : Curve) (q : Pt) : Bool :=
  match q with
  | none => true
  | some (x, y) => decide (x < c.p ∧ y < c.p) && y * y % c.p == (x * x * x + c.a * x + c.b) % c.p

def Curve.add (c : Curve) (u v : Pt) : Pt :=
  match u, v with
  | none, w => w
  | w, none => w
  | some (x1, y1), some (x2, y2) =>
    if x1 = x2 ∧ (y1 + y2) % c.p = 0 then none
    else
      let l := if x1 = x2 then (3 * x1 * x1 + c.a) * modInv (2 * y1) c.p % c.p
        else (y2 + (c.p - y1)) * modInv (x2 + (c.p - x1)) c.p % c.p
      let x3 := (l * l + (c.p - x1) + (c.p - x2)) % c.p
      some (x3, (l * (x1 + (c.p - x3)) + (c.p - y1)) % c.p)

/-- Scalar multiplication by doubling and adding. -/
def Curve.mul (c : Curve) (k : Nat) (q : Pt) : Pt :=
  (List.range (bitLen k)).foldr (fun i (a : Pt) => let d := c.add a a; if k / 2 ^ i % 2 = 1 then c.add d q else d) none

def Curve.base (c : Curve) : Pt := some (c.gx, c.gy)

/-- A point as the device writes it: uncompressed (R293). -/
def ptEncode (l : Nat) (q : Pt) : Bytes :=
  match q with
  | none => [0]
  | some (x, y) => [4] ++ toBe l x ++ toBe l y

/-- The length that the first byte of a point gives it (R293); none for a byte that SEC 1 does not have. -/
def ptLen (l tag : Nat) : Option Nat :=
  if tag = 0 then some 1 else if tag = 2 ∨ tag = 3 then some (1 + l) else if tag = 4 then some (1 + 2 * l) else none

/-- A point from its encoding: none where it is not one of the curve. -/
def Curve.decode (c : Curve) (l : Nat) (b : Bytes) : Option Pt :=
  let t := byteAt b 0
  let x := beNat (bsub b 1 l)
  let y := if t = 4 then beNat (bsub b (1 + l) l)
    else
      let r := sqrtMod c.p ((x * x * x + c.a * x + c.b) % c.p)
      if r % 2 = t % 2 then r else (c.p - r) % c.p
  if ptLen l t ≠ some b.length then none
  else if t = 0 then some none
  else if c.on (some (x, y)) then some (some (x, y)) else none

/-- A curve block of algorithm 0x06 (R293). -/
def Curve.ofBlock (l : Nat) (b : Bytes) : Curve :=
  let f := fun (i : Nat) => beNat (bsub b (i * l) l)
  { p := f 0, a := f 1, b := f 2, gx := f 3, gy := f 4, n := f 5, h := byteAt b (6 * l) }
/-- A named curve of R292, whose parameters its standard gives; every one has cofactor 1. -/
def Curve.named (alg : Nat) : Curve :=
  let f := Config.curveParam alg
  { p := f 0, a := f 1, b := f 2, gx := f 3, gy := f 4, n := f 5, h := 1 }

/-- Row 9 of R303: h·Q = O or n·Q ≠ O, where h > 1. -/
def Curve.smallOrder (c : Curve) (q : Pt) : Bool :=
  decide (1 < c.h) && ((c.mul c.h q).isNone || (c.mul c.n q).isSome)

/-- The checks of a curve block but the digest of key 1 (R305), for the field length and bits of byte 80. -/
def Curve.blockOk (c : Curve) (l bits : Nat) : Bool :=
  let bp := bitLen c.p
  let t : Int := (c.p : Int) + 1 - c.h * c.n
  decide (192 ≤ bp ∧ bp ≤ 576 ∧ ceilDiv bp 8 = l ∧ bp = bits ∧ c.a < c.p ∧ c.b < c.p
    ∧ (4 * c.a * c.a * c.a + 27 * c.b * c.b) % c.p ≠ 0 ∧ c.n ≠ c.p ∧ 2 ^ (bp - 3) < c.n ∧ 1 ≤ c.h ∧ c.h ≤ 4 ∧ t * t ≤ 4 * c.p)
    && (List.range 100).all (fun j => powMod c.n c.p (j + 1) != 1)
    && c.on c.base && decide (Nat.Prime c.p) && decide (Nat.Prime c.n) && (c.mul c.n c.base).isNone

/-! ### ECDSA and ECDH (R297 to R299) -/

/-- Byte length of n (R293). -/
def Curve.nLen (c : Curve) : Nat := ceilDiv (bitLen c.n) 8
/-- A digest as a number: its leftmost bits, as many as n has. -/
def Curve.digest (c : Curve) (hash : Bytes) : Nat :=
  let ex := 8 * hash.length - bitLen c.n
  beNat hash / 2 ^ ex

/-- r ‖ s with k formed as RFC 6979 forms it, 32 bytes of DRBG output as its additional data (R298). -/
def Curve.sign (c : Curve) (nl hashAlg d : Nat) (hash rnd : Bytes) : Bytes :=
  let k := Config.rfc6979 c.n d hashAlg hash (rnd.take 32)
  let r := ((c.mul k c.base).getD (0, 0)).1 % c.n
  let s := modInv k c.n * (c.digest hash + r * d) % c.n
  toBe nl r ++ toBe nl s

/-- What r must be for a signature to hold: none where the sum is the point at infinity. -/
def Curve.recover (c : Curve) (q : Pt) (hash : Bytes) (r s : Nat) : Option Nat :=
  let w := modInv s c.n
  (c.add (c.mul (c.digest hash * w % c.n) c.base) (c.mul (r * w % c.n) q)).map (fun p => p.1 % c.n)

/-- ECDSA verification: r and s of the length of n, in their ranges, under a point of the curve in `l`-byte coordinates. -/
def Curve.verify (c : Curve) (l : Nat) (pub hash sig : Bytes) : Bool :=
  let nl := c.nLen
  let r := beNat (sig.take nl)
  let s := beNat (sig.drop nl)
  match c.decode l pub with
  | some (some q) => sig.length == 2 * nl && r != 0 && s != 0 && decide (r < c.n ∧ s < c.n) && c.recover (some q) hash r s == some r
  | _ => false

/-- A signature of the codes of R40, R487 and R524 on a message: 1 ECDSA P-256, 2 ECDSA P-384, 3 ML-DSA-65. DESIGN CHOICE (log
entry 88): SHA-256 and SHA-384 on the two curves, and ML-DSA with an empty context. -/
def codeSig (code : Nat) (pub msg sig : Bytes) : Bool :=
  if code = 1 then (Curve.named 1).verify 32 pub (hashOf 1 msg 32) sig
  else if code = 2 then (Curve.named 2).verify 48 pub (hashOf 2 msg 48) sig
  else pub != [] && Config.dsaVerify 0x41 pub sig [] msg

/-- x-coordinate of d·Q in L bytes. -/
def Curve.dh (c : Curve) (l d : Nat) (q : Pt) : Bytes := toBe l ((c.mul d q).getD (0, 0)).1

/-! ### X25519 (RFC 7748) and Ed25519 (RFC 8032) -/

def p25519 : Nat := 2 ^ 255 - 19
def l25519 : Nat := 2 ^ 252 + 27742317777372353535851937790883648493

/-- A little-endian octet string as a number. -/
def leNat (b : Bytes) : Nat := beNat b.reverse

/-- The ladder: the u-coordinate of k times the point of u-coordinate `u`. -/
def ladder (k u : Nat) : Nat :=
  let p := p25519
  let sub := fun (a b : Nat) => (a + (p - b)) % p
  let r := (List.range 255).foldr (fun i (s : Nat × Nat × Nat × Nat) =>
    let bitv := k / 2 ^ i % 2
    let (x2, z2, x3, z3) := if bitv = 1 then (s.2.2.1, s.2.2.2, s.1, s.2.1) else s
    let a := (x2 + z2) % p
    let b := sub x2 z2
    let aa := a * a % p
    let bb := b * b % p
    let e := sub aa bb
    let da := sub x3 z3 * a % p
    let cb := (x3 + z3) * b % p
    let y := (da + cb) % p
    let w := sub da cb
    let (nx2, nz2, nx3, nz3) := (aa * bb % p, e * (aa + 121665 * e) % p, y * y % p, u * (w * w % p) % p)
    if bitv = 1 then (nx3, nz3, nx2, nz2) else (nx2, nz2, nx3, nz3)) (1, 0, u % p, 1)
  r.1 * powMod p r.2.1 (p - 2) % p

/-- The scalar of a private key. -/
def clamp (k : Bytes) : Nat := leNat k % 2 ^ 254 / 8 * 8 + 2 ^ 254
def x25519 (k u : Bytes) : Bytes := toLe 32 (ladder (clamp k) (leNat u % 2 ^ 255))
def x25519Pub (k : Bytes) : Bytes := toLe 32 (ladder (clamp k) 9)
/-- A u-coordinate of small order: eight times its point is the neutral one. -/
def xSmallOrder (u : Nat) : Bool := ladder 8 u == 0

/-- Addition on −x² + y² = 1 + dx²y². -/
def edD : Nat := (p25519 - 121665) * powMod p25519 121666 (p25519 - 2) % p25519
def edAdd (u v : Nat × Nat) : Nat × Nat :=
  let p := p25519
  let m := edD * (u.1 * v.1 % p) % p * (u.2 * v.2 % p) % p
  let inv := fun (a : Nat) => powMod p (a % p) (p - 2)
  ((u.1 * v.2 + u.2 * v.1) % p * inv (1 + m) % p, (u.2 * v.2 + u.1 * v.1) % p * inv (1 + (p - m)) % p)
def edMul (k : Nat) (q : Nat × Nat) : Nat × Nat :=
  (List.range (bitLen k)).foldr (fun i a => let d := edAdd a a; if k / 2 ^ i % 2 = 1 then edAdd d q else d) (0, 1)
def edEncode (q : Nat × Nat) : Bytes := toLe 32 (q.2 + q.1 % 2 * 2 ^ 255)
/-- Decoding (RFC 8032, 5.1.3). -/
def edDecode (b : Bytes) : Option (Nat × Nat) :=
  let p := p25519
  let y := leNat (b.take 32) % 2 ^ 255
  let sgn := leNat (b.take 32) / 2 ^ 255 % 2
  let u := (y * y + (p - 1)) % p
  let v := (edD * (y * y % p) + 1) % p
  let c := u * powMod p v 3 % p * powMod p (u * powMod p v 7 % p) ((p - 5) / 8) % p
  let x0 := if v * (c * c % p) % p = u then some c
    else if (v * (c * c % p) + u) % p = 0 then some (c * powMod p 2 ((p - 1) / 4) % p) else none
  match x0 with
  | none => none
  | some x => if p ≤ y ∨ (x = 0 ∧ sgn = 1) then none else some (if x % 2 = sgn then x else (p - x) % p, y)
def edBase : Nat × Nat := (edDecode (toLe 32 (4 * powMod p25519 5 (p25519 - 2) % p25519))).getD (0, 1)
def edSmallOrder (q : Nat × Nat) : Bool := edMul 8 q == (0, 1)

def sha512 (m : Bytes) : Bytes := hashOf 3 m 64
def edPub (k : Bytes) : Bytes := edEncode (edMul (clamp ((sha512 k).take 32)) edBase)
/-- PureEdDSA (R298): no draw enters it. -/
def edSign (k msg : Bytes) : Bytes :=
  let h := sha512 k
  let r := leNat (sha512 (h.drop 32 ++ msg)) % l25519
  let rb := edEncode (edMul r edBase)
  let s := (r + leNat (sha512 (rb ++ edPub k ++ msg)) % l25519 * clamp (h.take 32)) % l25519
  rb ++ toLe 32 s
/-- The two sides of the cofactored equation (R298): none where a point does not decode. -/
def edSides (a sig msg : Bytes) : Option (Bytes × Bytes) :=
  match edDecode a, edDecode (sig.take 32) with
  | some q, some r =>
    let k := leNat (sha512 (sig.take 32 ++ a ++ msg)) % l25519
    some (edEncode (edMul (8 * leNat (bsub sig 32 32)) edBase), edEncode (edAdd (edMul 8 r) (edMul 8 (edMul k q))))
  | _, _ => none

/-! ### RSA (R289, R298) -/

/-- Mask generation of PKCS #1 (R298). -/
def mgf1 (hash : Nat) (seed : Bytes) (n : Nat) : Bytes :=
  let hl := hashLen hash
  ((List.range (ceilDiv n hl)).flatMap (fun i => hashOf hash (seed ++ toBe 4 i) hl)).take n

/-- DigestInfo before the digest, by a hash code of R216. -/
def digestInfo (hash : Nat) : Bytes :=
  let hl := hashLen hash
  [0x30, BitVec.ofNat 8 (hl + 17), 0x30, 0x0D, 0x06, 0x09, 0x60, 0x86, 0x48, 0x01, 0x65, 0x03, 0x04, 0x02,
   BitVec.ofNat 8 (if hash = 4 then 8 else hash), 0x05, 0x00, 0x04, BitVec.ofNat 8 hl]

/-- EMSA-PKCS1-v1_5. -/
def emsaPkcs (hash k : Nat) (digest : Bytes) : Bytes :=
  let t := digestInfo hash ++ digest
  [0x00, 0x01] ++ List.replicate (k - 3 - t.length) 0xFF ++ [0x00] ++ t

/-- The data block of PSS under its mask; `bits` of the encoded message. -/
def pssMask (hash bits : Nat) (h db : Bytes) : Bytes :=
  let m := bxor db (mgf1 hash h db.length)
  toBe db.length (beNat m % 2 ^ (bits - 8 * (ceilDiv bits 8 - db.length)))
/-- EMSA-PSS with a salt (R298). -/
def emsaPss (hash bits : Nat) (digest salt : Bytes) : Bytes :=
  let hl := hashLen hash
  let n := ceilDiv bits 8
  let h := hashOf hash (zeros 8 ++ digest ++ salt) hl
  pssMask hash bits h (zeros (n - salt.length - hl - 2) ++ [1] ++ salt) ++ h ++ [0xBC]
/-- PSS verification, the salt of a stated length; `em` may be longer than the bits need, with zeros before it. -/
def pssOk (hash bits sl : Nat) (digest em0 : Bytes) : Bool :=
  let em := em0.drop (em0.length - ceilDiv bits 8)
  let hl := hashLen hash
  let n := ceilDiv bits 8
  let db := em.take (n - hl - 1)
  let h := bsub em (n - hl - 1) hl
  let plain := pssMask hash bits h db
  decide (hl + sl + 2 ≤ n) && em.length == n && allZero (em0.take (em0.length - ceilDiv bits 8)) && em.getLast? == some 0xBC
    && decide (beNat db < 2 ^ (bits - 8 * (n - db.length)))
    && allZero (plain.take (n - hl - sl - 2)) && byteAt plain (n - hl - sl - 2) == 1
    && h == hashOf hash (zeros 8 ++ digest ++ plain.drop (n - hl - sl - 1)) hl

/-- EME-OAEP with an empty label (R298). -/
def oaepEncode (hash k : Nat) (msg seed : Bytes) : Bytes :=
  let hl := hashLen hash
  let db := hashOf hash [] hl ++ zeros (k - msg.length - 2 * hl - 2) ++ [1] ++ msg
  let mdb := bxor db (mgf1 hash seed (k - hl - 1))
  [0] ++ bxor seed (mgf1 hash mdb hl) ++ mdb
def oaepDecode (hash k : Nat) (em : Bytes) : Option Bytes :=
  let hl := hashLen hash
  let mdb := em.drop (hl + 1)
  let seed := bxor (bsub em 1 hl) (mgf1 hash mdb hl)
  let db := bxor mdb (mgf1 hash seed (k - hl - 1))
  let rest := (db.drop hl).dropWhile (· == 0)
  if em.length = k ∧ byteAt em 0 = 0 ∧ db.take hl = hashOf hash [] hl ∧ byteAt rest 0 = 1 then some (rest.drop 1) else none

/-- The private operation by the Chinese remainders of p and q (R289). -/
def rsaCrt (p q dp dq qi c : Nat) : Nat :=
  let m1 := powMod p (c % p) dp
  let m2 := powMod q (c % q) dq
  m2 + q * (qi * (m1 + (p - m2 % p)) % p)

end Sys2Proof.Machine
end

