-- ==== Sys2Proof/Machine/BlocksC.lean ====
section
/-! DEFINITION. The typed state of the part, third part: fabric and pair, custodians, tamper domain, evidence log and
event recorder, life-cycle and debug, access rules, memories, power and configuration. Plain data. -/

namespace Sys2Proof.Machine

/-- Port states (R410), in the order of their codes. -/
inductive PortState where
  | disabled | training | auth | up | down | refused
deriving DecidableEq, Repr

/-- A Glioc port (R409, R410, R443). -/
structure Port where
  num      : Nat
  state    : PortState := .disabled
  peerNode : Nat := 0
  peerPort : Nat := 0
  since    : Nat := 0
  /-- a fresh challenge is out (R410) -/
  challenged : Bool := false
deriving DecidableEq, Repr

/-- A node record (R416) with the flood window of that source (R419). -/
structure Node where
  num    : Nat
  unit   : Nat := 0
  boot   : Nat := 0
  seq    : Nat := 0
  hops   : Nat := 0
  portSts : List (Nat × Nat) := []
  live   : Bool := false
  lastSt : Nat := 0
  role   : Nat := 0
  qual   : Nat := 0
deriving DecidableEq, Repr

/-- The flood window of a source (R419): boot count, highest sequence, and the window of the 64 below it. -/
structure Flood where
  src  : Nat
  boot : Nat
  high : Nat
  win  : BitVec 64 := 0
deriving DecidableEq, Repr

/-- A routing entry (R417). -/
structure Route where
  node : Nat
  cls  : Nat
  port : Nat
  hops : Nat
  st   : Nat
deriving DecidableEq, Repr

/-- A peer session (R413). -/
structure Session where
  peer   : Nat
  since  : Nat
  /-- the frame counter -/
  frames : Nat := 0
  /-- the peer's unit ID, and the secret after extraction -/
  unit   : Nat := 0
  ext    : Bytes := []
deriving DecidableEq, Repr

/-- A message that waits until its session is set up (R413). -/
structure HeldMsg where
  node : Nat
  cls  : Nat
  msg  : Bytes
deriving DecidableEq, Repr

/-- A replication of a domain to one index (R420 to R422); `src` is the source node where this device is the replica. -/
structure Repl where
  domain : Nat
  index  : Nat
  en     : Bool := false
  peer   : Nat := 0
  state  : Nat := 0
  /-- an ERASE on the replica ended it (R422) -/
  ended  : Bool := false
deriving DecidableEq, Repr

structure ReplicaOf where
  domain : Nat
  src    : Nat
deriving DecidableEq, Repr

/-- What a spill peer last offered (R424). -/
structure Offer where
  node   : Nat
  credit : Nat := 0
  gens   : List (Nat × Nat × Bool) := []
deriving DecidableEq, Repr

/-- Pair roles (R429), in the order of their codes. -/
inductive Role where
  | unpaired | syncing | standby | active | activeAlone | fenced
deriving DecidableEq, Repr

/-- Why a witness swap was issued, so that its completion knows what follows (R428, R430, R439). -/
inductive SwapFor where
  | activate | takeover | handover | alone | recover
deriving DecidableEq, Repr

/-- A change that is mirrored, by the command that made it (R437): what completes on the acknowledgement. -/
inductive MirrorOf where
  | ring (slice num : Nat)
  | slice (num : Nat)
  | slot (promoted : Bool)
  | domain
  | sapling (slot : Nat)
  | write
deriving DecidableEq, Repr

/-- A change that waits for the standby's acknowledgement (R437), since an ST. -/
structure MirrorChange where
  of    : MirrorOf
  since : Nat
deriving DecidableEq, Repr

/-- The pair (R427 to R440). -/
structure Pair where
  role      : Role := .unpaired
  epoch     : Nat := 0
  holder    : Nat := 0
  swap      : Option SwapFor := none
  swapDue   : Option (SwapFor × Nat) := none
  lastSent  : Nat := 0
  lastAcked : Nat := 0
  leaseEnd  : Nat := 0
  heard     : Nat := 0
  offset    : Int := 0
  demote    : Nat := 0
  syncPct   : Nat := 0
  cmdBusy   : Bool := false
  cmdResult : Nat := 0
  handing   : Bool := false
  /-- the handover in progress is a self-demotion (R436) -/
  selfDemote : Bool := false
  /-- next sequence as the mirror gives it (R435) -/
  nextSeq   : Nat := 0
  /-- changes that wait for the standby, oldest first (R437) -/
  changes   : List MirrorChange := []
deriving DecidableEq, Repr

/-- Glioc fabric (R409 to R444). -/
structure Fab where
  ports    : List Port := (List.range 8).map (fun n => { num := n })
  nodes    : List Node := []
  floods   : List Flood := []
  routes   : List Route := []
  occ      : Occ := []
  hashKey  : Nat := 0
  evicted  : Nat := 0
  sessions : List Session := []
  held     : List HeldMsg := []
  repls    : List Repl := []
  replicas : List ReplicaOf := []
  offers   : List Offer := []
  floodSeq : Nat := 0
  conflict : Bool := false
  lastDisc : Nat := 0
  lastOffer : Nat := 0
  pair     : Pair := {}
deriving DecidableEq, Repr

/-- An enrolment record (R447). -/
structure Enrol where
  id     : Nat
  digest : Bytes
  remote : Bool
  st     : DWord := 0
deriving DecidableEq, Repr

/-- A scope that is not empty: `none` is the device scope (R447). -/
structure CusScope where
  domain : Option Nat
  m      : Nat
  recs   : List Enrol
deriving DecidableEq, Repr

/-- Ceremony slot states (R452), in the order of their codes. -/
inductive CerState where
  | idle | collecting | opened
deriving DecidableEq, Repr

/-- An approval counted in a ceremony (R455, R459): custodian, whether local, component type, share index and value. -/
structure Approval where
  id    : Nat
  loc   : Bool
  kind  : Nat := 0
  index : Nat := 0
  value : Bytes := []
deriving DecidableEq, Repr

/-- A ceremony slot (R452 to R464), with the slot registers of its own. -/
structure Ceremony where
  num    : Nat
  cfg    : Word := 0
  paramAddr : Nat := 0
  paramLen  : Nat := 0
  respAddr  : Nat := 0
  state  : CerState := .idle
  cls    : Nat := 0
  action : Nat := 0
  /-- the scope: none is the device scope -/
  domain : Option Nat := none
  param  : Bytes := []
  id     : DWord := 0
  nonce  : DWord := 0
  /-- what the ephemeral key pair is drawn from -/
  eph    : Bytes := []
  beginSt : Nat := 0
  first  : Option Nat := none
  openSt : Nat := 0
  apps   : List Approval := []
  required : Nat := 0
  localMin : Nat := 0
  result : Nat := 0
deriving DecidableEq, Repr

/-- Card port states (R464), in the order of their codes; `powering` holds the class under trial (R633). -/
inductive CardState where
  | empty | active | unsupported | fault
deriving DecidableEq, Repr

structure CardPort where
  num   : Nat
  state : CardState := .empty
  present : Bool := false
  /-- activation in progress, and whether at class B (R445, R633) -/
  trying : Option Bool := none
  /-- an activated card runs at class B (R633) -/
  classB : Bool := false
deriving DecidableEq, Repr

/-- Custodians (R445 to R465). -/
structure Cus where
  ports  : List CardPort := [{ num := 0 }, { num := 1 }]
  cers   : List Ceremony := [{ num := 0 }, { num := 1 }, { num := 2 }, { num := 3 }]
  scopes : List CusScope := []
deriving DecidableEq, Repr

/-- Minimum response class of each source code (R467, R473); 0 for an unused code. -/
def alarmMinClass (c : Nat) : Nat :=
  [0, 3, 2, 3, 2, 2, 2, 2, 2, 2, 2, 2, 3, 3, 3, 0, 1, 1, 1, 1, 1].getD c 0
/-- Whether a source needs the VENDOR authority (R467). -/
def alarmVendor (c : Nat) : Bool := [3, 4, 7, 9, 11].contains c

/-- The open alarm event (R480): ST and stamp of its first detection, and detections by source. -/
structure AlarmEvent where
  st     : Nat
  stamp  : DWord
  counts : List (Nat × Nat)
deriving DecidableEq, Repr

/-- A battery-buffer entry (R483). -/
structure BattEntry where
  rtc   : Nat
  event : Nat
  src   : Nat
  cls   : Nat
  count : Nat
deriving DecidableEq, Repr

/-- Tamper domain (R466 to R492). `lock` is the LOCK flag, `zeroised` that a ZEROISE occurred since the last unlock. -/
structure Tmp where
  classes  : List Nat := (List.range 32).map alarmMinClass
  active   : BitVec 32 := 0
  latched  : BitVec 32 := 0
  lock     : Bool := false
  zeroised : Bool := false
  startedLocked : Bool := false
  /-- an unlock succeeded; acceptance resumes at the next dispatch epoch (R489) -/
  resume   : Bool := false
  event    : Option AlarmEvent := none
  lastSt   : DWord := 0
  counts   : List Nat := List.replicate 32 0
  nonce    : DWord := 0
  nonceSt  : Nat := 0
  nonceLive : Bool := false
  tokenMask : Option Word := none
  tokenStat : Nat := 0
  unlockResult : Nat := 0
  rtc      : Nat := 0
  rtcAcc   : Nat := 0
  pair     : Option (Nat × Nat) := none
  pairSt   : Nat := 0
  batt     : List BattEntry := []
  battEvent : Nat := 0
  battRtc  : Option Nat := none
  moved    : Nat := 0
  movedOver : Bool := false
  vbatLost : Bool := false
  lfsr     : DWord := 0
  patternSt : Nat := 0
  /-- pairs whose last period was bad (R470) -/
  badPattern : BitVec 4 := 0
  /-- the light detectors, and the temperature sensors, disagreed in their last sample (R471) -/
  lightDiff : Bool := false
  tempDiff  : Bool := false
  /-- the last readings of the temperature sensors, and of VBAT in mV (R491) -/
  tempA    : Nat := 0
  tempB    : Nat := 0
  vbatMv   : Nat := 0
deriving DecidableEq, Repr

/-- A cause that waits for its evidence record (R497); 28 payload bytes. -/
structure EvCause where
  typ     : Nat
  stamp   : DWord
  payload : Bytes := []
  recon   : Bool := false
deriving DecidableEq, Repr

/-- A record of the evidence log (R494); its index is its place in the log. `stored` is the repeat count in MRAM (R569). -/
structure EvRecord where
  typ     : Nat
  stamp   : DWord
  payload : Bytes
  recon   : Bool := false
  repeats : Nat := 0
  stored  : Nat := 0
  link    : Bytes := []
deriving DecidableEq, Repr

/-- Evidence log (R493 to R500, R511 to R513). Records newest first; `head` is the head count in MRAM (R498, R569). -/
structure Evl where
  recs     : List EvRecord := []
  head     : Nat := 0
  queue    : List EvCause := []
  lost     : Nat := 0
  lostStamp : DWord := 0
  exporting : Bool := false
  expResult : Nat := 0
deriving DecidableEq, Repr

/-- An event-recorder record (R503). -/
structure ErRecord where
  seq     : Nat
  trig    : Nat
  first   : DWord
  last    : DWord
  lastNs  : Nat
  count   : Nat := 0
  detail  : Bytes
  snaps   : List (Word × Word)
  flushed : Bool := false
deriving DecidableEq, Repr

/-- Event recorder (R501 to R510, R514). Both regions newest first; `flushTo` is the last sequence of a flush in
progress. -/
structure Erc where
  ring     : List ErRecord := []
  mram     : List ErRecord := []
  seq      : Nat := 0
  flushTo  : Option Nat := none
  wrapped  : Bool := false
  trigCfg  : List (Nat × Nat) := []
  snaps    : List (Nat × Word) := []
deriving DecidableEq, Repr

/-- Life-cycle states (R517), in the order of their codes. -/
inductive LcState where
  | blank | factoryTest | factoryLocked | field | fieldReturn | scrapped
deriving DecidableEq, Repr

/-- Fuses (R517 to R520, R529): outside `Dev`, because their bits are only ever set. -/
structure Otp where
  /-- the state word's two copies (R521) -/
  copyA : BitVec 40 := 0xFFFFFF
  copyB : BitVec 40 := 0xFFFFFF
  /-- the progress records that have any bit programmed, first to last (R528) -/
  recs  : List Word := [0x3F03FF01, 0x3F0FFF02, 0x3F0FFF04]
  /-- words of the fuse groups that the JTAG fuse port programmed: group, word, value (R519) -/
  words : List (Nat × Nat × Word) := []
deriving DecidableEq, Repr

/-- A debug challenge (R536): nonce, life-cycle state, scope asked for, ST of issue and its stamp, and whether its one
response has been used. -/
structure DbgChal where
  nonce  : DWord
  state  : Nat
  scope  : Nat
  issued : Nat
  stamp  : DWord
  used   : Bool := false
deriving DecidableEq, Repr

/-- Life-cycle controller and debug (R517 to R543). -/
structure Lcs where
  stuck    : Bool := false
  reqLoaded : Option (Nat × Nat) := none
  reqResult : Nat := 0
  goResult : Nat := 0
  chal     : Option DbgChal := none
  /-- an accepted response (R537): scope, lifetime in s, and bits 15:0 of its nonce -/
  resp     : Option (Nat × Nat × Nat) := none
  dbgResult : Nat := 0
  scope    : Nat := 0
  expiry   : Nat := 0
  memTest  : Bool := false
  /-- a transition whose step records stage 6 has still to write: from and to state (R532) -/
  report   : Option (Nat × Nat) := none
  /-- a root or trim fuse group failed its check word at stage 1 (R520) -/
  rootBad  : Bool := false
  bypass   : Bool := false
  bscan    : Bytes := []
  preload  : Bytes := []
  jtag     : Nat := 0
deriving DecidableEq, Repr

/-- A region of the access-rule table (R546), as its four registers hold it (R561). -/
structure Region where
  baseLo : Word := 0
  baseHi : Word := 0
  cfg  : Word := 0
  perm : Word := 0
deriving DecidableEq, Repr

/-- Access rules (R544 to R563): the committed and the staged table, and the table that a gate may still hold while a
commit is being replicated (R552, R553). -/
structure AccT where
  committed : List Region := List.replicate 64 {}
  staged    : List Region := List.replicate 64 {}
  older     : Option (List Region) := none
  epoch     : Nat := 0
  result    : Nat := 0
  badRgn    : Nat := 0
  fence     : Bool := false
  fenceEpoch : Nat := 0
  viol      : Word := 0
  violAddr  : Nat := 0
  dbgDenied : List Nat := []
  dbgRegion : Nat := 0
  dbgError  : Bool := false
deriving DecidableEq, Repr

/-- Memories and DDR5 (R564 to R584). -/
structure Mem where
  ddrReady : Bool := false
  /-- the inline keys, held by the always-on controller: AES-256-XTS, and AES-256 of the line tags (R575, R576) -/
  xtsKey   : Bytes := []
  macKey   : Bytes := []
  /-- MEM_STAT.TRAIN (R583) -/
  train    : Nat := 0
  srKept   : Bool := false
  trainRec : Bool := false
  vddqDropped : Bool := false
  cfg      : Word := 0
  usable   : Nat := 0
  degraded : Bool := false
  devCe    : List (Nat × Nat) := []
  /-- device and ST of the corrections of the last hour (R580) -/
  devSts   : List (Nat × Nat) := []
  ueSram   : Nat := 0
  ueMram   : Nat := 0
  ueDdr    : Nat := 0
  lastErr  : Word := 0
  lastAddr : Nat := 0
  mergeSt  : Nat := 0
deriving DecidableEq, Repr

/-- A power domain that wakes, or whose wake failed (R586): state code, fault, last step. -/
structure PwrDom where
  num   : Nat
  state : Nat := 0
  fault : Bool := false
  step  : Nat := 0
deriving DecidableEq, Repr

/-- The resets that can be held back by a supply warning (R599), and the transition restart. -/
inductive ResetKind where
  | cold | transition | warmPin | perst | hotReset | flr | wake
deriving DecidableEq, Repr

/-- Power and reset (R585 to R613). -/
structure Pwr where
  standby  : Bool := false
  stage    : Nat := 1
  halted   : Bool := false
  retained : Bool := false
  imageB   : Bool := false
  /-- the rule set of the verified image, for stage 6 (R549, R603) -/
  rules    : List Region := []
  ddrParams : Word := 0
  /-- the ML-DSA-65 key of the Nymjor service that the verified image carries, where the fused digest accepts it (R571) -/
  nymjorMl : Bytes := []
  ddrFull  : Bool := true
  /-- work that a start still owes, whichever path it takes (R601): the recovery from the anchor, the configuration load, and
  the records of a power-up -/
  jnlLost  : Bool := true
  cfgDue   : Bool := true
  bootDue  : Bool := true
  /-- stage 5 of this start runs the entropy start-up (R374, R375) -/
  rngStart : Bool := true
  cause    : Nat := 0
  seen     : Nat := 0
  warnCore : Bool := false
  warnPfail : Bool := false
  warnSt   : Nat := 0
  /-- the start-up stage that the warning found in progress (R598) -/
  warnStage : Nat := 0
  held     : Option ResetKind := none
  cmdResult : Nat := 0
  doms     : List PwrDom := []
  groveOn  : BitVec 12 := 0
  groveOp  : List Nat := List.replicate 12 0
  idle     : List Nat := List.replicate 12 0
  evalSt   : Nat := 0
  est      : Nat := 0
  vmin     : Nat := 0xFFF
  warnCnt  : Nat := 0
  recCnt   : Nat := 0
  mgmtOk   : List Bool := [true, true]
  /-- pairs that the debug master has halted; a halted pair is out of service (R535) -/
  mgmtHalt : List Bool := [false, false]
  boots    : Nat := 0
  powered  : Bool := true
  verified : Bool := false
deriving DecidableEq, Repr

/-- A configuration block in MRAM (R605): entries of BAR0 offset and value. -/
structure CfgBlock where
  gen     : Nat
  entries : List (Nat × Word)
deriving DecidableEq, Repr

/-- Configuration block engine (R605 to R607, R613). -/
structure Cfg where
  a        : Option CfgBlock := none
  b        : Option CfgBlock := none
  job      : Option CfgBlock := none
  result   : Nat := 0
  defaulted : Bool := false
  inUse    : Bool := false
  fallback : Bool := false
  rejected : Nat := 0
  gen      : Nat := 0
deriving DecidableEq, Repr

end Sys2Proof.Machine
end

