-- ==== Sys2Proof/Machine/State.lean ====
section
/-! DEFINITION. The state of the part and the state after reset. The ST counter and the fuses stand beside everything
else (`Dev`), because the spec says of them what no other state has: ST never decreases (R28), a fuse is only ever
blown. Plain data. -/

namespace Sys2Proof.Machine

/-- What the part sent out, newest first in `Dev.tx` (log entry 11): host-memory writes, messages, frames, serial data. -/
inductive Tx where
  /-- head write-back word (R64), with the PASID tag of its slice (R45) -/
  | hwb (pasid : Option Nat) (slice ring : Nat) (v : DWord)
  /-- result bytes for the output pointer of the item of a sequence (R45, R58, R191) -/
  | output (pasid : Option Nat) (seq : Nat) (ptr : DWord) (sgl : Bool) (data : Bytes)
  /-- completion entry at a posted count (R45, R55 to R58) -/
  | cqe (pasid : Option Nat) (slice ring : Nat) (count : Word) (entry : Bytes)
  /-- read of host memory for a slice's ring or item: descriptor, scatter list, input (R45) -/
  | fetch (pasid : Option Nat) (addr : DWord) (len : Nat)
  /-- MSI-X message (R75, R76) -/
  | msix (vec addr data : Nat)
  /-- a frame on a port: header, payload, check word (R409, R411) -/
  | frame (port : Nat) (bytes : Bytes)
  /-- CompareAndSwap on the witness word (R428) -/
  | cas (expect new : DWord)
  /-- read of the witness word that flushes posted writes (R434) -/
  | witnessRead
  /-- other host-memory write: migration image, evidence summary (R399, R511) -/
  | dma (addr : DWord) (data : Bytes)
  /-- bytes to a card (R454) -/
  | card (port : Nat) (data : Bytes)
  /-- what the debug master reads (R534, R555) -/
  | debug (data : Bytes)
  /-- SMBus data (R642) -/
  | smbus (v : Word)
  /-- bits shifted out on TDO (R540, R628) -/
  | tdo (bits : Nat) (v : Nat)
deriving DecidableEq, Repr

/-- Everything but the ST counter, the fuses, the addressed memory and the queue. -/
structure Dev where
  regs    : RegFile := []
  hiLatch : RegFile := []
  rdata   : DWord := 0
  tx      : List Tx := []
  tim     : Tim := {}
  hif     : Hif := {}
  slices  : List Slice := []
  jnl     : Jnl := {}
  ddt     : Ddt := {}
  dsp     : Dsp := {}
  lan     : Lan := {}
  pke     : Pke := {}
  key     : Key := {}
  rng     : Rng := {}
  fab     : Fab := {}
  cus     : Cus := {}
  tmp     : Tmp := {}
  evl     : Evl := {}
  erc     : Erc := {}
  lcs     : Lcs := {}
  acc     : AccT := {}
  mem     : Mem := {}
  pwr     : Pwr := {}
  cfg     : Cfg := {}
deriving DecidableEq, Repr

/-- The state of the block. -/
structure State where
  /-- the ST counter (R28) -/
  st      : DWord
  /-- the fuses (R519) -/
  otp     : Otp
  dev     : Dev
  /-- memory that an address of R564 reaches: SRAM, MRAM and DDR5, in the canonical form of `Memory.wf` -/
  mem     : List (Nat × BitVec 8)
  /-- the commands that wait, first in, first out -/
  pending : List Instr
deriving DecidableEq, Repr

/-- The reasons a step can fault: none. Every command has an effect in every state; an event whose condition does not
hold changes nothing (log entry 1). -/
inductive Fault where
  /-- Raised by no meaning. Safe. -/
  | never
deriving DecidableEq, Repr

/-- The reasons a step can be refused. -/
inductive Refusal where
  /-- A command with no meaning yet, by its mnemonic; raised by `exec`'s arms alone. Safe. -/
  | notModelled (mnemonic : String)
deriving DecidableEq, Repr

/-- The part right after power-on reset (R28, R600): ST at 0, UNSET; start-up at stage 1; every register at the reset
value of its table; memory with nothing listed; the fuses those of a FIELD unit (log entry 5); nothing waits. -/
def State.reset : State :=
  { st := 0, otp := {}, dev := {}, mem := [], pending := [] }

end Sys2Proof.Machine
end

