-- ==== Sys2Proof/Machine/Ops.lean ====
section
/-! DEFINITION. The shared operations over the register file, the memory, the free values and the outbound
record. -/

namespace Sys2Proof.Machine

/-- What every operation may read and none writes: ST and the fuses. -/
structure Ctx where
  now : Nat
  otp : Otp
deriving DecidableEq, Repr

/-- The context of a state. -/
def State.ctx (s : State) : Ctx := { now := s.st.toNat, otp := s.otp }

/-- A command whose effect is on `Dev` alone. -/
def State.onDev (s : State) (f : Ctx → Dev → Dev) : Host.Outcome State Fault Refusal :=
  .next { s with dev := f s.ctx s.dev }

/-! ### Register file -/

/-- The stored value of a register; its reset value where nothing is listed. -/
def RegFile.get (rf : RegFile) (off : Nat) : Word :=
  match rf.find? (fun p => p.1 == off) with
  | some p => p.2
  | none => regReset off

/-- Remove an offset. -/
def RegFile.erase (rf : RegFile) (off : Nat) : RegFile := rf.filter (fun p => p.1 != off)

/-- Insert in offset order. -/
def RegFile.insert (off : Nat) (v : Word) : RegFile → RegFile
  | [] => [(off, v)]
  | p :: t => if off < p.1 then (off, v) :: p :: t else p :: RegFile.insert off v t

/-- Store a value; writing the reset value removes the entry, so that equal register files are equal data. -/
def RegFile.set (rf : RegFile) (off : Nat) (v : Word) : RegFile :=
  if v = regReset off then rf.erase off else RegFile.insert off v (rf.erase off)

/-- The canonical form of a register file. -/
def RegFile.wf (rf : RegFile) : Bool :=
  decide (rf.Pairwise (fun a b => a.1 < b.1)) && rf.all (fun p => p.2 != regReset p.1)

/-- Stored value of a register. -/
def Dev.reg (d : Dev) (off : Nat) : Word := d.regs.get off
/-- Store a register. -/
def Dev.setReg (off : Nat) (v : Word) (d : Dev) : Dev := { d with regs := d.regs.set off v }
/-- A counter that saturates at 32 bits goes up by `n`. -/
def Dev.bumpBy (off n : Nat) (d : Dev) : Dev := d.setReg off (BitVec.ofNat 32 (sat 0xFFFFFFFF ((d.reg off).toNat + n)))
/-- A counter that saturates at 32 bits goes up by one. -/
def Dev.bump (off : Nat) (d : Dev) : Dev := d.bumpBy off 1
/-- Put a register at its reset value. -/
def Dev.clrReg (off : Nat) (d : Dev) : Dev := d.setReg off (regReset off)
/-- A 64-bit pair, _LO at `off` (R8). -/
def Dev.reg64 (d : Dev) (off : Nat) : Nat := (d.reg off).toNat + (d.reg (off + 4)).toNat * 2 ^ 32
/-- Store a 64-bit pair. -/
def Dev.setReg64 (off v : Nat) (d : Dev) : Dev := (d.setReg off (loW v)).setReg (off + 4) (hiW v)

/-! ### Memory (R564): canonical list of cells, an unlisted address reads 0 (log entry 4) -/

/-- The contents of the internal address space. -/
abbrev Memory := List (Nat × BitVec 8)

/-- Byte at an address. -/
def Memory.read (m : Memory) (a : Nat) : Byte :=
  match m.find? (fun p => p.1 == a) with
  | some p => p.2
  | none => 0

/-- Insert in address order. -/
def Memory.insert (a : Nat) (v : Byte) : Memory → Memory
  | [] => [(a, v)]
  | p :: t => if a < p.1 then (a, v) :: p :: t else p :: Memory.insert a v t

/-- Write a byte; writing what an unlisted address reads as removes the entry. -/
def Memory.write (m : Memory) (a : Nat) (v : Byte) : Memory :=
  if v = 0 then m.filter (fun p => p.1 != a) else Memory.insert a v (m.filter (fun p => p.1 != a))

/-- Write bytes from an address upward. -/
def Memory.writeBytes : Memory → Nat → Bytes → Memory
  | m, _, [] => m
  | m, a, v :: t => Memory.writeBytes (m.write a v) (a + 1) t

/-- Read `n` bytes from an address upward. -/
def Memory.readBytes (m : Memory) (a n : Nat) : Bytes := mkBytes n (fun i => m.read (a + i))

/-- Keep the addresses that have a property. -/
def Memory.keep (m : Memory) (p : Nat → Bool) : Memory := m.filter (fun x => p x.1)

/-- The canonical form: addresses strictly rising, no zero byte listed. -/
def Memory.wf (m : Memory) : Bool := decide (m.Pairwise (fun a b => a.1 < b.1)) && m.all (fun p => p.2 != 0)

/-! ### Time stamps and free values -/

/-- ST_QUAL of the time state (R33). -/
def TimeState.code : TimeState → Nat
  | .unset => 0 | .acquiring => 1 | .locked => 2 | .holdover => 3 | .freeRun => 4

/-- The time stamp that the device writes: ST[60:0] with ST_QUAL in bits [63:61] (R30). -/
def Dev.stamp (c : Ctx) (d : Dev) : DWord := BitVec.ofNat 64 (c.now % 2 ^ 61 + d.tim.state.code * 2 ^ 61)

/-- Step the draw counter. -/
def Dev.draw (d : Dev) : Dev := { d with rng := { d.rng with ctr := d.rng.ctr + 1 } }

/-- What a DMA read returned, from its bytes and how it ended. -/
def dmaRead (data : Bytes) (read : DmaEnd) : DmaRead :=
  match read with
  | .done => { data := data }
  | .refused => { refused := true }
  | .failed => { failed := true }

/-- Record something that leaves the part. -/
def Dev.emit (t : Tx) (d : Dev) : Dev := { d with tx := t :: d.tx }

/-! ### Conditions that many blocks ask for -/

/-- A LOCK or ZEROISE response is in force (R475 to R477). -/
def Dev.locked (d : Dev) : Bool := d.tmp.lock
/-- Some management pair is in service (R17). -/
def Dev.mgmtUp (d : Dev) : Bool := d.pwr.mgmtOk.any id
/-- Start-up has passed stage `n` (R602). -/
def Dev.past (n : Nat) (d : Dev) : Bool := decide (n < d.pwr.stage)
/-- The pair role lets the device accept, execute and post (R429). -/
def Dev.roleActs (d : Dev) : Bool :=
  match d.fab.pair.role with
  | .unpaired | .active | .activeAlone => !d.fab.pair.handing
  | _ => false
/-- The pair mode of FAB_PAIR_CTRL (R443). -/
def Dev.pairMode (d : Dev) : Nat := fld (d.reg Off.fabPairCtrl) 1 0
/-- Synchronous mirroring in force (R127). -/
def Dev.syncMirror (d : Dev) : Bool := d.fab.pair.role == .active && d.pairMode == 2 && !d.jnl.degraded

/-- A change waits for the standby's acknowledgement (R437). -/
def Dev.changing (p : MirrorOf → Bool) (d : Dev) : Bool := d.fab.pair.changes.any (fun w => p w.of)
def MirrorOf.isRing : MirrorOf → Bool
  | .ring _ _ => true
  | _ => false
def MirrorOf.isSlot : MirrorOf → Bool
  | .slot _ => true
  | _ => false

/-- A DRBG whose state is erased (R374, R379). -/
def Drbg.erased (g : Drbg) : Drbg := { g with state := .uninst, reqs := 0, ageDue := false, key := [], v := 0 }
/-- A source whose health tests begin anew, at a start-up test or a rerun. -/
def Source.anew (s : Source) : Source := { s with run := 0, win := 0, winCnt := 0 }
/-- A DRBG that serves (R371). -/
def Drbg.serves (g : Drbg) : Bool := g.state == .serving || g.state == .stretching
/-- The DRBG of a number; 12 is the management DRBG (R370). -/
def Dev.drbg (d : Dev) (n : Nat) : Drbg := (d.rng.drbgs.find? (fun g => g.num == n)).getD { num := n }
/-- The management DRBG can serve (R370). -/
def Dev.mgmtDrbg (d : Dev) : Bool := (d.drbg 12).serves

/-- The grove, twin and engine of a number. -/
def Dev.grove (d : Dev) (n : Nat) : Grove := (d.lan.groves.find? (fun g => g.num == n)).getD { num := n }
def Dev.twin (d : Dev) (n : Nat) : Twin := (d.lan.twins.find? (fun t => t.num == n)).getD { num := n }
def Dev.engine (d : Dev) (n : Nat) : Engine := (d.pke.engines.find? (fun e => e.num == n)).getD { num := n }
def Dev.updGrove (n : Nat) (f : Grove → Grove) (d : Dev) : Dev :=
  { d with lan := { d.lan with groves := updWhere (fun g => g.num == n) f d.lan.groves } }
def Dev.updTwin (n : Nat) (f : Twin → Twin) (d : Dev) : Dev :=
  { d with lan := { d.lan with twins := updWhere (fun t => t.num == n) f d.lan.twins } }
def Dev.updEngine (n : Nat) (f : Engine → Engine) (d : Dev) : Dev :=
  { d with pke := { d.pke with engines := updWhere (fun e => e.num == n) f d.pke.engines } }
def Dev.updDrbg (n : Nat) (f : Drbg → Drbg) (d : Dev) : Dev :=
  { d with rng := { d.rng with drbgs := updWhere (fun g => g.num == n) f d.rng.drbgs } }

/-- The ring of a slice and number; absent where none has been defined. -/
def Dev.ring (d : Dev) (s r : Nat) : Ring :=
  (d.hif.rings.find? (fun x => x.slice == s && x.num == r)).getD { slice := s, num := r }
def Dev.updRing (s r : Nat) (f : Ring → Ring) (d : Dev) : Dev :=
  { d with hif := { d.hif with rings := upsert (fun x => x.slice == s && x.num == r) { slice := s, num := r } f d.hif.rings } }
/-- Ring pairs defined device-wide (R46). -/
def Dev.ringsDefined (d : Dev) : Nat := (d.hif.rings.filter (fun x => x.state != .absent)).length

/-- The slice of a number; UNBOUND where none is listed. -/
def Dev.slice (d : Dev) (n : Nat) : Slice := (d.slices.find? (fun x => x.num == n)).getD { num := n }
/-- The PASID tag of a slice's DMA; none where its binding has no PASID (R45, R390). -/
def Slice.tag (x : Slice) : Option Nat := if x.noPasid then none else some x.pasid
def Dev.tagOf (d : Dev) (s : Nat) : Option Nat := (d.slice s).tag
def Dev.updSlice (n : Nat) (f : Slice → Slice) (d : Dev) : Dev :=
  { d with slices := upsert (fun x => x.num == n) { num := n } f d.slices }

/-- The item of a journal slot, and of a sequence. -/
def Dev.item? (d : Dev) (slot : Nat) : Option Item := d.dsp.items.find? (fun i => i.slot == slot)
def Dev.updItem (slot : Nat) (f : Item → Item) (d : Dev) : Dev :=
  { d with dsp := { d.dsp with items := updWhere (fun i => i.slot == slot) f d.dsp.items } }
/-- The head record of a slot. -/
def Dev.rec? (d : Dev) (slot : Nat) : Option Rec := d.jnl.recs.find? (fun r => r.slot == slot)
/-- The node of the partner (R443). -/
def Dev.partner (d : Dev) : Nat := fld (d.reg Off.fabPairCtrl) 25 16
def Dev.updRec (slot : Nat) (f : Rec → Rec) (d : Dev) : Dev :=
  { d with jnl := { d.jnl with recs := updWhere (fun r => r.slot == slot) f d.jnl.recs } }

/-- A record counts as outstanding (R94). -/
def RecState.outstanding : RecState → Bool
  | .accepted | .inService | .owed | .awaiting | .replay => true
  | _ => false
/-- Outstanding records (R94). -/
def Dev.outstanding (d : Dev) : Nat := (d.jnl.recs.filter (fun r => r.st.outstanding)).length
/-- Backlog: outstanding records in state ACCEPTED (R173). -/
def Dev.backlog (d : Dev) : Nat := (d.jnl.recs.filter (fun r => r.st == .accepted)).length

end Sys2Proof.Machine
end

