-- ==== Sys2Proof/Machine/Flags.lean ====
section
/-! DEFINITION. The flags of the block: event registers and the interrupts that they raise, and the codes by which
registers report a state. A block has no exception entry: raising an interrupt or an error flag is an effect on the state. -/

namespace Sys2Proof.Machine

/-! ### Interrupts and events (R75, R76) -/

/-- The MSI-X entry of a vector; masked and zero where the host has written none (log entry 5). -/
def Hif.msixEntry (h : Hif) (v : Nat) : MsixEntry :=
  match h.msix.find? (fun e => e.vec == v) with
  | some e => e
  | none => { vec := v }

/-- Change the MSI-X entry of a vector. -/
def Hif.updMsix (v : Nat) (f : MsixEntry → MsixEntry) (h : Hif) : Hif :=
  { h with msix := upsert (fun e => e.vec == v) { vec := v } f h.msix }

/-- Raise a vector: send its message, or set its pending bit while it is masked (R76). -/
def Dev.raiseVec (v : Nat) (d : Dev) : Dev :=
  let e := d.hif.msixEntry v
  if e.masked || d.hif.funcMask then { d with hif := d.hif.updMsix v (fun e => { e with pending := true }) }
  else d.emit (.msix v e.addr e.data)

/-- Set bits of an event register; vector 0 is raised when an enable bit of the register after it is set for one of
them (R7, R75). TIM_EVT has no enable register (R42). DESIGN CHOICE (log entry 75): setting an enable bit while its event
bit already stands raises nothing. -/
def Dev.evt (off : Nat) (bits : Word) (d : Dev) : Dev :=
  let d1 := d.setReg off (d.reg off ||| bits)
  if off = Off.timEvt then d1
  else if d.reg (off + 4) &&& bits = 0#32 then d1 else d1.raiseVec 0

/-- Event with a single bit. -/
def Dev.evtBit (off i : Nat) (d : Dev) : Dev := d.evt off (1#32 <<< i)

/-- Code of a mask-generator state (R282). -/
def MgenState.code : MgenState → Nat
  | .running => 0 | .reseedPending => 1 | .exhausted => 2 | .failed => 3

/-- Code of a unit state (R252). -/
def UnitState.code : UnitState → Nat
  | .inService => 0 | .clearing => 1 | .held => 2 | .failed => 3 | .gated => 4
/-- Codes of the enumerations that registers report. -/
def StoreState.code : StoreState → Nat
  | .uninit => 0 | .ready => 1 | .unreadable => 2
def BbkekState.code : BbkekState → Nat
  | .absent => 0 | .valid => 1 | .erased => 2
def RngState.code : RngState → Nat
  | .off => 0 | .startup => 1 | .running => 2 | .retest => 3 | .noRandomness => 4
def SrcState.code : SrcState → Nat
  | .off => 0 | .startup => 1 | .ok => 2 | .retest => 3 | .failed => 4 | .raw => 5
def DrbgState.code : DrbgState → Nat
  | .uninst => 0 | .serving => 1 | .stretching => 2 | .starved => 3 | .stopped => 4
def SliceState.code : SliceState → Nat
  | .unbound => 0 | .bound => 1 | .draining => 2 | .frozen => 3 | .saving => 4 | .saved => 5 | .prepared => 6
  | .restoring => 7 | .retaining => 8
def PortState.code : PortState → Nat
  | .disabled => 0 | .training => 1 | .auth => 2 | .up => 3 | .down => 4 | .refused => 5
def Role.code : Role → Nat
  | .unpaired => 0 | .syncing => 1 | .standby => 2 | .active => 3 | .activeAlone => 4 | .fenced => 5
def CerState.code : CerState → Nat
  | .idle => 0 | .collecting => 1 | .opened => 2
def CardState.code : CardState → Nat
  | .empty => 0 | .active => 1 | .unsupported => 2 | .fault => 3
def RingState.code : RingState → Nat
  | .absent => 0 | .held => 1 | .active => 2 | .parked => 3 | .fault => 4
def DomState.code : DomState → Nat
  | .empty => 0 | .active => 1 | .rolling => 2
def RecState.code : RecState → Nat
  | .free => 0 | .accepted => 1 | .inService => 2 | .owed => 3 | .complete => 4 | .awaiting => 5 | .replay => 6
def DdtState.code : DdtState → Nat
  | .inFlight => 1 | .done => 2 | .awaiting => 3


end Sys2Proof.Machine
end

