-- ==== Sys2Proof/Machine/Clock.lean ====
section
/-! DEFINITION. Quantities computed from the time base and from the clock: the error estimate (R34), the derived
expiries, and the counts that several registers report. -/

namespace Sys2Proof.Machine

/-- Nanoseconds in a microsecond, a millisecond and a second. -/
abbrev nsUs : Nat := 1000
abbrev nsMs : Nat := 1000000
abbrev nsS : Nat := 1000000000

/-- Measured phase uncertainty (R34): 1 µs until two valid edges since ACQUIRING was entered, else the 2 ns capture
uncertainty plus the largest change of phase offset. -/
def Tim.uncertainty (t : Tim) : Nat :=
  match t.changes with
  | [] => 1000
  | c => 2 + c.foldl max 0

/-- TIM_ERR_EST (R34; log entry 12). -/
def Tim.errEst (now : Nat) (t : Tim) : Nat :=
  match t.state with
  | .unset => 0xFFFFFFFF
  | _ =>
    let drift := match t.lastValid with | some l => (now - l) * 2 / nsMs | none => 0
    sat 0xFFFFFFFF (t.uncertainty + t.slewRem.natAbs + drift)

/-- The whole second nearest an instant (R31). -/
def nearestSecond (t : Nat) : Nat := (t + nsS / 2) / nsS * nsS

/-- Whether TREF_IN is selected (R32). -/
def Dev.trefSelected (d : Dev) : Bool := fld (d.reg Off.timRefCfg) 3 2 != 0
/-- TREF_IN counts as valid where R33 asks for it: valid, or not selected. -/
def Dev.trefOk (d : Dev) : Bool := !d.trefSelected || d.tim.trefValid

/-- TIM_STATE.PPS_VALID (R43): set by a captured valid edge, while PPS is enabled.  DESIGN CHOICE (log entry 75): outside
a PPS loss in LOCKED and a restart of the block, nothing else takes it back to 0. -/
def Dev.ppsOk (d : Dev) : Bool := d.tim.ppsValid && bit (d.reg Off.timRefCfg) 0

/-- Twins and engines in a state; twins and groves by number. -/
def Dev.twinsIn (d : Dev) (s : UnitState) : Nat := (d.lan.twins.filter (fun t => t.state == s)).length
def Dev.enginesIn (d : Dev) (s : UnitState) : Nat := (d.pke.engines.filter (fun t => t.state == s)).length
/-- Instants within the last `w` ns. -/
def within (now w : Nat) (l : List Nat) : List Nat := l.filter (fun t => now < t + w)

/-- A mask over 12 groves. -/
def groveMask (p : Nat → Bool) : Nat := (List.range 12).foldl (fun a g => a + (if p g then 2 ^ g else 0)) 0
/-- A setting as the last dispatch epoch took it up (R22, R105, R183). -/
def Dev.effReg (d : Dev) (off : Nat) : Word := d.dsp.eff.get off

/-- DSP_GROVE_MASK in force has the grove (R21, R22). -/
def Dev.eligible (d : Dev) (g : Nat) : Bool := bit (d.effReg Off.dspGroveMask) g

/-- A grove whose control domain is powered (R585, R587). -/
def Dev.groveOn (d : Dev) (g : Nat) : Bool := d.pwr.groveOn.getLsbD g
/-- A supply warning is in force (R594 to R596). -/
def Dev.warning (d : Dev) : Bool := d.pwr.warnCore || d.pwr.warnPfail
/-- Operating point of a grove. -/
def Dev.groveOp (d : Dev) (g : Nat) : Nat := d.pwr.groveOp.getD g 0

/-- Items of a grove that hold a place in it: PLACED, RUNNING or SUSPENDED there. -/
def Dev.groveItems (d : Dev) (g : Nat) (s : DState) : List Item := d.dsp.items.filter (fun i => i.ds == s && i.grove == g)
/-- Items on a device pending list. -/
def Dev.pendingItems (d : Dev) : List Item := d.dsp.items.filter (fun i => i.ds == .pending)

/-- The opcode of an item, its class, and whether it is a public-key verb (R184, R284). -/
def Item.opcode (i : Item) : Nat := le i.desc 0 2
def Item.cls (i : Item) : Nat := i.opcode / 256

/-- Number of extension blocks and slots of a domain (R336, R340). -/
def Slot.ext (s : Slot) : Nat := (match s.act with | some h => h.ext | none => 0) + (match s.sap with | some h => h.ext | none => 0)
def Key.slotsUsed (k : Key) (dom : Nat) : Nat :=
  (k.slots.filter (fun s => s.dom == dom)).length + (k.resvs.filter (fun r => r.dom == dom && r.new)).length
def Key.extUsed (k : Key) (dom : Nat) : Nat :=
  ((k.slots.filter (fun s => s.dom == dom)).map Slot.ext).sum + ((k.resvs.filter (fun r => r.dom == dom)).map (fun r => r.ext)).sum
def Key.domain (k : Key) (n : Nat) : Domain := (k.domains.find? (fun x => x.num == n)).getD { num := n }
def Key.updDomain (n : Nat) (f : Domain → Domain) (k : Key) : Key :=
  { k with domains := upsert (fun x => x.num == n) { num := n } f k.domains }
def Key.slot? (k : Key) (dom n : Nat) : Option Slot := k.slots.find? (fun x => x.dom == dom && x.num == n)

/-! ### Life-cycle state (R517, R518, R521, R522, R528) -/

def LcState.code : LcState → Nat
  | .blank => 0 | .factoryTest => 1 | .factoryLocked => 2 | .field => 3 | .fieldReturn => 4 | .scrapped => 5
def lcOf (n : Nat) : LcState :=
  if n = 0 then .blank else if n = 1 then .factoryTest else if n = 2 then .factoryLocked else if n = 3 then .field
  else if n = 4 then .fieldReturn else .scrapped

/-- Group `j`, 1 to 5, of a state word. -/
def otpGroup (w : BitVec 40) (j : Nat) : Nat := w.toNat / 2 ^ (8 * (j - 1)) % 256
/-- Groups of the full prefix. -/
def otpPrefix (w : BitVec 40) : Nat := ((List.range 5).takeWhile (fun i => otpGroup w (i + 1) == 255)).length
/-- The group above the prefix is partly programmed. -/
def otpPart (w : BitVec 40) : Bool := decide (otpPrefix w < 5) && otpGroup w (otpPrefix w + 1) != 0
/-- A bit is set above the first group that is not full. -/
def otpBroken (w : BitVec 40) : Bool := (List.range 5).any (fun i => decide (otpPrefix w + 1 < i + 1) && otpGroup w (i + 1) != 0)

/-- The device's state, whether it is in transition, and the counter. -/
def Otp.state (o : Otp) : LcState := lcOf (min (otpPrefix o.copyA) (otpPrefix o.copyB))
def Otp.inTransition (o : Otp) : Bool := otpPart o.copyA || otpPart o.copyB || o.copyA != o.copyB
def Otp.copyMismatch (o : Otp) : Bool := otpPrefix o.copyA != otpPrefix o.copyB || otpPart o.copyA != otpPart o.copyB
def Otp.counter (o : Otp) : Nat := o.recs.length

/-- A step flag of a progress record: both bits of the pair at `lo` are set. -/
def recFlag (w : Word) (lo : Nat) : Bool := fld w (lo + 1) lo == 3
/-- The open progress record: INTENT done, DONE not. -/
def Otp.openRec (o : Otp) : Option Word :=
  match o.recs.getLast? with
  | some w => if recFlag w 8 && !recFlag w 28 then some w else none
  | none => none
/-- TARGET of a progress record. -/
def recTarget (w : Word) : LcState := lcOf (((List.range 5).filter (fun i => bit w i)).foldl (fun _ i => i + 1) 0)

/-- What a state enables, and what it enables in transition: by the decoded state and by the TARGET of the open record. -/
def Otp.both (o : Otp) (p : LcState → Bool) : Bool :=
  p o.state && (match o.inTransition, o.openRec with | true, some w => p (recTarget w) | _, _ => true)

/-- The root of a state (R321): 0 none, 1 FACTORY, 2 FIELD, 3 RETURN. -/
def LcState.root : LcState → Nat
  | .blank => 0 | .factoryTest => 1 | .factoryLocked => 1 | .field => 2 | .fieldReturn => 3 | .scrapped => 0
/-- The usable root. -/
def Otp.root (o : Otp) : Nat := if o.both (fun s => s.root == o.state.root) then o.state.root else 0

/-- A fuse word as the port left it. -/
def Otp.word (o : Otp) (g w : Nat) : Word := match o.words.find? (fun x => x.1 == g && x.2.1 == w) with | some x => x.2.2 | none => 0

/-- The fuse port has programmed a group. -/
def Otp.touched (o : Otp) (g : Nat) : Bool := o.words.any (fun x => x.1 == g)
/-- Byte `i` of a fuse group: as the fuse port programmed it, else as the part came (log entry 85). -/
def Otp.fuseByte (o : Otp) (g i : Nat) (came : Byte) : Byte :=
  if o.touched g then ((o.word g (i / 4)) >>> (8 * (i % 4))).setWidth 8 else came

/-- The usable root's 32 bytes (R319, R570). -/
def Otp.rootKey (o : Otp) : Bytes := mkBytes 32 (fun i => o.fuseByte 1 (32 * (o.root - 1) + i) (Config.rootByte o.root i))
/-- The fused P-384 public key of the Nymjor service, and the SHA-384 of its ML-DSA-65 public key (R570). -/
def Otp.nymjorKey (o : Otp) : Bytes := mkBytes 97 (fun i => o.fuseByte 2 i (Config.nymjorByte i))
def Otp.nymjorDigest (o : Otp) : Bytes := mkBytes 48 (fun i => o.fuseByte 2 (97 + i) (Config.nymjorByte (97 + i)))

/-- Test modes and raw entropy: never in transition. -/
def LcState.tests (s : LcState) : Bool := s == .factoryTest || s == .fieldReturn
def Otp.testsAllowed (o : Otp) : Bool := o.state.tests && !o.inTransition
/-- States with a reopen. -/
def LcState.reopens (s : LcState) : Bool := s == .factoryLocked || s == .field || s == .fieldReturn
/-- The debug scope without reopen, as its code. -/
def LcState.scope (s : LcState) : Nat := match s with | .blank | .factoryTest => 2 | _ => 0
def Otp.scope (o : Otp) : Nat := if o.both (fun s => s.scope == 2) then 2 else 0

end Sys2Proof.Machine
end

