-- ==== Sys2Proof/Machine/Shares.lean ====
section
/-! DEFINITION. Mask output and shares (R232 to R240, R242, R259, R262): the blocks of a mask generator, the splitting and
refreshing of shares, and what a lane's registers hold. Which of an item's blocks masks which value, and how a lane and its
saved context hold it, are log entry 81. -/

namespace Sys2Proof.Machine

/-! ### Mask blocks (R237, R240) -/

/-- Block `j` of a stretch: AES-256 in counter mode, the key and then the starting counter from the 48 bytes of the seed. -/
def MaskRun.block (r : MaskRun) (j : Nat) : Bytes :=
  toBe 16 (Config.aes false (r.seed.take 32) (BitVec.ofNat 128 (beNat (r.seed.drop 32) + r.first + j))).toNat
/-- The first `n` blocks of a stretch, and the rest. -/
def MaskRun.upto (n : Nat) (r : MaskRun) : MaskRun := { r with left := min n r.left }
def MaskRun.past (n : Nat) (r : MaskRun) : MaskRun := { r with first := r.first + min n r.left, left := r.left - n }

/-- Blocks in a list of stretches. -/
def runLen (l : List MaskRun) : Nat := (l.map (fun (r : MaskRun) => r.left)).sum
/-- The first `n` blocks of a list of stretches, and the rest. -/
def runsUpto : Nat → List MaskRun → List MaskRun
  | _, [] => []
  | n, r :: t => if n = 0 then [] else r.upto n :: runsUpto (n - r.left) t
def runsPast : Nat → List MaskRun → List MaskRun
  | _, [] => []
  | n, r :: t => if n < r.left then r.past n :: t else runsPast (n - r.left) t
def runsBlock : Nat → List MaskRun → Bytes
  | _, [] => zeros 16
  | n, r :: t => if n < r.left then r.block n else runsBlock (n - r.left) t

/-- Byte `i` of the mask output that a lane has of a reservation: the principal lane the first half of its blocks, the check
lane the second (R234). -/
def maskByte (l : List MaskRun) (check : Bool) (i : Nat) : Byte :=
  let half := runLen l / 2
  (runsBlock ((if check then half else 0) + i / 16 % max 1 half) l).getD (i % 16) 0

/-! ### Shares (R232, R234, R242, R259) -/

/-- A value recombined from its shares. -/
def unshare : List Bytes → Bytes
  | [] => []
  | a :: t => t.foldl bxor a
/-- A value split into three shares or two, with masks from `m`. -/
def shareOf (three : Bool) (v : Bytes) (m : Nat → Byte) : List Bytes :=
  let a := mkBytes v.length m
  let b := mkBytes v.length (fun i => m (v.length + i))
  if three then [bxor (bxor v a) b, a, b] else [bxor v a, a]
/-- Shares of the same value under fresh masks. -/
def refresh (m : Nat → Byte) : List Bytes → List Bytes
  | [x, y] => [bxor x (mkBytes x.length m), bxor y (mkBytes y.length m)]
  | [x, y, z] =>
    let a := mkBytes x.length m
    let b := mkBytes x.length (fun i => m (x.length + i))
    [bxor (bxor x a) b, bxor y a, bxor z b]
  | l => l

/-- The check lane has every bit complemented. -/
def compl (b : Bytes) : Bytes := b.map (fun (x : Byte) => ~~~x)
def deliver (check : Bool) (b : Bytes) : Bytes := if check then compl b else b

/-- The shares of several values, the masks of one after those of the other. -/
def sharesFrom (m : Nat → Byte) : Nat → List (Bool × Bytes) → List (List Bytes)
  | _, [] => []
  | n, (three, v) :: t => shareOf three v (fun i => m (n + i)) :: sharesFrom m (n + (if three then 2 else 1) * v.length) t

/-- Keys as a lane binds them: AES keys in three shares, the others in two (R232). -/
def bindKeys (m : Nat → Byte) (check : Bool) (keys : List KeyRes) : List (List Bytes) :=
  (sharesFrom m 0 (keys.map (fun k => (algIsAes k.attr.alg, k.mat)))).map (fun s => s.map (deliver check))

/-! ### What a lane holds -/

/-- Scratch and datapath are overwritten with fresh mask output (R235). -/
def Lane.wipe (m : Nat → Byte) (l : Lane) : Lane :=
  let fresh := fun (b : Bytes) => mkBytes b.length m
  { l with keys := l.keys.map (fun s => s.map fresh), work := l.work.map fresh }
def Lane.dropCtx (slot : Nat) (l : Lane) : Lane := { l with ctx := l.ctx.filter (fun x => x.item != slot) }
/-- Contexts erased (R261). -/
def Lane.noCtx (l : Lane) : Lane := { l with ctx := [] }
/-- Scratch, datapath and contexts erased, at a reset or in a domain that is off. -/
def Lane.blank (l : Lane) : Lane := { l with keys := [], work := [], ctx := [] }

/-- A function on both lanes of a twin. -/
def Twin.lanes (f : Bool → Lane → Lane) (t : Twin) : Twin := { t with main := f false t.main, check := f true t.check }
/-- Both lanes overwrite what their item used. -/
def Twin.wipe (masks : List MaskRun) (t : Twin) : Twin := t.lanes (fun check l => l.wipe (fun i => maskByte masks check (i + 16)))
/-- A twin lets go of an item that ran on it, or was saved in it. -/
def Twin.letGo (slot : Nat) (masks : List MaskRun) (t : Twin) : Twin :=
  let t1 := if t.running = some slot then { (t.wipe masks) with running := none } else t
  t1.lanes (fun _ l => l.dropCtx slot)

/-- An engine stops with an item: its whole operand RAM is overwritten, and a readback is due (R290, R314). -/
def Engine.stop (e : Engine) : Engine := { e with item := none, ram := [], readback := true, after := e.item }
/-- An engine whose domain is off holds nothing. -/
def Engine.off (e : Engine) : Engine := { e with item := none, ram := [], readback := false, after := none }

/-! ### The mask generator's seeds -/

def Grove.remain (g : Grove) : Nat := g.cur.left
def Grove.next (g : Grove) : Nat := g.nxt.left
def Grove.reserve (g : Grove) : Nat := runLen g.hold
/-- A generator without a seed. -/
def Grove.noSeeds (g : Grove) : Grove := { g with cur := {}, nxt := {}, hold := [] }

end Sys2Proof.Machine
end

