-- ==== Sys2Proof/Machine/RegRead.lean ====
section
/-! DEFINITION. The value that each register shows (R5): a stored register shows what is stored; a read-only register
that reports on the machine is computed here from the typed state by its field table. A read here has no side effect;
the latches of R8 and the other side effects of a host read are in ReadWin.lean. Windows read 0 here (R505). -/

namespace Sys2Proof.Machine

def Dev.bothMgmtDown (d : Dev) : Bool := !d.mgmtUp

/-- TIM registers (R42 to R44). -/
def readTim (c : Ctx) (d : Dev) (off : Nat) : Word :=
  let t := d.tim
  let rem := (BitVec.ofInt 64 t.slewRem).toNat
  if off = Off.timStLo then loW c.now else if off = Off.timStHi then hiW c.now
  else if off = Off.timState then
    packW [(0, t.state.code), (4, t.state.code), (8, b2n (t.slewRem != 0)), (9, b2n d.ppsOk), (10, b2n t.trefValid)]
  else if off = Off.timErrEst then BitVec.ofNat 32 (t.errEst c.now)
  else if off = Off.timSlewRemLo then loW rem else if off = Off.timSlewRemHi then hiW rem
  else if off = Off.timPpsCapLo then loW t.ppsCap else if off = Off.timPpsCapHi then hiW t.ppsCap
  else if off = Off.timTokenNonceLo then loW t.nonce.toNat else if off = Off.timTokenNonceHi then hiW t.nonce.toNat
  else if off = Off.timTokenStat then BitVec.ofNat 32 t.tokenStat
  else if off = Off.timFence then packW [(1, b2n t.fenceBusy)]
  else d.reg off

/-- The slice and ring that HIF_RING_SEL selects (R71, R90). -/
def Dev.selSlice (d : Dev) : Nat := fld (d.reg Off.hifRingSel) 11 0
def Dev.selRing (d : Dev) : Nat := fld (d.reg Off.hifRingSel) 19 16

/-- The accepted count that the host sees: acceptances that wait for the standby are not covered (R64, R92). -/
def Dev.accShown (d : Dev) (r : Ring) : Word :=
  match d.jnl.mirrorWait.filter (fun w => w.slice == r.slice && w.ring == r.num) with
  | [] => r.accepted
  | w :: t => t.foldl (fun a x => if (r.accepted - a).toNat < (r.accepted - x.pos).toNat then x.pos else a) w.pos

/-- HIF registers of R89 (R90, R91). -/
def readHif (_ : Ctx) (d : Dev) (off : Nat) : Word :=
  let r := d.ring d.selSlice d.selRing
  if off = Off.hifDevRev then 0x71601100#32 ||| BitVec.ofNat 32 Config.minorRev.toNat
  else if off = Off.hifRingCmdStat then packW [(0, b2n (d.hif.cmdBusy.isSome || d.changing MirrorOf.isRing)), (4, d.hif.cmdResult), (16, d.hif.cmdGen)]
  else if off = Off.hifRingState then
    packW [(0, r.state.code), (4, r.cause), (8, b2n r.needsSettings), (16, r.gen)]
  else if off = Off.hifRingAccepted then d.accShown r else if off = Off.hifRingPosted then r.posted
  else if off = Off.hifRingConsumed then r.consumed
  else if off = Off.hifRingFaultAddrLo then loW r.faultAddr else if off = Off.hifRingFaultAddrHi then hiW r.faultAddr
  else if off = Off.hifEvtRing then d.hif.evtRing
  else if off = Off.hifRingsFree then BitVec.ofNat 32 (16384 - d.ringsDefined)
  else d.reg off

/-- The slice that HIF_SLICE_SEL selects (R406). -/
def Dev.migSlice (d : Dev) : Nat := fld (d.reg Off.hifSliceSel) 11 0

/-- Outstanding records of a slice (R98, R407). -/
def Dev.sliceOutstanding (d : Dev) (n : Nat) : Nat :=
  (d.jnl.recs.filter (fun r => r.st.outstanding && r.slice == n)).length

/-- Slice and migration registers (R406, R407; log entry 13). -/
def readSlice (_ : Ctx) (d : Dev) (off : Nat) : Word :=
  let s := d.slice d.migSlice
  if off = Off.hifSliceCmdStat then packW [(0, b2n (s.cmd.isSome || d.changing (fun w => w == .slice s.num))), (4, s.result)]
  else if off = Off.hifSliceState then packW [(0, s.state.code), (16, sat 32768 (d.sliceOutstanding s.num))]
  else d.reg off

/-- The oldest outstanding sequence, the next where none is outstanding (R132). -/
def Dev.oldestSeq (d : Dev) : Nat :=
  (d.jnl.recs.filter (fun r => r.st.outstanding)).foldl (fun a r => min a r.seq) d.jnl.nextSeq

/-- JNL_STAT.MIRROR (R133, R429). -/
def Dev.mirrorCode (d : Dev) : Nat :=
  match d.fab.pair.role with
  | .active => if d.pairMode == 2 then (if d.jnl.degraded then 3 else 2) else 1
  | .standby | .syncing => if d.pairMode == 2 then 2 else 1
  | .activeAlone => 3
  | _ => 0

/-- The part is on, and its start-up has not halted. -/
def Dev.running (d : Dev) : Bool := d.pwr.powered && !d.pwr.standby && !d.pwr.halted
/-- JNL registers (R132, R133). -/
def readJnl (_ : Ctx) (d : Dev) (off : Nat) : Word :=
  let j := d.jnl
  if off = Off.jnlStat then
    packW [(0, d.outstanding), (16, b2n (32768 ≤ d.outstanding)), (17, b2n (j.recovering || (d.running && d.pwr.stage == 8))), (19, d.mirrorCode),
      (21, b2n (d.warning || d.locked))]
  else if off = Off.jnlNextSeqLo then loW j.nextSeq else if off = Off.jnlNextSeqHi then hiW j.nextSeq
  else if off = Off.jnlOldestSeqLo then loW d.oldestSeq else if off = Off.jnlOldestSeqHi then hiW d.oldestSeq
  else if off = Off.jnlAnchorStat then
    packW [(0, b2n j.flushDone), (1, b2n j.flushBusy), (2, j.bootResult), (4, b2n j.dipFlush), (16, sat 0xFFFF j.lastFlushUs)]
  else if off = Off.jnlAnchorRecs then j.anchorRecs
  else if off = Off.jnlRecoverStat then
    packW [(0, (j.recs.filter (fun r => r.st == .awaiting)).length % 65536), (16, b2n j.recoverOpen)]
  else d.reg off

/-- LOG2_BUCKETS and the retention in ns (R134). -/
def Dev.ddtLog2 (d : Dev) : Nat := fld (d.reg Off.ddtSize) 4 0
def Dev.ddtRetain (d : Dev) : Nat := fld (d.effReg Off.ddtRetain) 15 0 * nsMs
/-- An entry that is treated as absent: DONE for longer than its retention (R105). -/
def Dev.ddtAbsent (d : Dev) (now : Nat) (e : DdtEntry) : Bool :=
  e.st == .done && decide (e.doneAt + e.retain.getD d.ddtRetain < now)

/-- DDT registers (R134). -/
def readDdt (c : Ctx) (d : Dev) (off : Nat) : Word :=
  let t := d.ddt
  if off = Off.ddtStat then
    packW [(0, b2n t.stalledSince.isSome), (1, b2n t.ready),
      (8, sat 255 (((t.moves.filter (fun m => c.now < m.1 + nsS)).map (fun m => m.2)).foldl max 0))]
  else if off = Off.ddtLive then BitVec.ofNat 32 (t.entries.filter (fun e => !d.ddtAbsent c.now e)).length
  else if off = Off.ddtCapacity then BitVec.ofNat 32 (4 * 2 ^ d.ddtLog2)
  else if off = Off.ddtStallUs then
    BitVec.ofNat 32 (sat 0xFFFFFFFF ((t.stallNs + (match t.stalledSince with | some s => c.now - s | none => 0)) / 1000))
  else d.reg off

/-- The expiry policy of an item is EXPIRE (R170, R425). -/
def Dev.expires (d : Dev) (i : Item) : Bool :=
  let p := fld (d.ring i.slice i.ring).policy 21 20
  i.spillFrom.isNone && (if p = 0 then (d.slice i.slice).effExpiry == 2 else p == 2)

/-- An item that is not started waits under EXPIRE, so that its expiry check stands in the delay list (R165, R170). -/
def Dev.expiryWaits (d : Dev) (i : Item) : Bool :=
  (i.ds == .held || i.ds == .pending || i.ds == .placed) && !i.started && i.mark.isNone && d.expires i

/-- Uses of the delay list (R165). -/
inductive DelayUse where
  | release | expiry | backoff | lease | reseed | firmware
deriving DecidableEq, Repr

/-- A delay-list entry: its expiry, when it was inserted, its use, and the slot, DRBG or thread class that it is for (R163). -/
structure DelayEnt where
  due : Nat
  ins : Nat
  use : DelayUse
  n   : Nat
deriving DecidableEq, Repr

/-- Order of expiry, then of insertion; an entry goes before those that stand equal to it. -/
def insertDelay (e : DelayEnt) : List DelayEnt → List DelayEnt
  | [] => [e]
  | f :: t => if e.due < f.due ∨ (e.due = f.due ∧ e.ins ≤ f.ins) then e :: f :: t else f :: insertDelay e t

/-- The entries of an accepted item: its release, its back-off, its expiry check (R165), due the first ns after the deadline. -/
def Dev.itemDelays (d : Dev) (i : Item) : List DelayEnt :=
  (match i.relAt with | some t => if i.ds == .control && !i.fired then [⟨t, i.acceptSt, .release, i.slot⟩] else [] | none => [])
    ++ (match i.notBefore with | some t => [⟨t, t - 2 * i.restarts * nsUs, .backoff, i.slot⟩] | none => [])
    ++ (if d.expiryWaits i then [⟨i.deadline + 1, i.acceptSt, .expiry, i.slot⟩] else [])

/-- The entries of the internal timers: DRBG reseeds (R372), the lease renewal (R431), firmware timers. -/
def Dev.timerDelays (d : Dev) : List DelayEnt :=
  (d.rng.drbgs.filter (fun g => g.serves && !g.ageDue)).map
      (fun g => ⟨g.seedSt + fld (d.reg Off.rngReseedCtrl) 31 16 * nsMs, g.seedSt, .reseed, g.num⟩)
    ++ (if d.fab.pair.role == .active || d.fab.pair.role == .activeAlone then
          [⟨d.fab.pair.lastSent + 40 * nsUs, d.fab.pair.lastSent, .lease, 0⟩] else [])
    ++ d.dsp.fwTimers.map (fun f => ⟨f.due, f.ins, .firmware, f.cls⟩)

/-- The delay list (R163), sorted: it holds what the state says of every use of R165. -/
def Dev.delayList (d : Dev) : List DelayEnt := (d.dsp.items.flatMap d.itemDelays ++ d.timerDelays).foldr insertDelay []
/-- Delay-list entries (R163, R182). -/
def Dev.delayEntries (d : Dev) : Nat := d.delayList.length

/-- A candidate grove, depth and supply warning apart: for an item that needs a twin, or for one that needs an engine. -/
def Grove.masks (g : Grove) : Bool := g.mgenIn && (g.mgen == .running || g.mgen == .reseedPending)
def Dev.candBase (d : Dev) (g : Nat) (eng : Bool) : Bool :=
  let x := d.grove g
  let e := d.engine g
  d.eligible g && x.state == .inService && !x.draining && (if eng then e.state == .inService && !e.draining else x.masks)

/-- A candidate grove (R153); the public-key items count against their own depth. -/
def Dev.candidate (d : Dev) (g : Nat) (eng : Bool) : Bool :=
  let placed := d.groveItems g .placed
  let n := if eng then (placed.filter (fun i => Desc.usesEngine i.desc)).length else placed.length
  d.candBase g eng && !d.warning && decide (n < fld (d.effReg Off.dspPlaceCtrl) 24 16)

/-- A grove is in the pool: eligible and in service (R182). -/
def Dev.inPool (d : Dev) (g : Nat) : Bool := d.eligible g && (d.grove g).state == .inService

/-! ### Thread tasks (R166, R180) -/

/-- The tasks of one pair run for `dt` ns, the head of the list first: what is left of the list, and how long it ran. -/
def fwRun : Nat → List FwTask → List FwTask × Nat
  | _, [] => ([], 0)
  | dt, f :: t =>
    if f.left ≤ dt then let r := fwRun (dt - f.left) t; (r.1, r.2 + f.left)
    else ({ f with left := f.left - dt } :: t, dt)

/-- Both pairs' tasks and their busy ST, brought up to now. A pair that is out of service runs none (R17). -/
def Dsp.fwAdvance (now : Nat) (ok : List Bool) (p : Dsp) : Dsp :=
  let dt := now - p.fwSt
  let one := fun (n : Nat) => let l := p.fw.filter (fun f => f.pair == n); if ok.getD n true then fwRun dt l else (l, 0)
  { p with fw := (one 0).1 ++ (one 1).1, fwSt := now, mgmtBusy := [p.mgmtBusy.getD 0 0 + (one 0).2, p.mgmtBusy.getD 1 0 + (one 1).2] }
def Dev.fwAdvance (c : Ctx) (d : Dev) : Dev := { d with dsp := d.dsp.fwAdvance c.now d.pwr.mgmtOk }

/-- DSP registers (R181, R182). DESIGN CHOICE (log entry 77): NO_GROVE reads its reset value 0 until start-up reaches stage 8,
where dispatch begins (R113). -/
def readDsp (c : Ctx) (d : Dev) (off : Nat) : Word :=
  let p := d.dsp
  let g := fld (d.reg Off.dspGroveSel) 3 0
  let sl := fld (d.reg Off.dspSliceSel) 11 0
  let placed := d.groveItems g .placed
  let busy := let l := fld (d.reg Off.dspLaneSel) 7 0
    let u := if l < 192 then l / 2 else if l < 194 then 96 else 97
    if 96 ≤ u then (d.fwAdvance c).dsp.mgmtBusy.getD (u - 96) 0
    else (match p.busy.find? (fun b => b.1 == u) with | some b => b.2 | none => 0)
      + (((d.lan.twins.find? (fun t => t.num == u)).bind (fun t => t.running)).bind d.item?).elim 0 (fun i => c.now - i.runSt)
  if off = Off.dspStat then
    packW [(0, p.reef), (2, b2n d.warning), (3, b2n d.locked), (4, b2n (d.hif.rings.any (fun r => r.flowStall))),
      (5, b2n (d.past 7 && (List.range 12).all (fun g => !d.candidate g false && !d.candidate g true)))]
  else if off = Off.dspGroveState then
    packW [(0, groveMask d.inPool),
      (16, groveMask (fun g => (d.grove g).state == .clearing))]
  else if off = Off.dspBacklog then packW [(0, sat 0xFFFF d.backlog), (16, sat 0xFFFF d.pendingItems.length)]
  else if off = Off.dspReefL3Us then
    BitVec.ofNat 32 (sat 0xFFFFFFFF ((p.l3Ns + (match p.l3Since with | some s => c.now - s | none => 0)) / 1000))
  else if off = Off.dspDelayStat then packW [(0, sat 0xFFFF d.delayEntries), (16, sat 0xFFFF p.deferred)]
  else if off = Off.dspFlowStat then
    packW [(0, sat 0x1FFFF p.flows.occ.length),
      (24, sat 255 (((p.flows.moves.filter (fun m => c.now < m.1 + nsS)).map (fun m => m.2)).foldl max 0))]
  else if off = Off.dspChainStat then BitVec.ofNat 32 (sat 0xFFFF (d.hif.rings.map (fun r => r.chains.length)).sum)
  else if off = Off.dspGroveDepth then
    packW [(0, sat 0x1FF placed.length), (16, sat 15 ((d.groveItems g .running).filter (fun i => i.twin.isSome)).length),
      (20, sat 0x7F (d.groveItems g .suspended).length)]
  else if off = Off.dspGroveWait then
    packW [(0, sat 0x1FF (placed.filter (fun i => !i.keysOk && i.staged && i.mark.isNone)).length), (16, sat 0x1FF (placed.filter (fun i => i.keysOk && i.rnd.isNone && Desc.drawsRandom i.desc && !(d.drbg g).serves)).length)]
  else if off = Off.dspBusyLo then loW busy else if off = Off.dspBusyHi then hiW busy
  else if off = Off.dspSliceDepth then
    packW [(0, sat 0xFFFF (d.sliceOutstanding sl)),
      (16, sat 0xFFFF ((d.hif.rings.filter (fun r => r.slice == sl)).map (fun r => (r.tail - r.accepted).toNat)).sum)]
  else if Off.dspSliceHist ≤ off ∧ off < Off.dspSliceHist + 64 then BitVec.ofNat 32 (p.histLatch.getD ((off - Off.dspSliceHist) / 4) 0)
  else d.reg off

/-- LAN registers (R281 to R283). -/
def readLan (c : Ctx) (d : Dev) (off : Nat) : Word :=
  let g := d.grove (fld (d.reg Off.lanGroveSel) 3 0)
  let t := d.twin (fld (d.reg Off.lanTwinSel) 6 0)
  if off = Off.lanStat then
    packW [(0, d.twinsIn .inService), (8, d.twinsIn .clearing), (16, d.twinsIn .held), (24, d.twinsIn .failed)]
  else if off = Off.lanUcodeRev then packW [(0, Config.romRev.toNat), (16, d.lan.patch % 65536)]
  else if off = Off.lanClearCmdStat then packW [(0, b2n d.lan.cmdBusy.isSome), (4, d.lan.cmdResult)]
  else if off = Off.lanTwinState then packW [(0, t.state.code), (8, sat 255 t.mm), (16, sat 0xFFFF t.testUs)]
  else if off = Off.lanGroveInfo then
    packW [(0, g.state.code), (4, g.mgen.code), (8, sat 3 (within c.now nsS g.mmSts).length),
      (12, sat 3 (within c.now (60 * nsS) g.threshSts).length),
      (16, (List.range 8).foldl (fun a k => a + (if (d.twin (g.num * 8 + k)).state == .failed then 2 ^ k else 0)) 0)]
  else if off = Off.lanMgenRemain then packW [(0, sat 0x100000 g.remain), (24, b2n (g.next != 0))]
  else if off = Off.lanMgenReseeds then BitVec.ofNat 32 (sat 0xFFFFFFFF g.reseeds)
  else if off = Off.lanMmWindow then BitVec.ofNat 32 (sat 15 (within c.now nsS d.lan.devMm).length)
  else if off = Off.lanLastMm then d.lan.lastMm
  else if off = Off.lanLastMmStLo then loW d.lan.lastMmSt.toNat else if off = Off.lanLastMmStHi then hiW d.lan.lastMmSt.toNat
  else if off = Off.lanCtxUsed then BitVec.ofNat 32 (sat 64 (d.groveItems g.num .suspended).length)
  else d.reg off

/-- The item needs its grove's public-key engine for its next phase (R285). -/
def Item.wantsEngine (i : Item) : Bool := Desc.usesEngine i.desc && i.pke == .none
/-- RSA modulus or field size that the costs of an item depend on: of its key where it is known, else as its parameters
state it. -/
def Item.bits (i : Item) : Nat :=
  let k := (i.keys.find? (fun k => decide (0x80 ≤ k.attr.alg))).elim 0 (fun k => le k.mat 0 2)
  if k = 0 then (if le i.desc 80 2 = 0 then 2048 else le i.desc 80 2) else k
/-- Costs of an item at OP2 in ns (R154, R186, R280, R306, R308). -/
def Item.verbInput (i : Item) : Bytes := i.input.drop (Desc.kb1 i.desc + Desc.kb2 i.desc)
def Item.pkeCost (i : Item) : Nat := pkeNs i.desc i.verbInput i.bits
def Item.laneCost (i : Item) : Nat := laneNs i.desc i.verbInput i.bits

/-- PKE registers (R316 to R318). -/
def readPke (_ : Ctx) (d : Dev) (off : Nat) : Word :=
  let e := d.engine (fld (d.reg Off.pkeEngSel) 3 0)
  let q := (d.groveItems e.num .placed).filter Item.wantsEngine
  if off = Off.pkeStat then
    packW [(0, d.enginesIn .inService), (4, d.enginesIn .clearing), (8, d.enginesIn .held), (12, d.enginesIn .failed),
      (16, d.enginesIn .gated)]
  else if off = Off.pkeEngState then packW [(0, e.state.code), (8, b2n e.zeroFail), (16, sat 0xFFFF e.testUs)]
  else if off = Off.pkeEngQueue then
    packW [(0, sat 0x1FF q.length), (12, sat 0xFFFFF (atOp (d.groveOp e.num) (q.map Item.pkeCost).sum / 1000))]
  else if off = Off.pkeAbortStat then packW [(0, b2n d.pke.abort.isSome), (4, d.pke.abortResult), (8, d.pke.abortEng)]
  else if off = Off.pkeClearCmdStat then packW [(0, b2n d.pke.clearBusy.isSome), (4, d.pke.clearResult)]
  else if off = Off.pkeLastFault then d.pke.lastFault
  else d.reg off

/-- The domain and slot that the key selectors name (R361). -/
def Dev.selDom (d : Dev) : Nat := fld (d.reg Off.keySelDomain) 9 0
def Dev.selSlot (d : Dev) : Nat := fld (d.reg Off.keySelSlot) 15 0

/-- KEY registers (R361 to R363). -/
def readKey (c : Ctx) (d : Dev) (off : Nat) : Word :=
  let k := d.key
  let dm := k.domain d.selDom
  let g := fld (d.reg Off.keyCacheSel) 3 0
  let ents := k.cache.filter (fun e => e.grove == g)
  if off = Off.keyStat then
    packW [(0, c.otp.root), (2, k.bbkek.code), (4, k.store.code), (6, b2n d.locked), (8, sat 255 k.loads.length)]
  else if off = Off.keySlotCmdStat then packW [(0, b2n (k.promote.isSome || d.changing MirrorOf.isSlot)), (4, k.slotResult)]
  else if off = Off.keySlotInfo then k.info else if off = Off.keySlotGen then k.infoGen
  else if off = Off.keyDomStat then packW [(0, dm.state.code), (2, b2n dm.prevValid)]
  else if off = Off.keyDomGen then BitVec.ofNat 32 dm.gen
  else if off = Off.keyDomUse then packW [(0, sat 0xFFFF (k.slotsUsed dm.num)), (16, sat 0x1FFF (k.extUsed dm.num))]
  else if off = Off.keyDomQuota then packW [(0, dm.slotQuota), (16, dm.extQuota)]
  else if off = Off.keyDomCmdStat then packW [(0, b2n (k.domErase.isSome || d.changing (fun w => w == .domain))), (4, k.domResult)]
  else if off = Off.keyFence then packW [(1, b2n k.fence), (2, b2n k.waitUsers)]
  else if off = Off.keyStoreStat then packW [(0, b2n k.reinit), (4, k.storeResult)]
  else if off = Off.keyStoreSlots then BitVec.ofNat 32 (sat 0x1FFFF k.slots.length)
  else if off = Off.keyStoreExt then BitVec.ofNat 32 (4096 - (k.slots.map Slot.ext).sum)
  else if off = Off.keyCacheStat then
    packW [(0, sat 65536 ents.length), (20, sat 4095 (ents.filter (fun e => !e.pins.isEmpty)).length)]
  else if off = Off.keyCacheHits then BitVec.ofNat 32 (sat 0xFFFFFFFF (k.hits.getD g 0))
  else if off = Off.keyCacheMisses then BitVec.ofNat 32 (sat 0xFFFFFFFF (k.misses.getD g 0))
  else d.reg off

/-- RNG registers (R384 to R386). The rate of a source is a
measurement: a free value. -/
def readRng (c : Ctx) (d : Dev) (off : Nat) : Word :=
  let r := d.rng
  let sn := fld (d.reg Off.rngSrcSel) 4 0
  let s := (r.sources.find? (fun x => x.num == sn)).getD { num := sn }
  let g := d.drbg (fld (d.reg Off.rngDrbgSel) 3 0)
  if off = Off.rngStat then packW [(0, r.state.code), (4, r.cause), (8, sat 16 r.pool.length), (16, r.retestSrc % 32)]
  else if off = Off.rngCmdStat then packW [(0, b2n r.cmdBusy), (4, r.cmdResult)]
  else if off = Off.rngSrcStat then
    packW [(0, s.state.code), (4, s.lastFail % 4),
      (16, if s.state == .off then 0 else Config.freeNat c.now (sn + 64) % 256)]
  else if off = Off.rngSrcBias then
    BitVec.ofNat 32 (s.hist.filter (fun b => b)).length
  else if off = Off.rngSrcCorr then
    BitVec.ofNat 32 ((s.hist.zip s.hist.tail).filter (fun p => p.1 == p.2)).length
  else if off = Off.rngSrcFails then BitVec.ofNat 32 (sat 0xFFFFFFFF s.fails)
  else if off = Off.rngDrbgStat then BitVec.ofNat 32 g.state.code
  else if off = Off.rngDrbgReqs then BitVec.ofNat 32 (sat 0x1FFFFF g.reqs)
  else if off = Off.rngDrbgReseeds then BitVec.ofNat 32 (sat 0xFFFFFFFF g.reseeds)
  else if off = Off.rngDrbgStretched then BitVec.ofNat 32 (sat 0xFFFFFFFF g.stretched)
  else if off = Off.rngFailStLo then loW r.failSt.toNat else if off = Off.rngFailStHi then hiW r.failSt.toNat
  else if off = Off.rngRawStat then packW [(0, sat 4096 r.raw.length), (16, b2n r.rawOverflow)]
  else d.reg off

/-- FAB registers (R442 to R444). -/
def readFab (c : Ctx) (d : Dev) (off : Nat) : Word :=
  let f := d.fab
  let pn := fld (d.reg Off.fabPortSel) 2 0
  let p := (f.ports.find? (fun x => x.num == pn)).getD { num := pn }
  let live := (f.nodes.filter (fun n => n.live)).length
  let dom := fld (d.reg Off.fabReplSel) 9 0
  let idx := fld (d.reg Off.fabReplSel) 17 16
  let repl := (f.repls.find? (fun r => r.domain == dom && r.index == idx)).getD { domain := dom, index := idx }
  let up := fun n => f.ports.any (fun x => x.num == n && x.state == .up)
  let off64 := (BitVec.ofInt 64 f.pair.offset).toNat
  let ctrl := d.reg Off.fabPairCtrl
  if off = Off.fabStat then
    packW [(0, b2n (bit (d.reg Off.fabCtrl) 0)), (1, b2n f.conflict), (2, b2n (64 < live)), (4, sat 0x1FF f.sessions.length),
      (16, sat 0x7FF live)]
  else if off = Off.fabPortStat then
    packW [(0, p.state.code), (4, p.peerPort % 8), (8, sat 0x1FF (f.routes.filter (fun r => r.port == pn)).length),
      (20, p.peerNode % 1024)]
  else if off = Off.fabPortRetry then if p.state = .up ∨ p.since ≠ 0 then Config.portRetries c.now pn else d.reg off
  else if off = Off.fabRouteStat then packW [(0, sat 0x7FFF f.routes.length), (16, sat 0xFFFF f.evicted)]
  else if off = Off.fabSpillStat then
    packW [(0, sat 0xFFF (d.dsp.items.filter (fun i => i.spill.isSome)).length),
      (16, sat 0xFFF (d.dsp.items.filter (fun i => i.spillFrom.isSome)).length)]
  else if off = Off.fabReplCtrl then packW [(0, b2n repl.en), (16, repl.peer % 1024)]
  else if off = Off.fabReplStat then
    packW [(0, if f.replicas.any (fun r => r.domain == dom) then 2
      else if f.repls.any (fun r => r.domain == dom && r.en) then 1 else 0), (4, repl.state % 4)]
  else if off = Off.fabPairCmdStat then packW [(0, b2n f.pair.cmdBusy), (4, f.pair.cmdResult)]
  else if off = Off.fabPairStat then
    packW [(0, f.pair.role.code), (4, b2n (up (fld ctrl 6 4))), (5, b2n (up (fld ctrl 10 8))), (6, f.pair.demote % 4),
      (8, sat 100 f.pair.syncPct),
      (16, if f.pair.role == .unpaired then 0 else sat 0xFFFF ((c.now - max f.pair.heard f.pair.lastAcked) / 1000))]
  else if off = Off.fabPairEpochLo then loW f.pair.epoch else if off = Off.fabPairEpochHi then hiW f.pair.epoch
  else if off = Off.fabPairOffsetLo then loW off64 else if off = Off.fabPairOffsetHi then hiW off64
  else d.reg off

/-- The ceremony slot that CUS_CER_SEL selects, and a ceremony slot by number. -/
def Dev.cer (d : Dev) (n : Nat) : Ceremony := (d.cus.cers.find? (fun c => c.num == n)).getD { num := n }
def Dev.selCer (d : Dev) : Ceremony := d.cer (fld (d.reg Off.cusCerSel) 1 0)

/-- The scope that CUS_SCOPE_SEL selects, and a scope by name; empty where none is listed (R447). -/
def Dev.scopeSel (d : Dev) : Option Nat :=
  if bit (d.reg Off.cusScopeSel) 31 then none else some (fld (d.reg Off.cusScopeSel) 9 0)
def Dev.scope (d : Dev) (dom : Option Nat) : CusScope :=
  (d.cus.scopes.find? (fun s => s.domain == dom)).getD { domain := dom, m := 0, recs := [] }

/-- CUS registers (R463 to R465). -/
def readCus (_ : Ctx) (d : Dev) (off : Nat) : Word :=
  let k := d.selCer
  let port := fun n => match d.cus.ports.find? (fun p => p.num == n) with | some p => p.state.code | none => 0
  if off = Off.cusStat then
    packW [(0, port 0), (2, port 1), (8, (d.cer 0).state.code), (10, (d.cer 1).state.code), (12, (d.cer 2).state.code),
      (14, (d.cer 3).state.code)]
  else if off = Off.cusCerCfg then k.cfg
  else if off = Off.cusCerCmdStat then packW [(4, k.result % 256)]
  else if off = Off.cusCerState then
    packW [(0, k.state.code), (8, sat 31 k.apps.length), (16, sat 31 k.required), (24, sat 31 (k.apps.filter (fun a => a.loc)).length)]
  else if off = Off.cusParamAddrLo then loW k.paramAddr else if off = Off.cusParamAddrHi then hiW k.paramAddr
  else if off = Off.cusParamLen then BitVec.ofNat 32 k.paramLen
  else if off = Off.cusRespAddrLo then loW k.respAddr else if off = Off.cusRespAddrHi then hiW k.respAddr
  else if off = Off.cusCerIdLo then loW k.id.toNat else if off = Off.cusCerIdHi then hiW k.id.toNat
  else if off = Off.cusScopeStat then
    let s := d.scope d.scopeSel; packW [(0, sat 31 s.recs.length), (8, sat 31 s.m)]
  else if Off.cusPolicy ≤ off ∧ off < Off.cusPolicy + 64 then
    (let n := (off - Off.cusPolicy) / 4; if 2 ≤ n ∧ n ≤ 8 then d.reg off else 0)
  else d.reg off

/-- TMP registers (R490 to R492). The readings are the last samples of the monitors (log entry 89). -/
def readTmp (d : Dev) (off : Nat) : Word :=
  let t := d.tmp
  let src := fld (d.reg Off.tmpSrcSel) 4 0
  let vend := (List.range 32).any (fun i => t.latched.getLsbD i && alarmVendor i)
  if off = Off.tmpStat then
    packW [(0, if t.lock then (if t.zeroised then 3 else 2) else 0), (2, b2n vend), (3, b2n t.zeroised),
      (4, b2n t.tokenMask.isSome), (5, b2n t.startedLocked)]
  else if off = Off.tmpActive then t.active else if off = Off.tmpLatched then t.latched
  else if off = Off.tmpSrcCfg then packW [(0, t.classes.getD src 0), (4, alarmMinClass src), (6, b2n (alarmVendor src))]
  else if off = Off.tmpSrcCount then BitVec.ofNat 32 (sat 0xFFFFFFFF (t.counts.getD src 0))
  else if off = Off.tmpLastStLo then loW t.lastSt.toNat else if off = Off.tmpLastStHi then hiW t.lastSt.toNat
  else if off = Off.tmpUnlockStat then packW [(4, t.unlockResult)]
  else if off = Off.tmpUnlockNonceLo then loW t.nonce.toNat else if off = Off.tmpUnlockNonceHi then hiW t.nonce.toNat
  else if off = Off.tmpTokenStat then BitVec.ofNat 32 t.tokenStat
  else if off = Off.tmpTemp then
    packW [(0, d.tmp.tempA % 1024), (16, d.tmp.tempB % 1024)]
  else if off = Off.tmpVbat then BitVec.ofNat 32 (d.tmp.vbatMv % 4096)
  else if off = Off.tmpRtcLo then loW t.rtc else if off = Off.tmpRtcHi then hiW (t.rtc % 2 ^ 48)
  else if off = Off.tmpBattStat then packW [(0, sat 32 t.moved), (8, b2n t.movedOver), (9, b2n t.vbatLost)]
  else d.reg off

/-- Committed evidence records (R498, R500). -/
def Evl.count (e : Evl) : Nat := e.recs.length
/-- The log is full: its OVERFLOW record is written (R500). -/
def Evl.full (e : Evl) : Bool := decide (65536 ≤ e.recs.length)

/-- EVL registers (R513, R515). -/
def readEvl (_ : Ctx) (d : Dev) (off : Nat) : Word :=
  if off = Off.evlStat then packW [(0, sat 65536 d.evl.count), (17, b2n d.evl.full), (18, sat 63 d.evl.queue.length)]
  else if off = Off.evlExportStat then packW [(0, b2n d.evl.exporting), (4, d.evl.expResult)]
  else d.reg off

/-- ERC registers (R514 to R516). -/
def readErc (_ : Ctx) (d : Dev) (off : Nat) : Word :=
  let e := d.erc
  if off = Off.ercStat then
    packW [(0, sat 1024 e.ring.length), (12, sat 2048 e.mram.length), (24, b2n e.flushTo.isSome), (25, b2n e.wrapped)]
  else if off = Off.ercTrigCfg then
    let k := fld (d.reg Off.ercTrigSel) 3 0
    BitVec.ofNat 32 (match e.trigCfg.find? (fun p => p.1 == k) with | some p => p.2 | none => 0)
  else if off = Off.ercSnap then
    let k := fld (d.reg Off.ercSnapSel) 2 0 * 16 + fld (d.reg Off.ercSnapSel) 11 8
    (match e.snaps.find? (fun p => p.1 == k) with | some p => p.2 | none => 0)
  else d.reg off

/-- The debug scope in force: the state's default, or the scope opened by a reopen (R517, R534, R538). -/
def Dev.dbgScope (d : Dev) (o : Otp) : Nat :=
  if d.lcs.scope != 0 then d.lcs.scope else o.scope

/-- LCS registers (R541 to R543). -/
def readLcs (c : Ctx) (d : Dev) (off : Nat) : Word :=
  let l := d.lcs
  if off = Off.lcsStat then
    packW [(0, c.otp.state.code), (3, b2n c.otp.inTransition), (4, b2n l.stuck), (5, b2n c.otp.copyMismatch),
      (6, d.dbgScope c.otp), (8, sat 64 c.otp.counter), (15, b2n l.memTest)]
  else if Off.lcsUnitId ≤ off ∧ off < Off.lcsUnitId + 16 then
    BitVec.ofNat 32 (Config.unitId.toNat / 2 ^ (8 * (off - Off.lcsUnitId)))
  else if off = Off.lcsReqStat then packW [(4, l.reqResult)]
  else if off = Off.lcsGoStat then packW [(4, l.goResult)]
  else if off = Off.lcsDbgStat then packW [(4, l.dbgResult), (8, l.scope)]
  else if off = Off.lcsDbgExpiryLo then loW l.expiry else if off = Off.lcsDbgExpiryHi then hiW l.expiry
  else d.reg off

/-- ACC registers (R561 to R563). -/
def readAcc (_ : Ctx) (d : Dev) (off : Nat) : Word :=
  let a := d.acc
  if off = Off.accStat then packW [(0, a.epoch % 65536), (16, b2n a.older.isSome), (18, a.result), (24, a.badRgn)]
  else if off = Off.accFence then packW [(1, b2n a.fence), (16, a.fenceEpoch % 65536)]
  else if off = Off.accViolStat then a.viol
  else if off = Off.accViolAddrLo then loW a.violAddr else if off = Off.accViolAddrHi then hiW (a.violAddr % 2 ^ 48)
  else if off = Off.accDbgDenied then BitVec.ofNat 32 (sat 31 a.dbgDenied.length)
  else if Off.accRgnBaseLo ≤ off ∧ off < Off.accRgnBaseLo + 1024 then
    let r := a.staged.getD ((off - Off.accRgnBaseLo) / 16) {}
    match (off - Off.accRgnBaseLo) % 16 with
    | 0 => r.baseLo | 4 => r.baseHi | 8 => r.cfg | 12 => r.perm | _ => 0
  else d.reg off

/-- MEM registers (R582 to R584). The wear of the MRAM pages is a free value (log entry 7). -/
def readMem (c : Ctx) (d : Dev) (off : Nat) : Word :=
  let m := d.mem
  if off = Off.memStat then packW [(0, b2n m.ddrReady), (1, m.train % 4), (3, b2n m.srKept), (4, b2n m.degraded)]
  else if off = Off.memDdrCfg then m.cfg
  else if off = Off.memDdrUsable then BitVec.ofNat 32 m.usable
  else if off = Off.memUeCount then packW [(0, sat 255 m.ueSram), (8, sat 255 m.ueMram), (16, sat 255 m.ueDdr)]
  else if off = Off.memLastErr then m.lastErr
  else if off = Off.memLastAddrLo then loW m.lastAddr else if off = Off.memLastAddrHi then hiW (m.lastAddr % 2 ^ 48)
  else if off = Off.memDdrDevCe then
    let k := fld (d.reg Off.memDdrDevSel) 5 0 + 64 * fld (d.reg Off.memDdrDevSel) 8 8
    BitVec.ofNat 32 (sat 0xFFFFFFFF (match m.devCe.find? (fun p => p.1 == k) with | some p => p.2 | none => 0))
  else if off = Off.memMramWear then BitVec.ofNat 32 (Config.freeNat c.now 500)
  else d.reg off

/-- The power state of a domain (R585): its own entry while it wakes or after a failed wake; else as its group has it. -/
def Dev.pwrDom (d : Dev) (n : Nat) : PwrDom :=
  let off : PwrDom := { num := n }
  let on : PwrDom := { num := n, state := 2, step := 4 }
  let is := fun (b : Bool) => if b then on else off
  match d.pwr.doms.find? (fun x => x.num == n) with
  | some x => x
  | none =>
    if n < 192 then is (d.groveOn (n / 16) && (d.twin (n / 2)).state != .failed)
    else if n < 204 then is (d.groveOn (n - 192) && (d.engine (n - 192)).state != .gated)
    else if n < 216 then is (d.groveOn (n - 204))
    else if n < 228 then is (d.groveOn (n - 216))
    else if 231 ≤ n ∧ n < 239 then is (!d.pwr.standby && bit (d.reg Off.fabCtrl) 0 && bit (d.reg Off.fabCtrl) (n - 231 + 8))
    else if n = 245 then on
    else if n = 246 then (if d.pwr.standby then { num := n, state := 3, step := 4 } else on)
    else is (!d.pwr.standby)

/-- PWR registers (R610 to R612). The supply voltage is a measurement: a free value (log entry 7). -/
def readPwr (c : Ctx) (d : Dev) (off : Nat) : Word :=
  let p := d.pwr
  if off = Off.pwrState then
    packW [(0, if p.standby then 2 else if p.groveOn == 0 then 1 else 0), (2, b2n d.warning)]
  else if off = Off.pwrReadyStage then
    packW [(0, sat 9 p.stage), (4, b2n p.halted), (5, b2n p.retained), (6, b2n p.imageB)]
  else if off = Off.pwrResetCause then packW [(0, p.cause % 16), (16, p.seen % 256)]
  else if off = Off.pwrCmdStat then packW [(4, p.cmdResult)]
  else if off = Off.pwrGrovePwr then BitVec.ofNat 32 p.groveOn.toNat
  else if off = Off.pwrGroveOp then
    BitVec.ofNat 32 ((List.range 12).foldl (fun a g => a + (d.groveOp g % 4) * 4 ^ g) 0)
  else if off = Off.pwrPowerEst then BitVec.ofNat 32 (sat 255 p.est)
  else if off = Off.pwrVcore then BitVec.ofNat 32 (Config.freeNat c.now 131 % 4096)
  else if off = Off.pwrVmin then BitVec.ofNat 32 (p.vmin % 4096)
  else if off = Off.pwrDomStat then
    let m := d.pwrDom (fld (d.reg Off.pwrDomSel) 7 0)
    packW [(0, m.state % 4), (2, b2n m.fault), (4, m.step % 8)]
  else if off = Off.pwrWarnCnt then packW [(0, sat 0xFFFF p.warnCnt), (16, sat 0xFFFF p.recCnt)]
  else d.reg off

/-- CFG registers (R613). -/
def readCfg (_ : Ctx) (d : Dev) (off : Nat) : Word :=
  let k := d.cfg
  if off = Off.cfgStat then
    packW [(0, b2n k.defaulted), (1, b2n k.a.isSome), (2, b2n k.b.isSome), (3, b2n k.inUse), (4, b2n k.fallback),
      (16, sat 0xFFFF k.rejected)]
  else if off = Off.cfgGen then BitVec.ofNat 32 k.gen
  else if off = Off.cfgCmdStat then packW [(0, b2n k.job.isSome), (4, k.result)]
  else d.reg off

/-- The value of the register at a BAR0 offset: 0 where the tables name none (R640) and for a write-only one (R5). -/
def Dev.readReg (c : Ctx) (d : Dev) (off : Nat) : Word :=
  match regAcc off with
  | none | some .wo => 0
  | _ => match off / 0x10000 with
    | 0 => if off < 0x100 then readHif c d off else readSlice c d off
    | 1 => readTim c d off | 2 => readJnl c d off | 3 => readDdt c d off | 4 => readDsp c d off
    | 5 => readLan c d off | 6 => readPke c d off | 7 => readKey c d off | 8 => readRng c d off
    | 9 => readCus c d off | 10 => readTmp d off | 11 => readEvl c d off | 12 => readErc c d off
    | 13 => readLcs c d off | 14 => readAcc c d off | 15 => readMem c d off | 16 => readPwr c d off
    | 17 => readCfg c d off | 18 => readFab c d off | _ => 0

end Sys2Proof.Machine
end

