-- ==== Sys2Proof/Machine/Record.lean ====
section
/-! DEFINITION. Evidence causes and records, event-recorder records and flushes, the target gates and the violation
report, and the wrapper that every host access to a register goes through (R5, R548, R604). -/

namespace Sys2Proof.Machine

/-! ### Thread tasks become ready (R166, R167) -/

/-- Deadline of a thread class from becoming ready, in ns (R167): DVFS, tokens and ceremonies, fabric, export and flush,
configuration writes. -/
def fwDeadline (cls : Nat) : Nat := [100 * nsUs, 10 * nsMs, nsMs, 100 * nsMs, nsMs].getD cls nsMs

/-- A task joins the list in the order of deadlines, behind those of the same deadline. -/
def insertFw (f : FwTask) : List FwTask → List FwTask
  | [] => [f]
  | g :: t => if f.deadline < g.deadline then f :: g :: t else g :: insertFw f t

/-- A thread task of a class becomes ready on the first pair that is in service (R17, R166); with an earlier deadline than the
running one it is the head of its pair's list and runs in its place. How long it has to run is a free value (log entry 7). -/
def Dev.fwReady (c : Ctx) (cls : Nat) (d : Dev) : Dev :=
  if !d.mgmtUp then d
  else
    let d1 := d.fwAdvance c
    let t : FwTask := {
      id := d1.dsp.fwNext, cls := cls, pair := if d.pwr.mgmtOk.getD 0 true then 0 else 1
      deadline := c.now + fwDeadline cls, left := Config.freeNat d1.dsp.fwNext (300 + cls) }
    { d1 with dsp := { d1.dsp with fw := insertFw t d1.dsp.fw, fwNext := d1.dsp.fwNext + 1 } }

/-! ### Evidence log (R493 to R500) -/

/-- Evidence record types (R495). -/
abbrev Ev.logStart : Nat := 0x0001
abbrev Ev.powerUp : Nat := 0x0002
abbrev Ev.tamperEvent : Nat := 0x0010
abbrev Ev.tamperBattery : Nat := 0x0011
abbrev Ev.tamperRepeat : Nat := 0x0012
abbrev Ev.unlock : Nat := 0x0013
abbrev Ev.unlockRefused : Nat := 0x0014
abbrev Ev.ceremony : Nat := 0x0020
abbrev Ev.lifecycle : Nat := 0x0030
abbrev Ev.debugOpen : Nat := 0x0031
abbrev Ev.debugDenials : Nat := 0x0032
abbrev Ev.timeSet : Nat := 0x0040
abbrev Ev.anchorInvalid : Nat := 0x0050
abbrev Ev.mirrorDegraded : Nat := 0x0051
abbrev Ev.portRefused : Nat := 0x0052
abbrev Ev.noRandomness : Nat := 0x0060
abbrev Ev.keyTestFailed : Nat := 0x0061
abbrev Ev.storeReinit : Nat := 0x0062
abbrev Ev.exported : Nat := 0x0070
abbrev Ev.recorderCleared : Nat := 0x0071
abbrev Ev.queueLoss : Nat := 0x00FE
abbrev Ev.overflow : Nat := 0x00FF

/-- A cause joins the queue of 32; one that finds it full is counted as lost (R497). -/
def Dev.evidenceAt (stamp : DWord) (recon : Bool) (typ : Nat) (payload : Bytes) (d : Dev) : Dev :=
  if d.evl.queue.length < 32 then
    { d with evl := { d.evl with queue := d.evl.queue ++ [{ typ := typ, stamp := stamp, payload := padTo 28 payload, recon := recon }] } }
  else
    let e := { d.evl with lost := d.evl.lost + 1, lostStamp := if d.evl.lost = 0 then stamp else d.evl.lostStamp }
    ((({ d with evl := e }).bump Off.evlQueueLost).evtBit Off.evlEvt 3)

/-- A cause with the present time stamp. -/
def Dev.evidence (c : Ctx) (typ : Nat) (payload : Bytes) (d : Dev) : Dev := d.evidenceAt (d.stamp c) false typ payload

/-- The 64 bytes of a record at an index (R494). -/
def EvRecord.bytes (index : Nat) (r : EvRecord) : Bytes :=
  toLe 4 index ++ toLe 2 r.typ ++ [BitVec.ofNat 8 (b2n r.recon), 0] ++ toLe 8 r.stamp.toNat ++ toLe 4 r.repeats
    ++ (padTo 28 r.payload).take 28 ++ (padTo 16 r.link).take 16

/-- The first 16 bytes of SHA-256 over a message (R494). -/
def sha256Left16 (msg : Bytes) : Bytes := (hashOf 1 msg 32).take 16

/-- ASCII "DYZHATIK EVIDENCE 1" (R494). -/
def evidenceLabel : Bytes := [0x44, 0x59, 0x5A, 0x48, 0x41, 0x54, 0x49, 0x4B, 0x20, 0x45, 0x56, 0x49, 0x44, 0x45, 0x4E, 0x43, 0x45, 0x20, 0x31]

/-- The unit ID as it lies in a structure (R10). -/
def unitIdBytes : Bytes := toLe 16 Config.unitId.toNat

/-- The link of the record after those of the log (R494). -/
def Evl.nextLink (e : Evl) : Bytes :=
  match e.recs with
  | [] => sha256Left16 (evidenceLabel ++ unitIdBytes)
  | r :: t => sha256Left16 (r.bytes t.length)

/-- A record is added at the next free index (R493, R498). -/
def Evl.push (typ : Nat) (stamp : DWord) (recon : Bool) (payload : Bytes) (repeats : Nat) (e : Evl) : Evl :=
  { e with recs := { typ := typ, stamp := stamp, payload := payload, recon := recon, repeats := repeats, link := e.nextLink } :: e.recs }

/-- The newest record of a source: a TAMPER_EVENT that lists it, or a TAMPER_REPEAT that names it (R481, R496). -/
def EvRecord.ofSource (src : Nat) (r : EvRecord) : Bool :=
  (r.typ == Ev.tamperEvent && (le r.payload 1 3 / 2 ^ src) % 2 == 1) || (r.typ == Ev.tamperRepeat && byteAt r.payload 0 == src)

/-- Raise the repeat count of the last record (R496). -/
def Evl.repeatLast (e : Evl) : Evl :=
  match e.recs with
  | [] => e
  | r :: t => { e with recs := { r with repeats := sat 0xFFFFFFFF (r.repeats + 1) } :: t }

/-- The OVERFLOW record takes a lost record or repeat (R500). -/
def Evl.overflowMore (q : EvCause) (e : Evl) : Evl :=
  match e.recs with
  | [] => e
  | r :: t =>
    let p := padTo 28 (toLe 2 q.typ ++ zeros 2 ++ toLe 8 q.stamp.toNat)
    { e with recs := { r with repeats := sat 0xFFFFFFFF (r.repeats + 1), payload := p } :: t }

/-- A cause that only raises the count of the last record (R496): an equal record, or a latched source that fires again
while its latest record is last. EXPORT and OVERFLOW records are never matched. -/
def Evl.matchesLast (q : EvCause) (e : Evl) : Bool :=
  match e.recs with
  | [] => false
  | r :: _ =>
    if r.typ = Ev.exported ∨ r.typ = Ev.overflow then false
    else if q.typ = Ev.tamperRepeat then r.ofSource (byteAt q.payload 0)
    else r.typ == q.typ && r.payload == q.payload

/-- A TAMPER_REPEAT record names the record that it repeats (R495, R496). -/
def Evl.fillPayload (q : EvCause) (e : Evl) : Bytes :=
  if q.typ = Ev.tamperRepeat then
    let src := byteAt q.payload 0
    padTo 28 (toLe 4 src ++ toLe 4 (e.recs.length - 1 - e.recs.findIdx (fun r => r.ofSource src)))
  else q.payload

/-- One cause becomes a record, a repeat, or part of the OVERFLOW account (R496 to R500). -/
def Dev.commitCause (q : EvCause) (d : Dev) : Dev :=
  let e := d.evl
  if e.full then { d with evl := e.overflowMore q }
  else if e.recs.length = 65535 then
    let e1 := e.push Ev.overflow q.stamp false (padTo 28 (toLe 2 q.typ ++ zeros 2 ++ toLe 8 q.stamp.toNat)) 1
    ({ d with evl := e1 }).evt Off.evlEvt 0b11#32
  else if e.matchesLast q then { d with evl := e.repeatLast }
  else ({ d with evl := e.push q.typ q.stamp q.recon (e.fillPayload q) 0 }).evtBit Off.evlEvt 0

/-- The engine takes the next cause of its queue; when space returns after a loss, the account of the loss joins the
queue (R497). An export holds the queue (R511). -/
def Dev.appendNext (c : Ctx) (d : Dev) : Dev :=
  match d.evl.queue with
  | [] => d
  | q :: t =>
    if d.evl.exporting then d
    else
      let d1 := ({ d with evl := { d.evl with queue := t } }).commitCause q
      if d1.evl.lost = 0 then d1
      else
        let p := toLe 4 (sat 0xFFFFFFFF d1.evl.lost) ++ toLe 8 d1.evl.lostStamp.toNat
        ({ d1 with evl := { d1.evl with lost := 0 } }).evidence c Ev.queueLoss p

/-- The whole queue is written (R499, R511). -/
def Dev.appendAll (c : Ctx) : Nat → Dev → Dev
  | 0, d => d
  | n + 1, d => if d.evl.queue.isEmpty || d.evl.exporting then d else Dev.appendAll c n (d.appendNext c)

/-! ### Access rules (R544 to R557) -/

/-- Master identities (R544). -/
abbrev Mst.lane : Nat := 2
abbrev Mst.pke : Nat := 3
abbrev Mst.recorder : Nat := 6
abbrev Mst.debug : Nat := 8
abbrev Mst.host : Nat := 9

/-- Base address and size exponent of a region (R546, R561). -/
def Region.base (r : Region) : Nat := r.baseLo.toNat / 4096 * 4096 + fld r.baseHi 15 0 * 2 ^ 32
def Region.size (r : Region) : Nat := fld r.cfg 13 8

/-- A region covers an address (R546). -/
def Region.covers (r : Region) (a : Nat) : Bool :=
  bit r.cfg 0 && decide (r.base ≤ a) && decide (a < r.base + 2 ^ r.size)
    && !bit r.cfg (16 + (a - r.base) / 2 ^ (r.size - 3) % 8)

/-- The highest-numbered enabled region that covers an address (R547). -/
def decidingRegion (rs : List Region) (a : Nat) : Option Nat :=
  ((List.range rs.length).filter (fun i => (rs.getD i {}).covers a)).getLast?

/-- Targets of the hard rules and the masters that they let in (R545, R564, R567, R570). Addresses that R545 gives to
nobody else but the owner, the evidence log's for writes alone; the body and table regions lie where their registers put them. -/
def Dev.hardRule (d : Dev) (write : Bool) (a : Nat) : Option (List Nat) :=
  let mram := 0x20000000
  let ddr := 0x010000000000
  let body := ddr + d.reg64 Off.jnlBodyBaseLo
  let tab := ddr + d.reg64 Off.ddtBaseLo
  if 0x18000000 ≤ a ∧ a < 0x18000000 + 0xC00000 then some [2]
  else if mram ≤ a ∧ a < mram + 0x800000 then some [5]
  else if mram + 0x800000 ≤ a ∧ a < mram + 0xC00000 then (if write then some [6] else none)
  else if mram + 0xC00000 ≤ a ∧ a < mram + 0xD00000 then some [5]
  else if mram + 0xD00000 ≤ a ∧ a < mram + 0xE00000 then some [4]
  else if mram + 0xE00000 ≤ a ∧ a < mram + 0xE80000 then some [6]
  else if mram + 0xE80000 ≤ a ∧ a < mram + 0xEA0000 then some [5]
  else if mram + 0xEC0000 ≤ a ∧ a < mram + 0xEF9000 then some [4]
  else if mram + 0xEFEC00 ≤ a ∧ a < mram + 0xFFF000 then some [5]
  else if 0x21000020 ≤ a ∧ a < 0x21000020 + 100 then some [5]
  else if body ≤ a ∧ a < body + 0x1000000 ∧ d.reg64 Off.jnlBodyBaseLo ≠ 0 then some [4]
  else if tab ≤ a ∧ a < tab + 128 * 2 ^ d.ddtLog2 ∧ d.reg64 Off.ddtBaseLo ≠ 0 then some [4]
  else none

/-- The table and the epoch that the gate of an address holds: while a commit is being replicated, which of the two is
free (R553). -/
def Dev.gateTable (c : Ctx) (d : Dev) (a : Nat) : List Region × Nat :=
  match d.acc.older with
  | none => (d.acc.committed, d.acc.epoch)
  | some old => if Config.freeBool c.now (a / 0x10000) then (d.acc.committed, d.acc.epoch) else (old, (d.acc.epoch + 65535) % 65536)

/-- What the gate of one address answers: permitted, or the REGION code of the denial (R547, R558); and the epoch. -/
structure GateAns where
  ok     : Bool
  region : Nat
  epoch  : Nat
deriving DecidableEq, Repr

/-- The check of one byte of an access (R545, R547). -/
def Dev.gate (c : Ctx) (d : Dev) (m : Nat) (write : Bool) (a : Nat) : GateAns :=
  let (rs, ep) := d.gateTable c a
  match d.hardRule write a with
  | some ms => { ok := ms.contains m, region := 0x41, epoch := ep }
  | none =>
    match decidingRegion rs a with
    | none => { ok := false, region := 0x40, epoch := ep }
    | some r => { ok := bit (rs.getD r {}).perm (if write then 16 + m else m), region := r, epoch := ep }

/-! ### Event recorder (R502 to R508) -/

/-- Recorder triggers (R504). -/
abbrev Trig.twinMismatch : Nat := 0x01
abbrev Trig.pkeFault : Nat := 0x02
abbrev Trig.mgmtDisagree : Nat := 0x03
abbrev Trig.unitState : Nat := 0x04
abbrev Trig.rngHealth : Nat := 0x05
abbrev Trig.fwMiss : Nat := 0x06
abbrev Trig.supplyWarning : Nat := 0x07
abbrev Trig.warnRecovered : Nat := 0x08
abbrev Trig.ringFault : Nat := 0x09
abbrev Trig.ddtStall : Nat := 0x0A
abbrev Trig.reefChange : Nat := 0x0B
abbrev Trig.tamper : Nat := 0x0C
abbrev Trig.pairRole : Nat := 0x0D
abbrev Trig.accessViolation : Nat := 0x0E
abbrev Trig.hostMark : Nat := 0x0F

/-- One snapshot entry: DENIED with value 0 where the rules deny the recorder the offset, or it lies in a window (R505).
DESIGN CHOICE (log entry 75): the entry of an _HI register stores its current value, not a latched one. -/
def Dev.snapEntry (c : Ctx) (d : Dev) (w : Word) : Word × Word :=
  let off := fld w 25 0
  if (d.gate c Mst.recorder false off).ok && !(0x1000 ≤ off % 0x10000) then
    (BitVec.ofNat 32 off, d.readReg c off)
  else (BitVec.ofNat 32 (off + 2 ^ 31), 0)

/-- The snapshots of a trigger: the valid offsets of its set, in entry order (R505). -/
def Dev.snapshots (c : Ctx) (d : Dev) (trig : Nat) : List (Word × Word) :=
  match d.erc.trigCfg.find? (fun p => p.1 == trig) with
  | none => []
  | some p =>
    if p.2 = 0 then []
    else (((List.range 16).filterMap (fun i => (d.erc.snaps.find? (fun q => q.1 == p.2 * 16 + i)).map (fun q => q.2))).filter
      (fun w => bit w 31)).map (d.snapEntry c)

/-- A recorder record of a trigger, or a further occurrence of the last one (R502 to R506; log entry 16: the fields of
the detail stand in the order of R504, each as wide as its call says). -/
def Dev.record (c : Ctx) (trig : Nat) (detail : Bytes) (d : Dev) : Dev :=
  let det := (padTo 32 detail).take 32
  let co := fld (d.reg Off.ercCtrl) 19 0 * 1000
  let fresh : Dev :=
    let sq := d.pwr.boots % 2 ^ 24 * 2 ^ 40 + (d.erc.seq + 1) % 2 ^ 40
    let sn := d.snapshots c trig
    let r : ErRecord := { seq := sq, trig := trig, first := d.stamp c, last := d.stamp c, lastNs := c.now, detail := det, snaps := sn }
    let full := decide (1024 ≤ d.erc.ring.length)
    let lost := full && (match d.erc.ring.getLast? with | some o => !o.flushed | none => false)
    let d1 := { d with erc := { d.erc with seq := d.erc.seq + 1, ring := r :: d.erc.ring.take 1023 } }
    (if lost then d1.bump Off.ercLost else d1).evtBit Off.ercEvt 0
  match d.erc.ring with
  | r :: t =>
    if r.trig = trig ∧ r.detail = det ∧ co ≠ 0 ∧ c.now ≤ r.lastNs + co then
      { d with erc := { d.erc with ring := { r with count := sat 0xFFFFFFFF (r.count + 1), last := d.stamp c, lastNs := c.now } :: t } }
    else fresh
  | [] => fresh

/-- A flush starts, unless one runs already (R507). -/
def Dev.startFlush (d : Dev) : Dev :=
  if d.erc.flushTo.isSome then d else { d with erc := { d.erc with flushTo := some d.erc.seq } }

/-- A unit changes state: a UNIT_STATE record (kind, number, old and new state), and a flush where it enters FAILED or
GATED (R504, R507). -/
def Dev.recordUnit (c : Ctx) (kind num : Nat) (old new : UnitState) (d : Dev) : Dev :=
  let d1 := d.record c Trig.unitState (toLe 1 kind ++ toLe 1 num ++ toLe 1 old.code ++ toLe 1 new.code)
  match new with
  | .failed | .gated => d1.startFlush
  | _ => d1

/-! ### Violation reports (R558, R559) -/

/-- KIND codes of a report (R558). -/
abbrev Viol.read : Nat := 0
abbrev Viol.write : Nat := 1
abbrev Viol.rule : Nat := 2

/-- One violation report: latched or counted, counted in the total, and recorded (R559). -/
def Dev.violation (c : Ctx) (kind master region epoch addr : Nat) (d : Dev) : Dev :=
  let d1 :=
    if bit d.acc.viol 0 then d.bump Off.accViolMore
    else
      let w := packW [(0, 1), (1, 1), (2, kind), (4, master), (8, region), (16, epoch % 65536)]
      ({ d with acc := { d.acc with viol := w, violAddr := addr } }).evtBit Off.accEvt 0
  (d1.bump Off.accViolTotal).record c Trig.accessViolation
    (toLe 1 master ++ toLe 1 region ++ toLe 1 kind ++ toLe 2 epoch)

/-- A read that the rules deny an internal master is reported (R557, R558). -/
def Dev.readDenied (c : Ctx) (m a : Nat) (d : Dev) : Dev :=
  let g := d.gate c m false a
  d.violation c Viol.read m g.region g.epoch a

/-- A write that a register's own rule discards and reports (R558): REGION 0x42. -/
def Dev.ruleViolation (c : Ctx) (off : Nat) (d : Dev) : Dev :=
  d.violation c Viol.rule Mst.host 0x42 (d.gateTable c off).2 off

/-! ### Host writes to registers (R5, R548, R604) -/

/-- What a register's own rule makes of a write: it takes effect, is discarded, or is discarded and reported. -/
inductive WOut where
  | took (d : Dev) | drop | viol
deriving DecidableEq, Repr

/-- The registers that respond before start-up has passed stage 6, and while start-up is halted (R602, R604). -/
def respondsEarly (off : Nat) : Bool :=
  off == Off.hifDevRev || off / 0x10000 == 16 || off == Off.cfgStat || off == Off.lcsStat
    || (Off.lcsUnitId ≤ off && off < Off.lcsUnitId + 16) || off == Off.memStat || off == Off.tmpStat || off == Off.rngStat

/-- What responds before that: with the life-cycle controller STUCK, its own registers and HIF_DEV_REV alone (R531). -/
def Dev.early (d : Dev) (off : Nat) : Bool :=
  if d.lcs.stuck then off == Off.hifDevRev || off / 0x10000 == 13 else respondsEarly off

/-- Start-up has passed stage 6 and is not halted (R602, R604). -/
def Dev.open6 (d : Dev) : Bool := d.past 6 && !d.pwr.halted && d.pwr.powered && !d.pwr.standby

/-- In STANDBY the PCIe endpoint is off; without main power nothing answers (R589, R621). -/
def Dev.endpointUp (d : Dev) : Bool := d.pwr.powered && !d.pwr.standby
/-- The fabric is on, and the device's own node number (R409, R414). -/
def Dev.fabOn (d : Dev) : Bool := bit (d.reg Off.fabCtrl) 0 && d.endpointUp
def Dev.nodeId (d : Dev) : Nat := fld (d.reg Off.fabNodeId) 9 0

/-- Registers whose writes firmware serves (R17, R167). DESIGN CHOICE (log entry 31): the spec names none; these are the ones
that only a firmware thread uses, the governor's bounds and the discovery settings. -/
def fwServed (off : Nat) : Bool := off == Off.pwrGovCtrl || off == Off.pwrPowerCap || off == Off.fabDiscCtrl

/-- A register's own rule, with firmware in its way where it serves the register: with no pair in service the write is
discarded and reported (R17), else a configuration task becomes ready (R167). -/
def Dev.served (c : Ctx) (off : Nat) (f : Dev → WOut) (d : Dev) : WOut :=
  if !fwServed off then f d
  else if !d.mgmtUp then .viol
  else match f d with
    | .took d1 => .took (d1.fwReady c 4)
    | o => o

/-- A host write to a register, with the register's own rule (R5, R548, R557, R558, R604). -/
def Dev.hostWrite (c : Ctx) (off : Nat) (f : Dev → WOut) (d : Dev) : Dev :=
  if !d.endpointUp then d
  else if !d.open6 then
    if d.early off then (match f d with | .took d1 => d1 | _ => d) else d
  else
    let g := d.gate c Mst.host true off
    if g.ok then
      match d.served c off f with
      | .took d1 => d1
      | .drop => d
      | .viol => d.ruleViolation c off
    else d.violation c Viol.write Mst.host g.region g.epoch off

/-- A host read: what is returned to the host, with the side effects of the read (R5, R557, R604). -/
def Dev.hostRead (c : Ctx) (off : Nat) (f : Dev → DWord × Dev) (d : Dev) : Dev :=
  let ret := fun (p : DWord × Dev) => { p.2 with rdata := p.1 }
  if !d.endpointUp then d
  else if !d.open6 then (if d.early off then ret (f d) else ret (0, d))
  else
    let g := d.gate c Mst.host false off
    if g.ok then ret (f d) else ret (0, d.violation c Viol.read Mst.host g.region g.epoch off)

/-! ### Quorum ceremonies and locks over registers (R5, R451, R457, R458) -/

/-- Bytes of a DWord register pair at a selector, little helper of the write list: its entries (R453). -/
def Ceremony.writeList (k : Ceremony) : List (Nat × Word) :=
  (List.range (le k.param 6 2)).map (fun i => (le k.param (64 + 8 * i) 4, BitVec.ofNat 32 (le k.param (68 + 8 * i) 4)))

/-- The class that covers an RW-Q register (R451), and its selector register if it is bound to one (R458). -/
def rwqClass (off : Nat) : Nat :=
  if off = Off.keyDomErase ∨ off = Off.fabReplCtrl then 1
  else if off = Off.tmpUnlock ∨ off = Off.keyStoreCmd then 2
  else if off = Off.lcsDbgOpen then 3
  else if off = Off.lcsGo then 4
  else if off = Off.timTaHandleLo ∨ off = Off.timTaHandleHi ∨ off = Off.timSetValueLo ∨ off = Off.timSetValueHi ∨ off = Off.timSetCtrl then 5
  else if off = Off.keyDomQuota ∨ (Off.fabPairUid ≤ off ∧ off < Off.fabPairUid + 16)
      ∨ (Off.accRgnBaseLo ≤ off ∧ off < Off.accRgnBaseLo + 1024) then 6
  else if off = Off.evlExportCmd then 7
  else if off = Off.ercClear then 8
  else if off = Off.cusWindow ∨ (Off.cusPolicy ≤ off ∧ off < Off.cusPolicy + 64) then 9
  else 0

def rwqSelector (off : Nat) : Option Nat :=
  if off = Off.keyDomQuota ∨ off = Off.keyDomErase then some Off.keySelDomain
  else if off = Off.fabReplCtrl then some Off.fabReplSel
  else none

/-- An open ceremony of the register's class lists this write, and the selector's present value with it (R457, R458). -/
def Dev.quorum (off : Nat) (v : Word) (d : Dev) : Bool :=
  d.cus.cers.any (fun k =>
    k.state == .opened && k.cls == rwqClass off && k.writeList.contains (off, v)
      && (match rwqSelector off with
        | none => true
        | some sel => k.writeList.contains (sel, d.reg sel)
            && (match k.domain with
              | none => true
              | some dm => if sel = Off.fabReplSel then fld (d.reg Off.fabReplSel) 9 0 == dm else d.selDom == dm)))

/-- The ceremony that opens a class, if one is OPEN. -/
def Dev.openCer? (d : Dev) (cls : Nat) : Option Ceremony := d.cus.cers.find? (fun k => k.state == .opened && k.cls == cls)

/-- A signature of the Nymjor service over the first 48 bytes of a structure, from byte 48 on: under the fused P-384 key, or the
ML-DSA-65 key of the boot image (R487, R524, R537, R571). -/
def Dev.nymjorSig (c : Ctx) (b : Bytes) (d : Dev) : Bool :=
  let code := le b 2 2
  codeSig code (if code = 2 then c.otp.nymjorKey else d.pwr.nymjorMl) (b.take 48) (bsub b 48 (le b 4 4))

/-- The RW-L lock of the TMP and FAB blocks (R5, R443, R490). -/
def Dev.tmpLocked (d : Dev) : Bool := bit (d.reg Off.tmpCtrl) 31
def Dev.fabLocked (d : Dev) : Bool := bit (d.reg Off.fabCtrl) 31

end Sys2Proof.Machine
end

