-- ==== Sys2Proof/Machine/Frames.lean ====
section
/-! DEFINITION. Frames of the fabric as bytes, and what a device sends of its own (R409 to R413, R415, R419, R421): the header, the
check word, routing and flooding, and the sealing of a peer session. How a message is laid out inside its session, and what
waits for one, are log entry 87. -/

namespace Sys2Proof.Machine

/-! ### Frames (R409, R411) -/

/-- CRC-32C of a byte string. -/
def crc32cByte (crc : Word) (b : Byte) : Word :=
  (List.range 8).foldl (fun (x : Word) _ => if bit x 0 then (x >>> 1) ^^^ 0x82F63B78#32 else x >>> 1) (crc ^^^ b.setWidth 32)
def crc32c (l : Bytes) : Word := ~~~(l.foldl crc32cByte 0xFFFFFFFF#32)

/-- A frame of the fabric on a port, by the fields of its header (R411). -/
structure Frame where
  port    : Nat
  src     : Nat
  dst     : Nat
  cls     : Nat
  flood   : Bool := false
  hops    : Nat
  seq     : Nat
  boot    : Nat := 0
  payload : Bytes := []
deriving DecidableEq, Repr

/-- The 16-byte header. -/
def Frame.head (f : Frame) : Bytes :=
  toLe 2 (f.dst % 1024) ++ toLe 2 (f.src % 1024) ++ toLe 1 (f.cls % 16 + 16 * b2n f.flood) ++ toLe 1 f.hops ++ toLe 2 f.payload.length ++ toLe 4 f.seq ++ toLe 4 f.boot
/-- A frame as it stands on the link. -/
def Frame.bytes (f : Frame) : Bytes := let b := f.head ++ f.payload; b ++ toLe 4 (crc32c b).toNat
/-- A frame from its bytes: none where its length or its check word is wrong. -/
def Frame.ofBytes (port : Nat) (b : Bytes) : Option Frame :=
  let n := le b 6 2
  if 2048 < n ∨ b.length ≠ 20 + n ∨ (crc32c (b.take (16 + n))).toNat ≠ le b (16 + n) 4 then none
  else some { port := port, dst := le b 0 2 % 1024, src := le b 2 2 % 1024, cls := byteAt b 4 % 16, flood := byteAt b 4 / 16 % 2 == 1, hops := byteAt b 5,
              seq := le b 8 4, boot := le b 12 4, payload := bsub b 16 n }

/-! ### Ports and routes -/

/-- Ports of the two pair links (R427). -/
def Dev.pairPorts (d : Dev) : List Nat := [fld (d.reg Off.fabPairCtrl) 6 4, fld (d.reg Off.fabPairCtrl) 10 8]
def Dev.port (d : Dev) (n : Nat) : Port := (d.fab.ports.find? (fun p => p.num == n)).getD { num := n }
def Dev.portUp (d : Dev) (n : Nat) : Bool := d.fab.ports.any (fun p => p.num == n && p.state == .up)
/-- A pair link is UP, and the partner can be reached. -/
def Dev.pairLinkUp (d : Dev) : Bool := d.pairPorts.any d.portUp
/-- The hop limit (R419). -/
def Dev.maxHops (d : Dev) : Nat := fld (d.reg Off.fabDiscCtrl) 21 16
/-- The port of a learned destination, where it is UP (R419). -/
def Dev.learned (d : Dev) (dst cls : Nat) : Option Nat := (d.fab.routes.find? (fun r => r.node == dst && r.cls == cls && d.portUp r.port)).map (fun r => r.port)

/-- A frame leaves by its port, and by every UP port but one. -/
def Dev.sendFrame (f : Frame) (d : Dev) : Dev := d.emit (.frame f.port f.bytes)
def Dev.floodOut (skip : Option Nat) (f : Frame) (d : Dev) : Dev :=
  (List.range 8).foldl (fun a n => if a.portUp n && skip != some n then a.sendFrame { f with port := n } else a) d

/-- The next flood sequence of this device (R415, R419). -/
def Dev.nextFlood (d : Dev) : Nat × Dev :=
  let n := (d.fab.floodSeq + 1) % 2 ^ 32
  (n, { d with fab := { d.fab with floodSeq := n } })

/-! ### Sessions (R413) -/

def lblGlioc : Bytes := asciiBytes "DYZHATIK GLIOC 1"
def lblReplicate : Bytes := asciiBytes "DYZHATIK REPLICATE 1"

/-- A session with a peer stands. -/
def Dev.hasSession (d : Dev) (peer : Nat) : Bool := d.fab.sessions.any (fun s => s.peer == peer)
def Dev.session? (d : Dev) (peer : Nat) : Option Session := d.fab.sessions.find? (fun s => s.peer == peer)

/-- The two unit IDs, the lower first. -/
def Session.units (s : Session) : Bytes := let u := Config.unitId.toNat; toLe 16 (min u s.unit) ++ toLe 16 (max u s.unit)
/-- Expansion of the extracted secret (R226): the session's key, and the transport key of replication (R421). -/
def Session.key (s : Session) : Bytes := kdf 2 48 s.ext lblGlioc s.units 32
def Session.transport (s : Session) : Bytes := kdf 2 48 s.ext lblReplicate s.units 32
/-- The nonce of this device's frame: the direction bit, 31 zero bits, the frame counter. -/
def Session.nonce (s : Session) : Bytes := toBe 4 (if s.unit < Config.unitId.toNat then 2 ^ 31 else 0) ++ toBe 8 s.frames
/-- A frame's payload under the session, its header the additional data. -/
def Session.seal (s : Session) (f : Frame) : Frame :=
  let e := gcmSeal s.key s.nonce ({ f with payload := zeros (f.payload.length + 16) }).head f.payload
  { f with payload := e.1 ++ e.2 }

/-- A payload in pieces that a sealed frame holds. -/
def pieces (b : Bytes) : List Bytes := (List.range (max 1 (ceilDiv b.length 2032))).map (fun i => bsub b (2032 * i) (min 2032 (b.length - 2032 * i)))

/-- One frame of this device's own: by a given port, by a learned route, else as a flood. A sealed one takes the session's
counter, which then steps. -/
def Dev.originate (port : Option Nat) (dst cls : Nat) (s : Option Session) (payload : Bytes) (d : Dev) : Dev :=
  let seq := s.elim 0 (fun x => x.frames % 2 ^ 32)
  let f : Frame := { port := 0, dst := dst, src := d.nodeId, cls := cls, hops := 0, seq := seq, boot := d.pwr.boots, payload := payload }
  let shut := fun (g : Frame) => s.elim g (fun x => x.seal g)
  let d1 := match port.orElse (fun _ => d.learned dst cls) with
    | some p => d.sendFrame { shut f with port := p }
    | none => let (n, e) := d.nextFlood; e.floodOut none (shut { f with seq := n, flood := true })
  match s with
  | none => d1
  | some x => { d1 with fab := { d1.fab with sessions := updWhere (fun y => y.peer == x.peer) (fun y => { y with frames := y.frames + 1 }) d1.fab.sessions } }

/-- A message of a sealed class inside its session, piece by piece. -/
def Dev.sendSealed (port : Option Nat) (node cls : Nat) (msg : Bytes) (d : Dev) : Dev :=
  (pieces msg).foldl (fun (a : Dev) p => (a.session? node).elim a (fun s => a.originate port node cls (some s) p)) d

/-- The port that a message to another device is bound to: a pair link for HALYARD and MIRROR (R412). -/
def Dev.sendPort (cls : Nat) (d : Dev) : Option Nat := if cls = 1 ∨ cls = 2 then d.pairPorts.find? d.portUp else none

/-- A message to another device, its kind first (R412). A sealed one without a session waits until one is set up, but for
HALYARD, whose moment passes; with a node conflict only discovery is sent (R414). -/
def Dev.sendPeer (node cls kind : Nat) (payload : Bytes) (d : Dev) : Dev :=
  let msg := toLe 1 kind ++ payload
  if !d.fabOn || d.fab.conflict then d
  else if cls = 0 then d.originate none node 0 none msg
  else if d.hasSession node && (decide (2 < cls) || d.pairLinkUp) then d.sendSealed (d.sendPort cls) node cls msg
  else if cls = 1 then d
  else { d with fab := { d.fab with held := d.fab.held ++ [{ node := node, cls := cls, msg := msg }] } }

/-- What waited for a session leaves in order. -/
def Dev.sendHeld (node : Nat) (d : Dev) : Dev :=
  let mine := d.fab.held.filter (fun h => h.node == node)
  mine.foldl (fun (a : Dev) h => a.sendSealed (a.sendPort h.cls) node h.cls h.msg) { d with fab := { d.fab with held := d.fab.held.filter (fun h => h.node != node) } }

/-- A number in a message. -/
def msgNum (n : Nat) : Bytes := toLe 8 n

/-! ### AES key wrap (SP 800-38F; R421) -/

/-- One step of a wrap, and of its inverse: the register, the block, the step's number. -/
def kwStep (key : Bytes) (t : Nat) (a r : Bytes) : Bytes × Bytes := let b := enc 0x13 key (a ++ r); (bxor (b.take 8) (toBe 8 t), b.drop 8)
def kwBack (key : Bytes) (t : Nat) (a r : Bytes) : Bytes × Bytes := let b := dec 0x13 key (bxor a (toBe 8 t) ++ r); (b.take 8, b.drop 8)
def kwInit : Bytes := List.replicate 8 0xA6
def kwWrap (key pt : Bytes) : Bytes :=
  let n := pt.length / 8
  let fin := (List.range (6 * n)).foldl (fun (s : Bytes × List Bytes) j => let w := kwStep key (j + 1) s.1 (s.2.getD (j % n) []); (w.1, s.2.set (j % n) w.2)) (kwInit, blocks 8 pt)
  fin.1 ++ fin.2.flatten
/-- None where the integrity value is wrong. -/
def kwUnwrap (key ct : Bytes) : Option Bytes :=
  let n := ct.length / 8 - 1
  let fin := (List.range (6 * n)).foldr (fun j (s : Bytes × List Bytes) => let w := kwBack key (j + 1) s.1 (s.2.getD (j % n) []); (w.1, s.2.set (j % n) w.2)) (ct.take 8, blocks 8 (ct.drop 8))
  if ct.length % 8 = 0 ∧ 16 < ct.length ∧ fin.1 = kwInit then some fin.2.flatten else none

end Sys2Proof.Machine
end

