-- ==== Sys2Proof/Machine/Finish.lean ====
section
/-! DEFINITION. What happens to an accepted item outside the groves: the two-hash tables (R102, R150), holds and
scheduling keys (R141 to R152), the way of a record to OWED (R98, R152), posting (R55 to R58, R76) and the head
write-back (R64). -/

namespace Sys2Proof.Machine

/-! ### The two-hash table engine (R102) -/

/-- Keys in a bucket. -/
def Occ.bucket (o : Occ) (b : Nat) : Occ := o.filter (fun e => e.2 == b)
/-- A bucket holds four. -/
def Occ.full (o : Occ) (b : Nat) : Bool := decide (4 ≤ (o.bucket b).length)
def Occ.dropKey (o : Occ) (k : Nat × Nat) : Occ := o.filter (fun e => e.1 != k)
def Occ.has (o : Occ) (k : Nat × Nat) : Bool := o.any (fun e => e.1 == k)

/-- The two candidate buckets of a key. -/
def bktA (hk nb : Nat) (k : Nat × Nat) : Nat := Config.bucketA hk k.1 k.2 % nb
def bktB (hk nb : Nat) (k : Nat × Nat) : Nat := Config.bucketB hk k.1 k.2 % nb

/-- What an insertion came to: the table, if a slot was found; the moves made; the buckets visited. -/
structure OccIns where
  occ     : Option Occ
  moves   : Nat
  visited : List Nat

/-- Relocation: the key in hand displaces an occupant of a full bucket into that one's other bucket. -/
def occChain (hk nb : Nat) (ins : Nat × Nat) : Nat → (Nat × Nat) → Nat → Occ → Nat → List Nat → OccIns
  | 0, _, _, _, m, vis => ⟨none, m, vis⟩
  | n + 1, k, b, o, m, vis =>
    let v := ((o.bucket b).getD (Config.victim hk ins.1 ins.2 m % 4) (k, b)).1
    let o1 := (k, b) :: o.dropKey v
    let b2 := if bktA hk nb v = b then bktB hk nb v else bktA hk nb v
    if Occ.full o1 b2 then occChain hk nb ins n v b2 o1 (m + 1) (b2 :: vis) else ⟨some ((v, b2) :: o1), m + 1, b2 :: vis⟩

/-- An insertion: a free slot in either bucket, else up to 64 moves. -/
def occInsert (hk nb : Nat) (k : Nat × Nat) (o : Occ) : OccIns :=
  let a := bktA hk nb k
  let b := bktB hk nb k
  if !o.full a then ⟨some ((k, a) :: o), 0, [a, b]⟩
  else if !o.full b then ⟨some ((k, b) :: o), 0, [a, b]⟩
  else occChain hk nb k 64 k a o 0 [a, b]

/-- Moves of the insertions of the last second (R134, R181). -/
def noteMoves (now m : Nat) (l : List (Nat × Nat)) : List (Nat × Nat) :=
  let l1 := l.filter (fun x => decide (now < x.1 + nsS))
  if m = 0 then l1 else (now, m) :: l1

/-! ### Deduplication table (R101 to R105) -/

def DdtEntry.is (slice : Nat) (rid : DWord) (e : DdtEntry) : Bool := e.slice == slice && e.reqId == rid
/-- A lookup: an entry whose retention has passed is treated as absent (R103). -/
def Dev.ddtFind (c : Ctx) (d : Dev) (slice : Nat) (rid : DWord) : Option DdtEntry :=
  d.ddt.entries.find? (fun e => e.is slice rid && !d.ddtAbsent c.now e)
def Dev.updDdt (slice : Nat) (rid : DWord) (f : DdtEntry → DdtEntry) (d : Dev) : Dev :=
  { d with ddt := { d.ddt with entries := updWhere (DdtEntry.is slice rid) f d.ddt.entries } }

/-- The entries of the visited buckets whose retention has passed, oldest completion first (R102). -/
def Dev.ddtEvictable (c : Ctx) (d : Dev) (visited : List Nat) : Option DdtEntry :=
  minBy (fun e => e.doneAt) (d.ddt.entries.filter (fun e =>
    d.ddtAbsent c.now e && d.ddt.occ.any (fun o => o.1 == (e.slice, e.reqId.toNat) && visited.contains o.2)))

/-- An insertion into the table: in place of a stored entry of the same key that is treated as absent, in a free slot,
or after the eviction of an entry whose retention has passed; none where the insertion fails (R102 to R104). -/
def Dev.ddtInsert (c : Ctx) (e : DdtEntry) (d : Dev) : Option Dev :=
  let t := d.ddt
  let k := (e.slice, e.reqId.toNat)
  let nb := 2 ^ d.ddtLog2
  if t.entries.any (DdtEntry.is e.slice e.reqId) then some (d.updDdt e.slice e.reqId (fun _ => e))
  else
    let r := occInsert t.hashKey nb k t.occ
    let mv := noteMoves c.now r.moves t.moves
    match r.occ with
    | some o => some { d with ddt := { t with entries := t.entries ++ [e], occ := o, moves := mv } }
    | none =>
      match d.ddtEvictable c r.visited with
      | none => none
      | some v =>
        match (occInsert t.hashKey nb k (t.occ.dropKey (v.slice, v.reqId.toNat))).occ with
        | none => none
        | some o =>
          some (({ d with ddt := { t with entries := t.entries.erase v ++ [e], occ := o, moves := mv } }).bump Off.ddtEvict)

/-! ### Flow table (R150) -/

/-- A flow of an item of this device: slice and flow ID; none where the ID is 0 or the item is another device's. -/
def Item.flow? (i : Item) : Option (Nat × Nat) :=
  let f := Desc.flow i.desc
  if f = 0 ∨ i.spillFrom.isSome then none else some (i.slice, f)

/-- A flow joins the table, 65,536 entries in buckets of four; none where no slot is found. -/
def Dev.flowInsert (c : Ctx) (f : Nat × Nat) (d : Dev) : Option Dev :=
  let t := d.dsp.flows
  if t.occ.has f then some d
  else
    let r := occInsert t.hashKey 16384 f t.occ
    match r.occ with
    | some o => some { d with dsp := { d.dsp with flows := { t with occ := o, moves := noteMoves c.now r.moves t.moves } } }
    | none => none

/-- An item that is not complete (R139). -/
def Item.incomplete (i : Item) : Bool := i.ds != .finished

/-- A flow with no item that is not complete leaves the table. -/
def Dev.flowPrune (f : Option (Nat × Nat)) (d : Dev) : Dev :=
  match f with
  | none => d
  | some k =>
    if d.dsp.items.any (fun j => j.flow? == some k && j.incomplete) then d
    else { d with dsp := { d.dsp with flows := { d.dsp.flows with occ := d.dsp.flows.occ.dropKey k } } }

/-! ### Journal head and body as they are laid out (R96, R97, R100), and the mirror (R127, R128) -/

/-- The outcome word of a completed record (R97). -/
def Rec.outcome (r : Rec) : Word := packW [(0, r.sub % 256), (8, b2n r.backlog), (9, b2n r.late), (13, r.resLen % 2 ^ 19)]

/-- Whether a state has the completed form (R98). -/
def RecState.completed : RecState → Bool
  | .owed | .complete | .replay => true
  | _ => false

/-- The 32 bytes of a head record (R97). The remaining time is written into the anchor alone. -/
def Rec.bytes (r : Rec) : Bytes :=
  toLe 8 r.seq ++ toLe 8 r.reqId.toNat ++ toLe 2 (r.slice % 4096 + r.ring % 16 * 4096) ++ toLe 1 r.st.code ++
    (if r.st.completed then toLe 1 r.status ++ toLe 4 r.outcome.toNat ++ toLe 8 r.cst.toNat
     else toLe 1 (b2n r.mirrored + 2 * b2n r.spilled + 4 * b2n r.recovered) ++ toLe 4 r.pos.toNat ++ toLe 2 r.opcode ++ zeros 6)

/-- Bytes 32 to 511 of an item's body entry (R100). -/
def Item.bodyTail (i : Item) : Bytes :=
  let short := if Desc.inLen i.desc ≤ 256 then i.input else []
  (padTo 128 i.desc).take 128 ++ (padTo 256 short).take 256 ++ toLe 8 (i.acceptSt % 2 ^ 61 + i.qual * 2 ^ 61) ++ toLe 8 i.deadline
    ++ toLe 2 i.restarts ++ toLe 2 i.attached ++ toLe 4 short.length ++ zeros 72

/-- Body entry of a slot (R96, R100): the write-through copy of its head record, and the rest as the item has it, or had it
when it was let go. -/
def Dev.bodyEntry (d : Dev) (slot : Nat) : Bytes :=
  ((d.rec? slot).elim (zeros 32) Rec.bytes) ++
    (match d.dsp.items.find? (fun i => i.slot == slot && i.spillFrom.isNone) with
     | some i => i.bodyTail
     | none => ((d.jnl.bodies.find? (fun b => b.1 == slot)).map (fun b => b.2)).getD (zeros 480))

/-- An item is let go; its body entry keeps what it held (R99, R100). -/
def Dev.retire (slot : Nat) (d : Dev) : Dev :=
  match d.dsp.items.find? (fun i => i.slot == slot && i.spillFrom.isNone) with
  | none => d
  | some i => { d with
      jnl := { d.jnl with bodies := (slot, i.bodyTail) :: d.jnl.bodies.filter (fun b => b.1 != slot) }
      dsp := { d.dsp with items := d.dsp.items.filter (fun j => j.slot != slot) } }

/-- A table entry of 32 bytes (R101). -/
def DdtEntry.bytes (e : DdtEntry) : Bytes :=
  toLe 8 e.reqId.toNat ++ toLe 2 (e.slice % 4096 + e.st.code * 4096) ++ toLe 1 (if e.st = .done then e.status else 0) ++ [0]
    ++ toLe 4 (if e.st = .done then e.outcome.toNat else 0) ++ toLe 8 e.seq ++ toLe 8 e.time.toNat

/-- The active sends a record's present state, and the table entry of its request, to the standby, without waiting (R128). -/
def Dev.mirrorRec (slot : Nat) (d : Dev) : Dev :=
  match d.fab.pair.role, d.rec? slot with
  | .active, some r =>
    let e := d.ddt.entries.find? (fun e => e.slice == r.slice && e.reqId == r.reqId)
    d.sendPeer d.partner 2 2 (msgNum slot ++ r.bytes ++ e.elim [] DdtEntry.bytes)
  | _, _ => d

/-! ### Holds (R143 to R151) -/

/-- An earlier item of the flow is not complete (R151). -/
def Dev.flowHeld (d : Dev) (i : Item) : Bool :=
  match i.flow? with
  | none => false
  | some k => d.dsp.items.any (fun j => j.flow? == some k && decide (j.seq < i.seq) && j.incomplete)

/-- Preceding members of the chain instance that are complete (R148); a member whose record is gone is complete. -/
def Dev.chainDone (d : Dev) (i : Item) : Nat :=
  (i.preds.filter (fun q => !d.dsp.items.any (fun j => j.seq == q && j.spillFrom.isNone && j.incomplete))).length
def Dev.chainHeld (d : Dev) (i : Item) : Bool := decide (d.chainDone i < i.need)

/-- A control item that has not been decided (R77). -/
def Item.waitingControl (i : Item) : Bool := i.ds == .control && i.mark.isNone && !i.represented

/-- A RING_BARRIER or RELEASE_AT ahead of the item in its ring is unresolved (R79, R123). -/
def Dev.ringHeld (d : Dev) (i : Item) : Bool :=
  !i.represented && i.spillFrom.isNone && d.dsp.items.any (fun j =>
    j.slice == i.slice && j.ring == i.ring && decide (j.seq < i.seq) && j.waitingControl
      && ((Desc.op j.desc == 1) || (Desc.op j.desc == 3)))

/-- A SLICE_BARRIER ahead of the item in its ring is unresolved, or its entries are not all written (R80, R82). -/
def Dev.sliceHeld (d : Dev) (i : Item) : Bool :=
  !i.represented && i.spillFrom.isNone && d.hif.barriers.any (fun b =>
    b.slice == i.slice && b.joined.any (fun j => j.1 == i.ring && decide (j.2 < i.seq)))

/-- Some hold applies (R143); an acceptance that waits for the standby is not yet one (R92). -/
def Dev.holds (d : Dev) (i : Item) : Bool :=
  d.chainHeld i || d.flowHeld i || d.ringHeld i || d.sliceHeld i || d.jnl.mirrorWait.any (fun w => w.slot == i.slot && !w.att)

/-! ### Scheduling key (R141, R142) -/

/-- `j` is held back by `i` through a flow or a chain. -/
def Dev.holdsBack (d : Dev) (i j : Item) : Bool :=
  j.incomplete && i.incomplete && decide (i.seq < j.seq)
    && ((i.flow?.isSome && i.flow? == j.flow?) || (i.spillFrom.isNone && j.spillFrom.isNone && j.preds.contains i.seq && d.chainHeld j))

/-- The earliest of the item's own key and the keys of every item that it holds back. -/
def Dev.effKeyN (d : Dev) : Nat → Item → Nat
  | 0, i => i.key
  | n + 1, i => (d.dsp.items.filter (fun j => d.holdsBack i j)).foldl (fun a j => min a (Dev.effKeyN d n j)) i.key
def Dev.effKey (d : Dev) (i : Item) : Nat := d.effKeyN d.dsp.items.length i

/-- The earlier of two items: by key, then by journal sequence (R141). -/
def Dev.earlier (d : Dev) (a b : Item) : Bool :=
  decide (d.effKey a < d.effKey b) || (d.effKey a == d.effKey b && decide (a.seq ≤ b.seq))
/-- The first of a list in scheduling-key order. -/
def Dev.firstByKey (d : Dev) : List Item → Option Item
  | [] => none
  | a :: t => match Dev.firstByKey d t with
    | none => some a
    | some b => if d.earlier a b then some a else some b
/-- A list in scheduling-key order. -/
def Dev.insertByKey (d : Dev) (a : Item) : List Item → List Item
  | [] => [a]
  | b :: t => if d.earlier a b then a :: b :: t else b :: Dev.insertByKey d a t
def Dev.sortByKey (d : Dev) (l : List Item) : List Item := l.foldr (d.insertByKey) []

/-! ### To OWED (R98, R138, R139, R152) -/

/-- Busy ST of a twin, whose lanes hold its item alike (R180). -/
def Dev.addBusy (u ns : Nat) (d : Dev) : Dev :=
  { d with dsp := { d.dsp with busy := upsert (fun b => b.1 == u) (u, 0) (fun b => (u, b.2 + ns)) d.dsp.busy } }

/-- A twin or engine lets go of an item: the lanes overwrite what it used and erase its context, and an engine in its phase
stops (R235, R261, R290). -/
def Dev.unbind (c : Ctx) (slot : Nat) (d : Dev) : Dev :=
  let masks := (d.item? slot).elim [] (fun (i : Item) => i.masks)
  let d1 := match d.lan.twins.find? (fun t => t.running == some slot) with
    | none => d
    | some t => d.addBusy t.num (c.now - (d.item? slot).elim c.now (fun i => i.runSt))
  { d1 with
    lan := { d1.lan with twins := d1.lan.twins.map (fun (t : Twin) => t.letGo slot masks) }
    pke := { d1.pke with engines := d1.pke.engines.map (fun (e : Engine) => if e.item = some slot then e.stop else e) } }

/-- The status counters of the blocks (R172, R283, R302, R318). -/
def Dev.countStatus (st sub : Nat) (d : Dev) : Dev :=
  if st = 0x40 then (d.bump Off.lanIntfault).evtBit Off.lanEvt 6
  else if st = 0x01 ∧ (sub = 2 ∨ sub = 3) then (d.bump Off.dspExpired).evtBit Off.dspEvt 5
  else if st = 0x03 then d.bump Off.pkeAborts
  else d

/-- The key engine forgets an item: its pins, its loads and its reservation (R341, R351). -/
def Key.letGo (slot : Nat) (k : Key) : Key :=
  { k with
    cache := k.cache.map (fun e => { e with pins := e.pins.filter (· != slot) })
    loads := k.loads.filter (fun l => l.item != slot)
    resvs := k.resvs.filter (fun v => v.item != slot) }

/-- What a spilled item came to goes back to the origin, and the item is gone (R425): whether it ran, status,
sub-status, result length; then its output. -/
def Dev.spillAnswer (i : Item) (peer oslot st sub resLen : Nat) (out : Bytes) (d : Dev) : Dev :=
  let d1 := d.sendPeer peer 4 2 ([oslot, 1, st, sub, resLen].flatMap msgNum ++ out)
  { d1 with
    dsp := { d1.dsp with items := d1.dsp.items.filter (fun j => j.slot != i.slot) }
    key := d1.key.letGo i.slot }

/-- An owed entry whose ring is ABSENT is discarded: the record is COMPLETE, its outcome stays in the table (R394). -/
def Dev.discardEntry (slot : Nat) (d : Dev) : Dev :=
  let d1 := (d.updRec slot (fun x => { x with st := .complete })).retire slot
  ({ d1 with
    jnl := { d1.jnl with owed := d1.jnl.owed.filter (fun o => o.slot != slot), completed := d1.jnl.completed ++ [slot] }
    dsp := { d1.dsp with epochPosted := d1.dsp.epochPosted + 1 } }).mirrorRec slot

/-- An item whose outcome is decided: nothing of it runs or waits any more (R138). -/
def Item.finish (i : Item) : Item :=
  { i with ds := .finished, twin := none, ctxSlot := none, mark := none, preempt := false, notBefore := none, spill := none, masks := [], engPub := [], engSec := [] }

/-- A record goes to OWED with an outcome, the marks of the moment and its time stamp (R56, R57, R98); so does the table
entry of its request (R101), and its ring owes the entry. -/
def Dev.owe (c : Ctx) (slot : Nat) (r : Rec) (st sub resLen : Nat) (d : Dev) : Dev :=
  let it := d.item? slot
  let stamp := d.stamp c
  let backlog := decide (1 ≤ d.dsp.reef)
  let late := decide ((it.elim r.deadline (fun i => i.deadline)) < c.now)
  let outcome : Word := packW [(0, sub % 256), (8, b2n backlog), (9, b2n late), (13, resLen % 2 ^ 19)]
  let d1 := (d.unbind c slot).updRec slot (fun x =>
    { x with st := .owed, status := st, sub := sub, backlog := backlog, late := late, resLen := resLen, cst := stamp })
  let d2 := d1.updDdt r.slice r.reqId (fun e =>
    if e.seq = r.seq ∧ e.st ≠ .done then { e with st := .done, status := st, outcome := outcome, time := stamp, doneAt := c.now } else e)
  let long := it.elim false (fun i =>
    i.started && decide ((if Desc.usesEngine i.desc then i.engineSt else i.startSt) + 50 * nsUs < c.now))
  let ow : Owed := { slot := slot, slice := r.slice, ring := r.ring, irqNow := it.elim false (fun i => Desc.irqNow i.desc), long := long }
  let d3 := { d2 with jnl := { d2.jnl with owed := d2.jnl.owed ++ [ow] }, dsp := { d2.dsp with epochOwed := d2.dsp.epochOwed + 1 } }
  let d4 := d3.updItem slot Item.finish
  let d5 := { d4 with key := d4.key.letGo slot }
  ((d5.flowPrune (it.bind Item.flow?)).countStatus st sub).mirrorRec slot

/-- The record of an item that does not go through OWED in order: to OWED, and everything that follows from it but the
items marked behind it. -/
def Dev.oweOne (c : Ctx) (slot st sub resLen : Nat) (d : Dev) : Dev :=
  let it := d.item? slot
  match it.bind (fun i => i.spillFrom.map (fun p => (i, p))) with
  | some (i, p) => (d.unbind c slot).spillAnswer i p.1 p.2 st sub resLen []
  | none =>
    match d.rec? slot with
    | none => d
    | some r =>
      let d1 := d.owe c slot r st sub resLen
      if (d1.ring r.slice r.ring).state == RingState.absent then d1.discardEntry slot else d1

/-- Items of a flow that were marked while an earlier one was not complete follow it, in sequence order (R152). -/
def Dev.cascade (c : Ctx) : Nat → Dev → Dev
  | 0, d => d
  | n + 1, d =>
    match minBy (fun i => i.seq) (d.dsp.items.filter (fun i =>
      i.mark.isSome && i.incomplete && !d.flowHeld i && !d.jnl.mirrorWait.any (fun w => w.slot == i.slot && !w.att))) with
    | none => d
    | some i => match i.mark with
      | none => d
      | some m => Dev.cascade c n (d.oweOne c i.slot m.1 m.2 0)

/-- The record of an item reaches OWED. -/
def Dev.toOwed (c : Ctx) (slot st sub resLen : Nat) (d : Dev) : Dev :=
  (d.oweOne c slot st sub resLen).cascade c d.dsp.items.length

/-- An item finishes without execution: at once, or in its place in flow order (R152). -/
def Dev.finishNow (c : Ctx) (slot st sub : Nat) (d : Dev) : Dev :=
  match d.item? slot with
  | none => d.toOwed c slot st sub 0
  | some i =>
    if i.ds = .finished then d
    else if d.flowHeld i then d.updItem slot (fun x => { x with mark := if x.mark.isSome then x.mark else some (st, sub) })
    else d.toOwed c slot st sub 0

/-! ### Ring positions, the head write-back and ring faults (R57, R64, R67) -/

/-- Ring state codes that fetch, accept or post (R66). -/
def Ring.posts (r : Ring) : Bool := r.state == .active || r.state == .held

/-- Completion entries owed on a ring for accepted items (R63, R67). -/
def Dev.entriesOwed (d : Dev) (s n : Nat) : Nat :=
  (d.jnl.recs.filter (fun r => r.st.outstanding && r.slice == s && r.ring == n)).length

/-- The head write-back word (R64). -/
def Dev.hwbWord (d : Dev) (r : Ring) : DWord :=
  BitVec.ofNat 64 ((d.accShown r).toNat + (r.gen % 65536) * 2 ^ 32 + b2n (r.state == .fault) * 2 ^ 48)

/-- The device writes the word. -/
def Dev.writeHwb (s n : Nat) (d : Dev) : Dev :=
  let r := d.ring s n
  (d.emit (.hwb (d.tagOf s) s n (d.hwbWord r))).updRing s n (fun x => { x with hwb := some (d.accShown r), hwbSince := none })

/-- The written word covers the item accepted at a position (R64). -/
def Ring.covers (r : Ring) (pos : Word) : Bool :=
  match r.hwb with
  | none => false
  | some v => decide (1 ≤ (v - pos).toNat ∧ (v - pos).toNat < 2 ^ 31)

/-- The head write-back that covers an item has been written, or its ring writes none: the item may be placed (R18, R64,
R66). An item of a peer was published there. -/
def Dev.published (d : Dev) (i : Item) : Bool :=
  let r := d.ring i.slice i.pubRing
  i.spillFrom.isSome || r.covers i.pubPos || !r.posts

/-- The latest HIF event: its ring and bit (R90, R91). -/
def Dev.hifEvent (s n b : Nat) (d : Dev) : Dev :=
  let w := packW [(0, s % 4096), (16, n % 16), (24, 2 ^ b % 32)]
  ({ d with hif := { d.hif with evtRing := w } }).evtBit Off.hifEvt b

/-- A ring in ACTIVE or HELD enters FAULT (R67, R90, R504): fetching and posting stop, descriptors that were not accepted
are fetched again later (R69). The head write-back word shows FAULT (R64). -/
def Dev.ringFault (c : Ctx) (s n cause addr : Nat) (d : Dev) : Dev :=
  let r := d.ring s n
  if r.posts then
    let d1 := d.updRing s n (fun x => { x with state := .fault, cause := cause, faultAddr := addr, fetched := [], hwbSince := if cause = 5 then none else some c.now })
    (d1.hifEvent s n 0).record c Trig.ringFault (toLe 2 s ++ toLe 1 n ++ toLe 1 cause)
  else d

/-! ### Posting (R55 to R58, R76) -/

/-- The device may write host memory for its rings: no supply warning, a role that acts, and start-up done (R114, R429). -/
def Dev.hostSide (d : Dev) : Bool := d.past 8 && d.endpointUp && !d.pwr.halted && !d.warning && d.roleActs

/-- Slot address of the completion entry at a posted count. -/
def Ring.cqAddr (r : Ring) : Nat := r.cqBase + 32 * (r.posted.toNat % 2 ^ r.cqLog2)

/-- The completion entry of a record on a ring (R55 to R57, R110). -/
def cqEntry (r : Ring) (x : Rec) : Bytes :=
  let phase := b2n (r.posted.toNat / 2 ^ r.cqLog2 % 2 == 0)
  let flags := phase + 2 * b2n (x.st == .replay) + 4 * b2n x.backlog + 8 * b2n x.late
  toLe 8 x.reqId.toNat ++ toLe 8 x.seq ++ toLe 1 x.status ++ toLe 1 x.sub ++ toLe 2 flags ++ toLe 4 x.resLen ++ toLe 8 x.cst.toNat

/-- An entry is counted towards the ring's vector, which is raised where a condition of R76 holds. -/
def Dev.irqEntry (c : Ctx) (s n : Nat) (irqNow long : Bool) (d : Dev) : Dev :=
  let r := d.ring s n
  let cnt := r.irqCount + 1
  if max 1 (fld r.irq 23 16) ≤ cnt ∨ irqNow ∨ (long ∧ bit r.mod 16 = false) then
    (d.raiseVec (fld r.irq 10 0)).updRing s n (fun x => { x with irqCount := 0 })
  else d.updRing s n (fun x => { x with irqCount := cnt, irqOldest := if x.irqCount = 0 then c.now else x.irqOldest })

/-- An earlier item of the flow has an entry that is not written (R93). -/
def Dev.flowEntryWaits (d : Dev) (slot : Nat) : Bool :=
  match d.item? slot with
  | none => false
  | some i => match i.flow? with
    | none => false
    | some k => d.dsp.items.any (fun j => j.flow? == some k && decide (j.seq < i.seq))

/-- The entry that a ring posts next, if it may be written now: the ring's oldest owed entry, covered by the head
write-back, with room in the completion ring, no earlier entry of its flow outstanding, and no readback of an engine that its item left
early, and no acknowledgement of its sapling to come (R63, R64, R93, R314, R437). -/
def Dev.nextOwed (d : Dev) (r : Ring) : Option (Owed × Rec) :=
  match d.jnl.owed.find? (fun o => o.slice == r.slice && o.ring == r.num) with
  | none => none
  | some o => match d.rec? o.slot with
    | none => none
    | some x =>
      if r.covers x.pos && !d.flowEntryWaits o.slot && !d.pke.engines.any (fun (e : Engine) => e.readback && e.after == some o.slot) && !d.changing (fun w => w == .sapling o.slot)
        && decide ((r.posted - r.consumed).toNat < 2 ^ r.cqLog2) then some (o, x) else none

/-- Slice barriers whose entries are all written end (R80). -/
def Dev.pruneBarriers (d : Dev) : Dev :=
  let gone := fun (b : Barrier) => b.resolved && b.joined.all (fun j => !d.dsp.items.any (fun i => i.seq == j.2 && i.spillFrom.isNone))
  { d with hif := { d.hif with barriers := d.hif.barriers.filter (fun b => !gone b) } }

/-- One entry is written: the posted count moves, the record is COMPLETE, its slot joins the free list (R58, R98, R99),
and the interrupt follows. -/
def Dev.postEntry (c : Ctx) (s n : Nat) (o : Owed) (x : Rec) (d : Dev) : Dev :=
  let r := d.ring s n
  let d1 := (d.emit (.cqe (d.tagOf s) s n r.posted (cqEntry r x))).updRing s n (fun y => { y with posted := y.posted + 1 })
  let d2 := (d1.updRec o.slot (fun y => { y with st := .complete })).retire o.slot
  let d3 := ({ d2 with
    jnl := { d2.jnl with owed := d2.jnl.owed.erase o, completed := d2.jnl.completed ++ [o.slot] }
    dsp := { d2.dsp with epochPosted := d2.dsp.epochPosted + 1 } }).mirrorRec o.slot
  let d4 := if x.late then d3.bump Off.dspLate else d3
  (d4.pruneBarriers).irqEntry c s n o.irqNow o.long

end Sys2Proof.Machine
end

