-- ==== Sys2Proof/Machine/Mirror.lean ====
section
/-! DEFINITION. What the active of a pair mirrors beside its journal (R437): slice bindings, rings with their settings, slot
records, domain records and quotas, and replication settings; and, in synchronous mirroring, what waits for the standby's
acknowledgement. How the messages are laid out is log entry 83. -/

namespace Sys2Proof.Machine

/-! ### What a message holds -/

/-- A ring's 64 bytes in a state image (R399); the mirror uses the same. -/
def Ring.image (r : Ring) : Bytes :=
  if r.state = .absent then zeros 64
  else padTo 64 (toLe 1 (128 + r.num) ++ toLe 1 r.state.code ++ toLe 2 r.gen ++ toLe 4 r.accepted.toNat ++ toLe 4 r.posted.toNat ++ toLe 4 r.consumed.toNat
    ++ toLe 4 r.tail.toNat ++ toLe 1 r.sqLog2 ++ toLe 1 r.cqLog2 ++ zeros 2 ++ toLe 8 r.sqBase ++ toLe 8 r.cqBase ++ toLe 8 r.hwbAddr
    ++ toLe 4 r.irq.toNat ++ toLe 4 r.mod.toNat ++ toLe 4 r.policy.toNat)

/-- The state of a slice that its entry holds (R647). -/
def Slice.anchorState (s : Slice) : SliceState :=
  match s.state with
  | .draining | .saving => s.prev
  | .prepared | .restoring => .unbound
  | x => x
def Slice.anchorEntry (s : Slice) : AnchorSlice :=
  { num := s.num, state := s.anchorState.code, pasid := s.pasid, noPasid := s.noPasid, domain := s.domain, rings := s.rings, weight := s.weight, expiry := s.expiry }
/-- A slice's 8-byte entry (R646). -/
def AnchorSlice.word (x : AnchorSlice) : DWord :=
  BitVec.ofNat 64 (x.pasid % 2 ^ 20 + b2n x.noPasid * 2 ^ 20 + x.expiry % 4 * 2 ^ 21 + x.state % 16 * 2 ^ 23 + x.domain % 1024 * 2 ^ 27 + x.weight % 256 * 2 ^ 37
    + x.rings % 65536 * 2 ^ 45)

/-- The seal key of a domain's slots (R322). -/
def slotSealKey (dmk : Bytes) (dom : Nat) : Bytes := kdf256 dmk lblSlot (toBe 2 dom) 32

/-- A half of a slot in its sealed record: its attributes, and its material under the SSK, whose layout is not given. -/
def Half.sealed (ssk : Bytes) (h : Half) : Bytes :=
  let a := h.attr
  [1, a.alg, a.part, a.usage, a.mode, a.exp, b2n a.cust, a.nb, a.na, a.gen, h.ext].flatMap msgNum ++ a.ksi.getD [] ++ a.curve.getD []
    ++ mkBytes h.mat.length (Config.slotSealByte ssk a.gen h.mat)
def sealedHalf (ssk : Bytes) : Option Half → Bytes
  | none => msgNum 0
  | some h => h.sealed ssk

/-! ### The messages -/

/-- A MIRROR message to the partner. -/
def Dev.mirrorSend (kind : Nat) (payload : Bytes) (d : Dev) : Dev := d.sendPeer d.partner 2 kind payload

def Dev.sendRing (s n : Nat) (d : Dev) : Dev := d.mirrorSend 3 (msgNum s ++ msgNum n ++ (d.ring s n).image)
def Dev.sendSlice (n : Nat) (d : Dev) : Dev := d.mirrorSend 4 (msgNum n ++ toLe 8 ((d.slice n).anchorEntry).word.toNat)
def Dev.sendSlot (dom num : Nat) (d : Dev) : Dev :=
  let s := (d.key.slot? dom num).getD { dom := dom, num := num }
  let ssk := slotSealKey (d.key.domain dom).dmk dom
  d.mirrorSend 5 (msgNum dom ++ msgNum num ++ sealedHalf ssk s.act ++ sealedHalf ssk s.sap)
def Dev.sendDomain (n : Nat) (d : Dev) : Dev :=
  let m := d.key.domain n
  d.mirrorSend 6 ([n, m.state.code, m.gen, m.prevGen, b2n m.prevValid, m.newGen, m.slotQuota, m.extQuota].flatMap msgNum ++ m.dmk ++ m.prevDmk ++ m.newDmk)
def Dev.sendRepl (r : Repl) (d : Dev) : Dev := d.mirrorSend 7 ([r.domain, r.index, b2n r.en, r.peer].flatMap msgNum)

/-- Only the active mirrors. -/
def Dev.mirroring (f : Dev → Dev) (d : Dev) : Dev := if d.fab.pair.role == .active then f d else d

/-- What a SYNCING partner is copied (R438): domains and slots, slices and rings, the outstanding records with their body
entries, the table with its hash keys, and the replication settings. -/
def Dev.sendCopy (d : Dev) : Dev :=
  let d1 := d.key.domains.foldl (fun (a : Dev) m => a.sendDomain m.num) d
  let d2 := d1.key.slots.foldl (fun (a : Dev) s => a.sendSlot s.dom s.num) d1
  let d3 := d2.slices.foldl (fun (a : Dev) s => a.sendSlice s.num) d2
  let d4 := (d3.hif.rings.filter (fun (r : Ring) => r.state != .absent)).foldl (fun (a : Dev) r => a.sendRing r.slice r.num) d3
  let d5 := (d4.jnl.recs.filter (fun (r : Rec) => r.st.outstanding)).foldl (fun (a : Dev) r => a.mirrorSend 1 (msgNum r.slot ++ a.bodyEntry r.slot)) d4
  let d6 := (d5.ddt.entries.foldl (fun (a : Dev) e => a.mirrorSend 8 e.bytes) d5).mirrorSend 9 (msgNum d.ddt.hashKey)
  d6.fab.repls.foldl (fun (a : Dev) r => a.sendRepl r) d6

/-! ### Synchronous completion -/

/-- A change is complete: the event of its command, where it has one. -/
def Dev.changeDone (w : MirrorOf) (d : Dev) : Dev :=
  match w with
  | .ring s n => d.hifEvent s n 4
  | .slice _ => d.evtBit Off.hifSliceEvt 0
  | .slot promoted => if promoted then d.evtBit Off.keyEvt 0 else d
  | .domain | .sapling _ | .write => d

/-- A change completes at once, or in synchronous mirroring on the standby's acknowledgement. -/
def Dev.awaitAck (c : Ctx) (w : MirrorOf) (d : Dev) : Dev :=
  if d.syncMirror then { d with fab := { d.fab with pair := { d.fab.pair with changes := d.fab.pair.changes ++ [{ of := w, since := c.now }] } } }
  else d.changeDone w

/-- The oldest change that waits is complete: acknowledgements come in the order of the updates. -/
def Dev.changeAck (d : Dev) : Dev :=
  match d.fab.pair.changes with
  | [] => d
  | w :: t => ({ d with fab := { d.fab with pair := { d.fab.pair with changes := t } } }).changeDone w.of

/-- Every change that waits is complete. -/
def Dev.changesAll (d : Dev) : Dev :=
  d.fab.pair.changes.foldl (fun (a : Dev) w => a.changeDone w.of) { d with fab := { d.fab with pair := { d.fab.pair with changes := [] } } }

/-- A change of a ring, a slice, a slot, a domain or a replication is mirrored, and completes as R437 says. -/
def Dev.ringChanged (c : Ctx) (s n : Nat) (w : MirrorOf) (d : Dev) : Dev := (d.mirroring (Dev.sendRing s n)).awaitAck c w
def Dev.sliceChanged (c : Ctx) (n : Nat) (w : MirrorOf) (d : Dev) : Dev := (d.mirroring (Dev.sendSlice n)).awaitAck c w
def Dev.slotChanged (c : Ctx) (dom num : Nat) (w : MirrorOf) (d : Dev) : Dev := (d.mirroring (Dev.sendSlot dom num)).awaitAck c w
def Dev.domainChanged (c : Ctx) (n : Nat) (w : MirrorOf) (d : Dev) : Dev := (d.mirroring (Dev.sendDomain n)).awaitAck c w

end Sys2Proof.Machine
end

