-- ==== Sys2Proof/Machine/Accept.lean ====
section
/-! DEFINITION. Acceptance (R63, R65, R92 to R95, R99, R108 to R110, R123, R140 to R150): conditions, the three outcomes
of the lookup, control descriptors at acceptance (R77 to R81), stalls and their retries (R104, R150). -/

namespace Sys2Proof.Machine

/-- The credit account of a slice (R175). -/
def Dev.sliceCnt (d : Dev) (s : Nat) : SliceCnt := (d.dsp.counts.find? (fun k => k.num == s)).getD { num := s }
def Dev.updCnt (s : Nat) (f : SliceCnt → SliceCnt) (d : Dev) : Dev :=
  { d with dsp := { d.dsp with counts := upsert (fun k => k.num == s) { num := s } f d.dsp.counts } }

/-- A ring that R63 lets accept, credits apart: ACTIVE, of a slice that accepts, with room for the entry, no warning, no
LOCK, a role that acts, the tables ready, below the limit of outstanding records. -/
def Dev.ringOpen (d : Dev) (r : Ring) : Bool :=
  r.state == .active && d.hostSide && !d.locked && !d.tmp.resume && d.ddt.ready && !d.jnl.recovering && (d.slice r.slice).state == .bound
    && decide ((r.posted - r.consumed).toNat + d.entriesOwed r.slice r.num < 2 ^ r.cqLog2) && decide (d.outstanding < 32768)

/-- A ring has unaccepted descriptors (R175). -/
def Ring.unaccepted (r : Ring) : Bool := r.tail != r.accepted

/-- Slices that have unaccepted descriptors on a ring able to accept (R175). -/
def Dev.contends (d : Dev) (s : Nat) : Bool := d.hif.rings.any (fun r => r.slice == s && r.unaccepted && !r.flowStall && d.ringOpen r)

/-- Weight of a slice in force. -/
def Dev.weightOf (d : Dev) (s : Nat) : Nat := max 1 (d.slice s).effWeight

/-- The account of a slice that joins those that share: it starts at the least ratio of the others (R175). -/
def joinShare (d : Dev) (l : List SliceCnt) (k : SliceCnt) : SliceCnt :=
  if k.share then k
  else match (l.filter (fun x => x.share)).foldl (fun (a : Option SliceCnt) x => match a with
      | none => some x
      | some y => if x.got * d.weightOf y.num < y.got * d.weightOf x.num then some x else a) none with
    | none => { k with got := 0 }
    | some y => { k with got := ceilDiv (y.got * d.weightOf k.num) (d.weightOf y.num) }

/-- The accounts at this moment: a slice that no longer contends leaves them, one that begins to joins (R175). -/
def Dev.accounts (d : Dev) : List SliceCnt :=
  let who := ((d.hif.rings.map (fun r => r.slice)).eraseDups).filter d.contends
  let miss := who.filter (fun s => !d.dsp.counts.any (fun k => k.num == s))
  let all := (d.dsp.counts ++ miss.map (fun s => ({ num := s } : SliceCnt))).map (fun (k : SliceCnt) =>
    if who.contains k.num then k else { k with got := 0, share := false })
  all.map (fun k => if who.contains k.num then { (joinShare d all k) with share := true } else k)

/-- The slice that the next credit goes to: the smallest ratio of credits received to weight, ties to the lower number. -/
def nextShare (d : Dev) (l : List SliceCnt) : Option Nat :=
  (l.foldl (fun (a : Option SliceCnt) x => if !x.share then a else match a with
    | none => some x
    | some y =>
      let p := x.got * d.weightOf y.num
      let q := y.got * d.weightOf x.num
      if p < q ∨ (p = q ∧ x.num < y.num) then some x else a) none).map (fun x => x.num)

/-- A credit is left, the next one goes to the ring's slice, and it is the ring's turn within it: rings go round in
ring-number order (R175). -/
def Dev.creditOk (d : Dev) (r : Ring) : Bool :=
  if d.dsp.reef < 2 then true
  else
    let k := d.sliceCnt r.slice
    let dist := fun (n : Nat) => (n + 15 - k.lastRing) % 16
    decide (0 < d.dsp.credits) && nextShare d d.accounts == some r.slice && !d.hif.rings.any (fun x =>
      x.slice == r.slice && x.num != r.num && d.ringOpen x && !x.fetched.isEmpty && !x.flowStall && decide (dist x.num < dist r.num))

/-- The ring accepted one descriptor: its count moves, the head write-back is due (R64), a credit is used. -/
def Dev.advance (c : Ctx) (s n : Nat) (d : Dev) : Dev :=
  let d1 := d.updRing s n (fun r => { r with accepted := r.accepted + 1, fetched := r.fetched.drop 1, hwbSince := some c.now, flowStall := false, ddtStall := false })
  if d.dsp.reef < 2 then d1
  else
    let d2 := { d1 with dsp := { d1.dsp with credits := d1.dsp.credits - 1, counts := d.accounts } }
    d2.updCnt s (fun k => { k with got := k.got + 1, lastRing := n })

/-- The slot that a new record takes: the head of the free list (R99). -/
def Dev.takeSlot (d : Dev) : Option (Nat × Dev) :=
  if d.jnl.fresh < 32768 then some (d.jnl.fresh, { d with jnl := { d.jnl with fresh := d.jnl.fresh + 1 } })
  else match d.jnl.completed with
    | [] => none
    | k :: t => some (k, { d with jnl := { d.jnl with completed := t, recs := d.jnl.recs.filter (fun r => r.slot != k) } })

/-- A record is added; reaching the limit is an event (R94, R133). -/
def Dev.addRec (r : Rec) (d : Dev) : Dev :=
  let d1 := { d with jnl := { d.jnl with recs := d.jnl.recs ++ [r] } }
  if d.outstanding < 32768 ∧ 32768 ≤ d1.outstanding then d1.evtBit Off.jnlEvt 2 else d1

/-- The standby is sent the new body entry and the table insertion; in synchronous mirroring the acceptance waits for its
acknowledgement (R92, R127). -/
def Dev.mirrorOut (c : Ctx) (slot s n : Nat) (pos : Word) (att : Bool) (d : Dev) : Dev :=
  match d.fab.pair.role with
  | .active =>
    let e := (d.rec? slot).bind (fun r => d.ddt.entries.find? (fun e => e.slice == r.slice && e.reqId == r.reqId))
    let d1 := d.sendPeer d.partner 2 1 (msgNum slot ++ d.bodyEntry slot ++ e.elim [] DdtEntry.bytes)
    if d.syncMirror then
      { d1 with jnl := { d1.jnl with mirrorWait := d1.jnl.mirrorWait ++ [{ slot := slot, since := c.now, slice := s, ring := n, pos := pos, att := att }] } }
    else d1
  | _ => d

/-- The deadline and the scheduling key of an item (R140, R141). -/
def itemDeadline (r : Ring) (desc : Desc) (now : Nat) : Nat :=
  if desc.deadline = 0 then now + fld r.policy 19 0 * nsUs else if desc.deadlineRel then now + desc.deadline else desc.deadline
def schedKey (deadline now : Nat) : Nat := min (max deadline now) (now + 1048576 * nsUs)
/-- Release time of a RELEASE_AT (R79). -/
def releaseTime (desc : Desc) (now : Nat) : Option Nat :=
  if desc.op = 3 then some (if desc.p 80 % 2 = 1 then now + le desc 72 8 else le desc 72 8) else none

/-- What joining a chain instance gives: the members before it, the predecessors still to complete, the open instances
(R147, R148). -/
structure ChainJoin where
  preds : List Nat
  need  : Nat
  open_ : List ChainInst

def joinChain (r : Ring) (desc : Desc) (seq : Nat) : ChainJoin :=
  let g := desc.chain
  if g = 0 ∨ 32 ≤ desc.pred then ⟨[], 0, r.chains⟩
  else
    let others := r.chains.filter (fun x => x.gid != g)
    let inst := if desc.pred / 16 = 1 then none else r.chains.find? (fun x => x.gid == g)
    let base := inst.getD { gid := g, members := [] }
    let before := base.members.length + base.earlier
    let now := { base with members := base.members ++ [seq] }
    ⟨base.members, min (desc.pred % 16) before - base.earlier, if 16 ≤ before + 1 then others else others ++ [now]⟩

/-! ### What acceptance leads to at once -/

/-- Sub-status of LOCKED under latched sources: the most severe class, the lowest code among equals (R477). -/
def Tmp.lockSub (t : Tmp) : Nat :=
  let ls := (List.range 32).filter (fun i => t.latched.getLsbD i)
  let top := (ls.map (fun i => t.classes.getD i 0)).foldl max 0
  (ls.find? (fun i => t.classes.getD i 0 == top)).getD 0

/-- A SLICE_BARRIER joins or opens its instance, or fails (R80, R81). -/
def Dev.joinBarrier (c : Ctx) (i : Item) (d : Dev) : Dev :=
  let mask := le i.desc 72 2
  let id := Desc.barrier i.desc
  let defined := (List.range 16).all (fun k => mask / 2 ^ k % 2 == 0 || (d.ring i.slice k).state != .absent)
  let mine := d.hif.barriers.filter (fun b => b.slice == i.slice && !b.resolved)
  let me := (i.ring, i.seq)
  let isIt := fun (b : Barrier) => b.slice == i.slice && b.id == id && !b.resolved
  if mask / 2 ^ i.ring % 2 = 0 ∨ defined = false then d.finishNow c i.slot 0x11 6
  else match mine.find? (fun b => b.id == id) with
    | some b =>
      if b.mask ≠ mask then d.finishNow c i.slot 0x11 6
      else if b.joined.any (fun j => j.1 == i.ring) then d.finishNow c i.slot 0x11 8
      else { d with hif := { d.hif with barriers := updWhere isIt (fun x => { x with joined := x.joined ++ [me] }) d.hif.barriers } }
    | none =>
      if 64 ≤ mine.length then d.finishNow c i.slot 0x11 7
      else { d with hif := { d.hif with barriers := d.hif.barriers ++ [{ slice := i.slice, id := id, mask := mask, joined := [me] }] } }

/-- Sub-status of SQUASHED by command (R392), and that of a slice whose items are squashed. -/
def SliceCmd.sub : SliceCmd → Nat
  | .freeze => 1 | .reset => 2 | .remove => 3 | _ => 0
def Dev.squashing (d : Dev) (s : Nat) : Option Nat :=
  let x := d.slice s
  if x.state = .draining ∧ x.squash = true then x.cmd.map SliceCmd.sub else none

/-- An item has been accepted (R92): a failed one is completed in its place (R193), a control descriptor is resolved
(R77, R79, R80, R123), any other is PENDING, or HELD while a hold applies (R143). -/
def Dev.afterAccept (c : Ctx) (slot : Nat) (d : Dev) : Dev :=
  match d.item? slot with
  | none => d
  | some i =>
    let op := Desc.op i.desc
    if i.ds = .finished then d
    else if d.locked then d.finishNow c slot 0x31 d.tmp.lockSub
    else if i.mark.isSome then d.cascade c d.dsp.items.length
    else if i.ds = .control ∧ (op = 0 ∨ i.represented) then d.toOwed c slot 0 0 0
    else if (d.squashing i.slice).isSome then d.finishNow c slot 2 ((d.squashing i.slice).getD 0)
    else if i.ds = .control then
      if op = 2 then d.joinBarrier c i
      else if op = 3 ∧ i.relAt.any (fun t => decide (t ≤ c.now)) then d.toOwed c slot 0 0 0
      else d
    else if d.holds i then d.updItem slot (fun x => { x with ds := .held })
    else d.updItem slot (fun x => { x with ds := .pending })

/-! ### The three outcomes of the lookup (R108) -/

/-- An item record for a descriptor. -/
def newItem (now slot seq s n dom deadline : Nat) (f : Fetched) (j : ChainJoin) : Item :=
  let desc : Desc := f.desc
  { slot := slot, seq := seq, slice := s, ring := n, desc := f.desc, input := f.input, staged := decide (desc.inLen ≤ 256), acceptSt := now,
    deadline := deadline, absDl := desc.deadline != 0 && !desc.deadlineRel, key := schedKey deadline now, preds := j.preds, need := j.need,
    ds := if desc.isControl || f.fail.isSome then .control else .held, mark := f.fail, relAt := releaseTime desc now,
    relAbs := desc.op == 3 && desc.p 80 % 2 == 0, dom := dom, pastAt := decide (deadline < now), pubRing := n }

/-- A new request (R92, R95): both tables take it, or the reason of the stall: true for the flow table (R104, R150). -/
def Dev.acceptNew (c : Ctx) (r : Ring) (f : Fetched) (d : Dev) : Except Bool Dev :=
  let desc : Desc := f.desc
  let seq := d.jnl.nextSeq
  let e : DdtEntry := { slice := r.slice, reqId := BitVec.ofNat 64 desc.rid, st := .inFlight, seq := seq, time := d.stamp c }
  match d.ddtInsert c e with
  | none => .error false
  | some d1 =>
    match (if desc.flow = 0 then some d1 else d1.flowInsert c (r.slice, desc.flow)) with
    | none => .error true
    | some d2 =>
      match d2.takeSlot with
      | none => .error false
      | some (slot, d3) =>
        let j := joinChain r desc seq
        let it := { (newItem c.now slot seq r.slice r.num (d.slice r.slice).domain (itemDeadline r desc c.now) f j) with
          qual := d.tim.state.code, pubPos := r.accepted }
        let rc : Rec := { slot := slot, seq := seq, reqId := e.reqId, slice := r.slice, ring := r.num, st := .accepted,
                          mirrored := d.syncMirror, pos := r.accepted, opcode := desc.op }
        let hi := seq / 2 ^ 40
        let d4 := { d3 with
          jnl := { d3.jnl with nextSeq := seq + 1, hiStored := if d3.jnl.hiStored = some hi then d3.jnl.hiStored else some hi }
          dsp := { d3.dsp with items := d3.dsp.items ++ [it] } }
        let d5 := ((d4.addRec rc).updRing r.slice r.num (fun x => { x with chains := j.open_ })).advance c r.slice r.num
        let d6 := d5.mirrorOut c slot r.slice r.num r.accepted false
        .ok (if d6.jnl.mirrorWait.any (fun w => w.slot == slot) then d6 else d6.afterAccept c slot)

/-- A resubmission of a completed request: a REPLAY record, which owes a copy on the resubmission's ring (R108, R110). -/
def Dev.acceptReplay (c : Ctx) (r : Ring) (e : DdtEntry) (d : Dev) : Dev :=
  match d.takeSlot with
  | none => d
  | some (slot, d1) =>
    let rc : Rec := { slot := slot, seq := e.seq, reqId := e.reqId, slice := r.slice, ring := r.num, st := .replay,
                      mirrored := d.syncMirror, pos := r.accepted, status := e.status, sub := fld e.outcome 7 0, backlog := bit e.outcome 8,
                      late := bit e.outcome 9, resLen := fld e.outcome 31 13, cst := e.time }
    let d2 := (((d1.addRec rc).advance c r.slice r.num).bump Off.ddtReplay).mirrorOut c slot r.slice r.num r.accepted false
    let ow : Owed := { slot := slot, slice := r.slice, ring := r.num }
    { d2 with jnl := { d2.jnl with owed := d2.jnl.owed ++ [ow] } }

/-- A resubmission attached to an original in flight (R108, R109). -/
def Dev.attach (c : Ctx) (r : Ring) (e : DdtEntry) (d : Dev) : Dev :=
  let up := fun (i : Item) => if i.seq = e.seq ∧ i.spillFrom.isNone then { i with attached := sat 0xFFFF (i.attached + 1) } else i
  let slot := ((d.jnl.recs.find? (fun x => x.seq == e.seq && x.st != .replay)).map (fun x => x.slot)).getD 32768
  let d1 := { d with dsp := { d.dsp with items := d.dsp.items.map up } }
  ((d1.bump Off.ddtAttach).advance c r.slice r.num).mirrorOut c slot r.slice r.num r.accepted true

/-- A re-presentation supplies the descriptor of an AWAITING record, which is dispatched under its own sequence and
deadline, outside every chain and barrier (R123, R149). -/
def Dev.represent (c : Ctx) (r : Ring) (f : Fetched) (e : DdtEntry) (x : Rec) (d : Dev) : Except Bool Dev :=
  let desc : Desc := f.desc
  match (if desc.flow = 0 then some d else d.flowInsert c (x.slice, desc.flow)) with
  | none => .error true
  | some d1 =>
    let it0 := newItem c.now x.slot x.seq x.slice x.ring (d.slice x.slice).domain x.deadline f ⟨[], 0, []⟩
    let it := { it0 with represented := true, absDl := false, attached := 1, relAt := none, qual := d.tim.state.code, pubRing := r.num, pubPos := r.accepted }
    let d2 := (d1.updRec x.slot (fun y => { y with st := .accepted, opcode := desc.op })).updDdt e.slice e.reqId (fun y => { y with st := .inFlight })
    let d3 := { d2 with dsp := { d2.dsp with items := d2.dsp.items ++ [it] } }
    let d4 := ((d3.bump Off.ddtAttach).advance c r.slice r.num).mirrorOut c x.slot r.slice r.num r.accepted false
    .ok (if d4.jnl.mirrorWait.any (fun w => w.slot == x.slot) then d4 else d4.afterAccept c x.slot)

/-- The lookup and what it leads to; an error names the table that has no room (R104, R108, R150). -/
def Dev.letIn (c : Ctx) (r : Ring) (f : Fetched) (d : Dev) : Except Bool Dev :=
  match d.ddtFind c r.slice (BitVec.ofNat 64 (Desc.rid f.desc)) with
  | none => d.acceptNew c r f
  | some e => match e.st with
    | .inFlight => .ok (d.attach c r e)
    | .done => .ok (d.acceptReplay c r e)
    | .awaiting => match d.jnl.recs.find? (fun x => x.seq == e.seq && x.st == .awaiting) with
      | none => .ok (d.attach c r e)
      | some x => d.represent c r f e x

/-- Acceptance stalls on the deduplication table (R104, R504), or on its ring alone on the flow table (R150). -/
def Dev.stall (c : Ctx) (r : Ring) (flow : Bool) (d : Dev) : Dev :=
  if flow then
    let d1 := d.updRing r.slice r.num (fun x => { x with flowStall := true })
    if d.hif.rings.any (fun x => x.flowStall) then d1 else d1.evtBit Off.dspEvt 1
  else
    let d1 := ({ d with ddt := { d.ddt with stalledSince := some c.now } }).updRing r.slice r.num (fun x => { x with ddtStall := true })
    (d1.evtBit Off.ddtEvt 0).record c Trig.ddtStall (toLe 1 0 ++ toLe 4 (d1.readReg c Off.ddtLive).toNat)

/-- ACCEPT_DESCRIPTOR: the head of what a ring has fetched is accepted, where R63 and the credits allow it. -/
def acceptOp (s n : Nat) (c : Ctx) (d : Dev) : Dev :=
  let r := d.ring s n
  match r.fetched with
  | [] => d
  | f :: _ =>
    if d.ringOpen r && d.creditOk r && d.ddt.stalledSince.isNone && !r.flowStall then
      match d.letIn c r f with
      | .ok d1 => d1
      | .error fl => d.stall c r fl
    else d

def execAcceptDescriptor (slice ring : Nat) (s : State) : Host.Outcome State Fault Refusal := s.onDev (acceptOp slice ring)

/-- The stall on the table ends (R104). -/
def Dev.ddtStallEnd (c : Ctx) (d : Dev) : Dev :=
  match d.ddt.stalledSince with
  | none => d
  | some t =>
    let d1 := { d with ddt := { d.ddt with stalledSince := none, stallNs := d.ddt.stallNs + (c.now - t) } }
    (d1.evtBit Off.ddtEvt 1).record c Trig.ddtStall (toLe 1 1 ++ toLe 4 (d1.readReg c Off.ddtLive).toNat)

/-- DDT_STALL_RETRY: the stalled insertion is tried again; with the descriptor no longer waiting to be accepted there is
nothing to insert, and the stall ends (R104). -/
def ddtStallRetryOp (c : Ctx) (d : Dev) : Dev :=
  if d.ddt.stalledSince.isNone then d
  else match d.hif.rings.find? (fun x => x.ddtStall && x.state == .active && !x.fetched.isEmpty) with
    | none => ({ d with hif := { d.hif with rings := d.hif.rings.map (fun (x : Ring) => { x with ddtStall := false }) } }).ddtStallEnd c
    | some r => match r.fetched with
      | [] => d
      | f :: _ =>
        if d.ringOpen r && d.creditOk r then
          match d.letIn c r f with
          | .ok d1 => d1.ddtStallEnd c
          | .error true => ((d.updRing r.slice r.num (fun x => { x with ddtStall := false })).ddtStallEnd c).stall c r true
          | .error false => d
        else d

def execDdtStallRetry (s : State) : Host.Outcome State Fault Refusal := s.onDev ddtStallRetryOp

/-- FLOW_STALL_RETRY: the insertion of a stalled ring is tried again (R150). -/
def flowStallRetryOp (s n : Nat) (c : Ctx) (d : Dev) : Dev :=
  let r := d.ring s n
  let done := fun (d1 : Dev) => if d1.hif.rings.any (fun x => x.flowStall) then d1 else d1.evtBit Off.dspEvt 2
  if !r.flowStall then d
  else match r.fetched with
    | [] => done (d.updRing s n (fun x => { x with flowStall := false }))
    | f :: _ =>
      if d.ringOpen r && d.creditOk r && d.ddt.stalledSince.isNone then
        match d.letIn c r f with
        | .ok d1 => done d1
        | .error true => d
        | .error false => (d.updRing s n (fun x => { x with flowStall := false })).stall c r false
      else d

def execFlowStallRetry (slice ring : Nat) (s : State) : Host.Outcome State Fault Refusal := s.onDev (flowStallRetryOp slice ring)

/-! ### The standby's acknowledgement (R92, R127) -/

/-- The first waiting acceptance of a slot is complete. -/
def Dev.mirrorDone (c : Ctx) (slot : Nat) (d : Dev) : Dev :=
  match d.jnl.mirrorWait.find? (fun w => w.slot == slot) with
  | none => d
  | some w =>
    let d1 := { d with jnl := { d.jnl with mirrorWait := d.jnl.mirrorWait.erase w } }
    let d2 := d1.updRing w.slice w.ring (fun r => { r with hwbSince := some c.now })
    match d2.item? slot with
    | none => d2
    | some i => if w.att then d2 else if i.ds = .held ∨ i.ds = .control then d2.afterAccept c slot else d2

/-- Every waiting acceptance is complete, oldest first. -/
def Dev.mirrorAll (c : Ctx) : Nat → Dev → Dev
  | 0, d => d
  | n + 1, d => match d.jnl.mirrorWait with
    | [] => d
    | w :: _ => Dev.mirrorAll c n (d.mirrorDone c w.slot)

/-- MIRROR_ACK (R127, R132, R437): of an acceptance the latency is reported; other changes are acknowledged in their order. -/
def mirrorAckOp (of : AckOf) (c : Ctx) (d : Dev) : Dev :=
  match of with
  | .change => d.changeAck
  | .record slot => match d.jnl.mirrorWait.find? (fun w => w.slot == slot) with
    | none => d
    | some w => (d.setReg Off.jnlMirrorLat (BitVec.ofNat 32 (sat 0xFFFF (c.now - w.since)))).mirrorDone c slot

/-- Sync-degraded mode begins (R127): reported, recorded as evidence, and every waiting acceptance completes, as does every
other change that waits (DESIGN CHOICE, log entry 83). -/
def Dev.degrade (c : Ctx) (d : Dev) : Dev :=
  let d1 := { d with jnl := { d.jnl with degraded := true } }
  let d2 := (d1.evtBit Off.jnlEvt 3).evidence c Ev.mirrorDegraded (toLe 2 d.partner ++ zeros 2 ++ toLe 6 d.fab.pair.epoch)
  (d2.mirrorAll c d2.jnl.mirrorWait.length).changesAll

/-- ST since when an acknowledgement is awaited. -/
def Dev.ackSince (d : Dev) : AckOf → Option Nat
  | .record slot => (d.jnl.mirrorWait.find? (fun w => w.slot == slot)).map (fun w => w.since)
  | .change => d.fab.pair.changes.head?.map (fun w => w.since)

/-- MIRROR_ACK_TIMEOUT (R127): 40 µs of ST without the acknowledgement. -/
def mirrorAckTimeoutOp (of : AckOf) (c : Ctx) (d : Dev) : Dev :=
  match d.ackSince of with
  | none => d
  | some t => if t + 40 * nsUs ≤ c.now then d.degrade c else d

end Sys2Proof.Machine
end

