-- ==== Sys2Proof/Machine/Draw.lean ====
section
/-! DEFINITION. Requests to a DRBG and reseeds (R370 to R373), and the nonces that the management DRBG serves. -/

namespace Sys2Proof.Machine

/-- Requests at which a DRBG is STARVED (R372). -/
def Dev.stretchLimit (d : Dev) : Nat := 2 ^ fld (d.reg Off.rngReseedCtrl) 4 0

/-- The DRBG asks for a reseed (R372). -/
def Drbg.wants (g : Drbg) : Bool := decide (65536 ≤ g.reqs) || g.ageDue

/-- One block reseeds a DRBG (R370, R372). -/
def Drbg.reseed (now : Nat) (block : Bytes) (g : Drbg) : Drbg :=
  { (g.seedMore block) with
    state := .serving, reqs := 0, ageDue := false, seedSt := now, reseeds := g.reseeds + 1
    stretched := g.stretched + b2n (decide (65536 < g.reqs)) }

/-- One block instantiates a DRBG (R370). -/
def Drbg.instantiate (now : Nat) (block : Bytes) (g : Drbg) : Drbg := { (g.seedNew now block) with state := .serving, reqs := 0, ageDue := false, seedSt := now }

/-- The state of a DRBG that serves, by its request count (R371, R372). -/
def Drbg.settle (limit : Nat) (g : Drbg) : Drbg :=
  if !g.serves then g
  else if limit ≤ g.reqs then { g with state := .starved }
  else if 65536 ≤ g.reqs then { g with state := .stretching }
  else { g with state := .serving }

/-- A reseed that is due is made before the next request, where the pool holds a block (R372). -/
def Dev.dueReseed (c : Ctx) (n : Nat) (d : Dev) : Dev :=
  let g := d.drbg n
  match d.rng.pool with
  | b :: t => if g.serves && g.wants then ({ d with rng := { d.rng with pool := t } }).updDrbg n (Drbg.reseed c.now b) else d
  | [] => d

/-- One request to DRBG `n` for `len` bytes: its output, and the state after it, the request counted, and a reseed made that it
makes due. -/
def Dev.request (c : Ctx) (n len : Nat) (extra : Bytes) (d : Dev) : RndOut × Dev :=
  let lim := d.stretchLimit
  let o := (d.drbg n).generate len d.rng.ctr extra
  let d1 := ((d.updDrbg n (fun g => { (g.generate len d.rng.ctr extra).2 with reqs := g.reqs + 1 })).draw.dueReseed c n).updDrbg n (Drbg.settle lim)
  (o.1, if (d.drbg n).serves && (d1.drbg n).state == .starved then d1.evtBit Off.rngEvt 4 else d1)
def Dev.useDrbg (c : Ctx) (n len : Nat) (d : Dev) : Dev := (d.request c n len []).2

/-- `n` fresh bytes from the management DRBG, with the state after the request, and a fresh 64-bit nonce. -/
def Dev.mgmtBytes (c : Ctx) (n : Nat) (d : Dev) : Bytes × Dev := let (o, d1) := d.request c 12 n []; (o.bytes n, d1)
def Dev.mgmtNonce (c : Ctx) (d : Dev) : DWord × Dev := let (b, d1) := d.mgmtBytes c 8; (BitVec.ofNat 64 (le b 0 8), d1)

end Sys2Proof.Machine
end

