-- ==== Sys2Proof/Machine/Time.lean ====
section
/-! DEFINITION. Settlement time base (R28 to R44, R643 to R645, R648): PPS and TREF_IN, time tokens, quorum sets and
steps, the time fence. Only the commands of this file and the loss of power change ST. -/

namespace Sys2Proof.Machine

/-- A command that may move ST forward: `f` answers the new state and, for a jump or step, the new ST, which is taken only
if it does not lie below the present one (R28, R35, R37). -/
def State.onTime (s : State) (f : Ctx → Dev → Dev × Option Nat) : Host.Outcome State Fault Refusal :=
  let r := f s.ctx s.dev
  .next { s with dev := r.1, st := match r.2 with
    | some v => if s.st.toNat ≤ v ∧ v < 2 ^ 64 then BitVec.ofNat 64 v else s.st
    | none => s.st }

/-- Change the time base. -/
def Dev.onTim (f : Tim → Tim) (d : Dev) : Dev := { d with tim := f d.tim }

/-- The time state changes (R33, R43). -/
def Dev.toTimeState (st : TimeState) (d : Dev) : Dev :=
  if d.tim.state = st then d else (d.onTim (fun t => { t with state := st })).evtBit Off.timEvt 0

/-- ACQUIRING is entered (R33, R34, R648): the count of valid edges and the changes of offset start afresh. -/
def Dev.enterAcquiring (c : Ctx) (d : Dev) : Dev :=
  (d.toTimeState .acquiring).onTim (fun t =>
    { t with acqSince := c.now, acqCount := 0, changes := [], lastOffset := none, lastValid := none, misses := 0 })

/-- Expiries are shifted by a jump from UNSET or by a quorum step (R38, R105; log entry 17). -/
def shiftItem (unset : Bool) (delta : Nat) (i : Item) : Item :=
  { i with
    deadline := if unset || !i.absDl then i.deadline + delta else i.deadline
    key := if unset || !i.absDl then i.key + delta else i.key
    runSt := i.runSt + delta
    relAt := i.relAt.map (fun t => if unset || !i.relAbs then t + delta else t)
    notBefore := i.notBefore.map (· + delta) }

def Dev.shiftTimes (unset : Bool) (delta : Nat) (d : Dev) : Dev :=
  let p := d.fab.pair
  { d with
    dsp := { d.dsp with
      items := d.dsp.items.map (shiftItem unset delta)
      fw := d.dsp.fw.map (fun f => { f with deadline := f.deadline + delta })
      fwTimers := d.dsp.fwTimers.map (fun f => { f with due := f.due + delta, ins := f.ins + delta })
      fwSt := d.dsp.fwSt + delta }
    rng := { d.rng with drbgs := d.rng.drbgs.map (fun g => { g with seedSt := g.seedSt + delta }) }
    jnl := { d.jnl with recs := d.jnl.recs.map (fun r => { r with deadline := if r.st == .awaiting then r.deadline + delta else r.deadline }) }
    ddt := { d.ddt with entries := d.ddt.entries.map (fun e => { e with doneAt := e.doneAt + delta }) }
    fab := { d.fab with pair := { p with
      lastSent := p.lastSent + delta
      lastAcked := p.lastAcked + delta
      leaseEnd := p.leaseEnd + delta
      heard := p.heard + delta
      swapDue := p.swapDue.map (fun x => (x.1, x.2 + delta)) } }
    cus := { d.cus with cers := d.cus.cers.map (fun k =>
      { k with beginSt := k.beginSt + delta, first := k.first.map (· + delta), openSt := k.openSt + delta }) }
    lcs := { d.lcs with
      chal := d.lcs.chal.map (fun x => { x with issued := x.issued + delta })
      expiry := if d.lcs.expiry = 0 then 0 else d.lcs.expiry + delta } }

/-- A jump from UNSET or a quorum step to `v` (R35, R37, R38): expiries shifted, evidence written, STEP_DONE set. A
remaining correction is replaced (R36). `src` is 1 for a token and 2 for a quorum. -/
def Dev.jumpTo (c : Ctx) (src v : Nat) (d : Dev) : Dev × Option Nat :=
  let delta := v - c.now
  let unset := d.tim.state == .unset
  let d1 := (d.shiftTimes unset delta).onTim (fun t => { t with slewRem := 0, lastSet := v })
  let d2 := if unset then d1.enterAcquiring { c with now := v } else d1
  let d3 := d2.evidence { c with now := v } Ev.timeSet (toLe 8 delta ++ [BitVec.ofNat 8 src])
  (d3.evtBit Off.timEvt 3, some v)

/-- A correction by slew; a new one replaces what remains (R36). -/
def Dev.slewBy (rem : Int) (d : Dev) : Dev := d.onTim (fun t => { t with slewRem := rem })

/-- A token that passed its checks applies: its time value is `raw`, which gives ST the value `v` at this moment. A value of
2^61 or more is refused; in UNSET a time value below ST is refused and any other is a jump; else it is a slew (R30, R33, R35,
R36, R644; log entry 75). -/
def Dev.applyToken (c : Ctx) (raw v : Nat) (d : Dev) : Dev × Option Nat :=
  let fin := fun (code : Nat) (d : Dev) => (d.onTim (fun t => { t with token := none, tokenStat := code })).evtBit Off.timEvt 2
  if 2 ^ 61 ≤ v then (fin 9 d, none)
  else if d.tim.state = .unset then
    if raw < c.now then (fin 6 d, none) else ((fin 2 (d.jumpTo c 1 v).1), some v)
  else (fin 2 (d.slewBy ((v : Int) - c.now)), none)

/-- A quorum set, a forward step, or a backward correction, which is slewed (R33, R35, R37). In UNSET a value below ST, which
has no token status to report, is dropped (log entry 75). -/
def Dev.applySet (c : Ctx) (v : Nat) (d : Dev) : Dev × Option Nat :=
  if c.now ≤ v then d.jumpTo c 2 v
  else if d.tim.state = .unset then (d, none)
  else (d.slewBy ((v : Int) - c.now), none)

/-! ### Settings and reads -/

/-- TIM_TOKEN_STAT becomes final (R44). -/
def Dev.tokenFinal (code : Nat) (d : Dev) : Dev :=
  (d.onTim (fun t => { t with token := none, tokenStat := code })).evtBit Off.timEvt 2

/-- A write of TIM_REF_CFG (R32, R43, R645). -/
def timRefCfgW (c : Ctx) (v : Word) (d : Dev) : WOut :=
  if fld v 3 2 = 3 then .drop
  else
    let v1 := v &&& 0x1F#32
    let changed := fld v 3 2 != fld (d.reg Off.timRefCfg) 3 2
    let d1 := d.setReg Off.timRefCfg v1
    let d2 := if changed || fld v 3 2 != 0 then d1.onTim (fun t => { t with trefValid := false, trefSince := c.now }) else d1
    let d3 := if bit v 0 then d2 else d2.onTim (fun t => { t with ppsValid := false })
    .took (if !bit v 0 && (d.tim.token.bind (fun k => k.wait)).isSome then d3.tokenFinal 10 else d3)

/-- NEW_NONCE (R643). -/
def Dev.newTimeNonce (c : Ctx) (d : Dev) : Dev :=
  if d.mgmtDrbg then
    let (n, d1) := d.mgmtNonce c
    d1.onTim (fun t => { t with nonce := n, nonceIssued := c.now, nonceLive := true })
  else
    let d1 := d.onTim (fun t => { t with nonceLive := false })
    if d.tim.token.isSome then d1 else d1.tokenFinal 5

/-- A write of TIM_TOKEN_CTRL (R40, R44, R643): GO captures the nonce and ST; a NEW_NONCE with it takes effect after. With a
token in progress a write with GO is discarded whole, NEW_NONCE included (log entry 75). -/
def timTokenCtrlW (c : Ctx) (v : Word) (d : Dev) : WOut :=
  if bit v 0 then
    if d.tim.tokenStat = 1 then .viol
    else
      let job : TokenJob := { nonce := d.tim.nonce, goSt := c.now, issued := d.tim.nonceIssued, live := d.tim.nonceLive }
      let d1 := d.onTim (fun t => { t with nonceLive := false })
      let d2 := if d.mgmtUp then (d1.onTim (fun t => { t with token := some job, tokenStat := 1 })).fwReady c 1 else d1.tokenFinal 8
      .took (if bit v 1 then d2.newTimeNonce c else d2)
  else if bit v 1 then .took (d.newTimeNonce c)
  else .took d

/-- A write of TIM_FENCE (R39, R643). -/
def timFenceW (_ : Ctx) (v : Word) (d : Dev) : WOut :=
  if bit v 0 then if d.tim.fenceBusy then .viol else .took (d.onTim (fun t => { t with fenceBusy := true })) else .took d

/-- A write of TIM_SET_CTRL (R30, R35, R37, R40): whether it applies, and what. With APPLY_AT_PPS and no valid PPS it applies at
once (log entry 75). -/
inductive SetOut where
  | viol | plain | wait (v : Nat) | apply (v : Nat)

def timSetCtrl (v : Word) (d : Dev) : SetOut :=
  if !d.quorum Off.timSetCtrl v then .viol
  else if !bit v 0 then .plain
  else
    let x := d.reg64 Off.timSetValueLo
    if 2 ^ 61 ≤ x then .viol
    else if bit v 1 && d.ppsOk then .wait x else .apply x

/-- The other TIM registers that a host writes (R43, R457, R643). -/
def timW (c : Ctx) (off : Nat) (v : Word) (d : Dev) : WOut :=
  if off = Off.timRefCfg then timRefCfgW c v d
  else if off = Off.timHoldLimit then
    if 1000 ≤ v.toNat ∧ v.toNat ≤ 1000000000 then .took (d.setReg off v) else .drop
  else if off = Off.timTokenCtrl then timTokenCtrlW c v d
  else if off = Off.timFence then timFenceW c v d
  else if off = Off.timTokenAddrLo ∨ off = Off.timTokenAddrHi then .took (d.setReg off v)
  else if off = Off.timTaHandleLo ∨ off = Off.timTaHandleHi ∨ off = Off.timSetValueLo ∨ off = Off.timSetValueHi then
    if d.quorum off v then .took (d.setReg off v) else .viol
  else if off = Off.timEvt then .took (d.setReg off (d.reg off &&& ~~~v))
  else .drop

/-! ### PPS and TREF_IN -/

/-- Whether an edge is valid in the present state, and the whole second it is expected at or referred to (R31, R648);
the third part is the count of consecutive valid edges it leads to in ACQUIRING. -/
structure EdgeJudge where
  valid : Bool
  ref   : Nat
  count : Nat

/-- The next expected whole second (R31): after the last valid edge, and after each miss. -/
def Tim.expected (t : Tim) : Nat := nearestSecond (t.lastValid.getD 0) + (t.misses + 1) * nsS

def Dev.judgeEdge (c : Ctx) (d : Dev) : EdgeJudge :=
  let t := d.tim
  let near := nearestSecond c.now
  let e := max t.expected near
  match t.state with
  | .unset => { valid := true, ref := near, count := 0 }
  | .freeRun => { valid := true, ref := near, count := 1 }
  | .locked =>
    { valid := decide (e ≤ c.now + 10 * nsUs ∧ c.now ≤ e + 10 * nsUs), ref := e, count := t.acqCount }
  | .holdover =>
    let w := 10 * nsUs + t.errEst c.now
    { valid := decide (e ≤ c.now + w ∧ c.now ≤ e + w), ref := e, count := 1 }
  | .acquiring =>
    match t.lastValid with
    | none => { valid := true, ref := near, count := 1 }
    | some l =>
      let dt := c.now - l
      let n := (dt + nsS / 2) / nsS
      let ok := decide (1 ≤ n ∧ n ≤ 10 ∧ n * nsS ≤ dt + 200 * nsUs * n ∧ dt ≤ n * nsS + 200 * nsUs * n)
      { valid := ok, ref := near, count := if ok then (if n = 1 then t.acqCount + 1 else 1) else 0 }

/-- The offset of a valid edge is measured and becomes the correction (R31, R34, R36). -/
def Tim.takeOffset (now ref : Nat) (t : Tim) : Tim :=
  let off := (now : Int) - ref
  let ch := match t.lastOffset with
    | some o => (off - o - t.slewedSince).natAbs :: t.changes.take 14
    | none => t.changes
  { t with lastOffset := some off, changes := ch, slewedSince := 0, slewRem := -off, lastValid := some now, misses := 0 }

/-- A valid edge (R31, R33): captured; in UNSET it moves no correction. -/
def Dev.validEdge (c : Ctx) (j : EdgeJudge) (d : Dev) : Dev :=
  let d1 := d.onTim (fun t => { t with ppsCap := c.now, ppsValid := true })
  match d.tim.state with
  | .unset => d1
  | .locked => d1.onTim (Tim.takeOffset c.now j.ref)
  | .acquiring =>
    let d2 := d1.onTim (fun t => { (t.takeOffset c.now j.ref) with acqCount := j.count })
    if 16 ≤ j.count ∧ d2.tim.slewRem.natAbs < 100 then d2.toTimeState .locked else d2
  | .holdover | .freeRun =>
    if d.trefOk then
      (d1.enterAcquiring c).onTim (fun t => { (t.takeOffset c.now j.ref) with acqCount := 1 })
    else d1.onTim (Tim.takeOffset c.now j.ref)

/-- A waiting set applies at the first valid edge (R40). -/
def Dev.edgeSet (c : Ctx) (d : Dev) : Dev × Option Nat :=
  match d.tim.setWait with
  | some v => (d.onTim (fun t => { t with setWait := none })).applySet c v
  | none => (d, none)

/-- A waiting token applies at the first valid edge, against the ST of the moment `now`, unless its 2 s were over when the
edge came (R40, R645). -/
def Dev.edgeToken (c : Ctx) (now : Nat) (d : Dev) : Dev × Option Nat :=
  match d.tim.token.bind (fun k => k.wait) with
  | some w => if w.since + 2 * nsS < c.now then (d.tokenFinal 10, none) else d.applyToken { c with now := now } w.value w.value
  | none => (d, none)

/-- What waits for an edge: the set first, then the token, against the ST that the set gave (log entry 75). -/
def Dev.edgeWaits (c : Ctx) (d : Dev) : Dev × Option Nat :=
  let s := d.edgeSet c
  let t := s.1.edgeToken c (s.2.getD c.now)
  (t.1, match t.2 with | some v => some v | none => s.2)

/-- PPS_EDGE (R31, R33, R34, R40, R648): an edge counts only with PPS_EN set. -/
def ppsEdgeOp (c : Ctx) (d : Dev) : Dev × Option Nat :=
  if !bit (d.reg Off.timRefCfg) 0 || !d.pwr.powered then (d, none)
  else
    let j := d.judgeEdge c
    if j.valid then (d.validEdge c j).edgeWaits c
    else if d.tim.state = .acquiring then (d.onTim (fun t => { t with acqCount := 0 }), none)
    else (d, none)

def execPpsEdge (s : State) : Host.Outcome State Fault Refusal := s.onTime ppsEdgeOp

/-- PPS_MISS (R31, R33): the window of the next expected edge has passed; in LOCKED the second consecutive miss loses PPS. With
PPS_EN clear no edge counts, so that every expected edge is missing. -/
def ppsMissOp (c : Ctx) (d : Dev) : Dev :=
  let half := 10 * nsUs + (if d.tim.state = .holdover then d.tim.errEst c.now else 0)
  if c.now < d.tim.expected + half || !d.pwr.powered then d
  else match d.tim.state with
    | .locked =>
      let d1 := (d.onTim (fun t => { t with misses := t.misses + 1 })).evtBit Off.timEvt 1
      if 2 ≤ d1.tim.misses then (d1.onTim (fun t => { t with ppsValid := false })).toTimeState .holdover else d1
    | .holdover => (d.onTim (fun t => { t with misses := t.misses + 1 })).evtBit Off.timEvt 1
    | _ => d

def execPpsMiss (s : State) : Host.Outcome State Fault Refusal := s.onDev ppsMissOp

/-- ACQUIRE_TIMEOUT (R33, R648): 10 s of ST in ACQUIRING without a valid edge. -/
def acquireTimeoutOp (c : Ctx) (d : Dev) : Dev :=
  if d.tim.state = .acquiring ∧ max d.tim.acqSince (d.tim.lastValid.getD 0) + 10 * nsS ≤ c.now then
    (d.onTim (fun t => { t with ppsValid := false })).toTimeState .freeRun
  else d

def execAcquireTimeout (s : State) : Host.Outcome State Fault Refusal := s.onDev acquireTimeoutOp

/-- HOLDOVER_LIMIT_EXCEEDED (R33). -/
def holdoverLimitOp (c : Ctx) (d : Dev) : Dev :=
  if d.tim.state = .holdover ∧ (d.reg Off.timHoldLimit).toNat < d.tim.errEst c.now then
    (d.onTim (fun t => { t with ppsValid := false })).toTimeState .freeRun
  else d

def execHoldoverLimitExceeded (s : State) : Host.Outcome State Fault Refusal := s.onDev holdoverLimitOp

/-- TREF_VALIDATED (R32): only while a frequency is selected, 10 ms of ST after the measurement began. -/
def trefValidatedOp (c : Ctx) (d : Dev) : Dev :=
  if d.trefSelected ∧ d.tim.trefValid = false ∧ d.tim.trefSince + 10 * nsMs ≤ c.now then
    d.onTim (fun t => { t with trefValid := true })
  else d

def execTrefValidated (s : State) : Host.Outcome State Fault Refusal := s.onDev trefValidatedOp

/-- TREF_LOSS (R32, R33): a valid TREF_IN is lost; LOCKED goes to HOLDOVER. -/
def trefLossOp (c : Ctx) (d : Dev) : Dev :=
  if d.tim.trefValid then
    let d1 := d.onTim (fun t => { t with trefValid := false, trefSince := c.now })
    if d.tim.state = .locked ∧ d.trefSelected then d1.toTimeState .holdover else d1
  else d

def execTrefLoss (s : State) : Host.Outcome State Fault Refusal := s.onDev trefLossOp

/-- SLEW_COMPLETE (R36): the correction is used up and ST is at its nominal rate. -/
def slewCompleteOp (_ : Ctx) (d : Dev) : Dev :=
  if d.tim.slewRem = 0 then d.onTim (fun t => { t with slewPhase := 0 }) else d

def execSlewComplete (s : State) : Host.Outcome State Fault Refusal := s.onDev slewCompleteOp

/-- TIM_REF_CFG_WRITE (R32, R43, R645). -/
def execTimRefCfgWrite (value : Word) (s : State) : Host.Outcome State Fault Refusal :=
  s.onDev (fun c d => d.hostWrite c Off.timRefCfg (timRefCfgW c value))

/-! ### Tokens (R40, R44, R643 to R645) -/

/-- TIM_TOKEN_GO: a write of TIM_TOKEN_CTRL with GO set. -/
def execTimTokenGo (newNonce : Bool) (s : State) : Host.Outcome State Fault Refusal :=
  s.onDev (fun c d => d.hostWrite c Off.timTokenCtrl (timTokenCtrlW c (if newNonce then 3#32 else 1#32)))

/-- TIM_NEW_NONCE: a write of TIM_TOKEN_CTRL with NEW_NONCE alone. -/
def execTimNewNonce (s : State) : Host.Outcome State Fault Refusal :=
  s.onDev (fun c d => d.hostWrite c Off.timTokenCtrl (timTokenCtrlW c 2#32))

/-- Signature length and key algorithm of a token's algorithm field (R644). -/
def tokenAlg (a : Nat) : Option (Nat × Nat) :=
  if a = 1 then some (64, 0x81) else if a = 2 then some (96, 0x82) else if a = 3 then some (3309, 0xC1) else none

/-- Check 1 of R644: the form of the token. A read that fails gives no token, which is malformed (log entry 75). -/
def tokenForm (r : DmaRead) : Bool :=
  let b := r.data
  !r.refused && !r.failed && decide (48 ≤ b.length) && le b 0 2 == 1 && decide (le b 2 2 < 2) && le b 42 6 == 0
    && (match tokenAlg (le b 40 2) with | some a => le b 4 4 == a.1 && decide (48 + a.1 ≤ b.length) | none => false)

/-- Check 2 of R644: the time-authority key that TIM_TA_HANDLE names, as the algorithm of its active half and its public part,
which its material ends in (log entry 24). -/
def Dev.taKey (d : Dev) : Option (Nat × Bytes) :=
  let h := d.reg64 Off.timTaHandleLo
  let dom := h / 2 ^ 48 % 1024
  let slot := h / 2 ^ 32 % 65536
  let gen := h % 2 ^ 32
  if h = 0 ∨ h / 2 ^ 58 ≠ 0 ∨ slot = 0 ∨ 0xFFFD < slot ∨ d.key.store ≠ .ready then none
  else match (d.key.slot? dom slot).bind (fun s => s.act) with
    | none => none
    | some a =>
      if (gen = 0 ∨ gen = a.attr.gen) ∧ a.attr.usage = 0x5330 ∧ (a.attr.mode = 0x56 ∨ a.attr.mode = 0x43 ∨ a.attr.mode = 0x4E)
          ∧ a.attr.part ≠ 0 ∧ (a.attr.alg = 0x81 ∨ a.attr.alg = 0x82 ∨ a.attr.alg = 0xC1) then
        some (a.attr.alg, a.mat.drop (a.mat.length - (if a.attr.alg = 0x81 then 65 else if a.attr.alg = 0x82 then 97 else 1952)))
      else none

/-- The unit ID in a structure equals the device's. -/
def unitIdIs (b : Bytes) (off : Nat) : Bool := le b off 16 == Config.unitId.toNat

/-- The first failed check of R644 up to check 6, as its TIM_TOKEN_STAT. -/
def tokenFail (r : DmaRead) (k : TokenJob) (d : Dev) : Option Nat :=
  let b := r.data
  if !tokenForm r then some 3
  else match d.taKey with
    | none => some 7
    | some (alg, pub) =>
      if (tokenAlg (le b 40 2)).elim true (fun a => a.2 != alg) || !codeSig (le b 40 2) pub (b.take 48) (bsub b 48 (le b 4 4)) then some 3
      else if !unitIdIs b 8 || le b 24 8 != k.nonce.toNat then some 4
      else if !k.live || decide (k.issued + 10 * nsS < k.goSt) then some 5
      else if 2 ^ 61 ≤ le b 32 8 then some 9
      else none

/-- TOKEN_VERIFY_DONE (R40, R644): verification of the token in progress ends.  DESIGN CHOICE (log entry 75): a jump or a
quorum set between GO and the application counts as elapsed ST when the time value is carried forward. -/
def tokenVerifyOp (token : DmaRead) (c : Ctx) (d : Dev) : Dev × Option Nat :=
  match d.tim.token with
  | none => (d, none)
  | some k =>
    if k.wait.isSome then (d, none)
    else match tokenFail token k d with
      | some code => (d.tokenFinal code, none)
      | none =>
        let v := le token.data 32 8
        if le token.data 2 2 = 1 ∧ d.ppsOk then
          (d.onTim (fun t => { t with token := some { k with wait := some { value := v, since := c.now } } }), none)
        else d.applyToken c v (v + (c.now - k.goSt))

def execTokenVerifyDone (token : Bytes) (read : DmaEnd) (s : State) : Host.Outcome State Fault Refusal :=
  s.onTime (tokenVerifyOp (dmaRead token read))

/-- TOKEN_PPS_TIMEOUT (R645). -/
def tokenPpsTimeoutOp (c : Ctx) (d : Dev) : Dev :=
  match d.tim.token.bind (fun k => k.wait) with
  | some w => if w.since + 2 * nsS ≤ c.now ∨ bit (d.reg Off.timRefCfg) 0 = false then d.tokenFinal 10 else d
  | none => d

def execTokenPpsTimeout (s : State) : Host.Outcome State Fault Refusal := s.onDev tokenPpsTimeoutOp

/-! ### Quorum set and time fence -/

/-- A permitted write of TIM_SET_CTRL as it acts on ST (R35, R37); `bad` reports one that the register's rule discards. -/
def timSetDo (bad : Dev → Dev) (value : Word) (c : Ctx) (d : Dev) : Dev × Option Nat :=
  match timSetCtrl value d with
  | .viol => (bad d, none)
  | .plain => (d.setReg Off.timSetCtrl (value &&& 3#32), none)
  | .wait v => ((d.setReg Off.timSetCtrl (value &&& 3#32)).onTim (fun t => { t with setWait := some v }), none)
  | .apply v => (d.setReg Off.timSetCtrl (value &&& 3#32)).applySet c v

/-- A host's write of it (R548, R604). -/
def timSetApplyOp (value : Word) (c : Ctx) (d : Dev) : Dev × Option Nat :=
  if !d.open6 then (d, none)
  else if (d.gate c Mst.host true Off.timSetCtrl).ok then timSetDo (Dev.ruleViolation c Off.timSetCtrl) value c d
  else (d.hostWrite c Off.timSetCtrl (fun _ => .drop), none)

def execTimSetApply (value : Word) (s : State) : Host.Outcome State Fault Refusal := s.onTime (timSetApplyOp value)

/-- TIM_FENCE_START (R39, R643). -/
def execTimFenceStart (s : State) : Host.Outcome State Fault Refusal :=
  s.onDev (fun c d => d.hostWrite c Off.timFence (timFenceW c 1#32))

/-- TIM_FENCE_DONE (R39, R643). -/
def timFenceDoneOp (_ : Ctx) (d : Dev) : Dev := d.onTim (fun t => { t with fenceBusy := false })

def execTimFenceDone (s : State) : Host.Outcome State Fault Refusal := s.onDev timFenceDoneOp

end Sys2Proof.Machine
end

