-- ==== Sys2Proof/Machine/Keys.lean ====
section
/-! DEFINITION. Key blocks, slots as step B sees them, the grove caches, and step B itself (R219, R220, R333 to R341,
R348 to R358). -/

namespace Sys2Proof.Machine

/-! ### Stored keys (R289, R337, R340) -/

/-- Field length of a curve algorithm. -/
def fieldLen (alg bits : Nat) : Nat :=
  if alg = 0x81 ∨ alg = 0x84 then 32 else if alg = 0x82 ∨ alg = 0x85 then 48 else if alg = 0x83 then 66 else ceilDiv bits 8

/-- Private part of the stored form, in bytes (R289). -/
def privLen (alg bits : Nat) : Nat :=
  if alg = 0xA0 then 5 * ceilDiv (ceilDiv bits 8) 2 + 8
  else if alg ≤ 0x86 then fieldLen alg bits
  else if alg = 0x90 ∨ alg = 0x91 ∨ (0xC0 ≤ alg ∧ alg ≤ 0xC2) then 32
  else if 0xB0 ≤ alg ∧ alg ≤ 0xB2 then 64
  else if alg = 0xF2 then 112 else if alg = 0xF1 ∨ alg = 0xF3 then 96 else 0
/-- Public part of the stored form, in bytes, without the curve digest (R289). -/
def pubPart (alg bits : Nat) : Nat :=
  if alg = 0xA0 then ceilDiv bits 8 + 8
  else if alg ≤ 0x86 then 1 + 2 * fieldLen alg bits
  else if alg = 0x90 ∨ alg = 0x91 then 32
  else if 0xB0 ≤ alg ∧ alg ≤ 0xB2 then kemEk (alg - 0x80)
  else if 0xC0 ≤ alg ∧ alg ≤ 0xC2 then dsaPk (alg - 0x80)
  else if alg = 0xF1 then 65 + 1184 else if alg = 0xF2 then 97 + 1568 else if alg = 0xF3 then 32 + 1184 else 0
/-- Curve digest that goes with a key of algorithm 0x06 (R289). -/
def digestLen (alg : Nat) : Nat := if alg = 0x86 then 32 else 0
/-- Stored size in bytes of R289, with the public part. -/
def storedSize (alg part bits : Nat) : Nat := (if part != 2 then privLen alg bits else 0) + pubPart alg bits + digestLen alg

/-- Asymmetric material: its size in bits (2 bytes), its algorithm ID of R292 and its part, then, for algorithm 0x06, the
curve digest, then the private and the public part (log entry 24). -/
def keyBits (mat : Bytes) : Nat := le mat 0 2
def asymMat (alg part bits : Nat) (curve priv pub : Bytes) : Bytes := toLe 2 bits ++ toLe 1 alg ++ toLe 1 part ++ curve ++ priv ++ pub
/-- The algorithm of asymmetric material. -/
def matAlg (mat : Bytes) : Nat := 0x80 + byteAt mat 2 % 0x80
/-- Its private part. -/
def matPriv (mat : Bytes) : Bytes := bsub mat (4 + digestLen (matAlg mat)) (privLen (matAlg mat) (keyBits mat))
/-- Its public part. -/
def matPub (mat : Bytes) : Bytes := mat.drop (mat.length - pubPart (matAlg mat) (keyBits mat))
/-- The material has the length of its form, and for RSA the bounds of R294. -/
def matOk (mat : Bytes) : Bool :=
  let alg := matAlg mat
  let part := byteAt mat 3
  decide (4 ≤ mat.length ∧ byteAt mat 2 < 0x80) && (part == 1 || part == 2)
    && decide (0 < pubPart alg (keyBits mat)) && mat.length == 4 + storedSize alg part (keyBits mat)

/-! RSA material (R289): e, p, q, d mod (p−1), d mod (q−1), q⁻¹ mod p, then n and e. -/
def rsaHalf (mat : Bytes) : Nat := ceilDiv (ceilDiv (keyBits mat) 8) 2
def rsaPriv (mat : Bytes) (i : Nat) : Nat := beNat (bsub (matPriv mat) (8 + i * rsaHalf mat) (rsaHalf mat))
def rsaN (mat : Bytes) : Nat := beNat ((matPub mat).take (ceilDiv (keyBits mat) 8))
def rsaE (mat : Bytes) : Nat := beNat ((matPub mat).drop (ceilDiv (keyBits mat) 8))

/-- Extension blocks of a half (R340). -/
def extBlocks (alg part bits : Nat) : Nat :=
  if alg < 0x80 then 0
  else if alg = 0x86 ∧ part ≠ 2 ∧ 512 < bits then 2
  else ceilDiv (storedSize alg part bits + 16) 256

/-! ### Domains and their keys (R322, R326 to R329) -/

/-- The device storage key, and the key that wraps the domain records (R319, R322). -/
def Otp.dsk (o : Otp) (bbkek : Bytes) : Bytes := kdf256 (o.rootKey ++ bbkek) (asciiBytes "DYZHATIK DSK 1") unitIdBytes 32
def Otp.domainKey (o : Otp) (bbkek : Bytes) : Bytes := kdf256 (o.dsk bbkek) (asciiBytes "DYZHATIK DOMAIN 1") unitIdBytes 32
/-- The identity key, a P-384 scalar from 448 bits (R322; FIPS 186-5, extra random bits). -/
def Otp.identityKey (o : Otp) : Nat :=
  beNat (kdf256 o.rootKey (asciiBytes "DYZHATIK IDENTITY 1") unitIdBytes 56) % ((Curve.named 2).n - 1) + 1
/-- A signature by the identity key: ECDSA P-384 over SHA-384 (R413, R510; log entry 85). -/
def Otp.identitySign (o : Otp) (msg : Bytes) : Bytes :=
  (Curve.named 2).sign 48 2 o.identityKey (sha384 msg) []
/-- The LSK of a domain under a DMK. -/
def lskOf (dmk : Bytes) (dom : Nat) : Bytes := kdf256 dmk lblLsk (toBe 2 dom) 32
/-- The stream sealing key (R274). -/
def streamKeyOf (dmk : Bytes) (dom : Nat) : Bytes := kdf256 dmk lblStream (toBe 2 dom) 32
/-- The LSK behaves as a K1 KBPK of mode B, not exportable (R334). -/
def lskAttr : KeyAttr := { alg := 0x13, usage := 0x4B31, mode := 0x42, exp := 0x4E }

/-- The DMK that a generation field names for the LSK (R329, R333). -/
def Domain.dmkFor (m : Domain) (gen : Nat) : Option (Nat × Bytes) :=
  if gen = 0 ∨ gen = m.gen then some (m.gen, m.dmk)
  else if gen = m.prevGen ∧ (m.prevValid ∨ m.retiring) then some (m.prevGen, m.prevDmk)
  else none

/-! ### Key blocks of ANSI X9.143 (R219, R220, R356, R357; log entries 18 and 79) -/

/-- Hexadecimal digits in ASCII, and back. -/
def hexDigit (n : Nat) : Byte := BitVec.ofNat 8 (if n < 10 then 0x30 + n else 0x37 + n)
def hexVal (b : Byte) : Option Nat :=
  if 0x30 ≤ b.toNat ∧ b.toNat ≤ 0x39 then some (b.toNat - 0x30) else if 0x41 ≤ b.toNat ∧ b.toNat ≤ 0x46 then some (b.toNat - 0x37) else none
def toHex (b : Bytes) : Bytes := (nibbles b).map hexDigit
def ofHex (b : Bytes) : Option Bytes := if b.length % 2 = 0 then (b.mapM hexVal).map ofNibbles else none
/-- A number as decimal digits in ASCII. -/
def toDec (n v : Nat) : Bytes := (List.range n).map (fun i => BitVec.ofNat 8 (0x30 + v / 10 ^ (n - 1 - i) % 10))
/-- Decimal digits in ASCII as a number. -/
def ofDec (b : Bytes) : Option Nat := if b.all isDigit then some (b.foldl (fun a x => a * 10 + (x.toNat - 0x30)) 0) else none

/-- The header fields of a key block: version, algorithm, usage, mode, exportability. -/
structure KbHead where
  ver  : Nat
  alg  : Nat
  use  : Nat
  mode : Nat
  exp  : Nat

def kbHead (b : Bytes) : KbHead :=
  { ver := byteAt b 0, alg := byteAt b 7, use := byteAt b 5 * 256 + byteAt b 6, mode := byteAt b 8, exp := byteAt b 11 }
/-- The length that the header states, four decimal digits. -/
def kbStated (b : Bytes) : Option Nat := if 5 ≤ b.length then ofDec (bsub b 1 4) else none

/-- `n` optional blocks from the head of `b`: identifier and data of each, and the bytes that they take. -/
def kbOptsFrom : Nat → Bytes → Option (List (Bytes × Bytes) × Nat)
  | 0, _ => some ([], 0)
  | n + 1, b =>
    let long := bsub b 2 4 == asciiBytes "0002"
    let hd := if long then 10 else 4
    match ofHex (if long then bsub b 6 4 else bsub b 2 2) with
    | none => none
    | some l =>
      let k := beNat l
      if l.isEmpty ∨ k < hd ∨ b.length < k then none
      else match kbOptsFrom n (b.drop k) with
        | some (r, m) => some ((b.take 2, bsub b hd (k - hd)) :: r, m + k)
        | none => none
/-- The optional blocks of a key block: well formed where they are as many as the header states and end on a whole cipher
block; none where they are malformed (R356, HEADER). -/
def kbOpts (n : Nat) (b : Bytes) : Option (List (Bytes × Bytes) × Nat) :=
  match ofDec (bsub b 12 2), kbOptsFrom ((ofDec (bsub b 12 2)).getD 0) (b.drop 16) with
  | some _, some (l, m) => if b.length < 16 ∨ (16 + m) % n ≠ 0 then none else some (l, 16 + m)
  | _, _ => none
/-- An optional block: identifier, length of the whole, in four digits after 0002 where two do not hold it, and data. -/
def kbOpt (id data : Bytes) : Bytes :=
  id ++ (if data.length + 4 < 256 then toHex (toBe 1 (data.length + 4)) else asciiBytes "0002" ++ toHex (toBe 2 (data.length + 10))) ++ data

/-- The key algorithm of a header and its material: TDES, AES, HMAC, else asymmetric by its own form. -/
def kbAlg (hd : Nat) (mat : Bytes) : Option Nat :=
  let n := mat.length
  if hd = 0x54 then (if n = 16 then some 1 else if n = 24 then some 2 else none)
  else if hd = 0x41 then (if n = 16 then some 0x11 else if n = 24 then some 0x12 else if n = 32 then some 0x13 else none)
  else if hd = 0x48 then (if n = 32 then some 0x21 else none)
  else if matOk mat then some (matAlg mat) else none
/-- The algorithm letter of a header. -/
def kbLetter (alg : Nat) : Byte :=
  if algIsTdes alg then 0x54 else if algIsAes alg then 0x41 else if alg = 0x21 then 0x48 else if alg = 0xA0 then 0x52 else 0x45
/-- Header codes that the device knows: algorithm letters, usages, modes and exportability of X9.143 (log entry 18). -/
def kbHeadOk (h : KbHead) : Bool :=
  [0x54, 0x41, 0x48, 0x52, 0x45].contains h.alg
    && (usageTable.any (fun r => r.1 == h.use) || [0x4431, 0x4B32, 0x4B33, 0x5330, 0x5331, 0x5332].contains h.use)
    && [0x42, 0x43, 0x44, 0x45, 0x47, 0x4E, 0x53, 0x54, 0x56, 0x58, 0x59].contains h.mode && [0x45, 0x4E, 0x53].contains h.exp

/-- The encryption key and the authentication key of a KBPK: CMAC in counter mode. -/
def kbDerive (alg : Nat) (kbpk : Bytes) (mac : Bool) : Bytes :=
  let n := blkSize alg
  let l := kbpk.length
  let ind := if alg = 1 then 0 else if alg = 2 then 1 else if alg = 0x11 then 2 else if alg = 0x12 then 3 else 4
  ((List.range (ceilDiv l n)).flatMap (fun i =>
    cmac alg kbpk (toBe 1 (i + 1) ++ toBe 2 (if mac then 1 else 0) ++ [0] ++ toBe 2 ind ++ toBe 2 (8 * l)))).take l

/-- What follows the header: the key length, the key and random padding under the encryption key, chained from the MAC of
header and clear text, then the MAC. -/
def kbSeal (alg : Nat) (kbpk hdr mat rnd : Bytes) : Bytes :=
  let n := blkSize alg
  let clear := toBe 2 (8 * mat.length) ++ mat
  let p := clear ++ rnd.take ((n - clear.length % n) % n)
  let tag := cmac alg (kbDerive alg kbpk true) (hdr ++ p)
  toHex (cbcEnc alg (kbDerive alg kbpk false) tag p).1 ++ toHex tag
/-- The key of a block whose header takes `hl` bytes: none where authentication or the decrypted content fails (R357). -/
def kbUnseal (alg : Nat) (kbpk blk : Bytes) (hl : Nat) : Option Bytes :=
  let n := blkSize alg
  match ofHex (blk.drop hl) with
  | none => none
  | some b =>
    let ct := b.take (b.length - n)
    let tag := b.drop (b.length - n)
    let p := (cbcDec alg (kbDerive alg kbpk false) tag ct).1
    let bits := beNat (p.take 2)
    if b.length < 2 * n ∨ ct.length % n ≠ 0 ∨ cmac alg (kbDerive alg kbpk true) (blk.take hl ++ p) ≠ tag
        ∨ bits % 8 ≠ 0 ∨ p.length < 2 + bits / 8 then none
    else some (bsub p 2 (bits / 8))

/-- What a key block says of its key, where it parses. -/
structure KbKey where
  attr : KeyAttr
  mat  : Bytes
  opts : List (Bytes × Bytes)

/-- The parse of a key block under a KBPK: a KEYBLOCK_INVALID sub-status, or the key. -/
def kbParseAll (kbpkAlg : Nat) (kbpk blk : Bytes) (onlyD : Bool) : Except Nat KbKey :=
  let h := kbHead blk
  let n := blkSize kbpkAlg
  if kbStated blk ≠ some blk.length ∨ blk.length % n ≠ 0 then .error 1
  else if h.ver ≠ (if onlyD ∨ algIsAes kbpkAlg then 0x44 else 0x42) then .error 2
  else if kbHeadOk h = false then .error 3
  else match kbOpts n blk with
    | none => .error 3
    | some (opts, hl) =>
      match kbUnseal kbpkAlg kbpk blk hl with
      | none => .error 4
      | some mat => match kbAlg h.alg mat with
        | none => .error 4
        | some alg =>
          if algIsTdes alg ∧ (oddParity mat ≠ mat ∨ tdesWeak mat = true) then .error 4
          else .ok { attr := { alg := alg, part := if 0x80 ≤ alg then byteAt mat 3 else 0, usage := h.use, mode := h.mode,
                               exp := if h.exp = 0x53 then 0x4E else h.exp,
                               ksi := (opts.find? (fun o => o.1 == asciiBytes "KS")).bind (fun o => ofHex o.2),
                               curve := if alg = 0x86 then some (bsub mat 4 32) else none },
                     mat := mat, opts := opts }
def kbParse (kbpkAlg : Nat) (kbpk blk : Bytes) (onlyD : Bool) : Except Nat (KeyAttr × Bytes) :=
  match kbParseAll kbpkAlg kbpk blk onlyD with
  | .error x => .error x
  | .ok k => .ok (k.attr, k.mat)

/-- A key block with a header and optional blocks, then KC by the default method and PB to a whole cipher block, which is
always there (R220, R222; log entry 79). -/
def kbBuild (kbpkAlg : Nat) (kbpk head : Bytes) (opts : List (Bytes × Bytes)) (alg : Nat) (mat rnd : Bytes) : Bytes :=
  let n := blkSize kbpkAlg
  let body := opts.flatMap (fun o => kbOpt o.1 o.2)
    ++ kbOpt (asciiBytes "KC") (toHex (Config.kcCode (kcvMethod 0 alg) :: kcv 0 (kcvLen 0 alg) alg mat))
  let pb := kbOpt (asciiBytes "PB") ((toHex (rnd.drop 16)).take ((n - (body.length + 20) % n) % n))
  let clear := 2 + mat.length
  let len := 16 + body.length + pb.length + 2 * (ceilDiv clear n * n) + 2 * n
  let hdr := [if algIsAes kbpkAlg then 0x44 else 0x42] ++ toDec 4 len ++ bsub head 5 7 ++ toDec 2 (opts.length + 2) ++ bsub head 14 2 ++ body ++ pb
  hdr ++ kbSeal kbpkAlg kbpk hdr mat (rnd.take 16)

/-- Bytes 0 to 15 of a header for a key. -/
def kbHeadOf (a : KeyAttr) : Bytes :=
  zeros 5 ++ toBe 2 a.usage ++ [kbLetter a.alg] ++ toBe 1 a.mode ++ toDec 2 0 ++ toBe 1 a.exp ++ toDec 2 0 ++ toDec 2 0
/-- A key block that the device writes for a key (R219, R220): KS where the key has a key set identifier, KC and PB. -/
def kbWrite (kbpkAlg : Nat) (kbpk : Bytes) (a : KeyAttr) (mat : Bytes) (rnd : RndOut) : Bytes :=
  kbBuild kbpkAlg kbpk (kbHeadOf a) ((a.ksi.map (fun x => (asciiBytes "KS", toHex x))).toList) a.alg mat (rnd.bytes 32)
/-- The same with another key's block as its pattern: its header and its optional blocks other than KC and PB stay (R222). -/
def kbRewrite (kbpkAlg : Nat) (kbpk blk : Bytes) (k : KbKey) (rnd : RndOut) : Bytes :=
  kbBuild kbpkAlg kbpk blk (k.opts.filter (fun o => o.1 != asciiBytes "KC" && o.1 != asciiBytes "PB")) k.attr.alg k.mat (rnd.bytes 32)
/-- Length of the key block that the device writes for a key. -/
def kbLen (kbpkAlg : Nat) (kbpk : Bytes) (a : KeyAttr) (mat : Bytes) : Nat := (kbWrite kbpkAlg kbpk a mat {}).length

/-! ### What a verb asks of a key (R184, R264, R295) -/

/-- Usages, modes and algorithms accepted; an empty list accepts all. `part` 1: a private key, 2: a public part. -/
structure KeyNeed where
  usages : List Nat := []
  modes  : List Nat := []
  algs   : List Nat := []
  part   : Nat := 0

def tdesAes : List Nat := [0x01, 0x02, 0x11, 0x12, 0x13]
def aesAlgs : List Nat := [0x11, 0x12, 0x13]
def pinAlgs (f : Nat) : List Nat := if f = 4 then aesAlgs else [0x01, 0x02]

/-- The need of key `idx` of an item; none where the handle is absent or names a target. -/
def needOf (d : Desc) (idx : Nat) : Option KeyNeed :=
  let o := d.op
  let p := d.p
  let h := if idx = 1 then d.key1 else d.key2
  let first := idx == 1
  let pub := [0x0802, 0x0811, 0x0813, 0x0912].contains o
  let mac := fun (alg : Nat) => if alg = 1 ∨ alg = 0x17 then ([0x4D31], [0x01, 0x02])
    else if alg = 3 ∨ alg = 0x18 then ([0x4D33], [0x01]) else if alg = 6 ∨ alg = 0x10 then ([0x4D36], aesAlgs) else ([0x4D37], [0x21])
  if h = 0 then none
  else if o = 0x0101 then some (if first then ⟨[0x5030], [0x44, 0x42], pinAlgs (p 76), 0⟩ else ⟨[0x5030], [0x45, 0x42], pinAlgs (p 77), 0⟩)
  else if o = 0x0102 then some (if first then ⟨[0x5030], [0x44, 0x42], pinAlgs (p 76), 0⟩ else ⟨[0x5631], [0x56, 0x43], tdesAes, 0⟩)
  else if o = 0x0103 then some (if first then ⟨[0x5030], [0x44, 0x42], pinAlgs (p 76), 0⟩ else ⟨[0x5030], [0x44, 0x42], aesAlgs, 0⟩)
  else if o = 0x0104 then some (if first then ⟨[0x5030], [0x45, 0x42], pinAlgs (p 76), 0⟩ else ⟨[0x5631], [0x47, 0x43], tdesAes, 0⟩)
  else if o = 0x0201 then some ⟨[0x4530], [0x58], tdesAes, 0⟩
  else if o = 0x0202 then some ⟨[0x4330], [0x47, 0x43], [0x01], 0⟩
  else if o = 0x0203 then some ⟨[0x4330], [0x56, 0x43], [0x01], 0⟩
  else if o = 0x0204 then some ⟨[0x4534], [0x58], tdesAes, 0⟩
  else if o = 0x0301 ∨ o = 0x0302 then
    let m := mac (p 76)
    some ⟨m.1, if o = 0x0301 then [0x47, 0x43] else [0x56, 0x43], m.2, 0⟩
  else if o = 0x0401 then (if first then some ⟨[0x4B31], [0x44, 0x42], tdesAes, 0⟩ else none)
  else if o = 0x0402 then some (if first then {} else ⟨[0x4B31], [0x45, 0x42], tdesAes, 0⟩)
  else if o = 0x0403 then some (if first then ⟨[0x4B31], [0x44, 0x42], tdesAes, 0⟩ else ⟨[0x4B31], [0x45, 0x42], tdesAes, 0⟩)
  else if o = 0x0404 then (if first then some ⟨[0x4B31], [0x45, 0x42], tdesAes, 0⟩ else none)
  else if o = 0x0405 then some {}
  else if o = 0x0410 ∨ o = 0x0411 then some ⟨[0x4B33], [], [0xF0 + p 76], if first then 1 else 2⟩
  else if o = 0x0501 ∨ o = 0x0502 ∨ o = 0x0503 then
    some (if first then ⟨[0x4230], [0x58], aesAlgs, 0⟩ else if o = 0x0501 then ⟨[0x5030], [0x45, 0x42], pinAlgs (p 77), 0⟩
      else ⟨[0x4B31], [0x45, 0x42], tdesAes, 0⟩)
  else if o = 0x0511 ∨ o = 0x0512 then
    some (if first then ⟨[0x4230], [0x58], [0x01], 0⟩ else ⟨[0x5030], [0x45, 0x42], pinAlgs (p 77), 0⟩)
  else if isXts o then
    some (if first then ⟨[0x4430], if o = 0x0606 then [0x45, 0x42] else [0x44, 0x42], [0x11, 0x13], 0⟩ else ⟨[0x4430], [0x45, 0x42], [0x11, 0x13], 0⟩)
  else if bulkOps.contains o then
    let e := [0x0601, 0x0602, 0x0604, 0x0611].contains o
    let dd := [0x0601, 0x0603, 0x0605, 0x0612].contains o
    some ⟨[0x4430], [0x42] ++ (if e then [0x45] else []) ++ (if dd then [0x44] else []), if isTdesCbc o then [0x01, 0x02] else aesAlgs, 0⟩
  else if o = 0x0702 ∨ o = 0x0703 then
    let m := mac (if 0x11 ≤ p 77 ∧ p 77 ≤ 0x16 then 7 else p 77)
    some ⟨m.1, if o = 0x0702 then [0x47, 0x43] else [0x56, 0x43], m.2, 0⟩
  else if o = 0x0803 then (if first then some ⟨[0x4431], [0x44], [0xA0], 1⟩ else none)
  else if o = 0x0804 then some (if first then {} else ⟨[0x4431], [0x45], [0xA0], 2⟩)
  else if o = 0x0814 then (if first then some ⟨[0x4B33], [0x58], [0x80 + p 76], 1⟩ else none)
  else if o = 0x0821 then some ⟨[], [], [0x80 + p 76], 2⟩
  else if o = 0x0902 then (if first then some ⟨[0x4B33], [0x45], [0x80 + p 76], 2⟩ else none)
  else if o = 0x0903 then (if first then some ⟨[0x4B33], [0x44], [0x80 + p 76], 1⟩ else none)
  else if o = 0x0820 ∨ o = 0x0901 ∨ o = 0x0910 then none
  else some ⟨[0x5330], if pub then [0x56] else [0x53], [0x80 + p 76], if pub then 2 else 1⟩

/-- Attributes that a verb will give to the key it writes, where its parameters state them (R221, R225, R296). -/
def newAttr? (d : Desc) : Option KeyAttr :=
  let o := d.op
  let p := d.p
  if o = 0x0404 then some { alg := p 76, usage := d.chars 77, mode := p 79, exp := p 80 }
  else if o = 0x0410 ∨ o = 0x0411 then some { alg := p 77, usage := d.chars 78, mode := p 80, exp := p 81 }
  else if [0x0803, 0x0814, 0x0902, 0x0903].contains o then some { alg := p 84, usage := d.chars 85, mode := p 87, exp := p 88 }
  else if o = 0x0820 ∨ o = 0x0901 ∨ o = 0x0910 then
    some { alg := 0x80 + p 76, part := 1, usage := d.chars 85, mode := p 87, exp := p 88,
           curve := if p 76 = 6 then some [] else none }
  else none

/-- A sapling's attributes fit the active half of its slot (R338). -/
def saplingFits (k : Key) (t : Nat × Nat) (a : KeyAttr) : Bool :=
  match (k.slot? t.1 t.2).bind (fun s => s.act) with
  | none => true
  | some h => h.attr.alg == a.alg && h.attr.usage == a.usage && !(a.exp == 0x45 && h.attr.exp == 0x4E)

/-- The verb data of an item (R187). -/
def verbData (d : Desc) (input : Bytes) : Bytes := input.drop (d.kb1 + d.kb2)
/-- Key block `idx` of an item's input. -/
def kbBytes (d : Desc) (input : Bytes) (idx : Nat) : Bytes := if idx = 1 then input.take d.kb1 else bsub input d.kb1 d.kb2

/-- Check 4 to check 6 of R354 on key `idx`, and the check-value method of R190: a KEY_USAGE_DENIED sub-status. -/
def usageFail (d : Desc) (input : Bytes) (idx : Nat) (prev : List KeyRes) (k : KeyRes) : Option Nat :=
  match needOf d idx with
  | none => none
  | some n =>
    let o := d.op
    let a := k.attr
    let first := prev.getD 0 k
    let bits := keyBits k.mat
    let exports := idx == 1 && (o == 0x0402 || o == 0x0804)
    let weak :=
      if o = 0x0402 ∧ idx = 2 then decide (algRank a.alg < algRank first.attr.alg)
      else if o = 0x0404 then decide (algRank a.alg < algRank (d.p 76))
      else if (o = 0x0501 ∨ o = 0x0502 ∨ o = 0x0503) ∧ idx = 1 then decide (algRank a.alg < algRank (d.p 76))
      else if o = 0x0503 ∧ idx = 2 then decide (algRank a.alg < algRank (d.p 76))
      else if o = 0x0804 ∧ idx = 2 then decide (rsaRank bits < algRank first.attr.alg)
      else false
    let partBad := if n.part = 1 then a.part != 1 else if n.part = 2 then a.part == 0 else false
    let rsaBad := a.alg == 0xA0 && [0x0801, 0x0802, 0x0803, 0x0804, 0x0821].contains o
      && (decide (bits < (if o = 0x0802 then 1024 else 2048) ∨ 8192 < bits ∨ rsaE k.mat < 3) || rsaE k.mat % 2 == 0)
    let sameBad := isXts o && idx == 2 && a.alg != first.attr.alg
    let curveBad := d.p 76 == 6 && a.alg == 0x86 && o != 0x0821 && a.curve != some (sha256 ((verbData d input).take (curveBlk d)))
    let sizeBad := idx == 2 && (
      (o == 0x0402 && decide (512 < kbLen a.alg k.mat first.attr first.mat))
        || (o == 0x0804 && decide (ceilDiv bits 8 < first.mat.length + 2 * hashLen (d.p 78) + 2)))
    let subjAlg := if o = 0x0401 then (let h := (kbHead (verbData d input)).alg; if h = 0x54 then 1 else if h = 0x41 then 0x11 else if h = 0x48 then 0x21 else 0x80)
      else if o = 0x0404 then d.p 76 else a.alg
    let method := if o = 0x0404 then d.p 81 else if o = 0x0401 ∨ o = 0x0405 then d.p 76 else 0
    if n.usages ≠ [] ∧ n.usages.contains a.usage = false then some 1
    else if a.cust then some 6
    else if k.sap ∧ o ≠ 0x0405 then some 7
    else if exports ∧ a.exp ≠ 0x45 then some 4
    else if weak then some 5
    else if n.modes ≠ [] ∧ n.modes.contains a.mode = false then some 2
    else if (n.algs ≠ [] ∧ n.algs.contains a.alg = false) ∨ partBad ∨ rsaBad ∨ sameBad ∨ curveBad ∨ sizeBad then some 3
    else if idx = 1 ∧ kcvSuits method subjAlg = false then some 9
    else none

/-- Check 7: the validity window (R41, R358), as status and sub-status. -/
def windowFail (c : Ctx) (d : Dev) (a : KeyAttr) : Option (Nat × Nat) :=
  if a.na = 0 then none
  else match d.tim.state with
    | .unset => some (0x21, 1)
    | .freeRun =>
      if !bit (d.reg Off.timRefCfg) 4 then some (0x21, 2)
      else if c.now < a.nb ∧ a.nb ≤ a.na then some (0x16, 1) else if a.na ≤ c.now ∨ a.na < a.nb then some (0x16, 2) else none
    | _ => if c.now < a.nb ∧ a.nb ≤ a.na then some (0x16, 1) else if a.na ≤ c.now ∨ a.na < a.nb then some (0x16, 2) else none

/-! ### Resolution of a handle -/

/-- What a handle resolves to: a failure, a load that is needed, or a key. -/
inductive Res where
  | fail (st sub : Nat) | miss | hit (k : KeyRes)

/-- The half of an existing slot that a generation names (R333): the key and whether it is the sapling. -/
def Slot.named (s : Slot) (gen : Nat) : Option (Half × Bool) :=
  match s.act, s.sap with
  | some a, sp =>
    if gen = 0 ∨ gen = a.attr.gen then some (a, false)
    else match sp with | some b => if gen = b.attr.gen then some (b, true) else none | none => none
  | none, some b => if gen ≠ 0 ∧ gen = b.attr.gen then some (b, true) else none
  | none, none => none

/-- Check 1 and check 2 of R354 from the store, as a load makes them. -/
def Dev.loadKey (d : Dev) (o : Otp) (h : Nat) (kb : Bytes) : Res :=
  let k := d.key
  let dom := hDom h
  let sl := hSlot h
  let m := k.domain dom
  if k.store ≠ .ready ∨ o.root = 0 then .fail 0x14 4
  else if m.state = .empty then .fail 0x14 3
  else if sl ≤ 0xFFFD then
    match k.slot? dom sl with
    | none => .fail 0x14 1
    | some s =>
      if hGen h = 0 ∧ s.act = none then .fail 0x14 1
      else match s.named (hGen h) with
        | none => .fail 0x14 2
        | some (x, sap) => .hit { dom := dom, slot := sl, gen := x.attr.gen, attr := x.attr, mat := x.mat, sap := sap }
  else match m.dmkFor (hGen h) with
    | none => .fail 0x14 2
    | some (g, dmk) =>
      if sl = 0xFFFE then .hit { dom := dom, slot := sl, gen := g, attr := lskAttr, mat := lskOf dmk dom }
      else match kbParse 0x13 (lskOf dmk dom) kb true with
        | .error x => .fail 0x13 x
        | .ok (a, mat) => .hit { dom := dom, slot := sl, gen := g, attr := a, mat := mat, kb := kb }

/-- A cache entry serves what a load of the handle would give. -/
def CacheEnt.serves (e : CacheEnt) (g : Nat) (r : KeyRes) : Bool :=
  e.grove == g && e.dom == r.dom && e.slot == r.slot && e.gen == r.gen && e.kb == r.kb && !e.stale

/-- A superseded entry that a grove still holds and that a handle would hit (R348). -/
def CacheEnt.old (e : CacheEnt) (g h : Nat) (kb : Bytes) : Bool :=
  e.grove == g && e.stale && e.dom == hDom h && e.slot == hSlot h && e.kb == kb && (hGen h == 0 || hGen h == e.gen)

/-- The key that an entry holds (R232). -/
def CacheEnt.mat (e : CacheEnt) : Bytes := unshare e.shares
def CacheEnt.res (e : CacheEnt) : KeyRes := { dom := e.dom, slot := e.slot, gen := e.gen, attr := e.attr, mat := e.mat, kb := e.kb }

/-- A grove that still holds superseded entries may take the commits up now: a free choice (R348; log entry 7). A pinned
entry stays until its items have finished (R260). -/
def Dev.takeUp (g : Nat) (d : Dev) : Dev :=
  if d.key.cache.any (fun e => e.grove == g && e.stale && e.pins.isEmpty) then
    let d1 := if Config.freeBool d.rng.ctr g then
        { d with key := { d.key with cache := d.key.cache.filter (fun e => !(e.grove == g && e.stale && e.pins.isEmpty)) } }
      else d
    d1.draw
  else d

/-- Resolve a handle in a grove: the old entry while the grove has not taken the commit up (R348), the cache, or a
load. -/
def Dev.resolve (d : Dev) (o : Otp) (g h : Nat) (kb : Bytes) : Res :=
  match d.key.cache.find? (fun e => e.old g h kb) with
  | some e => .hit e.res
  | none =>
    match d.loadKey o h kb with
    | .hit r => if d.key.cache.any (fun e => e.serves g r) then .hit r else .miss
    | _ => .miss

/-- Pin the entry of a resolved key for an item, and count the hit (R351). -/
def Key.pin (g slot : Nat) (r : KeyRes) (k : Key) : Key :=
  let here := fun (e : CacheEnt) => e.grove == g && e.dom == r.dom && e.slot == r.slot && e.gen == r.gen && e.kb == r.kb
  let f := fun (e : CacheEnt) => { e with pins := if e.pins.contains slot then e.pins else slot :: e.pins, ref := true }
  { k with cache := updWhere here f k.cache }
def Key.unpin (slot : Nat) (k : Key) : Key :=
  { k with cache := k.cache.map (fun e => { e with pins := e.pins.filter (· != slot) }) }
def bumpAt (n : Nat) (l : List Nat) : List Nat := l.mapIdx (fun i x => if i = n then x + 1 else x)

/-- A loaded key as the cache holds it, in shares with masks from `m`: an AES key in three, any other in two (R232, R349). -/
def KeyRes.entry (g slot : Nat) (m : Nat → Byte) (r : KeyRes) : CacheEnt :=
  { grove := g, dom := r.dom, slot := r.slot, gen := r.gen, kb := r.kb, attr := r.attr,
    shares := shareOf (algIsAes r.attr.alg) r.mat m, pins := [slot] }

/-- Insert a loaded entry; a full cache gives up an unpinned entry, one not recently used if there is one (R351). None
where every entry is pinned: the load waits. -/
def Key.insert (g slot : Nat) (m : Nat → Byte) (r : KeyRes) (k : Key) : Option Key :=
  let ent := r.entry g slot m
  let mine := k.cache.filter (fun e => e.grove == g)
  if k.cache.any (fun e => e.serves g r) then some (k.pin g slot r)
  else if mine.length < 65536 then some { k with cache := k.cache ++ [ent] }
  else
    let free := mine.filter (fun e => e.pins.isEmpty)
    match free.find? (fun e => !e.ref) with
    | some v => some { k with cache := k.cache.erase v ++ [ent] }
    | none => match free with
      | v :: _ => some { k with cache := (k.cache.erase v).map (fun e => if e.grove == g then { e with ref := false } else e) ++ [ent] }
      | [] => none

/-! ### Step B -/

/-- What step B of an item comes to for now. -/
inductive BRes where
  | fail (st sub : Nat) | load (idx : Nat) | ok (keys : List KeyRes) (resv : Option KeyResv)

/-- Extension blocks that an item's sapling will take (R341; log entry 25 for an imported asymmetric key). -/
def saplingExt (d : Desc) (input : Bytes) : Nat :=
  if d.op = 0x0401 then
    let n := d.dlen
    if [0x52, 0x45].contains (kbHead (verbData d input)).alg then ceilDiv (n + 16) 256 else 0
  else match newAttr? d with
    | some a => if a.alg = 0xA0 then extBlocks 0xA0 1 (le d 80 2) else extBlocks a.alg 1 (if d.p 76 = 6 then le d 80 2 else 0)
    | none => 0

/-- Check 8: room for a sapling in the quotas and the pool (R331, R341). -/
def Key.room (k : Key) (dom : Nat) (new : Bool) (ext : Nat) : Bool :=
  let m := k.domain dom
  let total := k.slots.length + (k.resvs.filter (fun r => r.new)).length
  let used := (k.slots.map Slot.ext).sum + (k.resvs.map (fun r => r.ext)).sum
  (!new || (decide (k.slotsUsed dom < m.slotQuota) && decide (total < 65536)))
    && (ext == 0 || (decide (k.extUsed dom + ext ≤ m.extQuota) && decide (used + ext ≤ 4096)))

/-- The checks on a target slot: check 1, check 3, check 4 and check 8 (R354). -/
def Dev.targetStep (d : Dev) (o : Otp) (slot dom : Nat) (desc : Desc) (input : Bytes) : Except (Nat × Nat) (Option KeyResv) :=
  match desc.target? with
  | none => .ok none
  | some t =>
    if t.1 ≠ dom then .error (0x30, 0x20)
    else if d.key.store ≠ .ready ∨ o.root = 0 then .error (0x14, 4)
    else if (d.key.domain t.1).state = .empty then .error (0x14, 3)
    else if (newAttr? desc).any (fun a => !saplingFits d.key t a) then .error (0x15, 8)
    else match d.key.resvs.find? (fun r => r.item == slot) with
      | some r => .ok (some r)
      | none =>
        let new := (d.key.slot? t.1 t.2).isNone && !d.key.resvs.any (fun r => r.dom == t.1 && r.slot == t.2 && r.new)
        let ext := saplingExt desc input
        if d.key.room t.1 new ext then .ok (some { item := slot, dom := t.1, slot := t.2, new := new, ext := ext })
        else .error (0x30, 0x22)

/-- The length checks of the RSA verbs once the modulus is known (R53, R297; log entry 20). -/
def rsaLenFail (d : Desc) (keys : List KeyRes) : Option (Nat × Nat) :=
  let o := d.op
  let k := ceilDiv (keyBits ((keys.getD (if o = 0x0804 then 1 else 0) { dom := 0, slot := 0, gen := 0, attr := {}, mat := [] }).mat)) 8
  if keys.isEmpty then none
  else if o = 0x0801 then (if d.outLen < k then some (0x10, 3) else none)
  else if o = 0x0802 then
    (if d.dlen < k ∨ (d.p 79 = 1 ∧ d.dlen ≠ k + hashLen (d.p 78)) then some (0x11, 0x43) else none)
  else if o = 0x0803 then (if d.dlen ≠ k then some (0x11, 0x43) else none)
  else if o = 0x0804 then (if d.outLen < k then some (0x10, 3) else none)
  else if o = 0x0821 ∧ d.p 76 = 0x20 then (if d.outLen < k then some (0x10, 3) else none)
  else none

/-- The curve of an item: named, or its curve block. -/
def curveOf (d : Desc) (v : Bytes) : Curve := if d.p 76 = 6 then Curve.ofBlock (curveL d) v else Curve.named (d.p 76)

/-- Byte length of the order n of the curve (R293). -/
def nLenOf (d : Desc) (v : Bytes) : Nat := if d.p 76 = 6 then (curveOf d v).nLen else curveL d

/-- The lengths of a curve verb that its data shows: a point has the length that its first byte gives it, and r and s have the
byte length of n (R293, R297; log entry 20). -/
def ecLenFail (d : Desc) (v : Bytes) : Option (Nat × Nat) :=
  let o := d.op
  let l := curveL d
  let cb := curveBlk d
  let nl := nLenOf d v
  let bad : Option (Nat × Nat) := some (0x11, 0x43)
  if [0x0810, 0x0811, 0x0814].contains o = false ∨ d.p 76 = 0x11 then none
  else if o = 0x0810 then (if d.outLen < 2 * nl then some (0x10, 3) else none)
  else
    let q := if o = 0x0811 ∧ d.key1 ≠ 0 then some 0 else ptLen l (byteAt v cb)
    match q with
    | none => bad
    | some n =>
      let base := cb + n + (if o = 0x0811 then 2 * nl else 0)
      if o = 0x0814 ∨ d.p 79 = 1 then (if d.dlen ≠ base + (if o = 0x0811 then hashLen (d.p 78) else 0) then bad else none)
      else if d.dlen < base then bad else none

/-- One key of step B: checks 1 to 7 (R354, R355). -/
def Dev.keyStep (c : Ctx) (d : Dev) (g dom : Nat) (desc : Desc) (input : Bytes) (idx : Nat) (prev : List KeyRes) : Res :=
  let h := if idx = 1 then desc.key1 else desc.key2
  if hDom h ≠ dom then .fail 0x30 0x20
  else match d.resolve c.otp g h (kbBytes desc input idx) with
    | .fail a b => .fail a b
    | .miss => .miss
    | .hit k =>
      match usageFail desc input idx prev k with
      | some x => .fail 0x15 x
      | none => match windowFail c d k.attr with
        | some x => .fail x.1 x.2
        | none => .hit k

/-- The stream sealing keys usable for a domain: the current generation first (R274, R329). -/
def Domain.streamDmks (m : Domain) : List Bytes := m.dmk :: (if m.prevValid || m.retiring then [m.prevDmk] else [])

/-- A part of a stream needs the domain's stream sealing key (R274; log entry 26). -/
def Dev.streamFail (d : Dev) (o : Otp) (desc : Desc) (dom : Nat) : Option (Nat × Nat) :=
  if (desc.cls = 6 ∨ desc.cls = 7) ∧ desc.p 76 ≠ 0 then
    if d.key.store ≠ .ready ∨ o.root = 0 then some (0x14, 4)
    else if (d.key.domain dom).state = .empty then some (0x14, 3) else none
  else none

/-- Step B of an item on a grove: key 1, then key 2, then the target, in the order of the checks (R192, R354). -/
def Dev.stepB (c : Ctx) (d : Dev) (i : Item) : BRes :=
  let desc : Desc := i.desc
  let tgt := fun (keys : List KeyRes) =>
    match d.targetStep c.otp i.slot i.dom desc i.input with
    | .error x => BRes.fail x.1 x.2
    | .ok r => match rsaLenFail desc keys with
      | some x => BRes.fail x.1 x.2
      | none => match d.streamFail c.otp desc i.dom with
        | some x => BRes.fail x.1 x.2
        | none => BRes.ok keys r
  let second := fun (keys : List KeyRes) =>
    if (needOf desc 2).isNone then tgt keys
    else match d.keyStep c i.grove i.dom desc i.input 2 keys with
      | .fail a b => BRes.fail a b
      | .miss => BRes.load 2
      | .hit k => tgt (keys ++ [k])
  if (ecLenFail desc (verbData desc i.input)).isSome then
    let x := (ecLenFail desc (verbData desc i.input)).getD (0x11, 0x43)
    .fail x.1 x.2
  else if desc.op = 0x0404 ∧ desc.key1 = 0 ∧ kcvSuits (desc.p 81) (desc.p 76) = false then .fail 0x15 9
  else if (needOf desc 1).isNone then second []
  else match d.keyStep c i.grove i.dom desc i.input 1 [] with
    | .fail a b => .fail a b
    | .miss => .load 1
    | .hit k => second [k]

/-! ### Mask demand (R238, R239; log entry 21) -/

/-- The key at a position; a blank one where the verb has none. -/
def keyAt (keys : List KeyRes) (n : Nat) : KeyRes := keys.getD n { dom := 0, slot := 0, gen := 0, attr := {}, mat := [] }

/-- Blocks of one pass under a key of an algorithm: AES or TDES. -/
def passMasks (alg : Nat) : Nat := if algIsAes alg then 8 else 2
/-- Compressions of an HMAC over `n` bytes: the padded key, the message with its padding, and two at the end. -/
def hmacMasks (hash n : Nat) : Nat := 2 * (1 + ceilDiv (n + (if hashRate hash = 128 then 17 else 9)) (hashRate hash) + 2)
/-- Passes of a CMAC over `n` bytes, its subkey pass among them. -/
def cmacMasks (alg n : Nat) : Nat := passMasks alg * (max 1 (ceilDiv n (blkSize alg)) + 1)
/-- ISO/IEC 9797-1 over `n` bytes under a padding method; algorithm 3 has two passes more. -/
def isoMasks (alg pad n : Nat) (three : Bool) : Nat :=
  passMasks alg * ((if pad = 1 then max 1 (ceilDiv n 8) else if pad = 2 then n / 8 + 1 else ceilDiv n 8 + 1) + (if three then 2 else 0))
/-- A check value of a key. -/
def kcvMasks (alg : Nat) : Nat := if 0x80 ≤ alg then 0 else if alg = 0x21 then hmacMasks 1 0 else max (cmacMasks alg (blkSize alg)) (passMasks alg)
/-- A PIN block in a format. -/
def pinMasks (fmt alg : Nat) : Nat := if fmt = 4 then 2 * passMasks alg else passMasks alg
/-- A key block of `n` bytes under a KBPK: its two derived keys, the cipher and the MAC. -/
def kbMasks (alg n : Nat) : Nat := 2 * cmacMasks alg (2 * blkSize alg) + passMasks alg * ceilDiv n (blkSize alg) + cmacMasks alg n
/-- A stream state record sealed or opened: its two derivations, 27 counter blocks, the hash key and the tag (R274). -/
def sealMasks : Nat := 2 * hmacMasks 1 64 + 29 * 8
/-- A derivation of R226 and R299 with the check value of what it gives. -/
def estMasks (alg : Nat) : Nat := hmacMasks 2 160 + hmacMasks 2 224 + kcvMasks alg
/-- A DUKPT working key, at the most one-bits that R228 allows. -/
def dukptMasks (aes : Bool) : Nat := if aes then 8 * 36 else 2 * 24

/-- Mask blocks that one lane draws for the work of a verb: the passes and keyed compressions of R238's table. -/
def workMasks (d : Desc) (keys : List KeyRes) : Nat :=
  let o := d.op
  let p := d.p
  let n := d.dlen
  let k := d.dataLen
  let a1 := (keyAt keys 0).attr.alg
  let a2 := (keyAt keys 1).attr.alg
  let seals := (if hasState (p 76) then sealMasks else 0) + (if putsState (p 76) then sealMasks else 0)
  let macN := n - (if o = 0x0302 then p 79 else 0)
  if o = 0x0101 then pinMasks (p 76) a1 + pinMasks (p 77) a2
  else if o = 0x0102 then pinMasks (p 76) a1 + passMasks a2
  else if o = 0x0103 then pinMasks (p 76) a1 + pinMasks 4 a2
  else if o = 0x0104 then pinMasks (p 76) a1 + passMasks a2
  else if o = 0x0201 then 5 * passMasks a1 + (if algIsAes a1 then cmacMasks a1 (n - 43) else isoMasks a1 2 (n - 43) true) + cmacMasks a1 20
  else if o = 0x0202 ∨ o = 0x0203 then 2 * passMasks a1
  else if o = 0x0204 then 2 * passMasks a1 + (if algIsAes a1 then passMasks a1 else isoMasks a1 1 16 true)
  else if o = 0x0301 ∨ o = 0x0302 then
    (if p 76 = 6 then cmacMasks a1 macN else if p 76 = 7 then hmacMasks (p 78) macN else isoMasks a1 (p 77) macN (p 76 == 3))
  else if o = 0x0401 then kbMasks a1 n + kcvMasks a1
  else if o = 0x0402 then kbMasks a2 512
  else if o = 0x0403 then kbMasks a1 n + kbMasks a2 (n + 128)
  else if o = 0x0404 then kcvMasks (p 76) + (if d.key1 = 0 then 0 else kbMasks a1 512)
  else if o = 0x0405 then kcvMasks a1
  else if o = 0x0410 ∨ o = 0x0411 then estMasks (p 77)
  else if o = 0x0501 ∨ o = 0x0511 then dukptMasks (o == 0x0501) + pinMasks (if o = 0x0501 then 4 else p 76) (if o = 0x0501 then 0x11 else 1) + pinMasks (p 77) a2
  else if o = 0x0502 then dukptMasks true + cmacMasks (p 76) (n - (12 + p 77))
  else if o = 0x0503 then dukptMasks true + kbMasks a2 512
  else if o = 0x0512 then dukptMasks false + isoMasks 1 (p 77) (n - (10 + p 76)) true
  else if isTdesCbc o then perUnit (if d.padOn then (k / 8 + 1) * 8 else k) 8 2 + seals
  else if isGcm o then perUnit k 16 8 + 16 + seals
  else if isXts o then perUnit k 16 8 + k / le d 84 4 * 8
  else if bulkOps.contains o then perUnit (if o == 0x0602 && d.padOn then (k / 16 + 1) * 16 else k) 16 8 + seals
  else if digestOps.contains o then
    (if [0x0702, 0x0703].contains o then
       (if p 77 = 0x10 then cmacMasks 0x11 k else if p 77 = 0x17 ∨ p 77 = 0x18 then isoMasks 1 (p 80) k (p 77 == 0x18)
        else if p 77 = 0x15 ∨ p 77 = 0x16 then 2 * (ceilDiv (k + 4) (digestRate (p 77)).1 + 2)
        else hmacMasks (p 77 - 0x10) k)
     else 0) + seals
  else if o = 0x0803 ∨ o = 0x0814 ∨ o = 0x0902 ∨ o = 0x0903 then estMasks (p 84)
  else 0

/-- Mask demand of an item for both lanes of its twin: its start, and its work. -/
def maskDemand (d : Desc) (keys : List KeyRes) : Nat := 2 * (4 + workMasks d keys)

end Sys2Proof.Machine
end

