-- ==== Sys2Proof/Machine/Units.lean ====
section
/-! DEFINITION. Twins, engines and groves leaving service, what becomes of their items, restarts and mismatch windows
(R155, R245 to R249, R253, R254, R310 to R312, R353). -/

namespace Sys2Proof.Machine

/-! ### Memory errors (R580, R582, R583) -/

/-- ARRAY codes of MEM_LAST_ERR. -/
abbrev Arr.grove : Nat := 0
abbrev Arr.lane : Nat := 1
abbrev Arr.cache : Nat := 2
abbrev Arr.shared : Nat := 3
abbrev Arr.mram : Nat := 4
abbrev Arr.ddr : Nat := 5

/-- An error is noted: the last error and its address, a counter, and the event of one that is not corrected. -/
def Dev.memError (array kind dev addr : Nat) (d : Dev) : Dev :=
  let m := { d.mem with lastErr := packW [(0, array), (4, kind), (8, dev % 64), (14, dev / 64 % 2), (15, 1)], lastAddr := addr }
  if kind = 0 then
    ({ d with mem := m }).bump (if array = Arr.mram then Off.memCeMram else if array = Arr.ddr then Off.memCeDdr else Off.memCeSram)
  else
    let m1 := if array = Arr.mram then { m with ueMram := m.ueMram + 1 } else if array = Arr.ddr then { m with ueDdr := m.ueDdr + 1 }
      else { m with ueSram := m.ueSram + 1 }
    ({ d with mem := m1 }).evtBit Off.memEvt 1

/-! ### Items going back (R138, R155, R246) -/

/-- An item that is taken back to PLACED in its grove, or to the device pending list. -/
def Item.back (pend : Bool) (i : Item) : Item :=
  { i with
    ds := if pend then .pending else .placed, twin := none, ctxSlot := none, preempt := false, pke := .none, readback := false,
    doneNs := 0, spill := none, masks := [], engPub := [], engSec := [],
    keys := if pend then [] else i.keys, keysOk := !pend && i.keysOk, missed := 0,
    staged := if pend then decide (Desc.inLen i.desc ≤ 256) else i.staged }

/-- An item goes back, its record to ACCEPTED; one that leaves its grove lets go of its keys there. -/
def Dev.goBack (c : Ctx) (slot : Nat) (pend : Bool) (d : Dev) : Dev :=
  let d1 := ((d.unbind c slot).updItem slot (Item.back pend)).updRec slot
    (fun r => if r.st == .inService then { r with st := .accepted, spilled := false } else r)
  (if pend then { d1 with key := { (d1.key.unpin slot) with loads := d1.key.loads.filter (fun l => l.item != slot) } } else d1).mirrorRec slot

/-- A restart that counts (R246, R247): a third completes the item; `mm` is the twin that it left, which does not take it
again (R15). -/
def Dev.restart (c : Ctx) (slot : Nat) (pend : Bool) (mm : Option Nat) (d : Dev) : Dev :=
  match d.item? slot with
  | none => d
  | some i =>
    if 2 ≤ i.restarts then d.finishNow c slot 0x40 1
    else
      let n := i.restarts + 1
      ((d.bump Off.lanRestarts).goBack c slot pend).updItem slot (fun x =>
        { x with restarts := n, notBefore := some (c.now + 2 * n * nsUs), mmTwins := mm.toList ++ x.mmTwins })

/-- Every PLACED item of a grove that meets a condition goes back to the device pending list (R155, R241, R312). -/
def Dev.unplace (c : Ctx) (g : Nat) (p : Item → Bool) (d : Dev) : Dev :=
  ((d.groveItems g .placed).filter p).foldl (fun a i => a.goBack c i.slot true) d

/-! ### Units leaving service -/

/-- Items RUNNING or SUSPENDED on a twin. -/
def Dev.onTwin (d : Dev) (t : Nat) : List Nat :=
  (d.dsp.items.filter (fun i => i.twin == some t && (i.ds == .running || i.ds == .suspended))).map (fun i => i.slot)

/-- A twin enters CLEARING or GATED: its items are restarted from the beginning, on another twin (R15), its context slots
erased (R246, R253, R261). -/
def Dev.twinLeaves (c : Ctx) (t : Nat) (new : UnitState) (pend : Bool) (d : Dev) : Dev :=
  let old := (d.twin t).state
  let d1 := (d.onTwin t).foldl (fun a k => a.restart c k pend (some t)) d
  let d2 := d1.updTwin t (fun x => { (x.lanes (fun _ l => if new = .gated then l.blank else l.noCtx)) with
    state := new, passed := false, draining := false, running := none })
  let d3 := if old = new then d2 else d2.recordUnit c 0 t old new
  if new = .clearing ∧ old ≠ .clearing then d3.evtBit Off.lanEvt 1 else d3

/-- A grove's public-key engine leaves service: its items, in their engine phase or between phases, are restarted, and
its PLACED public-key items go back to the pending list (R311, R312). An item whose abort was signalled first keeps that
outcome (R313). -/
def Dev.engineLeaves (c : Ctx) (g : Nat) (new : UnitState) (d : Dev) : Dev :=
  let old := (d.engine g).state
  let its := (d.dsp.items.filter (fun i => i.grove == g && i.ds == .running && !i.readback && (i.pke == .engine || i.pke == .between))).map (fun i => i.slot)
  let d1 := its.foldl (fun a k => a.restart c k true none) d
  let d2 := d1.unplace c g (fun i => Desc.usesEngine i.desc)
  let d3 := d2.updEngine g (fun x => { (if new = .gated then x.off else x) with state := new, passed := false, draining := false, item := none })
  let d4 := if old = new then d3 else d3.recordUnit c 2 g old new
  if old = .inService then d4.evtBit Off.pkeEvt 1 else d4

/-- The twins of a grove (R12). -/
def twinsOf (g : Nat) : List Nat := (List.range 8).map (fun k => g * 8 + k)

/-- A grove in the clearing is held at OP2 (R27, R255). -/
def Dev.holdOp2 (g : Nat) (new : UnitState) (d : Dev) : Dev :=
  if new = .clearing then { d with pwr := { d.pwr with groveOp := d.pwr.groveOp.mapIdx (fun i x => if i = g then 2 else x) } } else d

/-- A grove enters CLEARING or GATED (R155, R254, R353): its twins and its engine with it, its items restarted or placed
again, its key cache emptied. A gated grove's mask generator loses its seeds. An engine gated by a failed readback stays
so in a clearing (R311). -/
def Dev.groveLeaves (c : Ctx) (g : Nat) (new : UnitState) (d : Dev) : Dev :=
  let old := (d.grove g).state
  let eng := if (d.engine g).state = .gated ∧ old ≠ .gated ∧ new = .clearing then d else d.engineLeaves c g new
  let d1 := (twinsOf g).foldl (fun a t => a.twinLeaves c t new true) eng
  let d2 := d1.unplace c g (fun _ => true)
  let d3 := { d2 with key := { d2.key with cache := d2.key.cache.filter (fun e => e.grove != g), loads := d2.key.loads.filter (fun l => l.grove != g) } }
  let d4 := d3.updGrove g (fun x =>
    let x1 : Grove := { x with state := new, passed := false, draining := false, testsHeld := false }
    if new = .gated then { x1.noSeeds with mgen := .running, mgenIn := true, byThresh := false } else x1)
  let d5 := (if old = new then d4 else d4.recordUnit c 1 g old new).holdOp2 g new
  if old = .inService ∧ d.eligible g then d5.evtBit Off.dspEvt 3 else d5

/-! ### Power domains (R585 to R587) -/

/-- A domain starts to wake. -/
def Dev.domWake (n : Nat) (d : Dev) : Dev :=
  { d with pwr := { d.pwr with doms := d.pwr.doms.filter (fun x => x.num != n) ++ [{ num := n, state := 1 }] } }
def Dev.domWaking (d : Dev) (n : Nat) : Bool := d.pwr.doms.any (fun x => x.num == n && x.state == 1)

/-- The domains that go off with a grove: its lanes, engine, SRAM and control. -/
def domOfGrove (g n : Nat) : Bool := (decide (n < 192) && n / 16 == g) || n == 192 + g || n == 204 + g || n == 216 + g

/-- A grove goes off: GATED, its DRBG erased (R374). -/
def Dev.groveSwitchOff (c : Ctx) (g : Nat) (d : Dev) : Dev :=
  let d1 := (d.groveLeaves c g .gated).updDrbg g Drbg.erased
  { d1 with pwr := { d1.pwr with
      groveOn := d1.pwr.groveOn &&& ~~~(1#12 <<< g)
      groveOp := d1.pwr.groveOp.mapIdx (fun i x => if i = g then 0 else x)
      idle := d1.pwr.idle.mapIdx (fun i x => if i = g then 0 else x)
      doms := d1.pwr.doms.filter (fun x => !domOfGrove g x.num) } }

/-- A grove that drains towards its switching off has finished its items. -/
def Dev.gateDrained (c : Ctx) (d : Dev) : Dev :=
  (List.range 12).foldl (fun (a : Dev) g =>
    if (a.grove g).draining && !bit (a.reg Off.pwrGroveEn) g && (a.groveItems g .running ++ a.groveItems g .suspended).all (fun i => i.spill.isSome) then
      a.groveSwitchOff c g
    else a) d

/-! ### Mismatch windows (R248, R249) -/

/-- A mismatch or a fault-check failure counts in its grove and device-wide (R248, R310). -/
def Dev.countMm (c : Ctx) (g : Nat) (d : Dev) : Dev :=
  let d1 := d.updGrove g (fun x => { x with mmSts := c.now :: within c.now nsS x.mmSts })
  { d1 with lan := { d1.lan with devMm := c.now :: within c.now nsS d1.lan.devMm } }

/-- The third in a grove within 1 s of ST sends it into the clearing; the second such entry within 60 s is to end in
FAILED (R248, R249). -/
def Dev.groveThreshold (c : Ctx) (g : Nat) (d : Dev) : Dev :=
  let x := d.grove g
  if x.state = .inService ∧ 3 ≤ (within c.now nsS x.mmSts).length then
    let prior := within c.now (60 * nsS) x.threshSts
    ((d.updGrove g (fun y => { y with threshSts := c.now :: prior, byThresh := !prior.isEmpty, byCount := true })).evtBit Off.lanEvt 4).groveLeaves c g .clearing
  else d

end Sys2Proof.Machine
end

