-- ==== Sys2Proof/Machine/Alarm.lean ====
section
/-! DEFINITION. The tamper domain (R466 to R492): detections and events, the NOTIFY, LOCK and ZEROISE responses, the
backup cell, the unlock, and the registers of the block. -/

namespace Sys2Proof.Machine

/-! ### What a response reaches -/

/-- CER_DONE result codes (R464). -/
abbrev Cer.superseded : Nat := 15

/-- Scope of a ceremony as its parameter block writes it (R453). -/
def Ceremony.scopeCode (k : Ceremony) : Nat := match k.domain with | none => 0x8000 | some d => d % 1024

def Dev.updCer (n : Nat) (f : Ceremony → Ceremony) (d : Dev) : Dev :=
  { d with cus := { d.cus with cers := updWhere (fun k => k.num == n) f d.cus.cers } }

/-- A ceremony slot back in IDLE: what the host wrote stays, everything else is erased. -/
def Ceremony.idle (result : Nat) (k : Ceremony) : Ceremony :=
  { num := k.num, cfg := k.cfg, paramAddr := k.paramAddr, paramLen := k.paramLen, respAddr := k.respAddr, result := result }

/-- Staged changes to protected regions that are not committed are discarded (R551). -/
def AccT.dropProtected (a : AccT) : AccT :=
  { a with staged := List.zipWith (fun (s k : Region) => if bit s.cfg 1 || bit k.cfg 1 then k else s) a.staged a.committed }

/-- A slot returns to IDLE with a result; after quorum that is an evidence record (R452, R495). -/
def Dev.cerEnd (c : Ctx) (n : Nat) (quorum : Bool) (result : Nat) (d : Dev) : Dev :=
  let k := d.cer n
  let d0 := if k.state = .opened ∧ k.cls = 6 then { d with acc := d.acc.dropProtected } else d
  let d1 := (d0.updCer n (Ceremony.idle result)).evtBit Off.cusEvt 3
  if quorum then
    d1.evidence c Ev.ceremony (toLe 1 k.cls ++ toLe 1 k.action ++ toLe 2 k.scopeCode ++ toLe 1 result ++ toLe 1 k.apps.length ++ zeros 2 ++ toLe 8 k.id.toNat)
  else d1

/-- Classes that may be open in LOCK (R451). -/
def cerInLock (cls : Nat) : Bool := [2, 4, 7, 8].contains cls

/-- What a response does to the ceremonies (R462). -/
def Dev.supersedeCers (c : Ctx) (all : Bool) (d : Dev) : Dev :=
  (List.range 4).foldl (fun a n =>
    let k := a.cer n
    if k.state != .idle && (all || !cerInLock k.cls) then a.cerEnd c n (k.state == .opened) Cer.superseded else a) d

/-- A pair that debug has halted resumes: it is in service, and FW_UNAVAILABLE stops firing (R17, R535, R539). -/
def Dev.mgmtResume (c : Ctx) (n : Nat) (d : Dev) : Dev :=
  if d.pwr.mgmtHalt.getD n false then
    { (d.fwAdvance c) with
      pwr := { d.pwr with mgmtHalt := d.pwr.mgmtHalt.set n false, mgmtOk := d.pwr.mgmtOk.set n true }
      tmp := { d.tmp with active := d.tmp.active &&& ~~~(1#32 <<< 0x10) } }
  else d

/-- An open debug scope goes back to its default, and halted cores resume (R539). -/
def Dev.dbgReset (c : Ctx) (d : Dev) : Dev :=
  if d.lcs.scope = 0 then d else ({ (d.mgmtResume c 0).mgmtResume c 1 with lcs := { d.lcs with scope := 0, expiry := 0 } }).evtBit Off.lcsEvt 2

/-- A slot command that has not committed ends with SUPERSEDED (R343). -/
def Dev.supersedeSlot (d : Dev) : Dev :=
  if d.key.promote.isSome then { d with key := { d.key with promote := none, slotResult := 4 } } else d

/-- A SAVE in progress ends with SUPERSEDED, the slice in its previous state (R400). -/
def Dev.supersedeSave (d : Dev) : Dev :=
  { d with slices := d.slices.map (fun (s : Slice) =>
      if s.cmd == some .save then { s with cmd := none, result := 13, state := s.prev, pendingResult := 0, image := [] } else s) }

/-- The sapling that a release replaced comes back; a slot that the release made goes (R19). -/
def Dev.unsap (i : Item) (d : Dev) : Dev :=
  match i.sapWas, Desc.target? i.desc with
  | some h, some t =>
    let here := fun (s : Slot) => s.dom == t.1 && s.num == t.2
    { d with key := { d.key with slots := (updWhere here (fun (s : Slot) => { s with sap := h }) d.key.slots).filter (fun s => !(here s && s.act.isNone && s.sap.isNone)) } }
  | _, _ => d

/-- A result released in the same grove clock cycle as the response, the entry not yet written: the response decides, and the
result is discarded (R19). DEDUCED (log entry 78): one value of ST is one clock cycle. -/
def Dev.overtake (c : Ctx) (st sub : Nat) (d : Dev) : Dev :=
  (d.dsp.items.filter (fun i => i.ds == .finished && i.relSt == some c.now)).foldl (fun (a : Dev) i =>
    match a.rec? i.slot with
    | none => a
    | some r =>
      if r.st ≠ .owed then a
      else
        let put := fun (r : Rec) => { r with status := st, sub := sub, resLen := 0 }
        let a1 := (a.updRec i.slot put).updDdt r.slice r.reqId (fun e => if e.seq = r.seq then { e with status := st, outcome := (put r).outcome } else e)
        let a2 := { a1 with tx := a1.tx.filter (fun t => match t with | .output _ q _ _ _ => q != i.seq | _ => true) }
        ((a2.unsap i).updItem i.slot (fun x => { x with relSt := none })).mirrorRec i.slot) d

/-- The items that a response decides, in journal order: every accepted item that is not FINISHED (R19, R138, R477). An
item whose abort or other status came first keeps it. -/
def Dev.decideItems (c : Ctx) (st sub : Nat) (d : Dev) : Dev :=
  let live := d.dsp.items.filter (fun i => i.incomplete && !i.readback && !d.jnl.mirrorWait.any (fun w => w.slot == i.slot && !w.att))
  let order := live.foldr (fun (i : Item) (l : List Item) => (l.takeWhile (fun j => decide (j.seq < i.seq))) ++ [i] ++ l.dropWhile (fun j => decide (j.seq < i.seq))) []
  let d1 := { d with hif := { d.hif with barriers := d.hif.barriers.filter (fun b => b.resolved) } }
  order.foldl (fun a i => match a.item? i.slot with
    | none => a
    | some x => if x.ds = .finished then a else let m := x.mark.getD (st, sub); a.toOwed c i.slot m.1 m.2 0) d1

/-- A response or a supply warning in the same clock as an abort command reached the engine first: the command is
SUPERSEDED, and the item meets the response or the warning as others do (R315; DEDUCED, log entry 78). -/
def Dev.abortOvertaken (c : Ctx) (d : Dev) : Dev :=
  match d.pke.abort with
  | none => d
  | some (slot, g) =>
    if d.pke.abortSt ≠ c.now then d
    else
      let d1 := (d.updItem slot (fun x => { x with readback := false })).updEngine g (fun e => { e with after := none })
      ({ d1 with pke := { d1.pke with abort := none, abortResult := 4 } }).evtBit Off.pkeEvt 4

/-- The LOCK actions (R475, R507). -/
def Dev.lockActions (c : Ctx) (src st : Nat) (d : Dev) : Dev :=
  let d1 := { d with tmp := { d.tmp with lock := true, resume := false } }
  (((((((d1.abortOvertaken c).overtake c st src).decideItems c st src).supersedeSlot).supersedeSave.supersedeCers c false).dbgReset c).evtBit Off.tmpEvt 1).startFlush

/-! ### Entropy: erasure and a fresh STARTUP (R375, R376, R379) -/

/-- Every DRBG state and the pool are erased. -/
def Dev.rngErase (d : Dev) : Dev :=
  { d with rng := { d.rng with pool := [], drbgs := d.rng.drbgs.map Drbg.erased } }

/-- STARTUP from its first step; a source in raw mode stays detached (R383). -/
def Dev.rngBegin (c : Ctx) (d : Dev) : Dev :=
  { d with rng := { d.rng with
      state := .startup, cause := 0, settled := false, testsOk := false, startSt := c.now, pool := [],
      retestFromStartup := false,
      sources := d.rng.sources.map (fun (s : Source) => if s.state == .raw then s else { s.anew with state := .startup, reattach := false }) } }

/-- A ZEROISE response reaches the entropy block. -/
def Dev.rngZeroise (c : Ctx) (d : Dev) : Dev :=
  let d1 := d.rngErase
  match d.rng.state with
  | .startup | .running | .retest => d1.rngBegin c
  | _ => d1

/-! ### ZEROISE (R359, R476) -/

/-- Erasure of the BBKEK (R325, R359, R363). -/
def Dev.eraseBbkek (d : Dev) : Dev :=
  let k := d.key
  { d with key := { k with
      bbkek := if k.bbkek = .absent then .absent else .erased, bbkekVal := [],
      store := if k.check.isSome then .unreadable else k.store,
      reinit := false, storeResult := if k.reinit then 2 else k.storeResult } }

/-- The erasures of a ZEROISE response. -/
def Dev.zeroiseErase (c : Ctx) (d : Dev) : Dev :=
  let e := d.eraseBbkek
  let e1 := if e.key.bbkek = d.key.bbkek ∧ e.key.store = d.key.store then e else e.evtBit Off.keyEvt 5
  let d1 := e1.rngZeroise c
  let d2 := { d1 with
    key := { d1.key with cache := [], loads := [] }
    lan := { d1.lan with groves := d1.lan.groves.map (fun (g : Grove) => g.noSeeds), twins := d1.lan.twins.map (fun (t : Twin) => t.lanes (fun _ l => l.noCtx)) } }
  (d2.supersedeCers c true).evtBit Off.tmpEvt 2

/-- A ZEROISE response: the erasures, then LOCK. -/
def Dev.zeroise (c : Ctx) (src : Nat) (d : Dev) : Dev :=
  let d1 := d.zeroiseErase c
  let d2 := { d1 with tmp := { d1.tmp with zeroised := true } }
  if d.tmp.lock then (((d2.abortOvertaken c).overtake c 0x32 src).decideItems c 0x32 src).startFlush else d2.lockActions c src 0x32

/-! ### Events (R473, R480, R481) -/

/-- Class and source mask of an event. -/
def AlarmEvent.cls (e : AlarmEvent) (t : Tmp) : Nat := (e.counts.map (fun p => t.classes.getD p.1 0)).foldl max 0
def AlarmEvent.mask (e : AlarmEvent) : Nat := e.counts.foldl (fun a p => a + 2 ^ p.1) 0

/-- The window of the open event closes: its one record is due (R480, R495, R497). -/
def Dev.closeEvent (c : Ctx) (d : Dev) : Dev :=
  match d.tmp.event with
  | none => d
  | some e =>
    let cnt := fun (k : Nat) => match e.counts.find? (fun p => p.1 == k) with | some p => sat 255 p.2 | none => 0
    let p := toLe 1 (e.cls d.tmp) ++ toLe 3 e.mask ++ (List.range 20).map (fun i => BitVec.ofNat 8 (cnt (i + 1)))
    let _ := c
    ({ d with tmp := { d.tmp with event := none } }).evidenceAt e.stamp false Ev.tamperEvent p

/-- An event's window is past. -/
def AlarmEvent.over (e : AlarmEvent) (now : Nat) : Bool := decide (e.st + 10 * nsUs < now)

/-- Sources that fire at an instant, and so are never "firing now" (TMP_ACTIVE): counts, requests and one-time events. -/
def alarmMomentary (src : Nat) : Bool := [0x07, 0x0A, 0x0B, 0x0D, 0x0E, 0x11, 0x12].contains src

/-- The source lowest in code among those of the event's highest class (R477). -/
def AlarmEvent.lead (e : AlarmEvent) (t : Tmp) : Nat :=
  ((List.range 32).find? (fun k => e.counts.any (fun p => p.1 == k) && t.classes.getD k 0 == e.cls t)).getD 0

/-- A detection of a source (R480, R481): it joins or opens an event, or repeats a latched source's record; its class is
carried out where it is more severe than the response in force. -/
def Dev.alarm (c : Ctx) (src : Nat) (d : Dev) : Dev :=
  let d0 := match d.tmp.event with
    | some e => if e.over c.now then d.closeEvent c else d
    | none => d
  let t := d0.tmp
  let cls := t.classes.getD src 0
  let d1 := { d0 with tmp := { t with counts := bumpAt src t.counts, active := if alarmMomentary src then t.active else t.active ||| (1#32 <<< src) } }
  if t.event.isNone && t.latched.getLsbD src then d1.evidence c Ev.tamperRepeat (toLe 1 src)
  else
    let e := match t.event with
      | some e => { e with counts := upsert (fun p => p.1 == src) (src, 0) (fun p => (p.1, p.2 + 1)) e.counts }
      | none => { st := c.now, stamp := d.stamp c, counts := [(src, 1)] }
    let fresh := decide (2 ≤ cls) && !t.latched.getLsbD src
    let d2 := { d1 with tmp := { d1.tmp with
      event := some e, lastSt := e.stamp, latched := if 2 ≤ cls then t.latched ||| (1#32 <<< src) else t.latched,
      tokenMask := if fresh then none else t.tokenMask } }
    let d3 := if t.event.isNone then d2.evtBit Off.tmpEvt 0 else d2
    let d4 := if cls = 1 then d3.setReg Off.tmpNotify (d3.reg Off.tmpNotify ||| (1#32 <<< src)) else d3
    let d5 := if cls = 3 ∧ (t.lock = false ∨ t.zeroised = false) then d4.zeroise c (e.lead t)
      else if cls = 2 ∧ t.lock = false then d4.lockActions c (e.lead t) 0x31 else d4
    d5.record c Trig.tamper (toLe 1 (e.cls t) ++ toLe 4 e.mask)

/-! ### Monitors (R467, R469, R471, R631) -/

/-- Long enough, or in the span where the part may or may not detect it, which is a free choice (R631, log entry 89). -/
def lastsLong (lo hi n : Nat) (free : Bool) : Bool := decide (hi ≤ n) || (decide (lo ≤ n) && free)

/-- Sources that a reading fires. On battery fewer are watched, and some more slowly (R467). -/
def Detection.sources (batt : Bool) (t : Tmp) (det : Detection) : List Nat :=
  let free := Config.freeBool t.rtc 420
  let when := fun (b : Bool) (k : Nat) => if b then [k] else []
  match det with
  | .lid ns => when (if batt then lastsLong 1000000 2000000 ns free else lastsLong 20000 40000 ns free) 2
  | .light a b => if a && b then [3] else when (a != b && t.lightDiff) 4
  | .temps a b =>
    when (decide (a < 432 ∨ 1012 < a) || (!batt && decide (b < 432 ∨ 1012 < b))) 5
      ++ when (!batt && decide (a + 32 < b ∨ b + 32 < a) && t.tempDiff) 4
  | .volt rail mv ns => when ((!batt || rail == 2) && decide ([1050, 1980, 3800].getD rail mv < mv ∧ 1000 ≤ ns)) 6
  | .glitch rail mv ns => when ((!batt || rail == 2) && decide (rail < 3 ∧ 100 < mv ∧ ns < 50)) 7
  | .sysclk hz gap => when (!batt && decide (hz < 24500000 ∨ 25500000 < hz ∨ 200 ≤ gap)) 8
  | .clock ppm => when (!batt && decide (50000 < ppm)) 8
  | .integrity dom => when (!batt || dom) 9
  | .memory => when (!batt) 0x0A
  | .zeroiseReq ns => when (lastsLong 201 1000 ns free) 0x0C
  | .vbat mv ms => when (decide (mv < 2450 ∧ 10 ≤ ms)) 0x13
  | .rtcStill us => when (decide (2000 ≤ us)) 0x14

/-- What a reading leaves in the monitors: the last sample, which the next one is held against. -/
def Detection.note (batt : Bool) (det : Detection) (t : Tmp) : Tmp :=
  match det with
  | .light a b => { t with lightDiff := a != b }
  | .temps a b => if batt then { t with tempA := a } else { t with tempA := a, tempB := b, tempDiff := decide (a + 32 < b ∨ b + 32 < a) }
  | .volt rail mv _ => if rail = 2 then { t with vbatMv := mv } else t
  | .vbat mv _ => { t with vbatMv := mv }
  | _ => t

/-- Main power is on. -/
def Dev.mainPower (d : Dev) : Bool := d.pwr.powered

/-- ALARM_DETECTION. -/
def alarmDetectionOp (det : Detection) (c : Ctx) (d : Dev) : Dev :=
  if d.mainPower then (Detection.sources false d.tmp det).foldl (fun (a : Dev) k => a.alarm c k) { d with tmp := Detection.note false det d.tmp } else d
def execAlarmDetection (det : Detection) (s : State) : Host.Outcome State Fault Refusal := s.onDev (alarmDetectionOp det)

/-- ALARM_SOURCE_CLEAR: a source stops firing (R490). -/
def alarmSourceClearOp (src : Nat) (_ : Ctx) (d : Dev) : Dev :=
  if src < 32 then { d with tmp := { d.tmp with active := d.tmp.active &&& ~~~(1#32 <<< src) } } else d
def execAlarmSourceClear (source : Nat) (s : State) : Host.Outcome State Fault Refusal := s.onDev (alarmSourceClearOp source)

/-- ALARM_WINDOW_CLOSE (R480). -/
def alarmWindowCloseOp (c : Ctx) (d : Dev) : Dev :=
  match d.tmp.event with
  | some e => if d.mainPower && e.over c.now then d.closeEvent c else d
  | none => d
def execAlarmWindowClose (s : State) : Host.Outcome State Fault Refusal := s.onDev alarmWindowCloseOp

/-! ### On the backup cell (R482, R483) -/

/-- RTC ticks of 10 ms. -/
abbrev battWindow : Nat := 327

/-- A battery-buffer entry of an event's source; a full buffer turns its entry 31 into the overflow entry. -/
def battAdd (rtc ev src cls : Nat) (opened : Bool) (l : List BattEntry) : List BattEntry :=
  let same := fun (e : BattEntry) => e.event == ev && e.src == src
  let l1 := l.map (fun (e : BattEntry) => if e.event == ev && e.src != 0xFF then { e with cls := max e.cls cls } else e)
  if l.any same then l1.map (fun (e : BattEntry) => if same e then { e with count := sat 0xFFFF (e.count + 1) } else e)
  else if l.length < 32 then
    l1 ++ [{ rtc := rtc, event := ev, src := src, cls := max cls ((l.filter (fun e => e.event == ev)).foldl (fun a e => max a e.cls) 0), count := 1 }]
  else match l.getLast? with
    | none => l1
    | some o =>
      let keep := l1.take 31
      let more := b2n opened + (if o.src = 0xFF then o.count else b2n (!keep.any (fun e => e.event == o.event) && o.event != ev))
      keep ++ [{ rtc := if o.src = 0xFF then o.rtc else rtc, event := if o.src = 0xFF then o.event else ev, src := 0xFF, cls := max o.cls cls,
                 count := sat 0xFFFF (max 1 more) }]

/-- An alarm while the tamper domain runs on the backup cell: its entry, and what its class does there. -/
def Dev.battAlarm (src : Nat) (d : Dev) : Dev :=
  let t := d.tmp
  let cls := t.classes.getD src 0
  let joins := match t.battRtc with | some r => decide (t.rtc ≤ r + battWindow) | none => false
  let ev := if joins then t.battEvent else (t.battEvent + 1) % 256
  let rtc := if joins then t.battRtc.getD t.rtc else t.rtc
  let t1 := { t with
    batt := battAdd rtc ev src cls (!joins) t.batt, battEvent := ev, battRtc := some rtc,
    active := if alarmMomentary src then t.active else t.active ||| (1#32 <<< src),
    latched := if 2 ≤ cls then t.latched ||| (1#32 <<< src) else t.latched,
    tokenMask := none, lock := t.lock || decide (2 ≤ cls), zeroised := t.zeroised || cls == 3 }
  let d1 := { d with tmp := t1 }
  if cls = 3 then d1.eraseBbkek else d1

/-- BATTERY_ALARM. -/
def batteryAlarmOp (det : Detection) (_ : Ctx) (d : Dev) : Dev :=
  if d.mainPower then d else (Detection.sources true d.tmp det).foldl (fun (a : Dev) k => a.battAlarm k) { d with tmp := Detection.note true det d.tmp }
def execBatteryAlarm (det : Detection) (s : State) : Host.Outcome State Fault Refusal := s.onDev (batteryAlarmOp det)

/-- The 16-bit pattern of SHROUD_DRV line `k` (R470). DESIGN CHOICE (log entry 84): bits 16k+15 to 16k of the LFSR. -/
def shroudPattern (v : DWord) (k : Nat) : BitVec 16 := v.extractLsb' (16 * k) 16
/-- The pairs whose sensed pattern differs from the driven one. -/
def shroudBad (altered : DWord) : BitVec 4 :=
  BitVec.ofNat 4 (((List.range 4).map (fun k => if shroudPattern altered k = 0#16 then 0 else 2 ^ k)).foldl (· + ·) 0)

/-- SHROUD_PATTERN_PERIOD (R470): a new pattern; SHROUD fires at a pair's second bad period in a row. With main power the
periods are 50 µs of ST apart. The LFSR's feedback is not given: its next value is a free value (log entry 7). -/
def shroudPatternOp (altered : DWord) (c : Ctx) (d : Dev) : Dev :=
  if d.mainPower && decide (c.now < d.tmp.patternSt + 50 * nsUs) then d
  else
    let t := d.tmp
    let bad := shroudBad altered
    let d1 := { d with tmp := { t with lfsr := BitVec.ofNat 64 (Config.freeNat t.lfsr.toNat 400), patternSt := c.now, badPattern := bad } }
    if bad &&& t.badPattern ≠ 0#4 then (if d.mainPower then d1.alarm c 1 else d1.battAlarm 1) else d1
def execShroudPatternPeriod (altered : DWord) (s : State) : Host.Outcome State Fault Refusal := s.onDev (shroudPatternOp altered)

/-- The tamper domain stores an (ST, RTC) pair (R484). -/
def Dev.storePair (c : Ctx) (d : Dev) : Dev :=
  match d.tim.state with
  | .acquiring | .locked | .holdover => { d with tmp := { d.tmp with pair := some (c.now, d.tmp.rtc), pairSt := c.now } }
  | _ => d

/-- RTC_PAIR_TIMER: every 1 s of ST. -/
def rtcPairTimerOp (c : Ctx) (d : Dev) : Dev :=
  if d.mainPower && (d.tmp.pair.isNone || decide (d.tmp.pairSt + nsS ≤ c.now)) then d.storePair c else d
def execRtcPairTimer (s : State) : Host.Outcome State Fault Refusal := s.onDev rtcPairTimerOp

/-! ### Host commands (R474, R486 to R492) -/

/-- HOST_ZEROISE: a write of TMP_CMD. -/
def tmpCmdW (c : Ctx) (v : Word) (d : Dev) : WOut := if v = 0x2E500001#32 then .took (d.alarm c 0x0D) else .drop
def execHostZeroise (value : Word) (s : State) : Host.Outcome State Fault Refusal :=
  s.onDev (fun c d => d.hostWrite c Off.tmpCmd (tmpCmdW c value))

/-- The first failed check of an unlock (R488). -/
def Tmp.unlockFail (store : StoreState) (t : Tmp) : Option Nat :=
  let vend := (List.range 32).any (fun i => t.latched.getLsbD i && alarmVendor i)
  if !t.lock then some 1
  else if t.latched &&& t.active ≠ 0#32 then some 2
  else if vend && t.tokenMask.isNone then some 3
  else if t.zeroised ∧ store ≠ .ready then some 4
  else none

/-- A write of TMP_UNLOCK (R486, R488, R489). -/
def tmpUnlockW (c : Ctx) (v : Word) (d : Dev) : WOut :=
  if !d.quorum Off.tmpUnlock v then .viol
  else if !bit v 0 then .took d
  else match d.tmp.unlockFail d.key.store with
    | some r => .took ((({ d with tmp := { d.tmp with unlockResult := r } }).evtBit Off.tmpEvt 4).evidence c Ev.unlockRefused (toLe 1 r))
    | none =>
      let t := d.tmp
      let vend := (List.range 32).any (fun i => t.latched.getLsbD i && alarmVendor i)
      let id := (d.openCer? 2).elim 0 (fun k => k.id.toNat)
      let t1 := { t with lock := false, zeroised := false, latched := 0, tokenMask := none, unlockResult := 0, resume := true }
      .took ((({ d with tmp := t1 }).evtBit Off.tmpEvt 3).evidence c Ev.unlock (toLe 3 t.latched.toNat ++ toLe 1 (if vend then 2 else 1) ++ toLe 8 id))
def execTamperUnlock (value : Word) (s : State) : Host.Outcome State Fault Refusal :=
  s.onDev (fun c d => d.hostWrite c Off.tmpUnlock (tmpUnlockW c value))

/-- NEW_NONCE (R492). -/
def Dev.newUnlockNonce (c : Ctx) (d : Dev) : Dev :=
  if d.mgmtDrbg then
    let (n, d1) := d.mgmtNonce c
    { d1 with tmp := { d1.tmp with nonce := n, nonceSt := c.now, nonceLive := true, tokenMask := none } }
  else { d with tmp := { d.tmp with tokenStat := 5 } }

/-- The first failed check of a vendor token (R487): its form counts with its signature. -/
def vendorTokenFail (c : Ctx) (r : DmaRead) (d : Dev) : Option Nat :=
  let t := d.tmp
  let b := r.data
  let len := if le b 2 2 = 2 then 96 else 3309
  let form := !r.refused && !r.failed && le b 0 2 == 1 && (le b 2 2 == 2 || le b 2 2 == 3) && le b 4 4 == len && decide (48 + len ≤ b.length) && le b 36 12 == 0
  let need := (List.range 32).filter (fun i => t.latched.getLsbD i && alarmVendor i)
  if !form then some 3
  else if !unitIdIs b 8 || le b 24 8 != t.nonce.toNat then some 4
  else if !t.nonceLive || decide (t.nonceSt + 600 * nsS < c.now) then some 5
  else if need.any (fun i => le b 32 4 / 2 ^ i % 2 == 0) then some 6
  else if !d.nymjorSig c b then some 3
  else none

/-- GO of TMP_TOKEN_CTRL with the token that the device reads (R487). -/
def tmpTokenGoW (c : Ctx) (r : DmaRead) (d : Dev) : WOut :=
  let res := vendorTokenFail c r d
  let t := match res with
    | some k => { d.tmp with tokenStat := k }
    | none => { d.tmp with tokenStat := 2, tokenMask := some (BitVec.ofNat 32 (le r.data 32 4)) }
  .took (({ d with tmp := t }).evtBit Off.tmpEvt 6)
def execTmpTokenGo (token : Bytes) (read : DmaEnd) (s : State) : Host.Outcome State Fault Refusal :=
  s.onDev (fun c d => d.hostWrite c Off.tmpTokenCtrl (tmpTokenGoW c (dmaRead token read)))
def execTmpNewNonce (s : State) : Host.Outcome State Fault Refusal :=
  s.onDev (fun c d => d.hostWrite c Off.tmpTokenCtrl (fun d => .took (d.newUnlockNonce c)))

/-- The other registers of the block that a host writes (R5, R474, R490 to R492). -/
def tmpW (c : Ctx) (off : Nat) (v : Word) (d : Dev) : WOut :=
  if off = Off.tmpCtrl then
    (if d.tmpLocked then .took d else .took (d.setReg off (v &&& 0x80000000#32)))
  else if off = Off.tmpNotify ∨ off = Off.tmpEvt then .took (d.setReg off (d.reg off &&& ~~~v))
  else if off = Off.tmpSrcSel then
    (if alarmMinClass (fld v 4 0) = 0 then .drop else .took (d.setReg off (v &&& 0x1F#32)))
  else if off = Off.tmpSrcCfg then
    let src := fld (d.reg Off.tmpSrcSel) 4 0
    let cls := fld v 1 0
    if d.tmpLocked ∨ src = 0x0D ∨ src = 0x0E ∨ cls < alarmMinClass src ∨ cls = 0 then .viol
    else .took { d with tmp := { d.tmp with classes := d.tmp.classes.mapIdx (fun i x => if i = src then cls else x) } }
  else if off = Off.tmpCmd then tmpCmdW c v d
  else if off = Off.tmpUnlock then tmpUnlockW c v d
  else if off = Off.tmpTokenAddrLo ∨ off = Off.tmpTokenAddrHi then .took (d.setReg off v)
  else if off = Off.tmpTokenCtrl then (if bit v 1 then .took (d.newUnlockNonce c) else .took d)
  else if off = Off.tmpEvtEn then .took (d.setReg off (v &&& 0x7F#32))
  else .drop

end Sys2Proof.Machine
end

