-- ==== Sys2Proof/Machine/Balls.lean ====
section
/-! DEFINITION. The output balls (R470, R478, R609, R621, R622, R633): what each drives in a state of the part. They are
read off the state; a command moves them by moving what they show. A reset has no length in this model (log entry 84), so
"in reset before its release" is seen here only as the power being off. -/

namespace Sys2Proof.Machine

/-- The instructions of the test access port, in the order of R540. -/
abbrev Jtag.bypass : Nat := 0
abbrev Jtag.idcode : Nat := 1
abbrev Jtag.sample : Nat := 2
abbrev Jtag.extest : Nat := 3
abbrev Jtag.clamp : Nat := 4
abbrev Jtag.highz : Nat := 5

/-- What an output ball does: released, driven to a level, at electrical idle, carrying its interface's own signals, or driven by
its cell of the boundary register (R540), whose place in the chain the spec does not give. -/
inductive Level where
  | hiZ | low | high | idle | active | scan
deriving DecidableEq, Repr

/-- The balls of a custodian port (R633). -/
structure CardBalls where
  vccEn : Level
  vsel  : Level
  rst   : Level
  clk   : Level
  io    : Level
deriving DecidableEq, Repr

/-- The output balls of R616 and R621. -/
structure Balls where
  peTx       : Level
  ddrResetN  : Level
  ddrCsN     : Level
  ddrBus     : Level
  pmic       : Level
  glTx       : List Level
  xspiCsN    : Level
  xspiResetN : Level
  xspiClk    : Level
  smb        : Level
  intN       : Level
  tamperN    : Level
  tdo        : Level
  cus        : List CardBalls
  /-- the 16-bit patterns of SHROUD_DRV, line 0 first -/
  shroudDrv  : List (BitVec 16)
deriving DecidableEq, Repr

/-- INT_N (R609): low while an event of PWR_EVT that PWR_INT_EN enables is set. -/
def Dev.intN (d : Dev) : Level :=
  if d.pwr.powered && (d.reg Off.pwrEvt &&& d.reg Off.pwrIntEn) != 0#32 then .low else .hiZ

/-- TAMPER_N (R478): low from a LOCK or ZEROISE response until an unlock. -/
def Dev.tamperN (d : Dev) : Level := if d.pwr.powered && d.tmp.lock then .low else .hiZ

/-- A port that powers its card: activated, or activating (R445, R633). -/
def CardPort.on (p : CardPort) : Bool := p.trying.isSome || p.state == .active
/-- The voltage class in use: B, or C (R633). -/
def CardPort.onB (p : CardPort) : Bool := p.trying.getD p.classB
/-- The balls of a custodian port: deactivated they are all low (R609). -/
def CardPort.balls (p : CardPort) : CardBalls :=
  if p.on then { vccEn := .high, vsel := if p.onB then .high else .low, rst := .high, clk := .active, io := .active }
  else { vccEn := .low, vsel := .low, rst := .low, clk := .low, io := .low }
/-- Every ball of the port released. -/
def CardBalls.off : CardBalls := { vccEn := .hiZ, vsel := .hiZ, rst := .hiZ, clk := .hiZ, io := .hiZ }

/-- A port's transmitters: at electrical idle unless it trains, authenticates or is up (R410, R609). -/
def Port.level (p : Port) : Level :=
  match p.state with
  | .training | .auth | .up => .active
  | .disabled | .down | .refused => .idle

/-- The DDR5 outputs are driven: stage 4 is past, and the part is not in STANDBY (R622). -/
def Dev.ddrDriven (d : Dev) : Bool := d.endpointUp && d.past 4

/-- The lines of the shroud (R470), driven in every state. -/
def Tmp.shroudDrv (t : Tmp) : List (BitVec 16) := (List.range 4).map (shroudPattern t.lfsr)

/-- What boundary scan makes of a ball that the chain holds (R540): EXTEST and CLAMP drive it, HIGHZ releases it. -/
def Dev.scanned (d : Dev) (l : Level) : Level :=
  if d.lcs.jtag = Jtag.extest ∨ d.lcs.jtag = Jtag.clamp then .scan else if d.lcs.jtag = Jtag.highz then .hiZ else l
def CardBalls.map (f : Level → Level) (b : CardBalls) : CardBalls := { vccEn := f b.vccEn, vsel := f b.vsel, rst := f b.rst, clk := f b.clk, io := f b.io }

/-- The output balls of a state. The chain excludes PCIe, DDR5, Glioc and the tamper domain (R540). Without power all but the shroud's are released (R621). -/
def Dev.balls (d : Dev) : Balls :=
  if !d.pwr.powered then
    { peTx := .hiZ, ddrResetN := .hiZ, ddrCsN := .hiZ, ddrBus := .hiZ, pmic := .hiZ, glTx := List.replicate 8 .hiZ, xspiCsN := .hiZ, xspiResetN := .hiZ, xspiClk := .hiZ
      smb := .hiZ, intN := .hiZ, tamperN := .hiZ, tdo := .hiZ, cus := [CardBalls.off, CardBalls.off], shroudDrv := d.tmp.shroudDrv }
  else
    let flash := decide (d.pwr.stage = 3) && !d.pwr.halted && !d.pwr.standby
    { peTx := if d.pwr.standby then .idle else .active
      ddrResetN := if d.ddrDriven then .high else .hiZ
      ddrCsN := if d.ddrDriven then .active else .hiZ
      ddrBus := if d.ddrDriven then .active else .hiZ
      pmic := d.scanned .hiZ
      glTx := d.fab.ports.map (fun (p : Port) => if d.pwr.standby then .idle else p.level)
      xspiCsN := d.scanned (if flash then .active else .high)
      xspiResetN := d.scanned (if 3 ≤ d.pwr.stage then .high else .low)
      xspiClk := d.scanned (if flash then .active else .low)
      smb := d.scanned .hiZ
      intN := d.scanned d.intN, tamperN := d.tamperN
      tdo := .hiZ
      cus := d.cus.ports.map (fun (p : CardPort) => p.balls.map d.scanned)
      shroudDrv := d.tmp.shroudDrv }

end Sys2Proof.Machine
end

