-- ==== Sys2Proof/Machine/Journal.lean ====
section
/-! DEFINITION. Control descriptors after acceptance (R79 to R82), the delay list's account (R163, R164), CLOSE (R124), and
the registers of the journal and of the deduplication table (R132 to R136, R577, R579). -/

namespace Sys2Proof.Machine

/-! ### The delay list (R163, R164) -/

/-- The first delay-list tick at or after an instant: ticks fall on every multiple of 1,000 ns. -/
def tickOf (t : Nat) : Nat := ceilDiv t 1000
/-- A tick has reached an expiry. -/
def tickDue (now t : Nat) : Bool := decide (tickOf t ≤ now / 1000)
/-- Fewer than 1,024 entries have fired at the present tick (R164). -/
def Dev.fireRoom (c : Ctx) (d : Dev) : Bool := d.dsp.fireTick != c.now / 1000 || decide (d.dsp.fireCount < 1024)
/-- An item of R92 whose acceptance is complete. -/
def Dev.acked (d : Dev) (slot : Nat) : Bool := !d.jnl.mirrorWait.any (fun w => w.slot == slot && !w.att)

/-- What the entry is for can act on it now: an acceptance that still waits, a role that does not act, or management pairs
that are out keep an entry in the list and hold no other back. -/
def Dev.delayAble (d : Dev) (e : DelayEnt) : Bool :=
  match e.use with
  | .release => d.acked e.n && d.hostSide && (d.item? e.n).any (fun i => i.waitingControl && Desc.op i.desc == 3)
  | .expiry => d.acked e.n
  | .firmware => d.mgmtUp && d.endpointUp
  | .backoff | .lease | .reseed => true

/-- The entry that fires next: the first whose tick has come (R163). -/
def Dev.nextDue (c : Ctx) (d : Dev) : Option DelayEnt := d.delayList.find? (fun e => tickDue c.now e.due && d.delayAble e)

/-- An entry may fire: it is the next, and the tick has room for it (R163, R164). -/
def Dev.mayFire (c : Ctx) (use : DelayUse) (n : Nat) (d : Dev) : Bool :=
  (d.nextDue c).any (fun e => e.use == use && e.n == n) && d.fireRoom c
/-- An entry fires; one that fires after its due tick is counted as deferred (R164). -/
def Dev.delayFire (c : Ctx) (due : Nat) (d : Dev) : Dev :=
  { d with dsp := { d.dsp with
      deferred := d.dsp.deferred + b2n (decide (tickOf due < c.now / 1000)), fireTick := c.now / 1000,
      fireCount := if d.dsp.fireTick = c.now / 1000 then d.dsp.fireCount + 1 else 1 } }

/-! ### Ring barriers, releases and slice barriers -/

/-- A record of a ring whose entry is not written lies ahead of a position (R79, R80). -/
def Dev.aheadWaits (d : Dev) (s n : Nat) (pos : Word) : Bool :=
  d.jnl.recs.any (fun r => r.st.outstanding && r.slice == s && r.ring == n && decide (1 ≤ (pos - r.pos).toNat ∧ (pos - r.pos).toNat < 2 ^ 31))

/-- RING_BARRIER_RESOLVE (R77, R79): every item ahead of the barrier in its ring has its entry written. -/
def ringBarrierResolveOp (slot : Nat) (c : Ctx) (d : Dev) : Dev :=
  match d.item? slot, d.rec? slot with
  | some i, some r =>
    if i.waitingControl && Desc.op i.desc == 1 && d.acked slot && d.hostSide && !d.aheadWaits i.slice i.ring r.pos then d.toOwed c slot 0 0 0
    else d
  | _, _ => d

def execRingBarrierResolve (slot : Nat) (s : State) : Host.Outcome State Fault Refusal := s.onDev (ringBarrierResolveOp slot)

/-- RELEASE_AT_FIRE (R77, R79, R163): the release time has been reached at a tick, and its entry is the next to fire. -/
def releaseAtFireOp (slot : Nat) (c : Ctx) (d : Dev) : Dev :=
  match d.item? slot with
  | none => d
  | some i =>
    match i.relAt with
    | none => d
    | some t =>
      if i.waitingControl && Desc.op i.desc == 3 && d.acked slot && d.hostSide && d.mayFire c .release slot then
        ((d.delayFire c t).updItem slot (fun x => { x with fired := true })).toOwed c slot 0 0 0
      else d

def execReleaseAtFire (slot : Nat) (s : State) : Host.Outcome State Fault Refusal := s.onDev (releaseAtFireOp slot)

/-- The open instance of an ID in a slice (R80). -/
def Dev.openBarrier (d : Dev) (s id : Nat) : Option Barrier :=
  d.hif.barriers.find? (fun b => b.slice == s && b.id == id && !b.resolved)
/-- Every ring of the mask has joined. -/
def Barrier.arrived (b : Barrier) : Bool := (List.range 16).all (fun k => b.mask / 2 ^ k % 2 == 0 || b.joined.any (fun j => j.1 == k))
/-- The slots of the joined descriptors. -/
def Dev.barrierSlots (d : Dev) (b : Barrier) : List Nat :=
  b.joined.filterMap (fun j => (d.dsp.items.find? (fun i => i.seq == j.2 && i.spillFrom.isNone)).map (fun i => i.slot))
/-- The deadline of a joined descriptor has passed (R82). -/
def Dev.barrierLate (c : Ctx) (d : Dev) (b : Barrier) : Bool :=
  b.joined.any (fun j => d.dsp.items.any (fun i => i.seq == j.2 && i.spillFrom.isNone && decide (i.deadline < c.now)))

/-- SLICE_BARRIER_RESOLVE (R80): complete in arrivals, and every item ahead in every participating ring has its entry
written. The instance holds the items behind it until its own entries are written. -/
def sliceBarrierResolveOp (s id : Nat) (c : Ctx) (d : Dev) : Dev :=
  match d.openBarrier s id with
  | none => d
  | some b =>
    let clear := (d.barrierSlots b).all (fun k => match d.rec? k with | some r => !d.aheadWaits s r.ring r.pos | none => true)
    if b.arrived && d.hostSide && clear then
      let me := fun (x : Barrier) => x.slice == s && x.id == id && !x.resolved
      let d1 := { d with hif := { d.hif with barriers := updWhere me (fun x => { x with resolved := true }) d.hif.barriers } }
      ((d.barrierSlots b).foldl (fun a k => a.toOwed c k 0 0 0) d1).pruneBarriers
    else d

def execSliceBarrierResolve (slice id : Nat) (s : State) : Host.Outcome State Fault Refusal := s.onDev (sliceBarrierResolveOp slice id)

/-- An instance that is not complete in arrivals ends (R82): EXPIRED, or SQUASHED where its slice is squashed (R391). -/
def Dev.dissolve (c : Ctx) (b : Barrier) (d : Dev) : Dev :=
  let d1 := { d with hif := { d.hif with barriers := d.hif.barriers.erase b } }
  let (st, sub) := match d.squashing b.slice with | some x => (2, x) | none => (1, 1)
  (d.barrierSlots b).foldl (fun a k => a.toOwed c k st sub 0) d1

/-- SLICE_BARRIER_DISSOLVE (R82): the deadline of a joined descriptor passed before the instance was complete in
arrivals, or its slice stops (R391). -/
def sliceBarrierDissolveOp (s id : Nat) (c : Ctx) (d : Dev) : Dev :=
  match d.openBarrier s id with
  | none => d
  | some b =>
    if !b.arrived && d.hostSide && ((d.slice s).state == .draining || d.barrierLate c b) then d.dissolve c b
    else d

def execSliceBarrierDissolve (slice id : Nat) (s : State) : Host.Outcome State Fault Refusal := s.onDev (sliceBarrierDissolveOp slice id)

/-! ### CLOSE (R124) -/

/-- A write of JNL_RECOVER_CTRL with CLOSE. -/
def recoverCloseW (c : Ctx) (d : Dev) : WOut :=
  let ks := (d.jnl.recs.filter (fun r => r.st == .awaiting)).map (fun r => r.slot)
  let d1 := ks.foldl (fun a k => a.toOwed c k 1 0 0) d
  .took (({ d1 with jnl := { d1.jnl with recoverOpen := false } }).evtBit Off.jnlEvt 4)

def execRecoverClose (s : State) : Host.Outcome State Fault Refusal :=
  s.onDev (fun c d => d.hostWrite c Off.jnlRecoverCtrl (recoverCloseW c))

/-! ### Places in DDR5 (R135, R577, R579) -/

/-- A range of DDR5 offsets lies in usable DDR5, above the firmware area. -/
def Dev.ddrFits (d : Dev) (base size : Nat) : Bool := decide (0x10000000 ≤ base ∧ base + size ≤ d.mem.usable * 0x100000)
/-- Two ranges do not overlap. -/
def apart (a an b bn : Nat) : Bool := decide (a + an ≤ b ∨ b + bn ≤ a)

/-- The journal body and the table do not overlap; a structure whose base was never written is nowhere. -/
def placesApart (body tab log2 : Nat) : Bool := tab == 0 || body == 0 || apart body 0x1000000 tab (128 * 2 ^ log2)

/-- The table is emptied, with fresh hash keys, or waits for the management DRBG (R106, R136). A stall on it ends (R134). -/
def Dev.startDdt (c : Ctx) (d0 : Dev) : Dev :=
  let d := d0.ddtStallEnd c
  let d1 := { d with ddt := { d.ddt with entries := [], occ := [], ready := false, initing := d.mgmtDrbg, needKeys := !d.mgmtDrbg } }
  if d.mgmtDrbg then
    let (k, d2) := d1.mgmtNonce c
    { d2 with ddt := { d2.ddt with hashKey := k.toNat } }
  else d1

/-- A write of DDT_BASE or DDT_SIZE (R134 to R136, R577, R579). One that leaves a base that was never written at 0 places
nothing. -/
def ddtPlaceW (c : Ctx) (off : Nat) (v : Word) (d : Dev) : WOut :=
  let d1 := d.setReg off (if off = Off.ddtSize then v &&& 0x1F#32 else v)
  let size := fld v 4 0
  if d.ringsDefined ≠ 0 ∨ d.mem.ddrReady = false then .viol
  else if off = Off.ddtSize ∧ (size < 18 ∨ 29 < size) then .drop
  else if d1.reg64 Off.ddtBaseLo = 0 ∧ d.reg64 Off.ddtBaseLo = 0 then .took (d1.startDdt c)
  else if d1.reg64 Off.ddtBaseLo % 0x100000 ≠ 0 then .viol
  else if !d1.ddrFits (d1.reg64 Off.ddtBaseLo) (128 * 2 ^ d1.ddtLog2) then .viol
  else if !placesApart (d1.reg64 Off.jnlBodyBaseLo) (d1.reg64 Off.ddtBaseLo) d1.ddtLog2 then .viol
  else .took (d1.startDdt c)

/-- DDT_REINIT: a write of DDT_BASE or DDT_SIZE. -/
def execDdtReinit (off : Nat) (value : Word) (s : State) : Host.Outcome State Fault Refusal :=
  s.onDev (fun c d =>
    if off = Off.ddtBaseLo ∨ off = Off.ddtBaseHi ∨ off = Off.ddtSize then d.hostWrite c off (ddtPlaceW c off value) else d)

/-- DDT_INIT_DONE (R136). -/
def ddtInitDoneOp (_ : Ctx) (d : Dev) : Dev :=
  if d.ddt.initing then ({ d with ddt := { d.ddt with initing := false, ready := true } }).evtBit Off.ddtEvt 2 else d

def execDdtInitDone (s : State) : Host.Outcome State Fault Refusal := s.onDev ddtInitDoneOp

/-- The management DRBG serves again: a table that waits for its hash keys gets them (R136). -/
def Dev.ddtKeysWait (c : Ctx) (d : Dev) : Dev := if d.ddt.needKeys && d.mgmtDrbg then d.startDdt c else d

/-- The registers of the table that a host writes (R105, R134, R135). -/
def ddtW (c : Ctx) (off : Nat) (v : Word) (d : Dev) : WOut :=
  if off = Off.ddtBaseLo ∨ off = Off.ddtBaseHi ∨ off = Off.ddtSize then ddtPlaceW c off v d
  else if off = Off.ddtRetain then
    if 1000 ≤ fld v 15 0 ∧ fld v 15 0 ≤ 60000 then .took (d.setReg off (v &&& 0xFFFF#32)) else .drop
  else if off = Off.ddtEvt then .took (d.setReg off (d.reg off &&& ~~~v))
  else if off = Off.ddtEvtEn then .took (d.setReg off (v &&& 0x7#32))
  else .drop

/-- The registers of the journal that a host writes (R131 to R135). -/
def jnlW (c : Ctx) (off : Nat) (v : Word) (d : Dev) : WOut :=
  if off = Off.jnlBodyBaseLo ∨ off = Off.jnlBodyBaseHi then
    let d1 := d.setReg off v
    if d.ringsDefined ≠ 0 ∨ d.mem.ddrReady = false then .viol
    else if d1.reg64 Off.jnlBodyBaseLo = 0 ∧ d.reg64 Off.jnlBodyBaseLo = 0 then .took d1
    else if d1.reg64 Off.jnlBodyBaseLo % 0x1000000 ≠ 0 then .viol
    else if !d1.ddrFits (d1.reg64 Off.jnlBodyBaseLo) 0x1000000 then .viol
    else if !placesApart (d1.reg64 Off.jnlBodyBaseLo) (d1.reg64 Off.ddtBaseLo) d1.ddtLog2 then .viol
    else .took d1
  else if off = Off.jnlRecoverCtrl then (if bit v 0 then recoverCloseW c d else .took d)
  else if off = Off.jnlWinCursor then .took (d.setReg off (v &&& 0xFF#32))
  else if off = Off.jnlEvt then .took (d.setReg off (d.reg off &&& ~~~v))
  else if off = Off.jnlEvtEn then .took (d.setReg off (v &&& 0x1F#32))
  else .drop

end Sys2Proof.Machine
end

