-- ==== Sys2Proof/Machine/Dsp.lean ====
section
/-! DEFINITION. The device dispatch unit (R137 to R183): placement and spill-out, step B at a grove, preemption, the
dispatch epoch, reef levels, expiry, firmware timers, histograms, and the registers of the block. -/

namespace Sys2Proof.Machine

/-! ### Placement (R153, R154, R241, R312, R591) -/

/-- Lane time that a grove holds, and queued time of its engine, in ns at its operating point (R154, R186, R280, R287). -/
def Dev.laneLoad (d : Dev) (g : Nat) : Nat :=
  atOp (d.groveOp g) ((d.dsp.items.filter (fun i => i.grove == g && i.spill.isNone && (i.ds == .placed || i.ds == .running || i.ds == .suspended))).map Item.laneCost).sum
def Dev.engLoad (d : Dev) (g : Nat) : Nat := atOp (d.groveOp g) (((d.groveItems g .placed).filter Item.wantsEngine).map Item.pkeCost).sum
/-- Both, for the 12 groves, as an epoch takes them. -/
def Dev.freshLoads (d : Dev) : List Nat := (List.range 12).map d.laneLoad ++ (List.range 12).map d.engLoad
def addAt (n v : Nat) (l : List Nat) : List Nat := (l ++ List.replicate (24 - l.length) 0).mapIdx (fun i x => if i = n then x + v else x)

/-- A grove's cache holds the key that a handle names now (R349). -/
def Dev.cacheHolds (d : Dev) (g h : Nat) : Bool :=
  let cur := if hGen h ≠ 0 then some (hGen h)
    else if hSlot h = 0xFFFE then some (d.key.domain (hDom h)).gen
    else ((d.key.slot? (hDom h) (hSlot h)).bind (fun s => s.act)).map (fun a => a.attr.gen)
  h != 0 && hSlot h != 0xFFFF
    && d.key.cache.any (fun e => e.grove == g && e.dom == hDom h && e.slot == hSlot h && some e.gen == cur && !e.stale)

/-- An item may go to a unit that joined the pool at `j`: it was not started then (R168). -/
def Item.mayJoin (i : Item) (j : Nat) : Bool := !i.started || decide (j ≤ i.startSt)

/-- The grove for an item, by the steps of R154. -/
def Dev.chooseGrove (d : Dev) (i : Item) : Option Nat :=
  let eng := Desc.usesEngine i.desc
  let cands := (List.range 12).filter (fun g => d.candidate g eng && i.mayJoin (d.grove g).joinSt)
  let load := fun (g : Nat) => d.dsp.loads.getD (if eng then 12 + g else g) 0
  let least := fun (l : List Nat) => minBy load l
  let turn := fun (g : Nat) => (g + 11 - d.dsp.rr) % 12
  let pick := fun (l : List Nat) => match least l with
    | none => none
    | some b => minBy turn (l.filter (fun g => load g == load b))
  let warm := cands.filter (fun g => d.cacheHolds g (Desc.key1 i.desc))
  match least cands, least warm with
  | some b, some w => if load w ≤ load b + fld (d.effReg Off.dspPlaceCtrl) 9 0 * nsUs then pick warm else pick cands
  | _, _ => pick cands

/-- A placement raises a grove that stands below the lower of OP2 and MAX_OP (R591). -/
def Dev.raiseOp (g : Nat) (d : Dev) : Dev :=
  let top := min 2 (fld (d.effReg Off.pwrGovCtrl) 1 0)
  if d.groveOp g < top then { d with pwr := { d.pwr with groveOp := d.pwr.groveOp.mapIdx (fun i x => if i = g then top else x) } } else d

/-! ### Step B at a grove (R158, R195, R350, R351, R354) -/

/-- Loads of a grove outstanding. -/
def Dev.loadsOf (d : Dev) (g : Nat) : Nat := (d.key.loads.filter (fun l => l.grove == g)).length

/-- An item finishes at step B: its failure, and what records one (R361, R362). -/
def Dev.stepBFail (c : Ctx) (slot st sub : Nat) (d : Dev) : Dev :=
  let d1 := (d.bump Off.keyLoadFail).finishNow c slot st sub
  if st = 0x30 ∧ sub = 0x22 then d1.evtBit Off.keyEvt 4 else d1

/-- The handles that a slice's items resolved, most recent first (R399). -/
def Dev.noteRefs (i : Item) (d : Dev) : Dev :=
  if i.spillFrom.isSome then d
  else
    let used := ([Desc.key1 i.desc, Desc.key2 i.desc].filter (fun h => h != 0 && (needOf i.desc (if h = Desc.key1 i.desc then 1 else 2)).isSome)).map (fun h => (BitVec.ofNat 64 h : DWord))
    d.updSlice i.slice (fun x => { x with keyRefs := (used ++ x.keyRefs.filter (fun h => !used.contains h)).take 4096 })

/-- Step B of a PLACED item whose input is staged: it fails, asks for a load, or has its keys. -/
def Dev.runStepB (c : Ctx) (slot : Nat) (d : Dev) : Dev :=
  match d.item? slot with
  | none => d
  | some i =>
    if i.ds ≠ .placed ∨ i.keysOk ∨ i.staged = false ∨ d.key.loads.any (fun l => l.item == slot) then d
    else
      let d1 := d.takeUp i.grove
      match d1.stepB c i with
      | .fail st sub => d1.stepBFail c slot st sub
      | .load idx =>
        if d1.loadsOf i.grove < 8 then
          let k := { d1.key with loads := d1.key.loads ++ [{ grove := i.grove, item := slot, idx := idx }], misses := bumpAt i.grove d1.key.misses }
          ({ d1 with key := k }).updItem slot (fun x => { x with missed := x.missed + 1 })
        else d1
      | .ok keys resv =>
        let k0 := keys.foldl (fun a r => a.pin i.grove slot r) d1.key
        let k1 := { k0 with
          hits := k0.hits.mapIdx (fun n x => if n = i.grove then x + (keys.length - i.missed) else x),
          resvs := match resv with
            | some v => if k0.resvs.any (fun r => r.item == slot) then k0.resvs else k0.resvs ++ [v]
            | none => k0.resvs }
        (({ d1 with key := k1 }).updItem slot (fun x => { x with keys := keys, keysOk := true })).noteRefs i

/-- An item waits at step C for randomness (R192, R380). -/
def Dev.atStepC (d : Dev) (i : Item) : Bool :=
  i.ds == .placed && i.keysOk && i.rnd.isNone && i.mark.isNone && Desc.drawsRandom i.desc && !(d.drbg i.grove).serves

/-- In NO_RANDOMNESS every item that waits at step C, or reaches it, completes (R381). -/
def Dev.stepC (c : Ctx) (p : Item → Bool) (d : Dev) : Dev :=
  if d.rng.state ≠ .noRandomness then d
  else (d.sortByKey (d.dsp.items.filter (fun i => d.atStepC i && p i))).foldl
    (fun a i => a.finishNow c i.slot 0x20 (if d.rng.cause = 1 then 1 else 2)) d

/-- The dispatcher of a grove goes on with step B of its PLACED items, in scheduling-key order (R158), then step C. -/
def Dev.pumpKeys (c : Ctx) (g : Nat) (d : Dev) : Dev :=
  ((d.sortByKey ((d.groveItems g .placed).filter (fun i => !i.keysOk))).foldl (fun a i => a.runStepB c i.slot) d).stepC c (fun i => i.grove == g)

/-! ### Eligibility for a twin, and preemption (R157, R159, R160, R239, R240) -/

/-- Mask blocks that can be reserved for a start: what is left of the current seed, and the next seed. -/
def Grove.canMask (g : Grove) (n : Nat) : Bool := (g.mgen == .running || g.mgen == .reseedPending) && decide (n ≤ g.remain + g.next)

/-- A PLACED item that a twin may take, the twin apart: keys, randomness, masks, back-off. -/
def Dev.ready (d : Dev) (i : Item) : Bool :=
  i.ds == .placed && !Desc.usesEngine i.desc && i.keysOk && i.staged && i.notBefore.isNone && i.mark.isNone
    && (i.rnd.isSome || !Desc.drawsRandom i.desc || (d.drbg i.grove).serves)
    && (d.grove i.grove).canMask (maskDemand i.desc i.keys)

/-- Where a grove's SRAM holds an item's staged input, in blocks of 512 bytes: a free choice (R564; log entry 90). -/
def Item.stageBlocks (i : Item) : List Nat :=
  let b := Config.freeNat i.seq 430 % 12160
  (List.range (min 128 ((Desc.inLen i.desc + 511) / 512))).map (fun k => 0x10000000 + i.grove * 0x800000 + (b + k) * 512)

/-- The first block that the rules deny the master that reads it (R544, R547, R557). No rule parts a block of 512 bytes (R546). -/
def Dev.stageDenied (c : Ctx) (m : Nat) (i : Item) (d : Dev) : Option Nat := i.stageBlocks.find? (fun a => !(d.gate c m false a).ok)

/-- The item's unit reads its input: it goes on, or, where the rules deny the read, the item completes ACCESS_DENIED RULE (R557). -/
def Dev.readInput (c : Ctx) (m : Nat) (i : Item) (go : Dev → Dev) (d : Dev) : Dev :=
  match d.stageDenied c m i with
  | some a => (d.readDenied c m a).finishNow c i.slot 0x30 0x21
  | none => go d

/-- A twin that can take an item now: both its lanes at one patch level (R236). -/
def Twin.free (t : Twin) : Bool := t.state == .inService && t.running.isNone && t.main.level == t.check.level

/-- Remaining lane time of a RUNNING item at its grove's operating point, in ns. -/
def Dev.remainNs (c : Ctx) (d : Dev) (i : Item) : Nat := atOp (d.groveOp i.grove) i.laneCost - (i.doneNs + (c.now - i.runSt))

/-- Context slots in use on a twin (R259). -/
def Dev.ctxOn (d : Dev) (t : Nat) : List Nat :=
  (d.dsp.items.filter (fun i => i.ds == .suspended && i.twin == some t)).filterMap (fun i => i.ctxSlot)

/-- A RUNNING item that may be preempted for an item of key `k` (R159, R160). -/
def Dev.victim (c : Ctx) (d : Dev) (k : Nat) (i : Item) : Bool :=
  let ctl := d.effReg Off.dspPreemptCtrl
  i.ds == .running && i.twin.isSome && i.pke == .none && !i.preempt && Desc.preemptible i.desc
    && decide (fld ctl 23 16 * nsUs < d.remainNs c i) && decide ((d.ctxOn (i.twin.getD 0)).length < 8)
    && decide (k + fld ctl 15 8 * nsUs < d.effKey i)

/-- The latest in scheduling-key order. -/
def Dev.lastByKey (d : Dev) : List Item → Option Item
  | [] => none
  | a :: t => match Dev.lastByKey d t with
    | none => some a
    | some b => if d.earlier a b then some b else some a

/-- The preemption rule of a grove (R159): one signal at a time. -/
def Dev.tryPreempt (c : Ctx) (g : Nat) (d : Dev) : Dev :=
  let busy := !((twinsOf g).any (fun t => (d.twin t).free))
  let head := d.firstByKey ((d.groveItems g .placed).filter (fun i => !Desc.usesEngine i.desc && i.notBefore.isNone))
  match head with
  | none => d
  | some h =>
    if bit (d.effReg Off.dspPreemptCtrl) 0 && busy && d.ready h && !d.dsp.items.any (fun i => i.grove == g && i.preempt) then
      match d.lastByKey ((d.groveItems g .running).filter (d.victim c (d.effKey h))) with
      | none => d
      | some v => (d.bump Off.dspPreempts).updItem v.slot (fun x => { x with preempt := true })
    else d

/-! ### Spill-out (R423 to R425) -/

/-- A spill peer listed in FAB_SPILL_PEER. -/
def Dev.spillListed (d : Dev) (n : Nat) : Bool :=
  (List.range 8).any (fun i => let w := d.reg (Off.fabSpillPeer + 4 * i); bit w 31 && fld w 9 0 == n)

/-- What R423 asks of an item. -/
def Dev.spillable (d : Dev) (i : Item) : Bool :=
  let desc : Desc := i.desc
  let h := fun (x : Nat) => x == 0 || hSlot x == 0xFFFE || hSlot x == 0xFFFF
  bit (d.reg Off.fabSpillCtrl) 0 && decide (fld (d.reg Off.fabSpillCtrl) 2 1 ≤ d.dsp.reef)
    && [1, 2, 3, 5, 6, 7, 0x0A].contains desc.cls && h desc.key1 && h desc.key2 && desc.target?.isNone
    && !i.noSpill && i.spillFrom.isNone && d.tim.state == .locked

/-- The peer for an item: most credit left, ties to the lower node (R423, R424). -/
def Dev.spillPeer (d : Dev) (i : Item) : Option Nat :=
  let m := d.key.domain i.dom
  let ok := fun (o : Offer) => d.spillListed o.node && decide (0 < o.credit) && o.gens.contains (i.dom, m.gen, m.prevValid)
    && d.fab.sessions.any (fun s => s.peer == o.node) && d.fab.nodes.any (fun n => n.num == o.node && n.live && n.qual == 2)
  let l := d.fab.offers.filter ok
  let best := (l.map (fun o => o.credit)).foldl max 0
  if d.spillable i then (minBy (fun o => o.node) (l.filter (fun o => o.credit == best))).map (fun o => o.node) else none

/-- The message that carries a spilled item: its slot, remaining time in ns, descriptor and input (R425). -/
def Dev.spillSend (c : Ctx) (slot : Nat) (d : Dev) : Dev :=
  match d.item? slot with
  | none => d
  | some i => match i.spill with
    | none => d
    | some p =>
      if i.staged then
        (d.sendPeer p.1 4 1 ([slot, i.seq, i.slice, i.dom, i.deadline - c.now, i.desc.length].flatMap msgNum ++ i.desc ++ i.input)).updItem slot
          (fun x => { x with spill := some (p.1, c.now) })
      else d

/-- The bucket of a waiting time. -/
def histBucket (w : Nat) : Nat := ((List.range 15).find? (fun b => decide (w < 2 ^ b * nsUs))).getD 15

/-- One more started item in its slice's histogram. -/
def Dev.histAdd (s w : Nat) (d : Dev) : Dev :=
  d.updCnt s (fun k => { k with hist := (k.hist ++ List.replicate (16 - k.hist.length) 0).mapIdx (fun i x => if i = histBucket w then sat 0xFFFFFFFF (x + 1) else x) })

/-- An item that starts for the first time is counted in its slice's histogram (R179). -/
def Dev.countStart (c : Ctx) (i : Item) (d : Dev) : Dev :=
  if i.started || i.spillFrom.isSome then d else d.histAdd i.slice (c.now - i.acceptSt)

/-- An item goes to a peer instead of a grove: IN_SERVICE and SPILLED in the journal, RUNNING for everything else. -/
def Dev.spillOut (c : Ctx) (peer : Nat) (i : Item) (d : Dev) : Dev :=
  let less := fun (o : Offer) => if o.node = peer then { o with credit := o.credit - 1 } else o
  let d1 := ({ d with fab := { d.fab with offers := d.fab.offers.map less } }).countStart c i
  let d2 := (d1.updItem i.slot (fun x => { x with ds := .running, spill := some (peer, c.now), noSpill := true, started := true, startSt := if x.started then x.startSt else c.now })).updRec
    i.slot (fun r => { r with st := .inService, spilled := true })
  (d2.mirrorRec i.slot).spillSend c i.slot

/-! ### ITEM_PLACEMENT (R153) -/

/-- An item joins a grove, and step B and the preemption rule follow. -/
def Dev.placeOn (c : Ctx) (g : Nat) (i : Item) (d : Dev) : Dev :=
  let l1 := addAt g (atOp (d.groveOp g) i.laneCost) d.dsp.loads
  let l2 := if Desc.usesEngine i.desc then addAt (12 + g) (atOp (d.groveOp g) i.pkeCost) l1 else l1
  let d1 := (({ d with dsp := { d.dsp with loads := l2, rr := g } }).updItem i.slot (fun x => { x with ds := .placed, grove := g, keys := [], keysOk := false, missed := 0 })).raiseOp g
  (d1.pumpKeys c g).tryPreempt c g

/-- The first PENDING items whose acceptance is published (R18): of those that need a twin, and of those that need an engine (R153). -/
def Dev.heads (d : Dev) : List Item :=
  let l := d.pendingItems.filter (fun i => i.mark.isNone && d.published i)
  ((d.firstByKey (l.filter (fun i => !Desc.usesEngine i.desc))).toList) ++ ((d.firstByKey (l.filter (fun i => Desc.usesEngine i.desc))).toList)

/-- Sub-status of EXPIRED (R171): whether the deadline was past already at acceptance. -/
def Item.expirySub (i : Item) : Nat := if i.pastAt then 3 else 2

/-- ITEM_PLACEMENT: the earlier of the two heads that can be placed or spilled. Whether an item that R423 admits is
spilled is a free choice (log entry 7); one that would start at the peer after its deadline under EXPIRE finishes (R170). -/
def itemPlacementOp (c : Ctx) (d : Dev) : Dev :=
  if d.warning || d.locked || !d.roleActs || !d.past 8 || d.pwr.halted then d
  else
    let can := d.heads.filter (fun i => (d.chooseGrove i).isSome || (d.spillPeer i).isSome)
    match d.firstByKey can with
    | none => d
    | some i =>
      let spill := if Config.freeBool d.rng.ctr i.slot then d.spillPeer i else none
      let d1 := if (d.spillPeer i).isSome then d.draw else d
      match spill, d.chooseGrove i with
      | some p, _ => if !i.started && d.expires i && decide (i.deadline < c.now) then d1.finishNow c i.slot 1 i.expirySub else d1.spillOut c p i
      | none, some g => d1.placeOn c g i
      | none, none => d1

def execItemPlacement (s : State) : Host.Outcome State Fault Refusal := s.onDev itemPlacementOp

/-! ### What a dispatch epoch does inside the dispatch unit (R22, R143, R154, R168, R173 to R175, R381) -/

/-- The registers whose settings an epoch takes up. -/
def epochRegs : List Nat := [Off.dspGroveMask, Off.dspPlaceCtrl, Off.dspPreemptCtrl, Off.dspReefCtrl, Off.ddtRetain]
def Dev.takeSettings (d : Dev) : Dev :=
  { d with
    dsp := { d.dsp with eff := epochRegs.foldl (fun e o => e.set o (d.reg o)) d.dsp.eff }
    slices := d.slices.map (fun (s : Slice) => { s with effWeight := s.weight, effExpiry := s.expiry }) }

/-- HELD items with no hold left become PENDING (R143). -/
def Dev.releaseHolds (d : Dev) : Dev :=
  { d with dsp := { d.dsp with items := d.dsp.items.map (fun i => if i.ds == .held && i.mark.isNone && !d.holds i then { i with ds := .pending } else i) } }

/-- A unit that passed its tests, or that READMIT_HOLD no longer holds, joins the pool (R168, R253, R254, R258, R311). -/
def joins (hold : Bool) (st : UnitState) (passed : Bool) : Bool := (st == .clearing && passed) || (st == .held && !hold)

def Dev.readmit (c : Ctx) (d : Dev) : Dev :=
  let hold := bit (d.reg Off.lanClearCtrl) 0
  let tw := (d.lan.twins.filter (fun t => joins hold t.state t.passed)).foldl (fun (a : Dev) t =>
    ((a.updTwin t.num (fun x => { x with state := .inService, passed := false, joinSt := c.now })).recordUnit c 0 t.num t.state .inService).evtBit Off.lanEvt 2) d
  let en := (d.pke.engines.filter (fun e => joins hold e.state e.passed)).foldl (fun (a : Dev) e =>
    ((a.updEngine e.num (fun x => { x with state := .inService, passed := false, joinSt := c.now })).recordUnit c 2 e.num e.state .inService).evtBit Off.pkeEvt 2) tw
  (d.lan.groves.filter (fun g => joins hold g.state g.passed)).foldl (fun (a : Dev) g =>
    let a1 := (a.updGrove g.num (fun x => { x with state := .inService, passed := false, joinSt := c.now, mmSts := if x.byCount then [] else x.mmSts, byCount := false })).recordUnit c 1 g.num g.state .inService
    if a1.eligible g.num then a1.evtBit Off.dspEvt 4 else a1) en

/-- The credits of an epoch (R174): those of the last epoch lapse. -/
def Dev.epochCredits (d : Dev) : Dev :=
  if d.dsp.reef < 2 then
    { d with dsp := { d.dsp with credits := 0, counts := d.dsp.counts.map (fun (k : SliceCnt) => { k with got := 0, share := false }) } }
  else { d with dsp := { d.dsp with
    credits := if d.dsp.reef = 2 then max 64 (d.dsp.epochOwed + ceilDiv d.dsp.epochOwed 8) else d.dsp.epochPosted } }

/-- How long the conditions of R173 have held without a break. -/
def Dev.reefWatch (c : Ctx) (d : Dev) : Dev :=
  let th := fld (d.effReg Off.dspReefCtrl) 15 0
  let keep := fun (p : Bool) (o : Option Nat) => if p then some (o.getD c.now) else none
  let b := d.backlog
  { d with dsp := { d.dsp with
      upSince := keep (decide (th < b)) d.dsp.upSince, downSince := keep (decide (8 * b ≤ 7 * th)) d.dsp.downSince,
      lowSince := keep (decide (d.outstanding ≤ 30720)) d.dsp.lowSince } }

/-- NO_MASKS (R381): in NO_RANDOMNESS, items that need a twin, where no grove with a mask generator that serves is a
candidate; a public-key item that waits for its release phase has its own grove alone. -/
def Dev.noMasks (c : Ctx) (d : Dev) : Dev :=
  if d.rng.state ≠ .noRandomness then d
  else
    let any := (List.range 12).any (fun g => d.candBase g false)
    let hit := fun (i : Item) =>
      (!any && !Desc.usesEngine i.desc && (i.ds == .pending || i.ds == .placed))
        || (i.ds == .running && i.pke == .between && !(d.grove i.grove).canMask (maskDemand i.desc i.keys))
    (d.sortByKey (d.dsp.items.filter hit)).foldl (fun a i => a.finishNow c i.slot 0x20 3) d

/-- The events of the groves that a new mask takes into the pool or out of it (R182). -/
def Dev.maskEvents (old : Dev) (d : Dev) : Dev :=
  let moved := fun (b : Bool) => (List.range 12).any (fun g => old.inPool g != d.inPool g && d.inPool g == b)
  let d1 := if moved false then d.evtBit Off.dspEvt 3 else d
  if moved true then d1.evtBit Off.dspEvt 4 else d1

/-- Everything of an epoch but the pair's self-demotion. A supply warning or a response freezes the governors (R27). -/
def Dev.epoch (c : Ctx) (d : Dev) : Dev :=
  let d1 := ({ d with dsp := { d.dsp with lastEpoch := c.now / nsUs }, tmp := { d.tmp with resume := false } }).takeSettings.maskEvents d
  let d2 := { d1 with lan := { d1.lan with groves := d1.lan.groves.map (fun (g : Grove) => if g.mgen == MgenState.exhausted then g else { g with mgenIn := true }) } }
  let d3 := if d2.warning || d2.locked then d2 else d2.readmit c
  let d4 := (d3.releaseHolds.reefWatch c).noMasks c
  let d5 := if d4.warning || d4.locked then d4 else d4.epochCredits
  let d6 := { d5 with dsp := { d5.dsp with loads := d5.freshLoads, epochOwed := 0, epochPosted := 0 } }
  (List.range 12).foldl (fun (a : Dev) g => a.tryPreempt c g) d6

/-! ### REEF_LEVEL_CHANGE (R173, R177, R182) -/

/-- The condition has held for `n` ns. -/
def heldFor (c : Ctx) (o : Option Nat) (n : Nat) : Bool := match o with | some t => decide (t + n ≤ c.now) | none => false

/-- The level that R173 moves to, if any. -/
def Dev.reefNext (c : Ctx) (d : Dev) : Option Nat :=
  let p := d.dsp
  let l2 := fld (d.effReg Off.dspReefCtrl) 31 16 * nsUs
  if p.reef ≠ 3 ∧ 32768 ≤ d.outstanding then some 3
  else match p.reef with
    | 0 => if heldFor c p.upSince (100 * nsUs) then some 1 else none
    | 1 => if heldFor c (p.upSince.map (fun t => max t p.reefSince)) l2 then some 2
           else if heldFor c p.downSince (100 * nsUs) then some 0 else none
    | 2 => if heldFor c p.downSince (100 * nsUs) then some 1 else none
    | _ => if heldFor c p.lowSince (100 * nsUs) then some 2 else none

/-- Level `n` is entered. -/
def Dev.toReef (c : Ctx) (n : Nat) (d : Dev) : Dev :=
  let p := d.dsp
  let l3 := if p.reef = 3 then p.l3Ns + (match p.l3Since with | some t => c.now - t | none => 0) else p.l3Ns
  let d1 := { d with dsp := { p with reef := n, reefSince := c.now, l3Ns := l3, l3Since := if n = 3 then some c.now else none } }
  let d2 := if n = 1 then d1.bump Off.dspReefL1Cnt else if n = 2 then d1.bump Off.dspReefL2Cnt else if n = 3 then d1.bump Off.dspReefL3Cnt else d1
  (d2.evtBit Off.dspEvt 0).record c Trig.reefChange (toLe 1 p.reef ++ toLe 1 n ++ toLe 2 d.backlog)

/-- REEF_LEVEL_CHANGE: at a 1 µs dispatch epoch (R21, R173), with the conditions as they stand there. -/
def reefLevelChangeOp (c : Ctx) (d : Dev) : Dev :=
  if d.warning || d.locked || c.now % nsUs != 0 then d
  else
    let d1 := d.reefWatch c
    match d1.reefNext c with
    | none => d1
    | some n => d1.toReef c n

def execReefLevelChange (s : State) : Host.Outcome State Fault Refusal := s.onDev reefLevelChangeOp

/-! ### Expiry, back-off, firmware timers -/

/-- DEADLINE_EXPIRY: an epoch has come after the deadline of an item that is not started (R170); the check is an entry of
the delay list (R165), due at the first tick after the deadline. -/
def deadlineExpiryOp (slot : Nat) (c : Ctx) (d : Dev) : Dev :=
  match d.item? slot with
  | none => d
  | some i =>
    if d.expiryWaits i && d.acked slot
        && d.mayFire c .expiry slot then
      (d.delayFire c (i.deadline + 1)).finishNow c slot 1 i.expirySub
    else d

def execDeadlineExpiry (slot : Nat) (s : State) : Host.Outcome State Fault Refusal := s.onDev (deadlineExpiryOp slot)

/-- RESTART_BACKOFF_EXPIRY (R163, R247). -/
def restartBackoffOp (slot : Nat) (c : Ctx) (d : Dev) : Dev :=
  match (d.item? slot).bind (fun i => i.notBefore) with
  | none => d
  | some t => 
    if d.mayFire c .backoff slot then
      let d1 := (d.delayFire c t).updItem slot (fun x => { x with notBefore := none })
      d1.tryPreempt c (((d.item? slot).map (fun i => i.grove)).getD 0)
    else d

def execRestartBackoffExpiry (slot : Nat) (s : State) : Host.Outcome State Fault Refusal := s.onDev (restartBackoffOp slot)


/-- The timer of a thread class is set. -/
def Dev.setFwTimer (c : Ctx) (cls due : Nat) (d : Dev) : Dev :=
  { d with dsp := { d.dsp with fwTimers := d.dsp.fwTimers.filter (fun f => f.cls != cls) ++ [{ cls := cls, due := due, ins := c.now }] } }
/-- The next multiple of 100 µs of ST (R591). -/
def nextEval (now : Nat) : Nat := (now / (100 * nsUs) + 1) * (100 * nsUs)

/-- FIRMWARE_TIMER: the timer of a thread class fires and wakes its task; that of the DVFS class every 100 µs of ST, the
others when firmware has set them, which is the command's to say. -/
def firmwareTimerOp (task : Nat) (c : Ctx) (d : Dev) : Dev :=
  match d.dsp.fwTimers.find? (fun f => f.cls == task) with
  | some t =>
    if d.mgmtUp && d.endpointUp && d.mayFire c .firmware task then
      let d1 := d.delayFire c t.due
      (if task = 0 then d1.setFwTimer c 0 (nextEval c.now)
       else { d1 with dsp := { d1.dsp with fwTimers := d1.dsp.fwTimers.filter (fun f => f.cls != task) } }).fwReady c task
    else d
  | none =>
    if task < 5 && d.mgmtUp && d.endpointUp then (if task = 0 then d.setFwTimer c 0 (nextEval c.now) else d).fwReady c task else d

def execFirmwareTimer (task : Nat) (s : State) : Host.Outcome State Fault Refusal := s.onDev (firmwareTimerOp task)

/-- FW_TASK_DEADLINE_MISS (R166, R182, R504). -/
def fwTaskMissOp (task : Nat) (c : Ctx) (d : Dev) : Dev :=
  let d := d.fwAdvance c
  match d.dsp.fw.find? (fun f => f.id == task) with
  | none => d
  | some f =>
    if !f.missed && d.mgmtUp && decide (f.deadline < c.now) then
      let d1 := { d with dsp := { d.dsp with fw := updWhere (fun x => x.id == task) (fun x => { x with missed := true }) d.dsp.fw } }
      ((d1.bump Off.dspFwMiss).evtBit Off.dspEvt 6).record c Trig.fwMiss (toLe 1 f.cls ++ toLe 4 ((c.now - f.deadline) / nsUs))
    else d

def execFwTaskDeadlineMiss (task : Nat) (s : State) : Host.Outcome State Fault Refusal := s.onDev (fwTaskMissOp task)

/-! ### Histograms (R179, R180) -/

/-- A write of DSP_SLICE_HIST_CTRL. -/
def histCtrlW (v : Word) (d : Dev) : WOut :=
  let d1 := if bit v 0 then d.updCnt (fld (d.reg Off.dspSliceSel) 11 0) (fun k => { k with hist := [] }) else d
  .took (if bit v 1 then { d1 with dsp := { d1.dsp with counts := d1.dsp.counts.map (fun (k : SliceCnt) => { k with hist := [] }) } } else d1)

def execSliceHistClear (s : State) : Host.Outcome State Fault Refusal :=
  s.onDev (fun c d => d.hostWrite c Off.dspSliceHistCtrl (histCtrlW 1#32))
def execSliceHistClearAll (s : State) : Host.Outcome State Fault Refusal :=
  s.onDev (fun c d => d.hostWrite c Off.dspSliceHistCtrl (histCtrlW 2#32))

/-- A read of DSP_SLICE_HIST(0) latches the 16 buckets of the selected slice. -/
def Dev.histLatch (d : Dev) : Dev :=
  let l := (d.sliceCnt (fld (d.reg Off.dspSliceSel) 11 0)).hist
  { d with dsp := { d.dsp with histLatch := l ++ List.replicate (16 - l.length) 0 } }

def execSliceHistRead (s : State) : Host.Outcome State Fault Refusal :=
  s.onDev (fun c d => d.hostRead c Off.dspSliceHist (fun x => let y := x.histLatch; (BitVec.ofNat 64 (y.dsp.histLatch.getD 0 0), y)))

/-! ### Registers (R24, R181 to R183) -/

def dspW (_ : Ctx) (off : Nat) (v : Word) (d : Dev) : WOut :=
  let put := fun (m : Word) => WOut.took (d.setReg off (v &&& m))
  if off = Off.dspGroveMask then (if v &&& 0xFFF#32 = 0#32 then .viol else put 0xFFF#32)
  else if off = Off.dspPlaceCtrl then
    (if 8 ≤ fld v 24 16 ∧ fld v 24 16 ≤ 256 then put 0x01FF03FF#32 else .drop)
  else if off = Off.dspPreemptCtrl then (if 1 ≤ fld v 15 8 ∧ 1 ≤ fld v 23 16 then put 0x00FFFF01#32 else .drop)
  else if off = Off.dspReefCtrl then
    (if 64 ≤ fld v 15 0 ∧ fld v 15 0 ≤ 32767 ∧ 100 ≤ fld v 31 16 then put 0xFFFFFFFF#32 else .drop)
  else if off = Off.dspGroveSel then (if fld v 3 0 ≤ 11 then put 0xF#32 else .drop)
  else if off = Off.dspLaneSel then (if fld v 7 0 ≤ 195 then put 0xFF#32 else .drop)
  else if off = Off.dspSliceSel then put 0xFFF#32
  else if off = Off.dspSliceHistCtrl then histCtrlW v d
  else if off = Off.dspEvt then .took (d.setReg off (d.reg off &&& ~~~v))
  else if off = Off.dspEvtEn then put 0x7F#32
  else .drop

end Sys2Proof.Machine
end

