-- ==== Sys2Proof/Machine/VerbRun.lean ====
section
/-! DEFINITION. What a twin and an engine compute: steps D1 to D3, E1, F1 and F2 of every verb (R192 to R231, R264 to
R279, R288 to R309). -/

namespace Sys2Proof.Machine

/-- A result as the lanes present it: status, sub-status, output, and the sapling to write with its target. -/
structure VRes where
  st  : Nat := 0
  sub : Nat := 0
  out : Bytes := []
  sap : Option (KeyAttr × Bytes) := none

def VRes.bad (st sub : Nat) : VRes := { st := st, sub := sub }
/-- Step D1, D2 and D3 failures. -/
def inv (sub : Nat) : VRes := VRes.bad 0x12 sub
def vfail (sub : Nat) : VRes := VRes.bad 0x17 sub

/-- What an execution may use beside the descriptor and the input. -/
structure RunCtx where
  slice  : Nat
  seq    : Nat
  dmks   : List Bytes
  dom    : Nat
  rnd    : RndOut
  key    : Key
  /-- slice number of the migration image that the slice was restored from (R405) -/
  origin : Option Nat := none
  /-- unit whose journal gave the sequence: the origin's for a spilled item (R274) -/
  unit   : BitVec 128 := Config.unitId

/-! ### PIN verbs (R202 to R210, R230) -/

/-- A PAN field that the formats require, or one that must be all 0 (log entry 27). -/
def panReq (need : Bool) (f : Bytes) : Option (List Nat) := if need then panDigits f else if allZero f then some [] else none
def bound (f : Nat) : Bool := f != 1

def runPinTranslate (d : Desc) (v : Bytes) (k1 k2 : KeyRes) (rnd : RndOut) : VRes :=
  let fi := d.p 76
  let fo := d.p 77
  let change := d.p 78 == 1
  match panReq (bound fi || bound fo) (bsub v 16 20), panReq change (bsub v 36 20) with
  | some a, some b =>
    match pinDecode fi k1.attr.alg k1.mat (v.take 16) a with
    | none => inv 0x40
    | some pin => { out := pinEncode fo k2.attr.alg k2.mat pin (if change then b else a) rnd }
  | _, _ => inv 0x41

/-- Customer digits against natural PIN and offset (R204). -/
def addDigits (a b : List Nat) : List Nat := List.zipWith (fun x y => (x + y) % 10) a b
def subDigits (a b : List Nat) : List Nat := List.zipWith (fun x y => (x + 10 - y) % 10) a b

def validOk (alg : Nat) (f : Bytes) : Bool := algIsAes alg || allZero (bsub f 8 8)

def runPinVerifyOffset (d : Desc) (v : Bytes) (k1 k2 : KeyRes) : VRes :=
  let fi := d.p 76
  let n := d.p 77
  match panReq (bound fi) (bsub v 16 20) with
  | none => inv 0x41
  | some pan =>
    if !validOk k2.attr.alg (bsub v 36 16) || !bcdOk n (bsub v 52 6) then inv 0x42
    else match pinDecode fi k1.attr.alg k1.mat (v.take 16) pan with
      | none => inv 0x40
      | some pin =>
        let want := addDigits (naturalPin k2.attr.alg k2.mat (bsub v 36 16) (bsub d 78 16) n) ((nibbles (bsub v 52 6)).take n)
        if n ≤ pin.length ∧ cmpDigits (pin.take n) want = true then {} else vfail 1

def runPinCompare (d : Desc) (v : Bytes) (k1 k2 : KeyRes) : VRes :=
  match panDigits (bsub v 16 20) with
  | none => inv 0x41
  | some pan =>
    match pinDecode (d.p 76) k1.attr.alg k1.mat (v.take 16) pan, pinDecode 4 k2.attr.alg k2.mat (bsub v 36 16) pan with
    | some a, some b => if cmpDigits a b then {} else vfail 1
    | _, _ => inv 0x40

/-- Digits of a generated PIN: free values from 0 to 9 (R209, log entry 7). -/
def drawnPin (rnd : RndOut) (n : Nat) : List Nat := (List.range n).map (fun i => Config.freeNat rnd.ctr (1000 + i) % 10)

def runPinGenerate (d : Desc) (v : Bytes) (k1 k2 : KeyRes) (rnd : RndOut) : VRes :=
  let fo := d.p 76
  let n := d.p 77
  match panReq (bound fo) (v.take 20) with
  | none => inv 0x41
  | some pan =>
    if !validOk k2.attr.alg (bsub v 20 16) then inv 0x42
    else
      let pin := drawnPin rnd n
      let off := subDigits pin (naturalPin k2.attr.alg k2.mat (bsub v 20 16) (bsub d 78 16) n)
      { out := padTo 16 (pinEncode fo k1.attr.alg k1.mat pin pan rnd) ++ toBcd 6 off }

/-! ### Card verification verbs (R211 to R215) -/

def runArqc (d : Desc) (v : Bytes) (k : KeyRes) : VRes :=
  match panDigits (v.take 20) with
  | none => inv 0x41
  | some pan =>
    let m := d.p 76
    let opt := d.p 77
    let np := d.p 78
    let arcOk := if m = 0 then allZero (bsub v 31 4) else if m = 1 then allZero (bsub v 33 2) else true
    if !bcdOk 2 (bsub v 20 1) || !arcOk || !allZero (bsub v (35 + np) (8 - np)) then inv 0x42
    else
      let icc := emvCardKey k.attr.alg (opt % 2 == 1) k.mat pan (v.getD 20 0)
      let sk := if opt / 2 % 2 = 1 then icc else emvSession k.attr.alg icc (bsub v 21 2)
      let data := v.drop 43
      let mac := if algIsAes k.attr.alg then (cmac k.attr.alg sk data).take 8 else macAlg3 sk (isoPad (if opt / 4 % 2 = 1 then 2 else 1) data)
      if !cmpUnit mac (bsub v 23 8) then vfail 2
      else { out := if m = 0 then [] else emvArpc k.attr.alg m sk (bsub v 23 8) (bsub v 31 4) (bsub v 35 np) }

def runCvv (verify : Bool) (d : Desc) (v : Bytes) (k : KeyRes) : VRes :=
  match panDigits (v.take 20) with
  | none => inv 0x41
  | some pan =>
    let n := d.p 76
    if !expiryOk (bsub v 20 2) || !bcdOk 3 (bsub v 22 2) || (verify && !bcdOk n (bsub v 24 3)) then inv 0x42
    else
      let val := toBcd 3 ((cvv k.mat pan (bsub v 20 2) (bsub v 22 2)).take n)
      if verify then (if cmpUnit val (bsub v 24 3) then {} else vfail 3) else { out := val }

def runDcvv (d : Desc) (v : Bytes) (k : KeyRes) : VRes :=
  match panDigits (v.take 20) with
  | none => inv 0x41
  | some pan =>
    let n := d.p 76
    if !bcdOk 2 (bsub v 20 1) || !expiryOk (bsub v 27 2) || !bcdOk n (bsub v 29 3) then inv 0x42
    else
      let ck := emvCardKey k.attr.alg (d.p 77 % 2 == 1) k.mat pan (v.getD 20 0)
      let p16 := pan.drop (pan.length - 16)
      let blk := bsub v 23 4 ++ bsub v 21 2 ++ ofNibbles (List.replicate (16 - p16.length) 0 ++ p16) ++ bsub v 27 2
      let r := if algIsAes k.attr.alg then enc k.attr.alg ck blk else macAlg3 ck blk
      if cmpUnit (toBcd 3 ((decimalise r).take n)) (bsub v 29 3) then {} else vfail 3

/-! ### MAC verbs (R216 to R218) -/

def macOf (alg pad hash : Nat) (k : KeyRes) (m : Bytes) (n : Nat) : Bytes :=
  if alg = 1 then (macAlg1 k.attr.alg k.mat (isoPad pad m)).take n
  else if alg = 3 then (macAlg3 k.mat (isoPad pad m)).take n
  else if alg = 6 then (cmac k.attr.alg k.mat m).take n
  else hmac hash k.mat m n

def runMac (verify : Bool) (d : Desc) (v : Bytes) (k : KeyRes) : VRes :=
  let n := d.p 79
  let mac := fun (m : Bytes) => macOf (d.p 76) (d.p 77) (d.p 78) k m n
  if verify then (if cmpUnit (mac (v.drop n)) (v.take n) then {} else vfail 4) else { out := mac v }

/-! ### Key-block verbs (R219 to R223) -/

/-- A TDES value that R222 does not allow, altered into one that it does: the first byte of each part is of none of the weak
keys, and differs from part to part. -/
def tdesFix (k : Bytes) : Bytes := ((k.set 0 0x10).set 8 0x13).set 16 0x15
/-- A generated symmetric key: the bytes drawn, as R222 allows them. -/
def drawnKey (alg : Nat) (rnd : RndOut) : Bytes :=
  let k := rnd.bytes (algLen alg)
  if algIsTdes alg then (if tdesGood (oddParity k) then oddParity k else tdesFix (oddParity k)) else k

def runImport (d : Desc) (v : Bytes) (k : KeyRes) (c : RunCtx) : VRes :=
  match kbParse k.attr.alg k.mat v false with
  | .error x => VRes.bad 0x13 x
  | .ok (a, mat) =>
    match d.target? with
    | none => {}
    | some t =>
      if !saplingFits c.key t a then VRes.bad 0x15 8
      else { out := kcvField (d.p 76) (d.p 77) a.alg mat, sap := some (a, mat) }

def runExport (k1 k2 : KeyRes) (rnd : RndOut) : VRes := { out := kbWrite k2.attr.alg k2.mat k1.attr k1.mat rnd }

def runKbTranslate (v : Bytes) (k1 k2 : KeyRes) (rnd : RndOut) : VRes :=
  match kbParseAll k1.attr.alg k1.mat v false with
  | .error x => VRes.bad 0x13 x
  | .ok k =>
    if (kbHead v).exp ≠ 0x45 then VRes.bad 0x15 4
    else if algRank k2.attr.alg < algRank k.attr.alg then VRes.bad 0x15 5
    else { out := kbRewrite k2.attr.alg k2.mat v k rnd }

def runKeyGenerate (d : Desc) (keys : List KeyRes) (rnd : RndOut) : VRes :=
  let a : KeyAttr := { alg := d.p 76, usage := d.chars 77, mode := d.p 79, exp := d.p 80 }
  let mat := drawnKey (d.p 76) rnd
  let kb := if d.key1 = 0 then [] else kbWrite (keyAt keys 0).attr.alg (keyAt keys 0).mat a mat (rnd.past 4)
  { out := kcvField (d.p 81) (d.p 82) (d.p 76) mat ++ kb, sap := if d.key2 = 0 then none else some (a, mat) }

/-! ### Hybrid and derived keys (R226, R299) -/

/-- Two-step derivation of R226: extraction with 48 zero bytes of salt, counter-mode expansion. -/
def twoStep (z label ctx : Bytes) (n : Nat) : Bytes := kdf 2 48 (hmac 2 (zeros 48) z 48) label ctx n

/-- What the engine hands to the twin (R285, R286): a public result and a secret one. -/
structure EngOut where
  pub : Bytes := []
  sec : Bytes := []

/-- The parts of a hybrid pair: EC and ML-KEM, private and public (R224, R289). -/
def hybL (s : Nat) : Nat := if s = 2 then 48 else 32
def hybEcPriv (s : Nat) (mat : Bytes) : Bytes := (matPriv mat).take (hybL s)
def hybSeed (s : Nat) (mat : Bytes) : Bytes := (matPriv mat).drop (hybL s)
def hybEcPub (s : Nat) (mat : Bytes) : Bytes := (matPub mat).take (suiteEi s)
def hybEk (s : Nat) (mat : Bytes) : Bytes := (matPub mat).drop (suiteEi s)
def hybKem (s : Nat) : Nat := if s = 2 then 0x32 else 0x31

/-- A Diffie–Hellman secret of a curve: the x-coordinate in L bytes, or the X25519 output (R226, R299). -/
def ecdh (alg l : Nat) (c : Curve) (priv pub : Bytes) : Bytes :=
  if alg = 0x11 then x25519 priv (pub.take 32) else c.dh l (beNat priv) ((c.decode l pub).getD none)
def hybDh (s : Nat) (priv pub : Bytes) : Bytes := ecdh (if s = 3 then 0x11 else s) (hybL s) (Curve.named s) priv pub
/-- A private key and its public one, drawn (R226, R297). -/
def ecPair (alg l : Nat) (c : Curve) (rnd : Bytes) : Bytes × Bytes :=
  if alg = 0x10 then (rnd.take 32, edPub (rnd.take 32))
  else if alg = 0x11 then (rnd.take 32, x25519Pub (rnd.take 32))
  else
    let k := Config.ecScalar c.n rnd
    (toBe l k, ptEncode l (c.mul k c.base))

/-- The engine phase of the hybrid verbs: EI and c, and Z = Ze ‖ Zs ‖ K (R226). -/
def engHybrid (respond : Bool) (s : Nat) (v : Bytes) (k1 k2 : KeyRes) (rnd : Bytes) : EngOut :=
  let kem := hybKem s
  if respond then
    let ei := v.take (suiteEi s)
    let ct := bsub v (suiteEi s) (suiteCt s)
    { pub := ei ++ ct, sec := hybDh s (hybEcPriv s k1.mat) ei ++ hybDh s (hybEcPriv s k1.mat) (hybEcPub s k2.mat)
        ++ mkBytes 32 (Config.kemDecByte kem (hybSeed s k1.mat) ct) }
  else
    let e := ecPair (if s = 3 then 0x11 else s) (hybL s) (Curve.named s) (rnd.take 64)
    let m := bsub rnd 64 32
    let ek := hybEk s k2.mat
    { pub := e.2 ++ mkBytes (suiteCt s) (Config.kemCtByte kem ek m),
      sec := hybDh s e.1 (hybEcPub s k2.mat) ++ hybDh s (hybEcPriv s k1.mat) (hybEcPub s k2.mat) ++ mkBytes 32 (Config.kemSecByte kem ek m) }

/-- The release phase of the hybrid verbs (R226, R227). -/
def runHybrid (respond : Bool) (d : Desc) (e : EngOut) : VRes :=
  let s := d.p 76
  let alg := d.p 77
  let ctx := [BitVec.ofNat 8 s, BitVec.ofNat 8 alg] ++ bsub d 86 32 ++ e.pub.take (suiteEi s) ++ sha384 (e.pub.drop (suiteEi s))
  let key := twoStep e.sec lblHybrid ctx (algLen alg)
  let a : KeyAttr := { alg := alg, usage := d.chars 78, mode := d.p 80, exp := d.p 81 }
  let kcvf := kcvField 2 (d.p 82) alg key
  let want := bsub d 118 8
  if respond then
    if !allZero want && !cmpUnit (want.take (d.p 82)) (kcvf.take (d.p 82)) then vfail 5 else { out := kcvf, sap := some (a, key) }
  else { out := e.pub ++ kcvf, sap := some (a, key) }

/-! ### DUKPT verbs (R228 to R230) -/

def ksnFail (aes : Bool) (ksn : Bytes) (k : KeyRes) (ctrCheck : Bool) : Option Nat :=
  let n := popNat (ksnCounter (if aes then 0x0501 else 0x0511) ksn)
  if ctrCheck ∧ (n = 0 ∨ (if aes then 16 else 10) < n) then some 0x43
  else match k.attr.ksi with
    | some x => if x ≠ ksn.take (if aes then 4 else 5) then some 0x44 else none
    | none => none

def dukptKey (aes : Bool) (k : KeyRes) (ksn : Bytes) (alg purpose : Nat) : Bytes :=
  if aes then mkBytes (algLen alg) (Config.dukptAesByte k.mat ksn alg purpose) else mkBytes 16 (Config.dukptTdesByte k.mat ksn purpose)

def runDukptPin (aes : Bool) (d : Desc) (v : Bytes) (k1 k2 : KeyRes) (rnd : RndOut) : VRes :=
  let ksn := v.take (if aes then 12 else 10)
  let blk := if aes then bsub v 12 16 else bsub v 10 8
  let fi := if aes then 4 else d.p 76
  match ksnFail aes ksn k1 true with
  | some x => inv x
  | none => match panDigits (bsub v (if aes then 28 else 18) 20) with
    | none => inv 0x41
    | some pan =>
      match pinDecode fi (if aes then d.p 76 else 1) (dukptKey aes k1 ksn (d.p 76) 0) blk pan with
      | none => inv 0x40
      | some pin => { out := pinEncode (d.p 77) k2.attr.alg k2.mat pin pan rnd }

def runDukptMac (aes : Bool) (d : Desc) (v : Bytes) (k : KeyRes) : VRes :=
  let kl := if aes then 12 else 10
  let n := if aes then d.p 77 else d.p 76
  match ksnFail aes (v.take kl) k true with
  | some x => inv x
  | none =>
    let wk := dukptKey aes k (v.take kl) (d.p 76) 1
    let msg := v.drop (kl + n)
    let mac := if aes then (cmac (d.p 76) wk msg).take n else (macAlg3 wk (isoPad (d.p 77) msg)).take n
    if cmpUnit mac (bsub v kl n) then {} else vfail 4

def runDukptInitial (d : Desc) (v : Bytes) (k1 k2 : KeyRes) (rnd : RndOut) : VRes :=
  match ksnFail true v k1 false with
  | some x => inv x
  | none =>
    let key := dukptKey true k1 v (d.p 76) 2
    let a : KeyAttr := { alg := d.p 76, usage := 0x4231, mode := 0x58, exp := d.p 77 }
    { out := kbWrite k2.attr.alg k2.mat a key rnd }

/-! ### Streams (R265 to R275; the internal state's layout is log entry 28) -/

/-- Internal state of a stream: total, chaining value, GHASH accumulator, AAD length, starting value, digest state and the
bytes that wait for a whole block, part index and stream ID. -/
structure StreamSt where
  total : Nat := 0
  chain : Bytes := []
  acc   : Nat := 0
  aad   : Nat := 0
  start : Bytes := []
  mid   : Bytes := []
  rest  : Bytes := []
  index : Nat := 0
  sid   : Nat := 0

def StreamSt.plain (s : StreamSt) : Bytes :=
  padTo 432 (toLe 8 s.total ++ padTo 16 s.chain ++ toLe 16 s.acc ++ toLe 4 s.aad ++ padTo 16 s.start ++ padTo 200 s.mid ++ padTo 172 s.rest)
def StreamSt.ofPlain (hdr b : Bytes) : StreamSt :=
  { total := le b 0 8, chain := bsub b 8 16, acc := le b 24 16, aad := le b 40 4, start := bsub b 44 16, mid := bsub b 60 200, rest := bsub b 260 172,
    index := le hdr 28 4, sid := le hdr 8 8 }

/-- The record key of a (unit, sequence) pair (R274; log entry 26 for its label). -/
def recordKey (dmk : Bytes) (dom : Nat) (unitSeq : Bytes) : Bytes := kdf256 (streamKeyOf dmk dom) lblStream unitSeq 32

/-- Stream parameters of a part (R273, R275): PAD is not among them (log entry 26). -/
def streamParams (d : Desc) : Bytes :=
  if d.cls = 6 then [BitVec.ofNat 8 (d.p 77 % 4), BitVec.ofNat 8 (d.p 78)] else [BitVec.ofNat 8 (d.p 77), d.getD 78 0]

/-- Bytes 0 to 63 of a state record (R273). -/
def streamHead (d : Desc) (c : RunCtx) (sid index : Nat) : Bytes :=
  toLe 2 1 ++ d.take 2 ++ bsub d 4 4 ++ toLe 8 sid ++ (if d.op = 0x0701 ∨ d.op = 0x0710 then zeros 8 else bsub d 56 8)
    ++ toLe 2 c.slice ++ streamParams d ++ toLe 4 index ++ toLe 16 c.unit.toNat ++ toLe 8 c.seq ++ zeros 8

/-- A state record as this part writes it. -/
def streamSeal (d : Desc) (c : RunCtx) (s : StreamSt) : Bytes :=
  let h := streamHead d c s.sid s.index
  let e := gcmSeal (recordKey (c.dmks.getD 0 []) c.dom (bsub h 32 24)) (zeros 12) h s.plain
  h ++ e.1 ++ e.2

/-- Step D1 on a state record: authentication, then binding (R275, R276). -/
def streamOpen (d : Desc) (c : RunCtx) (r : Bytes) : Except Nat StreamSt :=
  let h := r.take 64
  let try1 := fun (dmk : Bytes) =>
    let k := recordKey dmk c.dom (bsub h 32 24)
    let tag := gcmTag k (zeros 12) (ghash (gcmH k) (ghash (gcmH k) 0 h) (bsub r 64 432)) 64 432
    if cmpUnit tag (bsub r 496 16) then some (ctrMode k (ctrInc 32 (gcmJ0 (zeros 12)) 1) 32 (bsub r 64 432)) else none
  match c.dmks.findSome? try1 with
  | none => .error 0x48
  | some p =>
    if le h 0 2 = 1 ∧ bsub h 2 2 = d.take 2 ∧ bsub h 4 4 = bsub d 4 4 ∧ (bsub h 24 2 = toLe 2 c.slice ∨ c.origin.any (fun n => bsub h 24 2 == toLe 2 n) = true) ∧ bsub h 26 2 = streamParams d
        ∧ bsub h 16 8 = (if d.op = 0x0701 ∨ d.op = 0x0710 then zeros 8 else bsub d 56 8) then
      .ok (StreamSt.ofPlain h p)
    else .error 0x49

/-- Stream limits (R271): bytes of data, and blocks for a counter of `w` bits. -/
def streamLimit (d : Desc) : Nat :=
  if isGcm d.op then 2 ^ 36 - 32 else if isTdesCbc d.op then 8388608 else 2 ^ 40
def ctrWidth (d : Desc) : Nat := if d.p 77 % 4 = 0 then 32 else if d.p 77 % 4 = 1 then 64 else 128

/-- The state a part starts from, or its D1 failure. -/
def streamStart (d : Desc) (c : RunCtx) (v : Bytes) : Except Nat StreamSt :=
  let part := d.p 76
  let n := d.dataLen
  if hasState part then
    match streamOpen d c (v.take 512) with
    | .error x => .error x
    | .ok s =>
      let t := s.total + n
      if streamLimit d < t ∨ (d.op = 0x0601 ∧ 2 ^ ctrWidth d < ceilDiv t 16) then .error 0x4A
      else .ok { s with index := s.index + 1 }
  else .ok { start := bsub d 88 16, sid := d.rid }

def runBulk (d : Desc) (v : Bytes) (k1 k2 : KeyRes) (c : RunCtx) : VRes :=
  let o := d.op
  let part := d.p 76
  let alg := k1.attr.alg
  let b0 := if hasState part then 512 else 0
  let aad := bsub v b0 d.aad
  let data0 := bsub v (b0 + d.aad) d.dataLen
  match streamStart d c v with
  | .error x => inv x
  | .ok s =>
    if isXts o then
      if k1.mat = k2.mat then inv 0x4B
      else { out := xts (o == 0x0607) k1.mat k2.mat s.start data0 (le d 84 4) }
    else
      let seal2 := fun (t : StreamSt) => if putsState part then streamSeal d c t else []
      let tot := s.total + d.dataLen
      if o = 0x0601 then
        { out := ctrMode k1.mat (ctrInc (ctrWidth d) s.start (s.total / 16)) (ctrWidth d) data0 ++ seal2 { s with total := tot } }
      else if isGcm o then
        let c0 := ctrInc 32 (gcmJ0 s.start) (1 + s.total / 16)
        let x := ctrMode k1.mat c0 32 data0
        let h := gcmH k1.mat
        let acc := ghash h (if b0 = 0 then ghash h 0 aad else s.acc) (if o = 0x0605 then data0 else x)
        let al := if b0 = 0 then d.aad else s.aad
        let s1 := { s with total := tot, acc := acc, aad := al }
        let tag := (gcmTag k1.mat s.start acc al tot).take (d.p 78)
        if o = 0x0605 ∧ isFinal part then
          (if cmpUnit tag (bsub v (b0 + d.aad + d.dataLen) (d.p 78)) then { out := x } else vfail 6)
        else { out := x ++ (if o = 0x0604 ∧ isFinal part then tag else []) ++ seal2 s1 }
      else
        let n := blkSize alg
        let iv := if b0 = 0 then s.start.take n else s.chain.take n
        let data := if d.padOn then pkcs7 n data0 else data0
        let r := if isCbcEnc o then cbcEnc alg k1.mat iv data else cbcDec alg k1.mat iv data
        { out := r.1 ++ seal2 { s with total := tot, chain := r.2 } }

/-! Digests and MACs in parts (R265, R269, R272). -/

/-- The hash function of a code of R269, where the algorithm is built on one. -/
def hashCode (alg : Nat) : Nat := if alg ≤ 8 ∨ alg = 0x15 ∨ alg = 0x16 then alg else alg - 0x10
def isChained (alg : Nat) : Bool := alg == 0x10 || alg == 0x17 || alg == 0x18
/-- Padding method 3 of a stream: the length of the whole is not known before the last part (R272, log entry 28). -/
def isLong (alg pad : Nat) : Bool := (alg == 0x17 || alg == 0x18) && pad == 3

/-- The hash state that a part starts from; that of HMAC has taken its inner key. -/
def hashFrom (first : Bool) (alg : Nat) (key cust : Bytes) (s : StreamSt) : HashSt :=
  let h := hashCode alg
  if !first then { st := s.mid, rest := s.rest.take (s.total % hashRate h) }
  else if 0x11 ≤ alg ∧ alg ≤ 0x14 then (hashStart h [] []).more h (hmacPad h key 0x36)
  else if alg ≤ 8 then hashStart h [] [] else hashStart h key cust
/-- The chaining state that a part starts from. -/
def macFrom (first : Bool) (n : Nat) (s : StreamSt) : MacSt :=
  if first then { chain := zeros n } else { chain := s.chain.take n, rest := s.rest.take (if s.total = 0 then 0 else (s.total - 1) % n + 1) }
/-- One block pass of a chained MAC. -/
def macPass (alg keyAlg : Nat) (key : Bytes) : Bytes → Bytes := if alg = 0x18 then desEnc key else enc keyAlg key

/-- The state after the data of a part. -/
def digestMore (first : Bool) (alg pad keyAlg : Nat) (key cust : Bytes) (s : StreamSt) (data : Bytes) : StreamSt :=
  let tot := s.total + data.length
  if isLong alg pad then { s with total := tot, mid := mkBytes 200 (Config.longStateByte ((if first then [] else Config.longMsg s.mid) ++ data)) }
  else if isChained alg then
    let n := if alg = 0x10 then 16 else 8
    let m := (macFrom first n s).more (macPass alg keyAlg key) n data
    { s with total := tot, chain := m.chain, rest := m.rest }
  else
    let h := (hashFrom first alg key cust s).more (hashCode alg) data
    { s with total := tot, mid := h.st, rest := h.rest }

/-- The digest or MAC of `n` bytes after the data of the last part. -/
def digestEnd (first : Bool) (alg pad keyAlg : Nat) (key cust : Bytes) (s : StreamSt) (data : Bytes) (n : Nat) : Bytes :=
  let tot := s.total + data.length
  if isLong alg pad then
    let p := isoPad 3 ((if first then [] else Config.longMsg s.mid) ++ data)
    (if alg = 0x18 then macAlg3 key p else macAlg1 keyAlg key p).take n
  else if isChained alg then
    let b := if alg = 0x10 then 16 else 8
    let m := (macFrom first b s).more (macPass alg keyAlg key) b data
    (if alg = 0x10 then cmacEnd keyAlg key m
     else if alg = 0x18 then macAlg3From key m.chain (isoPad pad m.rest)
     else macAlg1From keyAlg key m.chain (isoPad pad m.rest)).take n
  else
    let h := hashCode alg
    let x := (hashFrom first alg key cust s).more h data
    if 0x11 ≤ alg ∧ alg ≤ 0x14 then hmacOuter h key (x.fin h (tot + hashRate h) (hashLen h)) n else x.fin h tot n

def runDigest (d : Desc) (v : Bytes) (k : KeyRes) (c : RunCtx) : VRes :=
  let part := d.p 76
  let alg := d.p 77
  let n := le d 78 2
  let cust := bsub d 96 (d.p 81)
  let first := !hasState part
  let b0 := if hasState part then 512 else 0
  let data := bsub v b0 d.dataLen
  match streamStart d c v with
  | .error x => inv x
  | .ok s =>
    if putsState part then { out := streamSeal d c (digestMore first alg (d.p 80) k.attr.alg k.mat cust s data) }
    else
      let val := digestEnd first alg (d.p 80) k.attr.alg k.mat cust s data n
      let same := cmpUnit val (bsub v (b0 + d.dataLen) n)
      if d.op = 0x0703 then (if same then {} else vfail 4)
      else if d.op = 0x0710 then (if same then {} else vfail 7)
      else { out := val }

/-! ### Public-key verbs: validation (R303 to R305) -/

/-- Rows 5, 6, 8 and 9 of R303 on a point. -/
def pointRows (c : Curve) (l : Nat) (pt : Bytes) : List (Bool × Nat) :=
  let t := byteAt pt 0
  let inf := t == 0
  let x := beNat (bsub pt 1 l)
  let y := beNat (bsub pt (1 + l) l)
  let q := c.decode l pt
  [(!inf, 5), (inf || (decide (x < c.p) && (t != 4 || decide (y < c.p))), 2), (inf || q.isSome, 3),
   (inf || q.elim true (fun u => !c.smallOrder u), 4)]
/-- Rows 6, 7 and 9 on an X25519 u-coordinate. -/
def xRows (u : Bytes) : List (Bool × Nat) :=
  let x := leNat (u.take 32) % 2 ^ 255
  [(decide (x < p25519), 2), (x != 0, 1), (!xSmallOrder x, 4)]
/-- Rows 6, 8 and 9 on an Ed25519 value. -/
def edRows (a : Bytes) : List (Bool × Nat) :=
  [(decide (leNat (a.take 32) % 2 ^ 255 < p25519), 2), ((edDecode a).isSome, 3), ((edDecode a).elim true (fun q => !edSmallOrder q), 4)]
/-- The same rows on two operands, in table order. -/
def twoRows (a b : List (Bool × Nat)) : List (Bool × Nat) := (a.zip b).flatMap (fun x => [x.1, x.2])

/-- Coefficients of an encapsulation key are below 3,329: 12-bit fields (R303, row 12). -/
def kemEkOk (a : Nat) (ek : Bytes) : Bool :=
  let body := ek.take (kemEk a - 32)
  (List.range (body.length / 3)).all (fun i =>
    let w := le body (3 * i) 3
    decide (w % 4096 < 3329 ∧ w / 4096 < 3329))

/-- Modulus, exponent and bits of an RSA verification: of key 1, or host-supplied (R296, R297). -/
def verifyKey (d : Desc) (v : Bytes) (k : KeyRes) : Nat × Nat × Nat :=
  if d.key1 = 0 then (beNat (v.take (ceilDiv (le d 80 2) 8)), le d 92 8, le d 80 2) else (rsaN k.mat, rsaE k.mat, keyBits k.mat)

/-- Verb data without the curve block, and the public key before a signature: of key 1, or at its head. -/
def afterCurve (d : Desc) (v : Bytes) : Bytes := v.drop (curveBlk d)
def ecQ (d : Desc) (v : Bytes) (k : KeyRes) : Bytes :=
  let rest := afterCurve d v
  if d.key1 ≠ 0 then matPub k.mat else rest.take ((ptLen (curveL d) (byteAt rest 0)).getD 0)
def ecSig (d : Desc) (v : Bytes) : Bytes :=
  let rest := afterCurve d v
  if d.key1 ≠ 0 then rest else rest.drop ((ptLen (curveL d) (byteAt rest 0)).getD 0)

/-- Step E1: the checks of R303 that apply to the public operands, those of key 1 and key 2 among them (R288), first in table
order (R300). -/
def pkeValidate (d : Desc) (v : Bytes) (keys : List KeyRes) : Option Nat :=
  let o := d.op
  let a := d.p 76
  let k := keyAt keys 0
  let l := curveL d
  let c := curveOf d v
  let curve := if a = 6 ∧ curveBlk d ≠ 0 ∧ o ≠ 0x0821 then [(c.blockOk l (le d 80 2), 7)] else []
  if o = 0x0410 ∨ o = 0x0411 then
    let q := hybEcPub a (keyAt keys 1).mat
    let one := fun (u : Bytes) => if a = 3 then xRows u else pointRows (Curve.named a) (hybL a) u
    let own := one q
    if o = 0x0411 then firstBad (twoRows (one (v.take (suiteEi a))) own)
    else firstBad (own ++ [(kemEkOk (hybKem a) (hybEk a (keyAt keys 1).mat), 2)])
  else if o = 0x0802 then
    let key := verifyKey d v k
    let s := beNat (bsub v (if d.key1 = 0 then ceilDiv key.2.2 8 else 0) (ceilDiv key.2.2 8))
    firstBad [(d.key1 != 0 || key.1 % 2 == 1, 6), (s != 0, 1), (decide (s < key.1), 2)]
  else if o = 0x0803 then
    let x := beNat (v.take (ceilDiv (keyBits k.mat) 8))
    firstBad [(x != 0, 1), (decide (x < rsaN k.mat), 2)]
  else if o = 0x0811 then
    let nl := nLenOf d v
    let r := beNat ((ecSig d v).take nl)
    let s := beNat (bsub (ecSig d v) nl nl)
    firstBad (curve ++ pointRows c l (ecQ d v k) ++ [(r != 0 && s != 0, 1), (decide (r < c.n ∧ s < c.n), 2)])
  else if o = 0x0813 then
    let pk := if d.key1 = 0 then v.take 32 else matPub k.mat
    let sv := leNat (bsub v (if d.key1 = 0 then 64 else 32) 32)
    firstBad (edRows pk ++ [(decide (sv < l25519), 2)])
  else if o = 0x0814 then
    if a = 0x11 then firstBad (xRows v) else firstBad (curve ++ pointRows c l (afterCurve d v))
  else if o = 0x0902 then firstBad [(kemEkOk a (if d.key1 = 0 then v else matPub k.mat), 2)]
  else firstBad curve

/-! ### Public-key verbs: the engine phase (R284, R297, R298) -/

/-- The digest that a signing or verifying verb takes: supplied, or of the message. -/
def digestOf (d : Desc) (m : Bytes) : Bytes := if d.p 79 = 1 then m else hashOf (d.p 78) m (hashLen (d.p 78))

/-- A new RSA key: its private and its public part (R289, R294). -/
def rsaGenerate (bits e : Nat) (rnd : Bytes) : Bytes × Bytes :=
  let k := ceilDiv bits 8
  let h := ceilDiv k 2
  let p := Config.rsaPrime bits e rnd 0
  let q := Config.rsaPrime bits e rnd 1
  (toBe 8 e ++ toBe h p ++ toBe h q ++ toBe h (modInv e (p - 1)) ++ toBe h (modInv e (q - 1)) ++ toBe h (modInv q p), toBe k (p * q) ++ toBe 8 e)
/-- The private operation of RSA material on a representative. -/
def rsaPrivate (mat : Bytes) (x : Nat) : Nat := rsaCrt (rsaPriv mat 0) (rsaPriv mat 1) (rsaPriv mat 2) (rsaPriv mat 3) (rsaPriv mat 4) x

/-- The public key that key generation and PK_PUBLIC_KEY write (R297). -/
def pubOut (mat : Bytes) : Bytes := if matAlg mat = 0xA0 then (matPub mat).take (ceilDiv (keyBits mat) 8) else matPub mat

/-- Material of a key pair that the engine generates. -/
def genMat (d : Desc) (v rnd : Bytes) : Bytes :=
  let a := d.p 76
  let bits := if a = 0x20 ∨ a = 6 then le d 80 2 else if isCurve a ∨ a = 0x10 ∨ a = 0x11 then 8 * fieldLen (0x80 + a) 256 else 0
  let cd := if a = 6 then sha256 (v.take (curveBlk d)) else []
  let pr := if a = 0x20 then rsaGenerate bits (if le d 92 8 = 0 then 65537 else le d 92 8) rnd
    else if isKem a then (rnd.take 64, mkBytes (kemEk a) (Config.kemEkByte a (rnd.take 64)))
    else if isDsa a then (rnd.take 32, mkBytes (dsaPk a) (Config.dsaPkByte a (rnd.take 32)))
    else ecPair a (curveL d) (curveOf d v) rnd
  asymMat a 1 bits cd pr.1 pr.2

/-- The engine phase of the verbs of classes 0x08 and 0x09. No draw enters a result but where R298 says so. -/
def engPke (d : Desc) (v : Bytes) (keys : List KeyRes) (rnd : Bytes) : EngOut :=
  let o := d.op
  let a := d.p 76
  let k := keyAt keys 0
  let h := d.p 78
  let c := curveOf d v
  let l := curveL d
  let bits := keyBits k.mat
  if o = 0x0801 then
    let g := digestOf d v
    let em := if d.p 77 = 1 then emsaPkcs h (ceilDiv bits 8) g else emsaPss h (bits - 1) g (rnd.take (d.p 82))
    { pub := toBe (ceilDiv bits 8) (rsaPrivate k.mat (beNat em)) }
  else if o = 0x0802 then
    let key := verifyKey d v k
    let kl := ceilDiv key.2.2 8
    { pub := toBe kl (powMod key.1 (beNat (bsub v (if d.key1 = 0 then kl else 0) kl)) key.2.1) }
  else if o = 0x0803 then { sec := toBe (ceilDiv bits 8) (rsaPrivate k.mat (beNat v)) }
  else if o = 0x0804 then
    let m := (keyAt keys 1).mat
    let kl := ceilDiv (keyBits m) 8
    { pub := toBe kl (powMod (rsaN m) (beNat (oaepEncode h kl k.mat (rnd.take (hashLen h)))) (rsaE m)) }
  else if o = 0x0810 then { pub := c.sign (nLenOf d v) h (beNat (matPriv k.mat)) (digestOf d (afterCurve d v)) rnd }
  else if o = 0x0811 then
    let nl := nLenOf d v
    let sig := ecSig d v
    match c.recover (((c.decode l (ecQ d v k))).getD none) (digestOf d (sig.drop (2 * nl))) (beNat (sig.take nl)) (beNat (bsub sig nl nl)) with
    | none => {}
    | some x => { pub := toBe nl x }
  else if o = 0x0812 then { pub := edSign (matPriv k.mat) v }
  else if o = 0x0813 then
    let pk := if d.key1 = 0 then v.take 32 else matPub k.mat
    let sm := if d.key1 = 0 then v.drop 32 else v
    match edSides pk (sm.take 64) (sm.drop 64) with
    | none => {}
    | some (x, y) => { pub := x ++ y }
  else if o = 0x0814 then { sec := ecdh a l c (matPriv k.mat) (if a = 0x11 then v else afterCurve d v) }
  else if o = 0x0902 then
    let ek := if d.key1 = 0 then v else matPub k.mat
    { pub := mkBytes (kemCt a) (Config.kemCtByte a ek (rnd.take 32)), sec := mkBytes 32 (Config.kemSecByte a ek (rnd.take 32)) }
  else if o = 0x0903 then { pub := v, sec := mkBytes 32 (Config.kemDecByte a (matPriv k.mat) v) }
  else if o = 0x0820 ∨ o = 0x0901 ∨ o = 0x0910 then let m := genMat d v rnd; { pub := pubOut m, sec := m }
  else if o = 0x0821 then { pub := pubOut k.mat }
  else if o = 0x0911 then
    { pub := mkBytes (dsaSig a) (Config.dsaSigByte a (matPriv k.mat) (v.take (d.p 100)) (v.drop (d.p 100)) (if d.p 77 = 1 then zeros 32 else rnd.take 32)) }
  else if o = 0x0912 then
    let pk := if d.key1 = 0 then v.take (dsaPk a) else matPub k.mat
    let r := if d.key1 = 0 then v.drop (dsaPk a) else v
    let cm := r.drop (dsaSig a)
    { pub := [if Config.dsaVerify a pk (r.take (dsaSig a)) (cm.take (d.p 100)) (cm.drop (d.p 100)) then 1 else 0] }
  else {}

/-- The engine phase of an item: hybrid verbs and classes 0x08 and 0x09 (R285). -/
def engineRun (d : Desc) (input : Bytes) (keys : List KeyRes) (rnd : RndOut) : EngOut :=
  let v := verbData d input
  let r := rnd.bytes 96
  if d.op = 0x0410 ∨ d.op = 0x0411 then engHybrid (d.op == 0x0411) (d.p 76) v (keyAt keys 0) (keyAt keys 1) r else engPke d v keys r

/-! ### Public-key verbs: the release phase (R286, R297 to R300) -/

def runPke (d : Desc) (v : Bytes) (keys : List KeyRes) (e : EngOut) : VRes :=
  let o := d.op
  let a := d.p 76
  let h := d.p 78
  let attr : KeyAttr := { alg := d.p 84, usage := d.chars 85, mode := d.p 87, exp := d.p 88 }
  let derived := fun (pre key : Bytes) =>
    ({ out := pre ++ kcvField 0 (d.p 89) (d.p 84) key, sap := some (attr, key) } : VRes)
  let est := fun (ct : Bytes) =>
    let ctx := [BitVec.ofNat 8 a, BitVec.ofNat 8 (d.p 84)] ++ bsub d 104 24 ++ (if o = 0x0814 then [] else sha384 ct)
    twoStep e.sec lblKeyest ctx (algLen (d.p 84))
  let sure := fun (b : Bool) => if b then ({} : VRes) else vfail 8
  if o = 0x0802 then
    let key := verifyKey d v (keyAt keys 0)
    let kl := ceilDiv key.2.2 8
    let g := digestOf d (v.drop (if d.key1 = 0 then 2 * kl else kl))
    sure (if d.p 77 = 1 then decide (e.pub = emsaPkcs h kl g) else pssOk h (key.2.2 - 1) (d.p 82) g e.pub)
  else if o = 0x0803 then
    let n := algLen (d.p 84)
    match oaepDecode h e.sec.length e.sec with
    | some m => if m.length = n then derived [] m else vfail 9
    | none => vfail 9
  else if o = 0x0811 then
    let nl := nLenOf d v
    sure (decide (e.pub = (ecSig d v).take nl) && !e.pub.isEmpty)
  else if o = 0x0813 then sure (decide (e.pub.take 32 = e.pub.drop 32) && !e.pub.isEmpty)
  else if o = 0x0814 then derived [] (est [])
  else if o = 0x0902 then derived e.pub (est e.pub)
  else if o = 0x0903 then derived [] (est e.pub)
  else if o = 0x0820 ∨ o = 0x0901 ∨ o = 0x0910 then
    let at2 : KeyAttr := { alg := 0x80 + a, part := 1, usage := d.chars 85, mode := d.p 87, exp := d.p 88,
                           curve := if a = 6 then some (bsub e.sec 4 32) else none }
    { out := e.pub, sap := some (at2, e.sec) }
  else if o = 0x0912 then sure (e.pub == [1])
  else if o = 0x0920 then
    let sig := slhPk a + slhSig a
    let cm := v.drop sig
    sure (Config.slhVerify a (v.take (slhPk a)) (bsub v (slhPk a) (slhSig a)) (cm.take (d.p 100)) (cm.drop (d.p 100)))
  else { out := e.pub }

/-- Steps D1 to D3 and F2 of any verb; `e` is what its engine phase gave. -/
def runVerb (d : Desc) (input : Bytes) (keys : List KeyRes) (c : RunCtx) (e : EngOut := {}) : VRes :=
  let o := d.op
  let v := verbData d input
  let k1 := keyAt keys 0
  let k2 := keyAt keys 1
  if o = 0x0A01 then { out := c.rnd.bytes (le d 76 4) }
  else if o = 0x0101 then runPinTranslate d v k1 k2 c.rnd
  else if o = 0x0102 then runPinVerifyOffset d v k1 k2
  else if o = 0x0103 then runPinCompare d v k1 k2
  else if o = 0x0104 then runPinGenerate d v k1 k2 c.rnd
  else if o = 0x0201 then runArqc d v k1
  else if o = 0x0202 then runCvv false d v k1
  else if o = 0x0203 then runCvv true d v k1
  else if o = 0x0204 then runDcvv d v k1
  else if o = 0x0301 then runMac false d v k1
  else if o = 0x0302 then runMac true d v k1
  else if o = 0x0401 then runImport d v k1 c
  else if o = 0x0402 then runExport k1 k2 c.rnd
  else if o = 0x0403 then runKbTranslate v k1 k2 c.rnd
  else if o = 0x0404 then runKeyGenerate d keys c.rnd
  else if o = 0x0405 then { out := kcvField (d.p 76) (d.p 77) k1.attr.alg k1.mat }
  else if o = 0x0410 then runHybrid false d e
  else if o = 0x0411 then runHybrid true d e
  else if o = 0x0501 then runDukptPin true d v k1 k2 c.rnd
  else if o = 0x0502 then runDukptMac true d v k1
  else if o = 0x0503 then runDukptInitial d v k1 k2 c.rnd
  else if o = 0x0511 then runDukptPin false d v k1 k2 c.rnd
  else if o = 0x0512 then runDukptMac false d v k1
  else if bulkOps.contains o then runBulk d v k1 k2 c
  else if digestOps.contains o then runDigest d v k1 c
  else runPke d v keys e

end Sys2Proof.Machine
end

