-- ==== Sys2Proof/Machine/Lanes.lean ====
section
/-! DEFINITION. Twins and the release comparator (R157, R161, R232 to R251), mask generators (R237 to R241), long inputs
(R52, R267), the clearing and its commands (R252 to R258), and the registers of the block. -/

namespace Sys2Proof.Machine

/-! ### Mask generators (R237 to R241) -/

/-- The next seed becomes current when the current one is used up; a request is pending while 2^18 blocks or fewer remain
and no next seed is held. -/
def Grove.settle (g : Grove) : Grove :=
  let h := if g.remain = 0 then { g with cur := g.nxt, nxt := {} } else g
  match h.mgen with
  | .running | .reseedPending => { h with mgen := if h.next = 0 ∧ h.remain ≤ 2 ^ 18 then MgenState.reseedPending else .running }
  | _ => h

/-- The next `n` mask blocks of the seeds, and the generator without them. -/
def Grove.masksFor (n : Nat) (g : Grove) : List MaskRun := runsUpto n [g.cur, g.nxt]
def Grove.takeMasks (n : Nat) (g : Grove) : Grove := ({ g with cur := g.cur.past n, nxt := g.nxt.past (n - g.remain) } : Grove).settle

/-- The next `n` mask blocks for a context save or restore, from the reserve first (R240), and the generator without them. -/
def Grove.reserveFor (n : Nat) (g : Grove) : List MaskRun := runsUpto n (g.hold ++ [g.cur, g.nxt])
def Grove.takeReserve (n : Nat) (g : Grove) : Grove :=
  if n ≤ g.reserve then { g with hold := runsPast n g.hold } else Grove.takeMasks (n - g.reserve) { g with hold := [] }

/-- A seed arrives, 2^20 blocks: the reserve is topped up, and the rest is the current or the next seed. -/
def Grove.seed (s : Bytes) (g : Grove) : Grove :=
  let top := 4096 - g.reserve
  let run : MaskRun := { seed := s, left := 2 ^ 20 }
  let g1 : Grove := { g with
    hold := if top = 0 then g.hold else g.hold ++ [run.upto top], reseeds := g.reseeds + 1
    mgen := if g.mgen == .exhausted then MgenState.running else g.mgen }
  (if g1.remain = 0 then { g1 with cur := run.past top } else { g1 with nxt := run.past top }).settle

/-- MASK_SEED_ARRIVAL: the grove's DRBG serves the request with 384 bits (R237, R370). -/
def maskSeedOp (g : Nat) (c : Ctx) (d : Dev) : Dev :=
  let x := d.grove g
  if g < 12 && x.state != .gated && x.mgen != .failed && x.next == 0 && decide (x.remain ≤ 2 ^ 18) && (d.drbg g).serves then
    let (o, d1) := d.request c g 48 []
    (d1.updGrove g (Grove.seed (o.bytes 48))).tryPreempt c g
  else d

def execMaskSeedArrival (grove : Nat) (s : State) : Host.Outcome State Fault Refusal := s.onDev (maskSeedOp grove)

/-- The current seed is used up, and no next seed is held. -/
def Dev.seedUsedUp (d : Dev) (g : Nat) : Bool := (d.grove g).remain == 0 && (d.grove g).next == 0

/-- MASK_GEN_EXHAUSTED (R241). -/
def maskExhaustedOp (g : Nat) (c : Ctx) (d : Dev) : Dev :=
  let x := d.grove g
  if g < 12 && x.state != .gated && (x.mgen == .running || x.mgen == .reseedPending) && d.seedUsedUp g then
    ((d.updGrove g (fun y => { y with mgen := .exhausted, mgenIn := false })).evtBit Off.lanEvt 5).unplace c g (fun i => !Desc.usesEngine i.desc)
  else d

def execMaskGenExhausted (grove : Nat) (s : State) : Host.Outcome State Fault Refusal := s.onDev (maskExhaustedOp grove)

/-! ### TWIN_DISPATCH (R157, R195, R239, R285) -/

/-- The device starts items: start-up done, no warning, no response in force, a role that acts. -/
def Dev.dispatchOn (d : Dev) : Bool := d.hostSide && !d.locked

/-- Bytes that an item asks its grove's DRBG for (R382; for the other verbs log entry 86). -/
def Desc.drawLen (d : Desc) : Nat := if d.op = 0x0A01 then le d 76 4 else 128
/-- Step C of an item: its randomness is drawn once (R195); verb data of RANDOM_BYTES is additional input (R382). -/
def Dev.drawFor (c : Ctx) (i : Item) (d : Dev) : Dev :=
  if Desc.drawsRandom i.desc && i.rnd.isNone then
    let (o, d1) := d.request c i.grove (Desc.drawLen i.desc) (if Desc.op i.desc = 0x0A01 then verbData i.desc i.input else [])
    d1.updItem i.slot (fun x => { x with rnd := some o })
  else d

/-- The record of an item that starts (R98). -/
def Dev.recStart (slot : Nat) (d : Dev) : Dev := (d.updRec slot (fun r => if r.st == .accepted then { r with st := .inService } else r)).mirrorRec slot

/-- The lanes of a twin bind an item's keys in fresh shares, each lane from mask blocks of its own (R234); a release phase
binds the shares of what its engine handed over, for its keys stay in the engine (R286, R288). -/
def bindLane (masks : List MaskRun) (i : Item) (check : Bool) (l : Lane) : Lane :=
  { l with
    keys := if Desc.usesEngine i.desc then [] else bindKeys (maskByte masks check) check i.keys
    work := (i.engSec.getD (b2n check) []).map (deliver check) }

/-- A twin takes a PLACED item, or the release phase of a public-key item; the item's whole mask demand is reserved. -/
def Dev.startOn (c : Ctx) (t : Nat) (i : Item) (d : Dev) : Dev :=
  let n := maskDemand i.desc i.keys
  let masks := (d.grove i.grove).masksFor n
  let rel := i.pke == .between
  let d1 := if rel then d else (d.drawFor c i).countStart c i
  let d2 := (d1.updGrove i.grove (Grove.takeMasks n)).updTwin t (fun x => { (x.lanes (bindLane masks i)) with running := some i.slot })
  (d2.updItem i.slot (fun x => { x with
    ds := .running, twin := some t, started := true, startSt := if x.started then x.startSt else c.now, runSt := c.now, masks := masks,
    engSec := [], pke := if rel then .release else x.pke })).recStart i.slot

/-- A lane restores a context: its keys from the cache entries that it names, in fresh shares, and its state refreshed
(R162, R259). -/
def restoreLane (fresh : List MaskRun) (i : Item) (check : Bool) (l : Lane) : Lane :=
  match l.ctx.find? (fun x => x.item == i.slot) with
  | none => l
  | some x => { l with
      keys := bindKeys (maskByte fresh check) check i.keys, work := refresh (fun k => maskByte fresh check (k + 32)) x.state
      ctx := l.ctx.filter (fun y => y.item != i.slot) }

/-- A twin resumes its own SUSPENDED item, and its lanes restore the context (R162, R238). -/
def Dev.resumeOn (c : Ctx) (t : Nat) (i : Item) (d : Dev) : Dev :=
  let fresh := (d.grove i.grove).reserveFor 8
  ((d.updGrove i.grove (Grove.takeReserve 8)).updTwin t (fun x => { (x.lanes (restoreLane fresh i)) with running := some i.slot })).updItem i.slot
    (fun x => { x with ds := .running, ctxSlot := none, runSt := c.now })

/-- The release phase that takes the next free twin of a grove (R285). -/
def Dev.waitingRelease (d : Dev) (t : Nat) : Option Item :=
  d.firstByKey (d.dsp.items.filter (fun i =>
    i.grove == t / 8 && i.ds == .running && i.pke == .between && !i.mmTwins.contains t && i.mayJoin (d.twin t).joinSt && (d.grove i.grove).canMask (maskDemand i.desc i.keys)))

/-- The earliest item for a twin: a PLACED item that is ready, which a draining unit does not take, or its own SUSPENDED one. -/
def Dev.nextFor (d : Dev) (t : Nat) : Option Item :=
  let drains := (d.twin t).draining || (d.grove (t / 8)).draining
  d.firstByKey (d.dsp.items.filter (fun i =>
    (i.ds == .suspended && i.twin == some t)
      || (!drains && i.grove == t / 8 && d.ready i && !i.mmTwins.contains t && i.mayJoin (d.twin t).joinSt)))

/-- Entries of the grove's cache that turn out uncorrectable as they are issued, by the key's position (R565): each is dropped
and reported, and the item, still PLACED, loads its keys again. -/
def Dev.dropKeys (c : Ctx) (bad : List Nat) (i : Item) (d : Dev) : Dev :=
  let lost := bad.filterMap (fun k => i.keys[k]?)
  let hit := fun (e : CacheEnt) => lost.any (fun r => e.grove == i.grove && e.dom == r.dom && e.slot == r.slot && e.gen == r.gen && e.kb == r.kb)
  let d1 : Dev := { d with key := { d.key with cache := d.key.cache.filter (fun e => !hit e) } }
  let d2 := lost.foldl (fun (a : Dev) _ => a.memError Arr.cache 1 0 0) d1
  (({ d2 with key := d2.key.unpin i.slot }).updItem i.slot (fun x => { x with keys := [], keysOk := false, missed := 0 })).runStepB c i.slot

/-- TWIN_DISPATCH. An item that would start after its deadline under EXPIRE finishes instead (R170). -/
def twinDispatchOp (t : Nat) (bad : List Nat) (c : Ctx) (d : Dev) : Dev :=
  if t < 96 && (d.twin t).free && d.dispatchOn then
    match (if (d.twin t).draining then none else d.waitingRelease t) with
    | some i => d.startOn c t i
    | none => match d.nextFor t with
      | none => d
      | some i =>
        if i.ds = .suspended then (d.resumeOn c t i).tryPreempt c (t / 8)
        else if !i.started && d.expires i && decide (i.deadline < c.now) then d.finishNow c i.slot 1 i.expirySub
        else if bad.any (fun k => decide (k < i.keys.length)) then d.dropKeys c bad i
        else d.readInput c Mst.lane i (fun e => (e.startOn c t i).tryPreempt c (t / 8))
  else d

def execTwinDispatch (twin : Nat) (s : State) (badKeys : List Nat := []) : Host.Outcome State Fault Refusal := s.onDev (twinDispatchOp twin badKeys)

/-- How a lane holds the state of a part: in three shares, in two, or unmasked (R232). -/
def stateShares (d : Desc) (v : Bytes) (m : Nat → Byte) : List Bytes :=
  if isTdesCbc d.op then shareOf false v m
  else if bulkOps.contains d.op || ((d.op == 0x0702 || d.op == 0x0703) && d.p 77 == 0x10) then shareOf true v m
  else if d.op = 0x0702 ∨ d.op = 0x0703 then shareOf false v m else [v]

/-- A lane saves its item's context, refreshed, and overwrites what the item used (R235, R259). -/
def saveLane (k ns : Nat) (fresh : List MaskRun) (i : Item) (check : Bool) (l : Lane) : Lane :=
  let v := mkBytes 64 (Config.laneStateByte i.desc i.input (i.keys.map (fun k => k.mat)) ns)
  let x : LaneCtx := {
    slot := k, item := i.slot
    state := refresh (maskByte fresh check) ((stateShares i.desc v (maskByte i.masks check)).map (deliver check))
    seqPos := Config.lanePos i.desc ns 0, inPos := Config.lanePos i.desc ns 1, outPos := Config.lanePos i.desc ns 2
    masks := i.masks, keys := i.keys.map (fun k => (k.dom, k.slot, k.gen)) }
  { (l.wipe (fun j => maskByte i.masks check (j + 16))) with ctx := l.ctx ++ [x] }

/-- CONTEXT_SAVE_DONE (R161, R259): the lowest context slot that is free in both lanes. -/
def contextSaveOp (t : Nat) (c : Ctx) (d : Dev) : Dev :=
  match (d.twin t).running.bind d.item? with
  | none => d
  | some i =>
    match (List.range 8).find? (fun k => !(d.ctxOn t).contains k) with
    | none => d
    | some k =>
      if i.preempt && !d.warning then
        let save := saveLane k (i.doneNs + (c.now - i.runSt)) ((d.grove i.grove).reserveFor 8) i
        (((d.addBusy t (c.now - i.runSt)).updTwin t (fun x => { (x.lanes save) with running := none })).updGrove i.grove (Grove.takeReserve 8)).updItem i.slot
          (fun x => { x with ds := .suspended, ctxSlot := some k, preempt := false, doneNs := x.doneNs + (c.now - x.runSt) })
      else d

def execContextSaveDone (twin : Nat) (s : State) : Host.Outcome State Fault Refusal := s.onDev (contextSaveOp twin)

/-! ### Mismatches (R243 to R250, R310) -/

/-- Code of a mismatch kind (R282). -/
def mmCode : MmKind → Nat
  | .data => 0 | .status => 1 | .signature => 2 | .skew => 3

/-- Algorithm ID of a public-key item (R292). -/
def Item.algId (i : Item) : Nat := Desc.p i.desc 76

/-- A failed fault check is recorded: 0 at E3, 1 at F1, 2 an excluded result (R310, R317). -/
def Dev.pkeFaultNote (c : Ctx) (g kind alg : Nat) (d : Dev) : Dev :=
  let d1 := { d with pke := { d.pke with lastFault := packW [(0, g % 16), (8, kind), (16, alg), (24, 1)] } }
  ((d1.bump Off.pkeFaults).evtBit Off.pkeEvt 0).record c Trig.pkeFault (toLe 1 g ++ toLe 1 kind ++ toLe 1 alg)

/-- The eighth mismatch device-wide within 1 s of ST raises FAULT_INJECTION (R248). -/
def Dev.deviceThreshold (c : Ctx) (d : Dev) : Dev := if (within c.now nsS d.lan.devMm).length = 8 then d.alarm c 0x0B else d

/-- A mismatch on a twin: it is recorded, the twin enters the clearing and its items restart; then the windows. An item
whose mismatch raises FAULT_INJECTION is decided by the response (R248), so its restart, which counts, completes nothing.
`f1` is a failed check of an engine's result, which sends the engine into the clearing too (R310). -/
def Dev.mismatch (c : Ctx) (t : Nat) (k : MmKind) (f1 : Bool) (i : Item) (d : Dev) : Dev :=
  let g := t / 8
  let eighth := (within c.now nsS d.lan.devMm).length == 7
  let d1 := { d with lan := { d.lan with lastMm := packW [(0, t), (8, mmCode k), (16, i.cls % 256), (24, 1)], lastMmSt := d.stamp c } }
  let d2 := ((d1.bump Off.lanMmTotal).updTwin t (fun x => { x with mm := x.mm + 1 })).evtBit Off.lanEvt 0
  let d3 := d2.record c Trig.twinMismatch (toLe 1 t ++ toLe 1 (mmCode k) ++ toLe 1 i.cls ++ toLe 2 i.slice ++ toLe 1 i.restarts)
  let d4 := if f1 then d3.pkeFaultNote c g 1 i.algId else d3
  let d5 := if eighth then d4.updItem i.slot (fun x => { x with restarts := 0 }) else d4
  let d6a := d5.twinLeaves c t .clearing false
  let d6 := if eighth then d6a.updItem i.slot (fun x => { x with restarts := i.restarts + 1 }) else d6a
  let d7 := if f1 then d6.engineLeaves c g .clearing else d6
  ((d7.countMm c g).groveThreshold c g).deviceThreshold c

/-! ### RELEASE_COMPARE (R13, R191, R223, R243) -/

/-- The comparator may still release: no warning, or within 20 µs of ST of it (R114). -/
def Dev.mayRelease (c : Ctx) (d : Dev) : Bool := !d.warning || decide (c.now ≤ d.pwr.warnSt + 20 * nsUs)

/-- Generation of a new sapling (R339). -/
def saplingGen (s : Option Slot) : Nat :=
  match s.bind (fun x => x.act) with
  | none => 1
  | some h => if 0xFFFFFFFF ≤ h.attr.gen then 1 else h.attr.gen + 1

/-- A released result writes the sapling of its target slot, in the blocks that were reserved (R223, R339, R341). A copy of
the replaced sapling leaves the caches, once no item has it pinned (R260). -/
def Dev.writeSapling (slot : Nat) (t : Nat × Nat) (a : KeyAttr) (mat : Bytes) (d : Dev) : Dev :=
  let k := d.key
  let gen := saplingGen (k.slot? t.1 t.2)
  let ext := ((k.resvs.find? (fun r => r.item == slot)).map (fun r => r.ext)).getD (extBlocks a.alg a.part (keyBits mat))
  let h : Half := { attr := { a with gen := gen }, mat := mat, ext := ext }
  let here := fun (s : Slot) => s.dom == t.1 && s.num == t.2
  { d with key := { k with
      slots := upsert here { dom := t.1, num := t.2 } (fun (s : Slot) => { s with sap := some h }) k.slots
      cache := (k.cache.filter (fun (e : CacheEnt) => !(e.dom == t.1 && e.slot == t.2 && e.gen == gen && e.pins.isEmpty))).map
        (fun (e : CacheEnt) => if e.dom == t.1 && e.slot == t.2 && e.gen == gen then { e with stale := true } else e) } }

/-- A PROMOTE on the target slot is in progress: the write waits (R345). -/
def Dev.saplingWaits (d : Dev) (i : Item) : Bool :=
  match d.key.promote, Desc.target? i.desc with
  | some p, some t => p.1 == t.1 && p.2.1 == t.2
  | _, _ => false

/-- What an execution uses beside the descriptor and the input: for a spilled item, its origin's unit (R274, R425). -/
def Dev.runCtx (d : Dev) (i : Item) : RunCtx :=
  { slice := i.slice, seq := i.seq, dmks := (d.key.domain i.dom).streamDmks, dom := i.dom, rnd := i.rnd.getD {}, key := d.key
    origin := if i.spillFrom.isSome then none else (d.slice i.slice).origin
    unit := match i.spillFrom with
      | some p => ((d.fab.nodes.find? (fun n => n.num == p.1)).map (fun n => (BitVec.ofNat 128 n.unit : BitVec 128))).getD Config.unitId
      | none => Config.unitId }

/-- The item's keys as a lane has them: recombined from its shares, which stand for every computation in shares. -/
def laneKeys (i : Item) (check : Bool) (l : Lane) : List KeyRes :=
  if Desc.usesEngine i.desc then i.keys else List.zipWith (fun (k : KeyRes) s => { k with mat := unshare (s.map (deliver check)) }) i.keys l.keys
/-- What the engine handed over, as a lane has it. -/
def laneEng (i : Item) (check : Bool) (l : Lane) : EngOut := { pub := i.engPub, sec := unshare (l.work.map (deliver check)) }
/-- The result of an item as a lane computes it. -/
def Dev.laneRes (d : Dev) (i : Item) (check : Bool) (l : Lane) : VRes := runVerb i.desc i.input (laneKeys i check l) (d.runCtx i) (laneEng i check l)

/-- Step F1: a lane's own computation disagrees with the engine's result (R286, R309; log entry 82). -/
def f1Fails (i : Item) (check : Bool) (l : Lane) : Bool :=
  let w := engineRun i.desc i.input i.keys (i.rnd.getD {})
  i.pke == .release && ((laneEng i check l).pub != w.pub || (laneEng i check l).sec != w.sec)

/-- What a lane presents to the comparator: output, sapling write data, result length with status and sub-status, sequence
signature, and its clock (R243). -/
structure Presented where
  out  : Bytes
  sap  : Bytes
  stat : Bytes
  sig  : Bytes
  clk  : Nat

/-- Bits of a result that a fault inverted. -/
def flipBits (x b : Bytes) : Bytes := bxor b (padTo b.length x)
/-- A lane's presentation of a result, complemented in the check lane (R242). -/
def present (check : Bool) (level : Nat) (desc : Bytes) (r : VRes) (e : LaneEnd) : Presented :=
  { out := deliver check (flipBits e.out r.out)
    sap := deliver check (flipBits e.sap (r.sap.elim [] (fun s => s.2)))
    stat := deliver check (flipBits e.stat (toLe 4 r.out.length ++ [BitVec.ofNat 8 r.st, BitVec.ofNat 8 r.sub]))
    sig := deliver check (flipBits e.sig (toLe 8 (Config.seqSig level desc).toNat))
    clk := e.clk }

/-- The two values are equal only when their XOR is all ones (R242). -/
def opposed (a b : Bytes) : Bool := a.length == b.length && (bxor a b).all (· == 0xFF)
/-- The comparator's finding: the first disagreement in the order of R243's table (log entry 82). -/
def compareKind (p q : Presented) : Option MmKind :=
  if !opposed p.out q.out || !opposed p.sap q.sap then some .data
  else if !opposed p.stat q.stat then some .status
  else if !opposed p.sig q.sig then some .signature
  else if q.clk + 64 < p.clk ∨ p.clk + 64 < q.clk then some .skew
  else none

/-- The instant of a release, and the sapling that it replaced, for a response of the same clock cycle (R19). -/
def Dev.noteRelease (c : Ctx) (i : Item) (d : Dev) : Dev :=
  d.updItem i.slot (fun x => { x with
    relSt := some c.now, sapWas := (Desc.target? i.desc).map (fun t => (d.key.slot? t.1 t.2).bind (fun s => s.sap)) })

/-- Equal results are released as the principal lane presents them: output, sapling, and the record to OWED with the
verb's status. DESIGN CHOICE (log entry 75): of an output whose write is refused nothing has been written, and its result
length is 0 (R86). -/
def Dev.release (c : Ctx) (i : Item) (p : Presented) (sap : Option KeyAttr) (refused : Bool) (d0 : Dev) : Dev :=
  let d := d0.noteRelease c i
  let st := byteAt p.stat 4
  if st ≠ 0 then d.toOwed c i.slot st (byteAt p.stat 5) 0
  else match i.spillFrom with
    | some o => (d.unbind c i.slot).spillAnswer i o.1 o.2 0 0 p.out.length p.out
    | none =>
      if refused ∧ p.out ≠ [] then d.toOwed c i.slot 0x30 0x02 0
      else
        let d1 := if p.out.isEmpty then d else d.emit (.output (d.tagOf i.slice) i.seq (BitVec.ofNat 64 (Desc.outPtr i.desc)) (Desc.outputSgl i.desc) p.out)
        let d2 := match sap, Desc.target? i.desc with
          | some a, some t => (d1.writeSapling i.slot t a p.sap).slotChanged c t.1 t.2 (.sapling i.slot)
          | _, _ => d1
        d2.toOwed c i.slot 0 0 p.out.length

/-- RELEASE_COMPARE: both lanes of a twin present their results, and the comparator compares them. -/
def releaseCompareOp (t : Nat) (pe qe : LaneEnd) (refused : Bool) (c : Ctx) (d : Dev) : Dev :=
  let x := d.twin t
  match x.running.bind d.item? with
  | none => d
  | some i =>
    if i.preempt || !d.mayRelease c then d
    else
      let r := d.laneRes i false x.main
      let p := present false x.main.level i.desc r pe
      let q := present true x.check.level i.desc (d.laneRes i true x.check) qe
      if f1Fails i false x.main || f1Fails i true x.check then d.mismatch c t .data true i
      else match compareKind p q with
        | some k => d.mismatch c t k false i
        | none => if d.saplingWaits i then d else d.release c i p (r.sap.map (fun s => s.1)) refused

def execReleaseCompare (twin : Nat) (principal check : LaneEnd) (s : State) (dmaRefused : Bool := false) : Host.Outcome State Fault Refusal :=
  s.onDev (releaseCompareOp twin principal check dmaRefused)

/-- SKEW_TIMEOUT (R244). -/
def skewTimeoutOp (t : Nat) (c : Ctx) (d : Dev) : Dev :=
  match (d.twin t).running.bind d.item? with
  | none => d
  | some i =>
    if i.runSt + 2 * atOp (d.groveOp i.grove) i.laneCost + 10 * nsUs < c.now ∧ d.mayRelease c = true then d.mismatch c t .skew false i else d

def execSkewTimeout (twin : Nat) (s : State) : Host.Outcome State Fault Refusal := s.onDev (skewTimeoutOp twin)

/-! ### Staged input (R52, R251, R267) -/

/-- LONG_INPUT_FETCH: the input of an item above 256 bytes, once it is placed or spilled. -/
def longInputOp (slot : Nat) (r : DmaRead) (c : Ctx) (d : Dev) : Dev :=
  match d.item? slot with
  | none => d
  | some i =>
    let n := Desc.inLen i.desc
    if !i.staged && decide (256 < n) && d.dispatchOn && i.mark.isNone && i.spillFrom.isNone && (i.ds == .placed || (i.ds == .running && i.spill.isSome)) then
      let d := d.emit (.fetch (d.tagOf i.slice) (BitVec.ofNat 64 (Desc.inPtr i.desc)) n)
      if r.refused then d.finishNow c slot 0x30 1
      else if r.failed ∨ r.data.length < n then d.finishNow c slot 0x10 2
      else
        let d1 := d.updItem slot (fun x => { x with staged := true, input := r.data.take n })
        if i.ds = .placed then (d1.pumpKeys c i.grove).tryPreempt c i.grove else d1.spillSend c slot
    else d

def execLongInputFetch (slot : Nat) (input : DmaRead) (s : State) : Host.Outcome State Fault Refusal := s.onDev (longInputOp slot input)

/-- STAGING_ECC_ERROR (R251): the first discards the staging, the second completes the item. A short input is restaged from
its journal body at once. -/
def stagingEccOp (slot : Nat) (c : Ctx) (d : Dev) : Dev :=
  match d.item? slot with
  | none => d
  | some i =>
    if !i.staged || i.readback || i.spill.isSome || !(i.ds == .placed || i.ds == .running || i.ds == .suspended) then d
    else if i.eccOnce then d.finishNow c slot 0x40 2
    else (d.goBack c slot false).updItem slot (fun x => { x with eccOnce := true, staged := decide (Desc.inLen x.desc ≤ 256) || x.spillFrom.isSome })

def execStagingEccError (slot : Nat) (s : State) : Host.Outcome State Fault Refusal := s.onDev (stagingEccOp slot)

/-! ### The clearing (R252 to R258, R311) -/

/-- A unit's tests passed: it waits for the next epoch, or is HELD (R253, R254, R258). -/
def Dev.twinTested (c : Ctx) (t us : Nat) (ok : Bool) (d : Dev) : Dev :=
  let hold := bit (d.reg Off.lanClearCtrl) 0
  let new := if ok then (if hold then UnitState.held else .clearing) else .failed
  let d1 := d.updTwin t (fun x => { x with state := new, passed := ok && !hold, testUs := us })
  let d2 := if new = .clearing then d1 else d1.recordUnit c 0 t .clearing new
  if ok then d2 else d2.evtBit Off.lanEvt 3

def Dev.engineTested (c : Ctx) (g us : Nat) (ok : Bool) (d : Dev) : Dev :=
  let hold := bit (d.reg Off.lanClearCtrl) 0
  let new := if ok then (if hold then UnitState.held else .clearing) else .failed
  let d1 := d.updEngine g (fun x => { x with state := new, passed := ok && !hold, testUs := us, zeroFail := x.zeroFail && !ok })
  let d2 := if new = .clearing then d1 else d1.recordUnit c 2 g .clearing new
  if ok then d2 else d2.evtBit Off.pkeEvt 3

/-- The mask generator's own test and seed path (R255, R282). -/
def Grove.mgenTested (ok : Bool) (g : Grove) : Grove :=
  if !ok then { g with mgen := MgenState.failed } else if g.mgen == .failed then ({ g with mgen := MgenState.running } : Grove).settle else g

/-- A grove's own result (R249, R254): its grove-level tests, its engine's among them where it was tested, and at least one
twin. -/
def Dev.groveTested (c : Ctx) (g : Nat) (ok : Bool) (d : Dev) : Dev :=
  let hold := bit (d.reg Off.lanClearCtrl) 0
  let pass := ok && !(d.grove g).byThresh
  let new := if pass then (if hold then UnitState.held else .clearing) else .failed
  let d1 := d.updGrove g (fun x => { x with state := new, passed := pass && !hold })
  let d2 := if new = .clearing then d1 else d1.recordUnit c 1 g .clearing new
  if pass then d2 else d2.evtBit Off.lanEvt 3

/-- Whether every test of a twin, or of an engine, passed (R255, R311). -/
def testsTwin (x : ClearTests) (t : Nat) : Bool :=
  x.aes.getLsbD t && x.tdes.getLsbD t && x.digest.getLsbD t && x.cmp.getLsbD t && x.ctx.getLsbD t && x.release.getLsbD t
def testsEngine (x : ClearTests) : Bool := x.engAlg && x.engCheck && x.engRead

/-- CLEARING_TESTS_DONE: the tests of a unit end. A grove's tests cover its twins and its engine; they have not begun while
it is off, or while its DRBG waits to be instantiated (R374). -/
def clearingTestsOp (u : ClrUnit) (x : ClearTests) (us : Nat) (c : Ctx) (d : Dev) : Dev :=
  match u with
  | .twin t =>
    let u := d.twin t
    if t < 96 && u.state == .clearing && !u.passed && (d.grove (t / 8)).state != .clearing && d.groveOn (t / 8) && !d.domWaking (2 * t) && !d.domWaking (2 * t + 1) then
      d.twinTested c t us (testsTwin x t)
    else d
  | .engine g =>
    let u := d.engine g
    if g < 12 && u.state == .clearing && !u.passed && (d.grove g).state != .clearing && d.groveOn g && !d.domWaking (192 + g) then
      d.engineTested c g us (testsEngine x)
    else d
  | .grove g =>
    let u := d.grove g
    if g < 12 && u.state == .clearing && !u.passed && !u.testsHeld && d.groveOn g then
      let tw := (twinsOf g).filter (fun t => (d.twin t).state == .clearing && !(d.twin t).passed)
      let eng := (d.engine g).state == .clearing && !(d.engine g).passed
      let any := (twinsOf g).any (fun t => testsTwin x t)
      let d1 := tw.foldl (fun a t => a.twinTested c t us (testsTwin x t)) d
      let d2 := if eng then d1.engineTested c g us (testsEngine x) else d1
      (d2.updGrove g (Grove.mgenTested x.mgen)).groveTested c g (x.mgen && x.cache && x.sram && any && (!eng || testsEngine x))
    else d

def execClearingTestsDone (unit : ClrUnit) (twins : TwinTests) (grove : GroveTests) (engine : EngineTests) (us : Nat) (s : State) : Host.Outcome State Fault Refusal :=
  s.onDev (clearingTestsOp unit { twins, grove, engine with } us)

/-! ### Clearing commands (R256, R257, R283, R311, R318) -/

/-- A command of LAN_CLEAR_CMD ends. -/
def Dev.clearCmdEnd (res : Nat) (d : Dev) : Dev := ({ d with lan := { d.lan with cmdBusy := none, cmdResult := res } }).evtBit Off.lanEvt 7

/-- The result of a CLEAR that is refused (R257). -/
def clearRefused (d : Dev) (st : UnitState) (grove : Bool) (n : Nat) : Option Nat :=
  if st = .clearing ∨ st = .gated then some 1
  else if grove && !d.lan.groves.any (fun x => x.num != n && x.state == .inService) then some 3
  else none

/-- A write of LAN_CLEAR_CMD. A HELD unit, for which the tables of R253 and R254 have no such event, stays as it is (DESIGN
CHOICE, log entry 43); a FAILED one whose domain is off wakes for its tests. -/
def lanClearCmdW (c : Ctx) (v : Word) (d : Dev) : WOut :=
  let n := fld v 6 0
  let gr := bit v 8
  if d.lan.cmdBusy.isSome then .viol
  else if fld v 13 12 ≠ 1 ∨ (if gr then 11 else 95) < n then .took (d.clearCmdEnd 2)
  else
    let st := if gr then (d.grove n).state else (d.twin n).state
    match clearRefused d st gr n with
    | some r => .took (d.clearCmdEnd r)
    | none =>
      if gr then
        if st = .inService then
          let d1 := d.updGrove n (fun x => { x with draining := true })
          .took ({ (d1.unplace c n (fun _ => true)) with lan := { (d1.unplace c n (fun _ => true)).lan with cmdBusy := some (.grove n) } })
        else if st = .held then .took (d.clearCmdEnd 0)
        else
          let d1 := (d.updGrove n (fun x => { x with threshSts := [], byThresh := false })).groveLeaves c n .clearing
          .took ((if d.groveOn n then d1 else d1.domWake (216 + n)).clearCmdEnd 0)
      else if st = .inService then
        let d1 := d.updTwin n (fun x => { x with draining := true })
        .took { d1 with lan := { d1.lan with cmdBusy := some (.twin n) } }
      else if st = .held then .took (d.clearCmdEnd 0)
      else .took ((((d.twinLeaves c n .clearing false).clearCmdEnd 0).domWake (2 * n)).domWake (2 * n + 1))

def execTwinClear (twin : Nat) (s : State) : Host.Outcome State Fault Refusal :=
  s.onDev (fun c d => d.hostWrite c Off.lanClearCmd (lanClearCmdW c (packW [(0, twin % 128), (12, 1)])))
def execGroveClear (grove : Nat) (s : State) : Host.Outcome State Fault Refusal :=
  s.onDev (fun c d => d.hostWrite c Off.lanClearCmd (lanClearCmdW c (packW [(0, grove % 128), (8, 1), (12, 1)])))

/-- A twin or a grove that drains has finished its items, or has left service in another way. -/
def Dev.lanDrained (c : Ctx) (d : Dev) : Dev :=
  match d.lan.cmdBusy with
  | some (.twin t) =>
    if (d.twin t).state ≠ .inService then d.clearCmdEnd 0
    else if (d.onTwin t).isEmpty then (d.twinLeaves c t .clearing false).clearCmdEnd 0 else d
  | some (.grove g) =>
    if (d.grove g).state ≠ .inService then d.clearCmdEnd 0
    else if (d.groveItems g .running ++ d.groveItems g .suspended).all (fun i => i.spill.isSome) then
      ((d.updGrove g (fun x => { x with byThresh := false })).groveLeaves c g .clearing).clearCmdEnd 0
    else d
  | _ => d

/-- A command of PKE_CLEAR_CMD ends. -/
def Dev.pkeClearEnd (res : Nat) (d : Dev) : Dev := ({ d with pke := { d.pke with clearBusy := none, clearResult := res } }).evtBit Off.pkeEvt 6

/-- An engine that drains has ended its engine phase, or has left service in another way. -/
def Dev.pkeDrained (c : Ctx) (d : Dev) : Dev :=
  match d.pke.clearBusy with
  | some g =>
    if (d.engine g).state ≠ .inService then d.pkeClearEnd 0
    else if (d.engine g).item.isNone then (d.engineLeaves c g .clearing).pkeClearEnd 0 else d
  | none => d

/-- CLEAR_DRAIN_DONE. -/
def clearDrainOp (c : Ctx) (d : Dev) : Dev := ((d.gateDrained c).lanDrained c).pkeDrained c

def execClearDrainDone (s : State) : Host.Outcome State Fault Refusal := s.onDev clearDrainOp

/-- READMIT_HOLD_WRITE: a write of LAN_CLEAR_CTRL (R258). -/
def readmitHoldW (v : Word) (d : Dev) : WOut := .took (d.setReg Off.lanClearCtrl (v &&& 1#32))
def execReadmitHoldWrite (value : Word) (s : State) : Host.Outcome State Fault Refusal :=
  s.onDev (fun c d => d.hostWrite c Off.lanClearCtrl (readmitHoldW value))

/-- The registers of the block that a host writes (R281, R283). -/
def lanW (c : Ctx) (off : Nat) (v : Word) (d : Dev) : WOut :=
  if off = Off.lanClearCtrl then readmitHoldW v d
  else if off = Off.lanClearCmd then lanClearCmdW c v d
  else if off = Off.lanTwinSel then (if 95 < fld v 6 0 then .drop else .took (d.setReg off (v &&& 0x7F#32)))
  else if off = Off.lanGroveSel then (if 11 < fld v 3 0 then .drop else .took (d.setReg off (v &&& 0xF#32)))
  else if off = Off.lanEvt then .took (d.setReg off (d.reg off &&& ~~~v))
  else if off = Off.lanEvtEn then .took (d.setReg off (v &&& 0xFF#32))
  else .drop

end Sys2Proof.Machine
end

