-- ==== Sys2Proof/Machine/Repl.lean ====
section
/-! DEFINITION. Key-domain replication at its source and the messages of a replica (R420 to R422). -/

namespace Sys2Proof.Machine

/-- Codes of the replication messages in the record of what left the part. -/
def replCode : ReplKind → Nat
  | .copy => 1 | .rollEnd => 2 | .retirePrev => 3 | .erase => 4 | .ack => 5 | .ended => 6

/-- Replication states (R422, R443). -/
abbrev ReplSt.off : Nat := 0
abbrev ReplSt.copying : Nat := 1
abbrev ReplSt.current : Nat := 2
abbrev ReplSt.broken : Nat := 3

/-- A replication goes to a state; BROKEN is an event on entry. -/
def Dev.setRepl (r : Repl) (st : Nat) (d : Dev) : Dev :=
  let same := fun (x : Repl) => x.domain == r.domain && x.index == r.index
  let d1 := { d with fab := { d.fab with repls := updWhere same (fun x => { x with state := st }) d.fab.repls } }
  if st = ReplSt.broken ∧ r.state ≠ ReplSt.broken then d1.evtBit Off.fabEvt 9 else d1

/-- The keys of a domain as they travel: the DMK of the current generation, and of the previous one while PREV_VALID is set,
each under AES-256 key wrap (R421). -/
def wrappedKeys (s : Session) (m : Domain) : Bytes := kwWrap s.transport m.dmk ++ (if m.prevValid then kwWrap s.transport m.prevDmk else [])

/-- One message of the source to the replica of a replication: its state is COPYING until the replica acknowledges, BROKEN
where no session reaches it. One that an ERASE on the replica ended stays BROKEN (R422). -/
def Dev.replSend (kind : ReplKind) (r : Repl) (d : Dev) : Dev :=
  let m := d.key.domain r.domain
  match d.session? r.peer with
  | some s =>
    if r.ended then d
    else
      let keys := match kind with
        | .copy | .rollEnd => wrappedKeys s m
        | _ => []
      (d.sendPeer r.peer 3 (replCode kind) ([r.domain, m.gen, m.prevGen, b2n m.prevValid].flatMap msgNum ++ keys)).setRepl r ReplSt.copying
  | none => d.setRepl r ReplSt.broken

/-- A change of a domain goes to every replica of it, once the device holds its keys (R421). -/
def Dev.replicate (dom : Nat) (kind : ReplKind) (d : Dev) : Dev :=
  (d.fab.repls.filter (fun r => r.en && r.domain == dom)).foldl (fun a r => a.replSend kind r) d

/-- The domain is a replica here (R422). -/
def Dev.isReplica (d : Dev) (dom : Nat) : Bool := d.fab.replicas.any (fun r => r.domain == dom)

/-- An ERASE on a replica ends its replication, and the source is told (R422). -/
def Dev.endReplica (dom : Nat) (d : Dev) : Dev :=
  let mine := d.fab.replicas.filter (fun r => r.domain == dom)
  let d1 := mine.foldl (fun a r => a.sendPeer r.src 3 (replCode .ended) (msgNum dom)) d
  { d1 with fab := { d1.fab with replicas := d1.fab.replicas.filter (fun r => r.domain != dom) } }

end Sys2Proof.Machine
end

