-- ==== Sys2Proof/Machine/KeyCmd.lean ====
section
/-! DEFINITION. Key engine commands (R323 to R331, R342 to R348, R361 to R363, R650): loads, slot commands, the key fence,
domains and quotas, REINIT, and the registers of the block. -/

namespace Sys2Proof.Machine

/-! ### Loads (R158, R350, R351) -/

/-- KEY_LOAD_DONE: an unwrap unit ends a load. The entry goes into the cache, or the load fails at check 1 or 2; a full cache
of pinned entries makes it wait. Step B of the grove's items goes on. -/
def keyLoadOp (g slot : Nat) (c : Ctx) (d : Dev) : Dev :=
  match d.key.loads.find? (fun l => l.grove == g && l.item == slot), d.item? slot with
  | some l, some i =>
    if d.locked then d
    else
      let h := if l.idx = 1 then Desc.key1 i.desc else Desc.key2 i.desc
      let fin := fun (k : Key) => ({ d with key := { k with loads := k.loads.erase l } } : Dev)
      match d.loadKey c.otp h (kbBytes i.desc i.input l.idx) with
      | .hit r => match d.key.insert g slot (fun j => Config.rndByte d.rng.ctr (0x30000 + j)) r with
        | some k => (((fin k).draw).pumpKeys c g).tryPreempt c g
        | none => d
      | .fail st sub => (((fin d.key).stepBFail c slot st sub).pumpKeys c g).tryPreempt c g
      | .miss => d
  | _, _ => d

def execKeyLoadDone (grove : Nat) (slot : Nat) (s : State) : Host.Outcome State Fault Refusal := s.onDev (keyLoadOp grove slot)

/-! ### Slot commands (R342 to R346, R363) -/

/-- Result codes of KEY_SLOT_CMD_STAT. -/
abbrev SlotRes.done : Nat := 0
abbrev SlotRes.noSapling : Nat := 1
abbrev SlotRes.kcvMismatch : Nat := 2
abbrev SlotRes.testFailed : Nat := 3
abbrev SlotRes.superseded : Nat := 4
abbrev SlotRes.quorum : Nat := 5
abbrev SlotRes.badParam : Nat := 6
abbrev SlotRes.emptySlot : Nat := 7

/-- Copies of a key in the caches are superseded: each grove takes the commit up by the next fence (R347, R348). -/
def Key.supersede (p : CacheEnt → Bool) (k : Key) : Key := { k with cache := updWhere p (fun e => { e with stale := true }) k.cache }

/-- A slot is changed; one whose halves are both EMPTY no longer exists (R336). -/
def Key.putSlot (s : Slot) (k : Key) : Key :=
  let rest := k.slots.filter (fun x => !(x.dom == s.dom && x.num == s.num))
  { k with slots := if s.act.isNone && s.sap.isNone then rest else rest ++ [s] }

/-- A custodian-only slot (R337), and the open master-key ceremony of its domain (R451). -/
def Slot.custOnly (s : Slot) : Bool := s.act.any (fun h => h.attr.cust) || s.sap.any (fun h => h.attr.cust)
def Dev.domainCer (d : Dev) (dom : Nat) : Bool := d.cus.cers.any (fun k => k.state == .opened && k.cls == 1 && k.domain == some dom)

/-- The slot that a command acts on: only a READY store has any. -/
def Dev.cmdSlot (d : Dev) : Option Slot := if d.key.store = .ready then d.key.slot? d.selDom d.selSlot else none

/-- The information registers of a half (R346, R362). -/
def Dev.loadInfo (h : Option Half) (d : Dev) : Dev :=
  match h with
  | none => { d with key := { d.key with info := 0, infoGen := 0 } }
  | some x =>
    let a := x.attr
    let w := packW [(0, a.alg % 256), (8, a.part % 4), (10, b2n a.cust), (11, b2n (a.na != 0)), (12, b2n a.ksi.isSome), (13, 1), (16, a.mode % 256), (24, a.exp % 256)]
    let d1 := { d with key := { d.key with info := w, infoGen := BitVec.ofNat 32 a.gen } }
    if a.na = 0 then d1 else (d1.setReg64 Off.keyWinNbLo a.nb).setReg64 Off.keyWinNaLo a.na

/-- What a slot command other than PROMOTE does at once; a changed slot is mirrored (R437). -/
def Dev.slotDo (c : Ctx) (cmd : Nat) (half : Bool) (s : Slot) (d : Dev) : Dev :=
  let res := fun (r : Nat) (d : Dev) => ({ d with key := { d.key with slotResult := r } } : Dev)
  let put := fun (k : Key) => (({ d with key := { k with slotResult := 0 } } : Dev)).slotChanged c s.dom s.num (.slot false)
  let gone := fun (h : Option Half) (e : CacheEnt) => h.any (fun x => e.dom == s.dom && e.slot == s.num && e.gen == x.attr.gen)
  if cmd = 2 then
    if s.sap.isNone then res SlotRes.noSapling d
    else put ((d.key.putSlot { s with sap := none }).supersede (gone s.sap))
  else if cmd = 3 then
    put ((d.key.putSlot { s with act := none, sap := none }).supersede (fun e => gone s.act e || gone s.sap e))
  else if cmd = 4 then
    match s.sap with
    | none => res SlotRes.noSapling d
    | some h =>
      let a := { h.attr with nb := d.reg64 Off.keyWinNbLo, na := d.reg64 Off.keyWinNaLo }
      let ents := updWhere (gone s.sap) (fun e => { e with attr := { e.attr with nb := a.nb, na := a.na } }) d.key.cache
      put { d.key.putSlot { s with sap := some { h with attr := a } } with cache := ents }
  else res 0 (d.loadInfo (if half then s.sap else s.act))

/-- A write of KEY_SLOT_CMD. -/
def slotCmdW (c : Ctx) (v : Word) (d : Dev) : WOut :=
  let cmd := fld v 2 0
  let len := fld v 11 8
  let res := fun (r : Nat) => WOut.took { d with key := { d.key with slotResult := r } }
  if d.key.promote.isSome || d.changing MirrorOf.isSlot then .viol
  else if cmd = 0 ∨ 5 < cmd ∨ (cmd = 1 ∧ (len < 3 ∨ 8 < len)) then res SlotRes.badParam
  else if d.locked then res SlotRes.superseded
  else match d.cmdSlot with
    | none => res SlotRes.emptySlot
    | some s =>
      if s.custOnly && !d.domainCer s.dom then res SlotRes.quorum
      else if cmd = 1 then
        if s.sap.isNone then res SlotRes.noSapling
        else if d.warning then res SlotRes.superseded
        else .took { d with key := { d.key with promote := some (s.dom, s.num, len) } }
      else .took (d.slotDo c cmd (bit v 4) s)

/-- SLOT_PROMOTE: a write of KEY_SLOT_CMD with CMD 1. -/
def execSlotPromote (value : Word) (s : State) : Host.Outcome State Fault Refusal :=
  s.onDev (fun c d => d.hostWrite c Off.keySlotCmd (slotCmdW c (value &&& 0xFFFFFFF8#32 ||| 1#32)))
def execSlotDiscard (s : State) : Host.Outcome State Fault Refusal :=
  s.onDev (fun c d => d.hostWrite c Off.keySlotCmd (slotCmdW c 2#32))
def execSlotDelete (s : State) : Host.Outcome State Fault Refusal :=
  s.onDev (fun c d => d.hostWrite c Off.keySlotCmd (slotCmdW c 3#32))
def execSlotSetWindow (s : State) : Host.Outcome State Fault Refusal :=
  s.onDev (fun c d => d.hostWrite c Off.keySlotCmd (slotCmdW c 4#32))
def execSlotInfo (half : Bool) (s : State) : Host.Outcome State Fault Refusal :=
  s.onDev (fun c d => d.hostWrite c Off.keySlotCmd (slotCmdW c (if half then 0x15#32 else 5#32)))

/-- The commit of a PROMOTE (R342), mirrored (R437). -/
def Dev.promoteCommit (c : Ctx) (s : Slot) (d : Dev) : Dev :=
  let old := fun (e : CacheEnt) => s.act.any (fun x => e.dom == s.dom && e.slot == s.num && e.gen == x.attr.gen)
  let k := (d.key.putSlot { s with act := s.sap, sap := none }).supersede old
  ({ d with key := { k with promote := none, slotResult := 0 } }).slotChanged c s.dom s.num (.slot true)

/-- The pairwise test of a key pair waits for the engine of the lowest-numbered grove in service while an item holds it, and
while no grove is in service (R342; log entry 85). -/
def Dev.pairTestWaits (h : Half) (d : Dev) : Bool :=
  decide (0x80 ≤ h.attr.alg ∧ h.attr.part ≠ 2)
    && (((List.range 12).find? (fun g => (d.grove g).state == .inService)).elim true (fun g => (d.engine g).item.isSome))

/-- PROMOTE_DONE: the check value, then the test operation, then the commit (R342, R343). -/
def promoteDoneOp (testOk : Bool) (c : Ctx) (d : Dev) : Dev :=
  match d.key.promote with
  | none => d
  | some (dom, num, len) =>
    let fin := fun (r : Nat) (d : Dev) => ({ d with key := { d.key with promote := none, slotResult := r } } : Dev)
    match d.key.slot? dom num with
    | none => fin SlotRes.emptySlot d
    | some s => match s.sap with
      | none => fin SlotRes.noSapling d
      | some h =>
        let want := (toLe 8 (d.reg64 Off.keyExpKcvLo)).take len
        if kcv 0 len h.attr.alg h.mat ≠ want then fin SlotRes.kcvMismatch d
        else if d.pairTestWaits h then d
        else if !testOk then
          ((fin SlotRes.testFailed d).evtBit Off.keyEvt 3).evidence c Ev.keyTestFailed (toLe 2 dom ++ toLe 2 num ++ toLe 4 h.attr.gen)
        else d.promoteCommit c s

def execPromoteDone (testOk : Bool) (s : State) : Host.Outcome State Fault Refusal := s.onDev (promoteDoneOp testOk)

/-! ### Key fence (R347, R348) -/

/-- The key that an item resolved is no longer the current one under any name. -/
def Key.superseded (k : Key) (r : KeyRes) : Bool :=
  if r.slot ≤ 0xFFFD then
    match k.slot? r.dom r.slot with
    | none => true
    | some s => !(s.act.any (fun h => h.attr.gen == r.gen && h.mat == r.mat) || s.sap.any (fun h => h.attr.gen == r.gen && h.mat == r.mat))
  else
    let m := k.domain r.dom
    m.state == .empty || !(m.gen == r.gen || (m.prevGen == r.gen && m.prevValid))

/-- A write of KEY_FENCE (R5, R347): WAIT_USERS is RW and takes the written value; a START while a fence runs is refused. The
fence waits for the users of the write that started it. -/
def keyFenceW (_ : Ctx) (v : Word) (d : Dev) : WOut :=
  let w := bit v 2
  if !bit v 0 then .took { d with key := { d.key with waitUsers := w } }
  else if d.key.fence then .viol
  else
    let us := (d.dsp.items.filter (fun i => i.incomplete && i.keys.any d.key.superseded)).map (fun i => (i.slot, i.seq))
    .took { d with key := { d.key with fence := true, waitUsers := w, users := if w then us else [] } }
def execKeyFenceStart (value : Word) (s : State) : Host.Outcome State Fault Refusal :=
  s.onDev (fun c d => d.hostWrite c Off.keyFence (keyFenceW c (value ||| 1#32)))

/-- KEY_FENCE_DONE: every grove has taken the commits up, and the waited users have finished. -/
def keyFenceDoneOp (_ : Ctx) (d : Dev) : Dev :=
  let k := d.key
  let live := k.users.any (fun u => d.dsp.items.any (fun i => i.slot == u.1 && i.seq == u.2 && i.incomplete))
  if k.fence && !live then
    let k1 := { k with
      fence := false, users := [], cache := k.cache.filter (fun e => !e.stale),
      domains := k.domains.map (fun (m : Domain) => { m with retiring := false }) }
    ({ d with key := k1 }).evtBit Off.keyEvt 1
  else d

def execKeyFenceDone (s : State) : Host.Outcome State Fault Refusal := s.onDev keyFenceDoneOp

/-! ### Domains (R326 to R331) -/

/-- Copies of a domain's keys in the caches, of the LSK and key blocks alone or of every slot too. -/
def CacheEnt.ofDomain (dom : Nat) (all : Bool) (e : CacheEnt) : Bool := e.dom == dom && (all || decide (0xFFFE ≤ e.slot))

/-- The previous generation of a domain is given up at the next fence (R329). -/
def Key.retirePrev (m : Domain) (k : Key) : Key :=
  (k.updDomain m.num (fun x => { x with prevValid := false, retiring := true })).supersede (fun e => e.ofDomain m.num false && e.gen == m.prevGen)

/-- A write of KEY_DOM_CMD; a replica follows its source alone (R329, R422). -/
def domCmdW (c : Ctx) (v : Word) (d : Dev) : WOut :=
  let m := d.key.domain d.selDom
  let res := fun (r : Nat) (k : Key) => WOut.took { d with key := { k with domResult := r } }
  if !bit v 0 then .took d
  else if d.key.domErase.isSome || d.changing (fun w => w == .domain) then .viol
  else if d.locked then res 3 d.key
  else if !m.prevValid || d.isReplica m.num then res 1 d.key
  else .took ((({ d with key := { d.key.retirePrev m with domResult := 0 } }).replicate m.num .retirePrev).domainChanged c m.num .domain)
def execRetirePrev (s : State) : Host.Outcome State Fault Refusal :=
  s.onDev (fun c d => d.hostWrite c Off.keyDomCmd (domCmdW c 1#32))

/-- A write of KEY_DOM_ERASE (R330, R457, R458). -/
def domEraseW (_ : Ctx) (v : Word) (d : Dev) : WOut :=
  if !d.quorum Off.keyDomErase v then .viol
  else if !bit v 0 then .took d
  else if d.key.domErase.isSome || d.changing (fun w => w == .domain) then .viol
  else if d.locked then .took { d with key := { d.key with domResult := 3 } }
  else .took { d with key := { d.key with domErase := some d.selDom } }
def execDomainErase (s : State) : Host.Outcome State Fault Refusal :=
  s.onDev (fun c d => d.hostWrite c Off.keyDomErase (domEraseW c 1#32))

/-- A domain loses its slots, its record and its DMK; its quotas stay. -/
def Key.eraseDomain (dom : Nat) (k : Key) : Key :=
  ({ k with slots := k.slots.filter (fun s => s.dom != dom) }.updDomain dom
    (fun m => { num := m.num, slotQuota := m.slotQuota, extQuota := m.extQuota })).supersede (fun e => e.ofDomain dom true)

/-- DOMAIN_ERASE_DONE. -/
def domEraseDoneOp (c : Ctx) (d : Dev) : Dev :=
  match d.key.domErase with
  | none => d
  | some dom => ((({ d with key := { d.key.eraseDomain dom with domErase := none, domResult := 0 } }).replicate dom .erase).endReplica dom).domainChanged c dom .domain
def execDomainEraseDone (s : State) : Host.Outcome State Fault Refusal := s.onDev domEraseDoneOp

/-- ROLL_DONE: every slot of the rolling domains is re-sealed (R328). The key engine is stopped while a response is in
force. -/
def rollDoneOp (c : Ctx) (d : Dev) : Dev :=
  let rolling := d.key.domains.filter (fun m => m.state == DomState.rolling)
  if rolling.isEmpty || d.locked then d
  else
    let fin := fun (m : Domain) => ({ m with
      state := .active, prevGen := m.gen, prevDmk := m.dmk, prevValid := true, gen := m.newGen, dmk := m.newDmk, newGen := 0, newDmk := [] } : Domain)
    let k := { d.key with domains := updWhere (fun m => m.state == DomState.rolling) fin d.key.domains }
    let d1 := ({ d with key := k.supersede (fun e => rolling.any (fun m => e.ofDomain m.num false)) }).evtBit Off.keyEvt 2
    rolling.foldl (fun (a : Dev) m => (a.replicate m.num .rollEnd).domainChanged c m.num .write) d1
def execRollDone (s : State) : Host.Outcome State Fault Refusal := s.onDev rollDoneOp

/-- A write of KEY_DOM_QUOTA (R331). -/
def quotaW (c : Ctx) (v : Word) (d : Dev) : WOut :=
  let sq := fld v 15 0
  let eq := fld v 28 16
  let others := d.key.domains.filter (fun m => m.num != d.selDom)
  if !d.quorum Off.keyDomQuota v then .viol
  else if 65533 < sq ∨ 4096 < eq then .viol
  else if 65536 < (others.map (fun m => m.slotQuota)).sum + sq ∨ 4096 < (others.map (fun m => m.extQuota)).sum + eq then .viol
  else .took (({ d with key := d.key.updDomain d.selDom (fun m => { m with slotQuota := sq, extQuota := eq }) }).domainChanged c d.selDom .write)
def execQuotaWrite (value : Word) (s : State) : Host.Outcome State Fault Refusal :=
  s.onDev (fun c d => d.hostWrite c Off.keyDomQuota (quotaW c value))

/-! ### REINIT (R324) -/

/-- A write of KEY_STORE_CMD: the new BBKEK is drawn and the store erased; the check record follows (R324). -/
def storeCmdW (c : Ctx) (v : Word) (d : Dev) : WOut :=
  if !d.quorum Off.keyStoreCmd v then .viol
  else if !bit v 0 then .took d
  else if d.key.reinit then .viol
  else if !d.mgmtDrbg then .took { d with key := { d.key with storeResult := 1 } }
  else
    let (b, d1) := d.mgmtBytes c 32
    let id := (d.openCer? 2).elim 0#64 (fun k => k.id)
    let k := { d1.key with
      bbkek := .valid, bbkekVal := b, store := .uninit, check := none, domains := [], slots := [], reinit := true, reinitId := id }
    .took (({ d1 with key := k.supersede (fun _ => true) }).evtBit Off.keyEvt 5)
def execStoreReinit (s : State) : Host.Outcome State Fault Refusal :=
  s.onDev (fun c d => d.hostWrite c Off.keyStoreCmd (storeCmdW c 1#32))

/-- REINIT_DONE. -/
def reinitDoneOp (c : Ctx) (d : Dev) : Dev :=
  if d.key.reinit then
    let k := { d.key with reinit := false, storeResult := 0, check := some (c.otp.root, c.otp.dsk d.key.bbkekVal), store := .ready }
    (({ d with key := k }).evtBit Off.keyEvt 5).evidence c Ev.storeReinit (toLe 8 k.reinitId.toNat)
  else d
def execReinitDone (s : State) : Host.Outcome State Fault Refusal := s.onDev reinitDoneOp

/-! ### Registers -/

def keyW (c : Ctx) (off : Nat) (v : Word) (d : Dev) : WOut :=
  if off = Off.keySelDomain then (if 1023 < v.toNat then .drop else .took (d.setReg off v))
  else if off = Off.keySelSlot then
    (if fld v 15 0 = 0 ∨ 0xFFFD < fld v 15 0 then .drop else .took (d.setReg off (v &&& 0xFFFF#32)))
  else if off = Off.keySlotCmd then slotCmdW c v d
  else if Off.keyExpKcvLo ≤ off ∧ off ≤ Off.keyWinNaHi then .took (d.setReg off v)
  else if off = Off.keyDomQuota then quotaW c v d
  else if off = Off.keyDomCmd then domCmdW c v d
  else if off = Off.keyDomErase then domEraseW c v d
  else if off = Off.keyFence then keyFenceW c v d
  else if off = Off.keyStoreCmd then storeCmdW c v d
  else if off = Off.keyCacheSel then (if 11 < fld v 3 0 then .drop else .took (d.setReg off (v &&& 0xF#32)))
  else if off = Off.keyEvt then .took (d.setReg off (d.reg off &&& ~~~v))
  else if off = Off.keyEvtEn then .took (d.setReg off (v &&& 0x3F#32))
  else .drop

end Sys2Proof.Machine
end

