-- ==== Sys2Proof/Machine/Hif.lean ====
section
/-! DEFINITION. Host interface: doorbells (R59 to R62), descriptor fetch (R48 to R52), head write-back (R64), completion
posting (R55 to R58), interrupts (R75, R76), ring commands and ring registers (R66 to R74, R89 to R91). -/

namespace Sys2Proof.Machine

/-! ### Doorbells (R60 to R62) -/

/-- Internal address of BAR2 offset `x` (R564). -/
def bar2 (x : Nat) : Nat := 0x04000000 + x

/-- The rules of R61 that come before the counts: width and alignment, an undefined ring, a stale generation. -/
def Dev.doorbell (c : Ctx) (s n addr bits : Nat) (aligned : Bool) (v : DWord) (f : Word → Dev → WOut) (d : Dev) : WOut :=
  let r := d.ring s n
  let gen := v.toNat / 2 ^ 32 % 65536
  if bits < 64 ∨ aligned = false then .took ((d.hifEvent s n 3).ruleViolation c addr)
  else if r.state = .absent then .took ((d.hifEvent s n 2).ruleViolation c addr)
  else if gen ≠ r.gen then .took (d.hifEvent s n 1)
  else f (BitVec.ofNat 32 v.toNat) d

/-- SQ_DB: a tail is recorded, or the ring faults (R61). DESIGN CHOICE (log entry 75): a fault of a doorbell count has no
faulting host-memory access, and HIF_RING_FAULT_ADDR shows 0. -/
def sqDb (c : Ctx) (s n : Nat) (t : Word) (d : Dev) : WOut :=
  let r := d.ring s n
  if (r.tail - r.accepted).toNat ≤ (t - r.accepted).toNat ∧ (t - r.accepted).toNat ≤ 2 ^ r.sqLog2 then
    .took (d.updRing s n (fun x => { x with tail := t }))
  else if r.posts then .took (d.ringFault c s n 1 0) else .drop

/-- CQ_DB: a consumed count is recorded, or the ring faults (R61); the fault address as for SQ_DB (log entry 75). -/
def cqDb (c : Ctx) (s n : Nat) (h : Word) (d : Dev) : WOut :=
  let r := d.ring s n
  if (r.posted - h).toNat ≤ (r.posted - r.consumed).toNat then .took (d.updRing s n (fun x => { x with consumed := h }))
  else if r.posts then .took (d.ringFault c s n 2 0) else .drop

def execSqDoorbell (slice ring bits : Nat) (aligned : Bool) (value : DWord) (s : State) : Host.Outcome State Fault Refusal :=
  let a := bar2 (slice * 0x1000 + 0x10 * ring)
  s.onDev (fun c d => if slice < 4096 ∧ ring < 16 then
    d.hostWrite c a (fun d => d.doorbell c slice ring a bits aligned value (fun t d => sqDb c slice ring t d)) else d)

def execCqDoorbell (slice ring bits : Nat) (aligned : Bool) (value : DWord) (s : State) : Host.Outcome State Fault Refusal :=
  let a := bar2 (slice * 0x1000 + 0x10 * ring + 8)
  s.onDev (fun c d => if slice < 4096 ∧ ring < 16 then
    d.hostWrite c a (fun d => d.doorbell c slice ring a bits aligned value (fun t d => cqDb c slice ring t d)) else d)

/-- Upper half of RING_STATUS (R59): state and generation. -/
def Ring.statusHi (r : Ring) : Word := packW [(0, r.state.code), (16, r.gen % 65536)]

/-- A word of a doorbell page (R59, R641): RING_STATUS, whose lower half returns the accepted count and latches the upper
half; everything else, the write-only doorbells and the reserved offsets, reads 0. -/
def Dev.bar2Word (off : Nat) (d : Dev) : Word × Dev :=
  let a := off / 8 * 8
  if off % 0x1000 < 0x100 ∨ 0x180 ≤ off % 0x1000 then (0#32, d)
  else if off % 8 = 4 then (((d.hif.statusLatch.find? (fun p => p.1 == a)).map (fun p => p.2)).getD 0#32, d)
  else
    let r := d.ring (off / 0x1000) (off % 0x1000 / 8 - 32)
    (d.accShown r, { d with hif := { d.hif with statusLatch := (a, r.statusHi) :: d.hif.statusLatch.filter (fun (p : Nat × Word) => p.1 != a) } })

/-- RING_STATUS_READ: one half of a ring's status. -/
def ringStatusReadOp (s n : Nat) (upper : Bool) (c : Ctx) (d : Dev) : Dev :=
  let o := s * 0x1000 + 0x100 + 8 * n + (if upper then 4 else 0)
  if 4096 ≤ s ∨ 16 ≤ n then d
  else d.hostRead c (bar2 o) (fun d => let r := d.bar2Word o; (BitVec.ofNat 64 r.1.toNat, r.2))

def execRingStatusRead (slice ring : Nat) (upper : Bool) (s : State) : Host.Outcome State Fault Refusal :=
  s.onDev (ringStatusReadOp slice ring upper)

/-! ### Descriptor fetch (R48 to R52, R61, R62, R67) -/

/-- Slot address of the next descriptor to fetch. -/
def Ring.sqAddr (r : Ring) : Nat := r.sqBase + 128 * ((r.accepted + BitVec.ofNat 32 r.fetched.length).toNat % 2 ^ r.sqLog2)

/-- The reads that go with a descriptor: itself, its scatter lists from their first entry, and an input of 256 bytes or less
at its own address (R45, R48, R51, R52). -/
def Dev.emitFetches (pasid : Option Nat) (addr : Nat) (b : Desc) (d : Dev) : Dev :=
  let rd := fun (p : Bool) (a n : Nat) (d : Dev) => if p then d.emit (.fetch pasid (BitVec.ofNat 64 a) n) else d
  rd (b.directInput && b.inLen != 0 && decide (b.inLen ≤ 256)) b.inPtr b.inLen
    (rd b.readsOutList b.outPtr 16 (rd b.readsInList b.inPtr 16 (rd true addr 128 d)))

/-- DESCRIPTOR_FETCH: the next descriptor of an ACTIVE ring, up to the recorded tail, with what was read beside it. -/
def descriptorFetchOp (s n : Nat) (desc inList outList shortIn : DmaRead) (c : Ctx) (d : Dev) : Dev :=
  let r := d.ring s n
  if r.state = .active ∧ d.hostSide = true ∧ r.fetched.length < (r.tail - r.accepted).toNat then
    if desc.refused ∨ desc.failed ∨ desc.data.length < 128 then d.ringFault c s n 3 r.sqAddr
    else
      let b : Desc := desc.data.take 128
      let f : Fetched := { desc := b, input := b.shortInput shortIn, fail := b.fetchFail inList outList shortIn }
      (d.emitFetches (d.tagOf s) r.sqAddr b).updRing s n (fun x => { x with fetched := x.fetched ++ [f] })
  else d

def execDescriptorFetch (slice ring : Nat) (desc inList outList shortIn : DmaRead) (s : State) : Host.Outcome State Fault Refusal :=
  s.onDev (descriptorFetchOp slice ring desc inList outList shortIn)

/-! ### Head write-back and posting -/

/-! ### ENABLE and HOLD from PARKED or FAULT in progress (R69, R74) -/

/-- A ring command in progress is on this ring. -/
def Dev.ringJob (d : Dev) (s n : Nat) : Bool := d.hif.cmdBusy.any (fun j => j.slice == s && j.num == n)
/-- One of the held entries has been posted. -/
def Dev.jobPosted (s n : Nat) (d : Dev) : Dev :=
  { d with hif := { d.hif with cmdBusy := d.hif.cmdBusy.map (fun (j : RingJob) => if j.slice = s ∧ j.num = n then { j with left := j.left - 1 } else j) } }

/-- A ring command completes: its result, the generation and the event (R74, R90); one that did something is mirrored first
(R437). -/
def Dev.ringCmdEnd (c : Ctx) (s n res : Nat) (d : Dev) : Dev :=
  let d1 := { d with hif := { d.hif with cmdBusy := none, cmdResult := res, cmdGen := (d.ring s n).gen } }
  if res = 0 then d1.ringChanged c s n (.ring s n) else d1.hifEvent s n 4

/-- The command in progress completes once the head write-back word is rewritten and the held entries that can be written
are posted (R69, R74). DESIGN CHOICE (log entry 76): a fault of one of these writes ends it with DONE, the ring in FAULT. -/
def Dev.ringCmdStep (c : Ctx) (d : Dev) : Dev :=
  match d.hif.cmdBusy with
  | none => d
  | some j =>
    let r := d.ring j.slice j.num
    if r.state ≠ .held then d.ringCmdEnd c j.slice j.num 0
    else if r.hwbSince.isSome then d
    else if j.left = 0 ∨ (d.nextOwed r).isNone = true then
      (d.updRing j.slice j.num (fun x => { x with state := j.dest })).ringCmdEnd c j.slice j.num 0
    else d

/-- HEAD_WRITE_BACK (R64): a word that is due is written, on a ring that is not PARKED. A refusal is a fault of the ring
(R67). -/
def headWriteBackOp (s n : Nat) (refused : Bool) (c : Ctx) (d : Dev) : Dev :=
  let r := d.ring s n
  if r.hwbSince.isSome ∧ d.hostSide = true ∧ (r.posts = true ∨ r.state = .fault) then
    (if refused then (d.updRing s n (fun x => { x with hwbSince := none })).ringFault c s n 5 r.hwbAddr else d.writeHwb s n).ringCmdStep c
  else d

def execHeadWriteBack (slice ring : Nat) (refused : Bool) (s : State) : Host.Outcome State Fault Refusal :=
  s.onDev (headWriteBackOp slice ring refused)

/-- COMPLETION_POST (R55 to R58, R66, R67, R93): the ring's next owed entry; a refused write is a fault of the ring. -/
def completionPostOp (s n : Nat) (refused : Bool) (c : Ctx) (d : Dev) : Dev :=
  let r := d.ring s n
  if r.posts && d.hostSide && !(r.hwbSince.isSome && d.ringJob s n) then
    match d.nextOwed r with
    | none => d
    | some (o, x) => (if refused then d.ringFault c s n 4 r.cqAddr else (d.postEntry c s n o x).jobPosted s n).ringCmdStep c
  else d

def execCompletionPost (slice ring : Nat) (refused : Bool) (s : State) : Host.Outcome State Fault Refusal :=
  s.onDev (completionPostOp slice ring refused)

/-! ### Interrupts (R75, R76) -/

/-- IRQ_TIMER: TIME µs after the oldest counted entry. -/
def irqTimerOp (s n : Nat) (c : Ctx) (d : Dev) : Dev :=
  let r := d.ring s n
  let t := fld r.mod 9 0
  if 0 < r.irqCount ∧ t ≠ 0 ∧ r.irqOldest + t * nsUs ≤ c.now ∧ d.endpointUp = true then
    (d.raiseVec (fld r.irq 10 0)).updRing s n (fun x => { x with irqCount := 0 })
  else d

def execIrqTimer (slice ring : Nat) (s : State) : Host.Outcome State Fault Refusal := s.onDev (irqTimerOp slice ring)

/-- Send what is pending on a vector that is no longer masked. -/
def Dev.flushVec (v : Nat) (d : Dev) : Dev :=
  let e := d.hif.msixEntry v
  if e.pending && !e.masked && !d.hif.funcMask then
    ({ d with hif := d.hif.updMsix v (fun e => { e with pending := false }) }).emit (.msix v e.addr e.data)
  else d

/-- MSIX_UNMASK: a write that clears the mask bit of a vector's table entry. -/
def msixUnmaskOp (v : Nat) (_ : Ctx) (d : Dev) : Dev :=
  if v < 2048 ∧ d.endpointUp = true then
    ({ d with hif := d.hif.updMsix v (fun e => { e with masked := false }) }).flushVec v
  else d

def execMsixUnmask (vector : Nat) (s : State) : Host.Outcome State Fault Refusal := s.onDev (msixUnmaskOp vector)

/-! ### Ring settings (R71 to R73, R89, R90) -/

/-- Parameters that CREATE refuses with BAD_PARAM (R73). -/
def irqBad (irq mod policy : Word) : Bool :=
  fld irq 10 0 == 0 || (decide (1 < fld irq 23 16) && fld mod 9 0 == 0) || fld policy 21 20 == 3

/-- The result of checking the staged settings: BAD_SIZE, BAD_ALIGN, BAD_PARAM, in that order (R73). -/
def Dev.stagedFail (d : Dev) : Option Nat :=
  let sz := d.reg Off.hifRingSize
  let n := fld sz 4 0
  let m := fld sz 12 8
  if n < 6 ∨ 16 < n ∨ m < 6 ∨ 16 < m ∨ m < n then some 3
  else if d.reg64 Off.hifSqBaseLo % 4096 ≠ 0 ∨ d.reg64 Off.hifCqBaseLo % 4096 ≠ 0 ∨ d.reg64 Off.hifHwbAddrLo % 8 ≠ 0 then some 4
  else if irqBad (d.reg Off.hifRingIrq) (d.reg Off.hifRingMod) (d.reg Off.hifRingPolicy) then some 5
  else none

/-- The staged settings become the ring's (R69, R73). -/
def Dev.takeStaged (d : Dev) (r : Ring) : Ring :=
  let sz := d.reg Off.hifRingSize
  { r with sqBase := d.reg64 Off.hifSqBaseLo, cqBase := d.reg64 Off.hifCqBaseLo, hwbAddr := d.reg64 Off.hifHwbAddrLo,
           sqLog2 := fld sz 4 0, cqLog2 := fld sz 12 8, irq := d.reg Off.hifRingIrq, mod := d.reg Off.hifRingMod,
           policy := d.reg Off.hifRingPolicy, needsSettings := false }

/-- The staging registers take a ring's settings (R71). -/
def Dev.loadStaging (r : Ring) (d : Dev) : Dev :=
  let w := fun (p : Nat × Nat) (d : Dev) => d.setReg p.1 (BitVec.ofNat 32 p.2)
  [(Off.hifSqBaseLo, r.sqBase), (Off.hifSqBaseHi, r.sqBase / 2 ^ 32), (Off.hifCqBaseLo, r.cqBase), (Off.hifCqBaseHi, r.cqBase / 2 ^ 32),
   (Off.hifHwbAddrLo, r.hwbAddr), (Off.hifHwbAddrHi, r.hwbAddr / 2 ^ 32), (Off.hifRingSize, r.sqLog2 + 256 * r.cqLog2),
   (Off.hifRingIrq, r.irq.toNat), (Off.hifRingMod, r.mod.toNat), (Off.hifRingPolicy, r.policy.toNat)].foldl (fun d p => w p d) d

/-- A write of HIF_RING_SEL (R71, R90). -/
def ringSelW (v : Word) (d : Dev) : WOut :=
  let d1 := d.setReg Off.hifRingSel (v &&& 0x000F0FFF#32)
  let r := d1.ring d1.selSlice d1.selRing
  .took (if r.state = .absent then d1 else if r.needsSettings then d1.loadStaging { slice := 0, num := 0 } else d1.loadStaging r)

/-- Bits of a staging register (R6, R90). -/
def stagingMask (off : Nat) : Word :=
  if off = Off.hifRingSize then 0x1F1F#32 else if off = Off.hifRingIrq then 0x00FF07FF#32 else if off = Off.hifRingMod then 0x000103FF#32
  else if off = Off.hifRingPolicy then 0x003FFFFF#32 else 0xFFFFFFFF#32

/-- A write of a staging register (R72, R90): on a defined ring the three setting registers act at once, if CREATE would
take the values; the others are refused. The change is mirrored (R437). -/
def stagingW (c : Ctx) (off : Nat) (v : Word) (d : Dev) : WOut :=
  let x := v &&& stagingMask off
  let r := d.ring d.selSlice d.selRing
  let zero := off == Off.hifRingPolicy && fld x 19 0 == 0
  if r.state ≠ .absent ∧ r.needsSettings then .took (d.setReg off x)
  else if zero then .drop
  else if r.state = .absent then .took (d.setReg off x)
  else
    let n := if off = Off.hifRingIrq then { r with irq := x } else if off = Off.hifRingMod then { r with mod := x }
      else if off = Off.hifRingPolicy then { r with policy := x } else r
    if (off = Off.hifRingIrq ∨ off = Off.hifRingMod ∨ off = Off.hifRingPolicy) ∧ irqBad n.irq n.mod n.policy = false then
      .took (((d.setReg off x).updRing r.slice r.num (fun _ => n)).ringChanged c r.slice r.num .write)
    else .viol

/-! ### Ring commands (R66 to R70, R73, R74) -/

/-- The next generation, never 0 (R70). -/
def nextGen (g : Nat) : Nat := if 65535 ≤ g then 1 else g + 1

/-- The binding of a slice permits a ring (R46, R73). -/
def Dev.permits (d : Dev) (s n : Nat) : Bool :=
  let x := d.slice s
  (match x.state with | .unbound | .prepared | .restoring | .retaining => false | _ => true) && x.rings / 2 ^ n % 2 == 1

/-- DDR5 and the journal are usable (R577, R608). -/
def Dev.journalUsable (d : Dev) : Bool :=
  d.mem.ddrReady && d.reg64 Off.jnlBodyBaseLo != 0 && d.reg64 Off.ddtBaseLo != 0

/-- Why CREATE is refused, first in the order of R73. -/
def Dev.createFail (d : Dev) (r : Ring) : Option Nat :=
  if r.state ≠ .absent then some 2
  else if !d.permits r.slice r.num then some 1
  else match d.stagedFail with
    | some x => some x
    | none => if 16384 ≤ d.ringsDefined ∨ d.journalUsable = false then some 7 else none

/-- A ring returns to ABSENT and keeps its generation (R67, R70). -/
def Ring.absent (r : Ring) : Ring := { slice := r.slice, num := r.num, gen := r.gen }

/-- ENABLE and HOLD from PARKED or FAULT (R69): settings where they are needed; then the command stays in progress until
the head write-back word and the held entries are written (R74). DESIGN CHOICE (log entry 76): until then the ring is
HELD. -/
def Dev.ringResume (c : Ctx) (r : Ring) (dest : RingState) (d : Dev) : Option Nat × Dev :=
  let fail := if r.needsSettings then d.stagedFail else none
  match fail with
  | some x => (some x, d)
  | none =>
    let r1 := if r.needsSettings then d.takeStaged r else r
    let d1 := d.updRing r.slice r.num (fun _ => { r1 with state := .held, cause := 0, hwbSince := some c.now })
    let n := (d.jnl.owed.filter (fun o => o.slice == r.slice && o.ring == r.num)).length
    (none, { d1 with hif := { d1.hif with cmdBusy := some { slice := r.slice, num := r.num, dest := dest, left := n, took := r.needsSettings } } })

/-- The roles whose rings stay PARKED (R429). -/
def Role.parks : Role → Bool
  | .syncing | .standby | .fenced => true
  | _ => false

/-- A ring that goes from ACTIVE to HELD: what was fetched and not accepted is fetched again later. The last ring that the
flow table stalled ends that stall (R67, R150, R182). -/
def Dev.ringHold (s n : Nat) (d : Dev) : Dev :=
  let d1 := d.updRing s n (fun x => { x with state := .held, fetched := [], ddtStall := false, flowStall := false })
  if (d.ring s n).flowStall && !d1.hif.rings.any (fun x => x.flowStall) then d1.evtBit Off.dspEvt 2 else d1

/-- A ring command's effect and result; none while it is in progress (R67). DESIGN CHOICE (log entry 76): in a role whose
rings stay PARKED every command but an undefined one is refused with BAD_STATE (R429). -/
def Dev.ringDo (c : Ctx) (cmd : Nat) (d : Dev) : Option Nat × Dev :=
  let r := d.ring d.selSlice d.selRing
  let upd := fun (f : Ring → Ring) => d.updRing r.slice r.num f
  if cmd = 0 ∨ 4 < cmd then (some 5, d)
  else if d.fab.pair.role.parks then (some 2, d)
  else if cmd = 1 then
    match d.createFail r with
    | some x => (some x, d)
    | none => (some 0, upd (fun x => { d.takeStaged x.absent with state := .held, gen := nextGen r.gen }))
  else if cmd = 2 then
    match r.state with
    | .held => (some 0, upd (fun x => { x with state := .active }))
    | .parked | .fault => d.ringResume c r .active
    | _ => (some 2, d)
  else if cmd = 3 then
    match r.state with
    | .active => (some 0, d.ringHold r.slice r.num)
    | .parked | .fault => d.ringResume c r .held
    | _ => (some 2, d)
  else if r.state ≠ .held then (some 2, d)
  else if d.entriesOwed r.slice r.num ≠ 0 ∨ r.consumed ≠ r.posted then (some 6, d)
  else (some 0, upd Ring.absent)

/-- A write of HIF_RING_CMD (R74, R90): refused while a command is in progress; else the command takes effect, or is in
progress. -/
def ringCmdW (c : Ctx) (cmd : Nat) (d : Dev) : WOut :=
  if d.hif.cmdBusy.isSome || d.changing MirrorOf.isRing then .viol
  else match d.ringDo c cmd with
    | (some res, d1) => .took (d1.ringCmdEnd c d.selSlice d.selRing res)
    | (none, d1) => .took d1

def execRingCreate (s : State) : Host.Outcome State Fault Refusal :=
  s.onDev (fun c d => d.hostWrite c Off.hifRingCmd (ringCmdW c 1))
def execRingEnable (s : State) : Host.Outcome State Fault Refusal :=
  s.onDev (fun c d => d.hostWrite c Off.hifRingCmd (ringCmdW c 2))
def execRingHold (s : State) : Host.Outcome State Fault Refusal :=
  s.onDev (fun c d => d.hostWrite c Off.hifRingCmd (ringCmdW c 3))
def execRingDestroy (s : State) : Host.Outcome State Fault Refusal :=
  s.onDev (fun c d => d.hostWrite c Off.hifRingCmd (ringCmdW c 4))

/-- RING_SELECT: a write of HIF_RING_SEL. -/
def execRingSelect (value : Word) (s : State) : Host.Outcome State Fault Refusal :=
  s.onDev (fun c d => d.hostWrite c Off.hifRingSel (ringSelW value))

/-- The registers of R89 that a host writes. -/
def hifW (c : Ctx) (off : Nat) (v : Word) (d : Dev) : WOut :=
  if off = Off.hifRingSel then ringSelW v d
  else if off = Off.hifRingCmd then ringCmdW c (fld v 3 0) d
  else if Off.hifSqBaseLo ≤ off ∧ off ≤ Off.hifRingPolicy then stagingW c off v d
  else if off = Off.hifEvt then .took (d.setReg off (d.reg off &&& ~~~v))
  else if off = Off.hifEvtEn then .took (d.setReg off (v &&& 0x1F#32))
  else .drop

/-- RING_SETTINGS_WRITE: a write of HIF_RING_IRQ, HIF_RING_MOD or HIF_RING_POLICY (R72). -/
def execRingSettingsWrite (off : Nat) (value : Word) (s : State) : Host.Outcome State Fault Refusal :=
  s.onDev (fun c d =>
    if off = Off.hifRingIrq ∨ off = Off.hifRingMod ∨ off = Off.hifRingPolicy then d.hostWrite c off (stagingW c off value) else d)

end Sys2Proof.Machine
end

