-- ==== Sys2Proof/Machine/Recover.lean ====
section
/-! DEFINITION. What the management DRBG's instantiation brings (R106, R122, R576): the inline keys of DDR5, the hash keys of
the deduplication table, and the rest of a recovery that waited for them. -/

namespace Sys2Proof.Machine

/-- The entry of the table that a restored record gives (R121). -/
def recoveredEntry (now : Nat) (r : Rec) : Option DdtEntry :=
  let e : DdtEntry := { slice := r.slice, reqId := r.reqId, st := .awaiting, seq := r.seq, time := r.cst }
  let fin := { e with
    st := .done, status := r.status, doneAt := now,
    outcome := packW [(0, r.sub % 256), (8, b2n r.backlog), (9, b2n r.late), (13, r.resLen % 2 ^ 19)] }
  match r.st with
  | .awaiting => some e
  | .owed | .complete => some fin
  | _ => none

/-- The table is initialised empty with new keys, and the entries of the restored records go in (R121). -/
def Dev.recoverTable (c : Ctx) (d : Dev) : Dev :=
  (d.jnl.recs.filterMap (recoveredEntry c.now)).foldl (fun a e => (a.ddtInsert c e).getD a) (d.startDdt c)

/-- The rest of a recovery (R116, R120 to R122, R133, R647): the table, FLUSH_DONE cleared, RECOVERED; RETAINING slices wait from
here. -/
def Dev.finishRecovery (c : Ctx) (d : Dev) : Dev :=
  let d1 := d.recoverTable c
  ({ d1 with
    jnl := { d1.jnl with flushDone := false, recovering := false }
    slices := d1.slices.map (fun (s : Slice) => if s.state = SliceState.retaining then { s with since := c.now } else s) }).evtBit Off.jnlEvt 0

/-- Both inline keys are drawn, and DDR5 is usable (R575 to R577). A failed training leaves it unusable (R573). -/
def Dev.drawDdrKeys (c : Ctx) (d : Dev) : Dev :=
  if d.mem.ddrReady || d.mem.train == 3 || d.mem.train == 0 || !d.mgmtDrbg then d
  else
    let (x, d1) := d.mgmtBytes c 64
    let (k, d2) := d1.mgmtBytes c 32
    { d2 with mem := { d2.mem with ddrReady := true, xtsKey := x, macKey := k } }

end Sys2Proof.Machine
end

