-- ==== Sys2Proof/Machine/Rng.lean ====
section
/-! DEFINITION. Entropy block (R364 to R386): start-up, conditioned blocks, health failures, NO_RANDOMNESS, reseeds, raw
mode, and the registers of the block. -/

namespace Sys2Proof.Machine

/-! ### Sources and states -/

def Dev.source (d : Dev) (n : Nat) : Source := (d.rng.sources.find? (fun s => s.num == n)).getD { num := n }
def Dev.updSource (n : Nat) (f : Source → Source) (d : Dev) : Dev :=
  { d with rng := { d.rng with sources := updWhere (fun s => s.num == n) f d.rng.sources } }
def Dev.onRng (f : Rng → Rng) (d : Dev) : Dev := { d with rng := f d.rng }

/-! ### Health tests (R365, R366) -/

/-- One raw sample: the repetition count, the proportion window of 1,024, the estimators' 65,536. -/
def Source.sample (b : Bool) (s : Source) : Source :=
  let new := s.win == 0 || s.win == 1024
  { s with
    last := b, run := if s.run ≠ 0 ∧ s.last = b then s.run + 1 else 1
    winBit := if new then b else s.winBit, win := if new then 1 else s.win + 1
    winCnt := if new then 1 else s.winCnt + b2n (b == s.winBit), hist := (b :: s.hist).take 65536 }
/-- The test that the latest sample fails: cutoffs 61 and 840. -/
def Source.fault (s : Source) : Option HealthKind :=
  if 61 ≤ s.run then some .repetition else if 840 ≤ s.winCnt ∧ s.last = s.winBit then some .proportion else none
/-- A source after samples in order, and whether none of them failed a test. -/
def Source.feed (l : List Bool) (s : Source) : Source := l.foldl (fun x b => x.sample b) s
def Source.clean : List Bool → Source → Bool
  | [], _ => true
  | b :: t, s => (s.sample b).fault.isNone && Source.clean t (s.sample b)
/-- The last of the samples fails test `k`, and none before it fails one. -/
def Source.failsBy (k : HealthKind) (l : List Bool) (s : Source) : Bool :=
  !l.isEmpty && s.clean l.dropLast && (s.feed l).fault == some k

/-- Samples packed into bytes, the oldest in bit 0 of the first (log entry 86). -/
def packBits (l : List Bool) : Bytes :=
  mkBytes (ceilDiv l.length 8) (fun i => BitVec.ofNat 8 (((l.drop (8 * i)).take 8).foldr (fun b a => b2n b + 2 * a) 0))
/-- A conditioned block (R367). -/
def conditioned (l : List Bool) : Bytes := hashOf 5 (packBits l) 48

/-- The entropy block ends a RESTART (R385, R386). -/
def Dev.restartEnd (res : Nat) (d : Dev) : Dev :=
  if d.rng.cmdBusy then (d.onRng (fun r => { r with cmdBusy := false, cmdResult := res })).evtBit Off.rngEvt 5 else d

/-- The DRBGs stop (R377); a gated grove's stays uninstantiated. -/
def Rng.stopAll (r : Rng) : Rng :=
  { r with pool := [], drbgs := r.drbgs.map (fun (g : Drbg) => if g.state == .uninst then g else { g with state := .stopped }) }

/-- Stage 5 of start-up is reported complete (R376, R602). -/
def Dev.stage5Done (d : Dev) : Dev :=
  if d.pwr.stage = 5 then ({ d with pwr := { d.pwr with stage := 6 } }).evtBit Off.pwrEvt 2 else d

/-- NO_RANDOMNESS is entered (R378, R381): evidence, the alarm, the event, and the items that wait at step C. -/
def Dev.enterNoRandomness (c : Ctx) (cause src : Nat) (d : Dev) : Dev :=
  let d1 := d.onRng (fun r => { r.stopAll with state := .noRandomness, cause := cause, testsOk := false })
  let d2 := ((d1.evidence c Ev.noRandomness (toLe 1 cause ++ toLe 1 src)).alarm c 0x11).evtBit Off.rngEvt 2
  ((d2.restartEnd 2).stage5Done).stepC c (fun _ => true)

/-! ### Start-up (R374 to R376) -/

/-- OSC_SETTLED: 4 ms of settling end. -/
def oscSettledOp (_ : Ctx) (d : Dev) : Dev := if d.rng.state = .startup then d.onRng (fun r => { r with settled := true }) else d
def execOscSettled (s : State) : Host.Outcome State Fault Refusal := s.onDev oscSettledOp

/-- A start-up test that passes: 4,096 samples, and not one of them fails (R376). -/
def Source.passes (l : List Bool) (s : Source) : Bool := l.length == 4096 && s.clean l
/-- The source is in its first start-up test of a STARTUP. -/
def Source.starting (s : Source) : Bool := s.state == .startup && !s.reattach

/-- STARTUP_TESTS_PASS: every source has passed on its samples; from now on blocks count, unless a rerun is going on. -/
def startupTestsOp (samples : List (List Bool)) (_ : Ctx) (d : Dev) : Dev :=
  let r := d.rng
  let of := fun (s : Source) => samples.getD s.num []
  if (r.state == .startup || (r.state == .retest && r.retestFromStartup)) && r.settled
      && r.sources.all (fun s => !s.starting || s.passes (of s)) then
    d.onRng (fun r => { r with
      testsOk := r.testsOk || r.state == .startup,
      sources := r.sources.map (fun (s : Source) => if s.starting then { s.feed (of s) with state := .ok } else s) })
  else d
def execStartupTestsPass (s : State) (samples : List (List Bool) := []) : Host.Outcome State Fault Refusal := s.onDev (startupTestsOp samples)

/-- STARTUP_TIMEOUT: 200 ms of ST in STARTUP, or in a RETEST entered from it. -/
def startupTimeoutOp (c : Ctx) (d : Dev) : Dev :=
  let r := d.rng
  if (r.state == .startup || (r.state == .retest && r.retestFromStartup)) && decide (r.startSt + 200 * nsMs ≤ c.now) then
    d.enterNoRandomness c 1 0xFF
  else d
def execStartupTimeout (s : State) : Host.Outcome State Fault Refusal := s.onDev startupTimeoutOp

/-- KAT_FAILURE (R369). -/
def katFailureOp (c : Ctx) (d : Dev) : Dev :=
  match d.rng.state with
  | .startup | .running | .retest => d.enterNoRandomness c 3 0xFF
  | _ => d
def execKatFailure (s : State) : Host.Outcome State Fault Refusal := s.onDev katFailureOp

/-! ### Conditioned blocks (R367, R368, R370 to R374) -/

/-- The DRBG belongs to the management pair or to a grove that is not gated. -/
def Dev.drbgWanted (d : Dev) (n : Nat) : Bool := n == 12 || (d.grove n).state != .gated

/-- The DRBG serves nothing until a block comes (R373). -/
def Drbg.down (g : Drbg) : Bool := g.state == .uninst || g.state == .stopped

/-- The DRBG that the next block goes to: the management DRBG, those that can serve nothing, then reseeds by requests. -/
def Dev.blockFor (d : Dev) : Option Nat :=
  let m := d.drbg 12
  let wants := fun (g : Drbg) => !g.down && (g.wants || g.state == .starved)
  if m.down || wants m then some 12
  else match (List.range 12).find? (fun n => d.drbgWanted n && (d.drbg n).down) with
    | some n => some n
    | none =>
      let l := (List.range 12).filter (fun n => wants (d.drbg n))
      minBy (fun n => 2 ^ 32 - (d.drbg n).reqs) l

/-- Every DRBG that RUNNING asks for serves (R375). -/
def Dev.allServe (d : Dev) : Bool := (List.range 13).all (fun n => !d.drbgWanted n || !(d.drbg n).down)

/-- RUNNING is entered: the READY event, a RESTART ends, and a recovery that waited goes on (R122). -/
def Dev.enterRunning (c : Ctx) (d : Dev) : Dev :=
  let d1 := ((d.onRng (fun r => { r with state := .running, retestFromStartup := false })).evtBit Off.rngEvt 3).restartEnd 0
  if d1.jnl.recovering && d1.past 8 then (d1.drawDdrKeys c).finishRecovery c else d1.drawDdrKeys c

/-- What the management DRBG's instantiation brings (R376, R576). -/
def Dev.mgmtReady (c : Ctx) (d : Dev) : Dev :=
  if d.pwr.stage = 5 then (d.drawDdrKeys c).stage5Done else d

/-- A DRBG takes a block. -/
def Dev.giveBlock (c : Ctx) (n : Nat) (b : Bytes) (d : Dev) : Dev :=
  let g := d.drbg n
  let d1 := d.updDrbg n (if g.state = .uninst then Drbg.instantiate c.now b else Drbg.reseed c.now b)
  let d2 := if n < 12 ∧ g.state = .uninst then d1.updGrove n (fun x => { x with testsHeld := false }) else d1
  let d3 := if n = 12 then (d2.mgmtReady c).ddtKeysWait c else d2
  match d3.rng.state with
  | .startup | .retest => if d3.allServe then d3.enterRunning c else d3
  | _ => d3

/-- A block into the pool of 16: a full pool gives up its oldest (R368). -/
def Rng.poolBlock (b : Bytes) (r : Rng) : Rng := { r with pool := (r.pool ++ [b]).drop (r.pool.length - 15) }

/-- BLOCK_CONDITIONED: 1,024 samples of one source, which pass its tests. Their block goes to the DRBG whose turn it is, else into
the pool; while no block counts, the source only goes on sampling (R377). -/
def blockConditionedOp (src : Nat) (samples : List Bool) (c : Ctx) (d : Dev) : Dev :=
  let s := d.source src
  if s.state == .ok && samples.length == 1024 && s.clean samples then
    let d1 := d.updSource src (Source.feed samples)
    if d.rng.testsOk && (d.rng.state == .startup || d.rng.state == .running || d.rng.state == .retest) then
      match d1.blockFor with
      | some n => d1.giveBlock c n (conditioned samples)
      | none => d1.onRng (Rng.poolBlock (conditioned samples))
    else d1
  else d
def execBlockConditioned (source : Nat) (s : State) (samples : List Bool := []) : Host.Outcome State Fault Refusal :=
  s.onDev (blockConditionedOp source samples)

/-- The pool gives its blocks to the DRBGs that wait for one (R373). -/
def Dev.drainPool (c : Ctx) : Nat → Dev → Dev
  | 0, d => d
  | k + 1, d =>
    match d.rng.pool, d.blockFor with
    | b :: t, some n => Dev.drainPool c k ((d.onRng (fun r => { r with pool := t })).giveBlock c n b)
    | _, _ => d

/-- DRBG_RESEED_TIMER (R372): MAX_AGE ms of ST since the last reseed. -/
def drbgReseedTimerOp (n : Nat) (c : Ctx) (d : Dev) : Dev :=
  let g := d.drbg n
  let due := g.seedSt + fld (d.reg Off.rngReseedCtrl) 31 16 * nsMs
  if n < 13 && g.serves && !g.ageDue && d.mayFire c .reseed n then
    ((d.delayFire c due).updDrbg n (fun g => { g with ageDue := true })).drainPool c 16
  else d
def execDrbgReseedTimer (inst : Nat) (s : State) : Host.Outcome State Fault Refusal := s.onDev (drbgReseedTimerOp inst)

/-! ### Health failures (R365, R375, R377) -/

def healthCode : HealthKind → Nat
  | .repetition => 1 | .proportion => 2

/-- A health failure is counted and reported. -/
def Dev.noteHealth (c : Ctx) (src : Nat) (k : HealthKind) (d : Dev) : Dev :=
  ((d.updSource src (fun s => { s with lastFail := healthCode k, fails := s.fails + 1 })).evtBit Off.rngEvt 0).record c Trig.rngHealth
    (toLe 1 src ++ toLe 1 (healthCode k))

/-- Samples of a detached source go to the raw buffer of 4,096 (R383). -/
def Rng.rawPut (l : List Bool) (r : Rng) : Rng :=
  { r with raw := (r.raw ++ l).take 4096, rawOverflow := r.rawOverflow || decide (4096 < r.raw.length + l.length) }

/-- HEALTH_FAILURE of a source: the last of its samples fails a test. In raw mode it is reported and stops nothing (R383). -/
def healthFailureOp (src : Nat) (k : HealthKind) (samples : List Bool) (c : Ctx) (d0 : Dev) : Dev :=
  let s := d0.source src
  let r := d0.rng
  if 24 ≤ src ∨ s.state = .off ∨ s.state = .failed ∨ s.failsBy k samples = false then d0
  else
    let d := (d0.updSource src (Source.feed samples)).onRng (if s.state = .raw then Rng.rawPut samples else id)
    let noted := d.noteHealth c src k
    let stamped := noted.onRng (fun r => { r with failSt := d.stamp c, lastFail := some c.now })
    let failed := stamped.updSource src (fun s => { s with state := .failed })
    if s.state = .raw ∨ s.reattach then noted
    else match r.state with
      | .startup | .running =>
        if r.lastFail.any (fun t => decide (c.now < t + 60 * nsS)) then failed.enterNoRandomness c 2 src
        else (stamped.updSource src (fun s => { s.anew with state := .retest })).onRng (fun x =>
          { x.stopAll with state := .retest, retestSrc := src, retestFromStartup := r.state == .startup, testsOk := false })
      | .retest => failed.enterNoRandomness c 2 src
      | _ => stamped
def execHealthFailure (source : Nat) (kind : HealthKind) (s : State) (samples : List Bool := []) : Host.Outcome State Fault Refusal :=
  s.onDev (healthFailureOp source kind samples)

/-- RERUN_PASS: 4,096 fresh samples pass; blocks conditioned from now on restore the DRBGs (R375, R377). -/
def rerunPassOp (src : Nat) (samples : List Bool) (_ : Ctx) (d : Dev) : Dev :=
  if d.rng.state = .retest ∧ d.rng.retestSrc = src ∧ (d.source src).state = .retest ∧ (d.source src).passes samples then
    ((d.updSource src (fun s => { s.feed samples with state := .ok })).onRng (fun r => { r with testsOk := true })).evtBit Off.rngEvt 1
  else d
def execRerunPass (source : Nat) (s : State) (samples : List Bool := []) : Host.Outcome State Fault Refusal := s.onDev (rerunPassOp source samples)

/-! ### Commands and raw mode (R375, R383, R385, R386) -/

/-- A write of RNG_CTRL. -/
def rngCtrlW (c : Ctx) (v : Word) (d : Dev) : WOut :=
  if !bit v 0 then .took d
  else if d.rng.cmdBusy then .viol
  else if d.rng.state ≠ .noRandomness then .took ((d.onRng (fun r => { r with cmdResult := 1 })).evtBit Off.rngEvt 5)
  else .took ((d.rngErase.rngBegin c).onRng (fun r => { r with cmdBusy := true }))
def execRngRestart (s : State) : Host.Outcome State Fault Refusal :=
  s.onDev (fun c d => d.hostWrite c Off.rngCtrl (rngCtrlW c 1#32))

/-- Raw noise may be read in this life-cycle state (R383). -/
def Otp.rawAllowed (o : Otp) : Bool := o.testsAllowed

/-- The source leaves raw mode, and tests before it is attached again. -/
def Dev.rawLeave (d : Dev) : Dev :=
  let n := fld (d.reg Off.rngRawCtrl) 4 0
  if bit (d.reg Off.rngRawCtrl) 8 then
    d.updSource n (fun s => if s.state == .raw then { s.anew with state := .startup, reattach := true } else s)
  else d

/-- A write of RNG_RAW_CTRL. -/
def rawCtrlW (c : Ctx) (v : Word) (d : Dev) : WOut :=
  let n := fld v 4 0
  let old := d.reg Off.rngRawCtrl
  if !c.otp.rawAllowed then .viol
  else if 23 < n then .drop
  else
    let w := v &&& 0x11F#32
    if !bit v 8 then .took ((d.rawLeave.setReg Off.rngRawCtrl w).onRng (fun r => { r with rawOn := false }))
    else if bit old 8 ∧ fld old 4 0 = n then .took d
    else
      let d1 := ((d.rawLeave.setReg Off.rngRawCtrl w).onRng (fun r => { r with rawOn := true, raw := [], rawOverflow := false }))
      .took (d1.updSource n (fun s => if s.state == .off then s else { s with state := .raw, reattach := false }))
def execRawModeEnable (value : Word) (s : State) : Host.Outcome State Fault Refusal :=
  s.onDev (fun c d => d.hostWrite c Off.rngRawCtrl (rawCtrlW c (value ||| 0x100#32)))
def execRawModeDisable (value : Word) (s : State) : Host.Outcome State Fault Refusal :=
  s.onDev (fun c d => d.hostWrite c Off.rngRawCtrl (rawCtrlW c (value &&& 0xFFFFFEFF#32)))

/-- RAW_SOURCE_REATTACH. -/
def rawReattachOp (src : Nat) (samples : List Bool) (_ : Ctx) (d : Dev) : Dev :=
  if (d.source src).reattach && (d.source src).passes samples then
    d.updSource src (fun s => { s.feed samples with state := .ok, reattach := false })
  else d
def execRawSourceReattach (source : Nat) (s : State) (samples : List Bool := []) : Host.Outcome State Fault Refusal := s.onDev (rawReattachOp source samples)

/-- Samples that the detached source gave since the last look: into the buffer, and through the tests (R365, R383). -/
def Dev.rawFill (c : Ctx) (samples : List Bool) (d : Dev) : Dev :=
  let n := fld (d.reg Off.rngRawCtrl) 4 0
  if !d.rng.rawOn then d
  else
    let one := fun (a : Dev) (b : Bool) =>
      let a1 := a.updSource n (fun s => s.sample b)
      (a1.source n).fault.elim a1 (fun k => a1.noteHealth c n k)
    (samples.foldl one d).onRng (Rng.rawPut samples)

/-- A read of RNG_RAW_DATA: up to 32 samples, oldest in bit 0. -/
def Dev.rawTake (samples : List Bool) (c : Ctx) (d : Dev) : DWord × Dev :=
  if !c.otp.rawAllowed then (0, d)
  else
    let e := d.rawFill c samples
    let t := e.rng.raw.take 32
    (BitVec.ofNat 64 (t.foldr (fun b a => b2n b + 2 * a) 0), e.onRng (fun r => { r with raw := r.raw.drop 32 }))
def execRawDataRead (s : State) (samples : List Bool := []) : Host.Outcome State Fault Refusal :=
  s.onDev (fun c d => d.hostRead c Off.rngRawData (Dev.rawTake samples c))

/-- A write of RNG_RESEED_CTRL: a DRBG past a lowered limit is STARVED at once. -/
def reseedCtrlW (v : Word) (d : Dev) : WOut :=
  let lim := fld v 4 0
  let age := fld v 31 16
  if lim < 16 ∨ 20 < lim ∨ age < 1 ∨ 60000 < age then .drop
  else
    let d1 := d.setReg Off.rngReseedCtrl (v &&& 0xFFFF001F#32)
    let starved := fun (g : Drbg) => g.serves && decide (2 ^ lim ≤ g.reqs)
    let d2 := d1.onRng (fun r => { r with drbgs := updWhere starved (fun g => { g with state := .starved }) r.drbgs })
    .took (if d1.rng.drbgs.any starved then d2.evtBit Off.rngEvt 4 else d2)
def execReseedCtrlWrite (value : Word) (s : State) : Host.Outcome State Fault Refusal :=
  s.onDev (fun c d => d.hostWrite c Off.rngReseedCtrl (reseedCtrlW value))

/-- The registers of the block that a host writes. -/
def rngW (c : Ctx) (off : Nat) (v : Word) (d : Dev) : WOut :=
  if off = Off.rngCtrl then rngCtrlW c v d
  else if off = Off.rngReseedCtrl then reseedCtrlW v d
  else if off = Off.rngSrcSel then (if 23 < fld v 4 0 then .drop else .took (d.setReg off (v &&& 0x1F#32)))
  else if off = Off.rngDrbgSel then (if 12 < fld v 3 0 then .drop else .took (d.setReg off (v &&& 0xF#32)))
  else if off = Off.rngRawCtrl then rawCtrlW c v d
  else if off = Off.rngEvt then .took (d.setReg off (d.reg off &&& ~~~v))
  else if off = Off.rngEvtEn then .took (d.setReg off (v &&& 0x3F#32))
  else .drop

end Sys2Proof.Machine
end

