-- ==== Sys2Proof/Machine/Slice.lean ====
section
/-! DEFINITION. Slices and migration (R387 to R408, R646, R647): binding, the slice commands and what ends them, the state
image, and the registers of the block. -/

namespace Sys2Proof.Machine

/-- Result codes of HIF_SLICE_CMD_STAT (R407). -/
abbrev SlRes.badState : Nat := 1
abbrev SlRes.badParam : Nat := 2
abbrev SlRes.pasidInUse : Nat := 3
abbrev SlRes.tooSmall : Nat := 4
abbrev SlRes.noPeer : Nat := 5
abbrev SlRes.badTarget : Nat := 6
abbrev SlRes.badNonce : Nat := 7
abbrev SlRes.auth : Nat := 8
abbrev SlRes.domain : Nat := 9
abbrev SlRes.noResource : Nat := 10
abbrev SlRes.tableFull : Nat := 11
abbrev SlRes.noEntropy : Nat := 12
abbrev SlRes.superseded : Nat := 13

/-- A command of a slice completes: BUSY clears, the result stands, CMD_DONE is set; one that did something is mirrored
first (R437). -/
def Dev.sliceEnd (c : Ctx) (n res : Nat) (d : Dev) : Dev :=
  let d1 := d.updSlice n (fun x => { x with cmd := none, squash := false, pendingResult := 0, image := [], result := res })
  if res = 0 then d1.sliceChanged c n (.slice n) else d1.evtBit Off.hifSliceEvt 0

/-! ### Binding (R387, R388, R406) -/

/-- PASID and NO_PASID as staged, and the two fields of HIF_SLICE_CFG that an image replaces. -/
def Dev.stagedPasid (d : Dev) : Nat := fld (d.reg Off.hifSlicePasid) 19 0
def Dev.stagedNoPasid (d : Dev) : Bool := bit (d.reg Off.hifSlicePasid) 31
def Dev.stagedDomain (d : Dev) : Nat := fld (d.reg Off.hifSliceCfg) 9 0

/-- Another slice that is not UNBOUND holds the staged PASID, or is the one without. -/
def Dev.pasidTaken (d : Dev) (n : Nat) : Bool :=
  d.slices.any (fun x => x.num != n && x.state != .unbound && x.noPasid == d.stagedNoPasid && (x.noPasid || x.pasid == d.stagedPasid))

/-- BIND. -/
def Dev.bind (c : Ctx) (n : Nat) (d : Dev) : Dev :=
  let cfg := d.reg Off.hifSliceCfg
  if (d.slice n).state ≠ .unbound then d.sliceEnd c n SlRes.badState
  else if d.pasidTaken n then d.sliceEnd c n SlRes.pasidInUse
  else (d.updSlice n (fun x => { x with
    state := .bound, pasid := d.stagedPasid, noPasid := d.stagedNoPasid, domain := d.stagedDomain, rings := fld (d.reg Off.hifSliceRings) 15 0,
    weight := fld cfg 23 16, expiry := fld cfg 25 24, effWeight := fld cfg 23 16, effExpiry := fld cfg 25 24 })).sliceEnd c n 0

/-! ### Stopping (R391 to R394) -/

/-- Items of a slice that SQUASH completes: not started, or an unresolved RING_BARRIER or RELEASE_AT. -/
def Item.squashable (s : Nat) (i : Item) : Bool :=
  i.slice == s && i.spillFrom.isNone && i.mark.isNone
    && ((!i.started && (i.ds == .held || i.ds == .pending || i.ds == .placed))
      || (i.waitingControl && (Desc.op i.desc == 1 || Desc.op i.desc == 3)))

/-- The mode DRAIN: instances that are not complete in arrivals dissolve at once. -/
def Dev.drainStart (c : Ctx) (n : Nat) (d : Dev) : Dev :=
  (d.hif.barriers.filter (fun b => b.slice == n && !b.resolved && !b.arrived)).foldl (fun a b => a.dissolve c b) d

/-- The mode SQUASH, for the records that it completes. -/
def Dev.squashAll (c : Ctx) (n : Nat) (d : Dev) : Dev :=
  let sub := (d.squashing n).getD 0
  let d1 := (d.dsp.items.filter (fun i => i.squashable n && d.acked i.slot)).foldl (fun a i => a.finishNow c i.slot 2 sub) (d.drainStart c n)
  (d1.jnl.recs.filter (fun r => r.st == .awaiting && r.slice == n)).foldl (fun a r => a.toOwed c r.slot 2 sub 0) d1

/-- FREEZE, RESET or REMOVE begins: the slice accepts nothing, and what was fetched is left in the host rings. -/
def Dev.stop (c : Ctx) (n : Nat) (cmd : SliceCmd) (squash : Bool) (d : Dev) : Dev :=
  let d1 := d.updSlice n (fun x => { x with state := .draining, prev := x.state, cmd := some cmd, squash := squash })
  let d2 := { d1 with hif := { d1.hif with rings := updWhere (fun r => r.slice == n) (fun (r : Ring) => { r with fetched := [], ddtStall := false, flowStall := false }) d1.hif.rings } }
  if squash then d2.squashAll c n else d2.drainStart c n

/-- A stopping command in its listed states; written again with SQUASH while it drains, it squashes (R390, R393). -/
def Dev.stopCmd (c : Ctx) (n : Nat) (cmd : SliceCmd) (squash : Bool) (d : Dev) : WOut :=
  let x := d.slice n
  let ok : Bool := match cmd with
    | .freeze => x.state == .bound
    | .reset => x.state == .bound || x.state == .frozen
    | _ => x.state == .bound || x.state == .frozen || x.state == .saved
  if x.cmd = some cmd ∧ x.squash = false ∧ squash = true ∧ x.state = .draining then
    .took ((d.updSlice n (fun x => { x with squash := true })).squashAll c n)
  else if x.cmd.isSome || d.changing (fun w => w == .slice n) then .viol
  else if ok then .took (d.stop c n cmd squash)
  else .took (d.sliceEnd c n SlRes.badState)

/-- The rings of a slice are destroyed (R394): held entries are discarded, generations kept. -/
def Dev.destroyRings (n : Nat) (d : Dev) : Dev :=
  let mine := (d.jnl.owed.filter (fun o => o.slice == n)).map (fun o => o.slot)
  let d1 := mine.foldl (fun a k => a.discardEntry k) d
  let d2 := { d1 with
    hif := { d1.hif with rings := updWhere (fun r => r.slice == n) Ring.absent d1.hif.rings, barriers := d1.hif.barriers.filter (fun b => b.slice != n) }
    jnl := { d1.jnl with mirrorWait := d1.jnl.mirrorWait.filter (fun w => w.slice != n) } }
  d2.mirroring (fun (x : Dev) => (x.hif.rings.filter (fun r => r.slice == n)).foldl (fun (a : Dev) r => a.sendRing n r.num) x)

/-- The drain is over: no record left to execute, and nothing owed on a ring able to post (R393). -/
def Dev.drained (d : Dev) (n : Nat) : Bool :=
  !d.jnl.recs.any (fun r => r.slice == n && (r.st == .accepted || r.st == .inService || r.st == .awaiting
    || ((r.st == .owed || r.st == .replay) && (d.ring n r.ring).posts)))

/-- SLICE_DRAIN_DONE. A supply warning holds the command (R395). -/
def sliceDrainOp (n : Nat) (c : Ctx) (d : Dev) : Dev :=
  let x := d.slice n
  if x.state ≠ .draining ∨ d.warning = true ∨ d.drained n = false then d
  else match x.cmd with
    | some .freeze => (d.updSlice n (fun x => { x with state := .frozen })).sliceEnd c n 0
    | some .reset => ((d.destroyRings n).updSlice n (fun x => { x with state := .bound })).sliceEnd c n 0
    | some .remove => ((d.destroyRings n).updSlice n (fun x => { x with state := .retaining, since := c.now })).sliceEnd c n 0
    | _ => d

def execSliceDrainDone (slice : Nat) (s : State) : Host.Outcome State Fault Refusal := s.onDev (sliceDrainOp slice)

/-- A slice number is free again. -/
def Slice.unbind (x : Slice) : Slice := { num := x.num, result := x.result }

/-- RETAIN_ELAPSED (R107, R390). -/
def retainElapsedOp (n : Nat) (c : Ctx) (d : Dev) : Dev :=
  if (d.slice n).state = .retaining ∧ (d.slice n).since + d.ddtRetain ≤ c.now then (d.updSlice n Slice.unbind).mirroring (Dev.sendSlice n) else d

def execRetainElapsed (slice : Nat) (s : State) : Host.Outcome State Fault Refusal := s.onDev (retainElapsedOp slice)

/-! ### Migration: PREPARE and the image key (R396 to R398) -/

/-- PREPARE. -/
def Dev.prepare (c : Ctx) (n : Nat) (d : Dev) : Dev :=
  if (d.slice n).state ≠ .unbound then d.sliceEnd c n SlRes.badState
  else if !d.mgmtDrbg then d.sliceEnd c n SlRes.noEntropy
  else
    let (v, d1) := d.mgmtNonce c
    ((d1.updSlice n (fun x => { x with
      state := .prepared, pasid := d.stagedPasid, noPasid := d.stagedNoPasid, domain := d.stagedDomain, nonce := v, nonceSt := c.now })).setReg64
        Off.hifMigNonceLo v.toNat).sliceEnd c n 0

/-- PREPARE_EXPIRY: 60 s of ST after PREPARE without RESTORE (R390). -/
def prepareExpiryOp (n : Nat) (c : Ctx) (d : Dev) : Dev :=
  if (d.slice n).state = .prepared ∧ (d.slice n).nonceSt + 60 * nsS ≤ c.now then (d.updSlice n Slice.unbind).evtBit Off.hifSliceEvt 1 else d

def execPrepareExpiry (slice : Nat) (s : State) : Host.Outcome State Fault Refusal := s.onDev (prepareExpiryOp slice)

/-- The AES-256 key of usage K0 that HIF_MIG_KEY names in a domain. -/
def Dev.migKey (o : Otp) (dom : Nat) (d : Dev) : Option Bytes :=
  let h := d.reg64 Off.hifMigKeyLo
  if h = 0 ∨ hDom h ≠ dom ∨ hSlot h = 0 ∨ 0xFFFD < hSlot h ∨ d.locked = true then none
  else match d.loadKey o h [] with
    | .hit r => if r.attr.alg = 0x13 ∧ r.attr.usage = 0x4B30 then some r.mat else none
    | _ => none

/-- The key input of the FABRIC method after the extraction of R226: both devices agree on it in one exchange, which the
model takes as a function of the two units and the nonce. -/
def fabricInput (src tgt nonce : Bytes) : Bytes := hmac 2 (zeros 48) (mkBytes 48 (Config.fabricSecByte src tgt nonce)) 48

/-- The image key (R398). -/
def lblMigrate : Bytes := asciiBytes "DYZHATIK MIGRATE 1"
def imageKey (input src tgt nonce : Bytes) : Bytes := kdf256 input lblMigrate (src ++ tgt ++ nonce) 32

/-! ### The state image (R399) -/

/-- Chain instances of a slice, 4 bytes each. -/
def Dev.imageChains (d : Dev) (n : Nat) : List Bytes :=
  (List.range 16).flatMap (fun r => (d.ring n r).chains.map (fun k => toLe 1 r ++ toLe 1 k.gid ++ toLe 1 (k.members.length + k.earlier) ++ zeros 1))

/-- The DONE entries of a slice that a lookup does not treat as absent, in the order of the scan; the remaining retention
in whole ms (R400). -/
def Dev.imageEntries (c : Ctx) (d : Dev) (n : Nat) : List Bytes :=
  (d.ddt.entries.filter (fun e => e.slice == n && e.st == .done && !d.ddtAbsent c.now e)).map (fun e =>
    toLe 8 e.reqId.toNat ++ toLe 1 e.status ++ zeros 1 ++ toLe 2 ((e.doneAt + e.retain.getD d.ddtRetain - c.now) / nsMs) ++ toLe 4 e.outcome.toNat
      ++ toLe 8 e.seq ++ toLe 8 e.time.toNat)

/-- What SAVE keeps of the registers at its write: address, length, method, target unit ID, nonce, key input. -/
def saveParams (addr len method : Nat) (uid nonce input : Bytes) : Bytes :=
  toLe 8 addr ++ toLe 4 len ++ toLe 2 method ++ uid ++ nonce ++ input

/-- Length of an image with c chain instances, k references and e entries. -/
def imageLen (c k e : Nat) : Nat := 1168 + 4 * c + 8 * k + 32 * e

/-- The header of an image. -/
def Dev.imageHead (c : Ctx) (d : Dev) (x : Slice) (method : Nat) (uid nonce : Bytes) (nc nk ne : Nat) : Bytes :=
  padTo 128 (toLe 2 1 ++ toLe 2 method ++ zeros 4 ++ unitIdBytes ++ uid ++ nonce ++ toLe 2 x.num ++ toLe 2 x.domain ++ toLe 2 x.rings ++ toLe 1 x.weight
    ++ toLe 1 x.expiry ++ toLe 2 nc ++ toLe 2 nk ++ toLe 4 ne ++ toLe 8 (d.stamp c).toNat ++ toLe 8 (imageLen nc nk ne))

/-- The image of a slice and its length: header, sealed body, tag. -/
def Dev.image (c : Ctx) (d : Dev) (x : Slice) : Nat × Bytes :=
  let p := x.image
  let uid := bsub p 14 16
  let nonce := bsub p 30 8
  let ch := d.imageChains x.num
  let ks := x.keyRefs
  let es := d.imageEntries c x.num
  let h := d.imageHead c x (le p 12 2) uid nonce ch.length ks.length es.length
  let body := (List.range 16).flatMap (fun r => (d.ring x.num r).image) ++ ch.flatten ++ ks.flatMap (fun k => toLe 8 k.toNat) ++ es.flatten
  let e := gcmSeal (imageKey (p.drop 38) unitIdBytes uid nonce) (zeros 12) h body
  (imageLen ch.length ks.length es.length, h ++ e.1 ++ e.2)

/-- A ring of the slice keeps SAVE away: it holds entries, or needs settings (R399). -/
def Dev.saveBlocked (d : Dev) (n : Nat) : Bool :=
  d.jnl.recs.any (fun r => r.slice == n && (r.st == .owed || r.st == .replay)) || d.hif.rings.any (fun r => r.slice == n && r.state != .absent && r.needsSettings)

/-- The unit of the node that HIF_MIG_CTRL.PEER names: the device itself, or a node that discovery holds live (R397, R401). -/
def Dev.migPeer (d : Dev) : Option Nat :=
  let n := fld (d.reg Off.hifMigCtrl) 25 16
  if !d.fabOn then none
  else if n = d.nodeId then some Config.unitId.toNat
  else (d.fab.nodes.find? (fun x => x.num == n && x.live)).map (fun x => x.unit)

/-- Why SAVE fails before it reads anything, or its key input (R397). -/
def Dev.saveInput (c : Ctx) (d : Dev) (x : Slice) (peer : PeerAnswer) (uid nonce : Bytes) : Except Nat Bytes :=
  let m := fld (d.reg Off.hifMigCtrl) 1 0
  if m = 1 then
    if !d.mgmtDrbg then .error SlRes.noEntropy
    else match d.migPeer with
      | none => .error SlRes.noPeer
      | some u =>
        if !peer.reachable || !peer.certOk then .error SlRes.noPeer
        else if u ≠ le uid 0 16 then .error SlRes.badTarget
        else .ok (fabricInput unitIdBytes uid nonce)
  else if m = 2 then (match d.migKey c.otp x.domain with | some k => .ok k | none => .error SlRes.auth)
  else .error SlRes.badParam

/-- SAVE: agreed, the slice is SAVING and the scan begins; a response in force has superseded it (R400). -/
def Dev.save (c : Ctx) (n : Nat) (peer : PeerAnswer) (d : Dev) : Dev :=
  let x := d.slice n
  let uid := (List.range 4).flatMap (fun i => toLe 4 (d.reg (Off.hifMigTargetUid + 4 * i)).toNat)
  let nonce := toLe 8 (d.reg64 Off.hifMigNonceLo)
  if (x.state ≠ .frozen ∧ x.state ≠ .saved) ∨ d.saveBlocked n = true then d.sliceEnd c n SlRes.badState
  else if d.locked then d.sliceEnd c n SlRes.superseded
  else match d.saveInput c x peer uid nonce with
    | .error r => d.sliceEnd c n r
    | .ok k =>
      let d1 := if fld (d.reg Off.hifMigCtrl) 1 0 = 1 then d.useDrbg c 12 64 else d
      d1.updSlice n (fun y => { y with
        state := .saving, prev := y.state, cmd := some .save,
        image := saveParams (d.reg64 Off.hifMigAddrLo) (d.reg Off.hifMigLen).toNat (fld (d.reg Off.hifMigCtrl) 1 0) uid nonce k })

/-- SAVE_DONE (R400): the image is written, or it is longer than its buffer. A supply warning stops the writes. -/
def saveDoneOp (n : Nat) (c : Ctx) (d : Dev) : Dev :=
  let x := d.slice n
  if x.state = .saving ∧ d.warning = false then
    let (len, b) := d.image c x
    if le x.image 8 4 < len then
      ((d.setReg Off.hifMigNeed (BitVec.ofNat 32 len)).updSlice n (fun y => { y with state := y.prev })).sliceEnd c n SlRes.tooSmall
    else ((d.emit (.dma (BitVec.ofNat 64 (le x.image 0 8)) b)).updSlice n (fun y => { y with state := .saved })).sliceEnd c n 0
  else d

def execSaveDone (slice : Nat) (s : State) : Host.Outcome State Fault Refusal := s.onDev (saveDoneOp slice)

/-! ### RESTORE (R402 to R405) -/

/-- The fields of an image header. -/
def imgChains (b : Bytes) : Nat := le b 56 2
def imgRefs (b : Bytes) : Nat := le b 58 2
def imgEntries (b : Bytes) : Nat := le b 60 4

/-- The key of an image, where its key input is available by its method (R397, R398). -/
def Dev.imageKeyOf (c : Ctx) (d : Dev) (x : Slice) (b : Bytes) : Option Bytes :=
  let src := bsub b 8 16
  let tgt := bsub b 24 16
  let nonce := bsub b 40 8
  let input := if le b 2 2 = 1 then some (fabricInput src tgt nonce) else if le b 2 2 = 2 then d.migKey c.otp x.domain else none
  input.map (fun i => imageKey i src tgt nonce)
/-- The body of an image in the clear, where the tag verifies (R398). -/
def Dev.openBody (c : Ctx) (d : Dev) (x : Slice) (b : Bytes) : Option Bytes :=
  let n := le b 72 8 - 144
  match d.imageKeyOf c x b with
  | none => none
  | some k =>
    let pt := ctrMode k (ctrInc 32 (gcmJ0 (zeros 12)) 1) 32 (bsub b 128 n)
    if (gcmSeal k (zeros 12) (b.take 128) pt).2 = bsub b (128 + n) 16 then some pt else none

/-- The first of checks 1 to 5 that fails. -/
def Dev.restoreFail (c : Ctx) (d : Dev) (x : Slice) (r : DmaRead) : Option Nat :=
  let b := r.data
  let len := (d.reg Off.hifMigLen).toNat
  let form := !r.refused && !r.failed && decide (128 ≤ b.length) && le b 0 2 == 1 && le b 72 8 == len && decide (len ≤ b.length)
    && len == imageLen (imgChains b) (imgRefs b) (imgEntries b) && le b 4 4 == 0 && allZero (bsub b 80 48)
  if !form then some SlRes.badParam
  else if !unitIdIs b 24 then some SlRes.badTarget
  else if le b 40 8 ≠ x.nonce.toNat ∨ x.nonceSt + 60 * nsS < c.now then some SlRes.badNonce
  else if (d.openBody c x b).isNone then some SlRes.auth
  else if fld (BitVec.ofNat 32 (le b 50 2)) 9 0 ≠ x.domain then some SlRes.domain
  else none

/-- The image with its body in the clear. -/
def Dev.openImage (c : Ctx) (d : Dev) (x : Slice) (b : Bytes) : Bytes := b.take 128 ++ (d.openBody c x b).getD []

/-- RESTORE: the image is read and checked. -/
def Dev.restore (c : Ctx) (n : Nat) (r : DmaRead) (d : Dev) : Dev :=
  let x := d.slice n
  if x.state ≠ .prepared then d.sliceEnd c n SlRes.badState
  else
    let f := d.restoreFail c x r
    d.updSlice n (fun y => { y with
      state := .restoring, prev := .unbound, cmd := some .restore, nonce := 0, pendingResult := f.getD 0,
      image := if f.isNone then d.openImage c x r.data else [] })

/-- The ring of an image's entry. -/
def imageRing (n : Nat) (b : Bytes) : Option Ring :=
  if byteAt b 0 < 128 then none
  else some { slice := n, num := byteAt b 0 % 16, state := .parked, gen := le b 2 2, accepted := BitVec.ofNat 32 (le b 4 4), posted := BitVec.ofNat 32 (le b 8 4),
              consumed := BitVec.ofNat 32 (le b 12 4), tail := BitVec.ofNat 32 (le b 16 4), sqLog2 := byteAt b 20, cqLog2 := byteAt b 21, sqBase := le b 24 8,
              cqBase := le b 32 8, hwbAddr := le b 40 8, irq := BitVec.ofNat 32 (le b 48 4), mod := BitVec.ofNat 32 (le b 52 4), policy := BitVec.ofNat 32 (le b 56 4) }

def imageRings (n : Nat) (b : Bytes) : List Ring := (List.range 16).filterMap (fun i => imageRing n (bsub b (128 + 64 * i) 64))

/-- A deduplication entry of an image, its retention counted from the insertion (R403). -/
def imageEntry (now n : Nat) (b : Bytes) : DdtEntry :=
  { slice := n, reqId := BitVec.ofNat 64 (le b 0 8), st := .done, status := byteAt b 8, outcome := BitVec.ofNat 32 (le b 12 4), seq := le b 16 8,
    time := BitVec.ofNat 64 (le b 24 8), doneAt := now, retain := some (le b 10 2 * nsMs) }

def imageDdt (now n : Nat) (b : Bytes) : List DdtEntry :=
  let at0 := 1152 + 4 * imgChains b + 8 * imgRefs b
  (List.range (imgEntries b)).map (fun i => imageEntry now n (bsub b (at0 + 32 * i) 32))

/-- Every entry goes in, or none stays (R402). -/
def Dev.insertAll (c : Ctx) : List DdtEntry → Dev → Option Dev
  | [], d => some d
  | e :: t, d => if !d.ddt.ready then none else match d.ddtInsert c e with
    | none => none
    | some d1 => Dev.insertAll c t d1

/-- A key load of a reference that resolves: the least loaded grove in service takes the entry, unpinned (R403). -/
def Dev.prefetch (c : Ctx) (h : Nat) (d : Dev) : Dev :=
  match d.loadKey c.otp h [] with
  | .hit r =>
    let load := fun (g : Nat) => d.dsp.loads.getD g 0
    let gs := (List.range 12).filter (fun g => d.candBase g false)
    match minBy (fun g => load g * 12 + (g + 11 - d.dsp.rr) % 12) gs with
    | none => d
    | some g => match d.key.insert g 32768 (fun j => Config.rndByte d.rng.ctr (0x30000 + j)) r with
      | some k => { d.draw with key := k.unpin 32768, dsp := { d.dsp with rr := g } }
      | none => d
  | _ => d

/-- The slice after a successful RESTORE: its binding, rings, chain instances. -/
def Dev.bindImage (n : Nat) (b : Bytes) (d : Dev) : Dev :=
  let chain := fun (i : Nat) => bsub b (1152 + 4 * i) 4
  let put := fun (a : Dev) (k : Bytes) => a.updRing n (byteAt k 0 % 16) (fun r => { r with chains := r.chains ++ [{ gid := byteAt k 1, members := [], earlier := byteAt k 2 }] })
  let refs := (List.range (imgRefs b)).map (fun i => (BitVec.ofNat 64 (le b (1152 + 4 * imgChains b + 8 * i) 8) : DWord))
  let d1 := (imageRings n b).foldl (fun (a : Dev) r => a.updRing n r.num (fun _ => r)) d
  let d2 := ((List.range (imgChains b)).map chain).foldl put d1
  d2.updSlice n (fun x => { x with
    state := .bound, rings := le b 52 2, weight := byteAt b 54, expiry := byteAt b 55, effWeight := byteAt b 54, effExpiry := byteAt b 55,
    origin := some (le b 48 2 % 4096), keyRefs := refs })

/-- RESTORE_DONE: checks 6 and 7, and everything that a success does. -/
def restoreDoneOp (n : Nat) (c : Ctx) (d : Dev) : Dev :=
  let x := d.slice n
  let b := x.image
  let fail := fun (res : Nat) => (d.updSlice n Slice.unbind).sliceEnd c n res
  if x.state ≠ .restoring then d
  else if x.pendingResult ≠ 0 then fail x.pendingResult
  else if 16384 < d.ringsDefined + (imageRings n b).length then fail SlRes.noResource
  else match d.insertAll c (imageDdt c.now n b) with
    | none => fail SlRes.tableFull
    | some d1 =>
      let d1b := (d1.bindImage n b).mirroring (fun (x : Dev) => (imageRings n b).foldl (fun (a : Dev) r => a.sendRing n r.num) x)
      let d2 := d1b.sliceEnd c n 0
      (d2.slice n).keyRefs.foldl (fun a h => a.prefetch c h.toNat) d2

def execRestoreDone (slice : Nat) (s : State) : Host.Outcome State Fault Refusal := s.onDev (restoreDoneOp slice)

/-! ### Registers (R406 to R408) -/

/-- What a slice command needs beside the registers: the peer's answer, the image. -/
structure SliceExt where
  peer  : PeerAnswer := {}
  image : DmaRead := {}
deriving DecidableEq, Repr

/-- A write of HIF_SLICE_CMD. SAVE and RESTORE act only with what they read from outside (log entry 3). -/
def sliceCmdW (c : Ctx) (v : Word) (ext : Option SliceExt) (d : Dev) : WOut :=
  let n := d.migSlice
  let x := d.slice n
  let cmd := fld v 3 0
  if cmd = 2 then d.stopCmd c n .freeze (bit v 4)
  else if cmd = 4 then d.stopCmd c n .reset (bit v 4)
  else if cmd = 5 then d.stopCmd c n .remove (bit v 4)
  else if x.cmd.isSome || d.changing (fun w => w == .slice n) then .viol
  else if cmd = 1 then .took (d.bind c n)
  else if cmd = 3 then
    .took (if x.state = .frozen then (d.updSlice n (fun x => { x with state := .bound })).sliceEnd c n 0 else d.sliceEnd c n SlRes.badState)
  else if cmd = 6 then (match ext with | some e => .took (d.save c n e.peer) | none => .drop)
  else if cmd = 7 then .took (d.prepare c n)
  else if cmd = 8 then (match ext with | some e => .took (d.restore c n e.image) | none => .drop)
  else .took (d.sliceEnd c n SlRes.badParam)

def execSliceBind (s : State) : Host.Outcome State Fault Refusal :=
  s.onDev (fun c d => d.hostWrite c Off.hifSliceCmd (sliceCmdW c 1#32 none))
def execSliceFreeze (squash : Bool) (s : State) : Host.Outcome State Fault Refusal :=
  s.onDev (fun c d => d.hostWrite c Off.hifSliceCmd (sliceCmdW c (packW [(0, 2), (4, b2n squash)]) none))
def execSliceThaw (s : State) : Host.Outcome State Fault Refusal :=
  s.onDev (fun c d => d.hostWrite c Off.hifSliceCmd (sliceCmdW c 3#32 none))
def execSliceReset (squash : Bool) (s : State) : Host.Outcome State Fault Refusal :=
  s.onDev (fun c d => d.hostWrite c Off.hifSliceCmd (sliceCmdW c (packW [(0, 4), (4, b2n squash)]) none))
def execSliceRemove (squash : Bool) (s : State) : Host.Outcome State Fault Refusal :=
  s.onDev (fun c d => d.hostWrite c Off.hifSliceCmd (sliceCmdW c (packW [(0, 5), (4, b2n squash)]) none))
def execSliceSave (peer : PeerAnswer) (s : State) : Host.Outcome State Fault Refusal :=
  s.onDev (fun c d => d.hostWrite c Off.hifSliceCmd (sliceCmdW c 6#32 (some { peer := peer })))
def execSlicePrepare (s : State) : Host.Outcome State Fault Refusal :=
  s.onDev (fun c d => d.hostWrite c Off.hifSliceCmd (sliceCmdW c 7#32 none))
def execSliceRestore (image : Bytes) (read : DmaEnd) (s : State) : Host.Outcome State Fault Refusal :=
  s.onDev (fun c d => d.hostWrite c Off.hifSliceCmd (sliceCmdW c 8#32 (some { image := dmaRead image read })))

/-- A slice that has a binding, and one that holds what PREPARE staged. -/
def SliceState.hasBinding : SliceState → Bool
  | .bound | .draining | .frozen | .saving | .saved => true
  | _ => false
def SliceState.staged : SliceState → Bool
  | .prepared | .restoring => true
  | _ => false

/-- A write of HIF_SLICE_SEL loads the staging registers (R406). -/
def sliceSelW (v : Word) (d : Dev) : WOut :=
  let d1 := d.setReg Off.hifSliceSel (v &&& 0xFFF#32)
  let x := d1.slice d1.migSlice
  let put := fun (p cfg rings : Word) => WOut.took (((d1.setReg Off.hifSlicePasid p).setReg Off.hifSliceCfg cfg).setReg Off.hifSliceRings rings)
  let pas := packW [(0, x.pasid), (31, b2n x.noPasid)]
  if x.state.hasBinding then put pas (packW [(0, x.domain), (16, x.weight), (24, x.expiry)]) (BitVec.ofNat 32 x.rings)
  else if x.state.staged then put pas (packW [(0, x.domain), (16, 1), (24, 1)]) 0#32
  else put (regReset Off.hifSlicePasid) (regReset Off.hifSliceCfg) (regReset Off.hifSliceRings)

/-- SLICE_SELECT: a write of HIF_SLICE_SEL. -/
def execSliceSelect (value : Word) (s : State) : Host.Outcome State Fault Refusal :=
  s.onDev (fun c d => d.hostWrite c Off.hifSliceSel (sliceSelW value))

/-- A write of HIF_SLICE_PASID, HIF_SLICE_CFG or HIF_SLICE_RINGS (R408). -/
def sliceCfgW (c : Ctx) (off : Nat) (v : Word) (d : Dev) : WOut :=
  let x := d.slice d.migSlice
  let held := x.state.hasBinding || x.state.staged
  if off = Off.hifSlicePasid then
    let w := v &&& 0x800FFFFF#32
    let cur := if held then packW [(0, x.pasid), (31, b2n x.noPasid)] else d.reg off
    if x.state ≠ .unbound ∧ w ≠ cur then .viol else .took (d.setReg off w)
  else if off = Off.hifSliceCfg then
    let w := v &&& 0x03FF03FF#32
    let cur := if held then x.domain else d.stagedDomain
    if fld w 23 16 = 0 ∨ fld w 25 24 = 0 ∨ fld w 25 24 = 3 then .drop
    else if x.state ≠ .unbound ∧ fld w 9 0 ≠ cur then .viol
    else
      let d1 := d.setReg off w
      .took (if x.state.hasBinding then (d1.updSlice x.num (fun y => { y with weight := fld w 23 16, expiry := fld w 25 24 })).sliceChanged c x.num .write else d1)
  else
    let m := fld v 15 0
    if d.hif.rings.any (fun r => r.slice == x.num && r.state != .absent && m / 2 ^ r.num % 2 == 0) then .drop
    else
      let d1 := d.setReg off (v &&& 0xFFFF#32)
      .took (if x.state.hasBinding then (d1.updSlice x.num (fun y => { y with rings := m })).sliceChanged c x.num .write else d1)

/-- SLICE_CFG_WRITE. -/
def execSliceCfgWrite (off : Nat) (value : Word) (s : State) : Host.Outcome State Fault Refusal :=
  s.onDev (fun c d =>
    if off = Off.hifSlicePasid ∨ off = Off.hifSliceCfg ∨ off = Off.hifSliceRings then d.hostWrite c off (sliceCfgW c off value) else d)

/-- The registers of R406 that a host writes. -/
def sliceW (c : Ctx) (off : Nat) (v : Word) (d : Dev) : WOut :=
  if off = Off.hifSliceSel then sliceSelW v d
  else if off = Off.hifSlicePasid ∨ off = Off.hifSliceCfg ∨ off = Off.hifSliceRings then sliceCfgW c off v d
  else if off = Off.hifSliceCmd then sliceCmdW c v none d
  else if off = Off.hifMigCtrl then .took (d.setReg off (v &&& 0x03FF0003#32))
  else if off = Off.hifMigNeed then .drop
  else if Off.hifMigAddrLo ≤ off ∧ off ≤ Off.hifMigNonceHi then .took (d.setReg off v)
  else if off = Off.hifSliceEvt then .took (d.setReg off (d.reg off &&& ~~~v))
  else if off = Off.hifSliceEvtEn then .took (d.setReg off (v &&& 3#32))
  else .drop

end Sys2Proof.Machine
end

