-- ==== Sys2Proof/Machine/Fabric.lean ====
section
/-! DEFINITION. The Glioc fabric (R409 to R426): ports, frames and routes, discovery, peer sessions, replication as it is
received, and spilled items at both ends. -/

namespace Sys2Proof.Machine

/-! ### Settings -/

/-- Discovery period (R415). -/
def Dev.discPeriod (d : Dev) : Nat := fld (d.reg Off.fabDiscCtrl) 15 0 * nsMs

/-! ### The pair role (R429, R430) -/

/-- The pair role changes: recorded (R504), and reported where the role has an event of its own. -/
def Dev.toRole (c : Ctx) (r : Role) (d : Dev) : Dev :=
  let old := d.fab.pair.role
  if old = r then d
  else
    let d1 := { d with fab := { d.fab with pair := { d.fab.pair with role := r } } }
    let d2 := (if d1.fab.pair.changes.isEmpty then d1 else d1.changesAll).record c Trig.pairRole (toLe 1 old.code ++ toLe 1 r.code ++ toLe 6 d.fab.pair.epoch)
    match r with
    | .activeAlone => d2.evtBit Off.fabEvt 5
    | .fenced => d2.evtBit Off.fabEvt 6
    | _ => d2

/-! ### Routes (R417, R418) -/

/-- A port leaves UP, or a node its life: routes are removed. -/
def Fab.dropRoutes (p : Route → Bool) (f : Fab) : Fab :=
  let gone := f.routes.filter p
  { f with routes := f.routes.filter (fun r => !p r), occ := gone.foldl (fun o r => o.dropKey (r.node, r.cls)) f.occ }

/-- More than 64 nodes are LIVE (R418). -/
def Fab.large (f : Fab) : Bool := decide (64 < (f.nodes.filter (fun n => n.live)).length)

/-- A new route goes into the table; one that finds no place evicts an occupant of the buckets visited, chosen freely. -/
def Dev.routeInsert (r : Route) (d : Dev) : Dev :=
  let f := d.fab
  let k := (r.node, r.cls)
  let i := occInsert f.hashKey 4096 k f.occ
  match i.occ with
  | some o => { d with fab := { f with routes := f.routes ++ [r], occ := o } }
  | none =>
    let cand := f.occ.filter (fun e => i.visited.contains e.2)
    match cand[Config.freeNat d.rng.ctr 500 % max 1 cand.length]? with
    | none => d
    | some v =>
      let o := f.occ.dropKey v.1
      match (occInsert f.hashKey 4096 k o).occ with
      | none => d
      | some o2 =>
        ({ d with fab := { f with routes := f.routes.filter (fun (x : Route) => (x.node, x.cls) != v.1) ++ [r], occ := o2, evicted := f.evicted + 1 } }).draw

/-- ROUTE_LEARN: a frame of a routed class arrives from a source on a port. -/
def Dev.learn (c : Ctx) (src cls port hops : Nat) (d : Dev) : Dev :=
  let r : Route := { node := src, cls := cls, port := port, hops := hops, st := c.now }
  let here := fun (x : Route) => x.node == src && x.cls == cls
  match d.fab.routes.find? here with
  | none =>
    if d.fab.large && decide (256 ≤ (d.fab.routes.filter (fun x => x.port == port)).length) then d else d.routeInsert r
  | some x =>
    if x.port = port ∨ hops < x.hops ∨ x.st + nsMs ≤ c.now then { d with fab := { d.fab with routes := updWhere here (fun _ => r) d.fab.routes } } else d

/-- ROUTE_AGE_OUT (R417). -/
def routeAgeOp (node cls : Nat) (c : Ctx) (d : Dev) : Dev :=
  let age := fld (d.reg Off.fabRouteCtrl) 15 0 * nsMs
  { d with fab := d.fab.dropRoutes (fun r => r.node == node && r.cls == cls && decide (r.st + age ≤ c.now)) }
def execRouteAgeOut (node cls : Nat) (s : State) : Host.Outcome State Fault Refusal := s.onDev (routeAgeOp node cls)

/-- A write of FAB_ROUTE_CTRL (R443). -/
def routeCtrlW (v : Word) (d : Dev) : WOut :=
  if fld v 15 0 < 10 ∨ 60000 < fld v 15 0 then .drop
  else
    let d1 := d.setReg Off.fabRouteCtrl (v &&& 0xFFFF#32)
    .took (if bit v 31 then { d1 with fab := d1.fab.dropRoutes (fun _ => true) } else d1)
def execRouteFlush (value : Word) (s : State) : Host.Outcome State Fault Refusal :=
  s.onDev (fun c d => d.hostWrite c Off.fabRouteCtrl (routeCtrlW (value ||| 0x80000000#32)))

/-! ### Ports (R410) -/

/-- A port changes state; one that leaves UP loses its routes, and a pair link that does is reported. A SYNCING device
whose pair links are both gone has lost its partner (R430). -/
def Dev.toPort (c : Ctx) (n : Nat) (st : PortState) (f : Port → Port) (d : Dev) : Dev :=
  let old := (d.port n).state
  let d1 := { d with fab := { d.fab with ports := updWhere (fun (p : Port) => p.num == n) (fun (p : Port) => { (f p) with state := st }) d.fab.ports } }
  if old = st then d1
  else
    let d2 := d1.evtBit Off.fabEvt 0
    if old = .up then
      let d3 := { d2 with fab := d2.fab.dropRoutes (fun r => r.port == n) }
      let d4 := if d.fab.pair.role ≠ .unpaired ∧ d.pairPorts.contains n then d3.evtBit Off.fabEvt 3 else d3
      if d4.fab.pair.role = .syncing ∧ d4.pairLinkUp = false then d4.toRole c .fenced else d4
    else d2

/-- The authentication challenge of a port in AUTH, where the management DRBG can serve one. -/
def Dev.portChallenge (c : Ctx) (n : Nat) (d : Dev) : Dev :=
  let put := fun (b : Bool) (d : Dev) =>
    ({ d with fab := { d.fab with ports := updWhere (fun (p : Port) => p.num == n) (fun (p : Port) => { p with challenged := b, since := c.now }) d.fab.ports } } : Dev)
  if d.mgmtDrbg then put true (d.useDrbg c 12 48) else put false d

/-- A write of FAB_CTRL: the lock is only ever set here (R443). -/
def fabCtrlW (c : Ctx) (v : Word) (d : Dev) : WOut :=
  let d1 := d.setReg Off.fabCtrl ((v &&& 0x8000FF01#32) ||| (d.reg Off.fabCtrl &&& 0x80000000#32))
  .took ((List.range 8).foldl (fun (a : Dev) n =>
    let on := bit v 0 && bit v (8 + n)
    if !on then a.toPort c n .disabled (fun (p : Port) => { num := p.num })
    else if (a.port n).state = .disabled then a.toPort c n .training id else a) d1)
def execPortEnable (value : Word) (s : State) : Host.Outcome State Fault Refusal :=
  s.onDev (fun c d => d.hostWrite c Off.fabCtrl (fabCtrlW c value))

/-- PORT_TRAINED. -/
def portTrainedOp (n : Nat) (c : Ctx) (d : Dev) : Dev :=
  if n < 8 ∧ (d.port n).state = .training ∧ d.endpointUp = true then (d.toPort c n .auth id).portChallenge c n else d
def execPortTrained (port : Nat) (s : State) : Host.Outcome State Fault Refusal := s.onDev (portTrainedOp port)

/-- PORT_AUTH_DONE: judged on the challenge that is out. -/
def portAuthOp (n node peerPort unit : Nat) (ok : Bool) (c : Ctx) (d : Dev) : Dev :=
  if n < 8 ∧ (d.port n).state = .auth ∧ (d.port n).challenged = true then
    if ok then d.toPort c n .up (fun p => { p with peerNode := node, peerPort := peerPort, challenged := false })
    else (d.toPort c n .refused (fun p => { p with challenged := false })).evidence c Ev.portRefused (toLe 1 n ++ zeros 3 ++ toBe 8 (unit / 2 ^ 64))
  else d
def execPortAuthDone (port neighbour peerPort unit : Nat) (ok : Bool) (s : State) : Host.Outcome State Fault Refusal :=
  s.onDev (portAuthOp port neighbour peerPort unit ok)

/-- PORT_DOWN. -/
def portDownOp (n : Nat) (c : Ctx) (d : Dev) : Dev :=
  if n < 8 ∧ (d.port n).state = .up then d.toPort c n .down (fun p => { p with since := c.now }) else d
def execPortDown (port : Nat) (s : State) : Host.Outcome State Fault Refusal := s.onDev (portDownOp port)

/-- PORT_RETRAIN_TIMER. -/
def portRetrainOp (n : Nat) (c : Ctx) (d : Dev) : Dev :=
  if n < 8 ∧ (d.port n).state = .down ∧ (d.port n).since + nsMs ≤ c.now then d.toPort c n .training id else d
def execPortRetrainTimer (port : Nat) (s : State) : Host.Outcome State Fault Refusal := s.onDev (portRetrainOp port)

/-- AUTH_RETRY_TIMER: every 10 ms of ST while no challenge could be drawn. -/
def authRetryOp (n : Nat) (c : Ctx) (d : Dev) : Dev :=
  let p := d.port n
  if n < 8 ∧ p.state = .auth ∧ p.challenged = false ∧ p.since + 10 * nsMs ≤ c.now then d.portChallenge c n else d
def execAuthRetryTimer (port : Nat) (s : State) : Host.Outcome State Fault Refusal := s.onDev (authRetryOp port)

/-! ### Frames (R411 to R419) -/

/-- The flood window of a source: a flood that is new is marked in it (R419). -/
def Dev.floodNew (src boot seq : Nat) (d : Dev) : Bool × Dev :=
  let put := fun (w : Flood) => ({ d with fab := { d.fab with floods := d.fab.floods.filter (fun x => x.src != src) ++ [w] } } : Dev)
  match d.fab.floods.find? (fun x => x.src == src) with
  | none => (true, put { src := src, boot := boot, high := seq })
  | some w =>
    let ahead := (seq + 2 ^ 32 - w.high) % 2 ^ 32
    let back := (w.high + 2 ^ 32 - seq) % 2 ^ 32
    if w.boot < boot then (true, put { src := src, boot := boot, high := seq })
    else if boot < w.boot then (false, d)
    else if 1 ≤ ahead ∧ ahead ≤ 2 ^ 31 then
      (true, put { w with high := seq, win := if 64 < ahead then 0 else (w.win <<< ahead) ||| (1#64 <<< (ahead - 1)) })
    else if back = 0 ∨ 64 < back ∨ w.win.getLsbD (back - 1) then (false, d)
    else (true, put { w with win := w.win ||| (1#64 <<< (back - 1)) })

/-- A frame goes onward: by a learned route on an UP port, else as a flood; one that would go past the hop limit is
dropped. A device with a node conflict sends discovery alone (R414). -/
def Dev.forward (f : Frame) (d : Dev) : Dev :=
  if d.maxHops < f.hops + 1 then d.bump Off.fabDropped
  else if d.fab.conflict then d
  else match d.learned f.dst f.cls with
    | some p => d.sendFrame { f with port := p, hops := f.hops + 1 }
    | none =>
      let (n, d1) := if f.flood then (f.seq, d) else d.nextFlood
      (d1.bump Off.fabFlooded).floodOut (some f.port) { f with hops := f.hops + 1, seq := n, flood := true }

/-- Classes that are routed and learned (R412). -/
def clsRouted (cls : Nat) : Bool := cls == 0 || cls == 3 || cls == 4 || cls == 5

/-- A frame as it arrives; one whose check word is wrong the neighbour sends again (R409; log entry 87). -/
def onFrame (port : Nat) (bytes : Bytes) (f : Frame → Ctx → Dev → Dev) (c : Ctx) (d : Dev) : Dev :=
  match Frame.ofBytes port bytes with
  | none => d
  | some x => f x c d

/-- FRAME_RECEIVE. What a frame for this device carries has its own command; HALYARD and MIRROR frames are not routed. -/
def frameReceiveOp (f : Frame) (c : Ctx) (d : Dev) : Dev :=
  if !d.fabOn || !d.portUp f.port then d
  else if 5 < f.cls then d.bump Off.fabDropped
  else if !clsRouted f.cls then d
  else
    let d1 := d.learn c f.src f.cls f.port f.hops
    let (new, d2) := if f.flood then d1.floodNew f.src f.boot f.seq else (true, d1)
    if !new || f.dst = d.nodeId then d2 else d2.forward f
def execFrameReceive (port : Nat) (s : State) (bytes : Bytes := []) : Host.Outcome State Fault Refusal := s.onDev (onFrame port bytes frameReceiveOp)

/-! ### Discovery (R414 to R416) -/

/-- DISCOVERY_TIMER: a discovery message on every UP port; with both management pairs out discovery stops (R17). -/
def discoveryTimerOp (c : Ctx) (d : Dev) : Dev :=
  if d.fabOn && d.mgmtUp && (d.fab.lastDisc == 0 || decide (d.fab.lastDisc + d.discPeriod ≤ c.now)) then
    let (n, d1) := d.nextFlood
    let d2 := { d1 with fab := { d1.fab with lastDisc := c.now } }
    d2.floodOut none { port := 0, dst := d.nodeId, src := d.nodeId, cls := 0, flood := true, hops := 0, seq := n, boot := d.pwr.boots,
                       payload := unitIdBytes ++ toLe 1 d.fab.pair.role.code ++ toLe 1 d.tim.state.code ++ zeros 14 }
  else d
def execDiscoveryTimer (s : State) : Host.Outcome State Fault Refusal := s.onDev discoveryTimerOp

/-- A message is new: a later boot count, or a newer sequence of the same. -/
def Node.older (boot seq : Nat) (n : Node) : Bool :=
  decide (n.boot < boot) || (n.boot == boot && (let a := (seq + 2 ^ 32 - n.seq) % 2 ^ 32; decide (1 ≤ a ∧ a ≤ 2 ^ 31)))

/-- DISCOVERY_RECEIVE: a CONTROL flood that its source addressed to itself, with a payload of 32 bytes. -/
def discoveryReceiveOp (f : Frame) (c : Ctx) (d : Dev) : Dev :=
  let unit := le f.payload 0 16
  if !d.fabOn || !d.portUp f.port || f.cls != 0 || !f.flood || f.dst != f.src || f.payload.length != 32 then d
  else if f.src = d.nodeId then
    if unit = Config.unitId.toNat ∨ d.fab.conflict = true then d
    else ({ d with fab := { d.fab with conflict := true } }).evtBit Off.fabEvt 1
  else
    let d1 := (d.fwReady c 2).learn c f.src f.cls f.port f.hops
    if d1.fab.nodes.any (fun n => n.num == f.src && !n.older f.boot f.seq) then d1
    else
      let upd := fun (n : Node) => { n with
        unit := unit, boot := f.boot, seq := f.seq, hops := f.hops, live := true, lastSt := c.now, role := byteAt f.payload 16, qual := byteAt f.payload 17,
        portSts := (f.port, c.now) :: n.portSts.filter (fun p => p.1 != f.port) }
      let d2 := { d1 with fab := { d1.fab with nodes := upsert (fun n => n.num == f.src) { num := f.src } upd d1.fab.nodes } }
      let (new, d3) := d2.floodNew f.src f.boot f.seq
      if !new || d3.fab.conflict then d3
      else if d3.maxHops < f.hops + 1 then d3.bump Off.fabDropped
      else (d3.bump Off.fabFlooded).floodOut (some f.port) { f with hops := f.hops + 1 }
def execDiscoveryReceive (port : Nat) (bytes : Bytes) (s : State) : Host.Outcome State Fault Refusal := s.onDev (onFrame port bytes discoveryReceiveOp)

/-- NODE_AGE_OUT: three periods without a new message. -/
def nodeAgeOp (node : Nat) (c : Ctx) (d : Dev) : Dev :=
  if d.fab.nodes.any (fun n => n.num == node && n.live && decide (n.lastSt + 3 * d.discPeriod ≤ c.now)) then
    let f := { d.fab with nodes := updWhere (fun (n : Node) => n.num == node) (fun (n : Node) => { n with live := false }) d.fab.nodes }
    ({ d with fab := f.dropRoutes (fun r => r.node == node) }).evtBit Off.fabEvt 2
  else d
def execNodeAgeOut (node : Nat) (s : State) : Host.Outcome State Fault Refusal := s.onDev (nodeAgeOp node)

/-! ### Sessions (R413) -/

/-- The unit ID that discovery gave for a node. -/
def Dev.nodeUnit (d : Dev) (n : Nat) : Option Nat := (d.fab.nodes.find? (fun x => x.num == n)).map (fun x => x.unit)

/-- A session as an exchange of ephemeral keys leaves it: one drawn here, the peer's on P-384, the secret extracted. -/
def Dev.exchange (c : Ctx) (peer : Nat) (pub : Bytes) (d : Dev) : Session × Dev :=
  let (b, d1) := d.mgmtBytes c 64
  let z := ecdh 2 48 (Curve.named 2) (ecPair 2 48 (Curve.named 2) b).1 pub
  ({ peer := peer, since := c.now, unit := (d.nodeUnit peer).getD 0, ext := hmac 2 (zeros 48) z 48 }, d1)

/-- SESSION_SETUP: ephemeral keys, the peer's with a signature that verifies; what waited leaves, and the replications with the
peer are sent again (R422). -/
def sessionSetupOp (peer : Nat) (pub : Bytes) (sigOk : Bool) (c : Ctx) (d : Dev) : Dev :=
  if d.fabOn && !d.fab.conflict && d.mgmtDrbg && sigOk && !d.hasSession peer && decide (d.fab.sessions.length < 256) then
    let (k, d1) := d.exchange c peer pub
    let d2 := ({ d1 with fab := { d1.fab with sessions := d1.fab.sessions ++ [k] } } : Dev).sendHeld peer
    (d2.fab.repls.filter (fun (r : Repl) => r.en && r.peer == peer && r.state == ReplSt.broken)).foldl (fun a r => a.replSend .copy r) d2
  else d
def execSessionSetup (peer : Nat) (pub : Bytes) (s : State) (sigOk : Bool := true) : Host.Outcome State Fault Refusal := s.onDev (sessionSetupOp peer pub sigOk)

/-- SESSION_REKEY: after 2^48 frames or 1 h of ST. -/
def sessionRekeyOp (peer : Nat) (pub : Bytes) (c : Ctx) (d : Dev) : Dev :=
  if d.fabOn && d.mgmtDrbg && d.fab.sessions.any (fun s => s.peer == peer && (decide (2 ^ 48 ≤ s.frames) || decide (s.since + 3600 * nsS ≤ c.now))) then
    let (k, d1) := d.exchange c peer pub
    { d1 with fab := { d1.fab with sessions := updWhere (fun (s : Session) => s.peer == peer) (fun _ => k) d1.fab.sessions } }
  else d
def execSessionRekey (peer : Nat) (s : State) (pub : Bytes := []) : Host.Outcome State Fault Refusal := s.onDev (sessionRekeyOp peer pub)

/-! ### Spilled items at the origin (R426) -/

/-- A spilled item is run locally: placed again from the pending list, no restart. -/
def Dev.runLocally (c : Ctx) (slot : Nat) (d : Dev) : Dev := d.goBack c slot true

/-- No return in time, or the session is broken: a cancel, a local run, and one more lost. -/
def Dev.spillLost (c : Ctx) (slot : Nat) (d : Dev) : Dev :=
  match (d.item? slot).bind (fun i => i.spill) with
  | none => d
  | some p => (((d.sendPeer p.1 4 3 (msgNum slot)).runLocally c slot).bump Off.fabSpillLost).evtBit Off.fabEvt 10

/-- SPILL_TIMEOUT. -/
def spillTimeoutOp (slot : Nat) (c : Ctx) (d : Dev) : Dev :=
  match (d.item? slot).bind (fun i => i.spill) with
  | none => d
  | some p => if p.2 + fld (d.reg Off.fabSpillCtrl) 31 20 * nsUs ≤ c.now then d.spillLost c slot else d
def execSpillTimeout (slot : Nat) (s : State) : Host.Outcome State Fault Refusal := s.onDev (spillTimeoutOp slot)

/-- Statuses of a return that the origin posts (R426). -/
def spillPosts (st : Nat) : Bool := [0x00, 0x12, 0x13, 0x15, 0x16, 0x17].contains st

/-- SPILL_RETURN: discarded where the item no longer waits for that peer. An output whose write the host refuses, or whose
scatter list cannot be read again, ends in DMA_WRITE_FAULT as that of a local item (R86, R87). -/
def spillReturnOp (peer slot : Nat) (r : SpillRet) (c : Ctx) (d : Dev) : Dev :=
  match d.item? slot with
  | none => d
  | some i =>
    if i.ds = .running ∧ i.spill.any (fun p => p.1 == peer) = true ∧ d.mayRelease c = true then
      if r.executed ∧ spillPosts r.status = true then
        if r.refused ∧ r.output ≠ [] then d.toOwed c slot 0x30 0x02 0
        else
        let d1 := if r.output.isEmpty then d else d.emit (.output (d.tagOf i.slice) i.seq (BitVec.ofNat 64 (Desc.outPtr i.desc)) (Desc.outputSgl i.desc) r.output)
        d1.toOwed c slot r.status r.sub r.output.length
      else d.runLocally c slot
    else d
def execSpillReturn (peer slot : Nat) (r : SpillRet) (s : State) : Host.Outcome State Fault Refusal := s.onDev (spillReturnOp peer slot r)

/-- SESSION_BREAK (R413, R422, R426): a frame was left unacknowledged for 1 ms of ST. -/
def sessionBreakOp (peer : Nat) (c : Ctx) (d : Dev) : Dev :=
  if d.hasSession peer then
    let d1 := { d with fab := { d.fab with sessions := d.fab.sessions.filter (fun s => s.peer != peer) } }
    let d2 := (d1.fab.repls.filter (fun r => r.en && r.peer == peer)).foldl (fun a r => a.setRepl r ReplSt.broken) d1
    (d2.dsp.items.filter (fun i => i.spill.any (fun p => p.1 == peer))).foldl (fun a i => a.spillLost c i.slot) d2
  else d
def execSessionBreak (peer : Nat) (s : State) : Host.Outcome State Fault Refusal := s.onDev (sessionBreakOp peer)

/-! ### Spilled items at the peer (R424, R425) -/

/-- Items that this device holds for others. -/
def Dev.spillHeld (d : Dev) : Nat := (d.dsp.items.filter (fun i => i.spillFrom.isSome)).length
/-- Spilled items that it accepts. -/
def Dev.spillLimit (d : Dev) : Nat := fld (d.reg Off.fabSpillCtrl) 15 4
/-- The credit that an offer holds. -/
def Dev.spillCredit (d : Dev) : Nat :=
  if d.dsp.reef ≠ 0 ∨ d.fab.pair.role = .standby ∨ d.fab.pair.role = .syncing then 0 else d.spillLimit - d.spillHeld

/-- SPILL_OFFER_TIMER: every 100 µs of ST, credit and domain generations to each listed peer. -/
def spillOfferTimerOp (c : Ctx) (d : Dev) : Dev :=
  if d.fabOn && !d.fab.conflict && decide (0 < d.spillLimit) && decide (d.fab.lastOffer + 100 * nsUs ≤ c.now) then
    let peers := ((List.range 8).map (fun i => d.reg (Off.fabSpillPeer + 4 * i))).filter (fun w => bit w 31)
    let gens := (d.key.domains.filter (fun m => m.state != .empty)).flatMap (fun m => [m.num, m.gen, b2n m.prevValid])
    peers.foldl (fun a w => a.sendPeer (fld w 9 0) 0 1 ((d.spillCredit :: gens).flatMap msgNum)) { d with fab := { d.fab with lastOffer := c.now } }
  else d
def execSpillOfferTimer (s : State) : Host.Outcome State Fault Refusal := s.onDev spillOfferTimerOp

/-- SPILL_OFFER_RECEIVE. -/
def spillOfferOp (peer : Nat) (o : SpillOffer) (_ : Ctx) (d : Dev) : Dev :=
  if d.fabOn && d.spillListed peer then
    { d with fab := { d.fab with offers := upsert (fun (x : Offer) => x.node == peer) { node := peer } (fun (x : Offer) => { x with credit := o.credit, gens := o.gens }) d.fab.offers } }
  else d
def execSpillOfferReceive (peer : Nat) (o : SpillOffer) (s : State) : Host.Outcome State Fault Refusal := s.onDev (spillOfferOp peer o)

/-- A number for a spilled item beside the journal slots. -/
def Dev.spillSlot (d : Dev) : Nat := (d.dsp.items.map (fun i => i.slot + 1)).foldl max 65536

/-- SPILL_ITEM_RECEIVE: the item joins this device's dispatch, and nothing is journalled; under a response it goes back
LOCKED. -/
def spillItemOp (m : SpillItem) (c : Ctx) (d : Dev) : Dev :=
  if !d.fabOn || !d.hasSession m.peer || !d.past 8 || !d.roleActs || d.warning || decide (d.spillLimit ≤ d.spillHeld) then d
  else
    let slot := d.spillSlot
    let dl := c.now + m.remaining
    let i : Item := { slot := slot, seq := m.seq, slice := m.slice, ring := 0, desc := m.desc, input := m.input, staged := true, acceptSt := c.now,
                      deadline := dl, key := schedKey dl c.now, ds := .pending, spillFrom := some (m.peer, m.slot), dom := m.domain }
    let d1 := { d with dsp := { d.dsp with items := d.dsp.items ++ [i] } }
    if d.locked then d1.toOwed c slot 0x31 d.tmp.lockSub 0 else d1
def execSpillItemReceive (m : SpillItem) (s : State) : Host.Outcome State Fault Refusal := s.onDev (spillItemOp m)

/-- SPILL_CANCEL_RECEIVE: the item is dropped here. -/
def spillCancelOp (peer slot : Nat) (c : Ctx) (d : Dev) : Dev :=
  match d.dsp.items.find? (fun i => i.spillFrom == some (peer, slot)) with
  | none => d
  | some i =>
    let d1 := d.unbind c i.slot
    { d1 with dsp := { d1.dsp with items := d1.dsp.items.filter (fun j => j.slot != i.slot) }, key := d1.key.letGo i.slot }
def execSpillCancelReceive (peer slot : Nat) (s : State) : Host.Outcome State Fault Refusal := s.onDev (spillCancelOp peer slot)

/-! ### Replication as it arrives (R420 to R422) -/

/-- The open REPLICA_LOAD ceremony of a domain that names a source (R420, R453). -/
def Dev.replicaLoad (d : Dev) (dom peer : Nat) : Option Ceremony :=
  d.cus.cers.find? (fun k => k.state == .opened && k.cls == 1 && k.action == 3 && k.domain == some dom && d.nodeUnit peer == some (le k.param 24 16))

/-- A domain as a copy of it installs it: ACTIVE with the same generations (R421). -/
def installCopy (m : ReplMsg) (x : Domain) : Domain :=
  { x with state := .active, gen := m.gen, dmk := m.dmk, prevGen := m.prevGen, prevDmk := m.prevDmk, prevValid := m.prevValid, newGen := 0, newDmk := [] }

/-- A message of the source of a replica is applied; a later generation is rolled to (R328). -/
def Dev.replApply (m : ReplMsg) (d : Dev) : Dev :=
  let x := d.key.domain m.domain
  match m.kind with
  | .retirePrev => { d with key := d.key.retirePrev x }
  | .erase => let d1 := { d with key := d.key.eraseDomain m.domain }
    { d1 with fab := { d1.fab with replicas := d1.fab.replicas.filter (fun r => r.domain != m.domain) } }
  | _ =>
    if x.gen = m.gen ∨ x.state = .rolling then d
    else { d with key := d.key.updDomain m.domain (fun y => { y with state := .rolling, newGen := m.gen, newDmk := m.dmk }) }

/-- A message with its keys unwrapped (R421): none where the integrity value of one is wrong. -/
def unwrapKeys (s : Session) (m : ReplMsg) : Option ReplMsg :=
  match m.kind with
  | .copy | .rollEnd => (kwUnwrap s.transport m.dmk).bind (fun k =>
      if m.prevValid then (kwUnwrap s.transport m.prevDmk).map (fun p => { m with dmk := k, prevDmk := p }) else some { m with dmk := k, prevDmk := [] })
  | _ => some m

/-- REPLICATE_RECEIVE. -/
def replicateReceiveOp (m0 : ReplMsg) (c : Ctx) (d : Dev) : Dev :=
  match (d.session? m0.peer).bind (fun s => unwrapKeys s m0) with
  | none => d
  | some m =>
  let ackTo := fun (d : Dev) => d.sendPeer m.peer 3 (replCode .ack) (msgNum m.domain)
  let mine := fun (r : Repl) => r.en && r.domain == m.domain && r.peer == m.peer && !r.ended
  if !d.fabOn then d
  else match m.kind with
    | .ack => (d.fab.repls.filter mine).foldl (fun a r => a.setRepl r ReplSt.current) d
    | .ended => let d1 := (d.fab.repls.filter mine).foldl (fun a r => a.setRepl r ReplSt.broken) d
      { d1 with fab := { d1.fab with repls := updWhere mine (fun r => { r with ended := true }) d1.fab.repls } }
    | _ =>
      if d.locked || d.key.store != .ready then d
      else if d.fab.replicas.any (fun r => r.domain == m.domain && r.src == m.peer) then ackTo ((d.replApply m).domainChanged c m.domain .domain)
      else match m.kind, d.replicaLoad m.domain m.peer with
        | .copy, some k =>
          if (d.key.domain m.domain).state ≠ .empty then d
          else
            let d1 : Dev := { d with
              key := d.key.updDomain m.domain (installCopy m)
              fab := { d.fab with replicas := d.fab.replicas ++ [({ domain := m.domain, src := m.peer } : ReplicaOf)] } }
            ackTo ((d1.cerEnd c k.num true 0).domainChanged c m.domain .domain)
        | _, _ => d
def execReplicateReceive (m : ReplMsg) (s : State) : Host.Outcome State Fault Refusal := s.onDev (replicateReceiveOp m)

/-- A write of FAB_REPL_CTRL, in the master-key ceremony of the selected domain (R420, R443, R444). -/
def replCtrlW (c : Ctx) (v : Word) (d : Dev) : WOut :=
  let sel := d.reg Off.fabReplSel
  let dom := fld sel 9 0
  let idx := fld sel 17 16
  let here := fun (r : Repl) => r.domain == dom && r.index == idx
  if !d.quorum Off.fabReplCtrl v then .viol
  else
    let r : Repl := { domain := dom, index := idx, en := bit v 0, peer := fld v 25 16 }
    let d1 := { d with fab := { d.fab with repls := d.fab.repls.filter (fun x => !here x) ++ [r] } }
    .took ((((if bit v 0 then d1.replSend .copy r else d1)).mirroring (Dev.sendRepl r)).awaitAck c .write)

/-! ### Registers outside the pair (R442 to R444) -/

def fabBaseW (c : Ctx) (off : Nat) (v : Word) (d : Dev) : WOut :=
  if off = Off.fabCtrl then fabCtrlW c v d
  else if off = Off.fabNodeId then
    (if d.fabLocked then .viol else .took { (d.setReg off (v &&& 0x3FF#32)) with fab := { d.fab with conflict := false } })
  else if off = Off.fabDiscCtrl then
    (if fld v 15 0 < 1 ∨ 1000 < fld v 15 0 ∨ fld v 21 16 = 0 then .drop else .took (d.setReg off (v &&& 0x003FFFFF#32)))
  else if off = Off.fabPortSel then (if 7 < v.toNat then .drop else .took (d.setReg off v))
  else if off = Off.fabRouteCtrl then routeCtrlW v d
  else if off = Off.fabNodeCursor then .took (d.setReg off (v &&& 7#32))
  else if off = Off.fabSpillCtrl then
    (if fld v 2 1 = 0 ∨ 2048 < fld v 15 4 ∨ fld v 31 20 < 50 ∨ 4000 < fld v 31 20 then .drop else .took (d.setReg off (v &&& 0xFFF0FFF7#32)))
  else if Off.fabSpillPeer ≤ off ∧ off < Off.fabSpillPeer + 32 then .took (d.setReg off (v &&& 0x800003FF#32))
  else if off = Off.fabReplSel then .took (d.setReg off (v &&& 0x000303FF#32))
  else if off = Off.fabReplCtrl then replCtrlW c v d
  else if off = Off.fabEvt then .took (d.setReg off (d.reg off &&& ~~~v))
  else if off = Off.fabEvtEn then .took (d.setReg off (v &&& 0x1FFF#32))
  else .drop

end Sys2Proof.Machine
end

