-- ==== Sys2Proof/Machine/Pair.lean ====
section
/-! DEFINITION. The pair (R427 to R440): witness, lease, roles, commands, handover, takeover, mirroring as it is received,
and the dispatch epoch with its self-demotion. -/

namespace Sys2Proof.Machine

abbrev PairRes.badState : Nat := 1
abbrev PairRes.badParam : Nat := 2
abbrev PairRes.noPartner : Nat := 3
abbrev PairRes.mismatch : Nat := 4
abbrev PairRes.witness : Nat := 5
abbrev PairRes.noAtomic : Nat := 6

def Dev.onPair (f : Pair → Pair) (d : Dev) : Dev := { d with fab := { d.fab with pair := f d.fab.pair } }

/-- A pair command completes. -/
def Dev.pairEnd (res : Nat) (d : Dev) : Dev := (d.onPair (fun p => { p with cmdBusy := false, cmdResult := res })).evtBit Off.fabEvt 11

/-- A HALYARD message to the partner on given links, those that are UP; without a session none leaves. -/
def Dev.sendLinks (ports : List Nat) (kind : Nat) (payload : Bytes) (d : Dev) : Dev :=
  if !d.fabOn || d.fab.conflict then d
  else (ports.filter d.portUp).foldl (fun (a : Dev) p => a.sendSealed (some p) d.partner 1 (toLe 1 kind ++ payload)) d

/-! ### Re-dispatch (R112, R113, R435) -/

/-- An accepted item as its journal body gives it back (R100): nothing of an abandoned operation stays. -/
def Item.fresh (i : Item) : Item :=
  { (Item.back true i) with
    ds := if i.ds = .control then .control else .held, started := false, notBefore := none, mmTwins := [], rnd := none, eccOnce := false, fired := false }

/-- An item of this device that has not finished. -/
def Item.alive (i : Item) : Bool := i.spillFrom.isNone && i.incomplete

/-- Items in journal-sequence order. -/
def insertBySeq (a : Item) : List Item → List Item
  | [] => [a]
  | b :: t => if a.seq ≤ b.seq then a :: b :: t else b :: insertBySeq a t
def sortBySeq (l : List Item) : List Item := l.foldr insertBySeq []

/-- Every operation in progress is abandoned, and its record is ACCEPTED again (R112). Not a restart. -/
def Dev.abandonAll (c : Ctx) (d : Dev) : Dev :=
  (d.dsp.items.filter (fun i => i.alive && (i.ds == .running || i.ds == .suspended || i.ds == .placed))).foldl (fun a i => a.goBack c i.slot true) d

/-- Every ACCEPTED record is dispatched again in journal-sequence order. Barrier instances form again from their
descriptors. -/
def Dev.redispatch (c : Ctx) (d : Dev) : Dev :=
  let d1 := d.abandonAll c
  let d2 := { d1 with
    dsp := { d1.dsp with items := d1.dsp.items.map (fun i => if i.alive then i.fresh else i) }
    hif := { d1.hif with barriers := d1.hif.barriers.filter (fun b => b.resolved) }
    jnl := { d1.jnl with mirrorWait := [] } }
  let l := sortBySeq (d2.dsp.items.filter Item.alive)
  let d3 := l.foldl (fun (a : Dev) i => match i.flow? with | some k => (a.flowInsert c k).getD a | none => a) d2
  l.foldl (fun a i => a.afterAccept c i.slot) d3

/-! ### The witness (R428) -/

/-- The witness word for an epoch and a holder. -/
def witnessWord (epoch holder : Nat) : DWord := BitVec.ofNat 64 (holder % 1024 + epoch % 2 ^ 48 * 2 ^ 16)

/-- A swap is issued: from the epoch and holder last known to the next epoch and this device. -/
def Dev.issueSwap (k : SwapFor) (d : Dev) : Dev :=
  (d.emit (.cas (witnessWord d.fab.pair.epoch d.fab.pair.holder) (witnessWord (d.fab.pair.epoch + 1) d.nodeId))).onPair
    (fun p => { p with swap := some k, swapDue := none })

/-- A swap is out, or waits to be tried again. -/
def Pair.swapping (p : Pair) : Bool := p.swap.isSome || p.swapDue.isSome

/-- WITNESS_RETRY_TIMER: 1 ms of ST after an error. -/
def witnessRetryOp (c : Ctx) (d : Dev) : Dev :=
  match d.fab.pair.swapDue with
  | none => d
  | some (k, t) => if t ≤ c.now ∧ d.past 8 = true ∧ d.endpointUp = true then d.issueSwap k else d
def execWitnessRetryTimer (s : State) : Host.Outcome State Fault Refusal := s.onDev witnessRetryOp

/-! ### Erasing and parking -/

/-- The journal, the table and the rings are erased, generations kept (R430, R438). -/
def Dev.eraseMirrored (c : Ctx) (d : Dev) : Dev :=
  let d1 := { d with
    jnl := { d.jnl with recs := [], fresh := 0, completed := [], owed := [], mirrorWait := [], degraded := false, recoverOpen := false, bodies := [] }
    hif := { d.hif with rings := d.hif.rings.map (fun (r : Ring) => { slice := r.slice, num := r.num, gen := r.gen }), barriers := [] }
    dsp := { d.dsp with items := d.dsp.items.filter (fun i => i.spillFrom.isSome), flows := { d.dsp.flows with occ := [] } }
    lan := { d.lan with twins := d.lan.twins.map (fun (t : Twin) => { (t.lanes (fun _ l => l.blank)) with running := none }) }
    pke := { d.pke with engines := d.pke.engines.map (fun (e : Engine) => if e.item.isSome then { e.stop with after := none } else e) } }
  d1.startDdt c

/-- Every defined ring is PARKED: fetched descriptors are fetched again later (R69, R429). -/
def Ring.park (r : Ring) : Ring :=
  if r.state = .absent then r else { r with state := .parked, fetched := [], flowStall := false, ddtStall := false, hwbSince := none, hwb := none, irqCount := 0 }
def Dev.parkRings (d : Dev) : Dev := { d with hif := { d.hif with rings := d.hif.rings.map Ring.park } }

/-- SYNCING is entered: the device is to be copied to (R430, R438). -/
def Dev.startSync (c : Ctx) (d : Dev) : Dev :=
  ((d.eraseMirrored c).toRole c .syncing).onPair (fun p => { p with syncPct := 0, nextSeq := 0, swap := none, swapDue := none, heard := c.now })

/-- FENCED: nothing is accepted, executed or posted (R429). -/
def Dev.fence (c : Ctx) (d : Dev) : Dev := ((d.abandonAll c).toRole c .fenced).parkRings

/-- A handover in progress ends without a partner. -/
def Dev.handoverFail (d : Dev) : Dev :=
  let p := d.fab.pair
  if p.handing then
    let d1 := d.onPair (fun p => { p with handing := false, selfDemote := false })
    if p.cmdBusy then d1.pairEnd PairRes.noPartner else d1
  else d

/-! ### Takeover (R128, R435) -/

/-- An ST of the partner as an ST of this device. -/
def shiftSt (o : Int) (t : Nat) : Nat := (Int.ofNat t + o).toNat

/-- A time stamp of the partner as one of this device: its ST moves, its ST_QUAL stays (R30). -/
def shiftStamp (o : Int) (v : DWord) : DWord := BitVec.ofNat 64 (v.toNat / 2 ^ 61 * 2 ^ 61 + shiftSt o (v.toNat % 2 ^ 61) % 2 ^ 61)

/-- Every absolute ST of the mirrored records moves by an offset: of items, head records and table entries (R435). -/
def Dev.shiftRecords (o : Int) (d : Dev) : Dev :=
  { d with
    dsp := { d.dsp with items := d.dsp.items.map (fun i => if i.spillFrom.isSome then i else
      { i with acceptSt := shiftSt o i.acceptSt, deadline := shiftSt o i.deadline, key := shiftSt o i.key, relAt := i.relAt.map (shiftSt o) }) }
    jnl := { d.jnl with recs := d.jnl.recs.map (fun (r : Rec) => { r with deadline := shiftSt o r.deadline, cst := if r.st.completed then shiftStamp o r.cst else r.cst }) }
    ddt := { d.ddt with entries := d.ddt.entries.map (fun (e : DdtEntry) => { e with doneAt := shiftSt o e.doneAt, time := shiftStamp o e.time }) } }

/-- One completion slot as the new active finds it: where its PHASE is that of the pass expected at the posted count, the
entry was written, and its record is COMPLETE with it. -/
def Dev.readSlot (c : Ctx) (d : Dev) (x : CqSlot) : Dev :=
  let r := d.ring x.slice x.ring
  let phase := b2n (r.posted.toNat / 2 ^ r.cqLog2 % 2 == 0)
  if r.state = .absent ∨ x.count ≠ r.posted.toNat ∨ byteAt x.entry 18 % 2 ≠ phase ∨ x.entry.length < 32 then d
  else
    let d1 := d.updRing x.slice x.ring (fun y => { y with posted := y.posted + 1 })
    let replay := byteAt x.entry 18 / 2 % 2 == 1
    match d1.jnl.recs.find? (fun k => k.st.outstanding && k.slice == x.slice && k.ring == x.ring && k.reqId.toNat == le x.entry 0 8 && (k.st == .replay) == replay) with
    | none => d1
    | some k =>
      let st := byteAt x.entry 16
      let sub := byteAt x.entry 17
      let fl := byteAt x.entry 18
      let len := le x.entry 20 4
      let outcome : Word := packW [(0, sub), (8, fl / 4 % 2), (9, fl / 8 % 2), (13, len % 2 ^ 19)]
      let d2 := d1.updRec k.slot (fun y => { y with st := .complete, status := st, sub := sub, backlog := fl / 4 % 2 == 1, late := fl / 8 % 2 == 1, resLen := len,
                                                    cst := BitVec.ofNat 64 (le x.entry 24 8) })
      let d3 := if replay then d2 else d2.updDdt k.slice k.reqId (fun e =>
        if e.seq = k.seq ∧ e.st ≠ .done then { e with st := .done, status := st, outcome := outcome, time := BitVec.ofNat 64 (le x.entry 24 8), doneAt := c.now } else e)
      ({ d3 with jnl := { d3.jnl with owed := d3.jnl.owed.filter (fun o => o.slot != k.slot), completed := d3.jnl.completed ++ [k.slot] } }).retire k.slot

/-- TAKEOVER: times, numbering, completion slots, re-dispatch. The rings stay PARKED (R129). -/
def Dev.takeover (c : Ctx) (slots : List CqSlot) (d : Dev) : Dev :=
  let d1 := d.shiftRecords d.fab.pair.offset
  let d2 := { d1 with jnl := { d1.jnl with nextSeq := max d1.jnl.nextSeq d1.fab.pair.nextSeq } }
  ((slots.foldl (fun a x => a.readSlot c x) d2).redispatch c).evtBit Off.fabEvt 4

/-- A swap was won: the epoch is the next, and this device holds it. -/
def Dev.swapWon (c : Ctx) (k : SwapFor) (slots : List CqSlot) (d : Dev) : Dev :=
  let d1 := d.onPair (fun p => { p with swap := none, swapDue := none, epoch := p.epoch + 1, holder := d.nodeId, lastAcked := c.now, leaseEnd := c.now + 160 * nsUs })
  match k, d.fab.pair.role with
  | .activate, .unpaired => (d1.toRole c .activeAlone).pairEnd 0
  | .alone, .active | .alone, .fenced => let d2 := (d1.handoverFail).toRole c .activeAlone; d2.mirrorAll c d2.jnl.mirrorWait.length
  | .takeover, .standby => (d1.toRole c .activeAlone).takeover c slots
  | .handover, .standby => (d1.toRole c .active).takeover c slots
  | .recover, .fenced => (d1.toRole c .activeAlone).redispatch c
  | _, _ => d1

/-- A swap was lost: while a pair link is UP a standby learns who acts, and is to be copied to again. With both links down it
keeps what it knew (the next swap is lost too), and the first renewal that arrives shows it the later epoch. -/
def Dev.swapLost (c : Ctx) (k : SwapFor) (v : DWord) (d : Dev) : Dev :=
  let d1 := d.onPair (fun p => { p with swap := none, swapDue := none })
  match k with
  | .activate => d1.pairEnd PairRes.witness
  | .alone | .recover => (d1.handoverFail).fence c
  | .takeover | .handover =>
    if d1.fab.pair.role = .standby ∧ d1.pairLinkUp = true then
      (d1.onPair (fun p => { p with epoch := v.toNat / 2 ^ 16, holder := v.toNat % 1024 })).startSync c
    else d1

/-- WITNESS_SWAP_DONE. -/
def witnessSwapOp (r : SwapResult) (slots : List CqSlot) (c : Ctx) (d : Dev) : Dev :=
  match d.fab.pair.swap with
  | none => d
  | some k =>
    match r with
    | .error => (d.onPair (fun p => { p with swap := none, swapDue := some (k, c.now + nsMs) })).evtBit Off.fabEvt 12
    | .found v => if v = witnessWord d.fab.pair.epoch d.fab.pair.holder then d.swapWon c k slots else d.swapLost c k v
def execWitnessSwapDone (r : SwapResult) (slots : List CqSlot) (s : State) : Host.Outcome State Fault Refusal := s.onDev (witnessSwapOp r slots)

/-! ### Handover (R434, R436) -/

/-- The handover begins: the device stops, abandons what runs, and reads the witness word. -/
def Dev.handoverStart (c : Ctx) (d : Dev) : Dev :=
  ((d.onPair (fun p => { p with handing := true })).abandonAll c).emit .witnessRead

/-- Every mirror update is acknowledged: RELEASE leaves, and the device is the standby. Its records are kept as the mirror,
in the partner's ST. -/
def Dev.handoverGo (c : Ctx) (d : Dev) : Dev :=
  let p := d.fab.pair
  if p.handing ∧ d.jnl.mirrorWait = [] ∧ p.changes = [] ∧ p.role = .active then
    let d1 := ((d.sendLinks d.pairPorts 3 (msgNum p.epoch)).shiftRecords (-p.offset)).onPair (fun q => { q with handing := false, selfDemote := false, leaseEnd := c.now + 160 * nsUs, heard := c.now })
    let d2 := (d1.toRole c .standby).parkRings
    if p.selfDemote then d2.evtBit Off.fabEvt 8 else d2.pairEnd 0
  else d

/-- MIRROR_ACK, and what a handover waits for. -/
def execMirrorAck (of : AckOf) (s : State) : Host.Outcome State Fault Refusal :=
  s.onDev (fun c d => (mirrorAckOp of c d).handoverGo c)

/-- MIRROR_ACK_TIMEOUT: a handover cannot go on without the standby. -/
def mirrorTimeoutOp (of : AckOf) (c : Ctx) (d : Dev) : Dev :=
  let d1 := mirrorAckTimeoutOp of c d
  if d1.jnl.degraded && !d.jnl.degraded then d1.handoverFail else d1
def execMirrorAckTimeout (of : AckOf) (s : State) : Host.Outcome State Fault Refusal := s.onDev (mirrorTimeoutOp of)

/-- RELEASE_RECEIVE: the standby swaps at once. -/
def releaseReceiveOp (_ : Ctx) (d : Dev) : Dev :=
  if d.fab.pair.role = .standby ∧ d.fab.pair.swapping = false then d.issueSwap .handover else d
def execReleaseReceive (s : State) : Host.Outcome State Fault Refusal := s.onDev releaseReceiveOp

/-- The cause of a self-demotion, by its code (R436, R443). -/
def Dev.demoteCause (d : Dev) : Option Nat :=
  let w := d.reg Off.fabPairDemote
  let g := (d.lan.groves.filter (fun g => g.state != .inService)).length
  let t := (d.lan.twins.filter (fun t => t.state != .inService)).length
  if 0 < fld w 3 0 ∧ fld w 3 0 ≤ g then some 1
  else if 0 < fld w 14 8 ∧ fld w 14 8 ≤ t then some 2
  else if bit (d.reg Off.fabPairCtrl) 28 && d.locked && !d.jnl.recs.any (fun r => r.st == .accepted || r.st == .inService) then some 3
  else none

/-- SELF_DEMOTION: the ACTIVE device alone, and not twice. -/
def Dev.selfDemotion (c : Ctx) (d : Dev) : Dev :=
  if d.fab.pair.role = .active ∧ d.fab.pair.handing = false then
    match d.demoteCause with
    | none => d
    | some k => ((d.onPair (fun p => { p with demote := k, selfDemote := true })).handoverStart c).handoverGo c
  else d

/-- DISPATCH_EPOCH: the next epoch of ST has begun, and the part runs. -/
def dispatchEpochOp (c : Ctx) (d : Dev) : Dev :=
  if d.endpointUp && !d.pwr.halted && d.past 5 && decide (d.dsp.lastEpoch < c.now / nsUs) then (d.epoch c).selfDemotion c else d
def execDispatchEpoch (s : State) : Host.Outcome State Fault Refusal := s.onDev dispatchEpochOp

/-! ### The lease (R431, R432) -/

def Role.acts : Role → Bool
  | .active | .activeAlone => true
  | _ => false

/-- LEASE_RENEWAL_TIMER. -/
def leaseRenewalOp (c : Ctx) (d : Dev) : Dev :=
  let p := d.fab.pair
  if p.role.acts && d.mayFire c .lease 0 then ((d.delayFire c (p.lastSent + 40 * nsUs)).sendLinks d.pairPorts 1 (msgNum p.epoch ++ msgNum c.now)).onPair (fun q => { q with lastSent := c.now }) else d
def execLeaseRenewalTimer (s : State) : Host.Outcome State Fault Refusal := s.onDev leaseRenewalOp

/-- RENEWAL_RECEIVE, acknowledged on the link it arrived by. A STANDBY that itself was the last holder has handed over, and the next epoch is its partner's. -/
def renewalReceiveOp (port epoch peerSt : Nat) (c : Ctx) (d : Dev) : Dev :=
  let p := d.fab.pair
  let heard := fun (e h : Nat) (d : Dev) => (d.onPair (fun q => { q with
    epoch := e, holder := h, heard := c.now, leaseEnd := c.now + 160 * nsUs, offset := (c.now : Int) - peerSt })).sendLinks [port] 2 (msgNum e ++ msgNum peerSt ++ msgNum c.now)
  match p.role with
  | .standby =>
    if epoch = p.epoch then heard epoch p.holder d
    else if epoch = p.epoch + 1 ∧ p.holder = d.nodeId then heard epoch d.partner d
    else if p.epoch < epoch then (d.onPair (fun q => { q with epoch := epoch, holder := d.partner })).startSync c
    else d
  | .syncing => if p.epoch < epoch then d.toRole c .fenced else if epoch = p.epoch then heard epoch p.holder d else d
  | _ => d
def execRenewalReceive (port epoch : Nat) (s : State) (peerSt : Nat := 0) : Host.Outcome State Fault Refusal := s.onDev (renewalReceiveOp port epoch peerSt)

/-- RENEWAL_ACK_RECEIVE: the active's lease runs from the sending of the renewal. -/
def renewalAckOp (epoch sentSt peerSt : Nat) (c : Ctx) (d : Dev) : Dev :=
  let p := d.fab.pair
  if p.role.acts && epoch == p.epoch && decide (sentSt ≤ c.now) && decide (p.lastAcked ≤ sentSt) then
    d.onPair (fun q => { q with lastAcked := sentSt, leaseEnd := sentSt + 160 * nsUs, offset := (c.now : Int) - peerSt })
  else d
def execRenewalAckReceive (epoch sentSt peerSt : Nat) (s : State) : Host.Outcome State Fault Refusal := s.onDev (renewalAckOp epoch sentSt peerSt)

/-- LEASE_GUARD_EXPIRY: the standby swaps. -/
def leaseGuardOp (c : Ctx) (d : Dev) : Dev :=
  let p := d.fab.pair
  if p.role = .standby ∧ p.swapping = false ∧ p.leaseEnd + 40 * nsUs < c.now then d.issueSwap .takeover else d
def execLeaseGuardExpiry (s : State) : Host.Outcome State Fault Refusal := s.onDev leaseGuardOp

/-- ACK_MISSING_TIMEOUT: the active swaps to go alone. -/
def ackMissingOp (c : Ctx) (d : Dev) : Dev :=
  let p := d.fab.pair
  if p.role = .active ∧ p.swapping = false ∧ p.lastAcked + 80 * nsUs ≤ c.now then d.issueSwap .alone else d
def execAckMissingTimeout (s : State) : Host.Outcome State Fault Refusal := s.onDev ackMissingOp

/-- ACTIVE_LEASE_EXPIRY: the active stops, and its swap is tried on (R431, R440). -/
def activeLeaseOp (c : Ctx) (d : Dev) : Dev :=
  let p := d.fab.pair
  if p.role = .active ∧ p.leaseEnd ≤ c.now then d.handoverFail.fence c else d
def execActiveLeaseExpiry (s : State) : Host.Outcome State Fault Refusal := s.onDev activeLeaseOp

/-! ### The copy and the mirror (R127, R128, R437, R438) -/

/-- SYNC_COPY_DONE: the joiner is STANDBY, its partner ACTIVE with synchronous mirroring in force again. DESIGN CHOICE (log
entry 83): what the active copied, with the changes since, leaves it at this command. -/
def syncCopyOp (c : Ctx) (d : Dev) : Dev :=
  let fresh := fun (d : Dev) => (d.onPair (fun p => { p with syncPct := 100, heard := c.now, lastAcked := c.now, leaseEnd := c.now + 160 * nsUs })).evtBit Off.fabEvt 7
  match d.fab.pair.role with
  | .syncing => fresh (({ d with ddt := { d.ddt with ready := true, initing := false, needKeys := false } }).toRole c .standby)
  | .activeAlone => if d.pairLinkUp && !d.fab.pair.swapping then fresh ((({ d with jnl := { d.jnl with degraded := false } }).toRole c .active).sendCopy) else d
  | _ => d
def execSyncCopyDone (s : State) : Host.Outcome State Fault Refusal := s.onDev syncCopyOp

/-- States by their codes (R98, R389). -/
def recStateOf (n : Nat) : RecState :=
  if n = 1 then .accepted else if n = 2 then .inService else if n = 3 then .owed else if n = 4 then .complete
  else if n = 5 then .awaiting else if n = 6 then .replay else .free
def sliceStateOf (n : Nat) : SliceState :=
  if n = 1 then .bound else if n = 2 then .draining else if n = 3 then .frozen else if n = 4 then .saving else if n = 5 then .saved
  else if n = 6 then .prepared else if n = 7 then .restoring else if n = 8 then .retaining else .unbound

/-- A head record from its 32 bytes (R97). -/
def recOf (slot : Nat) (h : Bytes) : Rec :=
  let st := recStateOf (byteAt h 18)
  let base : Rec := { slot := slot, seq := le h 0 8, reqId := BitVec.ofNat 64 (le h 8 8), slice := le h 16 2 % 4096, ring := le h 16 2 / 4096, st := st }
  let w := le h 20 4
  if st = .owed ∨ st = .complete ∨ st = .replay then
    { base with status := byteAt h 19, sub := w % 256, backlog := w / 256 % 2 == 1, late := w / 512 % 2 == 1, resLen := w / 2 ^ 13, cst := BitVec.ofNat 64 (le h 24 8) }
  else
    { base with mirrored := byteAt h 19 % 2 == 1, spilled := byteAt h 19 / 2 % 2 == 1, recovered := byteAt h 19 / 4 % 2 == 1, pos := BitVec.ofNat 32 w, opcode := le h 24 2 }

/-- The item of a body entry (R100). What cannot be seen from the descriptor is checked again when it runs. -/
def itemOf (r : Rec) (dom : Nat) (b : Bytes) : Item :=
  let desc := bsub b 32 128
  let acc := le b 416 8 % 2 ^ 61
  let f : Fetched := { desc := desc, input := bsub b 160 (le b 436 4), fail := Desc.verbFail desc }
  { (newItem acc r.slot r.seq r.slice r.ring dom (le b 424 8) f ⟨[], 0, []⟩) with restarts := le b 432 2, attached := le b 434 2, qual := le b 416 8 / 2 ^ 61, pubPos := r.pos }

/-- A mirrored record: the slot, its item where it is pending, its place among the owed. -/
def Dev.mirrorRecord (slot : Nat) (h b : Bytes) (d : Dev) : Dev :=
  let r0 := recOf slot h
  let old := d.rec? slot
  let r := match old with | some o => if o.seq = r0.seq ∧ r0.pos = 0 then { r0 with pos := o.pos } else r0 | none => r0
  let pend := r.st == .accepted || r.st == .inService
  let items := d.dsp.items.filter (fun i => i.slot != slot || i.spillFrom.isSome)
  let mine := if b.length < 440 then (d.dsp.items.filter (fun i => i.slot == slot && i.seq == r.seq)) else [itemOf r (d.slice r.slice).domain b]
  let kept := if pend then mine else if r.st = .owed then mine.map (fun i => { i with ds := .finished }) else []
  let ow := d.jnl.owed.filter (fun o => o.slot != slot)
  let owes := r.st == .owed || r.st == .replay
  let mv := d.updRing r.slice r.ring (fun x => if r.st = .complete ∧ x.state ≠ .absent then { x with posted := x.posted + 1 } else x)
  { mv with
    jnl := { mv.jnl with
      recs := mv.jnl.recs.filter (fun x => x.slot != slot) ++ (if r.st = .free then [] else [r])
      owed := if owes then ow ++ [{ slot := slot, slice := r.slice, ring := r.ring }] else ow
      completed := mv.jnl.completed.filter (· != slot) ++ (if r.st = .complete then [slot] else [])
      fresh := max mv.jnl.fresh (slot + 1) }
    dsp := { mv.dsp with items := items ++ kept }
    fab := { mv.fab with pair := { mv.fab.pair with nextSeq := if r.st = .replay then mv.fab.pair.nextSeq else max mv.fab.pair.nextSeq (r.seq + 1) } } }

/-- A mirrored table entry (R101). -/
def tableEntry (b : Bytes) : DdtEntry :=
  let st := le b 8 2 / 4096 % 4
  { slice := le b 8 2 % 4096, reqId := BitVec.ofNat 64 (le b 0 8), st := if st = 2 then .done else if st = 3 then .awaiting else .inFlight, status := byteAt b 10,
    outcome := BitVec.ofNat 32 (le b 12 4), seq := le b 16 8, time := BitVec.ofNat 64 (le b 24 8), doneAt := if st = 2 then le b 24 8 % 2 ^ 61 else 0 }

/-- A slice's word (R646), as the anchor and the mirror carry it. -/
def anchorSliceOf (num : Nat) (w : DWord) : AnchorSlice :=
  let f := fun (lo n : Nat) => w.toNat / 2 ^ lo % 2 ^ n
  { num := num, state := f 23 4, pasid := f 0 20, noPasid := f 20 1 == 1, domain := f 27 10, rings := f 45 16, weight := f 37 8, expiry := f 21 2 }
def AnchorSlice.slice (x : AnchorSlice) : Slice :=
  { num := x.num, state := sliceStateOf x.state, pasid := x.pasid, noPasid := x.noPasid, domain := x.domain, rings := x.rings, weight := x.weight, expiry := x.expiry,
    effWeight := x.weight, effExpiry := x.expiry }

def MirrorKey.half (k : MirrorKey) : Half :=
  { attr := { alg := k.alg, part := k.part, usage := k.usage, mode := k.mode, exp := k.exp, cust := k.cust, nb := k.nb, na := k.na, ksi := k.ksi, curve := k.curve, gen := k.gen },
    mat := k.mat, ext := k.ext }

/-- A mirror update is applied. -/
def Dev.mirrorApply (c : Ctx) (m : MirrorMsg) (d : Dev) : Dev :=
  match m with
  | .record slot h b => d.mirrorRecord slot h b
  | .table b => (d.ddtInsert c (tableEntry b)).getD d
  | .tableKey k => { d with ddt := { d.ddt with hashKey := k } }
  | .ring sl b => (match imageRing sl b with | some r => d.updRing sl r.num (fun _ => r) | none => d.updRing sl (byteAt b 0 % 16) (fun r => { slice := r.slice, num := r.num, gen := r.gen }))
  | .slice n w => d.updSlice n (fun x => { (anchorSliceOf n w).slice with keyRefs := x.keyRefs, result := x.result })
  | .keySlot dom n act sap =>
    let s : Slot := { dom := dom, num := n, act := act.map MirrorKey.half, sap := sap.map MirrorKey.half }
    { d with key := (d.key.supersede (fun e => e.dom == dom && e.slot == n)).putSlot s }
  | .domain n st gen pg pv dmk pd ng nd sq eq =>
    { d with key := (if st = 0 then d.key.eraseDomain n else d.key).updDomain n (fun x => { x with
        state := if st = 1 then .active else if st = 2 then .rolling else .empty, gen := gen, prevGen := pg, prevValid := pv, dmk := dmk, prevDmk := pd, newGen := ng, newDmk := nd, slotQuota := sq, extQuota := eq }) }
  | .repl dom idx en peer =>
    { d with fab := { d.fab with repls := d.fab.repls.filter (fun r => !(r.domain == dom && r.index == idx)) ++ [{ domain := dom, index := idx, en := en, peer := peer }] } }

/-- MIRROR_RECEIVE: applied and acknowledged. How far a copy has come is free (log entry 7). -/
def mirrorReceiveOp (epoch : Nat) (m : MirrorMsg) (c : Ctx) (d : Dev) : Dev :=
  let p := d.fab.pair
  if (p.role = .standby ∨ p.role = .syncing) ∧ epoch = p.epoch then
    let d1 := let d2 := d.mirrorApply c m; d2.sendPeer d2.partner 2 10 (msgNum epoch)
    if p.role = .syncing then (d1.onPair (fun q => { q with syncPct := max q.syncPct (Config.freeNat d.rng.ctr 600 % 100) })).draw else d1
  else d
def execMirrorReceive (epoch : Nat) (m : MirrorMsg) (s : State) : Host.Outcome State Fault Refusal := s.onDev (mirrorReceiveOp epoch m)

/-! ### Pair commands (R430, R438) -/

/-- JOIN, by what it learns of the partner and of a test swap with equal values. -/
def Dev.join (c : Ctx) (k : PairCompat) (d : Dev) : Dev :=
  let role := d.fab.pair.role
  let same := k.ddtSize == d.ddtLog2 && k.ddtRetain == fld (d.reg Off.ddtRetain) 15 0 && k.lcState == c.otp.state.code && d.key.store == .ready
    && k.unitId == (List.range 4).foldl (fun a i => a + (d.reg (Off.fabPairUid + 4 * i)).toNat * 2 ^ (32 * i)) 0
  if (role ≠ .unpaired ∧ role ≠ .fenced) ∨ d.pairMode = 0 then d.pairEnd PairRes.badState
  else if !k.reached || !d.pairLinkUp || k.role != Role.activeAlone.code then d.pairEnd PairRes.noPartner
  else if !same then d.pairEnd PairRes.mismatch
  else
    let w := witnessWord k.epoch k.holder
    let d1 := d.emit (.cas w w)
    if !k.atomicsOk then d1.pairEnd PairRes.noAtomic
    else ((d1.onPair (fun p => { p with epoch := k.epoch, holder := k.holder })).startSync c).pairEnd 0

/-- LEAVE. -/
def Dev.leave (c : Ctx) (d : Dev) : Dev :=
  let out := fun (d : Dev) => ((d.toRole c .unpaired).onPair (fun p => { p with swap := none, swapDue := none, syncPct := 0 })).pairEnd 0
  match d.fab.pair.role with
  | .activeAlone => out d
  | .standby | .syncing | .fenced => out (d.eraseMirrored c)
  | _ => d.pairEnd PairRes.badState

/-- A write of FAB_PAIR_CMD. JOIN acts only with what it learns from outside (log entry 3). -/
def pairCmdW (c : Ctx) (v : Word) (compat : Option PairCompat) (d : Dev) : WOut :=
  let p := d.fab.pair
  let cmd := fld v 2 0
  if p.cmdBusy then .viol
  else if cmd = 1 then
    .took (if p.role = .unpaired ∧ d.pairMode ≠ 0 then (d.issueSwap .activate).onPair (fun q => { q with cmdBusy := true }) else d.pairEnd PairRes.badState)
  else if cmd = 2 then (match compat with | some k => .took (d.join c k) | none => .drop)
  else if cmd = 3 then
    .took (if p.role = .active ∧ p.handing = false then ((d.onPair (fun q => { q with cmdBusy := true, selfDemote := false })).handoverStart c).handoverGo c else d.pairEnd PairRes.badState)
  else if cmd = 4 then .took (d.leave c)
  else .took (d.pairEnd PairRes.badParam)

def execPairActivate (s : State) : Host.Outcome State Fault Refusal := s.onDev (fun c d => d.hostWrite c Off.fabPairCmd (pairCmdW c 1#32 none))
def execPairJoin (compat : PairCompat) (s : State) : Host.Outcome State Fault Refusal :=
  s.onDev (fun c d => d.hostWrite c Off.fabPairCmd (pairCmdW c 2#32 (some compat)))
def execPairSwitchover (s : State) : Host.Outcome State Fault Refusal := s.onDev (fun c d => d.hostWrite c Off.fabPairCmd (pairCmdW c 3#32 none))
def execPairLeave (s : State) : Host.Outcome State Fault Refusal := s.onDev (fun c d => d.hostWrite c Off.fabPairCmd (pairCmdW c 4#32 none))

/-! ### Registers (R442 to R444) -/

def fabW (c : Ctx) (off : Nat) (v : Word) (d : Dev) : WOut :=
  let paired := decide (d.fab.pair.role ≠ .unpaired)
  if off = Off.fabPairCtrl then
    (if paired || d.fabLocked then .viol
     else if fld v 1 0 = 3 ∨ fld v 6 4 = fld v 10 8 then .drop else .took (d.setReg off (v &&& 0x13FF0773#32)))
  else if off = Off.fabPairDemote then (if 12 < fld v 3 0 ∨ 96 < fld v 14 8 then .drop else .took (d.setReg off (v &&& 0x7F0F#32)))
  else if Off.fabPairUid ≤ off ∧ off < Off.fabPairUid + 16 then (if paired || !d.quorum off v then .viol else .took (d.setReg off v))
  else if off = Off.fabWitnessAddrLo ∨ off = Off.fabWitnessAddrHi then
    (if paired || d.fabLocked then .viol else if off = Off.fabWitnessAddrLo ∧ v.toNat % 8 ≠ 0 then .drop else .took (d.setReg off v))
  else if off = Off.fabPairCmd then pairCmdW c v none d
  else fabBaseW c off v d

end Sys2Proof.Machine
end

