-- ==== Sys2Proof/Machine/Custodian.lean ====
section
/-! DEFINITION. Custodians (R445 to R465, R633): card ports, scopes and enrolment, ceremonies, approvals, components and
shares, and the registers of the block. -/

namespace Sys2Proof.Machine

abbrev CerRes.badState : Nat := 1
abbrev CerRes.badParam : Nat := 2
abbrev CerRes.busyClass : Nat := 3
abbrev CerRes.noEntropy : Nat := 4
abbrev CerRes.internal : Nat := 5
abbrev CerRes.locked : Nat := 6
abbrev CerRes.badApproval : Nat := 7
abbrev CerRes.duplicate : Nat := 8
abbrev CerRes.componentKcv : Nat := 9
abbrev CerRes.kcvMismatch : Nat := 10
abbrev CerRes.roster : Nat := 11
abbrev CerRes.windowExpired : Nat := 12
abbrev CerRes.timedOut : Nat := 13
abbrev CerRes.abandoned : Nat := 14

/-! ### The parameter block (R453) -/

def parmW (b : Bytes) : Nat := le b 6 2
/-- The enrolment list: 64 bytes an entry, after the write list. -/
def parmList (b : Bytes) : List Bytes := (List.range (byteAt b 23)).map (fun i => bsub b (64 + 8 * parmW b + 64 * i) 64)

/-- What a class and an action ask of the scope: the class in its form, and the scope that goes with it (R451). -/
def formOk (cls action : Nat) (device : Bool) : Bool :=
  if cls = 1 then !device && decide (action ≤ 3)
  else if 2 ≤ cls ∧ cls ≤ 8 then device && action == 0
  else if cls = 9 then action == 4 || (action == 0 && device)
  else false

/-- The fields that an action fixes. -/
def parmFields (b : Bytes) : Bool :=
  let a := byteAt b 3
  let dmk := a == 1 || a == 2
  (if dmk then allZero (bsub b 13 3) else allZero (bsub b 8 8))
    && (if a = 1 then le b 16 4 != 0 else le b 16 4 == 0)
    && (if dmk then (byteAt b 20 == 1 || byteAt b 20 == 2) && decide (2 ≤ byteAt b 21 ∧ byteAt b 21 ≤ 8) else byteAt b 20 == 0)
    && (if a = 4 then decide (1 ≤ byteAt b 23 ∧ byteAt b 23 ≤ 16) && (byteAt b 22 == 0 || decide (2 ≤ byteAt b 22 ∧ byteAt b 22 ≤ 16)) else true)
    && (if a = 3 then true else allZero (bsub b 24 16))
    && allZero (bsub b 40 24)

/-- The block agrees with the slot's configuration, and with its own lengths. -/
def parmOk (cfg : Word) (len : Nat) (b : Bytes) : Bool :=
  let a := byteAt b 3
  let device := bit cfg 31
  let need := 64 + 8 * parmW b + (if a = 4 then 64 * byteAt b 23 else 0)
  decide (64 ≤ len ∧ len ≤ 2112 ∧ len ≤ b.length) && le b 0 2 == 1 && byteAt b 2 == fld cfg 3 0 && a == fld cfg 7 4
    && le b 4 2 == (if device then 0x8000 else fld cfg 25 16) && decide (parmW b ≤ 64) && decide (need ≤ len)
    && formOk (byteAt b 2) a device && parmFields b

/-! ### The challenge (R454) -/

/-- The ephemeral key pair on P-384 that BEGIN draws. -/
def Ceremony.ephPair (k : Ceremony) : Bytes × Bytes := ecPair 2 48 (Curve.named 2) k.eph
def Ceremony.ephPub (k : Ceremony) : Bytes := k.ephPair.2

def Ceremony.challenge (k : Ceremony) : Bytes :=
  toLe 2 1 ++ toLe 1 k.cls ++ toLe 1 k.action ++ toLe 2 k.scopeCode ++ toLe 2 k.num ++ unitIdBytes ++ toLe 8 k.id.toNat ++ toLe 8 k.nonce.toNat
    ++ toLe 8 k.beginSt ++ sha384 k.param ++ k.ephPub

/-- The challenge goes to the cards in the local ports. -/
def Dev.present (k : Ceremony) (d : Dev) : Dev :=
  (d.cus.ports.filter (fun p => p.state == CardState.active)).foldl (fun a p => a.emit (.card p.num k.challenge)) d

/-! ### BEGIN (R452) -/

/-- Enrolment records in a list of the wire form: those that are added. -/
def addedOf (now : DWord) (l : List Bytes) : List Enrol :=
  (l.filter (fun e => byteAt e 40 / 128 == 0)).map (fun e => { id := le e 0 8, digest := bsub e 8 32, remote := byteAt e 40 % 2 == 1, st := now })

/-- The ceremony enrols into a scope that is empty (R450). -/
def Dev.firstEnrol (d : Dev) (k : Ceremony) : Bool := k.cls == 9 && k.action == 4 && (d.scope k.domain).recs.isEmpty

/-- The records that approvals are counted against (R450, R451). -/
def Dev.cerRecords (d : Dev) (k : Ceremony) : List Enrol :=
  if d.firstEnrol k then (match k.domain with | none => addedOf 0 (parmList k.param) | some _ => (d.scope none).recs)
  else if k.cls = 1 ∨ k.cls = 9 then (d.scope k.domain).recs else (d.scope none).recs

/-- Approvals required, and through a local port at least (R450, R451, R460). -/
def Dev.cerNeeds (d : Dev) (k : Ceremony) : Nat × Nat :=
  let dmk := if k.cls = 1 ∧ (k.action = 1 ∨ k.action = 2) then byteAt k.param 21 else 0
  if d.firstEnrol k then
    (match k.domain with
     | none => let n := max 2 (addedOf 0 (parmList k.param)).length; (n, n)
     | some _ => ((d.scope none).m, 2))
  else if k.cls = 1 then (max dmk (d.scope k.domain).m, 0)
  else if k.cls = 9 then ((d.scope k.domain).m, if k.domain.isNone then 2 else 0)
  else let w := d.reg (Off.cusPolicy + 4 * k.cls); (fld w 3 0, fld w 7 4)

/-- BEGIN's result, 0 where the ceremony starts. Where several hold the first of this order decides (log entry 29). -/
def Dev.beginFail (d : Dev) (k : Ceremony) (param : DmaRead) : Nat :=
  let cls := fld k.cfg 3 0
  let dom := if bit k.cfg 31 then none else some (fld k.cfg 25 16)
  if !d.mgmtUp then CerRes.internal
  else if k.state ≠ .idle then CerRes.badState
  else if d.locked ∧ cerInLock cls = false then CerRes.locked
  else if param.refused ∨ param.failed ∨ parmOk k.cfg k.paramLen param.data = false then CerRes.badParam
  else if d.cus.cers.any (fun x => x.state != .idle && x.cls == cls && x.domain == dom) then CerRes.busyClass
  else if !d.mgmtDrbg then CerRes.noEntropy
  else 0

/-- A ceremony command completes without a change of state. -/
def Dev.cerResult (n res : Nat) (d : Dev) : Dev := d.updCer n (fun k => { k with result := res })

/-- BEGIN: three draws, and the challenge. -/
def Dev.cerBegin (c : Ctx) (n : Nat) (param : DmaRead) (d : Dev) : Dev :=
  let k := d.cer n
  let f := d.beginFail k param
  if f ≠ 0 then d.cerResult n f
  else
    let (id, d1) := d.mgmtNonce c
    let (nonce, d2) := d1.mgmtNonce c
    let (eph, d3) := d2.mgmtBytes c 64
    let k1 : Ceremony := { k with
      state := .collecting, cls := fld k.cfg 3 0, action := fld k.cfg 7 4, domain := if bit k.cfg 31 then none else some (fld k.cfg 25 16),
      param := param.data.take k.paramLen, id := id, nonce := nonce, eph := eph, beginSt := c.now, first := none, apps := [], result := 0 }
    let (m, l) := d.cerNeeds k1
    let k2 := { k1 with required := m, localMin := l }
    (d3.updCer n (fun _ => k2)).present k2

/-! ### Components and shares (R459, R460) -/

def lblCeremony : Bytes := asciiBytes "DYZHATIK CEREMONY 1"

/-- The envelope of an approval, opened. -/
def envelopeOpen (k : Ceremony) (resp : Bytes) : Option Bytes :=
  let secret := ecdh 2 48 (Curve.named 2) k.ephPair.1 (bsub resp 105 97)
  let key := kdf256 (hmac 2 (zeros 48) secret 48) lblCeremony (toLe 8 k.id.toNat ++ bsub resp 0 8) 32
  let ct := bsub resp 300 40
  let pt := ctrMode key (ctrInc 32 (gcmJ0 (zeros 12)) 1) 32 ct
  if 356 ≤ resp.length ∧ (gcmSeal key (zeros 12) [] pt).2 = bsub resp 340 16 then some pt else none

/-- The plaintext is a component, or a share, as the method asks. -/
def envelopeForm (method : Nat) (p : Bytes) : Bool :=
  byteAt p 39 == 0 && byteAt p 0 == method && (if method = 1 then byteAt p 1 == 0 else byteAt p 1 != 0)
/-- Its check value agrees. -/
def envelopeKcv (p : Bytes) : Bool := bsub p 34 5 == (kcv 2 5 0x13 (bsub p 2 32)).take 5

/-- Products, powers and inverses in GF(2^8) with polynomial x^8 + x^4 + x^3 + x + 1. -/
def gf8Mul (x y : Nat) : Nat :=
  ((List.range 8).foldl (fun (s : Nat × Nat) i =>
    (if y / 2 ^ i % 2 = 1 then s.1 ^^^ s.2 else s.1, if 128 ≤ s.2 then (s.2 * 2) ^^^ 0x11B else s.2 * 2)) (0, x)).1
def gf8Inv (x : Nat) : Nat := (List.range 254).foldl (fun a _ => gf8Mul a x) 1

/-- The value at 0 of the polynomial through shares (index and byte). -/
def shamir0 (l : List (Nat × Nat)) : Nat :=
  l.foldl (fun acc p =>
    acc ^^^ gf8Mul p.2 ((l.filter (fun q => q.1 != p.1)).foldl (fun a q => gf8Mul a (gf8Mul q.1 (gf8Inv (q.1 ^^^ p.1)))) 1)) 0

/-- Shares with distinct indices, first come. -/
def distinctShares (l : List Approval) : List Approval :=
  l.foldl (fun acc a => if acc.any (fun b => b.index == a.index) then acc else acc ++ [a]) []

/-- The DMK of a ceremony at quorum. -/
def Ceremony.dmk (k : Ceremony) : Bytes :=
  if byteAt k.param 20 = 1 then k.apps.foldl (fun a x => bxor a x.value) (zeros 32)
  else
    let l := (distinctShares k.apps).take (byteAt k.param 21)
    mkBytes 32 (fun i => BitVec.ofNat 8 (shamir0 (l.map (fun a => (a.index, byteAt a.value i)))))

/-! ### Actions at quorum (R447, R449, R461) -/

/-- LOAD and ROLL: their result, and the domain with the DMK (R326, R327, R422). -/
def Dev.dmkInstall (c : Ctx) (d : Dev) (k : Ceremony) : Nat × Dev :=
  let dom := k.domain.getD 0
  let m := d.key.domain dom
  let load := k.action == 1
  let dmk := k.dmk
  if d.key.store ≠ .ready ∨ d.isReplica dom = true ∨ (load && m.state != .empty) = true ∨ (!load && (m.state != .active || m.prevValid)) = true then (CerRes.badState, d)
  else if (kcv 2 5 0x13 dmk).take 5 ≠ bsub k.param 8 5 then (CerRes.kcvMismatch, d)
  else if load then
    (0, (({ d with key := d.key.updDomain dom (fun x => { x with state := .active, gen := le k.param 16 4, dmk := dmk }) }).replicate dom .copy).domainChanged c dom .write)
  else
    (0, ({ d with key := d.key.updDomain dom (fun x => { x with state := .rolling, newGen := if x.gen = 0xFFFFFFFF then 1 else x.gen + 1, newDmk := dmk }) }).domainChanged c dom .write)

/-- One entry of an enrolment list. -/
def enrolOne (now : DWord) (recs : List Enrol) (e : Bytes) : List Enrol :=
  if byteAt e 40 / 128 = 1 then recs.filter (fun r => r.id != le e 0 8) else recs ++ addedOf now [e]

/-- An enrolment list is taken in one commit, or refused in whole. -/
def Dev.enrolApply (c : Ctx) (d : Dev) (k : Ceremony) : Nat × Dev :=
  let s := d.scope k.domain
  let recs := (parmList k.param).foldl (enrolOne (d.stamp c)) s.recs
  let m := if byteAt k.param 22 = 0 then s.m else byteAt k.param 22
  let dup := recs.any (fun r => decide (1 < (recs.filter (fun x => x.id == r.id)).length))
  let form := (parmList k.param).all (fun e => le e 0 8 != 0 && byteAt e 40 / 2 % 64 == 0)
  if 16 < recs.length ∨ dup = true ∨ recs.length < m ∨ m < 2 ∨ form = false then (CerRes.roster, d)
  else (0, { d with cus := { d.cus with scopes := d.cus.scopes.filter (fun x => x.domain != k.domain) ++ [{ domain := k.domain, m := m, recs := recs }] } })

/-- The required approvals are met. -/
def Ceremony.quorumMet (k : Ceremony) : Bool :=
  decide (k.required ≤ k.apps.length) && decide (k.localMin ≤ (k.apps.filter (fun a => a.loc)).length)
    && (if k.cls = 1 ∧ (k.action = 1 ∨ k.action = 2) ∧ byteAt k.param 20 = 2 then decide (byteAt k.param 21 ≤ (distinctShares k.apps).length) else true)

/-- QUORUM_REACHED: an action form applies its action, a register form opens. REPLICA_LOAD stays open for its source's
copy (R420). -/
def Dev.cerQuorum (c : Ctx) (n : Nat) (d : Dev) : Dev :=
  let k := d.cer n
  if !k.quorumMet then d
  else if k.action = 0 ∨ k.action = 3 then
    if k.action = 3 ∧ d.isReplica (k.domain.getD 0) = true then d.cerEnd c n true CerRes.badState
    else (d.updCer n (fun x => { x with state := .opened, openSt := c.now, result := 0 })).evtBit Off.cusEvt 2
  else
    let (res, d1) := if k.action = 4 then d.enrolApply c k else d.dmkInstall c k
    d1.cerEnd c n true res

/-! ### Approvals (R455, R456) -/

/-- The text of an approval and its signature by the custodian's signing key (R455). The envelope stands behind it, where one
is due; else the digest is that of nothing. -/
def Ceremony.approvalSig (k : Ceremony) (resp : Bytes) : Bool :=
  let env := if k.cls = 1 ∧ (k.action = 1 ∨ k.action = 2) then bsub resp 300 56 else []
  codeSig 2 (bsub resp 8 97) (asciiBytes "DYZHATIK APPROVE 1" ++ k.challenge ++ sha256 env) (bsub resp 204 96)

/-- An approval judged: a result that rejects it, or what is counted. -/
def Dev.judgeApproval (d : Dev) (k : Ceremony) (resp : Bytes) (loc : Bool) : Except Nat Approval :=
  let id := le resp 0 8
  let base : Approval := { id := id, loc := loc }
  match (d.cerRecords k).find? (fun r => r.id == id) with
  | none => .error CerRes.badApproval
  | some r =>
    let far := !loc && (!r.remote || (d.firstEnrol k && k.domain.isNone))
    if resp.length < 300 ∨ sha256 (bsub resp 8 194) ≠ r.digest ∨ k.approvalSig resp = false ∨ far = true then .error CerRes.badApproval
    else if k.apps.any (fun a => a.id == id) then .error CerRes.duplicate
    else if k.cls = 1 ∧ (k.action = 1 ∨ k.action = 2) then
      match envelopeOpen k resp with
      | none => .error CerRes.badApproval
      | some p =>
        if !envelopeForm (byteAt k.param 20) p then .error CerRes.badApproval
        else if !envelopeKcv p then .error CerRes.componentKcv
        else .ok { base with kind := byteAt p 0, index := byteAt p 1, value := bsub p 2 32 }
    else .ok base

/-- The end of the window: since the first approval, or since BEGIN. -/
def Dev.windowEnd (d : Dev) (k : Ceremony) : Nat := k.first.getD k.beginSt + fld (d.reg Off.cusWindow) 8 0 * nsS

/-- An approval is counted or rejected. One that comes after the window finds the slot gone. -/
def Dev.approve (c : Ctx) (n : Nat) (resp : Bytes) (loc : Bool) (d : Dev) : Dev :=
  let k := d.cer n
  if d.windowEnd k < c.now then (d.cerEnd c n false CerRes.windowExpired).evtBit Off.cusEvt 1
  else match d.judgeApproval k resp loc with
    | .error r => (d.cerResult n r).evtBit Off.cusEvt 1
    | .ok a => ((d.updCer n (fun x => { x with apps := x.apps ++ [a], first := some (x.first.getD c.now), result := 0 })).evtBit Off.cusEvt 1).cerQuorum c n

/-! ### Commands (R452, R464, R465) -/

/-- A write of CUS_CER_CMD on the selected slot. BEGIN and SUBMIT act only with what they read, which is `ext` (log entry 3). A command makes a thread task ready (R167). -/
def cerCmdW (c : Ctx) (v : Word) (ext : Option DmaRead) (d : Dev) : WOut :=
  let n := fld (d.reg Off.cusCerSel) 1 0
  let k := d.cer n
  let cmd := fld v 2 0
  let d := d.fwReady c 1
  if cmd = 1 then (match ext with | some e => .took (d.cerBegin c n e) | none => .drop)
  else if !d.mgmtUp then .took (d.cerResult n CerRes.internal)
  else if cmd = 2 then
    (match ext with
     | none => .drop
     | some e =>
       .took (if k.state ≠ .collecting then d.cerResult n CerRes.badState
         else if e.refused ∨ e.failed then (d.cerResult n CerRes.badApproval).evtBit Off.cusEvt 1
         else d.approve c n e.data false))
  else if cmd = 3 then .took (if k.state = .opened then d.cerEnd c n true 0 else d.cerResult n CerRes.badState)
  else if cmd = 4 then .took (if k.state = .idle then d.cerResult n CerRes.badState else d.cerEnd c n (k.state == .opened) CerRes.abandoned)
  else .took (d.cerResult n CerRes.badParam)

def execCeremonyBegin (param : DmaRead) (s : State) : Host.Outcome State Fault Refusal :=
  s.onDev (fun c d => d.hostWrite c Off.cusCerCmd (cerCmdW c 1#32 (some param)))
def execCeremonySubmit (resp : Bytes) (read : DmaEnd) (s : State) : Host.Outcome State Fault Refusal :=
  s.onDev (fun c d => d.hostWrite c Off.cusCerCmd (cerCmdW c 2#32 (some (dmaRead resp read))))
def execCeremonyEnd (s : State) : Host.Outcome State Fault Refusal := s.onDev (fun c d => d.hostWrite c Off.cusCerCmd (cerCmdW c 3#32 none))
def execCeremonyAbandon (s : State) : Host.Outcome State Fault Refusal := s.onDev (fun c d => d.hostWrite c Off.cusCerCmd (cerCmdW c 4#32 none))

/-- CARD_APPROVAL: the answer of the card in a port to the challenge of a ceremony. Firmware processes it (R17). -/
def cardApprovalOp (n port : Nat) (resp : Bytes) (c : Ctx) (d : Dev) : Dev :=
  if d.endpointUp && d.mgmtUp && (d.cer n).state == .collecting && d.cus.ports.any (fun p => p.num == port && p.state == CardState.active) then
    d.approve c n resp true
  else d
def execCardApproval (cer port : Nat) (resp envelope : Bytes) (s : State) : Host.Outcome State Fault Refusal :=
  s.onDev (cardApprovalOp cer port (resp ++ envelope))

/-- CEREMONY_WINDOW_EXPIRY. -/
def windowExpiryOp (n : Nat) (c : Ctx) (d : Dev) : Dev :=
  let k := d.cer n
  if k.state = .collecting ∧ d.windowEnd k < c.now then d.cerEnd c n false CerRes.windowExpired else d
def execCeremonyWindowExpiry (cer : Nat) (s : State) : Host.Outcome State Fault Refusal := s.onDev (windowExpiryOp cer)

/-- CEREMONY_OPEN_TIMEOUT. -/
def openTimeoutOp (n : Nat) (c : Ctx) (d : Dev) : Dev :=
  let k := d.cer n
  if k.state = .opened ∧ k.openSt + 300 * nsS ≤ c.now then d.cerEnd c n true CerRes.timedOut else d
def execCeremonyOpenTimeout (cer : Nat) (s : State) : Host.Outcome State Fault Refusal := s.onDev (openTimeoutOp cer)

/-! ### Card ports (R445, R633) -/

def Dev.cardPort (d : Dev) (n : Nat) : CardPort := (d.cus.ports.find? (fun p => p.num == n)).getD { num := n }
def Dev.updCard (n : Nat) (f : CardPort → CardPort) (d : Dev) : Dev :=
  { d with cus := { d.cus with ports := updWhere (fun p => p.num == n) f d.cus.ports } }
def Dev.cardOn (d : Dev) (n : Nat) : Bool := bit (d.reg Off.cusPortCtrl) n

/-- CARD_INSERT: activation starts at class C, where the port is enabled. -/
def cardInsertOp (n : Nat) (_ : Ctx) (d : Dev) : Dev :=
  if d.endpointUp && decide (n < 2) && !(d.cardPort n).present then
    (d.updCard n (fun p => { p with present := true, trying := if d.cardOn n then some false else none })).evtBit Off.cusEvt 0
  else d
def execCardInsert (port : Nat) (s : State) : Host.Outcome State Fault Refusal := s.onDev (cardInsertOp port)

/-- CARD_ATR_RECEIVE: a card with T=1 is ACTIVE, and takes the challenges of the ceremonies that collect. -/
def cardAtrOp (n : Nat) (t1 : Bool) (_ : Ctx) (d : Dev) : Dev :=
  if (d.cardPort n).trying.isNone then d
  else if t1 then
    (d.cus.cers.filter (fun k => k.state == CerState.collecting)).foldl (fun a k => a.emit (.card n k.challenge))
      (d.updCard n (fun p => { p with state := .active, classB := p.trying.getD false, trying := none }))
  else d.updCard n (fun p => { p with state := .unsupported, trying := none })
def execCardAtrReceive (port : Nat) (t1 : Bool) (s : State) : Host.Outcome State Fault Refusal := s.onDev (cardAtrOp port t1)

/-- CARD_ATR_TIMEOUT: class B once, then FAULT. -/
def cardAtrTimeoutOp (n : Nat) (_ : Ctx) (d : Dev) : Dev :=
  match (d.cardPort n).trying with
  | none => d
  | some b => d.updCard n (fun p => if b then { p with state := .fault, trying := none } else { p with trying := some true })
def execCardAtrTimeout (port : Nat) (s : State) : Host.Outcome State Fault Refusal := s.onDev (cardAtrTimeoutOp port)

/-- CARD_REMOVE: what the card approved stays counted (R446). -/
def cardRemoveOp (n : Nat) (_ : Ctx) (d : Dev) : Dev :=
  if (d.cardPort n).present then (d.updCard n (fun p => { p with state := .empty, present := false, trying := none })).evtBit Off.cusEvt 0 else d
def execCardRemove (port : Nat) (s : State) : Host.Outcome State Fault Refusal := s.onDev (cardRemoveOp port)

/-- A write of CUS_PORT_CTRL: a port that is enabled activates the card in it, one that is disabled deactivates it. -/
def portCtrlW (v : Word) (d : Dev) : WOut :=
  let d1 := d.setReg Off.cusPortCtrl (v &&& 3#32)
  .took ((List.range 2).foldl (fun (a : Dev) n =>
    if bit v n = d.cardOn n then a
    else a.updCard n (fun p => { p with state := .empty, trying := if bit v n && p.present then some false else none })) d1)

/-! ### Registers (R463 to R465) -/

/-- A register of the selected slot, which must be IDLE. -/
def cerFieldW (f : Ceremony → Ceremony) (d : Dev) : WOut :=
  let n := fld (d.reg Off.cusCerSel) 1 0
  if (d.cer n).state ≠ .idle then .drop else .took (d.updCer n f)

def putLo (v : Word) (x : Nat) : Nat := x / 2 ^ 32 * 2 ^ 32 + v.toNat
def putHi (v : Word) (x : Nat) : Nat := x % 2 ^ 32 + v.toNat * 2 ^ 32

def cusW (c : Ctx) (off : Nat) (v : Word) (d : Dev) : WOut :=
  if off = Off.cusPortCtrl then portCtrlW v d
  else if off = Off.cusCerSel then .took (d.setReg off (v &&& 3#32))
  else if off = Off.cusCerCfg then cerFieldW (fun k => { k with cfg := v &&& 0x83FF00FF#32 }) d
  else if off = Off.cusCerCmd then cerCmdW c v none d
  else if off = Off.cusParamAddrLo then cerFieldW (fun k => { k with paramAddr := putLo v k.paramAddr }) d
  else if off = Off.cusParamAddrHi then cerFieldW (fun k => { k with paramAddr := putHi v k.paramAddr }) d
  else if off = Off.cusParamLen then .took (d.updCer (fld (d.reg Off.cusCerSel) 1 0) (fun k => { k with paramLen := v.toNat }))
  else if off = Off.cusRespAddrLo then cerFieldW (fun k => { k with respAddr := putLo v k.respAddr }) d
  else if off = Off.cusRespAddrHi then cerFieldW (fun k => { k with respAddr := putHi v k.respAddr }) d
  else if off = Off.cusWindow then
    (if !d.quorum off v then .viol else if fld v 8 0 < 10 ∨ 300 < fld v 8 0 then .drop else .took (d.setReg off (v &&& 0x1FF#32)))
  else if off = Off.cusScopeSel then .took (d.setReg off (v &&& 0x800003FF#32))
  else if Off.cusPolicy ≤ off ∧ off < Off.cusPolicy + 64 then
    (let n := (off - Off.cusPolicy) / 4
     if n < 2 ∨ 8 < n then .drop
     else if !d.quorum off v then .viol
     else if fld v 3 0 < 2 ∨ fld v 3 0 < fld v 7 4 then .drop
     else .took (d.setReg off (v &&& 0xFF#32)))
  else if off = Off.cusEvt then .took (d.setReg off (d.reg off &&& ~~~v))
  else if off = Off.cusEvtEn then .took (d.setReg off (v &&& 0xF#32))
  else .drop

end Sys2Proof.Machine
end

