-- ==== Sys2Proof/Machine/Evidence.lean ====
section
/-! DEFINITION. Evidence log and event recorder at work (R493 to R516): appends, export, flushes, marks, the clear, the
merged MRAM writes (R569), and the registers of the two blocks. -/

namespace Sys2Proof.Machine

/-! ### Evidence log -/

/-- EVIDENCE_APPEND. -/
def execEvidenceAppend (s : State) : Host.Outcome State Fault Refusal := s.onDev (fun c d => if d.endpointUp then d.appendNext c else d)

/-- MRAM holds what SRAM had merged: the head count, and the repeat count of the last record (R498, R569). -/
def Evl.store (e : Evl) : Evl := { e with head := e.recs.length, recs := e.recs.map (fun (r : EvRecord) => { r with stored := r.repeats }) }

/-- MRAM_MERGE_FLUSH: at most once per 1 ms of ST. -/
def mergeFlushOp (c : Ctx) (d : Dev) : Dev :=
  if d.endpointUp && decide (d.mem.mergeSt + nsMs ≤ c.now) then { d with evl := d.evl.store, mem := { d.mem with mergeSt := c.now } } else d
def execMramMergeFlush (s : State) : Host.Outcome State Fault Refusal := s.onDev mergeFlushOp

/-! ### Export (R511, R512) -/

/-- The 256 bytes of a recorder record (R503). -/
def ErRecord.bytes (r : ErRecord) : Bytes :=
  let snap := r.snaps.flatMap (fun p => toLe 4 p.1.toNat ++ toLe 4 p.2.toNat)
  toLe 8 r.seq ++ toLe 8 r.first.toNat ++ toLe 8 r.last.toNat ++ toLe 4 r.count ++ toLe 1 r.trig ++ toLe 1 r.snaps.length ++ toLe 1 (b2n r.flushed) ++ zeros 1
    ++ (padTo 32 r.detail).take 32 ++ (padTo 128 snap).take 128 ++ zeros 64

/-- The summary without its signature. -/
def Dev.summaryBody (c : Ctx) (d : Dev) : Bytes :=
  let e := d.evl
  let last := match e.recs with | [] => zeros 64 | r :: t => r.bytes t.length
  let lost := (if e.full then (match e.recs with | r :: _ => r.repeats | [] => 0) else 0) + (d.reg Off.evlQueueLost).toNat
  toLe 2 1 ++ toLe 2 2 ++ toLe 4 256 ++ unitIdBytes ++ toLe 8 (d.reg64 Off.evlExportNonceLo) ++ toLe 8 (d.stamp c).toNat ++ toLe 4 e.recs.length
    ++ toLe 4 (sat 0xFFFFFFFF lost) ++ toLe 1 c.otp.state.code ++ toLe 1 c.otp.root ++ toLe 2 d.erc.mram.length ++ zeros 4 ++ last
    ++ sha256 (d.erc.mram.reverse.flatMap ErRecord.bytes) ++ zeros 8

def Dev.summary (c : Ctx) (d : Dev) : Bytes := let b := d.summaryBody c; b ++ c.otp.identitySign b

/-- An export ends. -/
def Dev.exportEnd (res : Nat) (d : Dev) : Dev :=
  ({ d with evl := { d.evl with exporting := false, expResult := res } }).evtBit Off.evlEvt 2

/-- A write of EVL_EXPORT_CMD: the queue is written, then the EXPORT record, and further appends are held. -/
def exportW (c : Ctx) (v : Word) (d : Dev) : WOut :=
  if !d.quorum Off.evlExportCmd v then .viol
  else if !bit v 0 then .took d
  else if d.evl.exporting then .viol
  else if c.otp.root = 0 then .took (d.exportEnd 1)
  else if d.erc.flushTo.isSome then .took (d.exportEnd 2)
  else if !d.mgmtUp then .took (d.exportEnd 4)
  else
    let d1 := d.appendAll c 64
    let q : EvCause := { typ := Ev.exported, stamp := d.stamp c, payload := padTo 28 (toLe 8 (d.reg64 Off.evlExportNonceLo) ++ toLe 4 (d1.evl.recs.length + 1)) }
    let d2 := if d1.evl.full then d1 else d1.commitCause q
    .took (({ d2 with evl := { d2.evl with exporting := true } }).fwReady c 3)
def execEvidenceExport (value : Word) (s : State) : Host.Outcome State Fault Refusal :=
  s.onDev (fun c d => d.hostWrite c Off.evlExportCmd (exportW c value))

/-- EXPORT_DONE. -/
def exportDoneOp (refused : Bool) (c : Ctx) (d : Dev) : Dev :=
  if !d.evl.exporting then d
  else if refused then d.exportEnd 3
  else (d.emit (.dma (BitVec.ofNat 64 (d.reg64 Off.evlExportAddrLo)) (d.summary c))).exportEnd 0
def execExportDone (refused : Bool) (s : State) : Host.Outcome State Fault Refusal := s.onDev (exportDoneOp refused)

def evlW (c : Ctx) (off : Nat) (v : Word) (d : Dev) : WOut :=
  if off = Off.evlCursor then .took (d.setReg off (v &&& 0xFFFF#32))
  else if off = Off.evlExportAddrLo then .took (d.setReg off (v &&& 0xFFFFFFF8#32))
  else if off = Off.evlExportAddrHi ∨ off = Off.evlExportNonceLo ∨ off = Off.evlExportNonceHi then .took (d.setReg off v)
  else if off = Off.evlExportCmd then exportW c v d
  else if off = Off.evlEvt then .took (d.setReg off (d.reg off &&& ~~~v))
  else if off = Off.evlEvtEn then .took (d.setReg off (v &&& 0xF#32))
  else .drop

/-! ### Event recorder (R502 to R509) -/

/-- The copy of a flush is complete: the records up to its start are in MRAM, oldest first, and marked in the ring. -/
def Erc.flushCopy (n : Nat) (e : Erc) : Erc :=
  let due := fun (r : ErRecord) => !r.flushed && decide (r.seq % 2 ^ 40 ≤ n)
  let all := e.ring.filter due ++ e.mram
  { e with
    ring := e.ring.map (fun (r : ErRecord) => if due r then { r with flushed := true } else r)
    mram := all.take 2048, wrapped := e.wrapped || decide (2048 < all.length), flushTo := none }

/-- The flush in progress ends. -/
def Dev.flushEnd (d : Dev) : Dev :=
  match d.erc.flushTo with
  | none => d
  | some n => ({ d with erc := d.erc.flushCopy n }).evtBit Off.ercEvt 1

/-- A write of ERC_CMD. -/
def ercCmdW (c : Ctx) (v : Word) (d : Dev) : WOut :=
  if bit v 0 ∧ d.erc.flushTo.isSome then .viol
  else
    let d1 := if bit v 1 then d.record c Trig.hostMark (toLe 4 (d.reg Off.ercMark).toNat) else d
    .took (if bit v 0 then d1.startFlush.fwReady c 3 else d1)
def execRecorderFlush (s : State) : Host.Outcome State Fault Refusal := s.onDev (fun c d => d.hostWrite c Off.ercCmd (ercCmdW c 1#32))
def execHostMark (s : State) : Host.Outcome State Fault Refusal := s.onDev (fun c d => d.hostWrite c Off.ercCmd (ercCmdW c 2#32))

/-- A write of ERC_CLEAR: the evidence record first, then both regions are erased. -/
def ercClearW (c : Ctx) (v : Word) (d : Dev) : WOut :=
  if !d.quorum Off.ercClear v then .viol
  else if !bit v 0 then .took d
  else
    let d1 := d.evidence c Ev.recorderCleared (toLe 2 d.erc.ring.length ++ toLe 2 d.erc.mram.length)
    .took (({ d1 with erc := { d1.erc with ring := [], mram := [], wrapped := false, flushTo := none } }).evtBit Off.ercEvt 2)
def execRecorderClear (value : Word) (s : State) : Host.Outcome State Fault Refusal :=
  s.onDev (fun c d => d.hostWrite c Off.ercClear (ercClearW c value))

/-- The entry of ERC_SNAP that ERC_SNAP_SEL selects. -/
def Dev.snapKey (d : Dev) : Nat := fld (d.reg Off.ercSnapSel) 2 0 * 16 + fld (d.reg Off.ercSnapSel) 11 8

def ercW (c : Ctx) (off : Nat) (v : Word) (d : Dev) : WOut :=
  let put := fun (m : Word) => WOut.took (d.setReg off (v &&& m))
  if off = Off.ercCtrl then (if 1000000 < v.toNat then .drop else put 0xFFFFF#32)
  else if off = Off.ercCmd then ercCmdW c v d
  else if off = Off.ercMark then put 0xFFFFFFFF#32
  else if off = Off.ercClear then ercClearW c v d
  else if off = Off.ercTrigSel then (if fld v 3 0 = 0 then .drop else put 0xF#32)
  else if off = Off.ercTrigCfg then
    (if 4 < fld v 2 0 then .drop
     else
       let k := fld (d.reg Off.ercTrigSel) 3 0
       .took { d with erc := { d.erc with trigCfg := d.erc.trigCfg.filter (fun p => p.1 != k) ++ (if fld v 2 0 = 0 then [] else [(k, fld v 2 0)]) } })
  else if off = Off.ercSnapSel then (if fld v 2 0 = 0 ∨ 4 < fld v 2 0 then .drop else put 0xF07#32)
  else if off = Off.ercSnap then
    (if v.toNat % 4 ≠ 0 then .drop
     else
       let w := v &&& 0x83FFFFFF#32
       .took { d with erc := { d.erc with snaps := d.erc.snaps.filter (fun p => p.1 != d.snapKey) ++ (if w = 0#32 then [] else [(d.snapKey, w)]) } })
  else if off = Off.ercCursor then (if bit v 0 = false ∧ 1023 < fld v 26 16 then .drop else put 0x07FF0001#32)
  else if off = Off.ercEvt then .took (d.setReg off (d.reg off &&& ~~~v))
  else if off = Off.ercEvtEn then put 7#32
  else .drop

end Sys2Proof.Machine
end

