-- ==== Sys2Proof/Machine/LifeCycle.lean ====
section
/-! DEFINITION. Life cycle and debug (R517 to R543): transition requests, the debug challenge and response, the debug scope,
boundary scan, memory test modes, the fuse port, and the registers of the block. The transition itself is in Startup. -/

namespace Sys2Proof.Machine

/-! ### Transition requests (R523 to R525) -/

/-- Signature bytes of an algorithm code. -/
def svcSigLen (alg : Nat) : Nat := if alg = 2 then 96 else 3309

/-- A transition that R523 knows. -/
def pathOk (a b : Nat) : Bool := decide (a < 5) && (b == a + 1 || b == 5)

/-- The first failed check of a request, 0 where none fails. -/
def lcRequestFail (c : Ctx) (r : DmaRead) (d : Dev) : Nat :=
  let o := c.otp
  let b := r.data
  if r.refused ∨ r.failed ∨ b.length < 48 ∨ le b 0 2 ≠ 1 ∨ (le b 2 2 ≠ 2 ∧ le b 2 2 ≠ 3) ∨ allZero (bsub b 30 18) = false then 1
  else if le b 4 4 ≠ svcSigLen (le b 2 2) ∨ b.length < 48 + le b 4 4 ∨ d.nymjorSig c b = false then 2
  else if unitIdIs b 8 = false ∨ le b 24 4 ≠ o.counter then 3
  else if byteAt b 28 ≠ o.state.code ∨ o.inTransition = true ∨ pathOk (byteAt b 28) (byteAt b 29) = false then 4
  else if 64 ≤ o.counter then 5
  else 0

/-- LOAD with the request that the device reads. -/
def lcLoadW (c : Ctx) (r : DmaRead) (d : Dev) : WOut :=
  let f := lcRequestFail c r d
  .took (({ d with lcs := { d.lcs with reqResult := f, reqLoaded := if f = 0 then some (byteAt r.data 29, c.otp.counter) else none } }).evtBit Off.lcsEvt 0)
def execLcRequestLoad (req : Bytes) (read : DmaEnd) (s : State) : Host.Outcome State Fault Refusal :=
  s.onDev (fun c d => d.hostWrite c Off.lcsReqCtrl (lcLoadW c (dmaRead req read)))

/-! ### Debug challenge and response (R536, R537) -/

/-- A debug command completes. -/
def Dev.dbgDone (res : Nat) (d : Dev) : Dev := ({ d with lcs := { d.lcs with dbgResult := res } }).evtBit Off.lcsEvt 3

/-- CHALLENGE. Where no reopen exists that is the result, whatever the DRBG can do. -/
def Dev.dbgChallenge (c : Ctx) (d : Dev) : Dev :=
  if !c.otp.both LcState.reopens then d.dbgDone 1
  else if !d.mgmtDrbg then d.dbgDone 2
  else
    let (n, d1) := d.mgmtNonce c
    let ch : DbgChal := { nonce := n, state := c.otp.state.code, scope := fld (d.reg Off.lcsDbgReq) 1 0, issued := c.now, stamp := d.stamp c }
    ({ d1 with lcs := { d1.lcs with chal := some ch } }).dbgDone 0

/-- The 40 bytes of a challenge. -/
def DbgChal.bytes (k : DbgChal) : Bytes :=
  toLe 2 1 ++ toLe 1 k.state ++ toLe 1 k.scope ++ toLe 4 0 ++ unitIdBytes ++ toLe 8 k.nonce.toNat ++ toLe 8 k.stamp.toNat

/-- Scope, lifetime and nonce of a response; or the result that rejects it. -/
def dbgResponse (c : Ctx) (r : DmaRead) (d : Dev) : Except Nat (Nat × Nat × Nat) :=
  let b := r.data
  let life := le b 36 4
  let form := !r.refused && !r.failed && le b 0 2 == 1 && (le b 2 2 == 2 || le b 2 2 == 3) && le b 4 4 == svcSigLen (le b 2 2)
    && decide (48 + le b 4 4 ≤ b.length) && decide (1 ≤ life ∧ life ≤ 86400) && allZero (bsub b 34 2) && allZero (bsub b 40 8)
  if form = false ∨ d.nymjorSig c b = false then .error 3
  else match d.lcs.chal with
    | none => .error 4
    | some k =>
      if unitIdIs b 8 = false ∨ le b 24 8 ≠ k.nonce.toNat ∨ byteAt b 32 ≠ k.state ∨ byteAt b 33 ≠ k.scope then .error 4
      else if k.used = true ∨ k.issued + 600 * nsS < c.now then .error 5
      else .ok (k.scope, life, k.nonce.toNat % 65536)

/-- GO of LCS_DBG_TOKEN_CTRL with the response that the device reads. -/
def dbgTokenW (c : Ctx) (r : DmaRead) (d : Dev) : WOut :=
  match dbgResponse c r d with
  | .error e => .took (d.dbgDone e)
  | .ok x => .took (({ d with lcs := { d.lcs with resp := some x, chal := d.lcs.chal.map (fun (k : DbgChal) => { k with used := true }) } }).dbgDone 6)
def execDebugTokenGo (resp : Bytes) (read : DmaEnd) (s : State) : Host.Outcome State Fault Refusal :=
  s.onDev (fun c d => d.hostWrite c Off.lcsDbgTokenCtrl (dbgTokenW c (dmaRead resp read)))

/-! ### The scope (R538, R539) -/

/-- A write of LCS_DBG_OPEN. -/
def dbgOpenW (c : Ctx) (v : Word) (d : Dev) : WOut :=
  match d.lcs.resp with
  | none => .viol
  | some (scope, life, nonce) =>
    if fld v 1 0 ≠ scope ∨ fld v 31 16 ≠ nonce then .viol
    else if c.otp.state ≠ .factoryLocked ∧ d.quorum Off.lcsDbgOpen v = false then .viol
    else
      let id := if c.otp.state = .factoryLocked then 0 else (d.openCer? 3).elim 0 (fun k => k.id.toNat)
      let d1 := { d with lcs := { d.lcs with resp := none, scope := scope, expiry := c.now + life * nsS } }
      .took (((d1.setReg Off.lcsDbgOpen (v &&& 0xFFFF0003#32)).evidence c Ev.debugOpen (toLe 1 scope ++ zeros 3 ++ toLe 8 id)).evtBit Off.lcsEvt 1)
def execDebugOpen (value : Word) (s : State) : Host.Outcome State Fault Refusal :=
  s.onDev (fun c d => d.hostWrite c Off.lcsDbgOpen (dbgOpenW c value))

/-- A write of LCS_DBG_CMD. -/
def dbgCmdW (c : Ctx) (v : Word) (d : Dev) : WOut :=
  let d1 := if bit v 1 then d.dbgReset c else d
  .took (if bit v 0 then d1.dbgChallenge c else d1)
def execDebugChallenge (s : State) : Host.Outcome State Fault Refusal := s.onDev (fun c d => d.hostWrite c Off.lcsDbgCmd (dbgCmdW c 1#32))
def execDebugClose (s : State) : Host.Outcome State Fault Refusal := s.onDev (fun c d => d.hostWrite c Off.lcsDbgCmd (dbgCmdW c 2#32))

/-- DEBUG_EXPIRY. -/
def debugExpiryOp (c : Ctx) (d : Dev) : Dev := if d.lcs.expiry ≤ c.now then d.dbgReset c else d
def execDebugExpiry (s : State) : Host.Outcome State Fault Refusal := s.onDev debugExpiryOp

/-! ### Test access port (R540, R628) -/

/-- An instruction of the port, which answers while the part is powered. -/
def Dev.onJtag (code : Nat) (f : Dev → Dev) (d : Dev) : Dev :=
  if d.pwr.powered then let d1 := f d; { d1 with lcs := { d1.lcs with jtag := code } } else d

/-- IDCODE. MAJOR is that of HIF_DEV_REV. -/
def idcode (c : Ctx) (d : Dev) : Nat := fld (d.readReg c Off.hifDevRev) 11 8 * 2 ^ 28 + 0x7160 * 2 ^ 12 + 0x4E3 * 2 + 1

/-- One bit through the bypass register, which starts at 0 when BYPASS, CLAMP or HIGHZ is entered. -/
def Dev.bypassBit (tdi : Bool) (d : Dev) : Dev :=
  let old := d.lcs.jtag == Jtag.bypass && d.lcs.bypass
  ({ d with lcs := { d.lcs with bypass := tdi } }).emit (.tdo 1 (b2n old))

/-- The boundary register captures the balls and is shifted out. -/
def Dev.scanPins (pins : Bytes) (d : Dev) : Dev :=
  ({ d with lcs := { d.lcs with bscan := pins } }).emit (.tdo (8 * pins.length) (le pins 0 pins.length))

def execJtagBypass (tdi : Bool) (s : State) : Host.Outcome State Fault Refusal := s.onDev (fun _ d => d.onJtag Jtag.bypass (Dev.bypassBit tdi))
def execJtagIdcode (s : State) : Host.Outcome State Fault Refusal :=
  s.onDev (fun c d => d.onJtag Jtag.idcode (fun d => d.emit (.tdo 32 (idcode c d))))
def execJtagSamplePreload (pins preload : Bytes) (s : State) : Host.Outcome State Fault Refusal :=
  s.onDev (fun _ d => d.onJtag Jtag.sample (fun d => let e := d.scanPins pins; { e with lcs := { e.lcs with preload := preload } }))
def execJtagExtest (pins : Bytes) (s : State) : Host.Outcome State Fault Refusal := s.onDev (fun _ d => d.onJtag Jtag.extest (Dev.scanPins pins))

/-- CLAMP and HIGHZ: the outputs stand at the preloaded values, or are released; the bypass register is selected. -/
def Dev.selectBypass (d : Dev) : Dev := { d with lcs := { d.lcs with bypass := false } }
def execJtagClamp (s : State) : Host.Outcome State Fault Refusal := s.onDev (fun _ d => d.onJtag Jtag.clamp Dev.selectBypass)
def execJtagHighz (s : State) : Host.Outcome State Fault Refusal := s.onDev (fun _ d => d.onJtag Jtag.highz Dev.selectBypass)

/-- MEMORY_TEST_MODE: entered where the state allows it and no ring pair is defined; left only by a power-on reset (R533). -/
def memTestOp (enter : Bool) (c : Ctx) (d : Dev) : Dev :=
  if enter && d.pwr.powered && c.otp.testsAllowed && d.ringsDefined == 0 then { d with lcs := { d.lcs with memTest := true } } else d
def execMemoryTestMode (enter : Bool) (s : State) : Host.Outcome State Fault Refusal := s.onDev (memTestOp enter)

/-! ### The fuse port (R519, R570) -/

/-- Bytes of a fuse group, its check word the last four: unit ID, roots, Nymjor service key, trims. -/
def fuseBytes (g : Nat) : Nat := [20, 100, 149, 260].getD g 0

/-- Bits of a fuse word are set; none is ever cleared. -/
def Otp.program (g w : Nat) (v : Word) (o : Otp) : Otp :=
  { o with words := (g, w, o.word g w ||| v) :: o.words.filter (fun x => !(x.1 == g && x.2.1 == w)) }

/-- FUSE_PROGRAM: in BLANK alone, one word of a group. -/
def execFuseProgram (group word : Nat) (value : Word) (s : State) : Host.Outcome State Fault Refusal :=
  .next (if s.otp.state == .blank && !s.otp.inTransition && s.otp.openRec.isNone && s.dev.pwr.powered && decide (4 * word < fuseBytes group) then
    { s with otp := s.otp.program group word value } else s)

/-- A fuse group agrees with its check word. -/
def Otp.groupOk (o : Otp) (g : Nat) : Bool :=
  let n := fuseBytes g
  let b := ((List.range (ceilDiv n 4)).flatMap (fun w => toLe 4 (o.word g w).toNat)).take n
  (crc32c (b.take (n - 4))).toNat == le b (n - 4) 4

/-! ### GO (R526, R527, R529) -/

/-- The result of a GO that meets a request, 0 where the transition starts. -/
def Dev.lcGoRefused (c : Ctx) (v : Word) (d : Dev) : Nat :=
  match d.lcs.reqLoaded with
  | none => 1
  | some (t, n) =>
    if fld v 2 0 ≠ t ∨ fld v 15 8 ≠ n then 2
    else if d.ringsDefined ≠ 0 ∨ d.fab.pair.role ≠ .unpaired ∨ d.warning = true ∨ (c.otp.state = .blank ∧ (List.range 4).all c.otp.groupOk = false) then 3
    else 0

/-- A write of LCS_GO. A transition that starts closes the debug scope and queues the record of its INTENT step; the fuses and
the restart follow in `State.goLatch`. -/
def lcGoW (c : Ctx) (v : Word) (d : Dev) : WOut :=
  let d0 := d.setReg Off.lcsGo (v &&& 0x8000FF07#32)
  if (c.otp.state = .field ∨ c.otp.state = .fieldReturn) ∧ d.quorum Off.lcsGo v = false then .viol
  else if !bit v 31 then .took d0
  else
    let r := d.lcGoRefused c v
    if r ≠ 0 then .took { d0 with lcs := { d0.lcs with goResult := r } }
    else
      let a := c.otp.state.code
      let t := fld v 2 0
      let d1 := { d0 with lcs := { d0.lcs with goResult := 0, reqLoaded := none, report := some (a, t) } }
      .took ((d1.dbgReset c).evidence c Ev.lifecycle (toLe 1 a ++ toLe 1 t ++ toLe 1 0))

/-! ### Registers (R541 to R543) -/

/-- The registers that a host writes. LOAD and the response's GO act only with what they read (log entry 3). -/
def lcsW (c : Ctx) (off : Nat) (v : Word) (d : Dev) : WOut :=
  if off = Off.lcsReqAddrLo ∨ off = Off.lcsReqAddrHi ∨ off = Off.lcsDbgTokenAddrLo ∨ off = Off.lcsDbgTokenAddrHi then .took (d.setReg off v)
  else if off = Off.lcsDbgReq then (if fld v 1 0 = 0 ∨ fld v 1 0 = 3 then .drop else .took (d.setReg off (v &&& 3#32)))
  else if off = Off.lcsDbgCmd then dbgCmdW c v d
  else if off = Off.lcsDbgOpen then dbgOpenW c v d
  else if off = Off.lcsGo then lcGoW c v d
  else if off = Off.lcsEvt then .took (d.setReg off (d.reg off &&& ~~~v))
  else if off = Off.lcsEvtEn then .took (d.setReg off (v &&& 0xF#32))
  else .drop

end Sys2Proof.Machine
end

