-- ==== Sys2Proof/Machine/Access.lean ====
section
/-! DEFINITION. Access rules at work (R549 to R554, R559 to R563): staging, commit, replication, the fence, the violation
latch, and the registers of the block. -/

namespace Sys2Proof.Machine

/-! ### Commit (R550, R552, R553) -/

/-- The rules of R546 on a region: its size, and a base that is a multiple of it. -/
def Region.fits (r : Region) : Bool := decide (12 ≤ r.size ∧ r.size ≤ 40) && r.base % 2 ^ r.size == 0

/-- The lowest enabled staged region that breaks them. -/
def AccT.badRegion (a : AccT) : Option Nat := (List.range 64).find? (fun i => bit (a.staged.getD i {}).cfg 0 && !(a.staged.getD i {}).fits)

/-- The staged table is committed, or refused. -/
def Dev.accCommit (d : Dev) : Dev :=
  let a := d.acc
  match a.badRegion with
  | some i => ({ d with acc := { a with result := 1, badRgn := i } }).evtBit Off.accEvt 1
  | none => { d with acc := { a with committed := a.staged, older := some a.committed, epoch := (a.epoch + 1) % 65536, result := 0 } }

/-- A write of ACC_COMMIT. -/
def accCommitW (v : Word) (d : Dev) : WOut :=
  if d.acc.older.isSome ∧ fld v 1 0 ≠ 0 then .viol
  else
    let d1 := if bit v 0 then d.accCommit else d
    .took (if bit v 1 then { d1 with acc := { d1.acc with staged := d1.acc.committed } } else d1)
def execAccCommit (s : State) : Host.Outcome State Fault Refusal := s.onDev (fun c d => d.hostWrite c Off.accCommit (accCommitW 1#32))
def execAccDiscard (s : State) : Host.Outcome State Fault Refusal := s.onDev (fun c d => d.hostWrite c Off.accCommit (accCommitW 2#32))

/-- COMMIT_REPLICATED: the last gate has the new rules. -/
def commitReplicatedOp (_ : Ctx) (d : Dev) : Dev :=
  if d.acc.older.isSome then ({ d with acc := { d.acc with older := none } }).evtBit Off.accEvt 1 else d
def execCommitReplicated (s : State) : Host.Outcome State Fault Refusal := s.onDev commitReplicatedOp

/-! ### The fence (R554) -/

/-- A write of ACC_FENCE. -/
def accFenceW (v : Word) (d : Dev) : WOut :=
  if !bit v 0 then .took d
  else if d.acc.fence then .viol
  else .took { d with acc := { d.acc with fence := true, fenceEpoch := d.acc.epoch } }
def execAccFenceStart (s : State) : Host.Outcome State Fault Refusal := s.onDev (fun c d => d.hostWrite c Off.accFence (accFenceW 1#32))

/-- Every gate holds the epoch that the fence recorded. While a commit is replicated some gate holds the one before it. -/
def AccT.gatesHold (a : AccT) : Bool := a.older.isNone || a.fenceEpoch != a.epoch

/-- ACC_FENCE_DONE: accesses are whole commands, so none checked before is still under way. -/
def accFenceDoneOp (_ : Ctx) (d : Dev) : Dev :=
  if d.acc.fence && d.acc.gatesHold then ({ d with acc := { d.acc with fence := false } }).evtBit Off.accEvt 2 else d
def execAccFenceDone (s : State) : Host.Outcome State Fault Refusal := s.onDev accFenceDoneOp

/-! ### The violation latch (R559, R563) -/

/-- A write of ACC_VIOL_STAT: VALID alone is affected, and with it goes ACC_VIOL_MORE. -/
def violStatW (v : Word) (d : Dev) : WOut :=
  if bit v 0 then .took (({ d with acc := { d.acc with viol := d.acc.viol &&& ~~~1#32 } }).clrReg Off.accViolMore) else .took d
def execViolationClear (s : State) : Host.Outcome State Fault Refusal := s.onDev (fun c d => d.hostWrite c Off.accViolStat (violStatW 1#32))

/-! ### Staging registers (R551, R561, R562) -/

/-- A staging register of a region, by its offset within the region, with the bits that the fields name. -/
def Region.put (k : Nat) (v : Word) (r : Region) : Region :=
  if k = 0 then { r with baseLo := v &&& 0xFFFFF000#32 }
  else if k = 4 then { r with baseHi := v &&& 0xFFFF#32 }
  else if k = 8 then { r with cfg := v &&& 0x00FF3F03#32 }
  else { r with perm := v &&& 0x03FF03FF#32 }

/-- The staged value is stored. -/
def Dev.stageRegion (i k : Nat) (v : Word) (d : Dev) : Dev :=
  { d with acc := { d.acc with staged := d.acc.staged.set i ((d.acc.staged.getD i {}).put k v) } }

/-- A write is under the custodians' rule: the region is protected, staged or committed, or would become so. -/
def AccT.guarded (a : AccT) (i k : Nat) (v : Word) : Bool :=
  bit (a.staged.getD i {}).cfg 1 || bit (a.committed.getD i {}).cfg 1 || (k == 8 && bit v 1)

/-- A write of a staging register; `force` is the configuration load (R607). -/
def regionW (off : Nat) (v : Word) (force : Bool) (d : Dev) : WOut :=
  let i := (off - Off.accRgnBaseLo) / 16
  let k := (off - Off.accRgnBaseLo) % 16
  if d.acc.guarded i k v && !force && !d.quorum off v then .viol else .took (d.stageRegion i k v)

def accW (off : Nat) (v : Word) (force : Bool) (d : Dev) : WOut :=
  if off = Off.accCommit then accCommitW v d
  else if off = Off.accFence then accFenceW v d
  else if off = Off.accViolStat then violStatW v d
  else if off = Off.accEvt then .took (d.setReg off (d.reg off &&& ~~~v))
  else if off = Off.accEvtEn then .took (d.setReg off (v &&& 0xF#32))
  else if Off.accRgnBaseLo ≤ off ∧ off < Off.accRgnBaseLo + 1024 then regionW off v force d
  else .drop

/-! ### Debug denials (R560) -/

/-- A denial of the debug master is reported and counted; the sixteenth within 1 s of ST is an evidence record. -/
def Dev.debugDenied (c : Ctx) (kind region epoch addr : Nat) (d : Dev) : Dev :=
  let d0 := d.violation c kind Mst.debug region epoch addr
  let old := within c.now nsS d0.acc.dbgDenied
  let first := match old with | [] => region | _ => d0.acc.dbgRegion
  if 15 ≤ old.length then
    (({ d0 with acc := { d0.acc with dbgDenied := [], dbgRegion := 0, dbgError := true } }).evidence c Ev.debugDenials (toLe 1 first ++ zeros 3 ++ toLe 4 16)).evtBit Off.accEvt 3
  else { d0 with acc := { d0.acc with dbgDenied := c.now :: old, dbgRegion := first, dbgError := true } }

end Sys2Proof.Machine
end

