-- ==== Sys2Proof/Machine/Memories.lean ====
section
/-! DEFINITION. Memories at work (R565 to R584): the scrubs with what an uncorrectable error comes to, a management pair's
reset (R17), and the registers of the block. Which record lies at an address of a region the spec does not state: where
that matters it is a free choice (log entry 7). -/

namespace Sys2Proof.Machine

/-! ### Management pairs (R17) -/

/-- Bytes that nothing states: the content of a lost record, the program counters of a pair (log entry 7). -/
def lostBytes (n len : Nat) : Bytes := mkBytes len (fun i => BitVec.ofNat 8 (Config.freeNat n (1000 + i)))

/-- A pair goes out of service: its threads are on the other pair. -/
def Dev.mgmtOut (c : Ctx) (n : Nat) (d0 : Dev) : Dev :=
  let d := d0.fwAdvance c
  let move := fun (f : FwTask) => if f.pair = n then { f with pair := 1 - n } else f
  { d with
    pwr := { d.pwr with mgmtOk := d.pwr.mgmtOk.set n false }
    dsp := { d.dsp with fw := (d.dsp.fw.map move).foldr insertFw [] } }

/-- A pair is reset: a recorder record, its threads on the other pair, and FW_UNAVAILABLE where none is left. -/
def Dev.mgmtReset (c : Ctx) (n : Nat) (d : Dev) : Dev :=
  if d.pwr.mgmtOk.getD n false = false then d
  else
    let d2 := ((d.mgmtOut c n).record c Trig.mgmtDisagree (toLe 1 n ++ lostBytes c.now 8)).startFlush
    if d2.mgmtUp then d2 else d2.alarm c 0x10

/-- Debug halts a pair that is in service: it counts as out of service (R535), and no record is written of it. -/
def Dev.mgmtHaltBy (c : Ctx) (n : Nat) (d : Dev) : Dev :=
  if d.pwr.mgmtOk.getD n false = false then d
  else
    let e := d.mgmtOut c n
    let e2 : Dev := { e with pwr := { e.pwr with mgmtHalt := e.pwr.mgmtHalt.set n true } }
    if e2.mgmtUp then e2 else e2.alarm c 0x10

/-- MGMT_DISAGREE. -/
def mgmtDisagreeOp (n : Nat) (c : Ctx) (d : Dev) : Dev := if d.endpointUp then d.mgmtReset c n else d
def execMgmtDisagree (pair : Nat) (s : State) : Host.Outcome State Fault Refusal := s.onDev (mgmtDisagreeOp pair)

/-- MGMT_PAIR_RESET_DONE: FW_UNAVAILABLE stops firing. A pair that debug has halted is not in a reset. -/
def mgmtResetDoneOp (n : Nat) (c : Ctx) (d : Dev) : Dev :=
  if d.endpointUp && decide (n < 2) && !d.pwr.mgmtOk.getD n true && !d.pwr.mgmtHalt.getD n false then
    let d := d.fwAdvance c
    { d with pwr := { d.pwr with mgmtOk := d.pwr.mgmtOk.set n true }, tmp := { d.tmp with active := d.tmp.active &&& ~~~(1#32 <<< 0x10) } }
  else d
def execMgmtPairResetDone (pair : Nat) (s : State) : Host.Outcome State Fault Refusal := s.onDev (mgmtResetDoneOp pair)

/-! ### SRAM (R565, R566) -/

/-- The array of an SRAM address: its code, and the grove or lane. -/
def sramArray (a : Nat) : Option (Nat × Nat) :=
  if 0x08000000 ≤ a ∧ a < 0x08000000 + 0x1800000 then some (Arr.shared, 0)
  else if 0x10000000 ≤ a ∧ a < 0x10000000 + 12 * 0x800000 ∧ a % 0x800000 < 0x600000 then some (Arr.grove, (a - 0x10000000) / 0x800000)
  else if 0x18000000 ≤ a ∧ a < 0x18000000 + 192 * 0x10000 then some (Arr.lane, (a - 0x18000000) / 0x10000)
  else none

/-- A recorder record is discarded, and counted. -/
def Dev.ringRecordLost (n : Nat) (d : Dev) : Dev :=
  if d.erc.ring.isEmpty then d else ({ d with erc := { d.erc with ring := d.erc.ring.eraseIdx (n % d.erc.ring.length) } }).bump Off.ercLost

/-- An uncorrectable word of shared SRAM: journal head (reloaded from its body), dispatch state (from its other copy, or
STATE_INTEGRITY), recorder ring, or management memory. -/
def Dev.sharedLost (c : Ctx) (a : Nat) (d : Dev) : Dev :=
  match Config.freeNat c.now a % 4 with
  | 0 => d
  | 1 => if Config.freeBool c.now a then d.alarm c 0x09 else d
  | 2 => d.ringRecordLost (Config.freeNat c.now (a + 1))
  | _ => d.mgmtReset c (Config.freeNat c.now (a + 1) % 2)

/-- Grove state other than staged input: rebuilt, its items PLACED again without a restart. Staged input is
STAGING_ECC_ERROR's. -/
def Dev.groveLost (c : Ctx) (g a : Nat) (d : Dev) : Dev :=
  if Config.freeBool c.now a then d
  else (d.groveItems g .running ++ d.groveItems g .suspended).foldl (fun x i => x.goBack c i.slot false) d

/-- A lane's own memory: a DATA mismatch of the item that its twin runs (R245). -/
def Dev.laneLost (c : Ctx) (t : Nat) (d : Dev) : Dev :=
  match ((d.twin t).running).bind d.item? with
  | some i => if (d.twin t).state = .inService then d.mismatch c t .data false i else d
  | none => d

/-- What a code finds in a word (R565, R568): nothing, an error that it corrects, or one that it does not. -/
inductive Found where
  | clean | corrected | lost
deriving DecidableEq, Repr

/-- A code that corrects `k` wrong bits of a word and finds one more; how it takes still more wrong bits the spec does not
state, and they count as found (log entry 90). -/
def foundBy (k bad : Nat) : Found := if bad = 0 then .clean else if bad ≤ k then .corrected else .lost
/-- Parity of 32 bits corrects nothing, and finds an odd number. -/
def foundParity (bad : Nat) : Found := if bad % 2 = 1 then .lost else .clean

/-- SRAM_SCRUB of a word with so many wrong bits: SECDED, in a lane parity. -/
def sramScrubOp (a bad : Nat) (c : Ctx) (d : Dev) : Dev :=
  match sramArray a with
  | none => d
  | some (k, n) =>
    if !d.endpointUp then d
    else match (if k = Arr.lane then foundParity bad else foundBy 1 bad) with
      | .clean => d
      | .corrected => d.memError k 0 0 a
      | .lost =>
        let d1 := d.memError k 1 0 a
        if k = Arr.grove then d1.groveLost c n a else if k = Arr.lane then d1.laneLost c (n / 2) else d1.sharedLost c a
def execSramScrub (addr bad : Nat) (s : State) : Host.Outcome State Fault Refusal := s.onDev (sramScrubOp addr bad)

/-! ### MRAM (R567, R568) -/

/-- One of a list is lost. -/
def dropAt {α : Type} (n : Nat) (l : List α) : List α := if l.isEmpty then l else l.eraseIdx (n % l.length)

/-- The region's own check on an uncorrectable word. -/
def Dev.mramLost (c : Ctx) (o : Nat) (d : Dev) : Dev :=
  let n := Config.freeNat c.now o
  if o < 0x800000 then { d with key := { d.key with slots := dropAt n d.key.slots } }
  else if o < 0xC00000 then
    { d with evl := { d.evl with recs := d.evl.recs.mapIdx (fun i (r : EvRecord) =>
        if i + 1 + (o - 0x800000) / 64 = d.evl.recs.length then { r with payload := lostBytes n 28 } else r) } }
  else if o < 0xD00000 then
    { d with key := { d.key with slots := d.key.slots.eraseP (fun x => some x == (d.key.slots.filter (fun y => y.ext != 0))[n % (d.key.slots.filter (fun y => y.ext != 0)).length]?) } }
  else if o < 0xE00000 ∨ (0xEC0000 ≤ o ∧ o < 0xEF9000) then { d with jnl := { d.jnl with anchor := d.jnl.anchor.map (fun (a : Anchor) => { a with crcOk := false }) } }
  else if o < 0xE80000 then
    { d with erc := { d.erc with mram := d.erc.mram.mapIdx (fun i (r : ErRecord) => if i = n % d.erc.mram.length then { r with detail := lostBytes n 32 } else r) } }
  else if o < 0xEA0000 then { d with key := { d.key with domains := dropAt n d.key.domains } }
  else if o < 0xEB0000 then { d with cfg := { d.cfg with a := none } }
  else if o < 0xEC0000 then { d with cfg := { d.cfg with b := none } }
  else if 0xEFEC00 ≤ o ∧ o < 0xFFF000 then { d with cus := { d.cus with scopes := dropAt n d.cus.scopes } }
  else d

/-- MRAM_SCRUB of a word with so many wrong bits: BCH corrects two (R568). -/
def mramScrubOp (a bad : Nat) (c : Ctx) (d : Dev) : Dev :=
  if !d.endpointUp || !decide (0x20000000 ≤ a ∧ a < 0x21000000) then d
  else match foundBy 2 bad with
    | .clean => d
    | .corrected => d.memError Arr.mram 0 0 a
    | .lost => (d.memError Arr.mram 1 0 a).mramLost c (a - 0x20000000)
def execMramScrub (addr bad : Nat) (s : State) : Host.Outcome State Fault Refusal := s.onDev (mramScrubOp addr bad)

/-! ### DDR5 (R574, R575, R580, R581) -/

abbrev ddrBase : Nat := 0x010000000000

/-- Installed DDR5 in bytes: usable is 15/16 of it. -/
def Mem.installed (m : Mem) : Nat := m.usable * 0x100000 * 16 / 15

/-- A correction attributed to a device; more than 1,024 within 1 h of ST are too many. -/
def Dev.ddrCorrected (c : Ctx) (k a : Nat) (d : Dev) : Dev :=
  let d1 := d.memError Arr.ddr 0 k a
  let sts := (k, c.now) :: d1.mem.devSts.filter (fun p => decide (c.now < p.2 + 3600 * nsS))
  let m := { d1.mem with devCe := upsert (fun p => p.1 == k) (k, 0) (fun p => (k, p.2 + 1)) d1.mem.devCe, devSts := sts }
  if 1024 < (sts.filter (fun p => p.1 == k)).length ∧ m.degraded = false then ({ d1 with mem := { m with degraded := true } }).evtBit Off.memEvt 0
  else { d1 with mem := m }

/-- A line that is not delivered. -/
def Dev.ddrLost (c : Ctx) (kind k a : Nat) (d : Dev) : Dev := (d.memError Arr.ddr kind k a).alarm c 0x0A

/-- DDR_PATROL_SCRUB: one line, the devices that hold wrong symbols of it, and whether its tag then agrees (R574, R575, R580). A
device is numbered with its rank times 64. The last line ends a pass. -/
def patrolOp (a : Nat) (bad : List Nat) (tagOk : Bool) (c : Ctx) (d : Dev) : Dev :=
  if !d.endpointUp || !d.mem.ddrReady || !decide (ddrBase ≤ a ∧ a < ddrBase + d.mem.installed) then d
  else
    let d1 := match bad.dedup with
      | k :: _ :: _ => d.ddrLost c 1 k a
      | [k] => let e := d.ddrCorrected c k a; if tagOk then e else e.ddrLost c 2 0 a
      | [] => if tagOk then d else d.ddrLost c 2 0 a
    if d1.mem.installed ≤ a - ddrBase + 128 then (d1.bump Off.memScrubStat).evtBit Off.memEvt 3 else d1
def execDdrPatrolScrub (addr : Nat) (bad : List Nat) (tagOk : Bool) (s : State) : Host.Outcome State Fault Refusal :=
  s.onDev (patrolOp addr bad tagOk)

/-! ### Registers (R582 to R584) -/

def memW (_ : Ctx) (off : Nat) (v : Word) (d : Dev) : WOut :=
  if off = Off.memScrubCtrl then (if fld v 7 0 < 1 ∨ 72 < fld v 7 0 then .drop else .took (d.setReg off (v &&& 0xFF#32)))
  else if off = Off.memDdrDevSel then
    (if 39 < fld v 5 0 ∨ (bit v 8 = true ∧ bit d.mem.cfg 8 = false) then .drop else .took (d.setReg off (v &&& 0x13F#32)))
  else if off = Off.memEvt then .took (d.setReg off (d.reg off &&& ~~~v))
  else if off = Off.memEvtEn then .took (d.setReg off (v &&& 0x1F#32))
  else .drop

end Sys2Proof.Machine
end

