-- ==== Sys2Proof/Machine/Pke.lean ====
section
/-! DEFINITION. Public-key engines (R284 to R318): dispatch, the end of an engine phase, abort, the engine clearing, and the
registers of the block. -/

namespace Sys2Proof.Machine

/-! ### PKE_DISPATCH (R157, R285) -/

/-- A PLACED item that its grove's engine may take. -/
def Dev.engineReady (d : Dev) (g : Nat) (i : Item) : Bool :=
  i.ds == .placed && i.grove == g && Desc.usesEngine i.desc && i.keysOk && i.staged && i.notBefore.isNone && i.mark.isNone
    && i.mayJoin (d.engine g).joinSt
    && (i.rnd.isSome || !Desc.drawsRandom i.desc || (d.drbg g).serves)

/-- The operand RAM in the engine phase of an item: its operands, and the private key of key 1 once the validation stage
has passed (R288, R290). -/
def engineRam (i : Item) : Bytes :=
  let v := verbData i.desc i.input
  (v ++ (if (pkeValidate i.desc v i.keys).isNone then i.keys.flatMap (fun k => k.mat) else [])).take 131072

/-- The engine takes an item: step C, then its engine phase. -/
def Dev.startEngine (c : Ctx) (g : Nat) (i : Item) (d : Dev) : Dev :=
  let d1 := ((d.drawFor c i).countStart c i).updEngine g (fun e => { e with item := some i.slot, ram := engineRam i })
  (d1.updItem i.slot (fun x => { x with
    ds := .running, pke := .engine, started := true, startSt := if x.started then x.startSt else c.now, engineSt := c.now })).recStart i.slot

/-- PKE_DISPATCH. -/
def pkeDispatchOp (g : Nat) (c : Ctx) (d : Dev) : Dev :=
  let e := d.engine g
  if g < 12 && e.state == .inService && e.item.isNone && !e.readback && !e.draining && (d.grove g).state == .inService && !(d.grove g).draining && d.dispatchOn then
    match d.firstByKey (d.dsp.items.filter (d.engineReady g)) with
    | none => d
    | some i =>
      if !i.started && d.expires i && decide (i.deadline < c.now) then d.finishNow c i.slot 1 i.expirySub
      else d.readInput c Mst.pke i (fun e => e.startEngine c g i)
  else d

def execPkeDispatch (grove : Nat) (s : State) : Host.Outcome State Fault Refusal := s.onDev (pkeDispatchOp grove)

/-! ### ENGINE_PHASE_DONE (R290, R300, R307, R310, R314) -/

/-- A readback that found a non-zero word: the engine's power domain is gated, and a NOTIFY alarm is raised (R314). -/
def Dev.readbackFailed (c : Ctx) (g alg : Nat) (d : Dev) : Dev :=
  let d1 := (d.engineLeaves c g .gated).updEngine g (fun e => { e.off with zeroFail := true })
  let d2 := { d1 with pke := { d1.pke with lastFault := packW [(0, g % 16), (8, 3), (16, alg), (24, 1)] } }
  (d2.evt Off.pkeEvt 0b101000#32).alarm c 0x12

/-- The readback that follows every engine phase (R290). -/
def Dev.readbackEnd (c : Ctx) (g alg : Nat) (clean : Bool) (d : Dev) : Dev :=
  if clean then d.updEngine g (fun e => { e with ram := [], readback := false, after := none }) else d.readbackFailed c g alg

/-- A fault check failed at E3, or an excluded result came up (R310): the item restarts as its engine enters the clearing. -/
def Dev.engineFault (c : Ctx) (g kind : Nat) (i : Item) (d : Dev) : Dev :=
  let eighth := (within c.now nsS d.lan.devMm).length == 7
  let d1 := d.pkeFaultNote c g kind i.algId
  let d2 := if eighth then d1.updItem i.slot (fun x => { x with restarts := 0 }) else d1
  let d3a := d2.restart c i.slot false none
  let d3 := if eighth then d3a.updItem i.slot (fun x => { x with restarts := i.restarts + 1 }) else d3a
  (((d3.engineLeaves c g .clearing).countMm c g).groveThreshold c g).deviceThreshold c

/-- The verbs whose engine phase has an iteration limit (R307). -/
def limited (d : Desc) : Bool := d.op == 0x0911 || (d.op == 0x0820 && d.p 76 == 0x20)

/-- What the engine hands to the twin (R286): its public result, and its secret one in shares, others for each lane. A
fault inverts the bits of `altered` in the two together. -/
def handOver (altered : Bytes) (i : Item) : Item :=
  let rnd := i.rnd.getD {}
  let e := engineRun i.desc i.input i.keys rnd
  let r := flipBits altered (e.pub ++ e.sec)
  let sec := r.drop e.pub.length
  let share := fun (base : Nat) => shareOf false sec (fun k => Config.rndByte rnd.ctr (base + k))
  { i with pke := .between, engPub := r.take e.pub.length, engSec := if sec.isEmpty then [[], []] else [share 0x10000, share 0x20000] }

/-- How an engine phase ends for its item: a failure of the validation stage ends the item (E1); a phase that came to its
end leaves it for the release phase; the others as R227, R307 and R310 state. -/
def Dev.phaseOutcome (c : Ctx) (g : Nat) (res : PhaseResult) (altered : Bytes) (i : Item) (d : Dev) : Dev :=
  match pkeValidate i.desc (verbData i.desc i.input) i.keys with
  | some sub => (d.bump Off.pkeInvalid).toOwed c i.slot 0x12 sub 0
  | none => match res with
    | .ok => (d.updEngine g (fun e => { e with item := none })).updItem i.slot (handOver altered)
    | .faultE3 => d.engineFault c g 0 i
    | .zeroOrInfinite => if Desc.op i.desc = 0x0411 then (d.bump Off.pkeInvalid).toOwed c i.slot 0x12 1 0 else d.engineFault c g 2 i
    | .iterationLimit => d.toOwed c i.slot 0x03 0x02 0

/-- An abort command ends. -/
def Dev.abortEnd (res : Nat) (d : Dev) : Dev := ({ d with pke := { d.pke with abort := none, abortResult := res } }).evtBit Off.pkeEvt 4

/-- An abort of the same clock as the end of the phase was too late for it (R315). -/
def Dev.abortTooLate (g : Nat) (i : Item) (d : Dev) : Dev :=
  ((d.updItem i.slot (fun x => { x with readback := false })).updEngine g (fun e => { e with readback := false, after := none })).abortEnd 3

/-- ENGINE_PHASE_DONE: the phase ends, and the operand RAM is overwritten and read back (R290). Only the verbs of R307 can
meet an iteration limit. -/
def enginePhaseOp (g : Nat) (res : PhaseResult) (altered : Bytes) (clean : Bool) (c : Ctx) (d : Dev) : Dev :=
  match (d.engine g).item.bind d.item? with
  | none => d
  | some i =>
    if i.pke ≠ .engine ∨ (res = .iterationLimit ∧ limited i.desc = false) ∨ (i.readback = true ∧ d.pke.abortSt ≠ c.now) then d
    else
      let d1 := if i.readback then d.abortTooLate g i else d
      (d1.phaseOutcome c g res altered { i with readback := false }).readbackEnd c g i.algId clean

def execEnginePhaseDone (grove : Nat) (res : PhaseResult) (s : State) (altered : Bytes := []) (clean : Bool := true) : Host.Outcome State Fault Refusal :=
  s.onDev (enginePhaseOp grove res altered clean)

/-! ### Abort (R313 to R315) -/

/-- The item that an abort names: accepted, of its slice, with its request ID. -/
def Dev.abortItem (d : Dev) : Option Item :=
  d.dsp.items.find? (fun i => i.spillFrom.isNone && i.slice == fld (d.reg Off.pkeAbortSlice) 11 0 && Desc.rid i.desc == d.reg64 Off.pkeAbortIdLo)

/-- A write of PKE_ABORT_CMD. -/
def pkeAbortW (c : Ctx) (v : Word) (d : Dev) : WOut :=
  if !bit v 0 then .took d
  else if d.pke.abort.isSome then .viol
  else match d.abortItem with
    | none => .took (d.abortEnd 1)
    | some i =>
      if (d.warning || d.locked) && Desc.usesEngine i.desc then .took (d.abortEnd 4)
      else if i.ds = .finished then .took (d.abortEnd 1)
      else match i.pke with
        | .none => .took (d.abortEnd 2)
        | .between | .release => .took (d.abortEnd 3)
        | .engine =>
          let d1 := (d.updItem i.slot (fun x => { x with readback := true })).updEngine i.grove (fun e => { e with ram := [], readback := true, after := e.item })
          .took { d1 with pke := { d1.pke with abort := some (i.slot, i.grove), abortSt := c.now } }
def execPkeAbort (value : Word) (s : State) : Host.Outcome State Fault Refusal :=
  s.onDev (fun c d => d.hostWrite c Off.pkeAbortCmd (pkeAbortW c value))

/-- The abort command of an engine ends with the readback: the aborted item completes, whatever it found (R314). -/
def Dev.abortDone (c : Ctx) (g slot : Nat) (d : Dev) : Dev :=
  let d1 := if (d.item? slot).any (fun i => i.readback) then d.toOwed c slot 0x03 0x01 0 else d
  ({ d1 with pke := { d1.pke with abortEng := g } }).abortEnd 0

/-- ABORT_READBACK_DONE: the readback after an engine phase that was cut short, by an abort command or otherwise (R290,
R313, R314). -/
def abortReadbackOp (g : Nat) (clean : Bool) (c : Ctx) (d : Dev) : Dev :=
  let e := d.engine g
  let mine := d.pke.abort.filter (fun a => a.2 == g)
  if !e.readback && mine.isNone then d
  else
    let alg := (e.after.bind d.item?).elim 0 Item.algId
    let d1 := if e.readback then d.readbackEnd c g alg clean else d
    match mine with
    | none => d1
    | some a => (d1.abortDone c g a.1).updEngine g (fun e => { e with readback := false, after := none })

def execAbortReadbackDone (grove : Nat) (s : State) (clean : Bool := true) : Host.Outcome State Fault Refusal := s.onDev (abortReadbackOp grove clean)

/-! ### The engine's clearing, and the registers (R311, R316 to R318) -/

/-- A write of PKE_CLEAR_CMD. An engine that is HELD stays as it is (DESIGN CHOICE, log entry 43); one whose domain is off
wakes for its tests. -/
def pkeClearW (c : Ctx) (v : Word) (d : Dev) : WOut :=
  let g := fld v 3 0
  if d.pke.clearBusy.isSome then .viol
  else if fld v 13 12 ≠ 1 ∨ 11 < g then .took (d.pkeClearEnd 2)
  else match (d.engine g).state with
    | .clearing => .took (d.pkeClearEnd 1)
    | .inService =>
      let d1 := d.updEngine g (fun e => { e with draining := true })
      .took { d1 with pke := { d1.pke with clearBusy := some g } }
    | .held => .took (d.pkeClearEnd 0)
    | st =>
      let d1 := ((d.engineLeaves c g .clearing).updEngine g (fun e => { e with zeroFail := false })).pkeClearEnd 0
      .took (if st = .gated then d1.domWake (192 + g) else d1)
def execPkeClear (value : Word) (s : State) : Host.Outcome State Fault Refusal :=
  s.onDev (fun c d => d.hostWrite c Off.pkeClearCmd (pkeClearW c value))

/-- The registers of the block that a host writes. -/
def pkeW (c : Ctx) (off : Nat) (v : Word) (d : Dev) : WOut :=
  if off = Off.pkeEngSel then (if 11 < fld v 3 0 then .drop else .took (d.setReg off (v &&& 0xF#32)))
  else if off = Off.pkeAbortSlice then .took (d.setReg off (v &&& 0xFFF#32))
  else if off = Off.pkeAbortIdLo ∨ off = Off.pkeAbortIdHi then .took (d.setReg off v)
  else if off = Off.pkeAbortCmd then pkeAbortW c v d
  else if off = Off.pkeClearCmd then pkeClearW c v d
  else if off = Off.pkeEvt then .took (d.setReg off (d.reg off &&& ~~~v))
  else if off = Off.pkeEvtEn then .took (d.setReg off (v &&& 0x7F#32))
  else .drop

end Sys2Proof.Machine
end

