-- ==== Sys2Proof/Machine/Power.lean ====
section
/-! DEFINITION. Power (R585 to R597): groves and domains, the governor, the supply warning with its anchor flush, STANDBY's
conditions, saving the configuration, and the registers of the PWR and CFG blocks. -/

namespace Sys2Proof.Machine

def Dev.onPwr (f : Pwr → Pwr) (d : Dev) : Dev := { d with pwr := f d.pwr }

/-! ### Groves and domains (R585 to R587) -/

/-- A grove that is off starts to wake; not during a supply warning (R596, R597). -/
def Dev.groveWake (g : Nat) (d : Dev) : Dev :=
  if d.groveOn g || d.domWaking (216 + g) || d.warning || d.pwr.standby then d else d.domWake (216 + g)

/-- PWR_GROVE_EN bit set: a grove that still drains towards its switching off goes on serving. -/
def Dev.groveEnable (g : Nat) (d : Dev) : Dev :=
  if d.groveOn g then
    (if d.lan.cmdBusy = some (.grove g) then d else d.updGrove g (fun x => { x with draining := false }))
  else d.groveWake g

/-- PWR_GROVE_EN bit cleared: a grove in service drains as at a CLEAR (R256), any other goes off at once. -/
def Dev.groveDisable (c : Ctx) (g : Nat) (d : Dev) : Dev :=
  if d.groveOn g then
    if (d.grove g).state = .inService ∧ (d.groveItems g .running ++ d.groveItems g .suspended).any (fun i => i.spill.isNone) = true then
      (d.updGrove g (fun x => { x with draining := true })).unplace c g (fun _ => true)
    else d.groveSwitchOff c g
  else d.onPwr (fun p => { p with doms := p.doms.filter (fun x => x.num != 216 + g) })

/-- A write of PWR_GROVE_EN. -/
def groveEnW (c : Ctx) (v : Word) (d : Dev) : WOut :=
  let old := d.reg Off.pwrGroveEn
  .took ((List.range 12).foldl (fun (a : Dev) g =>
    if bit v g == bit old g then a else if bit v g then a.groveEnable g else a.groveDisable c g) (d.setReg Off.pwrGroveEn (v &&& 0xFFF#32)))
def execGroveEnable (grove : Nat) (s : State) : Host.Outcome State Fault Refusal :=
  s.onDev (fun c d => if grove < 12 then d.hostWrite c Off.pwrGroveEn (groveEnW c (d.reg Off.pwrGroveEn ||| (1#32 <<< grove))) else d)
def execGroveDisable (grove : Nat) (s : State) : Host.Outcome State Fault Refusal :=
  s.onDev (fun c d => if grove < 12 then d.hostWrite c Off.pwrGroveEn (groveEnW c (d.reg Off.pwrGroveEn &&& ~~~(1#32 <<< grove))) else d)

/-- A grove's domains are up, at OP2: it enters the clearing, whose tests wait for its DRBG (R374, R587). -/
def Dev.groveUp (c : Ctx) (g : Nat) (d : Dev) : Dev :=
  let d1 := d.onPwr (fun p => { p with groveOn := p.groveOn ||| (1#12 <<< g), groveOp := p.groveOp.mapIdx (fun i x => if i = g then 2 else x) })
  let d2 := (d1.groveLeaves c g .clearing).updGrove g (fun x => { x with testsHeld := (d.drbg g).state == .uninst })
  d2.drainPool c 16

/-- DOMAIN_WAKE_DONE: the step in progress of a waking domain signals ready. -/
def domainWakeDoneOp (n : Nat) (c : Ctx) (d : Dev) : Dev :=
  match d.pwr.doms.find? (fun x => x.num == n && x.state == 1) with
  | none => d
  | some x =>
    if x.step < 3 then d.onPwr (fun p => { p with doms := updWhere (fun y => y.num == n) (fun y => { y with step := y.step + 1 }) p.doms })
    else
      let d1 := d.onPwr (fun p => { p with doms := p.doms.filter (fun y => y.num != n) })
      if 216 ≤ n ∧ n < 228 then d1.groveUp c (n - 216) else d1
def execDomainWakeDone (domain : Nat) (s : State) : Host.Outcome State Fault Refusal := s.onDev (domainWakeDoneOp domain)

/-- DOMAIN_WAKE_TIMEOUT: off again with FAULT; what it serves fails as after a failed test. A domain that start-up needs
halts it at its stage. -/
def domainTimeoutOp (n : Nat) (c : Ctx) (d : Dev) : Dev :=
  if !d.domWaking n then d
  else
    let d1 := (d.onPwr (fun p => { p with doms := updWhere (fun y => y.num == n) (fun y => { y with state := 0, fault := true }) p.doms })).evtBit Off.pwrEvt 5
    if n < 192 then (if (d1.twin (n / 2)).state = .clearing then d1.twinTested c (n / 2) 0 false else d1)
    else if n < 204 then (if (d1.engine (n - 192)).state = .clearing then d1.engineTested c (n - 192) 0 false else d1)
    else if 216 ≤ n ∧ n < 228 then
      let g := n - 216
      let d2 := if (d1.grove g).state = .clearing then d1 else d1.recordUnit c 1 g (d1.grove g).state .clearing
      ((d2.updGrove g (fun x => { x with state := .failed })).recordUnit c 1 g .clearing .failed).evtBit Off.lanEvt 3
    else d1
def execDomainWakeTimeout (domain : Nat) (s : State) : Host.Outcome State Fault Refusal := s.onDev (domainTimeoutOp domain)

/-! ### Operating points (R21 to R27, R591 to R593) -/

/-- Every OP3 grove goes to OP2. -/
def Dev.dropBoost (d : Dev) : Dev := d.onPwr (fun p => { p with groveOp := p.groveOp.map (fun x => min 2 x) })

/-- BOOST_VOLTAGE_DROP. -/
def boostDropOp (mv : Nat) (_ : Ctx) (d : Dev) : Dev := if d.pwr.powered && decide (mv < 930) then d.dropBoost else d
def execBoostVoltageDrop (mv : Nat) (s : State) : Host.Outcome State Fault Refusal := s.onDev (boostDropOp mv)

/-- The depth of a grove's ready list. -/
def Dev.depth (d : Dev) (g : Nat) : Nat := (d.groveItems g .placed).length

/-- Groves by depth of their ready lists, shallowest first. DESIGN CHOICE (log entry 75): of equally deep ones the lower number
counts as the shallower, so it is boosted last and lowered first. -/
def Dev.insertDepth (d : Dev) (g : Nat) : List Nat → List Nat
  | [] => [g]
  | h :: t => if d.depth g ≤ d.depth h then g :: h :: t else h :: d.insertDepth g t
def Dev.byDepth (d : Dev) (l : List Nat) : List Nat := l.foldr d.insertDepth []

/-- The point of a grove by R591's table: chosen for boost, busy, idle for less than 10 ms, idle. -/
def govPoint (boost busy : Bool) (idle : Nat) : Nat := if boost then 3 else if busy then 2 else if idle < 100 then 1 else 0

/-- The cap: while the estimate exceeds it, boost goes first, then busy groves from OP2 to OP1, each from the shallowest
list. How the estimate answers a step is a free value (log entry 7). -/
def capSteps (now cap : Nat) : Nat → List (Nat × Nat) → Nat → List Nat → Nat × List Nat
  | _, [], est, ops => (est, ops)
  | k, (g, op) :: t, est, ops =>
    if est ≤ cap then (est, ops) else capSteps now cap (k + 1) t (Config.freeNat now (600 + k) % 256) (ops.mapIdx (fun i x => if i = g then min x op else x))

/-- DVFS_EVALUATION: every 100 µs of ST, unless the governors are frozen (R27) or both pairs are out (R592). `mv` is
VDD_CORE_IN, which must be at or above 0.93 V for a boost (R25), `watts` the estimate at the points the governor would set.
DESIGN CHOICE (log entry 75): a grove is eligible for boost when it is in service and holds an item. -/
def dvfsOp (mv watts : Nat) (c : Ctx) (d : Dev) : Dev :=
  if !d.endpointUp || !d.mgmtUp || d.warning || d.locked || !d.past 6 || decide (c.now < d.pwr.evalSt + 100 * nsUs) then d
  else
    let ctrl := d.reg Off.pwrGovCtrl
    let cap := fld (d.reg Off.pwrPowerCap) 7 0
    let max := fld ctrl 1 0
    let on := (List.range 12).filter (fun g => (d.grove g).state == .inService)
    let busy := fun (g : Nat) => d.dsp.items.any (fun i => i.grove == g && i.spill.isNone && (i.ds == .placed || i.ds == .running || i.ds == .suspended))
    let cands := d.byDepth (on.filter busy)
    let boost := if bit ctrl 4 && max == 3 && decide (930 ≤ mv) then cands.reverse.take (min 6 (fld ctrl 10 8)) else []
    let idle := d.pwr.idle.mapIdx (fun g n => if busy g then 0 else sat 100 (n + 1))
    let ops := d.pwr.groveOp.mapIdx (fun g x => if on.contains g then min max (govPoint (boost.contains g) (busy g) (idle.getD g 0)) else x)
    let order := d.byDepth (on.filter (fun g => busy g && ops.getD g 0 == 3))
    let low := d.byDepth (on.filter (fun g => busy g && decide (2 ≤ ops.getD g 0)))
    let (est, fin) := capSteps c.now cap 0 (order.map (fun g => (g, 2)) ++ low.map (fun g => (g, 1))) watts ops
    let d1 := d.onPwr (fun p => { p with groveOp := fin, est := est, idle := idle, evalSt := c.now })
    let d2 := { d1 with dsp := { d1.dsp with
      eff := (d1.dsp.eff.set Off.pwrGovCtrl ctrl).set Off.pwrPowerCap (d.reg Off.pwrPowerCap)
      fw := (d1.dsp.fwAdvance c.now d1.pwr.mgmtOk).fw.filter (fun f => f.cls != 0)
      mgmtBusy := (d1.dsp.fwAdvance c.now d1.pwr.mgmtOk).mgmtBusy, fwSt := c.now } }.setFwTimer c 0 (nextEval c.now)
    if cap < watts then d2.evtBit Off.pwrEvt 6 else d2
def execDvfsEvaluation (mv watts : Nat) (s : State) : Host.Outcome State Fault Refusal := s.onDev (dvfsOp mv watts)

/-! ### Configuration blocks (R605, R606) -/

/-- The newest valid block is B. -/
def Cfg.newestB (k : Cfg) : Bool :=
  match k.a, k.b with
  | some a, some b => decide (a.gen < b.gen)
  | none, some _ => true
  | _, _ => false
def Cfg.newest (k : Cfg) : Option CfgBlock := if k.newestB then k.b else k.a

/-- Registers of the persistent set that stand in the register file, lock fields apart. -/
def persistent : List Nat :=
  [Off.timRefCfg, Off.timHoldLimit, Off.timTaHandleLo, Off.timTaHandleHi, Off.jnlBodyBaseHi, Off.jnlBodyBaseLo, Off.ddtBaseHi, Off.ddtBaseLo, Off.ddtSize,
   Off.ddtRetain, Off.dspGroveMask, Off.dspPlaceCtrl, Off.dspPreemptCtrl, Off.dspReefCtrl, Off.lanClearCtrl, Off.rngReseedCtrl, Off.memScrubCtrl, Off.cusPortCtrl,
   Off.cusWindow] ++ (List.range 7).map (fun i => Off.cusPolicy + 8 + 4 * i) ++
  [Off.ercCtrl, Off.fabCtrl, Off.fabNodeId, Off.fabDiscCtrl, Off.fabRouteCtrl, Off.fabSpillCtrl] ++ (List.range 8).map (fun i => Off.fabSpillPeer + 4 * i) ++
  [Off.fabPairCtrl, Off.fabPairDemote] ++ (List.range 4).map (fun i => Off.fabPairUid + 4 * i) ++
  [Off.fabWitnessAddrLo, Off.fabWitnessAddrHi, Off.pwrGroveEn, Off.pwrGovCtrl, Off.pwrPowerCap, Off.pwrSmbWake, Off.pwrIntEn] ++
  [Off.hifEvtEn, Off.jnlEvtEn, Off.ddtEvtEn, Off.dspEvtEn, Off.lanEvtEn, Off.pkeEvtEn, Off.keyEvtEn, Off.rngEvtEn, Off.hifSliceEvtEn, Off.fabEvtEn, Off.cusEvtEn,
   Off.tmpEvtEn, Off.evlEvtEn, Off.ercEvtEn, Off.lcsEvtEn, Off.accEvtEn, Off.memEvtEn, Off.pwrEvtEn]

/-- The set as SAVE captures it: registers behind a selector with their selector, lock fields last. -/
def Dev.capture (d : Dev) : List (Nat × Word) :=
  persistent.map (fun o => (o, if o = Off.fabCtrl then d.reg o &&& 0x7FFFFFFF#32 else d.reg o))
    ++ d.key.domains.flatMap (fun m => [(Off.keySelDomain, BitVec.ofNat 32 m.num), (Off.keyDomQuota, packW [(0, m.slotQuota), (16, m.extQuota)])])
    ++ (List.range 32).flatMap (fun i =>
        let r := d.acc.committed.getD (32 + i) {}
        let o := Off.accRgnBaseLo + 16 * (32 + i)
        [(o, r.baseLo), (o + 4, r.baseHi), (o + 8, r.cfg), (o + 12, r.perm)])
    ++ d.erc.trigCfg.flatMap (fun t => [(Off.ercTrigSel, BitVec.ofNat 32 t.1), (Off.ercTrigCfg, BitVec.ofNat 32 t.2)])
    ++ d.erc.snaps.flatMap (fun t => [(Off.ercSnapSel, BitVec.ofNat 32 (t.1 / 16 + t.1 % 16 * 256)), (Off.ercSnap, t.2)])
    ++ d.fab.repls.flatMap (fun r => [(Off.fabReplSel, BitVec.ofNat 32 (r.domain + r.index * 65536)), (Off.fabReplCtrl, packW [(0, b2n r.en), (16, r.peer)])])
    ++ [(Off.tmpCtrl, d.reg Off.tmpCtrl), (Off.fabCtrl, d.reg Off.fabCtrl)]

/-- CFG_CMD SAVE: the set is captured, and writing the older block begins: it is not valid until its check word is. -/
def cfgCmdW (v : Word) (d : Dev) : WOut :=
  if !bit v 0 then .took d
  else if d.cfg.job.isSome then .viol
  else if !d.mgmtUp then .took { d with cfg := { d.cfg with result := 3 } }
  else
    let b : CfgBlock := { gen := (d.cfg.newest.elim 0 (fun (x : CfgBlock) => x.gen)) + 1, entries := d.capture }
    .took { d with cfg := if d.cfg.newestB || d.cfg.newest.isNone then { d.cfg with job := some b, a := none } else { d.cfg with job := some b, b := none } }
def execConfigSave (s : State) : Host.Outcome State Fault Refusal := s.onDev (fun c d => d.hostWrite c Off.cfgCmd (cfgCmdW 1#32))

/-- CONFIG_SAVE_DONE: the check word is written, or the readback failed. -/
def configSaveDoneOp (ok : Bool) (_ : Ctx) (d : Dev) : Dev :=
  match d.cfg.job with
  | none => d
  | some b =>
    let k := { d.cfg with job := none, result := if ok then 0 else 1 }
    { d with cfg := if !ok then k else if d.cfg.newestB || d.cfg.newest.isNone then { k with a := some b } else { k with b := some b } }
def execConfigSaveDone (writeOk : Bool) (s : State) : Host.Outcome State Fault Refusal := s.onDev (configSaveDoneOp writeOk)

/-- A SAVE whose check word is not written ends SUPERSEDED. -/
def Dev.supersedeCfg (d : Dev) : Dev := if d.cfg.job.isSome then { d with cfg := { d.cfg with job := none, result := 2 } } else d

def cfgW (_ : Ctx) (off : Nat) (v : Word) (d : Dev) : WOut := if off = Off.cfgCmd then cfgCmdW v d else .drop

/-! ### Supply warning (R114, R594 to R596) -/

/-- Public-key phases are aborted at once: their items go back without a restart. An abort that came first keeps its outcome. -/
def Dev.abortPhases (c : Ctx) (d : Dev) : Dev :=
  (d.dsp.items.filter (fun i => i.ds == .running && !i.readback && (i.pke == .engine || i.pke == .between))).foldl (fun a i => a.goBack c i.slot true) d

/-- SUPPLY_WARNING: VDD_CORE_IN falls through 0.90 V, or PFAIL_N is held low. One that finds a warning in force joins it. -/
def supplyWarningOp (pfail : Bool) (mv : Nat) (c : Ctx) (d : Dev) : Dev :=
  if !d.pwr.powered || (!pfail && !decide (mv < 900)) then d
  else if d.warning then
    d.onPwr (fun p => { p with warnCore := p.warnCore || !pfail, warnPfail := p.warnPfail || pfail, vmin := min p.vmin mv })
  else
    let d1 := d.onPwr (fun p => { p with
      warnCore := !pfail, warnPfail := pfail, warnSt := c.now, warnStage := p.stage, vmin := mv, warnCnt := p.warnCnt + 1 })
    let d2 := (((d1.abortOvertaken c).evtBit Off.pwrEvt 0).record c Trig.supplyWarning (toLe 1 (b2n pfail))).dropBoost
    let d3 := (((d2.abortPhases c).supersedeSlot).supersedeCfg).storePair c
    { d3 with evl := d3.evl.store, mem := { d3.mem with mergeSt := c.now } }
def execSupplyWarning (pfail : Bool) (mv : Nat) (s : State) : Host.Outcome State Fault Refusal := s.onDev (supplyWarningOp pfail mv)

/-! ### The anchor flush (R115, R116, R119, R596) -/

/-- Some lane operation may still present within 20 µs of ST of the warning. -/
def Dev.lanesPending (c : Ctx) (d : Dev) : Bool :=
  decide (c.now < d.pwr.warnSt + 20 * nsUs) && d.lan.twins.any (fun t => t.running.isSome)

/-- Every other operation is abandoned without a restart, and every grove goes off. -/
def Dev.shed (c : Ctx) (d : Dev) : Dev :=
  let d1 := match d.pke.abort with
    | some (_, g) => abortReadbackOp g true c d
    | none => d
  let d2 := (d1.dsp.items.filter (fun i => i.ds == .running || i.ds == .suspended || i.ds == .placed)).foldl (fun a i => a.goBack c i.slot true) d1
  (List.range 12).foldl (fun (a : Dev) g => if a.groveOn g then a.groveSwitchOff c g else a) (d2.onPwr (fun p => { p with doms := p.doms.filter (fun x => !decide (x.num < 228)) }))

/-- ANCHOR_FLUSH_START: the groves go off in any case; a flush follows only where the warning came after stage 8 had finished
(R119), and not in a recovery that waits. -/
def anchorFlushStartOp (c : Ctx) (d : Dev) : Dev :=
  if !d.warning || !d.endpointUp || d.lanesPending c then d
  else
    let d1 := d.shed c
    if decide (8 < d1.pwr.warnStage) && !d1.jnl.recovering && !d1.jnl.flushBusy && !d1.jnl.flushDone then
      { d1 with jnl := { d1.jnl with flushDone := false, flushBusy := true, flushStart := c.now } }
    else d1
def execAnchorFlushStart (s : State) : Host.Outcome State Fault Refusal := s.onDev anchorFlushStartOp

/-- Pending records carry their remaining time in µs. -/
def Dev.anchorRec (now : Nat) (d : Dev) (r : Rec) : Rec :=
  let dl := match d.item? r.slot with | some i => i.deadline | none => r.deadline
  if r.st = .accepted ∨ r.st = .inService ∨ r.st = .awaiting then { r with remaining := sat 0xFFFFFFFF ((dl - now) / nsUs) } else r

/-- What the flush writes. -/
def Dev.anchorOf (now : Nat) (d : Dev) : Anchor :=
  let p := d.fab.pair
  { nextSeq := d.jnl.nextSeq, recs := d.jnl.recs.map (d.anchorRec now), fresh := d.jnl.fresh, completed := d.jnl.completed
    rings := (d.hif.rings.filter (fun r => r.state != .absent)).map (fun (r : Ring) => { slice := r.slice, ring := r.num, gen := r.gen, accepted := r.accepted, posted := r.posted })
    slices := (d.slices.filter (fun s => s.anchorState != .unbound)).map Slice.anchorEntry
    epoch := if p.holder = d.nodeId then p.epoch else 0, crcOk := true }

/-- Records that count as pending (R97). -/
def RecState.pending : RecState → Bool
  | .accepted | .inService | .awaiting => true
  | _ => false

/-- JNL_ANCHOR_RECS of an anchor. -/
def Anchor.count (a : Anchor) : Word := packW [(0, sat 0xFFFF (a.recs.filter (fun r => r.st.pending)).length), (16, sat 0xFFFF a.rings.length)]

/-- ANCHOR_FLUSH_DONE: the marker is written; the evidence queue goes out, and the recorder flush starts (R499, R507). -/
def anchorFlushDoneOp (c : Ctx) (d : Dev) : Dev :=
  if !d.jnl.flushBusy then d
  else
    let a := d.anchorOf c.now
    let d1 := { d with jnl := { d.jnl with
      anchor := some a, flushDone := true, flushBusy := false, lastFlushUs := (c.now - d.jnl.flushStart) / nsUs, anchorRecs := a.count } }
    let d2 := d1.appendAll c 64
    ({ d2 with evl := d2.evl.store }).startFlush
def execAnchorFlushDone (s : State) : Host.Outcome State Fault Refusal := s.onDev anchorFlushDoneOp

/-! ### Registers (R610 to R612) -/

/-- The conditions of STANDBY (R589). -/
def Dev.quiet (d : Dev) : Bool :=
  d.ringsDefined == 0 && d.fab.pair.role == .unpaired && d.cus.cers.all (fun k => k.state == .idle) && !d.evl.exporting && d.erc.flushTo.isNone
    && !d.key.reinit && !d.warning

/-- STANDBY is entered: groves off, links down, entropy off; SRAM and DDR5 are kept (R375, R381, R589). -/
def Dev.enterStandby (c : Ctx) (d : Dev) : Dev :=
  let d1 := (List.range 12).foldl (fun (a : Dev) g => if a.groveOn g then a.groveSwitchOff c g else a) d
  let r := d1.rng
  { d1 with
    pwr := { d1.pwr with standby := true, doms := [] }
    rng := { r with
      state := if r.state = .noRandomness then .noRandomness else .off, pool := []
      drbgs := r.drbgs.map Drbg.erased
      sources := r.sources.map (fun (x : Source) => if x.state = .failed ∨ x.state = .raw then x else { x with state := .off }) }
    fab := { d1.fab with ports := d1.fab.ports.map (fun (p : Port) => { num := p.num }), sessions := [], routes := [] } }

/-- A write of PWR_CMD. -/
def pwrCmdW (c : Ctx) (v : Word) (d : Dev) : WOut :=
  let fin := fun (res : Nat) (x : Dev) => (x.onPwr (fun p => { p with cmdResult := res })).evtBit Off.pwrEvt 7
  if fld v 1 0 ≠ 1 then .took (fin 2 d)
  else if !d.quiet then .took (fin 1 d)
  else .took ((fin 0 d).enterStandby c)
def execPwrStandby (s : State) : Host.Outcome State Fault Refusal := s.onDev (fun c d => d.hostWrite c Off.pwrCmd (pwrCmdW c 1#32))

def pwrW (c : Ctx) (off : Nat) (v : Word) (d : Dev) : WOut :=
  if off = Off.pwrCmd then pwrCmdW c v d
  else if off = Off.pwrGroveEn then groveEnW c v d
  else if off = Off.pwrGovCtrl then (if 6 < fld v 10 8 then .drop else .took (d.setReg off (v &&& 0x713#32)))
  else if off = Off.pwrPowerCap then (if fld v 7 0 < 60 ∨ 150 < fld v 7 0 then .drop else .took (d.setReg off (v &&& 0xFF#32)))
  else if off = Off.pwrDomSel then (if 246 < fld v 7 0 then .drop else .took (d.setReg off (v &&& 0xFF#32)))
  else if off = Off.pwrSmbWake then .took (d.setReg off (v &&& 0x7F#32))
  else if off = Off.pwrEvt then .took (d.setReg off (d.reg off &&& ~~~v))
  else if off = Off.pwrEvtEn ∨ off = Off.pwrIntEn then .took (d.setReg off (v &&& 0xFF#32))
  else .drop

end Sys2Proof.Machine
end

