-- ==== Sys2Proof/Machine/RegWrite.lean ====
section
/-! DEFINITION. A write to any BAR0 register by its block (R637, R638, R640), and a write as the configuration load makes it
(R607). -/

namespace Sys2Proof.Machine

/-- The rule of the register at an offset. TIM_SET_CTRL acts on ST and has its own way in `State.registerWrite`. -/
def regW (c : Ctx) (off : Nat) (v : Word) (d : Dev) : WOut :=
  match off / 0x10000 with
  | 0 => if off < 0x100 then hifW c off v d else sliceW c off v d
  | 1 => timW c off v d
  | 2 => jnlW c off v d
  | 3 => ddtW c off v d
  | 4 => dspW c off v d
  | 5 => lanW c off v d
  | 6 => pkeW c off v d
  | 7 => keyW c off v d
  | 8 => rngW c off v d
  | 9 => cusW c off v d
  | 10 => tmpW c off v d
  | 11 => evlW c off v d
  | 12 => ercW c off v d
  | 13 => lcsW c off v d
  | 14 => accW off v false d
  | 15 => memW c off v d
  | 16 => pwrW c off v d
  | 17 => cfgW c off v d
  | 18 => fabW c off v d
  | _ => .drop

/-- A ceremony slot that stands open for exactly one write, and for what the register's selector holds. -/
def openFor (d : Dev) (off : Nat) (v : Word) : Ceremony :=
  let sel := (rwqSelector off).getD off
  { num := 0, state := .opened, cls := rwqClass off,
    param := zeros 6 ++ toLe 2 2 ++ zeros 56 ++ toLe 4 off ++ toLe 4 v.toNat ++ toLe 4 sel ++ toLe 4 (if sel = off then v else d.reg sel).toNat }

/-- An entry of a configuration block is applied: RW-Q registers without a ceremony. -/
def Dev.loadEntry (c : Ctx) (off : Nat) (v : Word) (d : Dev) : WOut :=
  if rwqClass off = 0 then regW c off v d
  else match regW c off v { d with cus := { d.cus with cers := [openFor d off v] } } with
    | .took d1 => .took { d1 with cus := { d1.cus with cers := d.cus.cers } }
    | x => x

/-- A block is applied entry by entry; entries that a register's own rule discards are counted. -/
def Dev.loadEntries (c : Ctx) (l : List (Nat × Word)) (d : Dev) : Dev :=
  l.foldl (fun (a : Dev) e =>
    match a.loadEntry c e.1 e.2 with
    | .took b => b
    | _ => { a with cfg := { a.cfg with rejected := a.cfg.rejected + 1 } }) d

end Sys2Proof.Machine
end

