-- ==== Sys2Proof/Machine/Reset.lean ====
section
/-! DEFINITION. Resets (R598 to R601), recovery from a supply warning (R597), the wake from STANDBY (R590), loss of power and
power-on (R28, R594, R600): what each keeps, and start-up begun again at stage 1. -/

namespace Sys2Proof.Machine

/-! ### What a reset does to each block -/

/-- Registers that only a power-on clears: counts since power-on. -/
def powerOnOnly : List Nat :=
  [Off.lanMmTotal, Off.lanRestarts, Off.lanIntfault, Off.pkeFaults, Off.pkeAborts, Off.pkeInvalid, Off.accViolTotal, Off.memCeSram, Off.memCeMram, Off.memCeDdr]

/-- Cause codes of PWR_RESET_CAUSE (R611). -/
def ResetKind.code : ResetKind → Nat
  | .cold => 1 | .transition => 2 | .warmPin => 3 | .perst => 4 | .hotReset => 5 | .flr => 6 | .wake => 7

/-- A cold reset, or one that does as it does (R600). -/
def ResetKind.coldLike : ResetKind → Bool
  | .cold | .transition => true
  | _ => false

/-- The register file after a reset: the persistent set is kept, all else goes to its reset value; a cold reset also clears
the RW-L locks, and a transition defaults the configuration (R532, R600). -/
def resetRegs (k : ResetKind) (d : Dev) : RegFile :=
  let kept := fun (o : Nat) => powerOnOnly.contains o || (k != .transition && (persistent.contains o || o == Off.tmpCtrl))
  let r := d.regs.filter (fun p => kept p.1)
  if k.coldLike then RegFile.set (RegFile.set r Off.tmpCtrl 0#32) Off.fabCtrl (RegFile.get r Off.fabCtrl &&& 0x7FFFFFFF#32) else r

def Tim.restarted (now : Nat) (t : Tim) : Tim :=
  { t with trefValid := false, trefSince := now, token := none, tokenStat := 0, setWait := none, fenceBusy := false, nonce := 0, nonceLive := false }

/-- Commands in progress on a slice are interrupted (R395, R646). -/
def Slice.restarted (s : Slice) : Slice :=
  { s with
    state := if s.cmd.isSome then s.prev else s.state, result := if s.cmd.isSome then 13 else s.result, cmd := none
    squash := false, pendingResult := 0, image := [], effWeight := s.weight, effExpiry := s.expiry }

/-- Every ring is PARKED (R67); a command in progress is abandoned without effect (R74); a resolved barrier instance goes on
holding what is behind it until its entries are written (R80). -/
def Hif.restarted (h : Hif) : Hif :=
  { rings := h.rings.map (fun (r : Ring) =>
      let p := r.park
      if h.cmdBusy.any (fun j => j.took && j.slice == r.slice && j.num == r.num) then { p with needsSettings := true } else p)
    barriers := h.barriers.filter (fun b => b.resolved)
    cmdResult := if h.cmdBusy.isSome then 8 else 0 }

/-- Dispatch: counters and lists are cleared (R178); items stay, without those of a peer and what goes back to it. -/
def Dsp.restarted (now : Nat) (d : Dsp) : Dsp :=
  { items := d.items.filter (fun i => i.spillFrom.isNone), flows := { d.flows with moves := [] }, reefSince := now, lastEpoch := now / nsUs, eff := d.eff, fwSt := now }

/-- Units keep their states (R112, R253); a drain that a host command asked for is over. -/
def Lan.restarted (en : Word) (l : Lan) : Lan :=
  { l with
    cmdBusy := none, cmdResult := 0
    twins := l.twins.map (fun (t : Twin) => { (t.lanes (fun _ l => l.blank)) with running := none, draining := false })
    groves := l.groves.map (fun (g : Grove) => { g with draining := g.draining && !bit en g.num }) }
/-- An engine whose phase the reset cut short, or whose readback was not done, has one due (R290). -/
def Pke.restarted (p : Pke) : Pke :=
  { engines := p.engines.map (fun (e : Engine) => { (if e.item.isSome then e.stop else e) with draining := false, after := none }) }

/-- The grove key caches survive (R353); commands and loads in progress do not. An erase that has begun goes on. -/
def Key.restarted (changing : Bool) (k : Key) : Key :=
  { k with
    cache := k.cache.map (fun (e : CacheEnt) => { e with pins := [] }), loads := [], resvs := [], promote := none
    slotResult := if k.promote.isSome || changing then 4 else 0, info := 0, infoGen := 0, domResult := 0, fence := false, waitUsers := false, users := []
    storeResult := if k.reinit then 2 else 0, reinit := false, reinitId := 0, hits := List.replicate 12 0, misses := List.replicate 12 0 }

/-- A port trains again; one that is REFUSED stays so (R410). -/
def Port.restarted (fab : Word) (p : Port) : Port :=
  if p.state = .refused then p
  else if bit fab 0 && bit fab (8 + p.num) then { num := p.num, state := .training } else { num := p.num }
/-- A swap for the device's own recovery is tried again; any other is given up. -/
def Pair.owedSwap (p : Pair) : Option (SwapFor × Nat) :=
  match p.swap, p.swapDue with
  | some .recover, _ | _, some (.recover, _) => some (.recover, 0)
  | _, _ => none
def Fab.restarted (fab : Word) (f : Fab) : Fab :=
  { f with ports := f.ports.map (Port.restarted fab), nodes := [], routes := [], occ := [], evicted := 0, sessions := [], held := [], offers := [], floods := [], conflict := false
           pair := { f.pair with
             swap := none, swapDue := f.pair.owedSwap, handing := false, selfDemote := false
             cmdBusy := false, cmdResult := 0, leaseEnd := 0, syncPct := 0 } }

/-- Ceremonies are lost (R462); a card is activated anew. -/
def Cus.restarted (en : Word) (k : Cus) : Cus :=
  { k with
    cers := k.cers.map (fun (x : Ceremony) => { num := x.num, result := 16 })
    ports := k.ports.map (fun (p : CardPort) => { num := p.num, present := p.present, trying := if p.present && bit en p.num then some false else none }) }

/-- The debug scope, a challenge and a request are lost (R539). -/
def Lcs.restarted (l : Lcs) : Lcs := { memTest := l.memTest, report := l.report, jtag := l.jtag, bypass := l.bypass, bscan := l.bscan, preload := l.preload }

/-- The committed table is kept by all but a cold reset (R549); staged changes are lost. -/
def AccT.restarted (cold : Bool) (a : AccT) : AccT :=
  if cold then { dbgDenied := a.dbgDenied, dbgRegion := a.dbgRegion }
  else { committed := a.committed, staged := a.committed, epoch := a.epoch, dbgDenied := a.dbgDenied, dbgRegion := a.dbgRegion }

/-- Domains that a wake switches on again (R585). -/
def wakeDoms : List PwrDom := [228, 229, 230, 239, 240, 241, 242, 243, 244].map (fun (n : Nat) => ({ num := n, state := 1 } : PwrDom))

def Pwr.restarted (k : ResetKind) (p : Pwr) : Pwr :=
  { p with
    standby := false, stage := 1, halted := false, retained := true, cause := k.code, seen := p.seen ||| 2 ^ k.code
    warnStage := 0, held := none, cmdResult := 0, idle := List.replicate 12 0, evalSt := 0, est := 0, vmin := 0xFFF, warnCnt := 0, recCnt := 0
    mgmtOk := [true, true], mgmtHalt := [false, false], rngStart := p.rngStart || p.standby, ddrFull := p.ddrFull || k == .transition, jnlLost := p.jnlLost || k == .transition
    cfgDue := p.cfgDue || k == .transition, doms := if p.standby then p.doms ++ wakeDoms else p.doms }

/-- The device after a reset with power retained, at stage 1. Records of what is executing are ACCEPTED again (R112). A
ceremony that had reached quorum leaves its evidence record. -/
def Dev.resetTo (c : Ctx) (k : ResetKind) (d : Dev) : Dev :=
  let d1 := ((d.abandonAll c).rawLeave).dbgReset c
  let d2 := (List.range 4).foldl (fun (a : Dev) n => if (a.cer n).state == .opened then a.cerEnd c n true 16 else a) d1
  let regs := resetRegs k d2
  let en := regs.get Off.pwrGroveEn
  let moved := k == .transition
  { d2 with
    regs := regs, hiLatch := [], rdata := 0, tim := d2.tim.restarted c.now, hif := d2.hif.restarted, slices := d2.slices.map Slice.restarted
    jnl := { d2.jnl with mirrorWait := [], degraded := false, flushBusy := false, flushStart := 0 }
    ddt := { d2.ddt with stalledSince := none, stallNs := 0, moves := [] }
    dsp := d2.dsp.restarted c.now, lan := d2.lan.restarted en, pke := d2.pke.restarted, key := d2.key.restarted (d.changing MirrorOf.isSlot)
    rng := { d2.rng with rawOn := false, raw := [], rawOverflow := false, cmdResult := 0 }
    fab := (if moved then { d2.fab with repls := [] } else d2.fab).restarted (regs.get Off.fabCtrl)
    erc := if moved then { d2.erc with trigCfg := [], snaps := [] } else d2.erc
    cus := d2.cus.restarted (regs.get Off.cusPortCtrl)
    tmp := { d2.tmp with startedLocked := d2.tmp.lock, unlockResult := 0, tokenStat := 0, active := d2.tmp.active &&& ~~~(1#32 <<< 0x10) }
    evl := { d2.evl with exporting := false, expResult := 0 }, lcs := d2.lcs.restarted, acc := d2.acc.restarted k.coldLike
    mem := { d2.mem with ddrReady := d2.mem.ddrReady && !moved }
    pwr := d2.pwr.restarted k, cfg := { d2.cfg with job := none, result := 0 } }

/-! ### The resets as they are signalled (R594, R599, R600) -/

/-- A reset signalled during a supply warning is held; a cold one takes the place of one that keeps more. -/
def Dev.signalReset (c : Ctx) (k : ResetKind) (d : Dev) : Dev :=
  if !d.pwr.powered then d
  else if d.warning then
    { d with pwr := { d.pwr with held := if k.coldLike then some k else some (d.pwr.held.getD k) } }
  else d.resetTo c k

/-- A held reset is applied. -/
def Dev.applyHeld (c : Ctx) (d : Dev) : Dev :=
  match d.pwr.held with
  | some k => d.resetTo c k
  | none => d

/-- COLD_RESET. -/
def execColdReset (s : State) : Host.Outcome State Fault Refusal := s.onDev (fun c d => d.signalReset c .cold)

/-- WARM_RESET. In STANDBY the link is down, and WARM_RST_N wakes (R590). -/
def warmResetOp (src : WarmSource) (c : Ctx) (d : Dev) : Dev :=
  match src with
  | .warmPin => d.signalReset c (if d.pwr.standby then .wake else .warmPin)
  | .perst => if d.pwr.standby then d else d.signalReset c .perst
  | .hotReset => if d.pwr.standby then d else d.signalReset c .hotReset
def execWarmReset (src : WarmSource) (s : State) : Host.Outcome State Fault Refusal := s.onDev (warmResetOp src)

/-- FUNCTION_LEVEL_RESET. -/
def execFunctionLevelReset (s : State) : Host.Outcome State Fault Refusal :=
  s.onDev (fun c d => if d.pwr.standby then d else d.signalReset c .flr)

/-- STANDBY_WAKE. -/
def standbyWakeOp (src : WakeSource) (c : Ctx) (d : Dev) : Dev :=
  let match_ := match src with
    | .smbus a => a == fld (d.reg Off.pwrSmbWake) 6 0
    | .warmPin => true
  if d.pwr.powered && d.pwr.standby && match_ then d.signalReset c .wake else d
def execStandbyWake (src : WakeSource) (s : State) : Host.Outcome State Fault Refusal := s.onDev (standbyWakeOp src)

/-- The reset levels of VDD_SRAM, VDD_MRAM, VDDQ, VDD_IO, and the two SERDES rails, in mV (R594). -/
def railLevel : List Nat := [720, 1080, 1000, 1620, 760, 1080]

/-- RAIL_RESET: a rail, 0 to 5 in the order of R594, has come to a level. It holds no warning back. Below VDDQ's range DDR5 is
trained in full again, and its content is lost (R578). -/
def railResetOp (rail mv : Nat) (c : Ctx) (d : Dev) : Dev :=
  if !d.pwr.powered || !decide (mv ≤ railLevel.getD rail 0 ∧ rail < 6) then d
  else
    let e := d.resetTo c .cold
    if rail = 2 then { e with
      mem := { e.mem with vddqDropped := true, ddrReady := false }
      pwr := { e.pwr with ddrFull := true, jnlLost := true } }
    else e
def execRailReset (rail : Nat) (s : State) (mv : Nat := 0) : Host.Outcome State Fault Refusal := s.onDev (railResetOp rail mv)

/-! ### A warning clears (R118, R597) -/

/-- A flush that is stopped has written part of the image: what its check word then says is free (log entry 7). -/
def Jnl.stopFlush (now : Nat) (j : Jnl) : Jnl :=
  if j.flushBusy then
    { j with flushBusy := false, dipFlush := true, anchor := j.anchor.map (fun (a : Anchor) => { a with crcOk := a.crcOk && Config.freeBool now 700 }) }
  else j

/-- SUPPLY_WARNING_CLEAR. FLUSH_DONE is cleared, unless start-up has not passed stage 8 (R119, R122); the groves that are
enabled wake; a reset that was held is applied. -/
def supplyClearOp (mv : Nat) (c : Ctx) (d : Dev) : Dev :=
  if !d.warning || !d.pwr.powered then d
  else
    let j := d.jnl.stopFlush c.now
    let void := d.past 8 && !d.jnl.recovering && d.jnl.flushDone
    let low := min d.pwr.vmin mv
    let d1 := { d with
      jnl := if void then { j with flushDone := false, dipFlush := true } else j
      pwr := { d.pwr with warnCore := false, warnPfail := false, vmin := low, recCnt := sat 0xFFFF (d.pwr.recCnt + 1) } }
    let d2 := (d1.evtBit Off.pwrEvt 1).record c Trig.warnRecovered (toLe 2 low)
    let d3 := (List.range 12).foldl (fun (a : Dev) g => if bit (a.reg Off.pwrGroveEn) g then a.groveWake g else a) d2
    d3.applyHeld c
def execSupplyWarningClear (minMv : Nat) (s : State) : Host.Outcome State Fault Refusal := s.onDev (supplyClearOp minMv)

/-- RECORDER_FLUSH_DONE; one that a warning started ends the hold of a reset (R599). -/
def recorderFlushDoneOp (c : Ctx) (d : Dev) : Dev :=
  if d.erc.flushTo.isNone || !d.pwr.powered then d else d.flushEnd.applyHeld c
def execRecorderFlushDone (s : State) : Host.Outcome State Fault Refusal := s.onDev recorderFlushDoneOp

/-! ### Power lost and power-on (R28, R485, R600) -/

/-- The log in MRAM: committed records, with the repeat counts that were written (R498, R569). -/
def Evl.afterLoss (e : Evl) : Evl :=
  { recs := (e.recs.drop (e.recs.length - e.head)).map (fun (r : EvRecord) => { r with repeats := r.stored }), head := e.head }

/-- The tamper domain on its cell: alarms, classes and the battery buffer stay. -/
def Tmp.afterLoss (t : Tmp) : Tmp :=
  { classes := t.classes, active := t.active &&& ~~~(1#32 <<< 0x10), latched := t.latched, lock := t.lock, zeroised := t.zeroised, rtc := t.rtc, rtcAcc := t.rtcAcc
    pair := t.pair, batt := t.batt, battEvent := t.battEvent, lfsr := t.lfsr, badPattern := t.badPattern, lightDiff := t.lightDiff, tempDiff := t.tempDiff }

/-- A slot record in MRAM (R336). -/
def Key.afterLoss (k : Key) : Key :=
  { bbkek := k.bbkek, bbkekVal := k.bbkekVal, check := k.check, slots := k.slots
    domains := (k.domains.filter (fun m => m.state != .empty)).map (fun (m : Domain) => { m with slotQuota := 0, extQuota := 0 }) }

/-- What is left without main power: MRAM, the tamper domain, and what the part sent out. A flush that was not finished leaves
an image whose check word need not agree. The role in the pair is kept with the journal (R439). -/
def Dev.afterLoss (c : Ctx) (d : Dev) : Dev :=
  { tx := d.tx
    hif := { rings := d.hif.rings.map (fun (r : Ring) => { slice := r.slice, num := r.num, gen := r.gen }) }
    jnl := { hiStored := d.jnl.hiStored, flushDone := d.jnl.flushDone, anchor := (d.jnl.stopFlush c.now).anchor }
    key := d.key.afterLoss
    rng := { ctr := d.rng.ctr }
    fab := { replicas := d.fab.replicas, pair := { role := d.fab.pair.role, epoch := d.fab.pair.epoch, holder := d.fab.pair.holder, swapDue := d.fab.pair.owedSwap } }
    cus := { scopes := d.cus.scopes, ports := d.cus.ports.map (fun (p : CardPort) => { num := p.num, present := p.present }),
             cers := d.cus.cers.map (fun (k : Ceremony) => { num := k.num, result := if k.state == .idle then 0 else 16 }) }
    tmp := d.tmp.afterLoss, evl := d.evl.afterLoss, erc := { mram := d.erc.mram }, lcs := { report := d.lcs.report }
    mem := { trainRec := d.mem.trainRec }
    pwr := { boots := d.pwr.boots, powered := false }
    cfg := { a := d.cfg.a, b := d.cfg.b } }

/-- Addresses of MRAM (R564). -/
def isMram (a : Nat) : Bool := decide (0x20000000 ≤ a ∧ a < 0x21000000)
/-- Power is lost: ST is 0 (R28); of the memories, MRAM keeps its content. -/
def State.losePower (s : State) : State :=
  if s.dev.pwr.powered then { s with st := 0, dev := s.dev.afterLoss s.ctx, mem := Memory.keep s.mem isMram } else s
/-- POWER_LOSS. -/
def execPowerLoss (s : State) : Host.Outcome State Fault Refusal := .next s.losePower

/-- The cell failed too: the tamper domain starts anew, and its loss is an alarm (R485). -/
def Dev.cellLost (c : Ctx) (d : Dev) : Dev :=
  let e := ({ d with tmp := { startedLocked := true, vbatLost := true } }).eraseBbkek
  let a := e.alarm c 0x0E
  { a with tmp := { a.tmp with startedLocked := true, vbatLost := true } }

/-- The part as power-on finds it: start-up at stage 1 on the full path. The flow and routing tables get keys of this power-up
(R417). -/
def Dev.powerOn (c : Ctx) (vbat : Bool) (d : Dev) : Dev :=
  let n := d.pwr.boots + 1
  let d1 := { d with
    tim := {}, pwr := { d.pwr with powered := true, boots := n }, tmp := { d.tmp with startedLocked := d.tmp.lock }
    fab := { d.fab with hashKey := n }, dsp := { d.dsp with flows := { hashKey := n } } }
  if vbat then d1 else d1.cellLost c

/-- POWER_ON_RESET: VDD_CORE_IN becomes valid, and ST starts at 0, UNSET (R28). Where it was valid before, it reached 0.86 V and power was lost first (R594). -/
def execPowerOnReset (vbatKept : Bool) (s : State) : Host.Outcome State Fault Refusal :=
  let s1 := { s.losePower with st := 0 }
  .next { s1 with dev := s1.dev.powerOn s1.ctx vbatKept }

end Sys2Proof.Machine
end

