-- ==== Sys2Proof/Machine/Startup.lean ====
section
/-! DEFINITION. Start-up (R602 to R608), stage by stage, with the life-cycle transition that its second stage carries out
(R526 to R532), and LCS_GO. -/

namespace Sys2Proof.Machine

/-! ### Stages (R598, R602) -/

/-- Start-up stops where it is. -/
def Dev.halt (d : Dev) : Dev := ({ d with pwr := { d.pwr with halted := true } }).evtBit Off.pwrEvt 4
/-- A stage ends. -/
def Dev.stageEnd (d : Dev) : Dev := ({ d with pwr := { d.pwr with stage := d.pwr.stage + 1 } }).evtBit Off.pwrEvt 2

/-- The stage in progress is `n`, and no warning holds it: one holds at the next stage boundary, and stage 2 at the next step. -/
def Dev.stageDue (n : Nat) (d : Dev) : Bool :=
  d.endpointUp && !d.pwr.halted && d.pwr.stage == n && (!d.warning || (d.pwr.warnStage == n && n != 2))

/-- Domains that a stage needs (R586). -/
def stageDoms (n : Nat) : List Nat := [[], [], [], [240, 241], [228, 229, 230], [243], [239, 244], [], [242]].getD n []

/-- The work of a stage: not before its domains are up, and start-up halts where one of them failed. -/
def Dev.onStage (n : Nat) (f : Dev → Dev) (d : Dev) : Dev :=
  if !d.stageDue n then d
  else if (stageDoms n).any d.domWaking then d
  else if (stageDoms n).any (fun k => d.pwr.doms.any (fun x => x.num == k && x.fault)) then d.halt
  else f d

/-- The work of stage `n` is done at this command: what it needs is up. -/
def Dev.stageRuns (n : Nat) (d : Dev) : Bool :=
  d.stageDue n && !(stageDoms n).any (fun k => d.domWaking k || d.pwr.doms.any (fun x => x.num == k && x.fault))

/-! ### Stage 1: fuses (R520) -/

/-- The root group was wiped: every bit reads 1 (R520, R529). -/
def Otp.rootWiped (o : Otp) : Bool := o.word 1 0 == 0xFFFFFFFF#32

/-- FUSE_LOAD. A group that the port programmed is checked here; of one that stands as the part came, `idOk` and `rootOk` say
what its check word gives (log entry 85). -/
def fuseLoadOp (idOk rootOk : Bool) (c : Ctx) (d : Dev) : Dev :=
  let good := fun (g : Nat) (came : Bool) => if c.otp.touched g then c.otp.groupOk g else came
  d.onStage 1 (fun d =>
    if !(good 0 idOk && good 2 idOk) then d.halt
    else ({ d with lcs := { d.lcs with rootBad := !(good 1 rootOk && good 3 rootOk) || c.otp.rootWiped } }).stageEnd)
def execFuseLoad (idOk rootOk : Bool) (s : State) : Host.Outcome State Fault Refusal := s.onDev (fuseLoadOp idOk rootOk)

/-! ### Stage 2: life-cycle decode, and the steps of a transition (R521, R522, R528 to R532) -/

/-- The copies are broken, or more than one state apart with no open transition to the higher. -/
def Otp.integrityLost (o : Otp) : Bool :=
  let a := otpPrefix o.copyA
  let b := otpPrefix o.copyB
  otpBroken o.copyA || otpBroken o.copyB
    || (decide (a + 1 < b ∨ b + 1 < a) && !(match o.openRec with | some w => (recTarget w).code == max a b | none => false))

/-- The steps that a transition to a state uses: 1 to 7 the wipes, 8 and 9 the two copies, 10 DONE. -/
def lcStepUsed (t : LcState) (k : Nat) : Bool :=
  decide (1 ≤ k ∧ k ≤ 4) || (k == 5 && t != .factoryTest) || ((k == 6 || k == 7) && t == .scrapped) || decide (8 ≤ k ∧ k ≤ 10)
def lcStepDone (w : Word) (k : Nat) : Bool := recFlag w (8 + 2 * k)

/-- A wiped fuse group reads all ones. -/
def Otp.wipeGroup (g : Nat) (o : Otp) : Otp := (List.range (ceilDiv (fuseBytes g) 4)).foldl (fun (a : Otp) w => a.program g w 0xFFFFFFFF#32) o

/-- What a step programs into the fuses beside its flag. -/
def Otp.lcStep (t : LcState) (k : Nat) (o : Otp) : Otp :=
  let full : BitVec 40 := BitVec.ofNat 40 (2 ^ (8 * t.code) - 1)
  if k = 7 then (o.wipeGroup 1).wipeGroup 3
  else if k = 8 then { o with copyA := o.copyA ||| full }
  else if k = 9 then { o with copyB := o.copyB ||| full }
  else o

/-- What a step erases. -/
def Dev.lcWipe (k : Nat) (d : Dev) : Dev :=
  if k = 1 then { d with key := { d.key with check := none, slots := [], domains := [], cache := [], domErase := none } }
  else if k = 2 then { d with cus := { d.cus with scopes := [] } }
  else if k = 3 then { d with cfg := { d.cfg with a := none, b := none } }
  else if k = 4 then { d with jnl := { d.jnl with anchor := none, flushDone := false }, erc := { d.erc with mram := [], wrapped := false } }
  else if k = 5 then d.eraseBbkek
  else if k = 6 then { d with evl := {} }
  else d

/-- The flag of the open record's step is programmed. -/
def Otp.flagStep (k : Nat) (o : Otp) : Otp := { o with recs := o.recs.dropLast ++ (o.recs.getLast?.toList).map (fun (w : Word) => w ||| (3#32 <<< (8 + 2 * k))) }

/-- One step of the open transition, unless it is done, is not used, or an earlier one failed: the third part. -/
def lcRun (t : LcState) (fail : Option Nat) (k : Nat) (x : Otp × Dev × Bool) : Otp × Dev × Bool :=
  let (o, d, stuck) := x
  if stuck || !lcStepUsed t k || (o.recs.getLast?).any (fun w => lcStepDone w k) then x
  else if fail = some k then (o, d, true)
  else ((o.lcStep t k).flagStep k, d.lcWipe k, false)

/-- The steps of an open transition, in order. -/
def lcResume (fail : Option Nat) (o : Otp) (d : Dev) : Otp × Dev × Bool :=
  match o.openRec with
  | none => (o, d, false)
  | some w => ((List.range 10).map (· + 1)).foldl (fun x k => lcRun (recTarget w) fail k x) (o, d, false)

/-- LIFECYCLE_DECODE. `failStep` is a step that failed its readback three times (R531). -/
def lifecycleStage (fail : Option Nat) (c : Ctx) (d : Dev) : Otp × Dev :=
  if !d.stageDue 2 then (c.otp, d)
  else
    let d1 := if c.otp.integrityLost then d.alarm c 0x09 else d
    let (o, d2, stuck) := lcResume fail c.otp d1
    if stuck then (o, { d2 with lcs := { d2.lcs with stuck := true } })
    else
      let d3 := { d2 with lcs := { d2.lcs with stuck := false } }
      let spare := o.state == .scrapped || o.openRec.any (fun w => recTarget w == .scrapped)
      (o, if d3.lcs.rootBad && !spare then d3.halt else d3.stageEnd)
def execLifecycleDecode (failStep : Option Nat) (s : State) : Host.Outcome State Fault Refusal :=
  let r := lifecycleStage failStep s.ctx s.dev
  .next { s with otp := r.1, dev := r.2 }

/-! ### LCS_GO (R526, R527, R529) -/

/-- A GO that starts a transition programs TARGET and INTENT, has its INTENT record written, and restarts the part. -/
def State.goLatch (before : Option (Nat × Nat)) (s : State) : State :=
  match s.dev.lcs.report with
  | some (a, t) =>
    if before = some (a, t) then s
    else
      let c := s.ctx
      { s with
        otp := { s.otp with recs := s.otp.recs ++ [(1#32 <<< (t - 1)) ||| 0x300#32] }
        dev := (s.dev.appendAll c 64).resetTo c .transition }
  | none => s
/-- A host write to LCS_GO. -/
def State.lcGo (v : Word) (s : State) : State :=
  ({ s with dev := s.dev.hostWrite s.ctx Off.lcsGo (lcGoW s.ctx v) }).goLatch s.dev.lcs.report
def execLcGo (value : Word) (s : State) : Host.Outcome State Fault Refusal := .next (s.lcGo value)

/-! ### Stages 3 to 5: boot image, DDR5, entropy (R573, R576, R578, R603) -/

/-- The image in use gives the rule set, the DDR5 parameters and the microcode patch. -/
def Dev.takeImage (c : Ctx) (isB : Bool) (img : BootImage) (d : Dev) : Dev :=
  { d with
    lan := { d.lan with patch := img.patch, twins := d.lan.twins.map (fun (t : Twin) => t.lanes (fun _ l => { l with level := img.patch })) }
    pwr := { d.pwr with
      verified := true, imageB := isB, ddrParams := img.ddrParams
      nymjorMl := if sha384 img.nymjorMl = c.otp.nymjorDigest then img.nymjorMl else []
      rules := (img.rules.take 32).map (fun x => ({ baseLo := loW x.1 &&& 0xFFFFF000#32, baseHi := hiW x.1 &&& 0xFFFF#32, cfg := (x.2.1 &&& 0x00FF3F03#32) ||| 2#32, perm := x.2.2 &&& 0x03FF03FF#32 } : Region)) } }

/-- BOOT_IMAGE_VERIFY. Of the two images in flash the one of the higher version is verified first, A where they are equal (log
entry 88), then the other. The power-retained path keeps the image in management memory while its digest agrees. -/
def bootImageOp (a b : BootImage) (retained : Bool) (c : Ctx) (d : Dev) : Dev :=
  d.onStage 3 (fun d =>
    let order := if a.version < b.version then [(true, b), (false, a)] else [(false, a), (true, b)]
    if d.pwr.retained && d.pwr.verified && retained then d.stageEnd
    else match order.find? (fun x => x.2.sigOk) with
      | none => d.halt
      | some (isB, img) => (d.takeImage c isB img).stageEnd)
def execBootImageVerify (a : BootImage) (s : State) (b : BootImage := {}) (retained : Bool := false) : Host.Outcome State Fault Refusal := s.onDev (bootImageOp a b retained)

/-- The parameters are within R572. -/
def ddrParamsOk (p : Word) : Bool :=
  decide (fld p 1 0 ≤ 2) && decide (fld p 5 4 ≤ 2) && (!bit p 8 || (fld p 5 4 == 0 && decide (fld p 1 0 ≤ 1)))
/-- Usable DDR5 in MiB: 15/16 of both channels (R572, R575). -/
def ddrUsable (p : Word) : Nat := 2 * ([32, 48, 64].getD (fld p 5 4) 0 * (if bit p 8 then 2 else 1)) * 1024 * 15 / 16

/-- Stage 5 after stage 4: the entropy start-up, or complete at once (R374). -/
def Dev.entropyStage (c : Ctx) (d : Dev) : Dev :=
  if d.pwr.rngStart then
    let e := { d with pwr := { d.pwr with rngStart := false } }
    if e.rng.state = .noRandomness then e.stageEnd else e.rngBegin c
  else (d.drawDdrKeys c).stageEnd

/-- DDR5 is to be trained in full: what it held is lost (R578). -/
def Dev.ddrFullDue (d : Dev) : Bool := d.pwr.ddrFull || d.mem.vddqDropped || !d.mem.trainRec
/-- DDR5_TRAINING: in full, or out of self-refresh with what DDR5 held. -/
def ddrTrainingOp (ok : Bool) (c : Ctx) (d : Dev) : Dev :=
  d.onStage 4 (fun d =>
    let full := d.ddrFullDue
    if !ok || !ddrParamsOk d.pwr.ddrParams then ({ d with mem := { d.mem with train := 3 } }).halt
    else
      let m := { d.mem with train := if full then 1 else 2, srKept := !full, trainRec := true, vddqDropped := false,
                            cfg := d.pwr.ddrParams &&& 0x133#32, usable := ddrUsable d.pwr.ddrParams, ddrReady := d.mem.ddrReady && !full }
      ((({ d with mem := m, pwr := { d.pwr with ddrFull := false, jnlLost := d.pwr.jnlLost || full } }).evtBit Off.memEvt 2).stageEnd).entropyStage c)
def execDdr5Training (ok : Bool) (s : State) : Host.Outcome State Fault Refusal := 
  .next { s with dev := ddrTrainingOp ok s.ctx s.dev,
                 mem := if s.dev.stageRuns 4 && s.dev.ddrFullDue then Memory.keep s.mem (fun a => decide (a < ddrBase)) else s.mem }

/-! ### Stage 6: configuration, key store, evidence (R323, R484, R495, R532, R549, R607) -/

/-- The key store's state by its check record (R323). -/
def Key.checkStore (o : Otp) (k : Key) : Key :=
  { k with store := match k.check with
      | none => .uninit
      | some (r, v) => if r = o.root ∧ o.root ≠ 0 ∧ k.bbkek = .valid ∧ o.dsk k.bbkekVal = v then .ready else .unreadable }

/-- Selectors that a load leaves at their reset values. -/
def Dev.clearSelectors (d : Dev) : Dev := ([Off.keySelDomain, Off.ercTrigSel, Off.ercSnapSel, Off.fabReplSel]).foldl (fun (a : Dev) o => a.clrReg o) d

/-- The base rule set, with PROTECT, and the configuration's own regions after it, become the committed table. -/
def Dev.baseRules (d : Dev) : Dev :=
  let rs := (d.pwr.rules ++ List.replicate 64 ({} : Region)).take 32 ++ List.replicate 32 ({} : Region)
  { d with acc := { d.acc with staged := rs, older := none } }
def Dev.commitLoaded (d : Dev) : Dev := { d with acc := { d.acc with committed := d.acc.staged, epoch := 0 } }

/-- The load of the full path: the newest valid block, entry by entry. -/
def Dev.loadConfig (c : Ctx) (d : Dev) : Dev :=
  let k := d.cfg
  let d1 := ({ d with cfg := { k with
    defaulted := k.newest.isNone, inUse := k.newestB, fallback := k.a.isSome != k.b.isSome, rejected := 0, gen := k.newest.elim 0 (fun (x : CfgBlock) => x.gen) } }).baseRules
  (((d1.loadEntries c (k.newest.elim [] (fun (x : CfgBlock) => x.entries))).clearSelectors).commitLoaded)

/-- What a cold reset cleared: the access regions and the locks. -/
def Dev.reloadCold (c : Ctx) (d : Dev) : Dev :=
  let es := d.cfg.newest.elim [] (fun (x : CfgBlock) => x.entries)
  let d1 := ((d.baseRules).loadEntries c (es.filter (fun e => decide (Off.accRgnBaseLo ≤ e.1 ∧ e.1 < Off.accRgnBaseLo + 1024)))).commitLoaded
  (es.filter (fun e => e.1 == Off.tmpCtrl || e.1 == Off.fabCtrl)).foldl (fun (a : Dev) e => a.setReg e.1 (a.reg e.1 ||| (e.2 &&& 0x80000000#32))) d1

/-- A battery entry as its 16 bytes, and its time as the stored pair gives it (R483, R484). -/
def BattEntry.bytes (e : BattEntry) : Bytes := toLe 6 e.rtc ++ toLe 1 e.event ++ toLe 1 e.src ++ toLe 1 e.cls ++ toLe 1 0 ++ toLe 2 e.count ++ zeros 4
def battStamp (pair : Option (Nat × Nat)) (e : BattEntry) : DWord :=
  match pair with
  | none => 0
  | some (st, rtc) => BitVec.ofNat 64 ((((st : Int) + ((e.rtc : Int) - rtc) * 30517578125 / 1000000).toNat) % 2 ^ 61 + 5 * 2 ^ 61)

/-- A cause that is written at once. -/
def Dev.evidenceNow (c : Ctx) (typ : Nat) (payload : Bytes) (d : Dev) : Dev := (d.evidence c typ payload).appendAll c 64

/-- The battery buffer moves into the log. -/
def Dev.moveBatt (c : Ctx) (d : Dev) : Dev :=
  let t := d.tmp
  if t.batt.isEmpty then d
  else
    let d1 := { d with tmp := { t with batt := [], moved := t.batt.length, movedOver := t.batt.any (fun e => e.src == 0xFF) } }
    let d2 := t.batt.foldl (fun (a : Dev) e => (a.evidenceAt (battStamp t.pair e) t.pair.isSome Ev.tamperBattery e.bytes).appendAll c 64) d1
    d2.evtBit Off.tmpEvt 5

/-- What the anchor decodes as (R120). -/
def Jnl.anchorResult (j : Jnl) : Nat := match j.anchor with | none => 0 | some a => if j.flushDone && a.crcOk then 1 else 2

/-- The records of a power-up. -/
def Dev.bootRecords (c : Ctx) (d : Dev) : Dev :=
  let lc := c.otp.state.code
  let d1 := if d.evl.recs.isEmpty then d.evidenceNow c Ev.logStart (toLe 1 lc) else d
  let d2 := d1.moveBatt c
  (d2.evidenceNow c Ev.powerUp (toLe 4 d.pwr.boots ++ toLe 1 lc ++ toLe 1 d.jnl.anchorResult ++ toLe 1 (b2n d.tmp.startedLocked)))

/-- The records of a finished transition's steps; of one to SCRAPPED, none. -/
def Dev.stepRecords (c : Ctx) (d : Dev) : Dev :=
  match d.lcs.report, c.otp.openRec with
  | some (a, t), none =>
    let d1 := { d with lcs := { d.lcs with report := none } }
    if t = 5 then d1
    else (((List.range 10).map (· + 1)).filter (lcStepUsed (lcOf t))).foldl (fun (x : Dev) k => x.evidenceNow c Ev.lifecycle (toLe 1 a ++ toLe 1 t ++ toLe 1 k)) d1
  | _, _ => d

/-- The management DRBG reseeds the shroud's LFSR at a power-up (R470). -/
def Dev.reseedShroud (c : Ctx) (d : Dev) : Dev :=
  if d.mgmtDrbg then
    let (v, d1) := d.mgmtNonce c
    { d1 with tmp := { d1.tmp with lfsr := v } }
  else d

/-- CONFIG_LOAD. -/
def configLoadOp (c : Ctx) (d : Dev) : Dev :=
  d.onStage 6 (fun d =>
    let d1 := if d.pwr.cfgDue then d.loadConfig c else if d.pwr.cause = ResetKind.cold.code then d.reloadCold c else d
    let d2 := { d1 with key := d1.key.checkStore c.otp }
    let d3 := if d2.pwr.bootDue then (d2.bootRecords c).reseedShroud c else d2
    let d4 := d3.stepRecords c
    ({ d4 with pwr := { d4.pwr with cfgDue := false, bootDue := false } }).stageEnd)
def execConfigLoad (s : State) : Host.Outcome State Fault Refusal := s.onDev configLoadOp

/-! ### Stage 7: time references (R602, R643) -/

/-- TIME_REF_START. A nonce that cannot be drawn leaves none valid. -/
def timeRefStartOp (c : Ctx) (d : Dev) : Dev :=
  d.onStage 7 (fun d =>
    let d1 := d.onTim (fun t => { t with trefValid := false, trefSince := c.now })
    (if d1.mgmtDrbg then d1.newTimeNonce c else d1).stageEnd)
def execTimeRefStart (s : State) : Host.Outcome State Fault Refusal := s.onDev timeRefStartOp

/-! ### Stage 8: journal recovery (R95, R113, R120 to R122, R439, R647) -/

/-- A record as recovery restores it. -/
def Rec.restored (now : Nat) (r : Rec) : Rec :=
  if r.st.pending then { r with st := .awaiting, recovered := true, spilled := false, deadline := now + r.remaining * nsUs, remaining := 0 } else r

/-- Entries owed after recovery: by completion ST, then by sequence. -/
def insertOwed (a : Rec) : List Rec → List Rec
  | [] => [a]
  | b :: t =>
    if (a.cst.toNat % 2 ^ 61 < b.cst.toNat % 2 ^ 61) ∨ (a.cst.toNat % 2 ^ 61 = b.cst.toNat % 2 ^ 61 ∧ a.seq ≤ b.seq) then a :: b :: t else b :: insertOwed a t
def owedOf (l : List Rec) : List Owed :=
  ((l.filter (fun r => r.st == .owed || r.st == .replay)).foldr insertOwed []).map (fun (r : Rec) => { slot := r.slot, slice := r.slice, ring := r.ring })

/-- The journal, the table, the rings and the slices before anything is restored: empty, generations kept. -/
def Dev.emptyJournal (d : Dev) : Dev :=
  { d with
    jnl := { d.jnl with recs := [], fresh := 0, completed := [], owed := [], mirrorWait := [], recoverOpen := false, bodies := [] }
    hif := { d.hif with rings := d.hif.rings.map (fun (r : Ring) => { slice := r.slice, num := r.num, gen := r.gen }), barriers := [] }
    dsp := { d.dsp with items := [], flows := { d.dsp.flows with occ := [] } }
    slices := [] }

/-- Numbering without a valid anchor (R95). -/
def Dev.renumber (d : Dev) : Dev :=
  match d.jnl.hiStored with
  | none => { d with jnl := { d.jnl with nextSeq := 0, hiStored := some 0 } }
  | some h => { d with jnl := { d.jnl with nextSeq := (h + 1) * 2 ^ 40, hiStored := some (h + 1) } }

/-- A slice of the slice table (R647). -/
def AnchorSlice.back (now : Nat) (x : AnchorSlice) : Slice := { x.slice with since := now }

/-- A ring of the ring table, PARKED, without its settings. -/
def AnchorRing.back (r : AnchorRing) : Ring :=
  { slice := r.slice, num := r.ring, state := .parked, gen := r.gen, accepted := r.accepted, posted := r.posted, consumed := r.posted, tail := r.accepted, needsSettings := true }

/-- From a VALID anchor (R121, R647). -/
def Dev.restoreAnchor (now : Nat) (a : Anchor) (d : Dev) : Dev :=
  let recs := a.recs.map (Rec.restored now)
  let sl := (a.slices.map (AnchorSlice.back now)).filter (fun s => s.state != .unbound)
  let live := a.rings.filter (fun r => sl.any (fun s => s.num == r.slice))
  let d1 := { d with
    jnl := { d.jnl with recs := recs, fresh := a.fresh, completed := a.completed, owed := owedOf recs, nextSeq := a.nextSeq, anchorRecs := a.count, recoverOpen := true }
    slices := sl }
  live.foldl (fun (x : Dev) r => x.updRing r.slice r.ring (fun _ => r.back)) d1

/-- The payload of ANCHOR_INVALID. The stored check word is a free value (log entry 7). -/
def anchorInvalid (now : Nat) (j : Jnl) (a : Anchor) : Bytes :=
  toLe 8 a.nextSeq ++ toLe 2 (min 65535 a.recs.length) ++ toLe 2 a.rings.length ++ toLe 6 a.epoch ++ toLe 1 (b2n (!j.flushDone) + 2 * b2n (!a.crcOk)) ++ zeros 1
    ++ toLe 4 (Config.freeNat now 701)

/-- The anchor is decoded and the head rebuilt; the table follows once its keys can be drawn. -/
def Dev.fromAnchor (c : Ctx) (d : Dev) : Dev :=
  let res := d.jnl.anchorResult
  let d0 := { d with jnl := { d.jnl with bootResult := res }, pwr := { d.pwr with jnlLost := false } }
  let d1 := d0.emptyJournal
  match d.jnl.anchor, res with
  | some a, 1 => d1.restoreAnchor c.now a
  | some a, _ => ((d1.renumber).evtBit Off.jnlEvt 1).evidence c Ev.anchorInvalid (anchorInvalid c.now d.jnl a)
  | none, _ => d1.renumber

/-- A device that was active is to win the witness again before it acts; one that was not stays FENCED (R439). -/
def Dev.roleAfter (c : Ctx) (d : Dev) : Dev :=
  let p := d.fab.pair
  match p.role with
  | .unpaired => d
  | .active | .activeAlone => (d.toRole c .fenced).onPair (fun q => { q with swapDue := some (.recover, c.now) })
  | _ => (d.toRole c .fenced).onPair (fun q => { q with swapDue := q.owedSwap.map (fun x => (x.1, c.now)) })

/-- JOURNAL_RECOVERY. It waits for the management DRBG where the table is to be initialised (R376), unless there is no
randomness to come (R122). -/
def journalRecoveryOp (c : Ctx) (d : Dev) : Dev :=
  d.onStage 8 (fun d =>
    if d.pwr.jnlLost && !d.mgmtDrbg && d.rng.state != .noRandomness then d
    else
      let fin := fun (x : Dev) => (x.stageEnd).evtBit Off.pwrEvt 3
      if d.pwr.jnlLost || d.jnl.recovering then
        let d1 := (if d.pwr.jnlLost then d.fromAnchor c else d).roleAfter c
        if d1.mgmtDrbg then fin (d1.finishRecovery c) else fin { d1 with jnl := { d1.jnl with recovering := true } }
      else
        let d1 := d.roleAfter c
        let d2 := ({ d1 with jnl := { d1.jnl with flushDone := false } }).evtBit Off.jnlEvt 0
        fin (if d2.fab.pair.role = .unpaired then d2.redispatch c else d2))
def execJournalRecovery (s : State) : Host.Outcome State Fault Refusal := s.onDev journalRecoveryOp

end Sys2Proof.Machine
end

