-- ==== Sys2Proof/Machine/HostAccess.lean ====
section
/-! DEFINITION. Accesses from outside: host writes and reads through the BARs (R5, R8, R9, R639 to R641), the record windows
(R131, R361, R416, R454, R510, R536), SMBus (R642), and the debug master (R534, R535, R557, R560). -/

namespace Sys2Proof.Machine

/-! ### 64-bit pairs (R8) -/

/-- Offsets of the _LO registers. Their _HI registers follow. -/
def pairLos : List Nat :=
  [Off.timStLo, Off.timSlewRemLo, Off.timPpsCapLo, Off.timTokenNonceLo, Off.timTokenAddrLo, Off.timTaHandleLo, Off.timSetValueLo, Off.hifSqBaseLo, Off.hifCqBaseLo,
   Off.hifHwbAddrLo, Off.hifRingFaultAddrLo, Off.jnlNextSeqLo, Off.jnlOldestSeqLo, Off.jnlBodyBaseLo, Off.ddtBaseLo, Off.dspBusyLo, Off.lanLastMmStLo, Off.pkeAbortIdLo,
   Off.keyExpKcvLo, Off.keyWinNbLo, Off.keyWinNaLo, Off.rngFailStLo, Off.hifMigAddrLo, Off.hifMigKeyLo, Off.hifMigNonceLo, Off.fabWitnessAddrLo, Off.fabPairEpochLo,
   Off.fabPairOffsetLo, Off.cusParamAddrLo, Off.cusRespAddrLo, Off.cusCerIdLo, Off.tmpLastStLo, Off.tmpUnlockNonceLo, Off.tmpTokenAddrLo, Off.tmpRtcLo,
   Off.evlExportAddrLo, Off.evlExportNonceLo, Off.lcsReqAddrLo, Off.lcsDbgTokenAddrLo, Off.lcsDbgExpiryLo, Off.accViolAddrLo, Off.memLastAddrLo]
def isLo (off : Nat) : Bool := pairLos.contains off || (decide (Off.accRgnBaseLo ≤ off ∧ off < Off.accRgnBaseLo + 1024) && (off - Off.accRgnBaseLo) % 16 == 0)
def isHi (off : Nat) : Bool := decide (4 ≤ off) && isLo (off - 4)

/-- A latched value is stored; 0 is what no latch holds. -/
def latchSet (l : RegFile) (off : Nat) (v : Word) : RegFile := if v = 0#32 then l.erase off else RegFile.insert off v (l.erase off)
def latchGet (l : RegFile) (off : Nat) : Word := match l.find? (fun p => p.1 == off) with | some p => p.2 | none => 0#32

/-! ### Windows -/

/-- The 64 bytes of an enrolment record (R447). -/
def Enrol.bytes (e : Enrol) : Bytes := toLe 8 e.id ++ (padTo 32 e.digest).take 32 ++ toLe 1 (b2n e.remote) ++ zeros 7 ++ toLe 8 e.st.toNat ++ zeros 8

/-- The 32 bytes of a node record (R416). -/
def Node.bytes (now period : Nat) (n : Node) : Bytes :=
  let ports := (List.range 8).foldl (fun a p => a + (if n.portSts.any (fun x => x.1 == p && decide (now < x.2 + 3 * period)) then 2 ^ p else 0)) 0
  toLe 16 n.unit ++ toLe 4 n.boot ++ toLe 4 n.seq ++ toLe 1 n.hops ++ toLe 1 ports ++ toLe 2 (n.num % 1024 + b2n n.live * 2 ^ 15) ++ toLe 4 (sat 0xFFFFFFFF ((now - n.lastSt) / nsMs))

/-- The record that a window's index shows, as bytes; none where there is none. -/
def Dev.headSlot (d : Dev) (k : Nat) : Bytes := (d.rec? k).elim (zeros 32) Rec.bytes
def Dev.nodeRecord (c : Ctx) (d : Dev) (k : Nat) : Bytes := (d.fab.nodes.find? (fun n => n.num == k)).elim (zeros 32) (Node.bytes c.now d.discPeriod)
def Dev.evlRecord (d : Dev) (k : Nat) : Bytes := if k < d.evl.recs.length then (d.evl.recs[d.evl.recs.length - 1 - k]?).elim (zeros 64) (EvRecord.bytes k) else zeros 64
def Dev.ercRecord (d : Dev) (mram : Bool) (k : Nat) : Bytes :=
  let l := if mram then d.erc.mram else d.erc.ring
  if k < l.length then (l[l.length - 1 - k]?).elim (zeros 256) ErRecord.bytes else zeros 256
def Dev.rosterRecord (d : Dev) (k : Nat) : Bytes :=
  let sel := d.reg Off.cusScopeSel
  (((d.scope (if bit sel 31 then none else some (fld sel 9 0))).recs)[k]?).elim (zeros 64) Enrol.bytes
def Dev.cerChallenge (d : Dev) : Bytes := let k := d.cer (fld (d.reg Off.cusCerSel) 1 0); if k.state = .idle then [] else k.challenge

/-- The word at an offset of a byte string that goes on in zeros. -/
def wordOf (b : Bytes) (o : Nat) : Word := BitVec.ofNat 32 (le b o 4)

/-- The word of a window, by its BAR0 offset; none where no window is. -/
def Dev.window (c : Ctx) (d : Dev) (off : Nat) : Option Word :=
  let o := off % 0x1000
  match off / 0x1000 with
  | 0x21 => some (wordOf (d.headSlot (fld (d.reg Off.jnlWinCursor) 7 0 * 128 + o / 32)) (o % 32))
  | 0x71 => some (wordOf (mkBytes 4 (fun i => Config.idCertByte c.otp.root (o + i))) 0)
  | 0x91 => some (wordOf d.cerChallenge o)
  | 0x92 => if o < 0x400 then some (wordOf (d.rosterRecord (o / 64)) (o % 64)) else none
  | 0xB1 => some (wordOf (d.evlRecord (fld (d.reg Off.evlCursor) 15 0 + o / 64)) (o % 64))
  | 0xC1 => some (wordOf (d.ercRecord (bit (d.reg Off.ercCursor) 0) (fld (d.reg Off.ercCursor) 26 16 + o / 256)) (o % 256))
  | 0xD1 => some (wordOf (d.lcs.chal.elim [] DbgChal.bytes) o)
  | 0x121 => some (wordOf (d.nodeRecord c (fld (d.reg Off.fabNodeCursor) 2 0 * 128 + o / 32)) (o % 32))
  | _ => none

/-! ### One word (R5, R8) -/

/-- A permitted read of a word: its value and what the read does. -/
def Dev.readWord (c : Ctx) (off : Nat) (d : Dev) : Word × Dev :=
  if isHi off then (latchGet d.hiLatch off, d)
  else if isLo off then (d.readReg c off, { d with hiLatch := latchSet d.hiLatch (off + 4) (d.readReg c (off + 4)) })
  else if off = Off.rngRawData then (let r := Dev.rawTake [] c d; (BitVec.ofNat 32 r.1.toNat, r.2))
  else if off = Off.dspSliceHist then (let e := d.histLatch; (e.readReg c off, e))
  else match d.window c off with
    | some w => (w, d)
    | none => (d.readReg c off, d)

/-- A permitted write of a word. The two registers that reach beyond `Dev` act by their own rows. -/
def State.writeWord (off : Nat) (v : Word) (s : State) : State :=
  if off = Off.lcsGo then s.lcGo v
  else if off = Off.timSetCtrl then (match s.onTime (timSetApplyOp v) with | .next t => t | _ => s)
  else { s with dev := s.dev.hostWrite s.ctx off (regW s.ctx off v) }

/-! ### BAR0 by width and alignment (R639) -/

/-- A read that the table refuses: 0, and a report where the access rules permit it. -/
def Dev.readRefused (c : Ctx) (off : Nat) (d : Dev) : Dev := d.hostRead c off (fun x => (0, if x.open6 then x.ruleViolation c off else x))

/-- A host read of BAR2 at its offset (R59, R641): whole aligned words, one or two. -/
def bar2Read (off bits : Nat) (c : Ctx) (d : Dev) : Dev :=
  let word := fun (o : Nat) (x : Dev) => x.hostRead c (bar2 o) (fun y => let r := y.bar2Word o; (BitVec.ofNat 64 r.1.toNat, r.2))
  if bits = 32 ∧ off % 4 = 0 then word off d
  else if bits = 64 ∧ off % 8 = 0 then
    let a := word off d
    let b := word (off + 4) a
    if d.endpointUp then { b with rdata := BitVec.ofNat 64 (a.rdata.toNat % 2 ^ 32 + b.rdata.toNat % 2 ^ 32 * 2 ^ 32) } else d
  else if d.endpointUp then { d with rdata := 0 } else d

/-- READ_LO_LATCH: a host read of `bits` at an internal address, of BAR0 or of BAR2, which starts at 0x0400_0000 (R564). -/
def hostReadOp (off bits : Nat) (c : Ctx) (d : Dev) : Dev :=
  let word := fun (o : Nat) (x : Dev) => x.hostRead c o (fun y => let r := y.readWord c o; (BitVec.ofNat 64 r.1.toNat, r.2))
  if 0x05000000 ≤ off then d
  else if 0x04000000 ≤ off then bar2Read (off - 0x04000000) bits c d
  else if bits = 32 ∧ off % 4 = 0 then word off d
  else if bits = 64 ∧ off % 8 = 0 then
    let a := word off d
    let b := word (off + 4) a
    if d.endpointUp then { b with rdata := BitVec.ofNat 64 (a.rdata.toNat % 2 ^ 32 + b.rdata.toNat % 2 ^ 32 * 2 ^ 32) } else d
  else if bits = 8 ∨ (bits = 16 ∧ off % 2 = 0) then
    let a := word (off / 4 * 4) d
    if d.endpointUp then { a with rdata := BitVec.ofNat 64 (a.rdata.toNat / 2 ^ (8 * (off % 4)) % 2 ^ bits) } else d
  else d.readRefused c off
def execReadLoLatch (off size : Nat) (s : State) : Host.Outcome State Fault Refusal := s.onDev (hostReadOp off size)

/-- A write to BAR0. -/
def State.writeBar0 (off bits : Nat) (v : DWord) (s : State) : State :=
  if 0x04000000 ≤ off then s
  else if bits = 32 ∧ off % 4 = 0 then s.writeWord off (loW v.toNat)
  else if bits = 64 ∧ off % 8 = 0 then (s.writeWord off (loW v.toNat)).writeWord (off + 4) (hiW v.toNat)
  else { s with dev := s.dev.hostWrite s.ctx off (fun _ => .viol) }

/-! ### BAR2 and BAR4 (R9, R59, R61, R641) -/

/-- A write to the doorbell page of a slice: the doorbells of ring r lie at 16r, what follows them is read-only. -/
def bar2Write (off bits : Nat) (v : DWord) (c : Ctx) (d : Dev) : Dev :=
  let slice := off / 0x1000
  let o := off % 0x1000
  let ring := o / 16
  if 4096 ≤ slice ∨ 0x100 ≤ o then d
  else d.hostWrite c (bar2 off) (fun d => d.doorbell c slice ring (bar2 off) bits (bits == 64 && off % 8 == 0) v
    (fun t d => if o % 16 < 8 then sqDb c slice ring t d else cqDb c slice ring t d))

/-- A word of an MSI-X table entry. The pending bits are read-only. -/
def msixWord (off : Nat) (w : Word) (d : Dev) : Dev :=
  let v := off / 16
  let n := w.toNat
  if 0x8000 ≤ off then d
  else
    let f := fun (e : MsixEntry) =>
      if off % 16 = 0 then { e with addr := e.addr / 2 ^ 32 * 2 ^ 32 + n / 4 * 4 }
      else if off % 16 = 4 then { e with addr := e.addr % 2 ^ 32 + n * 2 ^ 32 }
      else if off % 16 = 8 then { e with data := n }
      else { e with masked := n % 2 == 1 }
    ({ d with hif := d.hif.updMsix v f }).flushVec v

/-- BAR4 takes whole aligned words, one or two (R75, R641). -/
def bar4Write (off bits : Nat) (v : DWord) (_ : Ctx) (d : Dev) : Dev :=
  if !d.endpointUp then d
  else if bits = 32 ∧ off % 4 = 0 then msixWord off (loW v.toNat) d
  else if bits = 64 ∧ off % 8 = 0 then msixWord (off + 4) (hiW v.toNat) (msixWord off (loW v.toNat) d)
  else d

/-- REGISTER_WRITE: a host write through BAR 0, 2 or 4. -/
def execRegisterWrite (bar off size : Nat) (value : DWord) (s : State) : Host.Outcome State Fault Refusal :=
  if bar = 0 then .next (s.writeBar0 off size value)
  else if bar = 2 then s.onDev (bar2Write off size value)
  else if bar = 4 then s.onDev (bar4Write off size value)
  else .next s

/-! ### SMBus (R590, R642) -/

/-- What answers in STANDBY. -/
def smbusStandby (off : Nat) : Bool := off == Off.hifDevRev || off / 0x10000 == 16 || off == Off.tmpStat

/-- SMBUS_BLOCK_WRITE. In STANDBY the first command also wakes the part. -/
def execSmbusBlockWrite (off : Nat) (value : Word) (s : State) : Host.Outcome State Fault Refusal :=
  if s.dev.pwr.powered && s.dev.pwr.standby then
    s.onDev (fun c d =>
      let e := if smbusStandby off && off % 4 == 0 then (match regW c off value d with | .took x => x | _ => d) else d
      e.signalReset c .wake)
  else .next (s.writeBar0 off 32 (value.setWidth 64))

/-- SMBUS_BLOCK_READ. -/
def smbusReadOp (off : Nat) (c : Ctx) (d : Dev) : Dev :=
  let put := fun (w : Word) (x : Dev) => ({ x with rdata := w.setWidth 64 }).emit (.smbus w)
  if !d.pwr.powered then d
  else if d.pwr.standby then
    let w := if smbusStandby off && off % 4 == 0 then d.readReg c off else 0#32
    put w (d.signalReset c .wake)
  else let e := hostReadOp off 32 c d; put (loW e.rdata.toNat) e
def execSmbusBlockRead (off : Nat) (s : State) : Host.Outcome State Fault Refusal := s.onDev (smbusReadOp off)

/-! ### The debug master (R534, R535, R557, R558, R560) -/

/-- The entries of a bucket, in the order in which they stand in it (R101, R102). -/
def Dev.ddtBucket (d : Dev) (b : Nat) : List DdtEntry :=
  (d.ddt.occ.bucket b).reverse.filterMap (fun o => d.ddt.entries.find? (fun e => e.slice == o.1.1 && e.reqId.toNat == o.1.2))

/-- The bytes of DDR5 that the journal body and the deduplication table hold, by DDR5 offset (R96, R101, R135). -/
def Dev.ddrByte (d : Dev) (o : Nat) : Option Byte :=
  let b := d.reg64 Off.jnlBodyBaseLo
  let t := d.reg64 Off.ddtBaseLo
  if b ≠ 0 ∧ b ≤ o ∧ o < b + 0x1000000 then some ((d.bodyEntry ((o - b) / 512)).getD ((o - b) % 512) 0)
  else if t ≠ 0 ∧ t ≤ o ∧ o < t + 128 * 2 ^ d.ddtLog2 then
    some (((d.ddtBucket ((o - t) / 128)).flatMap DdtEntry.bytes).getD ((o - t) % 128) 0)
  else none

/-- A configuration block as MRAM holds it (R605). -/
def CfgBlock.bytes (k : CfgBlock) : Bytes :=
  let b := toLe 2 1 ++ zeros 2 ++ toLe 4 k.gen ++ toLe 4 k.entries.length ++ zeros 52 ++ k.entries.flatMap (fun e => toLe 4 e.1 ++ toLe 4 e.2.toNat)
  b ++ toLe 4 (crc32c b).toNat

/-- A byte of MRAM by its offset, where the regions that reads may reach hold records of this model: the evidence log and the
configuration blocks (R493, R567, R605). -/
def Dev.mramByte (d : Dev) (o : Nat) : Option Byte :=
  let block := fun (k : Option CfgBlock) (x : Nat) => k.map (fun b => b.bytes.getD x 0)
  if 0x800000 ≤ o ∧ o < 0xC00000 then some ((d.evlRecord ((o - 0x800000) / 64)).getD (o % 64) 0)
  else if 0xEA0000 ≤ o ∧ o < 0xEB0000 then block d.cfg.a (o - 0xEA0000)
  else if 0xEB0000 ≤ o ∧ o < 0xEC0000 then block d.cfg.b (o - 0xEB0000)
  else none

/-- A fuse group of `n` bytes with its check word (R519, R570; log entry 85). -/
def Otp.group (o : Otp) (g n : Nat) (came : Nat → Byte) : Bytes :=
  let b := mkBytes n (fun i => o.fuseByte g i (came i))
  if o.touched g then b ++ mkBytes 4 (fun i => o.fuseByte g (n + i) 0) else b ++ toLe 4 (crc32c b).toNat

/-- A byte of the OTP by its offset (R570). The trims, repair fuses and reserved bytes of the part are free. -/
def Otp.byte (o : Otp) (k : Nat) : Byte :=
  if k < 20 then (o.group 0 16 (fun i => unitIdBytes.getD i 0)).getD k 0
  else if 0x20 ≤ k ∧ k < 0x84 then (o.group 1 96 (fun i => Config.rootByte (i / 32 + 1) (i % 32))).getD (k - 0x20) 0
  else if 0x100 ≤ k ∧ k < 0x195 then (o.group 2 145 Config.nymjorByte).getD (k - 0x100) 0
  else if 0x200 ≤ k ∧ k < 0x304 then (o.group 3 256 (fun i => BitVec.ofNat 8 (Config.freeNat i 431))).getD (k - 0x200) 0
  else if 0x400 ≤ k ∧ k < 0x405 then byteAt (toLe 5 o.copyA.toNat) (k - 0x400)
  else if 0x408 ≤ k ∧ k < 0x40D then byteAt (toLe 5 o.copyB.toNat) (k - 0x408)
  else if 0x500 ≤ k ∧ k < 0x600 then (o.recs.flatMap (fun w => toLe 4 w.toNat)).getD (k - 0x500) 0
  else BitVec.ofNat 8 (Config.freeNat k 432)

/-- A byte of memory as a read finds it. -/
def Dev.memByte (c : Ctx) (m : Memory) (d : Dev) (a : Nat) : Byte :=
  if isMram a then (d.mramByte (a - 0x20000000)).getD (Memory.read m a)
  else if 0x21000000 ≤ a ∧ a < 0x21002000 then c.otp.byte (a - 0x21000000)
  else if ddrBase ≤ a then (d.ddrByte (a - ddrBase)).getD (Memory.read m a)
  else Memory.read m a

/-- Words that the debug master reads, lowest address first, each with its own effect (R8), and what is left behind. -/
def Dev.debugWords (c : Ctx) : List Nat → Dev → List (Nat × Word) × Dev
  | [], d => ([], d)
  | a :: t, d =>
    let r := if a < 0x04000000 then d.readWord c a else d.bar2Word (a - 0x04000000)
    let q := Dev.debugWords c t r.2
    ((a, r.1) :: q.1, q.2)

/-- Bytes that the debug master reads, and what reading them does: zeros where the gates deny it, of a register its word as a
read gives it, of memory what it holds (R555). -/
def Dev.debugRead (c : Ctx) (m : Memory) (addr n : Nat) (d : Dev) : Bytes × Dev :=
  let ws := ((List.range (n / 4 + 2)).map (fun i => addr / 4 * 4 + 4 * i)).filter (fun a => decide (a < addr + n ∧ a < 0x05000000) && (d.gate c Mst.debug false a).ok)
  let r := d.debugWords c ws
  ((List.range n).map (fun i =>
    let a := addr + i
    if !(d.gate c Mst.debug false a).ok then 0
    else if a < 0x05000000 then BitVec.ofNat 8 (((r.1.find? (fun p => p.1 == a / 4 * 4)).elim 0 (fun p => p.2.toNat)) / 2 ^ (8 * (a % 4)))
    else d.memByte c m a), r.2)

/-- A register word that the debug master writes, by the register's own rule. -/
def State.debugWord (off : Nat) (v : Word) (s : State) : State :=
  let bad := fun (x : Dev) => x.violation s.ctx Viol.rule Mst.debug 0x42 (x.gateTable s.ctx off).2 off
  if off = Off.timSetCtrl then (match s.onTime (timSetDo bad v) with | .next t => t | _ => s)
  else
    let d := match regW s.ctx off v s.dev with
      | .took x => x
      | .drop => s.dev
      | .viol => bad s.dev
    ({ s with dev := d }).goLatch s.dev.lcs.report

/-- Addresses of memory that takes writes: SRAM, MRAM and usable DDR5 (R564). -/
def Dev.writable (d : Dev) (a : Nat) : Bool :=
  (sramArray a).isSome || isMram a || (d.mem.ddrReady && decide (ddrBase ≤ a ∧ a < ddrBase + d.mem.usable * 0x100000))

/-- The scope permits the access: OBSERVE reads, CONTROL also writes. One that it does not permit is not issued. -/
def Dev.debugIssued (c : Ctx) (write : Bool) (d : Dev) : Bool := d.pwr.powered && decide ((if write then 2 else 1) ≤ d.dbgScope c.otp)
/-- The first byte of an access that the gates deny. -/
def Dev.debugBad (c : Ctx) (write : Bool) (addr n : Nat) (d : Dev) : Option Nat :=
  (List.range n).find? (fun i => !(d.gate c Mst.debug write (addr + i)).ok)

/-- A read's bytes reach the debug port. -/
def Dev.debugGot (c : Ctx) (write : Bool) (m : Memory) (addr n : Nat) (d : Dev) : Dev :=
  if write then d
  else let r := d.debugRead c m addr n; ({ r.2 with rdata := BitVec.ofNat 64 (le r.1 0 8) }).emit (.debug r.1)

/-- What an access does to `Dev` (R555, R557). One denied byte has it reported and the error flag set; nothing is then written, and
a read gives the permitted bytes, with zeros for the denied ones. -/
def debugAccessOp (write : Bool) (addr : Nat) (data : Bytes) (m : Memory) (c : Ctx) (d : Dev) : Dev :=
  let n := min 4096 data.length
  if !d.debugIssued c write then d
  else match d.debugBad c write addr n with
    | some i =>
      let g := d.gate c Mst.debug write (addr + i)
      (d.debugGot c write m addr n).debugDenied c (if write then Viol.write else Viol.read) g.region g.epoch (addr + i)
    | none =>
      let e := d.debugGot c write m addr n
      { e with acc := { e.acc with dbgError := false } }

/-- Halting and resuming a management pair needs CONTROL (R534). Stepping runs code that is not modelled (log entry 61). -/
def debugCoreOp (n : Nat) (halt : Bool) (c : Ctx) (d : Dev) : Dev :=
  if d.debugIssued c true && decide (n < 2) then if halt then d.mgmtHaltBy c n else d.mgmtResume c n else d

/-- The gates let the whole access through. -/
def Dev.debugTaken (c : Ctx) (write : Bool) (addr n : Nat) (d : Dev) : Bool :=
  d.debugIssued c write && (d.debugBad c write addr n).isNone

/-- DEBUG_ACCESS: a pair is halted or resumed, or at most 4,096 bytes are accessed. Registers take whole aligned words; memory takes the bytes where it takes writes. -/
def execDebugAccess (write : Bool) (addr : Nat) (data : Bytes) (core : Option (Nat × Bool)) (s : State) : Host.Outcome State Fault Refusal :=
  match core with
  | some (p, halt) => s.onDev (debugCoreOp p halt)
  | none =>
    let n := min 4096 data.length
    let s1 := { s with dev := debugAccessOp write addr data s.mem s.ctx s.dev }
    if write && s.dev.debugTaken s.ctx write addr n then
      if addr + n ≤ 0x04000000 ∧ addr % 4 = 0 then
        .next ((List.range (n / 4)).foldl (fun (t : State) i => t.debugWord (addr + 4 * i) (wordOf data (4 * i))) s1)
      else if (List.range n).all (fun i => s.dev.writable (addr + i)) then .next { s1 with mem := Memory.writeBytes s.mem addr (data.take n) }
      else .next s1
    else .next s1

end Sys2Proof.Machine
end

