-- ==== Sys2Proof/Machine/Dispatch.lean ====
section
/-! DEFINITION. exec: the effect of each command on everything but the queue. -/

namespace Sys2Proof.Machine

def exec (i : Instr) (s : State) : Host.Outcome State Fault Refusal :=
  match i with
  | .registerWrite bar off size value => Sys2Proof.Machine.execRegisterWrite bar off size value s
  | .readLoLatch off size => Sys2Proof.Machine.execReadLoLatch off size s
  | .smbusBlockWrite off value => Sys2Proof.Machine.execSmbusBlockWrite off value s
  | .smbusBlockRead off => Sys2Proof.Machine.execSmbusBlockRead off s
  | .ringStatusRead slice ring upper => Sys2Proof.Machine.execRingStatusRead slice ring upper s
  | .ppsEdge => Sys2Proof.Machine.execPpsEdge s
  | .ppsMiss => Sys2Proof.Machine.execPpsMiss s
  | .acquireTimeout => Sys2Proof.Machine.execAcquireTimeout s
  | .holdoverLimitExceeded => Sys2Proof.Machine.execHoldoverLimitExceeded s
  | .trefValidated => Sys2Proof.Machine.execTrefValidated s
  | .trefLoss => Sys2Proof.Machine.execTrefLoss s
  | .slewComplete => Sys2Proof.Machine.execSlewComplete s
  | .timTokenGo newNonce => Sys2Proof.Machine.execTimTokenGo newNonce s
  | .tokenVerifyDone token read => Sys2Proof.Machine.execTokenVerifyDone token read s
  | .tokenPpsTimeout => Sys2Proof.Machine.execTokenPpsTimeout s
  | .timNewNonce => Sys2Proof.Machine.execTimNewNonce s
  | .timSetApply value => Sys2Proof.Machine.execTimSetApply value s
  | .timFenceStart => Sys2Proof.Machine.execTimFenceStart s
  | .timFenceDone => Sys2Proof.Machine.execTimFenceDone s
  | .timRefCfgWrite value => Sys2Proof.Machine.execTimRefCfgWrite value s
  | .sqDoorbell slice ring bits aligned value => Sys2Proof.Machine.execSqDoorbell slice ring bits aligned value s
  | .cqDoorbell slice ring bits aligned value => Sys2Proof.Machine.execCqDoorbell slice ring bits aligned value s
  | .descriptorFetch slice ring desc inList outList shortIn => Sys2Proof.Machine.execDescriptorFetch slice ring desc inList outList shortIn s
  | .acceptDescriptor slice ring => Sys2Proof.Machine.execAcceptDescriptor slice ring s
  | .headWriteBack slice ring refused => Sys2Proof.Machine.execHeadWriteBack slice ring refused s
  | .longInputFetch slot input => Sys2Proof.Machine.execLongInputFetch slot input s
  | .completionPost slice ring refused => Sys2Proof.Machine.execCompletionPost slice ring refused s
  | .irqTimer slice ring => Sys2Proof.Machine.execIrqTimer slice ring s
  | .msixUnmask vector => Sys2Proof.Machine.execMsixUnmask vector s
  | .ringCreate => Sys2Proof.Machine.execRingCreate s
  | .ringEnable => Sys2Proof.Machine.execRingEnable s
  | .ringHold => Sys2Proof.Machine.execRingHold s
  | .ringDestroy => Sys2Proof.Machine.execRingDestroy s
  | .ringSelect value => Sys2Proof.Machine.execRingSelect value s
  | .ringSettingsWrite off value => Sys2Proof.Machine.execRingSettingsWrite off value s
  | .ringBarrierResolve slot => Sys2Proof.Machine.execRingBarrierResolve slot s
  | .releaseAtFire slot => Sys2Proof.Machine.execReleaseAtFire slot s
  | .sliceBarrierResolve slice id => Sys2Proof.Machine.execSliceBarrierResolve slice id s
  | .sliceBarrierDissolve slice id => Sys2Proof.Machine.execSliceBarrierDissolve slice id s
  | .ddtStallRetry => Sys2Proof.Machine.execDdtStallRetry s
  | .ddtReinit off value => Sys2Proof.Machine.execDdtReinit off value s
  | .ddtInitDone => Sys2Proof.Machine.execDdtInitDone s
  | .anchorFlushStart => Sys2Proof.Machine.execAnchorFlushStart s
  | .anchorFlushDone => Sys2Proof.Machine.execAnchorFlushDone s
  | .recoverClose => Sys2Proof.Machine.execRecoverClose s
  | .mirrorAck of => Sys2Proof.Machine.execMirrorAck of s
  | .mirrorAckTimeout of => Sys2Proof.Machine.execMirrorAckTimeout of s
  | .dispatchEpoch => Sys2Proof.Machine.execDispatchEpoch s
  | .reefLevelChange => Sys2Proof.Machine.execReefLevelChange s
  | .itemPlacement => Sys2Proof.Machine.execItemPlacement s
  | .twinDispatch twin badKeys => Sys2Proof.Machine.execTwinDispatch twin s badKeys
  | .contextSaveDone twin => Sys2Proof.Machine.execContextSaveDone twin s
  | .deadlineExpiry slot => Sys2Proof.Machine.execDeadlineExpiry slot s
  | .restartBackoffExpiry slot => Sys2Proof.Machine.execRestartBackoffExpiry slot s
  | .firmwareTimer task => Sys2Proof.Machine.execFirmwareTimer task s
  | .fwTaskDeadlineMiss task => Sys2Proof.Machine.execFwTaskDeadlineMiss task s
  | .flowStallRetry slice ring => Sys2Proof.Machine.execFlowStallRetry slice ring s
  | .sliceHistClear => Sys2Proof.Machine.execSliceHistClear s
  | .sliceHistClearAll => Sys2Proof.Machine.execSliceHistClearAll s
  | .sliceHistRead => Sys2Proof.Machine.execSliceHistRead s
  | .releaseCompare twin principal check dmaRefused => Sys2Proof.Machine.execReleaseCompare twin principal check s dmaRefused
  | .skewTimeout twin => Sys2Proof.Machine.execSkewTimeout twin s
  | .maskSeedArrival grove => Sys2Proof.Machine.execMaskSeedArrival grove s
  | .maskGenExhausted grove => Sys2Proof.Machine.execMaskGenExhausted grove s
  | .stagingEccError slot => Sys2Proof.Machine.execStagingEccError slot s
  | .clearingTestsDone unit twins grove engine us => Sys2Proof.Machine.execClearingTestsDone unit twins grove engine us s
  | .twinClear twin => Sys2Proof.Machine.execTwinClear twin s
  | .groveClear grove => Sys2Proof.Machine.execGroveClear grove s
  | .clearDrainDone => Sys2Proof.Machine.execClearDrainDone s
  | .readmitHoldWrite value => Sys2Proof.Machine.execReadmitHoldWrite value s
  | .pkeDispatch grove => Sys2Proof.Machine.execPkeDispatch grove s
  | .enginePhaseDone grove res altered clean => Sys2Proof.Machine.execEnginePhaseDone grove res s altered clean
  | .pkeAbort value => Sys2Proof.Machine.execPkeAbort value s
  | .abortReadbackDone grove clean => Sys2Proof.Machine.execAbortReadbackDone grove s clean
  | .pkeClear value => Sys2Proof.Machine.execPkeClear value s
  | .keyLoadDone grove slot => Sys2Proof.Machine.execKeyLoadDone grove slot s
  | .slotPromote value => Sys2Proof.Machine.execSlotPromote value s
  | .promoteDone testOk => Sys2Proof.Machine.execPromoteDone testOk s
  | .slotDiscard => Sys2Proof.Machine.execSlotDiscard s
  | .slotDelete => Sys2Proof.Machine.execSlotDelete s
  | .slotSetWindow => Sys2Proof.Machine.execSlotSetWindow s
  | .slotInfo half => Sys2Proof.Machine.execSlotInfo half s
  | .keyFenceStart value => Sys2Proof.Machine.execKeyFenceStart value s
  | .keyFenceDone => Sys2Proof.Machine.execKeyFenceDone s
  | .retirePrev => Sys2Proof.Machine.execRetirePrev s
  | .domainErase => Sys2Proof.Machine.execDomainErase s
  | .storeReinit => Sys2Proof.Machine.execStoreReinit s
  | .reinitDone => Sys2Proof.Machine.execReinitDone s
  | .rollDone => Sys2Proof.Machine.execRollDone s
  | .quotaWrite value => Sys2Proof.Machine.execQuotaWrite value s
  | .oscSettled => Sys2Proof.Machine.execOscSettled s
  | .startupTestsPass samples => Sys2Proof.Machine.execStartupTestsPass s samples
  | .blockConditioned source samples => Sys2Proof.Machine.execBlockConditioned source s samples
  | .healthFailure source kind samples => Sys2Proof.Machine.execHealthFailure source kind s samples
  | .rerunPass source samples => Sys2Proof.Machine.execRerunPass source s samples
  | .katFailure => Sys2Proof.Machine.execKatFailure s
  | .startupTimeout => Sys2Proof.Machine.execStartupTimeout s
  | .drbgReseedTimer inst => Sys2Proof.Machine.execDrbgReseedTimer inst s
  | .rngRestart => Sys2Proof.Machine.execRngRestart s
  | .rawModeEnable value => Sys2Proof.Machine.execRawModeEnable value s
  | .rawModeDisable value => Sys2Proof.Machine.execRawModeDisable value s
  | .rawDataRead samples => Sys2Proof.Machine.execRawDataRead s samples
  | .reseedCtrlWrite value => Sys2Proof.Machine.execReseedCtrlWrite value s
  | .sliceBind => Sys2Proof.Machine.execSliceBind s
  | .sliceFreeze squash => Sys2Proof.Machine.execSliceFreeze squash s
  | .sliceThaw => Sys2Proof.Machine.execSliceThaw s
  | .sliceReset squash => Sys2Proof.Machine.execSliceReset squash s
  | .sliceRemove squash => Sys2Proof.Machine.execSliceRemove squash s
  | .sliceSave peer => Sys2Proof.Machine.execSliceSave peer s
  | .slicePrepare => Sys2Proof.Machine.execSlicePrepare s
  | .sliceRestore image read => Sys2Proof.Machine.execSliceRestore image read s
  | .sliceDrainDone slice => Sys2Proof.Machine.execSliceDrainDone slice s
  | .saveDone slice => Sys2Proof.Machine.execSaveDone slice s
  | .restoreDone slice => Sys2Proof.Machine.execRestoreDone slice s
  | .prepareExpiry slice => Sys2Proof.Machine.execPrepareExpiry slice s
  | .retainElapsed slice => Sys2Proof.Machine.execRetainElapsed slice s
  | .sliceSelect value => Sys2Proof.Machine.execSliceSelect value s
  | .sliceCfgWrite off value => Sys2Proof.Machine.execSliceCfgWrite off value s
  | .portEnable value => Sys2Proof.Machine.execPortEnable value s
  | .portTrained port => Sys2Proof.Machine.execPortTrained port s
  | .portAuthDone port neighbour peerPort unit ok => Sys2Proof.Machine.execPortAuthDone port neighbour peerPort unit ok s
  | .portDown port => Sys2Proof.Machine.execPortDown port s
  | .portRetrainTimer port => Sys2Proof.Machine.execPortRetrainTimer port s
  | .authRetryTimer port => Sys2Proof.Machine.execAuthRetryTimer port s
  | .frameReceive port bytes => Sys2Proof.Machine.execFrameReceive port s bytes
  | .discoveryTimer => Sys2Proof.Machine.execDiscoveryTimer s
  | .discoveryReceive port bytes => Sys2Proof.Machine.execDiscoveryReceive port bytes s
  | .nodeAgeOut node => Sys2Proof.Machine.execNodeAgeOut node s
  | .routeAgeOut node cls => Sys2Proof.Machine.execRouteAgeOut node cls s
  | .routeFlush value => Sys2Proof.Machine.execRouteFlush value s
  | .sessionSetup peer pub sigOk => Sys2Proof.Machine.execSessionSetup peer pub s sigOk
  | .sessionRekey peer pub => Sys2Proof.Machine.execSessionRekey peer s pub
  | .sessionBreak peer => Sys2Proof.Machine.execSessionBreak peer s
  | .replicateReceive m => Sys2Proof.Machine.execReplicateReceive m s
  | .spillOfferTimer => Sys2Proof.Machine.execSpillOfferTimer s
  | .spillOfferReceive peer o => Sys2Proof.Machine.execSpillOfferReceive peer o s
  | .spillItemReceive m => Sys2Proof.Machine.execSpillItemReceive m s
  | .spillReturn peer slot r => Sys2Proof.Machine.execSpillReturn peer slot r s
  | .spillTimeout slot => Sys2Proof.Machine.execSpillTimeout slot s
  | .pairActivate => Sys2Proof.Machine.execPairActivate s
  | .pairJoin compat => Sys2Proof.Machine.execPairJoin compat s
  | .pairSwitchover => Sys2Proof.Machine.execPairSwitchover s
  | .pairLeave => Sys2Proof.Machine.execPairLeave s
  | .leaseRenewalTimer => Sys2Proof.Machine.execLeaseRenewalTimer s
  | .renewalReceive port epoch peerSt => Sys2Proof.Machine.execRenewalReceive port epoch s peerSt
  | .renewalAckReceive epoch sentSt peerSt => Sys2Proof.Machine.execRenewalAckReceive epoch sentSt peerSt s
  | .leaseGuardExpiry => Sys2Proof.Machine.execLeaseGuardExpiry s
  | .ackMissingTimeout => Sys2Proof.Machine.execAckMissingTimeout s
  | .activeLeaseExpiry => Sys2Proof.Machine.execActiveLeaseExpiry s
  | .witnessSwapDone r slots => Sys2Proof.Machine.execWitnessSwapDone r slots s
  | .witnessRetryTimer => Sys2Proof.Machine.execWitnessRetryTimer s
  | .releaseReceive => Sys2Proof.Machine.execReleaseReceive s
  | .syncCopyDone => Sys2Proof.Machine.execSyncCopyDone s
  | .mirrorReceive epoch m => Sys2Proof.Machine.execMirrorReceive epoch m s
  | .ceremonyBegin param => Sys2Proof.Machine.execCeremonyBegin param s
  | .ceremonySubmit resp read => Sys2Proof.Machine.execCeremonySubmit resp read s
  | .ceremonyEnd => Sys2Proof.Machine.execCeremonyEnd s
  | .ceremonyAbandon => Sys2Proof.Machine.execCeremonyAbandon s
  | .cardApproval cer port resp envelope => Sys2Proof.Machine.execCardApproval cer port resp envelope s
  | .ceremonyWindowExpiry cer => Sys2Proof.Machine.execCeremonyWindowExpiry cer s
  | .ceremonyOpenTimeout cer => Sys2Proof.Machine.execCeremonyOpenTimeout cer s
  | .cardInsert port => Sys2Proof.Machine.execCardInsert port s
  | .cardAtrTimeout port => Sys2Proof.Machine.execCardAtrTimeout port s
  | .cardRemove port => Sys2Proof.Machine.execCardRemove port s
  | .alarmDetection det => Sys2Proof.Machine.execAlarmDetection det s
  | .alarmWindowClose => Sys2Proof.Machine.execAlarmWindowClose s
  | .shroudPatternPeriod altered => Sys2Proof.Machine.execShroudPatternPeriod altered s
  | .hostZeroise value => Sys2Proof.Machine.execHostZeroise value s
  | .batteryAlarm det => Sys2Proof.Machine.execBatteryAlarm det s
  | .rtcPairTimer => Sys2Proof.Machine.execRtcPairTimer s
  | .tamperUnlock value => Sys2Proof.Machine.execTamperUnlock value s
  | .tmpTokenGo token read => Sys2Proof.Machine.execTmpTokenGo token read s
  | .tmpNewNonce => Sys2Proof.Machine.execTmpNewNonce s
  | .evidenceAppend => Sys2Proof.Machine.execEvidenceAppend s
  | .evidenceExport value => Sys2Proof.Machine.execEvidenceExport value s
  | .exportDone refused => Sys2Proof.Machine.execExportDone refused s
  | .recorderFlush => Sys2Proof.Machine.execRecorderFlush s
  | .recorderFlushDone => Sys2Proof.Machine.execRecorderFlushDone s
  | .hostMark => Sys2Proof.Machine.execHostMark s
  | .recorderClear value => Sys2Proof.Machine.execRecorderClear value s
  | .lcRequestLoad req read => Sys2Proof.Machine.execLcRequestLoad req read s
  | .lcGo value => Sys2Proof.Machine.execLcGo value s
  | .debugChallenge => Sys2Proof.Machine.execDebugChallenge s
  | .debugTokenGo resp read => Sys2Proof.Machine.execDebugTokenGo resp read s
  | .debugOpen value => Sys2Proof.Machine.execDebugOpen value s
  | .debugClose => Sys2Proof.Machine.execDebugClose s
  | .debugExpiry => Sys2Proof.Machine.execDebugExpiry s
  | .debugAccess write addr data core => Sys2Proof.Machine.execDebugAccess write addr data core s
  | .jtagBypass tdi => Sys2Proof.Machine.execJtagBypass tdi s
  | .jtagIdcode => Sys2Proof.Machine.execJtagIdcode s
  | .jtagSamplePreload pins preload => Sys2Proof.Machine.execJtagSamplePreload pins preload s
  | .jtagExtest pins => Sys2Proof.Machine.execJtagExtest pins s
  | .jtagClamp => Sys2Proof.Machine.execJtagClamp s
  | .jtagHighz => Sys2Proof.Machine.execJtagHighz s
  | .memoryTestMode enter => Sys2Proof.Machine.execMemoryTestMode enter s
  | .fuseProgram group word value => Sys2Proof.Machine.execFuseProgram group word value s
  | .accCommit => Sys2Proof.Machine.execAccCommit s
  | .accDiscard => Sys2Proof.Machine.execAccDiscard s
  | .commitReplicated => Sys2Proof.Machine.execCommitReplicated s
  | .accFenceStart => Sys2Proof.Machine.execAccFenceStart s
  | .accFenceDone => Sys2Proof.Machine.execAccFenceDone s
  | .violationClear => Sys2Proof.Machine.execViolationClear s
  | .sramScrub addr bad => Sys2Proof.Machine.execSramScrub addr bad s
  | .mramScrub addr bad => Sys2Proof.Machine.execMramScrub addr bad s
  | .ddrPatrolScrub addr bad tagOk => Sys2Proof.Machine.execDdrPatrolScrub addr bad tagOk s
  | .mramMergeFlush => Sys2Proof.Machine.execMramMergeFlush s
  | .pwrStandby => Sys2Proof.Machine.execPwrStandby s
  | .standbyWake src => Sys2Proof.Machine.execStandbyWake src s
  | .groveEnable grove => Sys2Proof.Machine.execGroveEnable grove s
  | .groveDisable grove => Sys2Proof.Machine.execGroveDisable grove s
  | .domainWakeDone domain => Sys2Proof.Machine.execDomainWakeDone domain s
  | .domainWakeTimeout domain => Sys2Proof.Machine.execDomainWakeTimeout domain s
  | .supplyWarning pfail mv => Sys2Proof.Machine.execSupplyWarning pfail mv s
  | .supplyWarningClear minMv => Sys2Proof.Machine.execSupplyWarningClear minMv s
  | .boostVoltageDrop mv => Sys2Proof.Machine.execBoostVoltageDrop mv s
  | .railReset rail mv => Sys2Proof.Machine.execRailReset rail s mv
  | .powerLoss => Sys2Proof.Machine.execPowerLoss s
  | .powerOnReset vbatKept => Sys2Proof.Machine.execPowerOnReset vbatKept s
  | .coldReset => Sys2Proof.Machine.execColdReset s
  | .warmReset src => Sys2Proof.Machine.execWarmReset src s
  | .functionLevelReset => Sys2Proof.Machine.execFunctionLevelReset s
  | .dvfsEvaluation mv watts => Sys2Proof.Machine.execDvfsEvaluation mv watts s
  | .mgmtDisagree pair => Sys2Proof.Machine.execMgmtDisagree pair s
  | .configSave => Sys2Proof.Machine.execConfigSave s
  | .configSaveDone writeOk => Sys2Proof.Machine.execConfigSaveDone writeOk s
  | .fuseLoad idOk rootOk => Sys2Proof.Machine.execFuseLoad idOk rootOk s
  | .lifecycleDecode failStep => Sys2Proof.Machine.execLifecycleDecode failStep s
  | .bootImageVerify a b retained => Sys2Proof.Machine.execBootImageVerify a s b retained
  | .ddr5Training ok => Sys2Proof.Machine.execDdr5Training ok s
  | .configLoad => Sys2Proof.Machine.execConfigLoad s
  | .timeRefStart => Sys2Proof.Machine.execTimeRefStart s
  | .journalRecovery => Sys2Proof.Machine.execJournalRecovery s
  | .cardAtrReceive port t1 => Sys2Proof.Machine.execCardAtrReceive port t1 s
  | .mgmtPairResetDone pair => Sys2Proof.Machine.execMgmtPairResetDone pair s
  | .spillCancelReceive peer slot => Sys2Proof.Machine.execSpillCancelReceive peer slot s
  | .domainEraseDone => Sys2Proof.Machine.execDomainEraseDone s
  | .rawSourceReattach source samples => Sys2Proof.Machine.execRawSourceReattach source s samples
  | .alarmSourceClear source => Sys2Proof.Machine.execAlarmSourceClear source s

end Sys2Proof.Machine
end

