-- ==== Sys2Proof/Machine/Tick.lean ====
section
/-! DEFINITION. What one nanosecond does while no command waits (log entry 2): ST advances, with its slew (R28, R36),
and the battery-backed counter advances (R484). -/

namespace Sys2Proof.Machine

/-- One nanosecond of the battery-backed counter, 32,768 counts a second, 48 bits (R484, R490). -/
def Tmp.tick (t : Tmp) : Tmp :=
  if 1000000000 ≤ t.rtcAcc + 32768 then { t with rtc := (t.rtc + 1) % 2 ^ 48, rtcAcc := t.rtcAcc + 32768 - 1000000000 }
  else { t with rtcAcc := t.rtcAcc + 32768 }

/-- What a nanosecond adds to ST, and the remaining correction after it: 100 ppm while a correction remains (R36). -/
def Tim.tick (t : Tim) : Nat × Tim :=
  if t.slewRem = 0 then (1, t)
  else if t.slewPhase + 1 < 10000 then (1, { t with slewPhase := t.slewPhase + 1 })
  else if 0 < t.slewRem then (2, { t with slewPhase := 0, slewRem := t.slewRem - 1, slewedSince := t.slewedSince + 1 })
  else (0, { t with slewPhase := 0, slewRem := t.slewRem + 1, slewedSince := t.slewedSince - 1 })

/-- ST is a 64-bit count that never decreases (R28). -/
def stAdd (st : DWord) (n : Nat) : DWord := if st.toNat + n < 2 ^ 64 then BitVec.ofNat 64 (st.toNat + n) else st

/-- The block idles for one nanosecond. Without main power ST does not count. -/
def State.idle (s : State) : State :=
  let d := { s.dev with tmp := s.dev.tmp.tick }
  if s.dev.pwr.powered then
    let t := s.dev.tim.tick
    { s with st := stAdd s.st t.1, dev := { d with tim := t.2 } }
  else { s with dev := d }

end Sys2Proof.Machine
end

