-- ==== Sys2Proof/WellFormed.lean ====
section
/-! DEFINITION. Which commands are well formed: every numbered thing that a command names is one of those that the part
has (R11, R46, R75, R411, R452, R467, R587). A command that is not well formed changes nothing where `exec` looks the
thing up and does not find it (log entry 1). -/

namespace Sys2Proof

/-- An alarm source of R467. -/
def alarmOk (c : Nat) : Bool := decide (1 ≤ c ∧ c ≤ 0x14) && c != 0x0F

/-- A monitor's reading: a rail that is watched, and readings of ten bits (R469, R491). -/
def Detection.wf : Detection → Bool
  | .volt rail _ _ => decide (rail < 3)
  | .glitch rail _ _ => decide (rail < 3)
  | .temps a b => decide (a < 1024) && decide (b < 1024)
  | _ => true

/-- A width of a host access in bits: whole bytes (R61, R639). -/
def accessOk (n : Nat) : Bool := decide (0 < n) && n % 8 == 0

/-- A unit that goes through the clearing (R11). -/
def ClrUnit.wf : ClrUnit → Bool
  | .twin n => decide (n < 96)
  | .grove g => decide (g < 12)
  | .engine g => decide (g < 12)

/-- A journal slot, or the oldest other change. -/
def ackOk : AckOf → Bool
  | .record slot => decide (slot < 32768)
  | .change => true

/-- Well-formed commands. -/
def Instr.wf : Instr → Bool
  | .registerWrite bar _ size _ => (bar == 0 || bar == 2 || bar == 4) && accessOk size
  | .readLoLatch _ size => accessOk size
  | .smbusBlockWrite _ _ => true
  | .smbusBlockRead _ => true
  | .ringStatusRead slice ring _ => decide (slice < 4096) && decide (ring < 16)
  | .ppsEdge => true
  | .ppsMiss => true
  | .acquireTimeout => true
  | .holdoverLimitExceeded => true
  | .trefValidated => true
  | .trefLoss => true
  | .slewComplete => true
  | .timTokenGo _ => true
  | .tokenVerifyDone _ _ => true
  | .tokenPpsTimeout => true
  | .timNewNonce => true
  | .timSetApply _ => true
  | .timFenceStart => true
  | .timFenceDone => true
  | .timRefCfgWrite _ => true
  | .sqDoorbell slice ring bits _ _ => decide (slice < 4096) && decide (ring < 16) && accessOk bits
  | .cqDoorbell slice ring bits _ _ => decide (slice < 4096) && decide (ring < 16) && accessOk bits
  | .descriptorFetch slice ring _ _ _ _ => decide (slice < 4096) && decide (ring < 16)
  | .acceptDescriptor slice ring => decide (slice < 4096) && decide (ring < 16)
  | .headWriteBack slice ring _ => decide (slice < 4096) && decide (ring < 16)
  | .longInputFetch _ _ => true
  | .completionPost slice ring _ => decide (slice < 4096) && decide (ring < 16)
  | .irqTimer slice ring => decide (slice < 4096) && decide (ring < 16)
  | .msixUnmask vector => decide (vector < 2048)
  | .ringCreate => true
  | .ringEnable => true
  | .ringHold => true
  | .ringDestroy => true
  | .ringSelect _ => true
  | .ringSettingsWrite off _ => decide (off % 4 = 0)
  | .ringBarrierResolve _ => true
  | .releaseAtFire _ => true
  | .sliceBarrierResolve slice _ => decide (slice < 4096)
  | .sliceBarrierDissolve slice _ => decide (slice < 4096)
  | .ddtStallRetry => true
  | .ddtReinit off _ => decide (off % 4 = 0)
  | .ddtInitDone => true
  | .anchorFlushStart => true
  | .anchorFlushDone => true
  | .recoverClose => true
  | .mirrorAck of => ackOk of
  | .mirrorAckTimeout of => ackOk of
  | .dispatchEpoch => true
  | .reefLevelChange => true
  | .itemPlacement => true
  | .twinDispatch twin bad => decide (twin < 96) && bad.all (fun k => decide (k < 2))
  | .contextSaveDone twin => decide (twin < 96)
  | .deadlineExpiry _ => true
  | .restartBackoffExpiry _ => true
  | .firmwareTimer _ => true
  | .fwTaskDeadlineMiss _ => true
  | .flowStallRetry slice ring => decide (slice < 4096) && decide (ring < 16)
  | .sliceHistClear => true
  | .sliceHistClearAll => true
  | .sliceHistRead => true
  | .releaseCompare twin _ _ _ => decide (twin < 96)
  | .skewTimeout twin => decide (twin < 96)
  | .maskSeedArrival grove => decide (grove < 12)
  | .maskGenExhausted grove => decide (grove < 12)
  | .stagingEccError _ => true
  | .clearingTestsDone unit _ _ _ _ => unit.wf
  | .twinClear twin => decide (twin < 96)
  | .groveClear grove => decide (grove < 12)
  | .clearDrainDone => true
  | .readmitHoldWrite _ => true
  | .pkeDispatch grove => decide (grove < 12)
  | .enginePhaseDone grove _ _ _ => decide (grove < 12)
  | .pkeAbort _ => true
  | .abortReadbackDone grove _ => decide (grove < 12)
  | .pkeClear _ => true
  | .keyLoadDone grove _ => decide (grove < 12)
  | .slotPromote _ => true
  | .promoteDone _ => true
  | .slotDiscard => true
  | .slotDelete => true
  | .slotSetWindow => true
  | .slotInfo _ => true
  | .keyFenceStart _ => true
  | .keyFenceDone => true
  | .retirePrev => true
  | .domainErase => true
  | .storeReinit => true
  | .reinitDone => true
  | .rollDone => true
  | .quotaWrite _ => true
  | .oscSettled => true
  | .startupTestsPass samples => samples.length == 24 && samples.all (fun l => l.isEmpty || l.length == 4096)
  | .blockConditioned source samples => decide (source < 24) && samples.length == 1024
  | .healthFailure source _ samples => decide (source < 24) && !samples.isEmpty
  | .rerunPass source samples => decide (source < 24) && samples.length == 4096
  | .katFailure => true
  | .startupTimeout => true
  | .drbgReseedTimer inst => decide (inst < 13)
  | .rngRestart => true
  | .rawModeEnable _ => true
  | .rawModeDisable _ => true
  | .rawDataRead _ => true
  | .reseedCtrlWrite _ => true
  | .sliceBind => true
  | .sliceFreeze _ => true
  | .sliceThaw => true
  | .sliceReset _ => true
  | .sliceRemove _ => true
  | .sliceSave _ => true
  | .slicePrepare => true
  | .sliceRestore _ _ => true
  | .sliceDrainDone slice => decide (slice < 4096)
  | .saveDone slice => decide (slice < 4096)
  | .restoreDone slice => decide (slice < 4096)
  | .prepareExpiry slice => decide (slice < 4096)
  | .retainElapsed slice => decide (slice < 4096)
  | .sliceSelect _ => true
  | .sliceCfgWrite off _ => decide (off % 4 = 0)
  | .portEnable _ => true
  | .portTrained port => decide (port < 8)
  | .portAuthDone port neighbour peerPort _ _ => decide (port < 8) && decide (neighbour < 1024) && decide (peerPort < 8)
  | .portDown port => decide (port < 8)
  | .portRetrainTimer port => decide (port < 8)
  | .authRetryTimer port => decide (port < 8)
  | .frameReceive port _ => decide (port < 8)
  | .discoveryTimer => true
  | .discoveryReceive port _ => decide (port < 8)
  | .nodeAgeOut node => decide (node < 1024)
  | .routeAgeOut node cls => decide (node < 1024) && decide (cls < 6)
  | .routeFlush _ => true
  | .sessionSetup peer pub _ => decide (peer < 1024) && pub.length == 97
  | .sessionRekey peer pub => decide (peer < 1024) && pub.length == 97
  | .sessionBreak peer => decide (peer < 1024)
  | .replicateReceive m => decide (m.peer < 1024)
  | .spillOfferTimer => true
  | .spillOfferReceive peer _ => decide (peer < 1024)
  | .spillItemReceive m => decide (m.peer < 1024)
  | .spillReturn peer _ _ => decide (peer < 1024)
  | .spillTimeout _ => true
  | .pairActivate => true
  | .pairJoin _ => true
  | .pairSwitchover => true
  | .pairLeave => true
  | .leaseRenewalTimer => true
  | .renewalReceive port _ _ => decide (port < 8)
  | .renewalAckReceive _ _ _ => true
  | .leaseGuardExpiry => true
  | .ackMissingTimeout => true
  | .activeLeaseExpiry => true
  | .witnessSwapDone _ _ => true
  | .witnessRetryTimer => true
  | .releaseReceive => true
  | .syncCopyDone => true
  | .mirrorReceive _ _ => true
  | .ceremonyBegin _ => true
  | .ceremonySubmit _ _ => true
  | .ceremonyEnd => true
  | .ceremonyAbandon => true
  | .cardApproval cer port _ _ => decide (cer < 4) && decide (port < 2)
  | .ceremonyWindowExpiry cer => decide (cer < 4)
  | .ceremonyOpenTimeout cer => decide (cer < 4)
  | .cardInsert port => decide (port < 2)
  | .cardAtrTimeout port => decide (port < 2)
  | .cardRemove port => decide (port < 2)
  | .alarmDetection det => det.wf
  | .alarmWindowClose => true
  | .shroudPatternPeriod _ => true
  | .hostZeroise _ => true
  | .batteryAlarm det => det.wf
  | .rtcPairTimer => true
  | .tamperUnlock _ => true
  | .tmpTokenGo _ _ => true
  | .tmpNewNonce => true
  | .evidenceAppend => true
  | .evidenceExport _ => true
  | .exportDone _ => true
  | .recorderFlush => true
  | .recorderFlushDone => true
  | .hostMark => true
  | .recorderClear _ => true
  | .lcRequestLoad _ _ => true
  | .lcGo _ => true
  | .debugChallenge => true
  | .debugTokenGo _ _ => true
  | .debugOpen _ => true
  | .debugClose => true
  | .debugExpiry => true
  | .debugAccess _ _ data core => decide (data.length ≤ 4096) && core.all (fun k => decide (k.1 < 2))
  | .jtagBypass _ => true
  | .jtagIdcode => true
  | .jtagSamplePreload _ _ => true
  | .jtagExtest _ => true
  | .jtagClamp => true
  | .jtagHighz => true
  | .memoryTestMode _ => true
  | .fuseProgram group _ _ => decide (group < 4)
  | .accCommit => true
  | .accDiscard => true
  | .commitReplicated => true
  | .accFenceStart => true
  | .accFenceDone => true
  | .violationClear => true
  | .sramScrub _ _ => true
  | .mramScrub _ _ => true
  | .ddrPatrolScrub _ bad _ => bad.all (fun k => decide (k < 128))
  | .mramMergeFlush => true
  | .pwrStandby => true
  | .standbyWake _ => true
  | .groveEnable grove => decide (grove < 12)
  | .groveDisable grove => decide (grove < 12)
  | .domainWakeDone _ => true
  | .domainWakeTimeout _ => true
  | .supplyWarning _ _ => true
  | .supplyWarningClear _ => true
  | .boostVoltageDrop _ => true
  | .railReset rail _ => decide (rail < 6)
  | .powerLoss => true
  | .powerOnReset _ => true
  | .coldReset => true
  | .warmReset _ => true
  | .functionLevelReset => true
  | .dvfsEvaluation _ _ => true
  | .mgmtDisagree pair => decide (pair < 2)
  | .configSave => true
  | .configSaveDone _ => true
  | .fuseLoad _ _ => true
  | .lifecycleDecode _ => true
  | .bootImageVerify _ _ _ => true
  | .ddr5Training _ => true
  | .configLoad => true
  | .timeRefStart => true
  | .journalRecovery => true
  | .cardAtrReceive port _ => decide (port < 2)
  | .mgmtPairResetDone pair => decide (pair < 2)
  | .spillCancelReceive peer _ => decide (peer < 1024)
  | .domainEraseDone => true
  | .rawSourceReattach source samples => decide (source < 24) && samples.length == 4096
  | .alarmSourceClear source => alarmOk source

end Sys2Proof
end

