-- ==== Sys2Proof/Safety.lean ====
section
/-! DEFINITION. What claims about a run of the part are said in: the canonical form of memory, fuses that are only ever
blown (R519, R521, R528), and a queue whose commands are well formed. -/

namespace Sys2Proof.Machine

/-- The memory of a state is in canonical form (R564). -/
def State.memOk (s : State) : Bool := Memory.wf s.mem

/-- Every bit of `a` is set in `b`. -/
def bitsKept {n : Nat} (a b : BitVec n) : Prop := a &&& b = a

/-- Progress records: none goes away, and each keeps its programmed bits. -/
def recsKept : List Word → List Word → Prop
  | [], _ => True
  | _ :: _, [] => False
  | a :: as, b :: bs => bitsKept a b ∧ recsKept as bs

/-- Fuses of `b` are those of `a`, some more of them blown (R519, R521, R528). -/
structure Otp.Kept (a b : Otp) : Prop where
  copyA : bitsKept a.copyA b.copyA
  copyB : bitsKept a.copyB b.copyB
  recs  : recsKept a.recs b.recs
  words : ∀ g w, bitsKept (a.word g w) (b.word g w)

/-- Every command that waits is well formed. -/
def State.queueOk (s : State) : Bool := s.pending.all Instr.wf

/-- A host access to a register is let through: start-up has passed stage 6 (R604), and the access rules permit the host
the access (R547, R548). -/
structure HostMay (s : State) (write : Bool) (off : Nat) : Prop where
  opened : s.dev.open6 = true
  gate   : (s.dev.gate s.ctx Mst.host write off).ok = true

/-- Nothing but `dev` differs: ST, the fuses, the addressed memory and the queue stand. -/
structure DevOnly (s t : State) : Prop where
  st      : t.st = s.st
  otp     : t.otp = s.otp
  mem     : t.mem = s.mem
  pending : t.pending = s.pending

/-- The record of a slot is completed, with this status and this sub-status (R56, R98). -/
def Dev.Ended (d : Dev) (slot st sub : Nat) : Prop :=
  ∃ x, d.rec? slot = some x ∧ x.st.completed = true ∧ x.status = st ∧ x.sub = sub

/-- The item that a slot names is one of this part's own, not a peer's (R425). -/
def Dev.OwnItem (d : Dev) (slot : Nat) : Prop := ∀ i, d.item? slot = some i → i.spillFrom = none

/-- Commands that can move the ST counter: a jump or step of the time base, and power lost or applied (R28, R35, R37). A host
or SMBus write and the debug master reach TIM_SET_CTRL. -/
def movesSt : Instr → Bool
  | .timSetApply _ | .tokenVerifyDone _ _ | .ppsEdge | .registerWrite _ _ _ _ | .smbusBlockWrite _ _ | .debugAccess _ _ _ _ | .powerLoss | .powerOnReset _ => true
  | _ => false

/-- Commands that can blow fuses (R519, R528, R529). -/
def blowsFuses : Instr → Bool
  | .lcGo _ | .lifecycleDecode _ | .fuseProgram _ _ _ | .registerWrite _ _ _ _ | .smbusBlockWrite _ _ | .debugAccess _ _ _ _ => true
  | _ => false

/-- Commands that can change the addressed memory (R534, R564, R578, R600). -/
def changesMemory : Instr → Bool
  | .debugAccess _ _ _ _ | .ddr5Training _ | .powerLoss | .powerOnReset _ => true
  | _ => false

end Sys2Proof.Machine
end

