-- ==== Sys2Proof/Certificates/Slice0/Obligations.lean ====
section
/-! DEFINITION. The statements for the provers, in the order of the spec's files. -/

open Sys2Proof Sys2Proof.Machine

/-- File 95: a step is one operation or event, whole. The queue is the model's form of the commands that wait (log entry 3). -/
def Obligations.StepRunsFront : Prop :=
  ∀ (c : Instr) (rest : List Instr) (s : State), step { s with pending := c :: rest } = exec c { s with pending := rest }

/-- R28, R600, R602. The empty memory and the fuses of a FIELD unit are the model's choices (log entries 4 and 5). -/
def Obligations.ResetState : Prop :=
  let s := State.reset
  let d := s.dev
  s.st = 0 ∧ d.tim.state = .unset ∧ d.pwr.stage = 1 ∧ d.pwr.halted = false ∧ (∀ o, d.reg o = regReset o) ∧ d.hiLatch = [] ∧ d.hif.rings = [] ∧ d.slices = [] ∧ d.jnl.recs = [] ∧ d.dsp.items = []
    ∧ d.key.slots = [] ∧ (∀ k ∈ d.cus.cers, k.state = .idle) ∧ d.tmp.latched = 0#32 ∧ d.tmp.lock = false ∧ d.evl.recs = [] ∧ (∀ n, (d.slice n).state = .unbound) ∧ (∀ a b, (d.ring a b).state = .absent)
    ∧ s.otp.state = .field ∧ s.pending = [] ∧ s.memOk = true

/-- R28, R35, R37, R519, R528, R529, R564, R578, R600. That a command whose condition does not hold runs and changes nothing is the
model's choice (log entry 1). -/
def Obligations.WhatCommandsReach : Prop :=
  ∀ (c : Instr) (s : State), ∃ t, exec c s = .next t ∧ t.pending = s.pending
    ∧ (movesSt c = false → t.st = s.st) ∧ (blowsFuses c = false → t.otp = s.otp) ∧ (changesMemory c = false → t.mem = s.mem)

/-- R28. An idle step is one nanosecond (log entry 2). -/
def Obligations.TimeNeverGoesBack : Prop :=
  (State.reset.st = 0 ∧ State.reset.dev.tim.state = .unset) ∧
  (∀ (s : State) (v : Bool), ∃ t, exec (.powerOnReset v) s = .next t ∧ t.st = 0 ∧ t.dev.tim.state = .unset) ∧
  (∀ s : State, s.pending = [] → s.dev.pwr.powered = true → s.dev.tim.slewRem = 0 → s.st.toNat + 1 < 2 ^ 64 → ∃ t, step s = .next t ∧ t.st.toNat = s.st.toNat + 1) ∧
  (∀ s t : State, step s = .next t → (∀ c ∈ s.pending.head?, c ≠ .powerLoss ∧ ∀ v, c ≠ .powerOnReset v) → s.st.toNat ≤ t.st.toNat)

/-- R519, R521, R528, R530. -/
def Obligations.FusesOnlyBlown : Prop :=
  ∀ s t : State, step s = .next t → s.otp.Kept t.otp

/-- R564, R578, R600; the form is the model's (log entry 4). -/
def Obligations.MemoryCanonical : Prop :=
  ∀ s t : State, s.memOk = true → step s = .next t → t.memOk = true

/-- R24. -/
def Obligations.GroveMask : Prop :=
  ∀ (s : State) (v : DWord), HostMay s true Off.dspGroveMask →
    ((∀ g, g < 12 → v.getLsbD g = false) → exec (.registerWrite 0 Off.dspGroveMask 32 v) s = .next { s with dev := s.dev.ruleViolation s.ctx Off.dspGroveMask }) ∧
    ((∃ g, g < 12 ∧ v.getLsbD g = true) → exec (.registerWrite 0 Off.dspGroveMask 32 v) s = .next { s with dev := s.dev.setReg Off.dspGroveMask (v.setWidth 32 &&& 0xFFF#32) })

/-- R31, R36: what a valid PPS edge does in UNSET and in LOCKED, where no set or token waits for it. -/
def Obligations.TimeEdges : Prop :=
  ∀ s : State, bit (s.dev.reg Off.timRefCfg) 0 = true → s.dev.pwr.powered = true → s.dev.tim.setWait = none → s.dev.tim.token = none →
    (s.dev.tim.state = .unset →
      exec .ppsEdge s = .next { s with dev := { s.dev with tim := { s.dev.tim with ppsCap := s.st.toNat, ppsValid := true } } }) ∧
    (∀ e, s.dev.tim.state = .locked → s.dev.tim.expected = e → nearestSecond s.st.toNat ≤ e → e ≤ s.st.toNat + 10000 → s.st.toNat ≤ e + 10000 →
      ∃ t, exec .ppsEdge s = .next t ∧ DevOnly s t ∧ t.dev.tim.state = .locked ∧ t.dev.tim.ppsCap = s.st.toNat
        ∧ t.dev.tim.slewRem = (e : Int) - s.st.toNat ∧ t.dev.tim.misses = 0 ∧ t.dev.regs = s.dev.regs)

/-- R31 to R33, R36, R39, R648: the time-driven rows of the time base, each where its condition holds. The state after each is
given whole. -/
def Obligations.TimeStateMoves : Prop :=
  ∀ s : State,
    (s.dev.pwr.powered = true → s.dev.tim.state = .locked → s.dev.tim.misses = 1 → s.dev.tim.expected + 10000 ≤ s.st.toNat →
      ∃ t, exec .ppsMiss s = .next t ∧ DevOnly s t ∧ t.dev.tim = { s.dev.tim with state := .holdover, misses := 2, ppsValid := false }
        ∧ bit (t.dev.reg Off.timEvt) 0 = true ∧ bit (t.dev.reg Off.timEvt) 1 = true) ∧
    (s.dev.tim.state = .acquiring → max s.dev.tim.acqSince (s.dev.tim.lastValid.getD 0) + 10000000000 ≤ s.st.toNat →
      ∃ t, exec .acquireTimeout s = .next t ∧ DevOnly s t ∧ t.dev.tim = { s.dev.tim with state := .freeRun, ppsValid := false }
        ∧ bit (t.dev.reg Off.timEvt) 0 = true) ∧
    (s.dev.tim.state = .holdover → (s.dev.reg Off.timHoldLimit).toNat < s.dev.tim.errEst s.st.toNat →
      ∃ t, exec .holdoverLimitExceeded s = .next t ∧ DevOnly s t ∧ t.dev.tim = { s.dev.tim with state := .freeRun, ppsValid := false }
        ∧ bit (t.dev.reg Off.timEvt) 0 = true) ∧
    (fld (s.dev.reg Off.timRefCfg) 3 2 ≠ 0 → s.dev.tim.trefValid = false → s.dev.tim.trefSince + 10000000 ≤ s.st.toNat →
      exec .trefValidated s = .next { s with dev := { s.dev with tim := { s.dev.tim with trefValid := true } } }) ∧
    (fld (s.dev.reg Off.timRefCfg) 3 2 ≠ 0 → s.dev.tim.trefValid = true → s.dev.tim.state = .locked →
      ∃ t, exec .trefLoss s = .next t ∧ DevOnly s t ∧ t.dev.tim = { s.dev.tim with state := .holdover, trefValid := false, trefSince := s.st.toNat }
        ∧ bit (t.dev.reg Off.timEvt) 0 = true) ∧
    (s.dev.tim.slewRem = 0 → exec .slewComplete s = .next { s with dev := { s.dev with tim := { s.dev.tim with slewPhase := 0 } } }) ∧
    (exec .timFenceDone s = .next { s with dev := { s.dev with tim := { s.dev.tim with fenceBusy := false } } })

/-- R35, R36, R40, R44, R643 to R645. That the time value is carried on to the moment the token applies is a reading of R40 (log
entry 30), and what a signature verifies is FIPS 186-5 and FIPS 204 as `tokenFail` writes them out (log entry 88). -/
def Obligations.TimeTokens : Prop :=
  ∀ s : State,
    (HostMay s true Off.timTokenCtrl → s.dev.tim.tokenStat ≠ 1 → s.dev.mgmtUp = true →
      (∃ t, exec (.timTokenGo false) s = .next t ∧ DevOnly s t ∧ t.dev.regs = s.dev.regs ∧ t.dev.tim = { s.dev.tim with
        nonceLive := false, tokenStat := 1, token := some { nonce := s.dev.tim.nonce, goSt := s.st.toNat, issued := s.dev.tim.nonceIssued, live := s.dev.tim.nonceLive } }) ∧
      (s.dev.mgmtDrbg = true → ∃ t, exec (.timTokenGo true) s = .next t ∧ DevOnly s t ∧ t.dev.tim.tokenStat = 1 ∧ t.dev.tim.nonceLive = true ∧ t.dev.tim.nonceIssued = s.st.toNat
        ∧ t.dev.tim.token = some { nonce := s.dev.tim.nonce, goSt := s.st.toNat, issued := s.dev.tim.nonceIssued, live := s.dev.tim.nonceLive })) ∧
    (∀ b, HostMay s true Off.timTokenCtrl → s.dev.tim.tokenStat = 1 →
      exec (.timTokenGo b) s = .next { s with dev := s.dev.ruleViolation s.ctx Off.timTokenCtrl }) ∧
    (HostMay s true Off.timTokenCtrl → s.dev.mgmtDrbg = true →
      ∃ t, exec .timNewNonce s = .next t ∧ DevOnly s t ∧ t.dev.tim.nonceLive = true ∧ t.dev.tim.nonceIssued = s.st.toNat
        ∧ t.dev.tim.nonce = (s.dev.mgmtNonce s.ctx).1 ∧ t.dev.rng.ctr = s.dev.rng.ctr + 1 ∧ t.dev.tim.token = s.dev.tim.token) ∧
    (∀ data read k v, let token := dmaRead data read; s.dev.tim.token = some k → k.wait = none → v = le token.data 32 8 → v + (s.st.toNat - k.goSt) < 2 ^ 61 →
      ∃ t, exec (.tokenVerifyDone data read) s = .next t ∧ t.otp = s.otp ∧ t.mem = s.mem ∧ t.pending = s.pending ∧
        match tokenFail token k s.dev with
        | some code => t.st = s.st ∧ t.dev.tim = { s.dev.tim with token := none, tokenStat := code } ∧ bit (t.dev.reg Off.timEvt) 2 = true
        | none =>
          if le token.data 2 2 = 1 ∧ s.dev.ppsOk = true then
            t.st = s.st ∧ t.dev.tim = { s.dev.tim with token := some { k with wait := some { value := v, since := s.st.toNat } } }
          else if s.dev.tim.state = .unset then
            if s.st.toNat ≤ v then t.st.toNat = v + (s.st.toNat - k.goSt) ∧ t.dev.tim.tokenStat = 2 ∧ t.dev.tim.token = none ∧ t.dev.tim.state = .acquiring
            else t.st = s.st ∧ t.dev.tim = { s.dev.tim with token := none, tokenStat := 6 }
          else t.st = s.st ∧ t.dev.tim = { s.dev.tim with token := none, tokenStat := 2, slewRem := ((v + (s.st.toNat - k.goSt) : Nat) : Int) - s.st.toNat }) ∧
    (∀ k w, s.dev.tim.token = some k → k.wait = some w → w.since + 2000000000 ≤ s.st.toNat →
      ∃ t, exec .tokenPpsTimeout s = .next t ∧ DevOnly s t ∧ t.dev.tim = { s.dev.tim with token := none, tokenStat := 10 }
        ∧ bit (t.dev.reg Off.timEvt) 2 = true)

/-- R30, R32, R35 to R37, R39, R43. -/
def Obligations.TimeSets : Prop :=
  ∀ s : State,
    (∀ v, HostMay s true Off.timSetCtrl → s.dev.quorum Off.timSetCtrl v = true → bit v 0 = true → bit v 1 = false →
      (s.dev.reg64 Off.timSetValueLo < 2 ^ 61 → s.st.toNat ≤ s.dev.reg64 Off.timSetValueLo →
        ∃ t, exec (.timSetApply v) s = .next t ∧ t.st.toNat = s.dev.reg64 Off.timSetValueLo ∧ t.otp = s.otp ∧ t.mem = s.mem ∧ t.pending = s.pending
          ∧ t.dev.tim.slewRem = 0 ∧ bit (t.dev.reg Off.timEvt) 3 = true) ∧
      (s.dev.reg64 Off.timSetValueLo < 2 ^ 61 → s.dev.reg64 Off.timSetValueLo < s.st.toNat → s.dev.tim.state ≠ .unset →
        ∃ t, exec (.timSetApply v) s = .next t ∧ DevOnly s t ∧ t.dev.tim = { s.dev.tim with slewRem := (s.dev.reg64 Off.timSetValueLo : Int) - s.st.toNat }) ∧
      (2 ^ 61 ≤ s.dev.reg64 Off.timSetValueLo →
        exec (.timSetApply v) s = .next { s with dev := s.dev.ruleViolation s.ctx Off.timSetCtrl })) ∧
    (∀ v, HostMay s true Off.timSetCtrl → s.dev.quorum Off.timSetCtrl v = true → bit v 0 = true → bit v 1 = true → s.dev.ppsOk = true →
      s.dev.reg64 Off.timSetValueLo < 2 ^ 61 →
        ∃ t, exec (.timSetApply v) s = .next t ∧ DevOnly s t ∧ t.dev.tim = { s.dev.tim with setWait := some (s.dev.reg64 Off.timSetValueLo) }) ∧
    (∀ v, HostMay s true Off.timSetCtrl → s.dev.quorum Off.timSetCtrl v = false →
        exec (.timSetApply v) s = .next { s with dev := s.dev.ruleViolation s.ctx Off.timSetCtrl }) ∧
    (HostMay s true Off.timFence → s.dev.tim.fenceBusy = false →
      exec .timFenceStart s = .next { s with dev := { s.dev with tim := { s.dev.tim with fenceBusy := true } } }) ∧
    (∀ v, HostMay s true Off.timRefCfg → fld v 3 2 ≠ 3 →
      ∃ t, exec (.timRefCfgWrite v) s = .next t ∧ DevOnly s t ∧ t.dev.reg Off.timRefCfg = v &&& 0x1F#32 ∧ t.dev.tim.state = s.dev.tim.state
        ∧ (fld v 3 2 ≠ 0 → t.dev.tim.trefValid = false)) ∧
    (∀ v, HostMay s true Off.timRefCfg → fld v 3 2 = 3 → exec (.timRefCfgWrite v) s = .next s)

/-- R61, each row. `a` is the accepted count, `p` the posted count. -/
def Obligations.Doorbells : Prop :=
  ∀ (s : State) (sl rg bits : Nat) (al : Bool) (v : DWord), sl < 4096 → rg < 16 →
    let r := s.dev.ring sl rg
    let t := BitVec.ofNat 32 v.toNat
    let rejected := fun (o : Host.Outcome State Fault Refusal) (b : Nat) (rep : Bool) =>
      ∃ u, o = .next u ∧ DevOnly s u ∧ u.dev.hif.rings = s.dev.hif.rings ∧ bit (u.dev.reg Off.hifEvt) b = true
        ∧ (if rep then bit u.dev.acc.viol 0 = true else u.dev.acc = s.dev.acc)
    let faulted := fun (o : Host.Outcome State Fault Refusal) (cause : Nat) =>
      ∃ u, o = .next u ∧ DevOnly s u ∧ (u.dev.ring sl rg).state = .fault ∧ (u.dev.ring sl rg).cause = cause
        ∧ (u.dev.ring sl rg).tail = r.tail ∧ (u.dev.ring sl rg).consumed = r.consumed ∧ bit (u.dev.reg Off.hifEvt) 0 = true
    (HostMay s true (bar2 (sl * 0x1000 + 0x10 * rg)) →
      ((bits < 64 ∨ al = false) → rejected (exec (.sqDoorbell sl rg bits al v) s) 3 true) ∧
      (64 ≤ bits → al = true → r.state = .absent → rejected (exec (.sqDoorbell sl rg bits al v) s) 2 true) ∧
      (64 ≤ bits → al = true → r.state ≠ .absent → v.toNat / 2 ^ 32 % 65536 ≠ r.gen → rejected (exec (.sqDoorbell sl rg bits al v) s) 1 false) ∧
      (64 ≤ bits → al = true → r.state ≠ .absent → v.toNat / 2 ^ 32 % 65536 = r.gen →
        ((r.tail - r.accepted).toNat ≤ (t - r.accepted).toNat → (t - r.accepted).toNat ≤ 2 ^ r.sqLog2 →
          ∃ u, exec (.sqDoorbell sl rg bits al v) s = .next u ∧ DevOnly s u ∧ u.dev.ring sl rg = { r with tail := t } ∧ u.dev.regs = s.dev.regs) ∧
        (¬((r.tail - r.accepted).toNat ≤ (t - r.accepted).toNat ∧ (t - r.accepted).toNat ≤ 2 ^ r.sqLog2) →
          ((r.state = .active ∨ r.state = .held) → faulted (exec (.sqDoorbell sl rg bits al v) s) 1) ∧
          ((r.state = .parked ∨ r.state = .fault) → exec (.sqDoorbell sl rg bits al v) s = .next s)))) ∧
    (HostMay s true (bar2 (sl * 0x1000 + 0x10 * rg + 8)) →
      ((bits < 64 ∨ al = false) → rejected (exec (.cqDoorbell sl rg bits al v) s) 3 true) ∧
      (64 ≤ bits → al = true → r.state = .absent → rejected (exec (.cqDoorbell sl rg bits al v) s) 2 true) ∧
      (64 ≤ bits → al = true → r.state ≠ .absent → v.toNat / 2 ^ 32 % 65536 ≠ r.gen → rejected (exec (.cqDoorbell sl rg bits al v) s) 1 false) ∧
      (64 ≤ bits → al = true → r.state ≠ .absent → v.toNat / 2 ^ 32 % 65536 = r.gen →
        ((r.posted - t).toNat ≤ (r.posted - r.consumed).toNat →
          ∃ u, exec (.cqDoorbell sl rg bits al v) s = .next u ∧ DevOnly s u ∧ u.dev.ring sl rg = { r with consumed := t } ∧ u.dev.regs = s.dev.regs) ∧
        (¬(r.posted - t).toNat ≤ (r.posted - r.consumed).toNat →
          ((r.state = .active ∨ r.state = .held) → faulted (exec (.cqDoorbell sl rg bits al v) s) 2) ∧
          ((r.state = .parked ∨ r.state = .fault) → exec (.cqDoorbell sl rg bits al v) s = .next s))))

/-- R67, R69, R70, R73, R74, R437. The ring is the one that HIF_RING_SEL names. That a ring is HELD while ENABLE or HOLD from
PARKED or FAULT is in progress is the model's choice (log entry 76). -/
def Obligations.RingCommands : Prop :=
  ∀ s : State, HostMay s true Off.hifRingCmd →
    let sl := s.dev.selSlice
    let rg := s.dev.selRing
    let r := s.dev.ring sl rg
    let done := fun (o : Host.Outcome State Fault Refusal) (x : Ring) =>
      ∃ u, o = .next u ∧ DevOnly s u ∧ u.dev.ring sl rg = x ∧ u.dev.hif.cmdResult = 0 ∧ u.dev.hif.cmdGen = x.gen
        ∧ (s.dev.syncMirror = false → bit (u.dev.reg Off.hifEvt) 4 = true)
    let going := fun (o : Host.Outcome State Fault Refusal) (dest : RingState) =>
      ∃ u j, o = .next u ∧ DevOnly s u ∧ u.dev.ring sl rg = { r with state := .held, cause := 0, hwbSince := some s.st.toNat }
        ∧ u.dev.hif.cmdBusy = some j ∧ j.slice = sl ∧ j.num = rg ∧ j.dest = dest
    (s.dev.hif.cmdBusy = none → s.dev.changing MirrorOf.isRing = false → s.dev.fab.pair.role.parks = false →
      (s.dev.createFail r = none →
        done (exec .ringCreate s) { s.dev.takeStaged r.absent with state := .held, gen := nextGen r.gen } ∧
        (s.dev.takeStaged r.absent).accepted = 0 ∧ (s.dev.takeStaged r.absent).posted = 0 ∧ (s.dev.takeStaged r.absent).consumed = 0
          ∧ (s.dev.takeStaged r.absent).tail = 0 ∧ nextGen r.gen ≠ 0 ∧ nextGen 0xFFFF = 1 ∧ (r.gen < 0xFFFF → nextGen r.gen = r.gen + 1)) ∧
      (r.state = .held → done (exec .ringEnable s) { r with state := .active }) ∧
      (r.state = .active → done (exec .ringHold s) { r with state := .held, fetched := [], ddtStall := false, flowStall := false }) ∧
      (r.state = .parked ∨ r.state = .fault → r.needsSettings = false → going (exec .ringEnable s) .active ∧ going (exec .ringHold s) .held) ∧
      (r.state = .held → s.dev.entriesOwed sl rg = 0 → r.consumed = r.posted → done (exec .ringDestroy s) { slice := sl, num := rg, gen := r.gen }) ∧
      (r.state = .absent → ∀ c ∈ [Instr.ringEnable, .ringHold, .ringDestroy],
        ∃ u, exec c s = .next u ∧ DevOnly s u ∧ u.dev.hif.rings = s.dev.hif.rings ∧ u.dev.hif.cmdResult = 2)) ∧
    (s.dev.hif.cmdBusy.isSome = true → ∀ c ∈ [Instr.ringCreate, .ringEnable, .ringHold, .ringDestroy],
      exec c s = .next { s with dev := s.dev.ruleViolation s.ctx Off.hifRingCmd })

/-- R48, R49, R56, R58, R62, R64, R67, R69, R76. -/
def Obligations.RingTransfers : Prop :=
  ∀ (s : State) (sl rg : Nat),
    let r := s.dev.ring sl rg
    let faulted := fun (o : Host.Outcome State Fault Refusal) (cause addr : Nat) =>
      ∃ u, o = .next u ∧ DevOnly s u ∧ (u.dev.ring sl rg).state = .fault ∧ (u.dev.ring sl rg).cause = cause ∧ (u.dev.ring sl rg).faultAddr = addr
        ∧ (u.dev.ring sl rg).accepted = r.accepted ∧ (u.dev.ring sl rg).posted = r.posted ∧ bit (u.dev.reg Off.hifEvt) 0 = true
    (s.dev.hostSide = true →
      (r.state = .active → r.fetched.length < (r.tail - r.accepted).toNat → ∀ desc inList outList shortIn,
        (desc.refused = false → desc.failed = false → 128 ≤ desc.data.length →
          ∃ u f, exec (.descriptorFetch sl rg desc inList outList shortIn) s = .next u ∧ DevOnly s u ∧ f.desc = desc.data.take 128
            ∧ Tx.fetch (s.dev.tagOf sl) (BitVec.ofNat 64 r.sqAddr) 128 ∈ u.dev.tx
            ∧ u.dev.ring sl rg = { r with fetched := r.fetched ++ [f] } ∧ u.dev.regs = s.dev.regs) ∧
        (desc.refused = true →
          faulted (exec (.descriptorFetch sl rg desc inList outList shortIn) s) 3
            (r.sqBase + 128 * ((r.accepted + BitVec.ofNat 32 r.fetched.length).toNat % 2 ^ r.sqLog2)))) ∧
      (s.dev.hif.cmdBusy = none → r.state = .active ∨ r.state = .held → ∀ o x, s.dev.nextOwed r = some (o, x) →
        (∃ u, exec (.completionPost sl rg false) s = .next u ∧ DevOnly s u ∧ (u.dev.ring sl rg).posted = r.posted + 1
          ∧ (u.dev.ring sl rg).accepted = r.accepted ∧ Tx.cqe (s.dev.tagOf sl) sl rg r.posted (cqEntry r x) ∈ u.dev.tx
          ∧ u.dev.rec? o.slot = some { x with st := .complete }) ∧
        faulted (exec (.completionPost sl rg true) s) 4 (r.cqBase + 32 * (r.posted.toNat % 2 ^ r.cqLog2))) ∧
      (s.dev.hif.cmdBusy = none → r.state ≠ .absent → r.state ≠ .parked → r.hwbSince.isSome = true →
        (∃ u, exec (.headWriteBack sl rg false) s = .next u ∧ DevOnly s u ∧ u.dev.tx = .hwb (s.dev.tagOf sl) sl rg (s.dev.hwbWord r) :: s.dev.tx
          ∧ u.dev.ring sl rg = { r with hwb := some (s.dev.accShown r), hwbSince := none } ∧ u.dev.regs = s.dev.regs) ∧
        (r.state ≠ .fault → faulted (exec (.headWriteBack sl rg true) s) 5 r.hwbAddr)) ∧
      (∀ j, s.dev.hif.cmdBusy = some j → j.slice = sl → j.num = rg → r.state = .held → r.hwbSince.isSome = true →
        (∀ x, exec (.completionPost sl rg x) s = .next s) ∧
        (j.left = 0 → ∃ u, exec (.headWriteBack sl rg false) s = .next u ∧ DevOnly s u ∧ u.dev.hif.cmdBusy = none ∧ u.dev.hif.cmdResult = 0
          ∧ u.dev.ring sl rg = { r with hwb := some (s.dev.accShown r), hwbSince := none, state := j.dest }))) ∧
    (s.dev.endpointUp = true →
      (0 < r.irqCount → fld r.mod 9 0 ≠ 0 → r.irqOldest + fld r.mod 9 0 * 1000 ≤ s.st.toNat →
        ∃ u, exec (.irqTimer sl rg) s = .next u ∧ DevOnly s u ∧ u.dev.ring sl rg = { r with irqCount := 0 } ∧ u.dev.regs = s.dev.regs
          ∧ (let e := s.dev.hif.msixEntry (fld r.irq 10 0)
             if e.masked || s.dev.hif.funcMask then u.dev.tx = s.dev.tx else u.dev.tx = .msix (fld r.irq 10 0) e.addr e.data :: s.dev.tx)) ∧
      (∀ v, v < 2048 → (s.dev.hif.msixEntry v).pending = true → s.dev.hif.funcMask = false →
        ∃ u, exec (.msixUnmask v) s = .next u ∧ DevOnly s u ∧ u.dev.hif.msixEntry v = { s.dev.hif.msixEntry v with pending := false, masked := false }
          ∧ u.dev.tx = .msix v (s.dev.hif.msixEntry v).addr (s.dev.hif.msixEntry v).data :: s.dev.tx ∧ u.dev.regs = s.dev.regs))

/-- R59, R71 to R73, R641. -/
def Obligations.RingRegisters : Prop :=
  ∀ s : State,
    (∀ v, HostMay s true Off.hifRingSel →
      ∃ u, exec (.ringSelect v) s = .next u ∧ DevOnly s u ∧ u.dev.hif = s.dev.hif ∧ u.dev.reg Off.hifRingSel = v &&& 0x000F0FFF#32
        ∧ (let r := s.dev.ring (fld v 11 0) (fld v 19 16)
           (r.state ≠ .absent → r.needsSettings = false →
             u.dev.reg Off.hifRingMod = r.mod ∧ u.dev.reg Off.hifRingPolicy = r.policy ∧ u.dev.reg Off.hifRingIrq = r.irq) ∧
           (r.state = .absent → ∀ o, o ≠ Off.hifRingSel → u.dev.reg o = s.dev.reg o))) ∧
    (∀ v, HostMay s true Off.hifRingMod →
      let sl := s.dev.selSlice
      let rg := s.dev.selRing
      let r := s.dev.ring sl rg
      let x := v &&& 0x000103FF#32
      (r.state = .absent → exec (.ringSettingsWrite Off.hifRingMod v) s = .next { s with dev := s.dev.setReg Off.hifRingMod x }) ∧
      (r.state ≠ .absent → r.needsSettings = false → irqBad r.irq x r.policy = false →
        ∃ u, exec (.ringSettingsWrite Off.hifRingMod v) s = .next u ∧ DevOnly s u ∧ u.dev.ring sl rg = { r with mod := x } ∧ u.dev.reg Off.hifRingMod = x) ∧
      (r.state ≠ .absent → r.needsSettings = false → irqBad r.irq x r.policy = true →
        ∃ u, exec (.ringSettingsWrite Off.hifRingMod v) s = .next u ∧ DevOnly s u ∧ u.dev.hif.rings = s.dev.hif.rings
          ∧ u.dev.reg Off.hifRingMod = s.dev.reg Off.hifRingMod ∧ bit u.dev.acc.viol 0 = true)) ∧
    (∀ sl rg, sl < 4096 → rg < 16 →
      let a := bar2 (sl * 0x1000 + 0x100 + 8 * rg)
      let r := s.dev.ring sl rg
      HostMay s false a → HostMay s false (a + 4) →
      ∃ u, exec (.ringStatusRead sl rg false) s = .next u ∧ DevOnly s u ∧ u.dev.rdata.toNat = (s.dev.accShown r).toNat ∧ u.dev.regs = s.dev.regs
        ∧ ∃ w, exec (.ringStatusRead sl rg true) u = .next w ∧ DevOnly s w ∧ w.dev.rdata.toNat = r.statusHi.toNat ∧ w.dev.regs = s.dev.regs)

/-- R56, R57, R98: the operation that every way to OWED shares. The content of the entry is fixed here (a reading of R98). -/
def Obligations.RecordOwed : Prop :=
  ∀ (c : Ctx) (d : Dev) (slot st sub resLen : Nat) (r : Rec), d.rec? slot = some r → (d.ring r.slice r.ring).state ≠ .absent →
    (∀ i, d.item? slot = some i → i.spillFrom = none) →
    let e := d.oweOne c slot st sub resLen
    e.rec? slot = some { r with st := .owed, status := st, sub := sub, resLen := resLen, cst := d.stamp c, backlog := decide (1 ≤ d.dsp.reef),
                                late := decide (((d.item? slot).elim r.deadline (fun i => i.deadline)) < c.now) } ∧
    (∃ o, e.jnl.owed = d.jnl.owed ++ [o] ∧ o.slot = slot ∧ o.slice = r.slice ∧ o.ring = r.ring) ∧
    (∀ i, d.item? slot = some i → ∃ j, e.item? slot = some j ∧ j.ds = .finished ∧ j.twin = none ∧ j.seq = i.seq ∧ j.desc = i.desc) ∧
    (∀ t ∈ e.lan.twins, t.running ≠ some slot) ∧
    (d.dsp.items.all (fun i => i.mark.isNone) = true → d.toOwed c slot st sub resLen = e)

/-- R77, R79, R80, R82, R124, R163; what completing an item does besides is `RecordOwed`. -/
def Obligations.ControlRows : Prop :=
  ∀ s : State, s.dev.hostSide = true →
    let ends := fun (o : Host.Outcome State Fault Refusal) (slot st sub : Nat) => ∃ u, o = .next u ∧ DevOnly s u ∧ u.dev.Ended slot st sub
    (∀ slot i r, s.dev.item? slot = some i → s.dev.rec? slot = some r → i.waitingControl = true → i.spillFrom = none → s.dev.acked slot = true →
      (Desc.op i.desc = 1 → s.dev.aheadWaits i.slice i.ring r.pos = false →
        ends (exec (.ringBarrierResolve slot) s) slot 0 0 ∧ exec (.ringBarrierResolve slot) s = .next { s with dev := s.dev.toOwed s.ctx slot 0 0 0 }) ∧
      (Desc.op i.desc = 1 → s.dev.aheadWaits i.slice i.ring r.pos = true → exec (.ringBarrierResolve slot) s = .next s) ∧
      (Desc.op i.desc = 3 → i.relAt.isSome = true →
        (∀ e, s.dev.nextDue s.ctx = some e → e.use = .release → e.n = slot → s.dev.fireRoom s.ctx = true →
          ends (exec (.releaseAtFire slot) s) slot 0 0 ∧ e.due ≤ s.st.toNat / 1000 * 1000
            ∧ ∀ x ∈ s.dev.delayList, tickDue s.st.toNat x.due = true → s.dev.delayAble x = true → e.due ≤ x.due) ∧
        ((∀ e, s.dev.nextDue s.ctx = some e → e.use = .release → e.n ≠ slot) → exec (.releaseAtFire slot) s = .next s) ∧
        (s.dev.fireRoom s.ctx = false → exec (.releaseAtFire slot) s = .next s))) ∧
    (∀ sl id b, s.dev.openBarrier sl id = some b →
      (∀ k ∈ s.dev.barrierSlots b, (s.dev.rec? k).isSome = true ∧ s.dev.OwnItem k) →
      (b.arrived = true → ((s.dev.barrierSlots b).all (fun k => match s.dev.rec? k with | some r => !s.dev.aheadWaits sl r.ring r.pos | none => true)) = true →
        ∃ u, exec (.sliceBarrierResolve sl id) s = .next u ∧ DevOnly s u ∧ (∀ k ∈ s.dev.barrierSlots b, u.dev.Ended k 0 0) ∧ u.dev.openBarrier sl id = none) ∧
      (b.arrived = false → s.dev.barrierLate s.ctx b = true → s.dev.squashing b.slice = none →
        ∃ u, exec (.sliceBarrierDissolve sl id) s = .next u ∧ DevOnly s u ∧ (∀ k ∈ s.dev.barrierSlots b, u.dev.Ended k 1 1)
          ∧ u.dev.hif.barriers = s.dev.hif.barriers.erase b)) ∧
    (HostMay s true Off.jnlRecoverCtrl →
      ∃ u, exec .recoverClose s = .next u ∧ DevOnly s u ∧ u.dev.jnl.recoverOpen = false ∧ bit (u.dev.reg Off.jnlEvt) 4 = true
        ∧ ∀ k, (∃ r ∈ s.dev.jnl.recs, r.slot = k ∧ r.st = .awaiting) → s.dev.OwnItem k → u.dev.Ended k 1 0)

/-- R64, R104, R127, R132, R136, R150, R437. That a change other than an acceptance waits under the same timeout, and that all
are complete once degraded, is the model's choice (log entry 83). -/
def Obligations.TableRows : Prop :=
  ∀ s : State,
    (∀ v, HostMay s true Off.ddtSize → 18 ≤ fld v 4 0 → fld v 4 0 ≤ 29 → s.dev.ringsDefined = 0 → s.dev.mem.ddrReady = true → s.dev.reg64 Off.ddtBaseLo = 0 →
      s.dev.mgmtDrbg = true →
      ∃ u, exec (.ddtReinit Off.ddtSize v) s = .next u ∧ DevOnly s u ∧ u.dev.ddt.entries = [] ∧ u.dev.ddt.ready = false ∧ u.dev.ddt.initing = true
        ∧ u.dev.ddt.hashKey = (s.dev.mgmtNonce s.ctx).1.toNat ∧ u.dev.reg Off.ddtSize = v &&& 0x1F#32) ∧
    (s.dev.ddt.initing = true →
      ∃ u, exec .ddtInitDone s = .next u ∧ DevOnly s u ∧ u.dev.ddt = { s.dev.ddt with initing := false, ready := true } ∧ bit (u.dev.reg Off.ddtEvt) 2 = true) ∧
    (∀ t, s.dev.ddt.stalledSince = some t →
      (s.dev.hif.rings.all (fun r => !r.ddtStall) = true →
        ∃ u, exec .ddtStallRetry s = .next u ∧ DevOnly s u ∧ u.dev.ddt = { s.dev.ddt with stalledSince := none, stallNs := s.dev.ddt.stallNs + (s.st.toNat - t) }
          ∧ bit (u.dev.reg Off.ddtEvt) 1 = true) ∧
      (∀ r f rest d1, s.dev.hif.rings.find? (fun x => x.ddtStall && x.state == .active && !x.fetched.isEmpty) = some r → r.fetched = f :: rest →
        s.dev.ringOpen r = true → s.dev.creditOk r = true → s.dev.letIn s.ctx r f = .ok d1 →
        ∃ u, exec .ddtStallRetry s = .next u ∧ DevOnly s u ∧ u.dev = d1.ddtStallEnd s.ctx ∧ u.dev.ddt.stalledSince = none)) ∧
    (∀ sl rg, (s.dev.ring sl rg).flowStall = true → (s.dev.ring sl rg).fetched = [] →
      ∃ u, exec (.flowStallRetry sl rg) s = .next u ∧ DevOnly s u ∧ u.dev.ring sl rg = { s.dev.ring sl rg with flowStall := false }) ∧
    (s.dev.fab.pair.handing = false →
      (∀ slot w, s.dev.jnl.mirrorWait.find? (fun w => w.slot == slot) = some w → w.att = true →
        ∃ u, exec (.mirrorAck (.record slot)) s = .next u ∧ DevOnly s u ∧ u.dev.jnl = { s.dev.jnl with mirrorWait := s.dev.jnl.mirrorWait.erase w }
          ∧ u.dev.ring w.slice w.ring = { s.dev.ring w.slice w.ring with hwbSince := some s.st.toNat } ∧ (u.dev.reg Off.jnlMirrorLat).toNat = min 0xFFFF (s.st.toNat - w.since)) ∧
      (∀ w rest, s.dev.fab.pair.changes = w :: rest →
        ∃ u, exec (.mirrorAck .change) s = .next u ∧ DevOnly s u ∧ u.dev.fab.pair.changes = rest ∧ u.dev.jnl = s.dev.jnl
          ∧ ((∃ a b, w.of = .ring a b) → bit (u.dev.reg Off.hifEvt) 4 = true))) ∧
    (∀ of t, s.dev.ackSince of = some t →
      (s.st.toNat < t + 40000 → exec (.mirrorAckTimeout of) s = .next s) ∧
      (t + 40000 ≤ s.st.toNat →
        ∃ u, exec (.mirrorAckTimeout of) s = .next u ∧ DevOnly s u ∧ u.dev.jnl.degraded = true ∧ u.dev.jnl.mirrorWait = [] ∧ u.dev.fab.pair.changes = []
          ∧ bit (u.dev.reg Off.jnlEvt) 3 = true))

/-- R63, R64, R92, R95, R108 to R110, R123. -/
def Obligations.Acceptance : Prop :=
  ∀ (s : State) (sl rg : Nat) (f : Fetched) (rest : List Fetched),
    let r := s.dev.ring sl rg
    let look := s.dev.ddtFind s.ctx sl (BitVec.ofNat 64 (Desc.rid f.desc))
    r.fetched = f :: rest → s.dev.ringOpen r = true → s.dev.creditOk r = true → s.dev.ddt.stalledSince = none → r.flowStall = false →
    (∀ e, look = some e → e.st = .inFlight →
      ∃ u, exec (.acceptDescriptor sl rg) s = .next u ∧ DevOnly s u ∧ (u.dev.ring sl rg).accepted = r.accepted + 1 ∧ (u.dev.ring sl rg).fetched = rest
        ∧ (u.dev.ring sl rg).hwbSince = some s.st.toNat ∧ u.dev.jnl.recs = s.dev.jnl.recs ∧ u.dev.jnl.nextSeq = s.dev.jnl.nextSeq
        ∧ (u.dev.reg Off.ddtAttach).toNat = min 0xFFFFFFFF ((s.dev.reg Off.ddtAttach).toNat + 1)) ∧
    (∀ e, look = some e → e.st = .done → s.dev.jnl.fresh < 32768 →
      ∃ u x, exec (.acceptDescriptor sl rg) s = .next u ∧ DevOnly s u ∧ (u.dev.ring sl rg).accepted = r.accepted + 1 ∧ (u.dev.ring sl rg).fetched = rest
        ∧ u.dev.jnl.recs = s.dev.jnl.recs ++ [x] ∧ x.slot = s.dev.jnl.fresh ∧ x.st = .replay ∧ x.seq = e.seq ∧ x.reqId = e.reqId ∧ x.pos = r.accepted
        ∧ x.status = e.status ∧ x.resLen = fld e.outcome 31 13 ∧ x.cst = e.time ∧ u.dev.jnl.nextSeq = s.dev.jnl.nextSeq
        ∧ u.dev.jnl.owed = s.dev.jnl.owed ++ [{ slot := s.dev.jnl.fresh, slice := sl, ring := rg }]
        ∧ (u.dev.reg Off.ddtReplay).toNat = min 0xFFFFFFFF ((s.dev.reg Off.ddtReplay).toNat + 1)) ∧
    (∀ e x, look = some e → e.st = .awaiting → s.dev.jnl.recs.find? (fun x => x.seq == e.seq && x.st == .awaiting) = some x → Desc.flow f.desc = 0 →
      ∃ u, exec (.acceptDescriptor sl rg) s = .next u ∧ DevOnly s u ∧ (u.dev.ring sl rg).accepted = r.accepted + 1 ∧ (u.dev.ring sl rg).fetched = rest
        ∧ u.dev.jnl.nextSeq = s.dev.jnl.nextSeq) ∧
    (look = none → s.dev.jnl.fresh < 32768 → Desc.flow f.desc = 0 →
      (s.dev.ddtInsert s.ctx { slice := sl, reqId := BitVec.ofNat 64 (Desc.rid f.desc), st := .inFlight, seq := s.dev.jnl.nextSeq, time := s.dev.stamp s.ctx }).isSome = true →
      ∃ u, exec (.acceptDescriptor sl rg) s = .next u ∧ DevOnly s u ∧ (u.dev.ring sl rg).accepted = r.accepted + 1 ∧ (u.dev.ring sl rg).fetched = rest
        ∧ u.dev.jnl.nextSeq = s.dev.jnl.nextSeq + 1
        ∧ ∃ x ∈ u.dev.jnl.recs, x.slot = s.dev.jnl.fresh ∧ x.seq = s.dev.jnl.nextSeq ∧ x.slice = sl ∧ x.ring = rg ∧ x.pos = r.accepted
          ∧ x.reqId = BitVec.ofNat 64 (Desc.rid f.desc) ∧ x.opcode = Desc.op f.desc)

/-- R22, R143, R154, R183. -/
def Obligations.DispatchEpoch : Prop :=
  ∀ s : State,
    (s.dev.endpointUp = true → s.dev.pwr.halted = false → s.dev.past 5 = true → s.dev.dsp.lastEpoch < s.st.toNat / 1000 →
      s.dev.fab.pair.role ≠ .active → s.dev.rng.state ≠ .noRandomness →
      ∃ u, exec .dispatchEpoch s = .next u ∧ DevOnly s u ∧ u.dev.dsp.lastEpoch = s.st.toNat / 1000
        ∧ (∀ o ∈ epochRegs, u.dev.effReg o = s.dev.reg o)
        ∧ u.dev.dsp.items.map (fun (i : Item) => { i with preempt := false }) = s.dev.dsp.items.map (fun (i : Item) =>
            { (if i.ds == .held && i.mark.isNone && !s.dev.holds i then { i with ds := .pending } else i) with preempt := false })
        ∧ u.dev.slices = s.dev.slices.map (fun (x : Slice) => { x with effWeight := x.weight, effExpiry := x.expiry })
        ∧ u.dev.dsp.loads = u.dev.freshLoads ∧ u.dev.jnl = s.dev.jnl) ∧
    (s.st.toNat / 1000 ≤ s.dev.dsp.lastEpoch → exec .dispatchEpoch s = .next s)

/-- R21, R173, R177, R182. -/
def Obligations.ReefLevels : Prop :=
  ∀ s : State, s.dev.warning = false → s.dev.locked = false →
    let moved := fun (n : Nat) => ∃ u, exec .reefLevelChange s = .next u ∧ DevOnly s u ∧ u.dev.dsp.reef = n ∧ u.dev.dsp.reefSince = s.st.toNat
      ∧ u.dev.dsp.items = s.dev.dsp.items ∧ bit (u.dev.reg Off.dspEvt) 0 = true
    let stays := ∃ u, exec .reefLevelChange s = .next u ∧ DevOnly s u ∧ u.dev.dsp.reef = s.dev.dsp.reef ∧ u.dev.dsp.items = s.dev.dsp.items ∧ u.dev.regs = s.dev.regs
    let counted := fun (off : Nat) => ∃ u, exec .reefLevelChange s = .next u ∧ (u.dev.reg off).toNat = min 0xFFFFFFFF ((s.dev.reg off).toNat + 1)
    let th := fld (s.dev.effReg Off.dspReefCtrl) 15 0
    let b := s.dev.backlog
    (s.st.toNat % 1000 ≠ 0 → exec .reefLevelChange s = .next s) ∧
    (s.st.toNat % 1000 = 0 → s.dev.dsp.reef ≠ 3 → 32768 ≤ s.dev.outstanding → moved 3 ∧ counted Off.dspReefL3Cnt) ∧
    (s.st.toNat % 1000 = 0 → s.dev.outstanding < 32768 →
      (∀ t, s.dev.dsp.reef = 0 → th < b → s.dev.dsp.upSince = some t → t + 100000 ≤ s.st.toNat → moved 1 ∧ counted Off.dspReefL1Cnt) ∧
      (s.dev.dsp.reef = 0 → b ≤ th → stays) ∧
      (∀ t, s.dev.dsp.reef = 1 → th < b → s.dev.dsp.upSince = some t → max t s.dev.dsp.reefSince + fld (s.dev.effReg Off.dspReefCtrl) 31 16 * 1000 ≤ s.st.toNat →
        moved 2 ∧ counted Off.dspReefL2Cnt) ∧
      (∀ t, s.dev.dsp.reef = 1 → b ≤ th → 8 * b ≤ 7 * th → s.dev.dsp.downSince = some t → t + 100000 ≤ s.st.toNat → moved 0) ∧
      (s.dev.dsp.reef = 1 → b ≤ th → 7 * th < 8 * b → stays) ∧
      (∀ t, s.dev.dsp.reef = 2 → 8 * b ≤ 7 * th → s.dev.dsp.downSince = some t → t + 100000 ≤ s.st.toNat → moved 1 ∧ counted Off.dspReefL1Cnt) ∧
      (s.dev.dsp.reef = 2 → 7 * th < 8 * b → stays) ∧
      (∀ t, s.dev.dsp.reef = 3 → s.dev.outstanding ≤ 30720 → s.dev.dsp.lowSince = some t → t + 100000 ≤ s.st.toNat → moved 2 ∧ counted Off.dspReefL2Cnt) ∧
      (s.dev.dsp.reef = 3 → 30720 < s.dev.outstanding → stays))

/-- R98, R153, R157, R161, R162, R557. Where the staged input lies is a free choice (log entry 90). -/
def Obligations.ItemStarts : Prop :=
  ∀ s : State,
    (∀ i g, s.dev.warning = false → s.dev.locked = false → s.dev.roleActs = true → s.dev.past 8 = true → s.dev.pwr.halted = false →
      s.dev.firstByKey (s.dev.heads.filter (fun i => (s.dev.chooseGrove i).isSome || (s.dev.spillPeer i).isSome)) = some i → s.dev.spillPeer i = none →
      s.dev.chooseGrove i = some g →
      ∃ u, exec .itemPlacement s = .next u ∧ DevOnly s u ∧ u.dev.dsp.rr = g
        ∧ (∀ j ∈ u.dev.dsp.items, j.slot = i.slot → j.grove = g ∧ (j.ds = .placed ∨ j.ds = .finished)) ∧ u.dev = s.dev.placeOn s.ctx g i) ∧
    (∀ t bad tw i r, t < 96 → s.dev.lan.twins.find? (fun x => x.num == t) = some tw → tw.state = .inService → tw.running = none → tw.main.level = tw.check.level →
      tw.draining = false → s.dev.dispatchOn = true →
      s.dev.waitingRelease t = none → s.dev.nextFor t = some i → s.dev.item? i.slot = some i → s.dev.rec? i.slot = some r →
      (i.ds = .placed → i.started = true ∨ s.dev.expires i = false ∨ s.st.toNat ≤ i.deadline → i.pke = .none → (∀ k ∈ bad, i.keys.length ≤ k) →
        (s.dev.stageDenied s.ctx Mst.lane i = none →
          ∃ u j, exec (.twinDispatch t bad) s = .next u ∧ DevOnly s u ∧ (u.dev.twin t).running = some i.slot ∧ u.dev.item? i.slot = some j ∧ j.ds = .running
            ∧ j.twin = some t ∧ j.runSt = s.st.toNat ∧ j.started = true ∧ j.desc = i.desc
            ∧ (r.st = .accepted → u.dev.rec? i.slot = some { r with st := .inService })) ∧
        ((s.dev.stageDenied s.ctx Mst.lane i).isSome = true → i.spillFrom = none → s.dev.flowHeld i = false →
          ∃ u, exec (.twinDispatch t bad) s = .next u ∧ DevOnly s u ∧ u.dev.Ended i.slot 0x30 0x21)) ∧
      (i.ds = .suspended →
        ∃ u j, exec (.twinDispatch t bad) s = .next u ∧ DevOnly s u ∧ (u.dev.twin t).running = some i.slot ∧ u.dev.item? i.slot = some j ∧ j.ds = .running
          ∧ j.ctxSlot = none ∧ j.runSt = s.st.toNat ∧ j.doneNs = i.doneNs)) ∧
    (∀ t tw i k, s.dev.lan.twins.find? (fun x => x.num == t) = some tw → tw.running = some i.slot → s.dev.item? i.slot = some i → i.preempt = true → s.dev.warning = false →
      (List.range 8).find? (fun k => !(s.dev.ctxOn t).contains k) = some k →
      ∃ u, exec (.contextSaveDone t) s = .next u ∧ DevOnly s u ∧ (u.dev.twin t).running = none
        ∧ u.dev.item? i.slot = some { i with ds := .suspended, ctxSlot := some k, preempt := false, doneNs := i.doneNs + (s.st.toNat - i.runSt) } ∧ u.dev.jnl = s.dev.jnl)

/-- R163 to R167, R170, R171, R180, R182, R247. -/
def Obligations.DispatchTimers : Prop :=
  ∀ s : State,
    let fires := fun (use : DelayUse) (n : Nat) => (∃ e, s.dev.nextDue s.ctx = some e ∧ e.use = use ∧ e.n = n) ∧ s.dev.fireRoom s.ctx = true
    (∀ slot i, s.dev.item? slot = some i → i.ds = .held ∨ i.ds = .pending ∨ i.ds = .placed → i.started = false → i.mark = none → s.dev.expires i = true →
      s.dev.acked slot = true →
      (fires .expiry slot → i.spillFrom = none → (s.dev.rec? slot).isSome = true → s.dev.flowHeld i = false →
        ∃ u, exec (.deadlineExpiry slot) s = .next u ∧ DevOnly s u ∧ u.dev.Ended slot 1 (if i.pastAt then 3 else 2)) ∧
      (fires .expiry slot → s.dev.flowHeld i = true →
        ∃ u, exec (.deadlineExpiry slot) s = .next u ∧ DevOnly s u ∧ u.dev.item? slot = some { i with mark := some (1, if i.pastAt then 3 else 2) } ∧ u.dev.jnl = s.dev.jnl) ∧
      (¬fires .expiry slot → exec (.deadlineExpiry slot) s = .next s)) ∧
    (∀ slot i t, s.dev.item? slot = some i → i.notBefore = some t →
      (fires .backoff slot →
        ∃ u j, exec (.restartBackoffExpiry slot) s = .next u ∧ DevOnly s u ∧ u.dev.item? slot = some j ∧ j.notBefore = none ∧ j.ds = i.ds ∧ j.desc = i.desc ∧ u.dev.jnl = s.dev.jnl
          ∧ u.dev.dsp.deferred = s.dev.dsp.deferred + (if t + 999 < s.st.toNat / 1000 * 1000 then 1 else 0)) ∧
      (¬fires .backoff slot → exec (.restartBackoffExpiry slot) s = .next s) ∧
      (s.dev.dsp.fireTick = s.st.toNat / 1000 → 1024 ≤ s.dev.dsp.fireCount → exec (.restartBackoffExpiry slot) s = .next s)) ∧
    (s.dev.mgmtUp = true → s.dev.endpointUp = true →
      (∀ f, s.dev.dsp.fwTimers.find? (fun f => f.cls == 0) = some f → fires .firmware 0 →
        ∃ u, exec (.firmwareTimer 0) s = .next u ∧ DevOnly s u ∧ u.dev.dsp.items = s.dev.dsp.items
          ∧ (∃ g ∈ u.dev.dsp.fw, g.id = s.dev.dsp.fwNext ∧ g.cls = 0 ∧ g.deadline = s.st.toNat + 100000 ∧ g.missed = false)
          ∧ (∃ g ∈ u.dev.dsp.fwTimers, g.cls = 0 ∧ g.due = (s.st.toNat / 100000 + 1) * 100000)) ∧
      (∀ task, 1 ≤ task → task < 5 → s.dev.dsp.fwTimers.find? (fun f => f.cls == task) = none →
        ∃ u, exec (.firmwareTimer task) s = .next u ∧ DevOnly s u ∧ u.dev.dsp.items = s.dev.dsp.items
          ∧ ∃ g ∈ u.dev.dsp.fw, g.id = s.dev.dsp.fwNext ∧ g.cls = task ∧ g.deadline = s.st.toNat + fwDeadline task ∧ g.missed = false)) ∧
    (∀ task f, (s.dev.fwAdvance s.ctx).dsp.fw.find? (fun f => f.id == task) = some f → s.dev.mgmtUp = true → f.deadline < s.st.toNat →
      (f.missed = false →
        ∃ u, exec (.fwTaskDeadlineMiss task) s = .next u ∧ DevOnly s u ∧ u.dev.dsp.fw.find? (fun f => f.id == task) = some { f with missed := true }
          ∧ (u.dev.reg Off.dspFwMiss).toNat = min 0xFFFFFFFF ((s.dev.reg Off.dspFwMiss).toNat + 1) ∧ bit (u.dev.reg Off.dspEvt) 6 = true) ∧
      (f.missed = true → exec (.fwTaskDeadlineMiss task) s = .next { s with dev := s.dev.fwAdvance s.ctx })) ∧
    (HostMay s true Off.dspSliceHistCtrl →
      (∃ u, exec .sliceHistClear s = .next u ∧ DevOnly s u ∧ (u.dev.sliceCnt (fld (s.dev.reg Off.dspSliceSel) 11 0)).hist = [] ∧ u.dev.regs = s.dev.regs) ∧
      (∃ u, exec .sliceHistClearAll s = .next u ∧ DevOnly s u ∧ (∀ n, (u.dev.sliceCnt n).hist = []) ∧ u.dev.regs = s.dev.regs)) ∧
    (HostMay s false Off.dspSliceHist →
      ∃ u, exec .sliceHistRead s = .next u ∧ DevOnly s u ∧ u.dev.rdata = BitVec.ofNat 64 ((s.dev.sliceCnt (fld (s.dev.reg Off.dspSliceSel) 11 0)).hist.getD 0 0)
        ∧ (∀ k < 16, u.dev.dsp.histLatch.getD k 0 = (s.dev.sliceCnt (fld (s.dev.reg Off.dspSliceSel) 11 0)).hist.getD k 0) ∧ u.dev.regs = s.dev.regs)

/-- R191, R223, R242 to R248, R253, R282, R310, R339. The order in which the comparator finds differences is the model's choice
(log entry 82). -/
def Obligations.ReleaseCompare : Prop :=
  ∀ (s : State) (t : Nat) (tw : Twin) (i : Item), s.dev.lan.twins.find? (fun x => x.num == t) = some tw → tw.running = some i.slot → s.dev.item? i.slot = some i →
    s.dev.warning = false →
    let mismatched := fun (o : Host.Outcome State Fault Refusal) (k : MmKind) =>
      ∃ u j, o = .next u ∧ DevOnly s u ∧ (u.dev.twin t).state = .clearing ∧ (u.dev.twin t).running = none
        ∧ (u.dev.twin t).mm = tw.mm + 1 ∧ u.dev.lan.lastMm = packW [(0, t), (8, mmCode k), (16, i.cls % 256), (24, 1)] ∧ u.dev.lan.lastMmSt = s.dev.stamp s.ctx
        ∧ u.dev.item? i.slot = some j ∧ j.ds = .placed ∧ j.twin = none ∧ j.restarts = 1 ∧ j.notBefore = some (s.st.toNat + 2000) ∧ t ∈ j.mmTwins
        ∧ bit (u.dev.reg Off.lanEvt) 0 = true ∧ bit (u.dev.reg Off.lanEvt) 1 = true
    let first := tw.state = .inService ∧ i.ds = .running ∧ i.restarts = 0 ∧ s.dev.onTwin t = [i.slot] ∧ (s.dev.grove (t / 8)).mmSts = [] ∧ s.dev.lan.devMm = []
    (∀ pe qe refused, i.preempt = true → exec (.releaseCompare t pe qe refused) s = .next s) ∧
    (∀ pe qe, i.preempt = false →
      let r := s.dev.laneRes i false tw.main
      let r' := s.dev.laneRes i true tw.check
      let p := present false tw.main.level i.desc r pe
      let found := compareKind p (present true tw.check.level i.desc r' qe)
      let sound := f1Fails i false tw.main = false ∧ f1Fails i true tw.check = false
      let data := fun (e : LaneEnd) (x : VRes) => (flipBits e.out x.out, flipBits e.sap (x.sap.elim [] (fun s => s.2)))
      let stat := fun (e : LaneEnd) (x : VRes) => flipBits e.stat (toLe 4 x.out.length ++ [BitVec.ofNat 8 x.st, BitVec.ofNat 8 x.sub])
      let sig := fun (e : LaneEnd) (l : Lane) => flipBits e.sig (toLe 8 (Config.seqSig l.level i.desc).toNat)
      (found = if data pe r ≠ data qe r' then some .data else if stat pe r ≠ stat qe r' then some .status else if sig pe tw.main ≠ sig qe tw.check then some .signature
        else if pe.clk + 64 < qe.clk ∨ qe.clk + 64 < pe.clk then some .skew else none) ∧
      (sound → found = none → s.dev.saplingWaits i = false → i.spillFrom = none → (s.dev.rec? i.slot).isSome = true →
        (byteAt p.stat 4 ≠ 0 → ∀ refused,
          ∃ u, exec (.releaseCompare t pe qe refused) s = .next u ∧ DevOnly s u ∧ u.dev.Ended i.slot (byteAt p.stat 4) (byteAt p.stat 5)
            ∧ u.dev = (s.dev.noteRelease s.ctx i).toOwed s.ctx i.slot (byteAt p.stat 4) (byteAt p.stat 5) 0) ∧
        (byteAt p.stat 4 = 0 → r.sap = none → p.out ≠ [] →
          (∃ u, exec (.releaseCompare t pe qe false) s = .next u ∧ DevOnly s u ∧ u.dev.Ended i.slot 0 0
            ∧ u.dev = ((s.dev.noteRelease s.ctx i).emit (.output (s.dev.tagOf i.slice) i.seq (BitVec.ofNat 64 (Desc.outPtr i.desc)) (Desc.outputSgl i.desc) p.out)).toOwed
                        s.ctx i.slot 0 0 p.out.length) ∧
          (∃ u, exec (.releaseCompare t pe qe true) s = .next u ∧ DevOnly s u ∧ u.dev.Ended i.slot 0x30 2
            ∧ u.dev = (s.dev.noteRelease s.ctx i).toOwed s.ctx i.slot 0x30 2 0)) ∧
        (∀ a tt, byteAt p.stat 4 = 0 → r.sap.map (fun x => x.1) = some a → Desc.target? i.desc = some tt →
          ∃ u h, exec (.releaseCompare t pe qe false) s = .next u ∧ DevOnly s u ∧ u.dev.Ended i.slot 0 0
            ∧ (u.dev.key.slot? tt.1 tt.2).bind (fun (x : Slot) => x.sap) = some h ∧ h.mat = p.sap ∧ h.attr = { a with gen := saplingGen (s.dev.key.slot? tt.1 tt.2) })) ∧
      (∀ k refused, sound → found = some k → first → i.pke = .none → mismatched (exec (.releaseCompare t pe qe refused) s) k) ∧
      (∀ e refused, ¬sound → first → s.dev.pke.engines.find? (fun x => x.num == t / 8) = some e →
        mismatched (exec (.releaseCompare t pe qe refused) s) .data ∧
        ∃ u, exec (.releaseCompare t pe qe refused) s = .next u ∧ (u.dev.engine (t / 8)).state = .clearing
          ∧ u.dev.pke.lastFault = packW [(0, t / 8 % 16), (8, 1), (16, i.algId), (24, 1)] ∧ bit (u.dev.reg Off.pkeEvt) 0 = true)) ∧
    (first → i.pke = .none → i.runSt + 2 * atOp (s.dev.groveOp i.grove) i.laneCost + 10000 < s.st.toNat → mismatched (exec (.skewTimeout t) s) .skew) ∧
    (s.st.toNat ≤ i.runSt + 2 * atOp (s.dev.groveOp i.grove) i.laneCost + 10000 → exec (.skewTimeout t) s = .next s)

/-- R45, R52, R87, R237, R240, R241, R251, R267. -/
def Obligations.MasksAndStaging : Prop :=
  ∀ s : State,
    (∀ g x, g < 12 → s.dev.lan.groves.find? (fun x => x.num == g) = some x → x.state ≠ .gated → x.mgen ≠ .failed → x.next = 0 → x.remain ≤ 2 ^ 18 → x.reserve ≤ 4096 →
      (s.dev.drbg g).serves = true →
      ∃ u, exec (.maskSeedArrival g) s = .next u ∧ DevOnly s u ∧ (u.dev.grove g).reserve = 4096 ∧ (u.dev.grove g).reseeds = x.reseeds + 1
        ∧ (u.dev.grove g).remain + (u.dev.grove g).next + 4096 = x.remain + x.reserve + 2 ^ 20 ∧ (u.dev.grove g).mgen = .running
        ∧ (if x.remain = 0 then (u.dev.grove g).cur.seed else (u.dev.grove g).nxt.seed) = (s.dev.request s.ctx g 48 []).1.bytes 48) ∧
    (∀ g x, g < 12 → s.dev.lan.groves.find? (fun x => x.num == g) = some x → x.state ≠ .gated → x.mgen = .running ∨ x.mgen = .reseedPending → x.next = 0 → x.remain = 0 →
      ∃ u, exec (.maskGenExhausted g) s = .next u ∧ DevOnly s u ∧ (u.dev.grove g).mgen = .exhausted ∧ (u.dev.grove g).mgenIn = false ∧ bit (u.dev.reg Off.lanEvt) 5 = true) ∧
    (∀ slot i rd, s.dev.item? slot = some i → i.staged = false → 256 < Desc.inLen i.desc → s.dev.dispatchOn = true → i.mark = none → i.spillFrom = none →
      i.ds = .placed ∨ (i.ds = .running ∧ i.spill.isSome = true) → s.dev.flowHeld i = false → (s.dev.rec? slot).isSome = true → s.dev.OwnItem slot →
      let asked := Tx.fetch (s.dev.tagOf i.slice) (BitVec.ofNat 64 (Desc.inPtr i.desc)) (Desc.inLen i.desc)
      (rd.refused = true → ∃ u, exec (.longInputFetch slot rd) s = .next u ∧ DevOnly s u ∧ u.dev = (s.dev.emit asked).finishNow s.ctx slot 0x30 1 ∧ u.dev.Ended slot 0x30 1) ∧
      (rd.refused = false → rd.failed = true ∨ rd.data.length < Desc.inLen i.desc →
        ∃ u, exec (.longInputFetch slot rd) s = .next u ∧ DevOnly s u ∧ u.dev = (s.dev.emit asked).finishNow s.ctx slot 0x10 2 ∧ u.dev.Ended slot 0x10 2) ∧
      (rd.refused = false → rd.failed = false → Desc.inLen i.desc ≤ rd.data.length → i.ds = .running →
        ∃ u j, exec (.longInputFetch slot rd) s = .next u ∧ DevOnly s u ∧ u.dev.item? slot = some j ∧ j.staged = true ∧ j.input = rd.data.take (Desc.inLen i.desc)
          ∧ asked ∈ u.dev.tx ∧ u.dev.regs = s.dev.regs) ∧
      (rd.refused = false → rd.failed = false → Desc.inLen i.desc ≤ rd.data.length → i.ds = .placed → i.keysOk = true → Desc.usesEngine i.desc = false →
        ∃ u, exec (.longInputFetch slot rd) s = .next u ∧ DevOnly s u
          ∧ u.dev = (((s.dev.emit asked).updItem slot (fun x => { x with staged := true, input := rd.data.take (Desc.inLen i.desc) })).pumpKeys s.ctx i.grove).tryPreempt s.ctx i.grove)) ∧
    (∀ slot i, s.dev.item? slot = some i → i.staged = true → i.readback = false → i.spill = none → i.ds = .placed ∨ i.ds = .running ∨ i.ds = .suspended →
      (i.eccOnce = false →
        ∃ u j, exec (.stagingEccError slot) s = .next u ∧ DevOnly s u ∧ u.dev.item? slot = some j ∧ j.ds = .placed ∧ j.eccOnce = true ∧ j.restarts = i.restarts
          ∧ j.twin = none ∧ (256 < Desc.inLen i.desc → i.spillFrom = none → j.staged = false)) ∧
      (i.eccOnce = true → s.dev.flowHeld i = false → (s.dev.rec? slot).isSome = true → s.dev.OwnItem slot →
        ∃ u, exec (.stagingEccError slot) s = .next u ∧ DevOnly s u ∧ u.dev.Ended slot 0x40 2))

/-- R253 to R258, R283, R311, R313 to R315, R318. That a HELD unit stays as it is at CLEAR is the model's choice (log entry 43). -/
def Obligations.ClearingRows : Prop :=
  ∀ s : State,
    let held := bit (s.dev.reg Off.lanClearCtrl) 0
    let after := fun (ok : Bool) => if ok then (if held then UnitState.held else .clearing) else .failed
    (∀ t tw (tests : ClearTests) us, t < 96 → s.dev.lan.twins.find? (fun x => x.num == t) = some tw → tw.state = .clearing → tw.passed = false → (s.dev.grove (t / 8)).state ≠ .clearing →
      s.dev.groveOn (t / 8) = true → s.dev.domWaking (2 * t) = false → s.dev.domWaking (2 * t + 1) = false →
      ∃ u, exec (.clearingTestsDone (.twin t) tests.toTwinTests tests.toGroveTests tests.toEngineTests us) s = .next u ∧ DevOnly s u ∧ (u.dev.twin t).testUs = us ∧ (u.dev.twin t).state = after (testsTwin tests t)
        ∧ (u.dev.twin t).passed = (testsTwin tests t && !held) ∧ (testsTwin tests t = false → bit (u.dev.reg Off.lanEvt) 3 = true)) ∧
    (∀ g e (tests : ClearTests) us, g < 12 → s.dev.pke.engines.find? (fun x => x.num == g) = some e → e.state = .clearing → e.passed = false → (s.dev.grove g).state ≠ .clearing →
      s.dev.groveOn g = true → s.dev.domWaking (192 + g) = false →
      let ok := tests.engAlg && tests.engCheck && tests.engRead
      ∃ u, exec (.clearingTestsDone (.engine g) tests.toTwinTests tests.toGroveTests tests.toEngineTests us) s = .next u ∧ DevOnly s u ∧ (u.dev.engine g).testUs = us ∧ (u.dev.engine g).state = after ok
        ∧ (u.dev.engine g).passed = (ok && !held) ∧ (u.dev.engine g).zeroFail = (e.zeroFail && !ok) ∧ (ok = false → bit (u.dev.reg Off.pkeEvt) 3 = true)) ∧
    (∀ g x (tests : ClearTests) us, g < 12 → s.dev.lan.groves.find? (fun x => x.num == g) = some x → x.state = .clearing → x.passed = false → x.testsHeld = false → s.dev.groveOn g = true →
      let eng := (s.dev.engine g).state = .clearing ∧ (s.dev.engine g).passed = false
      let ok := tests.mgen = true ∧ tests.cache = true ∧ tests.sram = true ∧ (∃ t ∈ twinsOf g, testsTwin tests t = true) ∧ (eng → testsEngine tests = true) ∧ x.byThresh = false
      ∃ u, exec (.clearingTestsDone (.grove g) tests.toTwinTests tests.toGroveTests tests.toEngineTests us) s = .next u ∧ DevOnly s u
        ∧ (ok → (u.dev.grove g).state = after true ∧ (u.dev.grove g).passed = !held) ∧ (¬ok → (u.dev.grove g).state = .failed ∧ (u.dev.grove g).passed = false ∧ bit (u.dev.reg Off.lanEvt) 3 = true)
        ∧ (tests.mgen = false → (u.dev.grove g).mgen = .failed)
        ∧ (∀ t ∈ twinsOf g, ∀ tw, s.dev.lan.twins.find? (fun y => y.num == t) = some tw → tw.state = .clearing → tw.passed = false → (u.dev.twin t).state = after (testsTwin tests t))) ∧
    (HostMay s true Off.lanClearCmd → s.dev.lan.cmdBusy = none →
      (∀ t tw, t < 96 → s.dev.lan.twins.find? (fun x => x.num == t) = some tw →
        (tw.state = .inService →
          ∃ u, exec (.twinClear t) s = .next u ∧ DevOnly s u ∧ u.dev.twin t = { tw with draining := true } ∧ u.dev.lan.cmdBusy = some (.twin t) ∧ u.dev.regs = s.dev.regs) ∧
        (tw.state = .failed →
          ∃ u, exec (.twinClear t) s = .next u ∧ DevOnly s u ∧ (u.dev.twin t).state = .clearing ∧ (u.dev.twin t).passed = false ∧ u.dev.lan.cmdResult = 0 ∧ u.dev.lan.cmdBusy = none
            ∧ bit (u.dev.reg Off.lanEvt) 7 = true) ∧
        (tw.state = .clearing ∨ tw.state = .gated →
          ∃ u, exec (.twinClear t) s = .next u ∧ DevOnly s u ∧ u.dev.lan = { s.dev.lan with cmdResult := 1 } ∧ bit (u.dev.reg Off.lanEvt) 7 = true) ∧
        (tw.state = .held → ∃ u, exec (.twinClear t) s = .next u ∧ DevOnly s u ∧ u.dev.lan = { s.dev.lan with cmdResult := 0 } ∧ bit (u.dev.reg Off.lanEvt) 7 = true)) ∧
      (∀ t, 96 ≤ t → t < 128 → ∃ u, exec (.twinClear t) s = .next u ∧ DevOnly s u ∧ u.dev.lan = { s.dev.lan with cmdResult := 2 } ∧ bit (u.dev.reg Off.lanEvt) 7 = true) ∧
      (∀ g, g < 12 → (s.dev.grove g).state = .inService →
        (s.dev.lan.groves.any (fun x => x.num != g && x.state == .inService) = false →
          ∃ u, exec (.groveClear g) s = .next u ∧ DevOnly s u ∧ u.dev.lan = { s.dev.lan with cmdResult := 3 } ∧ bit (u.dev.reg Off.lanEvt) 7 = true) ∧
        (s.dev.lan.groves.any (fun x => x.num != g && x.state == .inService) = true → s.dev.groveItems g .placed = [] →
          ∃ u, exec (.groveClear g) s = .next u ∧ DevOnly s u ∧ u.dev.grove g = { s.dev.grove g with draining := true } ∧ u.dev.lan.cmdBusy = some (.grove g) ∧ u.dev.regs = s.dev.regs))) ∧
    (∀ t tw, s.dev.lan.cmdBusy = some (.twin t) → s.dev.lan.twins.find? (fun x => x.num == t) = some tw → tw.state = .inService → s.dev.onTwin t = [] →
      s.dev.lan.groves.all (fun g => !g.draining) = true → s.dev.pke.clearBusy = none →
      ∃ u, exec .clearDrainDone s = .next u ∧ DevOnly s u ∧ (u.dev.twin t).state = .clearing ∧ u.dev.lan.cmdBusy = none ∧ u.dev.lan.cmdResult = 0
        ∧ bit (u.dev.reg Off.lanEvt) 7 = true ∧ bit (u.dev.reg Off.lanEvt) 1 = true) ∧
    (∀ v, HostMay s true Off.lanClearCtrl → exec (.readmitHoldWrite v) s = .next { s with dev := s.dev.setReg Off.lanClearCtrl (v &&& 1#32) }) ∧
    (∀ v g, HostMay s true Off.pkeClearCmd → s.dev.pke.clearBusy = none → fld v 13 12 = 1 → fld v 3 0 = g → g < 12 →
      ((s.dev.engine g).state = .clearing →
        ∃ u, exec (.pkeClear v) s = .next u ∧ DevOnly s u ∧ u.dev.pke = { s.dev.pke with clearResult := 1 } ∧ bit (u.dev.reg Off.pkeEvt) 6 = true) ∧
      ((s.dev.engine g).state = .inService →
        ∃ u, exec (.pkeClear v) s = .next u ∧ DevOnly s u ∧ u.dev.pke.clearBusy = some g ∧ (u.dev.engine g).draining = true ∧ u.dev.regs = s.dev.regs)) ∧
    (∀ v, HostMay s true Off.pkeAbortCmd → bit v 0 = true → s.dev.pke.abort = none →
      let ends := fun (r : Nat) => ∃ u, exec (.pkeAbort v) s = .next u ∧ DevOnly s u ∧ u.dev.pke = { s.dev.pke with abortResult := r } ∧ bit (u.dev.reg Off.pkeEvt) 4 = true
      (s.dev.abortItem = none → ends 1) ∧
      (∀ i, s.dev.abortItem = some i →
        ((s.dev.warning = true ∨ s.dev.locked = true) → Desc.usesEngine i.desc = true → ends 4) ∧
        (s.dev.warning = false → s.dev.locked = false →
          (i.ds = .finished → ends 1) ∧ (i.ds ≠ .finished → i.pke = .none → ends 2) ∧ (i.ds ≠ .finished → i.pke = .between ∨ i.pke = .release → ends 3) ∧
          (∀ e, i.ds ≠ .finished → i.pke = .engine → s.dev.pke.engines.find? (fun x => x.num == i.grove) = some e →
            ∃ u, exec (.pkeAbort v) s = .next u ∧ DevOnly s u ∧ u.dev.pke.abort = some (i.slot, i.grove) ∧ u.dev.pke.abortSt = s.st.toNat
              ∧ u.dev.engine i.grove = { e with ram := [], readback := true, after := e.item } ∧ u.dev.regs = s.dev.regs))))

/-- R98, R227, R284, R285, R288, R290, R300, R307, R310, R313, R314, R318, R557. -/
def Obligations.EnginePhases : Prop :=
  ∀ s : State,
    (∀ g e i r, g < 12 → s.dev.pke.engines.find? (fun x => x.num == g) = some e → e.state = .inService → e.item = none → e.readback = false → e.draining = false →
      (s.dev.grove g).state = .inService → (s.dev.grove g).draining = false → s.dev.dispatchOn = true →
      s.dev.firstByKey (s.dev.dsp.items.filter (s.dev.engineReady g)) = some i → s.dev.item? i.slot = some i → s.dev.rec? i.slot = some r →
      i.started = true ∨ s.dev.expires i = false ∨ s.st.toNat ≤ i.deadline →
      (s.dev.stageDenied s.ctx Mst.pke i = none →
        ∃ u j, exec (.pkeDispatch g) s = .next u ∧ DevOnly s u ∧ (u.dev.engine g).item = some i.slot ∧ (u.dev.engine g).ram = engineRam i
          ∧ u.dev.item? i.slot = some j ∧ j.ds = .running ∧ j.pke = .engine ∧ j.started = true ∧ j.engineSt = s.st.toNat ∧ j.desc = i.desc
          ∧ (r.st = .accepted → u.dev.rec? i.slot = some { r with st := .inService })) ∧
      ((s.dev.stageDenied s.ctx Mst.pke i).isSome = true → s.dev.OwnItem i.slot → s.dev.flowHeld i = false →
        ∃ u, exec (.pkeDispatch g) s = .next u ∧ DevOnly s u ∧ u.dev.Ended i.slot 0x30 0x21)) ∧
    (∀ g e slot i altered, s.dev.pke.engines.find? (fun x => x.num == g) = some e → e.item = some slot → s.dev.item? slot = some i → i.pke = .engine → i.readback = false →
      s.dev.OwnItem slot → (s.dev.rec? slot).isSome = true →
      let ends := fun (res : PhaseResult) (st sub : Nat) => ∃ u, exec (.enginePhaseDone g res altered true) s = .next u ∧ DevOnly s u ∧ u.dev.Ended slot st sub
        ∧ (u.dev.engine g).ram = [] ∧ (u.dev.engine g).readback = false
      (∀ sub res, res ≠ .iterationLimit → pkeValidate i.desc (verbData i.desc i.input) i.keys = some sub → ends res 0x12 sub) ∧
      (limited i.desc = false → exec (.enginePhaseDone g .iterationLimit altered true) s = .next s) ∧
      (pkeValidate i.desc (verbData i.desc i.input) i.keys = none →
        (∃ u, exec (.enginePhaseDone g .ok altered true) s = .next u ∧ DevOnly s u ∧ u.dev.engine g = { e with item := none, ram := [], readback := false, after := none }
          ∧ u.dev.item? slot = some (handOver altered i) ∧ (handOver altered i).pke = .between ∧ u.dev.regs = s.dev.regs) ∧
        (limited i.desc = true → ends .iterationLimit 0x03 0x02) ∧
        (Desc.op i.desc = 0x0411 → ends .zeroOrInfinite 0x12 1) ∧
        (e.state = .inService → i.restarts = 0 → (s.dev.grove g).mmSts = [] → s.dev.lan.devMm = [] → ∀ res kind, (res, kind) = (.faultE3, 0) ∨ ((res, kind) = (.zeroOrInfinite, 2) ∧ Desc.op i.desc ≠ 0x0411) →
          ∃ u j, exec (.enginePhaseDone g res altered true) s = .next u ∧ DevOnly s u ∧ (u.dev.engine g).state = .clearing ∧ (u.dev.engine g).item = none ∧ (u.dev.engine g).ram = []
            ∧ u.dev.pke.lastFault = packW [(0, g % 16), (8, kind), (16, i.algId), (24, 1)] ∧ bit (u.dev.reg Off.pkeEvt) 0 = true
            ∧ u.dev.item? slot = some j ∧ (j.ds = .placed ∨ j.ds = .pending) ∧ j.pke = .none ∧ j.restarts = 1 ∧ j.notBefore = some (s.st.toNat + 2000))) ∧
      (e.state = .inService → pkeValidate i.desc (verbData i.desc i.input) i.keys = none →
        ∃ u, exec (.enginePhaseDone g .ok altered false) s = .next u ∧ DevOnly s u ∧ (u.dev.engine g).state = .gated ∧ (u.dev.engine g).zeroFail = true
          ∧ u.dev.pke.lastFault = packW [(0, g % 16), (8, 3), (16, i.algId), (24, 1)] ∧ bit (u.dev.reg Off.pkeEvt) 3 = true ∧ bit (u.dev.reg Off.pkeEvt) 5 = true)) ∧
    (∀ slot g e i, s.dev.pke.abort = some (slot, g) → s.dev.pke.engines.find? (fun x => x.num == g) = some e → e.readback = true → s.dev.item? slot = some i → i.readback = true →
      s.dev.OwnItem slot → (s.dev.rec? slot).isSome = true →
      ∃ u, exec (.abortReadbackDone g true) s = .next u ∧ DevOnly s u ∧ u.dev.pke.abort = none ∧ u.dev.pke.abortResult = 0 ∧ u.dev.pke.abortEng = g
        ∧ u.dev.Ended slot 0x03 0x01 ∧ (u.dev.engine g).ram = [] ∧ (u.dev.engine g).readback = false ∧ bit (u.dev.reg Off.pkeEvt) 4 = true) ∧
    (∀ g e, (∀ slot, s.dev.pke.abort ≠ some (slot, g)) → s.dev.pke.engines.find? (fun x => x.num == g) = some e → e.readback = true →
      ∃ u, exec (.abortReadbackDone g true) s = .next u ∧ DevOnly s u ∧ u.dev.engine g = { e with ram := [], readback := false, after := none } ∧ u.dev.regs = s.dev.regs) ∧
    (∀ g e, s.dev.pke.engines.find? (fun x => x.num == g) = some e → e.readback = true →
      (∃ u, exec (.abortReadbackDone g false) s = .next u ∧ DevOnly s u ∧ (u.dev.engine g).state = .gated ∧ (u.dev.engine g).zeroFail = true
        ∧ u.dev.pke.lastFault = packW [(0, g % 16), (8, 3), (16, (e.after.bind s.dev.item?).elim 0 Item.algId), (24, 1)] ∧ bit (u.dev.reg Off.pkeEvt) 3 = true ∧ bit (u.dev.reg Off.pkeEvt) 5 = true
        ∧ ∀ slot, s.dev.pke.abort = some (slot, g) → u.dev.pke.abort = none ∧ u.dev.pke.abortResult = 0 ∧ u.dev.pke.abortEng = g ∧ bit (u.dev.reg Off.pkeEvt) 4 = true) ∧
      (∀ slot i, s.dev.pke.abort = some (slot, g) → s.dev.item? slot = some i → i.readback = true → i.ds = .running → (∀ j ∈ s.dev.dsp.items, j.grove = g → j = i) →
        s.dev.OwnItem slot → (s.dev.rec? slot).isSome = true → s.dev.tmp.classes.getD 0x12 0 ≤ 1 →
        ∃ u, exec (.abortReadbackDone g false) s = .next u ∧ DevOnly s u ∧ u.dev.Ended slot 0x03 0x01))

/-- R336, R342 to R346, R362, R363, R437. -/
def Obligations.SlotCommands : Prop :=
  ∀ s : State,
    let quiet := fun (u : State) => s.dev.fab.pair.role ≠ .active → u.dev.regs = s.dev.regs
    (∀ x, HostMay s true Off.keySlotCmd → s.dev.key.promote = none → s.dev.changing MirrorOf.isSlot = false → s.dev.locked = false → s.dev.cmdSlot = some x →
      (x.custOnly = false ∨ s.dev.domainCer x.dom = true) → s.dev.syncMirror = false →
      (∀ v, 3 ≤ fld v 11 8 → fld v 11 8 ≤ 8 → s.dev.warning = false → x.sap.isSome = true →
        exec (.slotPromote v) s = .next { s with dev := { s.dev with key := { s.dev.key with promote := some (x.dom, x.num, fld v 11 8) } } }) ∧
      (x.sap.isSome = true →
        ∃ u, exec .slotDiscard s = .next u ∧ DevOnly s u ∧ u.dev.key.slot? x.dom x.num = (if x.act.isSome then some { x with sap := none } else none) ∧ u.dev.key.slotResult = 0 ∧ quiet u) ∧
      (∃ u, exec .slotDelete s = .next u ∧ DevOnly s u ∧ u.dev.key.slot? x.dom x.num = none ∧ u.dev.key.slotResult = 0 ∧ quiet u) ∧
      (∀ h, x.sap = some h →
        ∃ u, exec .slotSetWindow s = .next u ∧ DevOnly s u ∧ u.dev.key.slotResult = 0 ∧ quiet u
          ∧ u.dev.key.slot? x.dom x.num = some { x with sap := some { h with attr := { h.attr with nb := s.dev.reg64 Off.keyWinNbLo, na := s.dev.reg64 Off.keyWinNaLo } } }) ∧
      (∀ half h, (if half then x.sap else x.act) = some h →
        ∃ u, exec (.slotInfo half) s = .next u ∧ DevOnly s u ∧ u.dev.key.slotResult = 0 ∧ u.dev.key.infoGen = BitVec.ofNat 32 h.attr.gen ∧ u.dev.key.slots = s.dev.key.slots) ∧
      (∀ half, (if half then x.sap else x.act) = none →
        exec (.slotInfo half) s = .next { s with dev := { s.dev with key := { s.dev.key with info := 0, infoGen := 0, slotResult := 0 } } }) ∧
      (x.sap = none → ∀ c ∈ [Instr.slotDiscard, .slotSetWindow],
        exec c s = .next { s with dev := { s.dev with key := { s.dev.key with slotResult := 1 } } })) ∧
    (HostMay s true Off.keySlotCmd → s.dev.key.promote.isSome = true → ∀ c ∈ [Instr.slotDiscard, .slotDelete, .slotSetWindow, .slotInfo true, .slotInfo false],
      exec c s = .next { s with dev := s.dev.ruleViolation s.ctx Off.keySlotCmd }) ∧
    (∀ dom num len x h, s.dev.key.promote = some (dom, num, len) → s.dev.key.slot? dom num = some x → x.sap = some h →
      (kcv 0 len h.attr.alg h.mat ≠ (toLe 8 (s.dev.reg64 Off.keyExpKcvLo)).take len → ∀ ok,
        exec (.promoteDone ok) s = .next { s with dev := { s.dev with key := { s.dev.key with promote := none, slotResult := 2 } } }) ∧
      (kcv 0 len h.attr.alg h.mat = (toLe 8 (s.dev.reg64 Off.keyExpKcvLo)).take len →
        (s.dev.pairTestWaits h = true → ∀ ok, exec (.promoteDone ok) s = .next s) ∧
        (s.dev.pairTestWaits h = false →
          (∃ u, exec (.promoteDone true) s = .next u ∧ DevOnly s u ∧ u.dev.key.slot? dom num = some { x with act := some h, sap := none } ∧ u.dev.key.promote = none
            ∧ u.dev.key.slotResult = 0 ∧ (s.dev.syncMirror = false → bit (u.dev.reg Off.keyEvt) 0 = true)) ∧
          (∃ u, exec (.promoteDone false) s = .next u ∧ DevOnly s u ∧ u.dev.key = { s.dev.key with promote := none, slotResult := 3 } ∧ bit (u.dev.reg Off.keyEvt) 3 = true))))

/-- R158, R324, R327 to R331, R336, R347, R348, R350, R351, R363. -/
def Obligations.DomainCommands : Prop :=
  ∀ s : State,
    let quiet := fun (u : State) => s.dev.fab.pair.role ≠ .active → u.dev.regs = s.dev.regs
    (∀ v, HostMay s true Off.keyFence → s.dev.key.fence = false →
      ∃ u, exec (.keyFenceStart v) s = .next u ∧ DevOnly s u ∧ u.dev.key.fence = true ∧ u.dev.key.waitUsers = bit v 2 ∧ (bit v 2 = false → u.dev.key.users = [])
        ∧ u.dev.key.slots = s.dev.key.slots ∧ u.dev.regs = s.dev.regs) ∧
    (s.dev.key.fence = true → s.dev.key.users = [] →
      ∃ u, exec .keyFenceDone s = .next u ∧ DevOnly s u ∧ u.dev.key.fence = false ∧ u.dev.key.cache = s.dev.key.cache.filter (fun e => !e.stale)
        ∧ bit (u.dev.reg Off.keyEvt) 1 = true) ∧
    (HostMay s true Off.keyDomCmd → s.dev.key.domErase = none → s.dev.changing (fun w => w == .domain) = false → s.dev.locked = false →
      (∀ m, s.dev.key.domains.find? (fun x => x.num == s.dev.selDom) = some m → m.prevValid = true → s.dev.isReplica m.num = false → s.dev.fab.repls = [] →
        ∃ u, exec .retirePrev s = .next u ∧ DevOnly s u ∧ u.dev.key.domain s.dev.selDom = { m with prevValid := false, retiring := true } ∧ u.dev.key.domResult = 0
          ∧ u.dev.key.slots = s.dev.key.slots ∧ quiet u) ∧
      ((s.dev.key.domain s.dev.selDom).prevValid = false →
        exec .retirePrev s = .next { s with dev := { s.dev with key := { s.dev.key with domResult := 1 } } })) ∧
    (∀ m, s.dev.key.domains = [m] → m.state = .rolling → s.dev.locked = false → s.dev.fab.repls = [] →
      ∃ u, exec .rollDone s = .next u ∧ DevOnly s u ∧ u.dev.key.slots = s.dev.key.slots ∧ bit (u.dev.reg Off.keyEvt) 2 = true
        ∧ u.dev.key.domains = [{ m with state := .active, prevGen := m.gen, prevDmk := m.dmk, prevValid := true, gen := m.newGen, dmk := m.newDmk, newGen := 0, newDmk := [] }]) ∧
    (HostMay s true Off.keyDomErase → s.dev.quorum Off.keyDomErase 1#32 = true → s.dev.key.domErase = none → s.dev.changing (fun w => w == .domain) = false → s.dev.locked = false →
      exec .domainErase s = .next { s with dev := { s.dev with key := { s.dev.key with domErase := some s.dev.selDom } } }) ∧
    (∀ dom, s.dev.key.domErase = some dom → s.dev.fab.repls = [] → s.dev.fab.replicas = [] →
      ∃ u, exec .domainEraseDone s = .next u ∧ DevOnly s u ∧ u.dev.key.slots = s.dev.key.slots.filter (fun x => x.dom != dom) ∧ (u.dev.key.domain dom).state = .empty
        ∧ (u.dev.key.domain dom).dmk = [] ∧ u.dev.key.domErase = none ∧ u.dev.key.domResult = 0 ∧ quiet u) ∧
    (∀ v, HostMay s true Off.keyDomQuota → s.dev.quorum Off.keyDomQuota v = true → s.dev.key.domains = [] →
      (fld v 15 0 ≤ 65533 → fld v 28 16 ≤ 4096 →
        ∃ u, exec (.quotaWrite v) s = .next u ∧ DevOnly s u ∧ (u.dev.key.domain s.dev.selDom).slotQuota = fld v 15 0 ∧ (u.dev.key.domain s.dev.selDom).extQuota = fld v 28 16 ∧ quiet u) ∧
      (65533 < fld v 15 0 → exec (.quotaWrite v) s = .next { s with dev := s.dev.ruleViolation s.ctx Off.keyDomQuota })) ∧
    (HostMay s true Off.keyStoreCmd → s.dev.quorum Off.keyStoreCmd 1#32 = true → s.dev.key.reinit = false → s.dev.mgmtDrbg = true →
      ∃ u, exec .storeReinit s = .next u ∧ DevOnly s u ∧ u.dev.key.reinit = true ∧ u.dev.key.bbkek = .valid ∧ u.dev.key.bbkekVal = (s.dev.request s.ctx 12 32 []).1.bytes 32
        ∧ u.dev.key.store = .uninit ∧ u.dev.key.slots = [] ∧ u.dev.key.domains = [] ∧ bit (u.dev.reg Off.keyEvt) 5 = true) ∧
    (s.dev.key.reinit = true →
      ∃ u, exec .reinitDone s = .next u ∧ DevOnly s u ∧ u.dev.key = { s.dev.key with reinit := false, storeResult := 0, check := some (s.otp.root, s.otp.dsk s.dev.key.bbkekVal), store := .ready }
        ∧ bit (u.dev.reg Off.keyEvt) 5 = true) ∧
    (∀ g slot l i, s.dev.key.loads.find? (fun l => l.grove == g && l.item == slot) = some l → s.dev.item? slot = some i → s.dev.locked = false →
      let found := s.dev.loadKey s.otp (if l.idx = 1 then Desc.key1 i.desc else Desc.key2 i.desc) (kbBytes i.desc i.input l.idx)
      (∀ st sub, found = .fail st sub → i.ds ≠ .finished → s.dev.flowHeld i = false → (s.dev.rec? slot).isSome = true → s.dev.OwnItem slot →
        let failed := ({ s.dev with key := { s.dev.key with loads := s.dev.key.loads.erase l } } : Dev).stepBFail s.ctx slot st sub
        ∃ u, exec (.keyLoadDone g slot) s = .next u ∧ DevOnly s u ∧ u.dev = (failed.pumpKeys s.ctx g).tryPreempt s.ctx g ∧ failed.Ended slot st sub) ∧
      (∀ r, found = .hit r → (∀ e ∈ s.dev.key.cache, e.serves g r = false) →
        let m := fun j => Config.rndByte s.dev.rng.ctr (0x30000 + j)
        let mine := s.dev.key.cache.filter (fun e => e.grove == g)
        (mine.length < 65536 →
          ∃ u, exec (.keyLoadDone g slot) s = .next u ∧ DevOnly s u
            ∧ u.dev = (((({ s.dev with key := { s.dev.key with cache := s.dev.key.cache ++ [r.entry g slot m], loads := s.dev.key.loads.erase l } } : Dev).draw).pumpKeys s.ctx g).tryPreempt s.ctx g)) ∧
        (65536 ≤ mine.length → (∀ e ∈ mine, e.pins ≠ []) → exec (.keyLoadDone g slot) s = .next s)))

/-- R365 to R369, R373 to R378, R385. How samples are packed is the model's choice (log entry 86). -/
def Obligations.EntropyStates : Prop :=
  ∀ s : State,
    let lost := fun (o : Host.Outcome State Fault Refusal) (cause : Nat) => ∃ u, o = .next u ∧ DevOnly s u ∧ u.dev.rng.state = .noRandomness ∧ u.dev.rng.cause = cause
      ∧ u.dev.rng.testsOk = false ∧ (u.dev.rng.drbgs.all (fun g => !g.serves)) = true ∧ bit (u.dev.reg Off.rngEvt) 2 = true
    (s.dev.rng.state = .startup → exec .oscSettled s = .next { s with dev := { s.dev with rng := { s.dev.rng with settled := true } } }) ∧
    (∀ samples, s.dev.rng.state = .startup → s.dev.rng.settled = true →
      (∀ x ∈ s.dev.rng.sources, x.starting = true → (samples.getD x.num []).length = 4096 ∧ x.clean (samples.getD x.num []) = true) →
      ∃ u, exec (.startupTestsPass samples) s = .next u ∧ DevOnly s u ∧ u.dev.rng.testsOk = true ∧ u.dev.rng.state = .startup
        ∧ u.dev.rng.sources = s.dev.rng.sources.map (fun (x : Source) => if x.starting then { x.feed (samples.getD x.num []) with state := .ok } else x)) ∧
    (∀ n k samples, s.dev.rng.sources.find? (fun x => x.num == n) = some k → k.state = .ok → samples.length = 1024 → k.clean samples = true → s.dev.rng.testsOk = true → s.dev.rng.state = .running →
      let b := hashOf 5 (packBits samples) 48
      (s.dev.blockFor = none → s.dev.rng.pool.length ≤ 16 →
        ∃ u, exec (.blockConditioned n samples) s = .next u ∧ DevOnly s u ∧ u.dev.source n = k.feed samples
          ∧ u.dev.rng.pool = (if s.dev.rng.pool.length = 16 then s.dev.rng.pool.drop 1 else s.dev.rng.pool) ++ [b] ∧ u.dev.rng.drbgs = s.dev.rng.drbgs ∧ u.dev.regs = s.dev.regs) ∧
      (∀ m g, m < 12 → s.dev.blockFor = some m → s.dev.rng.drbgs.find? (fun x => x.num == m) = some g →
        ∃ u, exec (.blockConditioned n samples) s = .next u ∧ DevOnly s u ∧ u.dev.source n = k.feed samples
          ∧ u.dev.drbg m = (if g.state = .uninst then g.instantiate s.st.toNat b else g.reseed s.st.toNat b)
          ∧ (u.dev.drbg m).state = .serving ∧ (u.dev.drbg m).reqs = 0 ∧ (u.dev.drbg m).seedSt = s.st.toNat ∧ u.dev.rng.pool = s.dev.rng.pool)) ∧
    (∀ n k h samples, n < 24 → s.dev.rng.sources.find? (fun x => x.num == n) = some k → k.state = .ok → k.reattach = false → k.failsBy h samples = true →
      (s.dev.rng.state = .running → s.dev.rng.lastFail = none →
        ∃ u, exec (.healthFailure n h samples) s = .next u ∧ DevOnly s u ∧ u.dev.rng.state = .retest ∧ u.dev.rng.retestSrc = n ∧ u.dev.rng.testsOk = false ∧ u.dev.rng.pool = []
          ∧ (u.dev.source n).state = .retest ∧ (u.dev.source n).fails = k.fails + 1 ∧ (u.dev.source n).lastFail = healthCode h ∧ (u.dev.rng.drbgs.all (fun g => !g.serves)) = true
          ∧ u.dev.rng.failSt = s.dev.stamp s.ctx ∧ bit (u.dev.reg Off.rngEvt) 0 = true) ∧
      (s.dev.rng.state = .retest → lost (exec (.healthFailure n h samples) s) 2)) ∧
    (∀ n k samples, s.dev.rng.state = .retest → s.dev.rng.retestSrc = n → s.dev.rng.sources.find? (fun x => x.num == n) = some k → k.state = .retest →
      samples.length = 4096 → k.clean samples = true →
      ∃ u, exec (.rerunPass n samples) s = .next u ∧ DevOnly s u ∧ u.dev.source n = { k.feed samples with state := .ok } ∧ u.dev.rng.testsOk = true ∧ u.dev.rng.state = .retest
        ∧ bit (u.dev.reg Off.rngEvt) 1 = true) ∧
    (s.dev.rng.state = .running ∨ s.dev.rng.state = .startup → lost (exec .katFailure s) 3) ∧
    (s.dev.rng.state = .startup → s.dev.rng.startSt + 200000000 ≤ s.st.toNat → lost (exec .startupTimeout s) 1)

/-- R371, R372, R375, R383, R385, R386. -/
def Obligations.EntropyCommands : Prop :=
  ∀ s : State,
    (∀ n g, n < 13 → s.dev.rng.drbgs.find? (fun x => x.num == n) = some g → g.serves = true → g.ageDue = false → s.dev.rng.pool = [] →
      (∃ e, s.dev.nextDue s.ctx = some e ∧ e.use = .reseed ∧ e.n = n) → s.dev.fireRoom s.ctx = true →
      ∃ u, exec (.drbgReseedTimer n) s = .next u ∧ DevOnly s u ∧ u.dev.drbg n = { g with ageDue := true } ∧ u.dev.regs = s.dev.regs) ∧
    (HostMay s true Off.rngCtrl → s.dev.rng.cmdBusy = false →
      (s.dev.rng.state ≠ .noRandomness →
        ∃ u, exec .rngRestart s = .next u ∧ DevOnly s u ∧ u.dev.rng = { s.dev.rng with cmdResult := 1 } ∧ bit (u.dev.reg Off.rngEvt) 5 = true) ∧
      (s.dev.rng.state = .noRandomness →
        ∃ u, exec .rngRestart s = .next u ∧ DevOnly s u ∧ u.dev.rng.state = .startup ∧ u.dev.rng.cmdBusy = true ∧ u.dev.rng.startSt = s.st.toNat ∧ u.dev.rng.pool = [])) ∧
    (∀ v, HostMay s true Off.rngRawCtrl →
      (s.otp.testsAllowed = false → exec (.rawModeEnable v) s = .next { s with dev := s.dev.ruleViolation s.ctx Off.rngRawCtrl }
        ∧ exec (.rawModeDisable v) s = .next { s with dev := s.dev.ruleViolation s.ctx Off.rngRawCtrl }) ∧
      (∀ k, s.otp.testsAllowed = true → fld v 4 0 ≤ 23 → bit (s.dev.reg Off.rngRawCtrl) 8 = false → s.dev.rng.sources.find? (fun x => x.num == fld v 4 0) = some k → k.state ≠ .off →
        ∃ u, exec (.rawModeEnable v) s = .next u ∧ DevOnly s u ∧ u.dev.rng.rawOn = true ∧ u.dev.rng.raw = [] ∧ u.dev.source (fld v 4 0) = { k with state := .raw, reattach := false }
          ∧ u.dev.reg Off.rngRawCtrl = (v ||| 0x100#32) &&& 0x11F#32) ∧
      (∀ k, s.otp.testsAllowed = true → fld v 4 0 ≤ 23 → bit (s.dev.reg Off.rngRawCtrl) 8 = true → s.dev.rng.sources.find? (fun x => x.num == fld (s.dev.reg Off.rngRawCtrl) 4 0) = some k → k.state = .raw →
        ∃ u, exec (.rawModeDisable v) s = .next u ∧ DevOnly s u ∧ u.dev.rng.rawOn = false ∧ u.dev.source (fld (s.dev.reg Off.rngRawCtrl) 4 0) = { k.anew with state := .startup, reattach := true })) ∧
    (∀ n k samples, s.dev.rng.sources.find? (fun x => x.num == n) = some k → k.reattach = true → samples.length = 4096 → k.clean samples = true →
      ∃ u, exec (.rawSourceReattach n samples) s = .next u ∧ DevOnly s u ∧ u.dev.source n = { k.feed samples with state := .ok, reattach := false } ∧ u.dev.regs = s.dev.regs) ∧
    (HostMay s false Off.rngRawData →
      (∀ samples, s.otp.testsAllowed = false → exec (.rawDataRead samples) s = .next { s with dev := { s.dev with rdata := 0 } }) ∧
      (∀ samples, s.otp.testsAllowed = true → s.dev.rng.rawOn = false →
        ∃ u, exec (.rawDataRead samples) s = .next u ∧ DevOnly s u ∧ u.dev.rdata = BitVec.ofNat 64 ((s.dev.rng.raw.take 32).foldr (fun b a => b2n b + 2 * a) 0)
          ∧ u.dev.rng.raw = s.dev.rng.raw.drop 32 ∧ u.dev.regs = s.dev.regs) ∧
      (∀ samples k, s.otp.testsAllowed = true → s.dev.rng.rawOn = true → s.dev.rng.sources.find? (fun x => x.num == fld (s.dev.reg Off.rngRawCtrl) 4 0) = some k → k.clean samples = true →
        s.dev.rng.raw.length + samples.length ≤ 4096 →
        ∃ u, exec (.rawDataRead samples) s = .next u ∧ DevOnly s u ∧ u.dev.rdata = BitVec.ofNat 64 (((s.dev.rng.raw ++ samples).take 32).foldr (fun b a => b2n b + 2 * a) 0)
          ∧ u.dev.rng.raw = (s.dev.rng.raw ++ samples).drop 32 ∧ u.dev.source k.num = k.feed samples ∧ u.dev.regs = s.dev.regs)) ∧
    (∀ v, HostMay s true Off.rngReseedCtrl →
      (16 ≤ fld v 4 0 → fld v 4 0 ≤ 20 → 1 ≤ fld v 31 16 → fld v 31 16 ≤ 60000 →
        ∃ u, exec (.reseedCtrlWrite v) s = .next u ∧ DevOnly s u ∧ u.dev.reg Off.rngReseedCtrl = v &&& 0xFFFF001F#32
          ∧ ((∃ g ∈ s.dev.rng.drbgs, g.serves = true ∧ 2 ^ fld v 4 0 ≤ g.reqs) → bit (u.dev.reg Off.rngEvt) 4 = true)
          ∧ u.dev.rng.drbgs = s.dev.rng.drbgs.map (fun (g : Drbg) => if g.serves && decide (2 ^ fld v 4 0 ≤ g.reqs) then { g with state := .starved } else g)) ∧
      (fld v 4 0 < 16 ∨ 20 < fld v 4 0 ∨ fld v 31 16 < 1 ∨ 60000 < fld v 31 16 → exec (.reseedCtrlWrite v) s = .next s))

/-- R107, R387, R388, R390 to R394, R407, R437. -/
def Obligations.SliceCommands : Prop :=
  ∀ s : State,
    let n := s.dev.migSlice
    let x := s.dev.slice n
    let ended := fun (o : Host.Outcome State Fault Refusal) (st : SliceState) (res : Nat) => ∃ u, o = .next u ∧ DevOnly s u ∧ (u.dev.slice n).state = st
      ∧ (u.dev.slice n).cmd = none ∧ (u.dev.slice n).result = res ∧ (res ≠ 0 ∨ s.dev.syncMirror = false → bit (u.dev.reg Off.hifSliceEvt) 0 = true)
    let begun := fun (o : Host.Outcome State Fault Refusal) (k : SliceCmd) (q : Bool) => ∃ u, o = .next u ∧ DevOnly s u ∧ (u.dev.slice n).state = .draining ∧ (u.dev.slice n).cmd = some k
      ∧ (u.dev.slice n).squash = q ∧ (∀ r, (u.dev.ring n r).fetched = []) ∧ (∀ r, (u.dev.ring n r).accepted = (s.dev.ring n r).accepted)
    (HostMay s true Off.hifSliceCmd → x.cmd = none → s.dev.changing (fun w => w == .slice n) = false →
      (x.state = .unbound → s.dev.pasidTaken n = false →
        ended (exec .sliceBind s) .bound 0 ∧ (match exec .sliceBind s with
          | .next u => (u.dev.slice n).pasid = s.dev.stagedPasid ∧ (u.dev.slice n).domain = s.dev.stagedDomain ∧ (u.dev.slice n).rings = fld (s.dev.reg Off.hifSliceRings) 15 0
          | _ => False)) ∧
      (x.state = .unbound → s.dev.pasidTaken n = true → ended (exec .sliceBind s) .unbound 3) ∧
      (x.state ≠ .unbound → ended (exec .sliceBind s) x.state 1) ∧
      (∀ q, x.state = .bound → begun (exec (.sliceFreeze q) s) .freeze q ∧ begun (exec (.sliceReset q) s) .reset q ∧ begun (exec (.sliceRemove q) s) .remove q) ∧
      (∀ q, x.state = .frozen → ended (exec (.sliceFreeze q) s) .frozen 1 ∧ begun (exec (.sliceReset q) s) .reset q ∧ begun (exec (.sliceRemove q) s) .remove q) ∧
      (∀ q, x.state = .saved → ended (exec (.sliceFreeze q) s) .saved 1 ∧ ended (exec (.sliceReset q) s) .saved 1 ∧ begun (exec (.sliceRemove q) s) .remove q) ∧
      (∀ q, x.state = .unbound → ended (exec (.sliceFreeze q) s) .unbound 1 ∧ ended (exec (.sliceReset q) s) .unbound 1 ∧ ended (exec (.sliceRemove q) s) .unbound 1) ∧
      (x.state = .frozen → ended (exec .sliceThaw s) .bound 0) ∧
      (x.state ≠ .frozen → ended (exec .sliceThaw s) x.state 1)) ∧
    (HostMay s true Off.hifSliceCmd → x.state = .draining → x.squash = false →
      let turned := fun (o : Host.Outcome State Fault Refusal) => ∃ u, o = .next u ∧ DevOnly s u ∧ u.dev.slice n = { x with squash := true } ∧ u.dev.hif.rings = s.dev.hif.rings
      (x.cmd = some .freeze → turned (exec (.sliceFreeze true) s)) ∧ (x.cmd = some .reset → turned (exec (.sliceReset true) s)) ∧ (x.cmd = some .remove → turned (exec (.sliceRemove true) s))) ∧
    (∀ k, let y := s.dev.slice k
      y.state = .draining → s.dev.warning = false → s.dev.drained k = true →
      (y.cmd = some .freeze → ∃ u, exec (.sliceDrainDone k) s = .next u ∧ DevOnly s u ∧ (u.dev.slice k).state = .frozen ∧ (u.dev.slice k).result = 0 ∧ u.dev.hif.rings = s.dev.hif.rings) ∧
      (y.cmd = some .reset → ∃ u, exec (.sliceDrainDone k) s = .next u ∧ DevOnly s u ∧ (u.dev.slice k).state = .bound ∧ (u.dev.slice k).result = 0
        ∧ ∀ r, (u.dev.ring k r).state = .absent ∧ (u.dev.ring k r).gen = (s.dev.ring k r).gen) ∧
      (y.cmd = some .remove → ∃ u, exec (.sliceDrainDone k) s = .next u ∧ DevOnly s u ∧ (u.dev.slice k).state = .retaining ∧ (u.dev.slice k).since = s.st.toNat
        ∧ ∀ r, (u.dev.ring k r).state = .absent ∧ (u.dev.ring k r).gen = (s.dev.ring k r).gen)) ∧
    (∀ k, (s.dev.slice k).state = .retaining →
      ((s.dev.slice k).since + s.dev.ddtRetain ≤ s.st.toNat →
        ∃ u, exec (.retainElapsed k) s = .next u ∧ DevOnly s u ∧ u.dev.slice k = { num := k, result := (s.dev.slice k).result } ∧ (s.dev.fab.pair.role ≠ .active → u.dev.regs = s.dev.regs)) ∧
      (s.st.toNat < (s.dev.slice k).since + s.dev.ddtRetain → exec (.retainElapsed k) s = .next s))

/-- R390, R396, R397, R399, R400, R402 to R404, R407. -/
def Obligations.SliceMigration : Prop :=
  ∀ s : State,
    let n := s.dev.migSlice
    let x := s.dev.slice n
    (HostMay s true Off.hifSliceCmd → x.cmd = none → s.dev.changing (fun w => w == .slice n) = false →
      (x.state = .unbound → s.dev.mgmtDrbg = true →
        let nonce := le ((s.dev.request s.ctx 12 8 []).1.bytes 8) 0 8
        ∃ u, exec .slicePrepare s = .next u ∧ DevOnly s u ∧ (u.dev.slice n).state = .prepared ∧ (u.dev.slice n).nonce = BitVec.ofNat 64 nonce ∧ (u.dev.slice n).nonceSt = s.st.toNat
          ∧ (u.dev.slice n).domain = s.dev.stagedDomain ∧ u.dev.reg64 Off.hifMigNonceLo = nonce ∧ (u.dev.slice n).result = 0) ∧
      (x.state = .unbound → s.dev.mgmtDrbg = false →
        ∃ u, exec .slicePrepare s = .next u ∧ DevOnly s u ∧ (u.dev.slice n).state = .unbound ∧ (u.dev.slice n).result = 12) ∧
      (∀ p, x.state ≠ .frozen → x.state ≠ .saved →
        ∃ u, exec (.sliceSave p) s = .next u ∧ DevOnly s u ∧ (u.dev.slice n).state = x.state ∧ (u.dev.slice n).result = 1 ∧ bit (u.dev.reg Off.hifSliceEvt) 0 = true) ∧
      (∀ p, x.state = .frozen → s.dev.saveBlocked n = false → s.dev.locked = false → fld (s.dev.reg Off.hifMigCtrl) 1 0 = 1 → s.dev.mgmtDrbg = true →
        let wanted := le ((List.range 4).flatMap (fun i => toLe 4 (s.dev.reg (Off.hifMigTargetUid + 4 * i)).toNat)) 0 16
        (p.reachable = true → p.certOk = true → s.dev.migPeer = some wanted →
          ∃ u, exec (.sliceSave p) s = .next u ∧ DevOnly s u ∧ (u.dev.slice n).state = .saving ∧ (u.dev.slice n).cmd = some .save ∧ (u.dev.slice n).prev = .frozen) ∧
        (∀ other, p.reachable = true → p.certOk = true → s.dev.migPeer = some other → other ≠ wanted →
          ∃ u, exec (.sliceSave p) s = .next u ∧ DevOnly s u ∧ (u.dev.slice n).state = .frozen ∧ (u.dev.slice n).result = 6) ∧
        (p.reachable = false ∨ s.dev.migPeer = none →
          ∃ u, exec (.sliceSave p) s = .next u ∧ DevOnly s u ∧ (u.dev.slice n).state = .frozen ∧ (u.dev.slice n).result = 5)) ∧
      (∀ data read, let im := dmaRead data read; (x.state = .prepared →
          ∃ u, exec (.sliceRestore data read) s = .next u ∧ DevOnly s u ∧ (u.dev.slice n).state = .restoring ∧ (u.dev.slice n).cmd = some .restore ∧ (u.dev.slice n).nonce = 0
            ∧ (u.dev.slice n).pendingResult = (s.dev.restoreFail s.ctx x im).getD 0
            ∧ (s.dev.restoreFail s.ctx x im = none → (u.dev.slice n).image = im.data.take 128 ++ (s.dev.openBody s.ctx x im.data).getD [])) ∧
        (x.state ≠ .prepared → ∃ u, exec (.sliceRestore data read) s = .next u ∧ DevOnly s u ∧ (u.dev.slice n).state = x.state ∧ (u.dev.slice n).result = 1))) ∧
    (∀ k, let y := s.dev.slice k
      (y.state = .prepared → y.nonceSt + 60000000000 ≤ s.st.toNat →
        ∃ u, exec (.prepareExpiry k) s = .next u ∧ DevOnly s u ∧ u.dev.slice k = { num := k, result := y.result } ∧ bit (u.dev.reg Off.hifSliceEvt) 1 = true) ∧
      (y.state = .saving → s.dev.warning = false →
        let im := s.dev.image s.ctx y
        (im.1 ≤ le y.image 8 4 →
          ∃ u, exec (.saveDone k) s = .next u ∧ DevOnly s u ∧ (u.dev.slice k).state = .saved ∧ (u.dev.slice k).result = 0 ∧ Tx.dma (BitVec.ofNat 64 (le y.image 0 8)) im.2 ∈ u.dev.tx) ∧
        (le y.image 8 4 < im.1 →
          ∃ u, exec (.saveDone k) s = .next u ∧ DevOnly s u ∧ (u.dev.slice k).state = y.prev ∧ (u.dev.slice k).result = 4 ∧ u.dev.reg Off.hifMigNeed = BitVec.ofNat 32 im.1)) ∧
      (y.state = .restoring → y.pendingResult ≠ 0 →
        ∃ u, exec (.restoreDone k) s = .next u ∧ DevOnly s u ∧ (u.dev.slice k).state = .unbound ∧ (u.dev.slice k).result = y.pendingResult ∧ u.dev.hif.rings = s.dev.hif.rings
          ∧ u.dev.ddt = s.dev.ddt) ∧
      (∀ d1, y.state = .restoring → y.pendingResult = 0 → s.dev.ringsDefined + (imageRings k y.image).length ≤ 16384 → s.dev.insertAll s.ctx (imageDdt s.st.toNat k y.image) = some d1 →
        let b := y.image
        ∃ u, exec (.restoreDone k) s = .next u ∧ DevOnly s u ∧ (u.dev.slice k).state = .bound ∧ (u.dev.slice k).cmd = none ∧ (u.dev.slice k).result = 0 ∧ (u.dev.slice k).rings = le b 52 2
          ∧ (u.dev.slice k).weight = byteAt b 54 ∧ (u.dev.slice k).expiry = byteAt b 55 ∧ (∀ r ∈ imageRings k b, (u.dev.ring k r.num).state = .parked) ∧ u.dev.ddt = d1.ddt))

/-- R5, R406, R408. -/
def Obligations.SliceRegisters : Prop :=
  ∀ (s : State) (v : Word),
    let d := s.dev
    (HostMay s true Off.hifSliceSel → ∃ u, exec (.sliceSelect v) s = .next u ∧ DevOnly s u ∧ u.dev = { d with regs := u.dev.regs } ∧ u.dev.reg Off.hifSliceSel = v &&& 0xFFF#32 ∧
      (∀ o, o ≠ Off.hifSliceSel → o ≠ Off.hifSlicePasid → o ≠ Off.hifSliceCfg → o ≠ Off.hifSliceRings → u.dev.reg o = d.reg o) ∧
      let x := d.slice (fld v 11 0)
      (x.state = .unbound ∨ x.state = .retaining →
        u.dev.reg Off.hifSlicePasid = 0#32 ∧ u.dev.reg Off.hifSliceCfg = 0x01010000#32 ∧ u.dev.reg Off.hifSliceRings = 0#32) ∧
      (x.state = .prepared ∨ x.state = .restoring → u.dev.reg Off.hifSlicePasid = packW [(0, x.pasid), (31, b2n x.noPasid)] ∧ u.dev.reg Off.hifSliceCfg = packW [(0, x.domain), (16, 1), (24, 1)]) ∧
      (x.state = .bound ∨ x.state = .frozen ∨ x.state = .draining ∨ x.state = .saving ∨ x.state = .saved →
        u.dev.reg Off.hifSlicePasid = packW [(0, x.pasid), (31, b2n x.noPasid)] ∧ u.dev.reg Off.hifSliceCfg = packW [(0, x.domain), (16, x.weight), (24, x.expiry)]
          ∧ u.dev.reg Off.hifSliceRings = BitVec.ofNat 32 x.rings)) ∧
    (∀ off, HostMay s true off →
      let n := fld (d.reg Off.hifSliceSel) 11 0
      let x := d.slice n
      (off = Off.hifSlicePasid →
        (x.state = .unbound → exec (.sliceCfgWrite off v) s = .next { s with dev := d.setReg off (v &&& 0x800FFFFF#32) }) ∧
        (x.state = .bound → v &&& 0x800FFFFF#32 ≠ packW [(0, x.pasid), (31, b2n x.noPasid)] → exec (.sliceCfgWrite off v) s = .next { s with dev := d.ruleViolation s.ctx off })) ∧
      (off = Off.hifSliceCfg →
        (fld v 23 16 = 0 ∨ fld v 25 24 = 0 ∨ fld v 25 24 = 3 → exec (.sliceCfgWrite off v) s = .next s) ∧
        (1 ≤ fld v 23 16 → fld v 25 24 = 1 ∨ fld v 25 24 = 2 →
          (x.state = .unbound → exec (.sliceCfgWrite off v) s = .next { s with dev := d.setReg off (v &&& 0x03FF03FF#32) }) ∧
          (x.state = .bound → fld v 9 0 ≠ x.domain → exec (.sliceCfgWrite off v) s = .next { s with dev := d.ruleViolation s.ctx off }) ∧
          (x.state = .bound → fld v 9 0 = x.domain → ∃ u, exec (.sliceCfgWrite off v) s = .next u ∧ DevOnly s u
            ∧ u.dev.slice n = { x with weight := fld v 23 16, expiry := fld v 25 24 } ∧ ∀ k, k ≠ n → u.dev.slice k = d.slice k))) ∧
      (off = Off.hifSliceRings →
        ((∃ r ∈ d.hif.rings, r.slice = n ∧ r.state ≠ .absent ∧ fld v 15 0 / 2 ^ r.num % 2 = 0) → exec (.sliceCfgWrite off v) s = .next s) ∧
        ((∀ r ∈ d.hif.rings, r.slice = n → r.state ≠ .absent → fld v 15 0 / 2 ^ r.num % 2 = 1) → x.state = .bound →
          ∃ u, exec (.sliceCfgWrite off v) s = .next u ∧ DevOnly s u ∧ u.dev.slice n = { x with rings := fld v 15 0 } ∧ u.dev.hif = d.hif)) ∧
      (off ≠ Off.hifSlicePasid → off ≠ Off.hifSliceCfg → off ≠ Off.hifSliceRings → exec (.sliceCfgWrite off v) s = .next s))

/-- R410, and the routes of R417 that go with a port. -/
def Obligations.FabricPorts : Prop :=
  ∀ (s : State) (n : Nat) (p : Port), n < 8 → s.dev.fab.ports.find? (fun x => x.num == n) = some p →
    let changed := fun (u : State) => DevOnly s u ∧ bit (u.dev.reg Off.fabEvt) 0 = true ∧ ∀ m, m ≠ n → u.dev.port m = s.dev.port m
    (∀ v, HostMay s true Off.fabCtrl →
      ∃ u, exec (.portEnable v) s = .next u ∧ DevOnly s u
        ∧ (u.dev.port n).state = (if bit v 0 && bit v (8 + n) then (if p.state = .disabled then .training else p.state) else .disabled)
        ∧ u.dev.reg Off.fabCtrl = (v &&& 0x8000FF01#32) ||| (s.dev.reg Off.fabCtrl &&& 0x80000000#32)) ∧
    (p.state = .training → s.dev.endpointUp = true →
      ∃ u, exec (.portTrained n) s = .next u ∧ changed u ∧ u.dev.port n = { p with state := .auth, challenged := s.dev.mgmtDrbg, since := s.st.toNat }) ∧
    (p.state = .auth → p.challenged = true → ∀ node port unit,
      (∃ u, exec (.portAuthDone n node port unit true) s = .next u ∧ changed u
        ∧ u.dev.port n = { p with state := .up, peerNode := node, peerPort := port, challenged := false }) ∧
      (∃ e : Dev, e.port n = { p with state := .refused, challenged := false } ∧ e.evl = s.dev.evl
        ∧ exec (.portAuthDone n node port unit false) s = .next { s with dev := e.evidence s.ctx Ev.portRefused (toLe 1 n ++ zeros 3 ++ toBe 8 (unit / 2 ^ 64)) })) ∧
    (p.state = .up →
      ∃ u, exec (.portDown n) s = .next u ∧ changed u ∧ u.dev.port n = { p with state := .down, since := s.st.toNat }
        ∧ u.dev.fab.routes = s.dev.fab.routes.filter (fun r => r.port != n)) ∧
    (p.state = .down →
      (p.since + 1000000 ≤ s.st.toNat → ∃ u, exec (.portRetrainTimer n) s = .next u ∧ changed u ∧ u.dev.port n = { p with state := .training }) ∧
      (s.st.toNat < p.since + 1000000 → exec (.portRetrainTimer n) s = .next s)) ∧
    (p.state = .auth → p.challenged = false →
      (p.since + 10000000 ≤ s.st.toNat →
        ∃ u, exec (.authRetryTimer n) s = .next u ∧ DevOnly s u ∧ u.dev.port n = { p with challenged := s.dev.mgmtDrbg, since := s.st.toNat }) ∧
      (s.st.toNat < p.since + 10000000 → exec (.authRetryTimer n) s = .next s))

/-- R409, R411, R412, R417 to R419, and the flush of R443. -/
def Obligations.FabricFrames : Prop :=
  ∀ (s : State) (port : Nat) (bytes : Bytes),
    (Frame.ofBytes port bytes = none → exec (.frameReceive port bytes) s = .next s) ∧
    (∀ f, Frame.ofBytes port bytes = some f → s.dev.fabOn = true → s.dev.portUp port = true →
      let r : Route := { node := f.src, cls := f.cls, port := port, hops := f.hops, st := s.st.toNat }
      let here := fun (x : Route) => x.node == f.src && x.cls == f.cls
      let e := s.dev.learn s.ctx f.src f.cls port f.hops
      (5 < f.cls → exec (.frameReceive port bytes) s = .next { s with dev := s.dev.bump Off.fabDropped }) ∧
      (f.cls = 0 ∨ f.cls = 3 ∨ f.cls = 4 ∨ f.cls = 5 →
        (f.flood = false → f.dst = s.dev.nodeId →
          exec (.frameReceive port bytes) s = .next { s with dev := e } ∧
          (∀ x, s.dev.fab.routes.find? here = some x → e.fab.routes.find? here = some (if x.port = port ∨ f.hops < x.hops ∨ x.st + 1000000 ≤ s.st.toNat then r else x)) ∧
          (s.dev.fab.routes.find? here = none → (occInsert s.dev.fab.hashKey 4096 (f.src, f.cls) s.dev.fab.occ).occ ≠ none → s.dev.fab.large = false →
            e.fab.routes = s.dev.fab.routes ++ [r]) ∧
          (s.dev.fab.routes.find? here = none → s.dev.fab.large = true → 256 ≤ (s.dev.fab.routes.filter (fun x => x.port == port)).length → e = s.dev)) ∧
        (f.flood = false → f.dst ≠ s.dev.nodeId →
          (s.dev.maxHops < f.hops + 1 → exec (.frameReceive port bytes) s = .next { s with dev := e.bump Off.fabDropped }) ∧
          (f.hops + 1 ≤ s.dev.maxHops → s.dev.fab.conflict = false →
            let out := e.fab.routes.find? (fun x => x.node == f.dst && x.cls == f.cls && s.dev.portUp x.port)
            let on := { f with hops := f.hops + 1, seq := (s.dev.fab.floodSeq + 1) % 2 ^ 32, flood := true }
            (∀ q, out = some q → exec (.frameReceive port bytes) s = .next { s with dev := e.emit (.frame q.port { f with port := q.port, hops := f.hops + 1 }.bytes) }) ∧
            (out = none → ∃ u, exec (.frameReceive port bytes) s = .next u ∧ DevOnly s u ∧ u.dev.fab.floodSeq = (s.dev.fab.floodSeq + 1) % 2 ^ 32
              ∧ u.dev.reg Off.fabFlooded = BitVec.ofNat 32 (min 0xFFFFFFFF ((s.dev.reg Off.fabFlooded).toNat + 1))
              ∧ ∀ n, n < 8 → (Tx.frame n on.bytes ∈ u.dev.tx ↔ (n ≠ port ∧ s.dev.portUp n = true) ∨ Tx.frame n on.bytes ∈ s.dev.tx)))) ∧
        (∀ w, f.flood = true → s.dev.fab.floods.find? (fun x => x.src == f.src) = some w → f.boot < w.boot ∨ (f.boot = w.boot ∧ f.seq = w.high ∧ w.high < 2 ^ 32) →
          exec (.frameReceive port bytes) s = .next { s with dev := e })) ∧
      (f.cls = 1 ∨ f.cls = 2 → exec (.frameReceive port bytes) s = .next s)) ∧
    (∀ node cls, ∃ u, exec (.routeAgeOut node cls) s = .next u ∧ DevOnly s u ∧ u.dev.regs = s.dev.regs
      ∧ ∀ x, x ∈ u.dev.fab.routes ↔ x ∈ s.dev.fab.routes ∧ ¬ (x.node = node ∧ x.cls = cls ∧ x.st + fld (s.dev.reg Off.fabRouteCtrl) 15 0 * 1000000 ≤ s.st.toNat)) ∧
    (∀ v, HostMay s true Off.fabRouteCtrl →
      (10 ≤ fld v 15 0 → fld v 15 0 ≤ 60000 →
        ∃ u, exec (.routeFlush v) s = .next u ∧ DevOnly s u ∧ u.dev.fab.routes = [] ∧ u.dev.reg Off.fabRouteCtrl = v &&& 0xFFFF#32) ∧
      (fld v 15 0 < 10 ∨ 60000 < fld v 15 0 → exec (.routeFlush v) s = .next s))

/-- R17, R409, R411, R414 to R416. -/
def Obligations.FabricNodes : Prop :=
  ∀ s : State,
    (s.dev.fabOn = true →
      (s.dev.mgmtUp = true → s.dev.fab.lastDisc = 0 ∨ s.dev.fab.lastDisc + fld (s.dev.reg Off.fabDiscCtrl) 15 0 * 1000000 ≤ s.st.toNat →
        let m : Frame := { port := 0, dst := s.dev.nodeId, src := s.dev.nodeId, cls := 0, flood := true, hops := 0, seq := (s.dev.fab.floodSeq + 1) % 2 ^ 32, boot := s.dev.pwr.boots,
                           payload := unitIdBytes ++ toLe 1 s.dev.fab.pair.role.code ++ toLe 1 s.dev.tim.state.code ++ zeros 14 }
        ∃ u, exec .discoveryTimer s = .next u ∧ DevOnly s u ∧ u.dev = { s.dev with fab := u.dev.fab, tx := u.dev.tx }
          ∧ u.dev.fab = { s.dev.fab with floodSeq := (s.dev.fab.floodSeq + 1) % 2 ^ 32, lastDisc := s.st.toNat }
          ∧ ∀ n, n < 8 → s.dev.portUp n = true → Tx.frame n m.bytes ∈ u.dev.tx) ∧
      (s.dev.mgmtUp = false ∨ (0 < s.dev.fab.lastDisc ∧ s.st.toNat < s.dev.fab.lastDisc + fld (s.dev.reg Off.fabDiscCtrl) 15 0 * 1000000) → exec .discoveryTimer s = .next s)) ∧
    (∀ port bytes f, Frame.ofBytes port bytes = some f → s.dev.fabOn = true → s.dev.portUp port = true → f.cls = 0 → f.flood = true → f.dst = f.src → f.payload.length = 32 →
      let unit := le f.payload 0 16
      (f.src = s.dev.nodeId → unit ≠ Config.unitId.toNat → s.dev.fab.conflict = false →
        exec (.discoveryReceive port bytes) s = .next { s with dev := ({ s.dev with fab := { s.dev.fab with conflict := true } } : Dev).evtBit Off.fabEvt 1 }) ∧
      (f.src ≠ s.dev.nodeId →
        ((∀ n ∈ s.dev.fab.nodes, n.num = f.src → n.older f.boot f.seq = true) →
          ∃ u n, exec (.discoveryReceive port bytes) s = .next u ∧ DevOnly s u ∧ u.dev.fab.nodes.find? (fun x => x.num == f.src) = some n
            ∧ n.live = true ∧ n.unit = unit ∧ n.role = byteAt f.payload 16 ∧ n.qual = byteAt f.payload 17 ∧ n.boot = f.boot ∧ n.seq = f.seq ∧ n.hops = f.hops ∧ n.lastSt = s.st.toNat
            ∧ (port, s.st.toNat) ∈ n.portSts
            ∧ ∀ k, k ≠ f.src → u.dev.fab.nodes.find? (fun x => x.num == k) = s.dev.fab.nodes.find? (fun x => x.num == k)) ∧
        (∀ n ∈ s.dev.fab.nodes, n.num = f.src → n.older f.boot f.seq = false →
          exec (.discoveryReceive port bytes) s = .next { s with dev := (s.dev.fwReady s.ctx 2).learn s.ctx f.src 0 port f.hops }))) ∧
    (∀ node x, s.dev.fab.nodes.find? (fun n => n.num == node) = some x → x.live = true → x.lastSt + 3 * (fld (s.dev.reg Off.fabDiscCtrl) 15 0 * 1000000) ≤ s.st.toNat →
      ∃ u, exec (.nodeAgeOut node) s = .next u ∧ DevOnly s u ∧ u.dev.fab.nodes.find? (fun n => n.num == node) = some { x with live := false }
        ∧ u.dev.fab.routes = s.dev.fab.routes.filter (fun r => r.node != node) ∧ bit (u.dev.reg Off.fabEvt) 2 = true)

/-- R413, R420 to R422, and the break of R426. -/
def Obligations.FabricSessions : Prop :=
  ∀ (s : State) (p : Nat) (pub : Bytes),
    let gone := fun (u : State) (i : Item) => ∃ j, u.dev.item? i.slot = some j ∧ j.spill = none ∧ j.ds = .pending
    let repl := fun (u : State) (r : Repl) (st : Nat) => ∃ x ∈ u.dev.fab.repls, x.domain = r.domain ∧ x.index = r.index ∧ x.state = st
    let unit := (s.dev.nodeUnit p).getD 0
    let secret := hmac 2 (zeros 48) (ecdh 2 48 (Curve.named 2) (ecPair 2 48 (Curve.named 2) (s.dev.mgmtBytes s.ctx 64).1).1 pub) 48
    (s.dev.fabOn = true → s.dev.mgmtDrbg = true →
      (s.dev.fab.conflict = false → s.dev.hasSession p = false →
        (s.dev.fab.sessions.length < 256 →
          ∃ u, exec (.sessionSetup p pub true) s = .next u ∧ DevOnly s u
            ∧ (∃ x ∈ u.dev.fab.sessions, x.peer = p ∧ x.since = s.st.toNat ∧ x.unit = unit ∧ x.ext = secret)
            ∧ (∀ q, q ≠ p → u.dev.hasSession q = s.dev.hasSession q) ∧ u.dev.key = s.dev.key ∧ (∀ h ∈ u.dev.fab.held, h.node ≠ p)
            ∧ ∀ r ∈ s.dev.fab.repls, r.en = true → r.peer = p → r.state = 3 → r.ended = false → repl u r 1) ∧
        (256 ≤ s.dev.fab.sessions.length → exec (.sessionSetup p pub true) s = .next s)) ∧
      (∀ x, s.dev.fab.sessions.find? (fun y => y.peer == p) = some x → 2 ^ 48 ≤ x.frames ∨ x.since + 3600000000000 ≤ s.st.toNat →
        ∃ u, exec (.sessionRekey p pub) s = .next u ∧ DevOnly s u
          ∧ u.dev.fab.sessions.find? (fun y => y.peer == p) = some { peer := p, since := s.st.toNat, frames := 0, unit := unit, ext := secret })) ∧
    exec (.sessionSetup p pub false) s = .next s ∧
    (s.dev.hasSession p = true →
      ∃ u, exec (.sessionBreak p) s = .next u ∧ DevOnly s u ∧ u.dev.hasSession p = false ∧ (∀ q, q ≠ p → u.dev.hasSession q = s.dev.hasSession q)
        ∧ (∀ r ∈ s.dev.fab.repls, r.en = true → r.peer = p → repl u r 3)
        ∧ ∀ i, s.dev.item? i.slot = some i → i.spill.any (fun q => q.1 == p) = true → gone u i) ∧
    (s.dev.hasSession p = false → exec (.sessionBreak p) s = .next s) ∧
    (∀ m0 : ReplMsg, (s.dev.session? m0.peer).bind (fun x => unwrapKeys x m0) = none → exec (.replicateReceive m0) s = .next s) ∧
    (∀ (m : ReplMsg) (x : Session), s.dev.session? p = some x → m.peer = p → s.dev.fabOn = true →
      (m.kind = .ack → ∃ u, exec (.replicateReceive m) s = .next u ∧ DevOnly s u ∧ u.dev.key = s.dev.key
        ∧ ∀ r ∈ s.dev.fab.repls, r.en = true → r.domain = m.domain → r.peer = p → r.ended = false → repl u r 2) ∧
      (m.kind = .ended → ∃ u, exec (.replicateReceive m) s = .next u ∧ DevOnly s u ∧ u.dev.key = s.dev.key
        ∧ ∀ r ∈ s.dev.fab.repls, r.en = true → r.domain = m.domain → r.peer = p → r.ended = false →
          ∃ y ∈ u.dev.fab.repls, y.domain = r.domain ∧ y.index = r.index ∧ y.state = 3 ∧ y.ended = true) ∧
      (s.dev.locked = false → s.dev.key.store = .ready →
        (m.kind = .copy → s.dev.fab.replicas.any (fun r => r.domain == m.domain && r.src == p) = false →
          (s.dev.replicaLoad m.domain p = none ∨ (s.dev.key.domain m.domain).state ≠ .empty → exec (.replicateReceive m) s = .next s) ∧
          (s.dev.replicaLoad m.domain p ≠ none → (s.dev.key.domain m.domain).state = .empty →
            ∃ u, exec (.replicateReceive m) s = .next u ∧ DevOnly s u ∧ match unwrapKeys x m with
              | none => u = s
              | some k => u.dev.isReplica m.domain = true ∧ u.dev.key.domain m.domain = { s.dev.key.domain m.domain with
                  state := .active, gen := m.gen, dmk := k.dmk, prevGen := m.prevGen, prevDmk := k.prevDmk, prevValid := m.prevValid, newGen := 0, newDmk := [] })) ∧
        (s.dev.fab.replicas.any (fun r => r.domain == m.domain && r.src == p) = true →
          (m.kind = .erase → ∃ u, exec (.replicateReceive m) s = .next u ∧ DevOnly s u ∧ u.dev.isReplica m.domain = false ∧ (u.dev.key.domain m.domain).state = .empty
            ∧ ∀ k ∈ u.dev.key.slots, k.dom ≠ m.domain) ∧
          (m.kind = .retirePrev → ∃ u, exec (.replicateReceive m) s = .next u ∧ DevOnly s u ∧ (u.dev.key.domain m.domain).prevValid = false) ∧
          (m.kind = .rollEnd → (s.dev.key.domain m.domain).gen ≠ m.gen → (s.dev.key.domain m.domain).state ≠ .rolling →
            ∃ u, exec (.replicateReceive m) s = .next u ∧ DevOnly s u ∧ match unwrapKeys x m with
              | none => u = s
              | some k => u.dev.key.domain m.domain = { s.dev.key.domain m.domain with state := .rolling, newGen := m.gen, newDmk := k.dmk }))))

/-- R424 to R426. -/
def Obligations.SpillOver : Prop :=
  ∀ s : State,
    let limit := fld (s.dev.reg Off.fabSpillCtrl) 15 4
    let held := (s.dev.dsp.items.filter (fun i => i.spillFrom.isSome)).length
    let here' := fun (u : State) (slot : Nat) => (∃ j, u.dev.item? slot = some j ∧ j.spill = none ∧ j.ds = .pending)
      ∧ ∀ r, s.dev.rec? slot = some r → r.st = .inService → u.dev.rec? slot = some { r with st := .accepted, spilled := false }
    let offer := (if s.dev.dsp.reef ≠ 0 ∨ s.dev.fab.pair.role = .standby ∨ s.dev.fab.pair.role = .syncing then 0 else limit - held)
      :: (s.dev.key.domains.filter (fun m => m.state != .empty)).flatMap (fun m => [m.num, m.gen, b2n m.prevValid])
    (s.dev.fabOn = true → s.dev.fab.conflict = false → 0 < limit →
      (s.dev.fab.lastOffer + 100000 ≤ s.st.toNat →
        ∃ u, exec .spillOfferTimer s = .next u ∧ DevOnly s u ∧ u.dev.fab.lastOffer = s.st.toNat ∧ u.dev.regs = s.dev.regs ∧ u.dev.dsp = s.dev.dsp
          ∧ u.dev.fab.sessions = s.dev.fab.sessions ∧ (∀ x ∈ s.dev.tx, x ∈ u.dev.tx)
          ∧ ∀ i q, i < 8 → bit (s.dev.reg (Off.fabSpillPeer + 4 * i)) 31 = true → q < 8 → s.dev.portUp q = true →
            ∃ f : Frame, f.dst = fld (s.dev.reg (Off.fabSpillPeer + 4 * i)) 9 0 ∧ f.src = s.dev.nodeId ∧ f.cls = 0 ∧ f.hops = 0 ∧ f.payload = toLe 1 1 ++ offer.flatMap msgNum
              ∧ Tx.frame f.port f.bytes ∈ u.dev.tx) ∧
      (s.st.toNat < s.dev.fab.lastOffer + 100000 → exec .spillOfferTimer s = .next s)) ∧
    (∀ p o, s.dev.fabOn = true →
      (s.dev.spillListed p = true → ∃ u x, exec (.spillOfferReceive p o) s = .next u ∧ DevOnly s u ∧ u.dev.fab.offers.find? (fun y => y.node == p) = some x
        ∧ x.credit = o.credit ∧ x.gens = o.gens ∧ u.dev.regs = s.dev.regs) ∧
      (s.dev.spillListed p = false → exec (.spillOfferReceive p o) s = .next s)) ∧
    (∀ m : SpillItem, s.dev.fabOn = true → s.dev.hasSession m.peer = true → s.dev.past 8 = true → s.dev.roleActs = true → s.dev.warning = false → s.dev.locked = false →
      (held < limit → ∃ u i, exec (.spillItemReceive m) s = .next u ∧ DevOnly s u ∧ u.dev = { s.dev with dsp := { s.dev.dsp with items := s.dev.dsp.items ++ [i] } }
        ∧ i.ds = .pending ∧ i.deadline = s.st.toNat + m.remaining ∧ i.spillFrom = some (m.peer, m.slot) ∧ i.desc = m.desc ∧ i.input = m.input ∧ ∀ j ∈ s.dev.dsp.items, j.slot ≠ i.slot) ∧
      (limit ≤ held → exec (.spillItemReceive m) s = .next s)) ∧
    (∀ slot i p, s.dev.item? slot = some i → i.spill = some p →
      (p.2 + fld (s.dev.reg Off.fabSpillCtrl) 31 20 * 1000 ≤ s.st.toNat →
        ∃ u, exec (.spillTimeout slot) s = .next u ∧ DevOnly s u ∧ here' u slot ∧ bit (u.dev.reg Off.fabEvt) 10 = true
          ∧ (∀ x ∈ (s.dev.sendPeer p.1 4 3 (msgNum slot)).tx, x ∈ u.dev.tx) ∧ (∀ h ∈ (s.dev.sendPeer p.1 4 3 (msgNum slot)).fab.held, h ∈ u.dev.fab.held)
          ∧ u.dev.reg Off.fabSpillLost = BitVec.ofNat 32 (min 0xFFFFFFFF ((s.dev.reg Off.fabSpillLost).toNat + 1))) ∧
      (s.st.toNat < p.2 + fld (s.dev.reg Off.fabSpillCtrl) 31 20 * 1000 → exec (.spillTimeout slot) s = .next s) ∧
      (∀ r : SpillRet, i.ds = .running → s.dev.mayRelease s.ctx = true →
        (r.executed = true → r.status ∈ [0x00, 0x12, 0x13, 0x15, 0x16, 0x17] → i.spillFrom = none → (s.dev.rec? slot).isSome = true →
          (r.refused = false ∨ r.output = [] → ∃ u, exec (.spillReturn p.1 slot r) s = .next u ∧ DevOnly s u ∧ u.dev.Ended slot r.status r.sub
            ∧ (r.output ≠ [] → Tx.output (s.dev.tagOf i.slice) i.seq (BitVec.ofNat 64 (Desc.outPtr i.desc)) (Desc.outputSgl i.desc) r.output ∈ u.dev.tx)) ∧
          (r.refused = true → r.output ≠ [] → ∃ u, exec (.spillReturn p.1 slot r) s = .next u ∧ DevOnly s u ∧ u.dev.Ended slot 0x30 2)) ∧
        (r.executed = false ∨ r.status ∉ [0x00, 0x12, 0x13, 0x15, 0x16, 0x17] → ∃ u, exec (.spillReturn p.1 slot r) s = .next u ∧ DevOnly s u ∧ here' u slot ∧ u.dev.regs = s.dev.regs)) ∧
      (∀ (r : SpillRet) q, q ≠ p.1 → exec (.spillReturn q slot r) s = .next s)) ∧
    (∀ p slot, (∀ i, s.dev.dsp.items.find? (fun j => j.spillFrom == some (p, slot)) = some i →
        ∃ u, exec (.spillCancelReceive p slot) s = .next u ∧ DevOnly s u ∧ u.dev.dsp.items = s.dev.dsp.items.filter (fun j => j.slot != i.slot)) ∧
      ((∀ j ∈ s.dev.dsp.items, j.spillFrom ≠ some (p, slot)) → exec (.spillCancelReceive p slot) s = .next s))

/-- R163, R428, R430 to R432, R434, R440. -/
def Obligations.PairLease : Prop :=
  ∀ s : State,
    let p := s.dev.fab.pair
    let now := s.st.toNat
    let swaps := fun (o : Host.Outcome State Fault Refusal) (k : SwapFor) => o = .next { s with dev :=
      { s.dev with tx := Tx.cas (witnessWord p.epoch p.holder) (witnessWord (p.epoch + 1) (fld (s.dev.reg Off.fabNodeId) 9 0)) :: s.dev.tx, fab := { s.dev.fab with pair := { p with swap := some k, swapDue := none } } } }
    let sends := fun (u : State) (port : Nat) (msg : Bytes) => ∀ x, s.dev.fabOn = true → s.dev.fab.conflict = false → s.dev.session? s.dev.partner = some x → s.dev.portUp port = true →
      ∃ y : Session, y.peer = x.peer ∧ y.unit = x.unit ∧ y.ext = x.ext ∧ x.frames ≤ y.frames ∧
        let f : Frame := { port := port, src := s.dev.nodeId, dst := s.dev.partner, cls := 1, hops := 0, seq := y.frames % 2 ^ 32, boot := s.dev.pwr.boots, payload := msg }
        Tx.frame port (y.seal f).bytes ∈ u.dev.tx
    (p.role = .active ∨ p.role = .activeAlone →
      ((∃ e, s.dev.nextDue s.ctx = some e ∧ e.use = .lease ∧ e.n = 0) → s.dev.fireRoom s.ctx = true →
        p.lastSent + 40000 ≤ now / 1000 * 1000 ∧
        ∃ u, exec .leaseRenewalTimer s = .next u ∧ DevOnly s u ∧ u.dev.fab.pair = { p with lastSent := now } ∧ u.dev.regs = s.dev.regs
          ∧ ∀ q ∈ s.dev.pairPorts, sends u q (toLe 1 1 ++ msgNum p.epoch ++ msgNum now)) ∧
      (now / 1000 * 1000 < p.lastSent + 40000 → exec .leaseRenewalTimer s = .next s) ∧
      (∀ sent peerSt, sent ≤ now → p.lastAcked ≤ sent →
        exec (.renewalAckReceive p.epoch sent peerSt) s = .next { s with dev := s.dev.onPair (fun q => { q with lastAcked := sent, leaseEnd := sent + 160000, offset := (now : Int) - peerSt }) })) ∧
    (p.role = .standby ∨ p.role = .syncing →
      ∀ port peerSt, ∃ u, exec (.renewalReceive port p.epoch peerSt) s = .next u ∧ DevOnly s u ∧ u.dev.fab.pair = { p with heard := now, leaseEnd := now + 160000, offset := (now : Int) - peerSt }
        ∧ sends u port (toLe 1 2 ++ msgNum p.epoch ++ msgNum peerSt ++ msgNum now)) ∧
    (p.role = .syncing → ∀ port e peerSt, p.epoch < e →
      ∃ u, exec (.renewalReceive port e peerSt) s = .next u ∧ DevOnly s u ∧ u.dev.fab.pair.role = .fenced ∧ bit (u.dev.reg Off.fabEvt) 6 = true) ∧
    (p.role = .standby →
      (∀ port e peerSt, p.epoch < e → ¬ (e = p.epoch + 1 ∧ p.holder = s.dev.nodeId) →
        ∃ u, exec (.renewalReceive port e peerSt) s = .next u ∧ DevOnly s u ∧ u.dev.fab.pair.role = .syncing ∧ u.dev.fab.pair.epoch = e ∧ u.dev.jnl.recs = []) ∧
      (∀ port peerSt, p.holder = s.dev.nodeId → ∃ u, exec (.renewalReceive port (p.epoch + 1) peerSt) s = .next u ∧ DevOnly s u ∧ u.dev.fab.pair.role = .standby
        ∧ u.dev.fab.pair.epoch = p.epoch + 1 ∧ u.dev.fab.pair.holder = s.dev.partner) ∧
      (p.swap = none → p.swapDue = none →
        (p.leaseEnd + 40000 < now → swaps (exec .leaseGuardExpiry s) .takeover) ∧
        (now ≤ p.leaseEnd + 40000 → exec .leaseGuardExpiry s = .next s) ∧
        swaps (exec .releaseReceive s) .handover)) ∧
    (p.role = .active →
      (p.swap = none → p.swapDue = none →
        (p.lastAcked + 80000 ≤ now → swaps (exec .ackMissingTimeout s) .alone) ∧
        (now < p.lastAcked + 80000 → exec .ackMissingTimeout s = .next s)) ∧
      (p.leaseEnd ≤ now →
        ∃ u, exec .activeLeaseExpiry s = .next u ∧ DevOnly s u ∧ u.dev.fab.pair.role = .fenced ∧ bit (u.dev.reg Off.fabEvt) 6 = true
          ∧ ∀ r ∈ u.dev.hif.rings, r.state = .absent ∨ r.state = .parked) ∧
      (now < p.leaseEnd → exec .activeLeaseExpiry s = .next s)) ∧
    (∀ k t, p.swapDue = some (k, t) →
      (t ≤ now → s.dev.past 8 = true → s.dev.endpointUp = true → swaps (exec .witnessRetryTimer s) k) ∧
      (now < t → exec .witnessRetryTimer s = .next s))

/-- R428 to R430, R434, R435, R437 to R439. -/
def Obligations.PairRoles : Prop :=
  ∀ s : State,
    let p := s.dev.fab.pair
    let now := s.st.toNat
    let role := fun (o : Host.Outcome State Fault Refusal) (f : State → Prop) => ∃ u, o = .next u ∧ DevOnly s u ∧ f u
    let own := witnessWord p.epoch p.holder
    let idle := s.dev.jnl.mirrorWait = [] ∧ p.changes = []
    (∀ k sl, p.swap = some k →
      role (exec (.witnessSwapDone .error sl) s) (fun u => u.dev.fab.pair = { p with swap := none, swapDue := some (k, now + 1000000) } ∧ bit (u.dev.reg Off.fabEvt) 12 = true) ∧
      role (exec (.witnessSwapDone (.found own) sl) s) (fun u => u.dev.fab.pair.epoch = p.epoch + 1 ∧ u.dev.fab.pair.holder = s.dev.nodeId ∧ u.dev.fab.pair.swap = none
        ∧ ((k = .activate ∧ p.role = .unpaired) ∨ (k = .takeover ∧ p.role = .standby) ∨ (k = .alone ∧ (p.role = .active ∨ p.role = .fenced)) ∨ (k = .recover ∧ p.role = .fenced) →
            u.dev.fab.pair.role = .activeAlone ∧ bit (u.dev.reg Off.fabEvt) 5 = true)
        ∧ (k = .handover → p.role = .standby → u.dev.fab.pair.role = .active)
        ∧ (k = .takeover ∨ k = .handover → p.role = .standby → bit (u.dev.reg Off.fabEvt) 4 = true)) ∧
      (∀ v, v ≠ own → role (exec (.witnessSwapDone (.found v) sl) s) (fun u => u.dev.fab.pair.swap = none
        ∧ (k = .activate → u.dev.fab.pair.role = p.role ∧ u.dev.fab.pair.cmdResult = 5 ∧ u.dev.fab.pair.cmdBusy = false)
        ∧ (k = .alone ∨ k = .recover → u.dev.fab.pair.role = .fenced)
        ∧ (k = .takeover ∨ k = .handover → p.role = .standby →
            (s.dev.pairLinkUp = true → u.dev.fab.pair.role = .syncing ∧ u.dev.fab.pair.epoch = v.toNat / 2 ^ 16 ∧ u.dev.fab.pair.holder = v.toNat % 1024) ∧
            (s.dev.pairLinkUp = false → u.dev.fab.pair = { p with swap := none, swapDue := none }))))) ∧
    (HostMay s true Off.fabPairCmd → p.cmdBusy = false →
      let ended := fun (u : State) (r : Nat) => u.dev.fab.pair.cmdResult = r ∧ u.dev.fab.pair.cmdBusy = false ∧ bit (u.dev.reg Off.fabEvt) 11 = true
      role (exec .pairActivate s) (fun u => if p.role = .unpaired ∧ fld (s.dev.reg Off.fabPairCtrl) 1 0 ≠ 0 then u.dev.fab.pair = { p with swap := some .activate, swapDue := none, cmdBusy := true }
          ∧ u.dev.tx = Tx.cas own (witnessWord (p.epoch + 1) s.dev.nodeId) :: s.dev.tx
        else ended u 1 ∧ u.dev.fab.pair.role = p.role) ∧
      role (exec .pairSwitchover s) (fun u => if p.role = .active ∧ p.handing = false then
          Tx.witnessRead ∈ u.dev.tx ∧ (if idle then u.dev.fab.pair.role = .standby ∧ u.dev.fab.pair.handing = false ∧ ended u 0 ∧ ∀ r ∈ u.dev.hif.rings, r.state = .absent ∨ r.state = .parked
           else u.dev.fab.pair.role = .active ∧ u.dev.fab.pair.handing = true ∧ u.dev.fab.pair.cmdBusy = true)
        else ended u 1 ∧ u.dev.fab.pair.role = p.role) ∧
      role (exec .pairLeave s) (fun u => if p.role = .unpaired ∨ p.role = .active then ended u 1 ∧ u.dev.fab.pair.role = p.role
        else u.dev.fab.pair.role = .unpaired ∧ ended u 0 ∧ (p.role ≠ .activeAlone → u.dev.jnl.recs = [] ∧ ∀ r ∈ u.dev.hif.rings, r.state = .absent)) ∧
      (∀ k : PairCompat, role (exec (.pairJoin k) s) (fun u =>
        if (p.role ≠ .unpaired ∧ p.role ≠ .fenced) ∨ fld (s.dev.reg Off.fabPairCtrl) 1 0 = 0 then ended u 1 ∧ u.dev.fab.pair.role = p.role
        else if k.reached = false ∨ s.dev.pairLinkUp = false ∨ k.role ≠ 4 then ended u 3 ∧ u.dev.fab.pair.role = p.role
        else if ¬ (k.ddtSize = s.dev.ddtLog2 ∧ k.ddtRetain = fld (s.dev.reg Off.ddtRetain) 15 0 ∧ k.lcState = s.otp.state.code ∧ s.dev.key.store = .ready
            ∧ k.unitId = (s.dev.reg Off.fabPairUid).toNat + (s.dev.reg (Off.fabPairUid + 4)).toNat * 2 ^ 32 + (s.dev.reg (Off.fabPairUid + 8)).toNat * 2 ^ 64
              + (s.dev.reg (Off.fabPairUid + 12)).toNat * 2 ^ 96) then ended u 4 ∧ u.dev.fab.pair.role = p.role
        else Tx.cas (witnessWord k.epoch k.holder) (witnessWord k.epoch k.holder) ∈ u.dev.tx ∧
          (if k.atomicsOk = false then ended u 6 ∧ u.dev.fab.pair.role = p.role
           else ended u 0 ∧ u.dev.fab.pair.role = .syncing ∧ u.dev.fab.pair.epoch = k.epoch ∧ u.dev.fab.pair.holder = k.holder ∧ u.dev.jnl.recs = [])))) ∧
    role (exec .syncCopyDone s) (fun u => match p.role with
      | .syncing => u.dev.fab.pair.role = .standby ∧ u.dev.ddt.ready = true ∧ bit (u.dev.reg Off.fabEvt) 7 = true
      | .activeAlone => if s.dev.pairLinkUp = true ∧ p.swap = none ∧ p.swapDue = none then u.dev.fab.pair.role = .active ∧ u.dev.jnl.degraded = false ∧ bit (u.dev.reg Off.fabEvt) 7 = true else u = s
      | _ => u = s) ∧
    (∀ e m, ((p.role = .standby ∨ p.role = .syncing) → e = p.epoch →
        role (exec (.mirrorReceive e m) s) (fun u => u.dev.fab.pair.role = p.role ∧ u.dev.fab.pair.epoch = e
          ∧ (∀ k, m = .tableKey k → u.dev.ddt.hashKey = k)
          ∧ (∀ dom idx en peer, m = .repl dom idx en peer → ∃ r ∈ u.dev.fab.repls, r.domain = dom ∧ r.index = idx ∧ r.en = en ∧ r.peer = peer)
          ∧ (∀ slot h b, m = .record slot h b → s.dev.rec? slot = none → (recOf slot h).st ≠ .free → recOf slot h ∈ u.dev.jnl.recs))) ∧
      (p.role = .standby → e = p.epoch →
        exec (.mirrorReceive e m) s = .next { s with dev := (s.dev.mirrorApply s.ctx m).sendPeer (s.dev.mirrorApply s.ctx m).partner 2 10 (msgNum e) }) ∧
      ((p.role ≠ .standby ∧ p.role ≠ .syncing) ∨ e ≠ p.epoch → exec (.mirrorReceive e m) s = .next s))

/-- R451, R452, R454, R456, R464. -/
def Obligations.Ceremonies : Prop :=
  ∀ (s : State) (n : Nat) (k : Ceremony), s.dev.cus.cers.find? (fun x => x.num == n) = some k →
    let now := s.st.toNat
    let cls := fld k.cfg 3 0
    let dom := if bit k.cfg 31 then none else some (fld k.cfg 25 16)
    let ends := fun (o : Host.Outcome State Fault Refusal) (k' : Ceremony) => ∃ u, o = .next u ∧ DevOnly s u ∧ u.dev.cer n = k'
    let idle := fun (r : Nat) => ({ num := n, cfg := k.cfg, paramAddr := k.paramAddr, paramLen := k.paramLen, respAddr := k.respAddr, result := r } : Ceremony)
    let done := fun (o : Host.Outcome State Fault Refusal) (r : Nat) => ∃ u, o = .next u ∧ DevOnly s u ∧ u.dev.cer n = idle r ∧ bit (u.dev.reg Off.cusEvt) 3 = true
    let judged := fun (o : Host.Outcome State Fault Refusal) (j : Except Nat Approval) => ∃ u, o = .next u ∧ DevOnly s u ∧ bit (u.dev.reg Off.cusEvt) 1 = true ∧
      match j with
      | .error r => u.dev.cer n = { k with result := r }
      | .ok a =>
        let k1 := { k with apps := k.apps ++ [a], first := some (k.first.getD now), result := 0 }
        let m := s.dev.key.domain (k.domain.getD 0)
        (k1.quorumMet = false → u.dev.cer n = k1) ∧
        (k1.quorumMet = true →
          (k.action = 0 ∨ (k.action = 3 ∧ s.dev.isReplica (k.domain.getD 0) = false) → u.dev.cer n = { k1 with state := .opened, openSt := now } ∧ bit (u.dev.reg Off.cusEvt) 2 = true) ∧
          (k.action = 1 ∨ k.action = 2 ∨ k.action = 4 → ∃ r, u.dev.cer n = idle r ∧ bit (u.dev.reg Off.cusEvt) 3 = true) ∧
          (k.action = 1 → s.dev.key.store = .ready → s.dev.isReplica (k.domain.getD 0) = false → m.state = .empty →
            if (kcv 2 5 0x13 k1.dmk).take 5 = bsub k.param 8 5 then
              u.dev.cer n = idle 0 ∧ u.dev.key.domain (k.domain.getD 0) = { m with state := .active, gen := le k.param 16 4, dmk := k1.dmk }
            else u.dev.cer n = idle 10 ∧ u.dev.key.domain (k.domain.getD 0) = m))
    (HostMay s true Off.cusCerCmd → fld (s.dev.reg Off.cusCerSel) 1 0 = n →
      (∀ r : DmaRead,
        (s.dev.mgmtUp = false → ends (exec (.ceremonyBegin r) s) { k with result := 5 }) ∧
        (k.state ≠ .idle → s.dev.mgmtUp = true → ends (exec (.ceremonyBegin r) s) { k with result := 1 }) ∧
        (k.state = .idle → s.dev.mgmtUp = true →
          (s.dev.locked = true → cls ∉ [2, 4, 7, 8] → ends (exec (.ceremonyBegin r) s) { k with result := 6 }) ∧
          (s.dev.locked = false → r.refused = true ∨ r.failed = true ∨ parmOk k.cfg k.paramLen r.data = false → ends (exec (.ceremonyBegin r) s) { k with result := 2 }) ∧
          (s.dev.locked = false → r.refused = false → r.failed = false → parmOk k.cfg k.paramLen r.data = true →
            let held := ∃ x ∈ s.dev.cus.cers, x.state ≠ .idle ∧ x.cls = cls ∧ x.domain = dom
            (held → ends (exec (.ceremonyBegin r) s) { k with result := 3 }) ∧
            (¬ held → s.dev.mgmtDrbg = false → ends (exec (.ceremonyBegin r) s) { k with result := 4 }) ∧
            (¬ held → s.dev.mgmtDrbg = true → ∃ u, exec (.ceremonyBegin r) s = .next u ∧ DevOnly s u ∧
              let x := u.dev.cer n
              x.state = .collecting ∧ x.cls = cls ∧ x.action = fld k.cfg 7 4 ∧ x.domain = dom ∧ x.id = (s.dev.mgmtNonce s.ctx).1 ∧ x.nonce = ((s.dev.mgmtNonce s.ctx).2.mgmtNonce s.ctx).1 ∧ x.beginSt = now
                ∧ x.apps = [] ∧ x.first = none ∧ x.result = 0 ∧ x.param = r.data.take k.paramLen)))) ∧
      (s.dev.mgmtUp = true →
        (∀ data read, let r := dmaRead data read; (k.state ≠ .collecting → ends (exec (.ceremonySubmit data read) s) { k with result := 1 }) ∧
          (k.state = .collecting → (r.refused = true ∨ r.failed = true → ends (exec (.ceremonySubmit data read) s) { k with result := 7 })) ∧
          (k.state = .collecting → r.refused = false → r.failed = false → now ≤ s.dev.windowEnd k → judged (exec (.ceremonySubmit data read) s) (s.dev.judgeApproval k r.data false))) ∧
        (k.state = .opened → done (exec .ceremonyEnd s) 0) ∧ (k.state ≠ .opened → ends (exec .ceremonyEnd s) { k with result := 1 }) ∧
        (k.state ≠ .idle → done (exec .ceremonyAbandon s) 14) ∧ (k.state = .idle → ends (exec .ceremonyAbandon s) { k with result := 1 }))) ∧
    (∀ port resp env, s.dev.endpointUp = true → s.dev.mgmtUp = true → k.state = .collecting →
      (∃ p ∈ s.dev.cus.ports, p.num = port ∧ p.state = .active) →
      (now ≤ s.dev.windowEnd k → judged (exec (.cardApproval n port resp env) s) (s.dev.judgeApproval k (resp ++ env) true)) ∧
      (s.dev.windowEnd k < now → done (exec (.cardApproval n port resp env) s) 12)) ∧
    (∀ resp loc, ((∀ r ∈ s.dev.cerRecords k, r.id ≠ le resp 0 8) → s.dev.judgeApproval k resp loc = .error 7) ∧
      (resp.length < 300 ∨ k.approvalSig resp = false → s.dev.judgeApproval k resp loc = .error 7) ∧
      (∀ a ∈ k.apps, a.id = le resp 0 8 → ∀ b, s.dev.judgeApproval k resp loc ≠ .ok b)) ∧
    (k.state = .collecting → (s.dev.windowEnd k < now → done (exec (.ceremonyWindowExpiry n) s) 12) ∧ (now ≤ s.dev.windowEnd k → exec (.ceremonyWindowExpiry n) s = .next s)) ∧
    (k.state = .opened → (k.openSt + 300000000000 ≤ now → done (exec (.ceremonyOpenTimeout n) s) 13) ∧ (now < k.openSt + 300000000000 → exec (.ceremonyOpenTimeout n) s = .next s))

/-- R445, R446, R454. -/
def Obligations.CardPorts : Prop :=
  ∀ (s : State) (n : Nat) (p : CardPort), n < 2 → s.dev.cus.ports.find? (fun x => x.num == n) = some p →
    let goes := fun (o : Host.Outcome State Fault Refusal) (q : CardPort) => ∃ u, o = .next u ∧ DevOnly s u ∧ u.dev.cardPort n = q ∧ u.dev.cus.cers = s.dev.cus.cers ∧ u.dev.key = s.dev.key
      ∧ ∀ m, m ≠ n → u.dev.cardPort m = s.dev.cardPort m
    (s.dev.endpointUp = true → p.present = false →
      goes (exec (.cardInsert n) s) { p with present := true, trying := if bit (s.dev.reg Off.cusPortCtrl) n then some false else none }) ∧
    (p.trying ≠ none →
      goes (exec (.cardAtrReceive n true) s) { p with state := .active, classB := p.trying.getD false, trying := none } ∧
      (∃ u, exec (.cardAtrReceive n true) s = .next u ∧ ∀ k ∈ s.dev.cus.cers, k.state = .collecting → Tx.card n k.challenge ∈ u.dev.tx) ∧
      goes (exec (.cardAtrReceive n false) s) { p with state := .unsupported, trying := none }) ∧
    (p.trying = none → exec (.cardAtrReceive n true) s = .next s ∧ exec (.cardAtrTimeout n) s = .next s) ∧
    (p.trying = some false → goes (exec (.cardAtrTimeout n) s) { p with trying := some true }) ∧
    (p.trying = some true → goes (exec (.cardAtrTimeout n) s) { p with state := .fault, trying := none }) ∧
    (p.present = true → goes (exec (.cardRemove n) s) { p with state := .empty, present := false, trying := none }
      ∧ ∃ u, exec (.cardRemove n) s = .next u ∧ bit (u.dev.reg Off.cusEvt) 0 = true)

/-- R467, R469 to R471, R473 to R476, R480, R482 to R484. -/
def Obligations.TamperResponses : Prop :=
  ∀ s : State,
    let t := s.dev.tmp
    let now := s.st.toNat
    let f := fun (det : Detection) => Detection.sources false t det
    (s.dev.pwr.powered = true → ∀ det, exec (.alarmDetection det) s = .next { s with dev := (Detection.sources false t det).foldl (fun (a : Dev) k => a.alarm s.ctx k) { s.dev with tmp := Detection.note false det t } }) ∧
    ((∀ ns, (40000 ≤ ns → f (.lid ns) = [2]) ∧ (ns < 20000 → f (.lid ns) = [])) ∧
      (∀ a b, f (.light a b) = if a && b then [3] else if a != b && t.lightDiff then [4] else []) ∧
      (∀ a b, (5 ∈ f (.temps a b) ↔ a < 432 ∨ 1012 < a ∨ b < 432 ∨ 1012 < b) ∧ (4 ∈ f (.temps a b) ↔ (a + 32 < b ∨ b + 32 < a) ∧ t.tempDiff = true)) ∧
      (∀ mv ns, (f (.volt 0 mv ns) = if 1050 < mv ∧ 1000 ≤ ns then [6] else []) ∧ (f (.volt 1 mv ns) = if 1980 < mv ∧ 1000 ≤ ns then [6] else []) ∧
        (f (.volt 2 mv ns) = if 3800 < mv ∧ 1000 ≤ ns then [6] else [])) ∧
      (∀ rail mv ns, rail < 3 → f (.glitch rail mv ns) = if 100 < mv ∧ ns < 50 then [7] else []) ∧
      (∀ hz gap, f (.sysclk hz gap) = if hz < 24500000 ∨ 25500000 < hz ∨ 200 ≤ gap then [8] else []) ∧
      (∀ ppm, f (.clock ppm) = if 50000 < ppm then [8] else []) ∧ (∀ x, f (.integrity x) = [9]) ∧ f .memory = [0x0A] ∧
      (∀ ns, (1000 ≤ ns → f (.zeroiseReq ns) = [0x0C]) ∧ (ns ≤ 200 → f (.zeroiseReq ns) = [])) ∧
      (∀ mv ms, f (.vbat mv ms) = if mv < 2450 ∧ 10 ≤ ms then [0x13] else []) ∧ ∀ us, f (.rtcStill us) = if 2000 ≤ us then [0x14] else []) ∧
    (∀ src, src < 32 →
      let cls := t.classes.getD src 0
      let e := s.dev.alarm s.ctx src
      (t.event = none → t.latched.getLsbD src = false →
        e.tmp.counts = bumpAt src t.counts ∧ (∃ x, e.tmp.event = some x ∧ x.st = now ∧ x.counts = [(src, 1)]) ∧ bit (e.reg Off.tmpEvt) 0 = true ∧
        (cls ≤ 1 → e.tmp.lock = t.lock ∧ e.tmp.zeroised = t.zeroised ∧ e.tmp.latched = t.latched ∧ e.key = s.dev.key ∧ e.cus = s.dev.cus) ∧
        (cls = 1 → e.reg Off.tmpNotify = s.dev.reg Off.tmpNotify ||| (1#32 <<< src)) ∧
        (2 ≤ cls → cls ≤ 3 → e.tmp.lock = true ∧ e.tmp.latched = t.latched ||| (1#32 <<< src)) ∧
        (cls = 2 → t.lock = false → e.tmp.zeroised = t.zeroised ∧ bit (e.reg Off.tmpEvt) 1 = true
          ∧ ∀ n k, n < 4 → s.dev.cus.cers.find? (fun x => x.num == n) = some k → k.state ≠ .idle → k.cls ∉ [2, 4, 7, 8] → (e.cer n).state = .idle ∧ (e.cer n).result = 15) ∧
        (cls = 3 → t.lock = false ∨ t.zeroised = false →
          e.tmp.zeroised = true ∧ e.key.bbkekVal = [] ∧ e.key.bbkek ≠ .valid ∧ e.key.cache = [] ∧ (∀ g ∈ e.rng.drbgs, g.state = .uninst) ∧ bit (e.reg Off.tmpEvt) 2 = true))) ∧
    (∀ src, src < 32 → exec (.alarmSourceClear src) s = .next { s with dev := { s.dev with tmp := { t with active := t.active &&& ~~~(1#32 <<< src) } } }) ∧
    (∀ x, t.event = some x → s.dev.pwr.powered = true →
      (x.st + 10000 < now → ∃ p, exec .alarmWindowClose s = .next { s with dev := ({ s.dev with tmp := { t with event := none } } : Dev).evidenceAt x.stamp false Ev.tamperEvent p }) ∧
      (now ≤ x.st + 10000 → exec .alarmWindowClose s = .next s)) ∧
    (∀ altered : DWord,
      (∀ k, k < 4 → ((shroudBad altered).getLsbD k = true ↔ ∃ i, i < 16 ∧ altered.getLsbD (16 * k + i) = true)) ∧
      (s.dev.pwr.powered = true → now < t.patternSt + 50000 → exec (.shroudPatternPeriod altered) s = .next s) ∧
      (s.dev.pwr.powered = false ∨ t.patternSt + 50000 ≤ now →
        ∃ l, let d : Dev := { s.dev with tmp := { t with lfsr := l, patternSt := now, badPattern := shroudBad altered } }
          let e : Dev := if shroudBad altered &&& t.badPattern = 0#4 then d else if s.dev.pwr.powered then d.alarm s.ctx 1 else d.battAlarm 1
          exec (.shroudPatternPeriod altered) s = .next { s with dev := e })) ∧
    (∀ v, HostMay s true Off.tmpCmd → exec (.hostZeroise v) s = .next { s with dev := if v = 0x2E500001#32 then s.dev.alarm s.ctx 0x0D else s.dev }) ∧
    (∀ det, (s.dev.pwr.powered = true → exec (.batteryAlarm det) s = .next s) ∧
      (s.dev.pwr.powered = false → exec (.batteryAlarm det) s = .next { s with dev := (Detection.sources true t det).foldl (fun (a : Dev) k => a.battAlarm k) { s.dev with tmp := Detection.note true det t } })) ∧
    (∀ src, src < 32 →
      let e := s.dev.battAlarm src
      let cls := t.classes.getD src 0
      e.regs = s.dev.regs ∧ e.tmp.lock = (t.lock || decide (2 ≤ cls)) ∧ e.tmp.zeroised = (t.zeroised || decide (cls = 3)) ∧
        (2 ≤ cls → e.tmp.latched = t.latched ||| (1#32 <<< src)) ∧ (cls < 2 → e.tmp.latched = t.latched) ∧
        (cls = 3 → e.key.bbkekVal = [] ∧ e.key.bbkek ≠ .valid) ∧ (cls ≠ 3 → e.key = s.dev.key)) ∧
    (s.dev.pwr.powered = true → t.pair = none ∨ t.pairSt + 1000000000 ≤ now →
      (s.dev.tim.state = .acquiring ∨ s.dev.tim.state = .locked ∨ s.dev.tim.state = .holdover →
        exec .rtcPairTimer s = .next { s with dev := { s.dev with tmp := { t with pair := some (now, t.rtc), pairSt := now } } }) ∧
      (s.dev.tim.state = .unset ∨ s.dev.tim.state = .freeRun → exec .rtcPairTimer s = .next s)) ∧
    (s.dev.pwr.powered = true → t.pair ≠ none → now < t.pairSt + 1000000000 → exec .rtcPairTimer s = .next s)

/-- R486 to R489, R491, R492. -/
def Obligations.TamperUnlock : Prop :=
  ∀ s : State,
    let t := s.dev.tmp
    let vend := ∃ i, i < 32 ∧ t.latched.getLsbD i = true ∧ alarmVendor i = true
    (∀ v, HostMay s true Off.tmpUnlock → bit v 0 = true →
      let refused := fun (r : Nat) => ∃ u, exec (.tamperUnlock v) s = .next u ∧ DevOnly s u ∧ u.dev.tmp = { t with unlockResult := r } ∧ bit (u.dev.reg Off.tmpEvt) 4 = true
      (s.dev.quorum Off.tmpUnlock v = false → exec (.tamperUnlock v) s = .next { s with dev := s.dev.ruleViolation s.ctx Off.tmpUnlock }) ∧
      (s.dev.quorum Off.tmpUnlock v = true →
        (t.lock = false → refused 1) ∧
        (t.lock = true →
          (t.latched &&& t.active ≠ 0#32 → refused 2) ∧
          (t.latched &&& t.active = 0#32 →
            (vend → t.tokenMask = none → refused 3) ∧
            ((¬ vend ∨ t.tokenMask ≠ none) →
              (t.zeroised = true → s.dev.key.store ≠ .ready → refused 4) ∧
              (t.zeroised = false ∨ s.dev.key.store = .ready →
                ∃ u, exec (.tamperUnlock v) s = .next u ∧ DevOnly s u ∧ bit (u.dev.reg Off.tmpEvt) 3 = true
                  ∧ u.dev.tmp = { t with lock := false, zeroised := false, latched := 0, tokenMask := none, unlockResult := 0, resume := true })))))) ∧
    (HostMay s true Off.tmpTokenCtrl →
      (s.dev.mgmtDrbg = true → ∃ u, exec .tmpNewNonce s = .next u ∧ DevOnly s u
        ∧ u.dev.tmp = { t with nonce := (s.dev.mgmtNonce s.ctx).1, nonceSt := s.st.toNat, nonceLive := true, tokenMask := none }) ∧
      (s.dev.mgmtDrbg = false → exec .tmpNewNonce s = .next { s with dev := { s.dev with tmp := { t with tokenStat := 5 } } }) ∧
      (∀ data read,
        let r := dmaRead data read
        let b := r.data
        let len := if le b 2 2 = 2 then 96 else 3309
        let form := r.refused = false ∧ r.failed = false ∧ le b 0 2 = 1 ∧ (le b 2 2 = 2 ∨ le b 2 2 = 3) ∧ le b 4 4 = len ∧ 48 + len ≤ b.length ∧ le b 36 12 = 0
        let bound := unitIdIs b 8 = true ∧ le b 24 8 = t.nonce.toNat
        let live := t.nonceLive = true ∧ s.st.toNat ≤ t.nonceSt + 600000000000
        let mask := ∀ i, i < 32 → t.latched.getLsbD i = true → alarmVendor i = true → le b 32 4 / 2 ^ i % 2 = 1
        let said := fun (t' : Tmp) => ∃ u, exec (.tmpTokenGo data read) s = .next u ∧ DevOnly s u ∧ u.dev.tmp = t' ∧ bit (u.dev.reg Off.tmpEvt) 6 = true
        (¬ form → said { t with tokenStat := 3 }) ∧
        (form → ¬ bound → said { t with tokenStat := 4 }) ∧
        (form → bound → ¬ live → said { t with tokenStat := 5 }) ∧
        (form → bound → live → ¬ mask → said { t with tokenStat := 6 }) ∧
        (form → bound → live → mask → said (if s.dev.nymjorSig s.ctx b then { t with tokenStat := 2, tokenMask := some (BitVec.ofNat 32 (le b 32 4)) } else { t with tokenStat := 3 }))))

/-- R493, R494, R496 to R498, R500, R511, R512, R569. -/
def Obligations.EvidenceLog : Prop :=
  ∀ s : State,
    let e := s.dev.evl
    let now := s.st.toNat
    (e.queue = [] ∨ e.exporting = true ∨ s.dev.endpointUp = false → exec .evidenceAppend s = .next s) ∧
    (∀ q t, s.dev.endpointUp = true → e.queue = q :: t → e.exporting = false → e.lost = 0 →
      (e.recs.length < 65535 → e.matchesLast q = false →
        ∃ u r, exec .evidenceAppend s = .next u ∧ DevOnly s u ∧ u.dev.evl = { e with queue := t, recs := r :: e.recs } ∧ r.typ = q.typ ∧ r.stamp = q.stamp ∧ r.repeats = 0
          ∧ r.link = e.nextLink ∧ bit (u.dev.reg Off.evlEvt) 0 = true) ∧
      (∀ r l, e.recs.length ≠ 65535 → e.recs.length < 65536 → e.recs = r :: l → e.matchesLast q = true →
        exec .evidenceAppend s = .next { s with dev := { s.dev with evl := { e with queue := t, recs := { r with repeats := min 0xFFFFFFFF (r.repeats + 1) } :: l } } }) ∧
      (e.recs.length = 65535 → ∃ u r, exec .evidenceAppend s = .next u ∧ DevOnly s u ∧ u.dev.evl = { e with queue := t, recs := r :: e.recs } ∧ r.typ = 0xFF ∧ r.repeats = 1
        ∧ fld (u.dev.reg Off.evlEvt) 1 0 = 3) ∧
      (∀ r l, 65536 ≤ e.recs.length → e.recs = r :: l → ∃ u p, exec .evidenceAppend s = .next u ∧ DevOnly s u
        ∧ u.dev.evl = { e with queue := t, recs := { r with repeats := min 0xFFFFFFFF (r.repeats + 1), payload := p } :: l })) ∧
    (s.dev.endpointUp = true →
      (s.dev.mem.mergeSt + 1000000 ≤ now → ∃ u, exec .mramMergeFlush s = .next u ∧ DevOnly s u ∧ u.dev.evl.head = e.recs.length ∧ (∀ r ∈ u.dev.evl.recs, r.stored = r.repeats)
        ∧ u.dev.evl.recs.length = e.recs.length ∧ u.dev.mem.mergeSt = now) ∧
      (now < s.dev.mem.mergeSt + 1000000 → exec .mramMergeFlush s = .next s)) ∧
    (∀ v, HostMay s true Off.evlExportCmd → bit v 0 = true →
      let ended := fun (o : Host.Outcome State Fault Refusal) (r : Nat) => ∃ u, o = .next u ∧ DevOnly s u ∧ u.dev.evl = { e with exporting := false, expResult := r } ∧ bit (u.dev.reg Off.evlEvt) 2 = true
      (s.dev.quorum Off.evlExportCmd v = false ∨ e.exporting = true → exec (.evidenceExport v) s = .next { s with dev := s.dev.ruleViolation s.ctx Off.evlExportCmd }) ∧
      (s.dev.quorum Off.evlExportCmd v = true → e.exporting = false →
        (s.otp.root = 0 → ended (exec (.evidenceExport v) s) 1) ∧
        (s.otp.root ≠ 0 → s.dev.erc.flushTo ≠ none → ended (exec (.evidenceExport v) s) 2) ∧
        (s.otp.root ≠ 0 → s.dev.erc.flushTo = none → s.dev.mgmtUp = false → ended (exec (.evidenceExport v) s) 4) ∧
        (s.otp.root ≠ 0 → s.dev.erc.flushTo = none → s.dev.mgmtUp = true → e.queue = [] → e.recs.length < 65535 →
          ∃ u r, exec (.evidenceExport v) s = .next u ∧ DevOnly s u ∧ u.dev.evl = { e with exporting := true, recs := r :: e.recs } ∧ r.typ = 0x70 ∧ r.link = e.nextLink))) ∧
    (∀ b, (e.exporting = false → exec (.exportDone b) s = .next s) ∧
      (e.exporting = true → ∃ u, exec (.exportDone b) s = .next u ∧ DevOnly s u ∧ u.dev.evl = { e with exporting := false, expResult := if b then 3 else 0 } ∧ bit (u.dev.reg Off.evlEvt) 2 = true
        ∧ (b = false → Tx.dma (BitVec.ofNat 64 (s.dev.reg64 Off.evlExportAddrLo)) (s.dev.summary s.ctx) ∈ u.dev.tx)))

/-- R502, R504, R506 to R509. -/
def Obligations.EventRecorder : Prop :=
  ∀ s : State,
    let e := s.dev.erc
    let now := s.st.toNat
    let co := fld (s.dev.reg Off.ercCtrl) 19 0 * 1000
    (∀ trig det, det.length = 32 →
      let d := s.dev.record s.ctx trig det
      (∀ r l, e.ring = r :: l → r.trig = trig → r.detail = det → co ≠ 0 → now ≤ r.lastNs + co →
        d = { s.dev with erc := { e with ring := { r with count := min 0xFFFFFFFF (r.count + 1), last := s.dev.stamp s.ctx, lastNs := now } :: l } }) ∧
      ((∀ r ∈ e.ring.head?, ¬ (r.trig = trig ∧ r.detail = det ∧ co ≠ 0 ∧ now ≤ r.lastNs + co)) →
        ∃ r, d.erc = { e with seq := e.seq + 1, ring := r :: e.ring.take 1023 } ∧ r.trig = trig ∧ r.detail = det ∧ r.first = s.dev.stamp s.ctx ∧ r.flushed = false ∧ bit (d.reg Off.ercEvt) 0 = true)) ∧
    (HostMay s true Off.ercCmd →
      (e.flushTo = none → exec .recorderFlush s = .next { s with dev := ({ s.dev with erc := { e with flushTo := some e.seq } } : Dev).fwReady s.ctx 3 }) ∧
      (e.flushTo ≠ none → exec .recorderFlush s = .next { s with dev := s.dev.ruleViolation s.ctx Off.ercCmd }) ∧
      exec .hostMark s = .next { s with dev := s.dev.record s.ctx 0x0F (toLe 4 (s.dev.reg Off.ercMark).toNat) }) ∧
    (∀ n, e.flushTo = some n → s.dev.pwr.powered = true → s.dev.pwr.held = none →
      ∃ u, exec .recorderFlushDone s = .next u ∧ DevOnly s u ∧ u.dev.erc.flushTo = none ∧ u.dev.erc.ring.length = e.ring.length ∧ bit (u.dev.reg Off.ercEvt) 1 = true
        ∧ (∀ r ∈ u.dev.erc.ring, r.seq % 2 ^ 40 ≤ n → r.flushed = true)
        ∧ u.dev.erc.mram = (e.ring.filter (fun r => !r.flushed && decide (r.seq % 2 ^ 40 ≤ n)) ++ e.mram).take 2048) ∧
    (e.flushTo = none → exec .recorderFlushDone s = .next s) ∧
    (∀ v, HostMay s true Off.ercClear → bit v 0 = true →
      (s.dev.quorum Off.ercClear v = false → exec (.recorderClear v) s = .next { s with dev := s.dev.ruleViolation s.ctx Off.ercClear }) ∧
      (s.dev.quorum Off.ercClear v = true → ∃ u, exec (.recorderClear v) s = .next u ∧ DevOnly s u ∧ u.dev.erc = { e with ring := [], mram := [], wrapped := false, flushTo := none }
        ∧ bit (u.dev.reg Off.ercEvt) 2 = true
        ∧ (s.dev.evl.queue.length < 32 → ∃ q, u.dev.evl.queue = s.dev.evl.queue ++ [q] ∧ q.typ = 0x71)))

/-- R523 to R529. -/
def Obligations.LifeCycleSteps : Prop :=
  ∀ s : State,
    (∀ data read, HostMay s true Off.lcsReqCtrl →
      let r := dmaRead data read
      let b := r.data
      let form := r.refused == false && r.failed == false && decide (48 ≤ b.length) && le b 0 2 == 1 && (le b 2 2 == 2 || le b 2 2 == 3) && allZero (bsub b 30 18)
      let sig := le b 4 4 == (if le b 2 2 = 2 then 96 else 3309) && decide (48 + le b 4 4 ≤ b.length) && s.dev.nymjorSig s.ctx b
      let bound := unitIdIs b 8 && le b 24 4 == s.otp.counter
      let path := byteAt b 28 == s.otp.state.code && !s.otp.inTransition && decide (byteAt b 28 < 5) && (byteAt b 29 == byteAt b 28 + 1 || byteAt b 29 == 5)
      let f := if !form then 1 else if !sig then 2 else if !bound then 3 else if !path then 4 else if 64 ≤ s.otp.counter then 5 else 0
      ∃ u, exec (.lcRequestLoad data read) s = .next u ∧ DevOnly s u ∧ bit (u.dev.reg Off.lcsEvt) 0 = true
        ∧ u.dev.lcs = { s.dev.lcs with reqResult := f, reqLoaded := if f = 0 then some (byteAt b 29, s.otp.counter) else none }) ∧
    (∀ v, HostMay s true Off.lcsGo →
      let guarded := s.otp.state = .field ∨ s.otp.state = .fieldReturn
      let busy := s.dev.ringsDefined ≠ 0 ∨ s.dev.fab.pair.role ≠ .unpaired ∨ s.dev.warning = true
      let ended := fun (r : Nat) => ∃ u, exec (.lcGo v) s = .next u ∧ DevOnly s u ∧ u.dev.lcs = { s.dev.lcs with goResult := r } ∧ u.dev.reg Off.lcsGo = v &&& 0x8000FF07#32
      (guarded → s.dev.quorum Off.lcsGo v = false → exec (.lcGo v) s = .next { s with dev := s.dev.ruleViolation s.ctx Off.lcsGo }) ∧
      (¬ guarded ∨ s.dev.quorum Off.lcsGo v = true → bit v 31 = true →
        (s.dev.lcs.reqLoaded = none → ended 1) ∧
        (∀ t n, s.dev.lcs.reqLoaded = some (t, n) →
          (fld v 2 0 ≠ t ∨ fld v 15 8 ≠ n → ended 2) ∧
          (fld v 2 0 = t → fld v 15 8 = n → busy → ended 3) ∧
          (fld v 2 0 = t → fld v 15 8 = n → ¬ busy → s.otp.state ≠ .blank → s.dev.lcs.report = none →
            ∃ u, exec (.lcGo v) s = .next u ∧ u.st = s.st ∧ u.mem = s.mem ∧ u.pending = s.pending ∧ u.otp = { s.otp with recs := s.otp.recs ++ [(1#32 <<< (t - 1)) ||| 0x300#32] }
              ∧ u.dev.pwr.stage = 1 ∧ u.dev.pwr.cause = 2 ∧ u.dev.lcs.report = some (s.otp.state.code, t) ∧ u.dev.lcs.reqLoaded = none))))

/-- R517, R534 to R539, R557, R560. -/
def Obligations.DebugScope : Prop :=
  ∀ s : State,
    let l := s.dev.lcs
    let now := s.st.toNat
    let ends := fun (o : Host.Outcome State Fault Refusal) (l' : Lcs) => ∃ u, o = .next u ∧ DevOnly s u ∧ u.dev.lcs = l' ∧ bit (u.dev.reg Off.lcsEvt) 3 = true
    (HostMay s true Off.lcsDbgCmd →
      (s.otp.both LcState.reopens = false → ends (exec .debugChallenge s) { l with dbgResult := 1 }) ∧
      (s.otp.both LcState.reopens = true → s.dev.mgmtDrbg = false → ends (exec .debugChallenge s) { l with dbgResult := 2 }) ∧
      (s.otp.both LcState.reopens = true → s.dev.mgmtDrbg = true → ends (exec .debugChallenge s) { l with
        dbgResult := 0
        chal := some { nonce := (s.dev.mgmtNonce s.ctx).1, state := s.otp.state.code, scope := fld (s.dev.reg Off.lcsDbgReq) 1 0, issued := now, stamp := s.dev.stamp s.ctx } }) ∧
      (l.scope ≠ 0 → ∃ u, exec .debugClose s = .next u ∧ DevOnly s u ∧ u.dev.lcs = { l with scope := 0, expiry := 0 } ∧ bit (u.dev.reg Off.lcsEvt) 2 = true ∧ (s.dev.pwr.mgmtHalt = [true, false] → u.dev.pwr.mgmtHalt = [false, false] ∧ u.dev.pwr.mgmtOk.getD 0 true = true)) ∧
      (l.scope = 0 → exec .debugClose s = .next s)) ∧
    (l.scope ≠ 0 → (l.expiry ≤ now → ∃ u, exec .debugExpiry s = .next u ∧ DevOnly s u ∧ u.dev.lcs = { l with scope := 0, expiry := 0 }) ∧ (now < l.expiry → exec .debugExpiry s = .next s)) ∧
    (∀ data read, HostMay s true Off.lcsDbgTokenCtrl →
      let r := dmaRead data read
      let b := r.data
      let form := r.refused == false && r.failed == false && le b 0 2 == 1 && (le b 2 2 == 2 || le b 2 2 == 3) && le b 4 4 == (if le b 2 2 = 2 then 96 else 3309) && decide (48 + le b 4 4 ≤ b.length)
        && decide (1 ≤ le b 36 4 ∧ le b 36 4 ≤ 86400) && allZero (bsub b 34 2) && allZero (bsub b 40 8)
      ends (exec (.debugTokenGo data read) s)
        (if !form || !s.dev.nymjorSig s.ctx b then { l with dbgResult := 3 }
        else match l.chal with
          | none => { l with dbgResult := 4 }
          | some k =>
            if !unitIdIs b 8 || le b 24 8 != k.nonce.toNat || byteAt b 32 != k.state || byteAt b 33 != k.scope then { l with dbgResult := 4 }
            else if k.used = true ∨ k.issued + 600000000000 < now then { l with dbgResult := 5 }
            else { l with dbgResult := 6, resp := some (k.scope, le b 36 4, k.nonce.toNat % 65536), chal := some { k with used := true } })) ∧
    (∀ v, HostMay s true Off.lcsDbgOpen →
      let viol := exec (.debugOpen v) s = .next { s with dev := s.dev.ruleViolation s.ctx Off.lcsDbgOpen }
      (l.resp = none → viol) ∧
      (∀ scope life nonce, l.resp = some (scope, life, nonce) →
        (fld v 1 0 ≠ scope ∨ fld v 31 16 ≠ nonce → viol) ∧
        (fld v 1 0 = scope → fld v 31 16 = nonce →
          (s.otp.state ≠ .factoryLocked → s.dev.quorum Off.lcsDbgOpen v = false → viol) ∧
          (s.otp.state = .factoryLocked ∨ s.dev.quorum Off.lcsDbgOpen v = true →
            ∃ u, exec (.debugOpen v) s = .next u ∧ DevOnly s u ∧ u.dev.lcs = { l with resp := none, scope := scope, expiry := now + life * 1000000000 } ∧ bit (u.dev.reg Off.lcsEvt) 1 = true)))) ∧
    (∀ w addr data,
      let n := min 4096 data.length
      let need := if w then 2 else 1
      (s.dev.pwr.powered = false ∨ s.dev.dbgScope s.otp < need → exec (.debugAccess w addr data none) s = .next s) ∧
      (s.dev.pwr.powered = true → need ≤ s.dev.dbgScope s.otp →
        ((∃ i, i < n ∧ (s.dev.gate s.ctx Mst.debug w (addr + i)).ok = false) →
          ∃ u, exec (.debugAccess w addr data none) s = .next u ∧ DevOnly s u ∧ u.dev.acc.dbgError = true ∧
            (w = false → ∃ b, Tx.debug b ∈ u.dev.tx ∧ u.dev.rdata = BitVec.ofNat 64 (le b 0 8) ∧ b.length = n ∧ ∀ i, i < n → (s.dev.gate s.ctx Mst.debug w (addr + i)).ok = false → byteAt b i = 0)) ∧
        ((∀ i, i < n → (s.dev.gate s.ctx Mst.debug w (addr + i)).ok = true) → 0x04000000 ≤ addr →
          (w = false → 0x05000000 ≤ addr → addr + n ≤ 0x20000000 →
            let b := (List.range n).map (fun i => Memory.read s.mem (addr + i))
            exec (.debugAccess w addr data none) s = .next { s with dev := { s.dev with
              acc := { s.dev.acc with dbgError := false }
              rdata := BitVec.ofNat 64 (le b 0 8)
              tx := .debug b :: s.dev.tx } }) ∧
          (w = true → 0 < n → (∀ i, i < n → s.dev.writable (addr + i) = true) →
            exec (.debugAccess w addr data none) s = .next { s with dev := { s.dev with acc := { s.dev.acc with dbgError := false } }, mem := Memory.writeBytes s.mem addr (data.take n) })))) ∧
    (∀ w addr data p, p < 2 → s.dev.pwr.mgmtOk.length = 2 → s.dev.pwr.mgmtHalt.length = 2 →
      (s.dev.pwr.powered = false ∨ s.dev.dbgScope s.otp < 2 → ∀ h, exec (.debugAccess w addr data (some (p, h))) s = .next s) ∧
      (s.dev.pwr.powered = true → 2 ≤ s.dev.dbgScope s.otp →
        (s.dev.pwr.mgmtOk = [true, true] →
          ∃ u, exec (.debugAccess w addr data (some (p, true))) s = .next u ∧ DevOnly s u ∧ u.dev.pwr = { s.dev.pwr with mgmtOk := s.dev.pwr.mgmtOk.set p false, mgmtHalt := s.dev.pwr.mgmtHalt.set p true }
            ∧ u.dev.mgmtUp = true ∧ u.dev.jnl = s.dev.jnl ∧ u.dev.dsp.items = s.dev.dsp.items ∧ u.dev.regs = s.dev.regs) ∧
        (s.dev.pwr.mgmtHalt.getD p false = true →
          ∃ u, exec (.debugAccess w addr data (some (p, false))) s = .next u ∧ DevOnly s u ∧ u.dev.pwr = { s.dev.pwr with mgmtHalt := s.dev.pwr.mgmtHalt.set p false, mgmtOk := s.dev.pwr.mgmtOk.set p true }
            ∧ u.dev.tmp = { s.dev.tmp with active := s.dev.tmp.active &&& ~~~(1#32 <<< 0x10) } ∧ u.dev.jnl = s.dev.jnl ∧ u.dev.dsp.items = s.dev.dsp.items ∧ u.dev.regs = s.dev.regs)))

/-- R517, R519, R533, R540, R628. -/
def Obligations.TestPort : Prop :=
  ∀ s : State,
    let l := s.dev.lcs
    let jt := fun (o : Host.Outcome State Fault Refusal) (l' : Lcs) (t : List Tx) => o = .next { s with dev := { s.dev with lcs := l', tx := t ++ s.dev.tx } }
    (s.dev.pwr.powered = true →
      (∀ b, jt (exec (.jtagBypass b) s) { l with bypass := b, jtag := 0 } [.tdo 1 (if l.jtag = 0 ∧ l.bypass = true then 1 else 0)]) ∧
      (∃ x, jt (exec .jtagIdcode s) { l with jtag := 1 } [.tdo 32 x] ∧ x % 2 ^ 12 = 0x9C7 ∧ x / 2 ^ 12 % 2 ^ 16 = 0x7160) ∧
      (∀ p q, jt (exec (.jtagSamplePreload p q) s) { l with bscan := p, preload := q, jtag := 2 } [.tdo (8 * p.length) (le p 0 p.length)]) ∧
      (∀ p, jt (exec (.jtagExtest p) s) { l with bscan := p, jtag := 3 } [.tdo (8 * p.length) (le p 0 p.length)]) ∧
      jt (exec .jtagClamp s) { l with bypass := false, jtag := 4 } [] ∧ jt (exec .jtagHighz s) { l with bypass := false, jtag := 5 } []) ∧
    (s.dev.pwr.powered = false → ∀ c, (∃ b, c = Instr.jtagBypass b) ∨ c = .jtagIdcode ∨ (∃ p q, c = .jtagSamplePreload p q) ∨ (∃ p, c = .jtagExtest p) ∨ c = .jtagClamp ∨ c = .jtagHighz → exec c s = .next s) ∧
    (s.dev.pwr.powered = true → s.otp.testsAllowed = true → s.dev.ringsDefined = 0 →
      exec (.memoryTestMode true) s = .next { s with dev := { s.dev with lcs := { l with memTest := true } } }) ∧
    exec (.memoryTestMode false) s = .next s ∧
    (s.otp.testsAllowed = false → exec (.memoryTestMode true) s = .next s) ∧
    (∀ g w v,
      (s.otp.state = .blank → s.otp.inTransition = false → s.otp.openRec = none → s.dev.pwr.powered = true → 4 * w < fuseBytes g →
        ∃ u, exec (.fuseProgram g w v) s = .next u ∧ u.st = s.st ∧ u.dev = s.dev ∧ u.mem = s.mem ∧ u.pending = s.pending ∧ u.otp.word g w = s.otp.word g w ||| v
          ∧ (∀ g' w', (g', w') ≠ (g, w) → u.otp.word g' w' = s.otp.word g' w') ∧ u.otp.copyA = s.otp.copyA ∧ u.otp.copyB = s.otp.copyB ∧ u.otp.recs = s.otp.recs) ∧
      (s.otp.state ≠ .blank ∨ s.otp.inTransition = true → exec (.fuseProgram g w v) s = .next s))

/-- R546, R550 to R554, R559, R563. -/
def Obligations.AccessRules : Prop :=
  ∀ s : State,
    let a := s.dev.acc
    let fits := fun (r : Region) => 12 ≤ r.size ∧ r.size ≤ 40 ∧ r.base % 2 ^ r.size = 0
    (HostMay s true Off.accCommit →
      (a.older ≠ none → exec .accCommit s = .next { s with dev := s.dev.ruleViolation s.ctx Off.accCommit } ∧ exec .accDiscard s = .next { s with dev := s.dev.ruleViolation s.ctx Off.accCommit }) ∧
      (a.older = none →
        ((∀ i, i < 64 → bit (a.staged.getD i {}).cfg 0 = true → fits (a.staged.getD i {})) →
          exec .accCommit s = .next { s with dev := { s.dev with acc := { a with committed := a.staged, older := some a.committed, epoch := (a.epoch + 1) % 65536, result := 0 } } }) ∧
        (∀ i, i < 64 → bit (a.staged.getD i {}).cfg 0 = true → ¬ fits (a.staged.getD i {}) → (∀ j, j < i → bit (a.staged.getD j {}).cfg 0 = true → fits (a.staged.getD j {})) →
          ∃ u, exec .accCommit s = .next u ∧ DevOnly s u ∧ u.dev.acc = { a with result := 1, badRgn := i } ∧ bit (u.dev.reg Off.accEvt) 1 = true) ∧
        exec .accDiscard s = .next { s with dev := { s.dev with acc := { a with staged := a.committed } } })) ∧
    (a.older ≠ none → ∃ u, exec .commitReplicated s = .next u ∧ DevOnly s u ∧ u.dev.acc = { a with older := none } ∧ bit (u.dev.reg Off.accEvt) 1 = true) ∧
    (a.older = none → exec .commitReplicated s = .next s) ∧
    (HostMay s true Off.accFence →
      (a.fence = false → exec .accFenceStart s = .next { s with dev := { s.dev with acc := { a with fence := true, fenceEpoch := a.epoch } } }) ∧
      (a.fence = true → exec .accFenceStart s = .next { s with dev := s.dev.ruleViolation s.ctx Off.accFence })) ∧
    (a.fence = true →
      (a.older = none ∨ a.fenceEpoch ≠ a.epoch → ∃ u, exec .accFenceDone s = .next u ∧ DevOnly s u ∧ u.dev.acc = { a with fence := false } ∧ bit (u.dev.reg Off.accEvt) 2 = true) ∧
      (a.older ≠ none → a.fenceEpoch = a.epoch → exec .accFenceDone s = .next s)) ∧
    (HostMay s true Off.accViolStat →
      ∃ u, exec .violationClear s = .next u ∧ DevOnly s u ∧ u.dev.acc = { a with viol := a.viol &&& ~~~1#32 } ∧ u.dev.reg Off.accViolMore = 0#32)

/-- R17, R565 to R568, R574, R580, R581, R583, R605, R606. -/
def Obligations.Scrubs : Prop :=
  ∀ s : State,
    let m := s.dev.mem
    let up := fun (w : Word) => BitVec.ofNat 32 (min 0xFFFFFFFF (w.toNat + 1))
    (∀ a, exec (.sramScrub a 0) s = .next s ∧ exec (.mramScrub a 0) s = .next s) ∧
    (s.dev.endpointUp = true →
      (∀ a, (0x08000000 ≤ a ∧ a < 0x09800000) ∨ (0x10000000 ≤ a ∧ a < 0x10600000) →
        (∃ u, exec (.sramScrub a 1) s = .next u ∧ DevOnly s u ∧ u.dev = { s.dev with regs := u.dev.regs, mem := u.dev.mem } ∧ u.dev.reg Off.memCeSram = up (s.dev.reg Off.memCeSram)
          ∧ u.dev.mem.lastAddr = a ∧ u.dev.mem.ueSram = m.ueSram) ∧
        (∀ n, 2 ≤ n → ∃ u, exec (.sramScrub a n) s = .next u ∧ DevOnly s u ∧ u.dev.mem.ueSram = m.ueSram + 1 ∧ u.dev.mem.lastAddr = a ∧ bit (u.dev.reg Off.memEvt) 1 = true)) ∧
      (∀ a n, 0x18000000 ≤ a → a < 0x18C00000 →
        (n % 2 = 1 → ∃ u, exec (.sramScrub a n) s = .next u ∧ DevOnly s u ∧ u.dev.mem.ueSram = m.ueSram + 1 ∧ u.dev.mem.lastAddr = a ∧ bit (u.dev.reg Off.memEvt) 1 = true) ∧
        (n % 2 = 0 → exec (.sramScrub a n) s = .next s)) ∧
      (∀ a r, a < 0x08000000 ∨ 0x20000000 ≤ a → exec (.sramScrub a r) s = .next s) ∧
      (∀ o, o < 0x1000000 →
        (∀ n, n = 1 ∨ n = 2 → ∃ u, exec (.mramScrub (0x20000000 + o) n) s = .next u ∧ DevOnly s u ∧ u.dev = { s.dev with regs := u.dev.regs, mem := u.dev.mem }
          ∧ u.dev.reg Off.memCeMram = up (s.dev.reg Off.memCeMram) ∧ u.dev.mem.lastAddr = 0x20000000 + o) ∧
        (∀ n, 3 ≤ n → ∃ u, exec (.mramScrub (0x20000000 + o) n) s = .next u ∧ DevOnly s u ∧ u.dev.mem.ueMram = m.ueMram + 1 ∧ bit (u.dev.reg Off.memEvt) 1 = true
          ∧ (0xEA0000 ≤ o → o < 0xEB0000 → u.dev.cfg = { s.dev.cfg with a := none }) ∧ (0xEB0000 ≤ o → o < 0xEC0000 → u.dev.cfg = { s.dev.cfg with b := none })
          ∧ (0xD00000 ≤ o → o < 0xE00000 → ∀ x, s.dev.jnl.anchor = some x → u.dev.jnl.anchor = some { x with crcOk := false }))) ∧
      (∀ a r, a < 0x20000000 ∨ 0x21000000 ≤ a → exec (.mramScrub a r) s = .next s) ∧
      (m.ddrReady = true → ∀ a, ddrBase ≤ a → a < ddrBase + m.installed →
        let lost := fun (o : Host.Outcome State Fault Refusal) => ∃ u, o = .next u ∧ DevOnly s u ∧ u.dev.mem.ueDdr = m.ueDdr + 1 ∧ u.dev.mem.lastAddr = a ∧ u.dev.tmp.counts = bumpAt 0x0A s.dev.tmp.counts
        (a - ddrBase + 128 < m.installed → exec (.ddrPatrolScrub a [] true) s = .next s) ∧
        (∀ k, ∃ u, exec (.ddrPatrolScrub a [k] true) s = .next u ∧ DevOnly s u ∧ u.dev.reg Off.memCeDdr = up (s.dev.reg Off.memCeDdr) ∧ u.dev.mem.lastAddr = a ∧ u.dev.tmp = s.dev.tmp) ∧
        (∀ j k, j ≠ k → ∀ ok, lost (exec (.ddrPatrolScrub a [j, k] ok) s)) ∧ lost (exec (.ddrPatrolScrub a [] false) s) ∧ (∀ k, lost (exec (.ddrPatrolScrub a [k] false) s)) ∧
        (m.installed ≤ a - ddrBase + 128 → ∀ bad ok, ∃ u, exec (.ddrPatrolScrub a bad ok) s = .next u ∧ DevOnly s u ∧ bit (u.dev.reg Off.memEvt) 3 = true
          ∧ u.dev.reg Off.memScrubStat = up (s.dev.reg Off.memScrubStat)))) ∧
    (∀ n, n < 2 → s.dev.pwr.mgmtOk.length = 2 → s.dev.endpointUp = true →
      (s.dev.pwr.mgmtOk.getD n false = true → ∃ u, exec (.mgmtDisagree n) s = .next u ∧ DevOnly s u ∧ u.dev.pwr.mgmtOk = s.dev.pwr.mgmtOk.set n false ∧ u.dev.erc.flushTo ≠ none
        ∧ u.dev.tmp.counts = (if s.dev.pwr.mgmtOk.getD (1 - n) false then s.dev.tmp.counts else bumpAt 0x10 s.dev.tmp.counts)) ∧
      (s.dev.pwr.mgmtOk.getD n false = false → exec (.mgmtDisagree n) s = .next s ∧ (s.dev.pwr.mgmtHalt.getD n false = false →
        exec (.mgmtPairResetDone n) s = .next { s with dev := { (s.dev.fwAdvance s.ctx) with
          pwr := { s.dev.pwr with mgmtOk := s.dev.pwr.mgmtOk.set n true }
          tmp := { s.dev.tmp with active := s.dev.tmp.active &&& ~~~(1#32 <<< 0x10) } } }))) ∧
    (HostMay s true Off.cfgCmd →
      (s.dev.cfg.job ≠ none → exec .configSave s = .next { s with dev := s.dev.ruleViolation s.ctx Off.cfgCmd }) ∧
      (s.dev.cfg.job = none → s.dev.mgmtUp = false → exec .configSave s = .next { s with dev := { s.dev with cfg := { s.dev.cfg with result := 3 } } }) ∧
      (s.dev.cfg.job = none → s.dev.mgmtUp = true → ∃ u b, exec .configSave s = .next u ∧ DevOnly s u ∧ u.dev = { s.dev with cfg := u.dev.cfg } ∧ u.dev.cfg.job = some b ∧ b.entries = s.dev.capture
        ∧ b.gen = (s.dev.cfg.newest.elim 0 (fun x => x.gen)) + 1 ∧ u.dev.cfg.newest = s.dev.cfg.newest)) ∧
    (∀ b, s.dev.cfg.job = some b →
      (∃ u, exec (.configSaveDone true) s = .next u ∧ DevOnly s u ∧ u.dev.cfg.job = none ∧ u.dev.cfg.result = 0 ∧ (u.dev.cfg.a = some b ∨ u.dev.cfg.b = some b)) ∧
      exec (.configSaveDone false) s = .next { s with dev := { s.dev with cfg := { s.dev.cfg with job := none, result := 1 } } }) ∧
    (s.dev.cfg.job = none → ∀ ok, exec (.configSaveDone ok) s = .next s)

/-- R585 to R587, R591 to R593, R597. -/
def Obligations.GrovesAndPower : Prop :=
  ∀ s : State,
    let d := s.dev
    (∀ g, g < 12 → HostMay s true Off.pwrGroveEn →
      (bit (d.reg Off.pwrGroveEn) g = false → d.groveOn g = false → d.warning = false → d.domWaking (216 + g) = false →
        ∃ u, exec (.groveEnable g) s = .next u ∧ DevOnly s u ∧ u.dev.domWaking (216 + g) = true ∧ bit (u.dev.reg Off.pwrGroveEn) g = true ∧ u.dev.lan = d.lan ∧ u.dev.dsp = d.dsp) ∧
      (bit (d.reg Off.pwrGroveEn) g = true → d.groveOn g = true → (∀ i ∈ d.dsp.items, i.grove = g → i.ds ≠ .running ∧ i.ds ≠ .suspended) →
        (∃ x, d.lan.groves.find? (fun y => y.num == g) = some x) →
        ∃ u, exec (.groveDisable g) s = .next u ∧ DevOnly s u ∧ u.dev.groveOn g = false ∧ (u.dev.grove g).state = .gated ∧ bit (u.dev.reg Off.pwrGroveEn) g = false) ∧
      (bit (d.reg Off.pwrGroveEn) g = true → d.groveOn g = true → (∃ i ∈ d.dsp.items, i.grove = g ∧ i.ds = .running ∧ i.spill = none) →
        ∀ x, d.lan.groves.find? (fun y => y.num == g) = some x → x.state = .inService →
        ∃ u, exec (.groveDisable g) s = .next u ∧ DevOnly s u ∧ u.dev.groveOn g = true ∧ (u.dev.grove g).draining = true ∧ (u.dev.grove g).state = .inService)) ∧
    (∀ n x, d.pwr.doms.find? (fun y => y.num == n && y.state == 1) = some x →
      (x.step < 3 → ∃ u, exec (.domainWakeDone n) s = .next u ∧ DevOnly s u ∧ u.dev.domWaking n = true ∧ u.dev.pwr.groveOn = d.pwr.groveOn) ∧
      (3 ≤ x.step → ∃ u, exec (.domainWakeDone n) s = .next u ∧ DevOnly s u ∧ u.dev.domWaking n = false ∧ (216 ≤ n → n < 228 → u.dev.groveOn (n - 216) = true)
        ∧ (n < 216 ∨ 228 ≤ n → u.dev.pwr.groveOn = d.pwr.groveOn)) ∧
      (∃ u, exec (.domainWakeTimeout n) s = .next u ∧ DevOnly s u ∧ u.dev.domWaking n = false ∧ (∃ y ∈ u.dev.pwr.doms, y.num = n ∧ y.fault = true) ∧ bit (u.dev.reg Off.pwrEvt) 5 = true
        ∧ (216 ≤ n → n < 228 → (∃ y, d.lan.groves.find? (fun z => z.num == n - 216) = some y) → (u.dev.grove (n - 216)).state = .failed))) ∧
    (∀ n, d.domWaking n = false → exec (.domainWakeDone n) s = .next s ∧ exec (.domainWakeTimeout n) s = .next s) ∧
    (∀ mv, (d.pwr.powered = true → mv < 930 → exec (.boostVoltageDrop mv) s = .next { s with dev := { d with pwr := { d.pwr with groveOp := d.pwr.groveOp.map (fun x => min 2 x) } } }) ∧
      (930 ≤ mv → exec (.boostVoltageDrop mv) s = .next s)) ∧
    (∀ mv w, (s.st.toNat < d.pwr.evalSt + 100000 ∨ d.locked = true ∨ d.warning = true ∨ d.mgmtUp = false → exec (.dvfsEvaluation mv w) s = .next s) ∧
      (d.endpointUp = true → d.mgmtUp = true → d.warning = false → d.locked = false → d.past 6 = true → d.pwr.evalSt + 100000 ≤ s.st.toNat →
        ∃ u, exec (.dvfsEvaluation mv w) s = .next u ∧ DevOnly s u ∧ u.dev.pwr.evalSt = s.st.toNat ∧ u.dev.lan = d.lan ∧ u.dev.key = d.key ∧ u.dev.jnl = d.jnl ∧
          (∀ g, g < 12 → (d.grove g).state = .inService → u.dev.pwr.groveOp.getD g 0 ≤ fld (d.reg Off.pwrGovCtrl) 1 0) ∧
          (∀ g, g < 12 → (d.grove g).state ≠ .inService → u.dev.pwr.groveOp.getD g 0 = d.pwr.groveOp.getD g 0) ∧
          (mv < 930 ∨ bit (d.reg Off.pwrGovCtrl) 4 = false → ∀ g, g < 12 → (d.grove g).state = .inService → u.dev.pwr.groveOp.getD g 0 ≤ 2) ∧
          (fld (d.reg Off.pwrPowerCap) 7 0 < w → bit (u.dev.reg Off.pwrEvt) 6 = true)))

/-- R114 to R116, R118, R119, R594, R596, R597. -/
def Obligations.SupplyWarnings : Prop :=
  ∀ s : State,
    let d := s.dev
    let now := s.st.toNat
    (∀ p mv,
      (p = false → 900 ≤ mv → exec (.supplyWarning p mv) s = .next s) ∧
      (d.pwr.powered = true → d.warning = false → p = true ∨ mv < 900 →
        ∃ u, exec (.supplyWarning p mv) s = .next u ∧ DevOnly s u ∧ u.dev.warning = true ∧ u.dev.pwr.warnSt = now ∧ u.dev.pwr.warnStage = d.pwr.stage ∧ u.dev.pwr.stage = d.pwr.stage ∧ bit (u.dev.reg Off.pwrEvt) 0 = true
          ∧ (∀ x ∈ u.dev.pwr.groveOp, x ≤ 2) ∧ u.dev.key.promote = none ∧ u.dev.cfg.job = none
          ∧ ∀ i ∈ u.dev.dsp.items, i.ds = .running → i.readback = false → i.pke ≠ .engine ∧ i.pke ≠ .between) ∧
      (d.pwr.powered = true → d.warning = true → p = true ∨ mv < 900 →
        exec (.supplyWarning p mv) s = .next { s with dev := { d with pwr := { d.pwr with
          warnCore := d.pwr.warnCore || !p, warnPfail := d.pwr.warnPfail || p, vmin := min d.pwr.vmin mv } } })) ∧
    (d.warning = true → d.endpointUp = true →
      (now < d.pwr.warnSt + 20000 → (∃ t ∈ d.lan.twins, t.running ≠ none) → exec .anchorFlushStart s = .next s) ∧
      (d.pwr.warnSt + 20000 ≤ now ∨ (∀ t ∈ d.lan.twins, t.running = none) →
        ∃ u, exec .anchorFlushStart s = .next u ∧ DevOnly s u ∧ (∀ g, g < 12 → u.dev.groveOn g = false)
          ∧ (8 < d.pwr.warnStage → d.jnl.recovering = false → d.jnl.flushBusy = false → d.jnl.flushDone = false → u.dev.jnl.flushBusy = true ∧ u.dev.jnl.flushStart = now)
          ∧ (d.pwr.warnStage ≤ 8 → u.dev.jnl.flushBusy = d.jnl.flushBusy))) ∧
    (d.warning = false → exec .anchorFlushStart s = .next s) ∧
    (d.jnl.flushBusy = true → ∃ u a, exec .anchorFlushDone s = .next u ∧ DevOnly s u ∧ u.dev.jnl.flushDone = true ∧ u.dev.jnl.flushBusy = false ∧ u.dev.jnl.anchor = some a
      ∧ a.nextSeq = d.jnl.nextSeq ∧ a.recs.map (fun r => (r.slot, r.seq, r.st)) = d.jnl.recs.map (fun r => (r.slot, r.seq, r.st)) ∧ a.crcOk = true ∧ u.dev.erc.flushTo ≠ none) ∧
    (d.jnl.flushBusy = false → exec .anchorFlushDone s = .next s) ∧
    (∀ mv, (d.warning = false → exec (.supplyWarningClear mv) s = .next s) ∧
      (d.warning = true → d.pwr.powered = true → d.pwr.held = none →
        ∃ u, exec (.supplyWarningClear mv) s = .next u ∧ DevOnly s u ∧ u.dev.warning = false ∧ bit (u.dev.reg Off.pwrEvt) 1 = true ∧ u.dev.jnl.recs = d.jnl.recs ∧ u.dev.jnl.flushBusy = false
          ∧ (d.past 8 = true → d.jnl.recovering = false → u.dev.jnl.flushDone = false)))

/-- R29, R549, R589, R590, R594, R599, R600, R611. -/
def Obligations.Resets : Prop :=
  ∀ s : State,
    let d := s.dev
    let again := fun (o : Host.Outcome State Fault Refusal) (k : ResetKind) => ∃ u, o = .next u ∧ DevOnly s u ∧ u.dev.pwr.stage = 1 ∧ u.dev.pwr.halted = false ∧ u.dev.pwr.standby = false
      ∧ u.dev.pwr.cause = k.code ∧ u.dev.pwr.seen = d.pwr.seen ||| 2 ^ k.code ∧ (∀ r ∈ u.dev.hif.rings, r.state = .absent ∨ r.state = .parked)
      ∧ (∀ t ∈ u.dev.lan.twins, t.running = none) ∧ (∀ c ∈ u.dev.cus.cers, c.state = .idle ∧ c.result = 16) ∧ u.dev.key.slots = d.key.slots ∧ u.dev.evl.recs = d.evl.recs
      ∧ u.dev.hiLatch = [] ∧ (if k = .cold then u.dev.acc.committed = List.replicate 64 {} else u.dev.acc.committed = d.acc.committed)
    (d.pwr.powered = true → d.warning = false →
      again (exec .coldReset s) .cold ∧
      (d.pwr.standby = false → again (exec (.warmReset .warmPin) s) .warmPin ∧ again (exec (.warmReset .perst) s) .perst ∧ again (exec (.warmReset .hotReset) s) .hotReset ∧ again (exec .functionLevelReset s) .flr) ∧
      (d.pwr.standby = true → again (exec (.warmReset .warmPin) s) .wake ∧ exec (.warmReset .perst) s = .next s ∧ exec (.warmReset .hotReset) s = .next s ∧ exec .functionLevelReset s = .next s
        ∧ again (exec (.standbyWake .warmPin) s) .wake ∧ (∀ a, (a = fld (d.reg Off.pwrSmbWake) 6 0 → again (exec (.standbyWake (.smbus a)) s) .wake)
          ∧ (a ≠ fld (d.reg Off.pwrSmbWake) 6 0 → exec (.standbyWake (.smbus a)) s = .next s)))) ∧
    (d.pwr.standby = false → ∀ w, exec (.standbyWake w) s = .next s) ∧
    (d.pwr.powered = true → d.warning = true → d.pwr.standby = false →
      exec .coldReset s = .next { s with dev := { d with pwr := { d.pwr with held := some .cold } } } ∧
      exec (.warmReset .perst) s = .next { s with dev := { d with pwr := { d.pwr with held := some (d.pwr.held.getD .perst) } } }) ∧
    (d.pwr.powered = true → ∀ r mv,
      let level := [720, 1080, 1000, 1620, 760, 1080].getD r 0
      (r < 6 → mv ≤ level → again (exec (.railReset r mv) s) .cold) ∧ (6 ≤ r ∨ level < mv → exec (.railReset r mv) s = .next s) ∧
      (r = 2 → mv ≤ level → ∃ u, exec (.railReset r mv) s = .next u ∧ u.dev.mem.ddrReady = false ∧ u.dev.pwr.ddrFull = true ∧ u.dev.pwr.jnlLost = true)) ∧
    (HostMay s true Off.pwrCmd →
      (d.quiet = true → ∃ u, exec .pwrStandby s = .next u ∧ DevOnly s u ∧ u.dev.pwr.standby = true ∧ u.dev.pwr.cmdResult = 0 ∧ (∀ g, g < 12 → u.dev.groveOn g = false)
        ∧ (∀ p ∈ u.dev.fab.ports, p.state = .disabled) ∧ bit (u.dev.reg Off.pwrEvt) 7 = true) ∧
      (d.quiet = false → ∃ u, exec .pwrStandby s = .next u ∧ DevOnly s u ∧ u.dev.pwr = { d.pwr with cmdResult := 1 } ∧ bit (u.dev.reg Off.pwrEvt) 7 = true))

/-- R28, R359, R482, R485, R564, R600. -/
def Obligations.PowerLossAndOn : Prop :=
  ∀ s : State,
    let t := s.dev.tmp
    (s.dev.pwr.powered = true →
      ∃ u, exec .powerLoss s = .next u ∧ u.st = 0 ∧ u.otp = s.otp ∧ u.pending = s.pending ∧ u.dev.pwr.powered = false ∧ u.dev.regs = [] ∧ u.dev.key.slots = s.dev.key.slots
        ∧ u.dev.cus.scopes = s.dev.cus.scopes ∧ u.dev.tmp.latched = t.latched ∧ u.dev.tmp.lock = t.lock ∧ u.dev.tmp.zeroised = t.zeroised ∧ u.dev.key.bbkekVal = s.dev.key.bbkekVal
        ∧ u.dev.tim.state = .unset ∧ (∀ a, Memory.read u.mem a = if 0x20000000 ≤ a ∧ a < 0x21000000 then Memory.read s.mem a else 0)
        ∧ u.dev.evl.recs.length ≤ s.dev.evl.recs.length ∧ (∀ r ∈ u.dev.hif.rings, r.state = .absent)) ∧
    (s.dev.pwr.powered = false → exec .powerLoss s = .next s) ∧
    (∀ v, ∃ u, exec (.powerOnReset v) s = .next u ∧ u.st = 0 ∧ u.otp = s.otp ∧ u.pending = s.pending ∧ u.dev.pwr.powered = true ∧ u.dev.pwr.boots = s.dev.pwr.boots + 1
      ∧ (s.dev.pwr.powered = true → u.dev.pwr.stage = 1)
      ∧ (v = true → u.dev.tmp.lock = t.lock ∧ u.dev.tmp.startedLocked = t.lock ∧ u.dev.key.bbkekVal = s.dev.key.bbkekVal ∧ u.dev.tim.state = .unset)
      ∧ (v = false → u.dev.tmp.vbatLost = true ∧ u.dev.tmp.startedLocked = true ∧ u.dev.key.bbkekVal = [] ∧ u.dev.key.bbkek ≠ .valid))

/-- R520, R521, R528 to R531, R572, R573, R576, R578, R602, R603. A stage whose power domains are still waking waits. -/
def Obligations.StartUpStages : Prop :=
  ∀ s : State,
    let d := s.dev
    (∀ a b, (d.stageDue 1 = false → exec (.fuseLoad a b) s = .next s) ∧
      (d.stageDue 1 = true →
        let good := fun (g : Nat) (came : Bool) => if s.otp.touched g then s.otp.groupOk g else came
        ((good 0 a && good 2 a) = false → ∃ u, exec (.fuseLoad a b) s = .next u ∧ DevOnly s u ∧ u.dev.pwr = { d.pwr with halted := true } ∧ bit (u.dev.reg Off.pwrEvt) 4 = true) ∧
        ((good 0 a && good 2 a) = true → ∃ u, exec (.fuseLoad a b) s = .next u ∧ DevOnly s u ∧ u.dev.pwr = { d.pwr with stage := 2 }
          ∧ u.dev.lcs = { d.lcs with rootBad := !(good 1 b && good 3 b) || s.otp.rootWiped } ∧ bit (u.dev.reg Off.pwrEvt) 2 = true))) ∧
    (∀ f, (d.stageDue 2 = false → exec (.lifecycleDecode f) s = .next s) ∧
      (d.stageDue 2 = true →
        (s.otp.openRec = none → ∃ u, exec (.lifecycleDecode f) s = .next u ∧ DevOnly s u ∧ u.dev.pwr = (if d.lcs.rootBad = true ∧ s.otp.state ≠ .scrapped then { d.pwr with halted := true } else { d.pwr with stage := 3 })
          ∧ u.dev.lcs.stuck = false ∧ u.dev.tmp.counts = (if s.otp.integrityLost then bumpAt 0x09 d.tmp.counts else d.tmp.counts)) ∧
        (∀ w, s.otp.openRec = some w →
          (f = none → ∃ u, exec (.lifecycleDecode f) s = .next u ∧ u.st = s.st ∧ u.mem = s.mem ∧ u.pending = s.pending ∧ u.otp.openRec = none ∧ u.dev.lcs.stuck = false
            ∧ (lcStepDone w 1 = false → u.dev.key.slots = [] ∧ u.dev.key.check = none) ∧ (lcStepDone w 2 = false → u.dev.cus.scopes = []) ∧ (lcStepDone w 3 = false → u.dev.cfg.a = none ∧ u.dev.cfg.b = none)
            ∧ (lcStepDone w 4 = false → u.dev.jnl.anchor = none)
            ∧ (lcStepDone w 8 = false → (recTarget w).code ≤ otpPrefix u.otp.copyA) ∧ (lcStepDone w 9 = false → (recTarget w).code ≤ otpPrefix u.otp.copyB)) ∧
          (∀ k, f = some k → lcStepUsed (recTarget w) k = true → lcStepDone w k = false →
            ∃ u, exec (.lifecycleDecode f) s = .next u ∧ u.st = s.st ∧ u.mem = s.mem ∧ u.pending = s.pending ∧ u.dev.lcs.stuck = true ∧ u.dev.pwr = d.pwr ∧ u.otp.recs.length = s.otp.recs.length)))) ∧
    (∀ a b kept, (d.stageDue 3 = false → exec (.bootImageVerify a b kept) s = .next s) ∧
      (d.stageRuns 3 = true →
        let stays := d.pwr.retained = true ∧ d.pwr.verified = true ∧ kept = true
        let takes := fun (img : BootImage) (isB : Bool) => ∃ u, exec (.bootImageVerify a b kept) s = .next u ∧ DevOnly s u ∧ u.dev.pwr.stage = 4 ∧ u.dev.pwr.verified = true ∧ u.dev.pwr.imageB = isB
          ∧ u.dev.pwr.ddrParams = img.ddrParams ∧ u.dev.lan.patch = img.patch
        (stays → ∃ u, exec (.bootImageVerify a b kept) s = .next u ∧ DevOnly s u ∧ u.dev.pwr = { d.pwr with stage := 4 } ∧ u.dev.lan = d.lan) ∧
        (¬ stays →
          (a.sigOk = true → b.version ≤ a.version ∨ b.sigOk = false → takes a false) ∧
          (b.sigOk = true → a.version < b.version ∨ a.sigOk = false → takes b true) ∧
          (a.sigOk = false → b.sigOk = false → ∃ u, exec (.bootImageVerify a b kept) s = .next u ∧ DevOnly s u ∧ u.dev.pwr = { d.pwr with halted := true } ∧ bit (u.dev.reg Off.pwrEvt) 4 = true)))) ∧
    (∀ ok, (d.stageDue 4 = false → exec (.ddr5Training ok) s = .next s) ∧
      (d.stageRuns 4 = true →
        (∃ u, exec (.ddr5Training ok) s = .next u ∧ u.st = s.st ∧ u.otp = s.otp ∧ u.pending = s.pending ∧
          (∀ x, Memory.read u.mem x = if d.ddrFullDue = true ∧ ddrBase ≤ x then 0 else Memory.read s.mem x) ∧
          (ok = false ∨ ddrParamsOk d.pwr.ddrParams = false → u.dev.mem = { d.mem with train := 3 } ∧ u.dev.pwr = { d.pwr with halted := true }) ∧
          (ok = true → ddrParamsOk d.pwr.ddrParams = true → u.dev.mem.train = (if d.ddrFullDue then 1 else 2) ∧ u.dev.mem.usable = ddrUsable d.pwr.ddrParams ∧ u.dev.mem.srKept = !d.ddrFullDue
            ∧ u.dev.pwr.stage = (if d.pwr.rngStart = true ∧ d.rng.state ≠ .noRandomness then 5 else 6) ∧ bit (u.dev.reg Off.memEvt) 2 = true
            ∧ (d.pwr.rngStart = false → d.mgmtDrbg = true → u.dev.mem.ddrReady = true)))))

/-- R95, R120 to R122, R323, R376, R439, R600, R602, R607, R643, R647. -/
def Obligations.StartUpEnd : Prop :=
  ∀ s : State,
    let d := s.dev
    (d.stageDue 6 = false → exec .configLoad s = .next s) ∧
    (d.stageRuns 6 = true → ∃ u, exec .configLoad s = .next u ∧ DevOnly s u ∧ u.dev.pwr.cfgDue = false ∧ u.dev.pwr.bootDue = false ∧ bit (u.dev.reg Off.pwrEvt) 2 = true ∧
      (d.pwr.cfgDue = true → d.cfg.newest = none → u.dev.cfg.defaulted = true) ∧
      (d.pwr.cfgDue = false → d.pwr.cause ≠ 1 → u.dev.pwr.stage = 7 ∧ u.dev.acc = d.acc ∧ u.dev.key = { d.key with store := u.dev.key.store } ∧
        u.dev.key.store = (match d.key.check with
          | none => .uninit
          | some (r, v) => if r = s.otp.root ∧ s.otp.root ≠ 0 ∧ d.key.bbkek = .valid ∧ s.otp.dsk d.key.bbkekVal = v then .ready else .unreadable))) ∧
    (d.stageDue 7 = false → exec .timeRefStart s = .next s) ∧
    (d.stageRuns 7 = true → ∃ u, exec .timeRefStart s = .next u ∧ DevOnly s u ∧ u.dev.pwr.stage = 8 ∧ u.dev.tim.trefValid = false ∧ u.dev.tim.trefSince = s.st.toNat
      ∧ (d.mgmtDrbg = true → u.dev.tim.nonceLive = true ∧ u.dev.tim.nonceIssued = s.st.toNat) ∧ (d.mgmtDrbg = false → u.dev.tim.nonceLive = d.tim.nonceLive)) ∧
    (d.stageDue 8 = false ∨ d.domWaking 242 = true → exec .journalRecovery s = .next s) ∧
    (d.stageRuns 8 = true →
      (d.pwr.jnlLost = true → d.mgmtDrbg = false → d.rng.state ≠ .noRandomness → exec .journalRecovery s = .next s) ∧
      (d.pwr.jnlLost = true → d.mgmtDrbg = true → d.fab.pair.role = .unpaired →
        (∀ a, d.jnl.anchor = some a → d.jnl.flushDone = true → a.crcOk = true → ∃ u, exec .journalRecovery s = .next u ∧ DevOnly s u ∧ u.dev.pwr.stage = 9 ∧ u.dev.jnl.bootResult = 1
          ∧ u.dev.jnl.flushDone = false ∧ u.dev.jnl.nextSeq = a.nextSeq ∧ u.dev.jnl.recs = a.recs.map (Rec.restored s.st.toNat) ∧ (∀ r ∈ u.dev.hif.rings, r.state = .absent ∨ r.state = .parked)
          ∧ (∀ k ∈ u.dev.slices, k.state ≠ .unbound) ∧ u.dev.dsp.items = []) ∧
        (∀ a, d.jnl.anchor = some a → d.jnl.flushDone = false ∨ a.crcOk = false → ∃ u, exec .journalRecovery s = .next u ∧ DevOnly s u ∧ u.dev.pwr.stage = 9 ∧ u.dev.jnl.bootResult = 2
          ∧ u.dev.jnl.recs = [] ∧ u.dev.slices = [] ∧ u.dev.jnl.nextSeq = (match d.jnl.hiStored with | none => 0 | some h => (h + 1) * 2 ^ 40) ∧ bit (u.dev.reg Off.jnlEvt) 1 = true) ∧
        (d.jnl.anchor = none → ∃ u, exec .journalRecovery s = .next u ∧ DevOnly s u ∧ u.dev.pwr.stage = 9 ∧ u.dev.jnl.bootResult = 0 ∧ u.dev.jnl.recs = [] ∧ u.dev.dsp.items = [])) ∧
      (d.pwr.jnlLost = false → d.jnl.recovering = false →
        (d.fab.pair.role = .active ∨ d.fab.pair.role = .activeAlone → ∃ u, exec .journalRecovery s = .next u ∧ DevOnly s u ∧ u.dev.pwr.stage = 9 ∧ u.dev.fab.pair.role = .fenced ∧ u.dev.fab.pair.swapDue = some (.recover, s.st.toNat)
          ∧ u.dev.jnl.recs = d.jnl.recs ∧ u.dev.jnl.flushDone = false) ∧
        (d.fab.pair.role = .unpaired → d.dsp.items = [] → ∃ u, exec .journalRecovery s = .next u ∧ DevOnly s u ∧ u.dev.pwr.stage = 9 ∧ u.dev.jnl = { d.jnl with flushDone := false, mirrorWait := [] }
          ∧ bit (u.dev.reg Off.jnlEvt) 0 = true)))

/-- R5, R8, R75, R548, R557, R558, R604, R639 to R641. -/
def Obligations.HostAccesses : Prop :=
  ∀ (s : State) (off : Nat) (v : DWord),
    let d := s.dev
    let c := s.ctx
    (off < 0x04000000 → off % 4 = 0 →
      (d.endpointUp = true → d.open6 = false → d.early off = false →
        exec (.readLoLatch off 32) s = .next { s with dev := { d with rdata := 0 } } ∧ exec (.registerWrite 0 off 32 v) s = .next s) ∧
      (d.open6 = true → (d.gate c Mst.host false off).ok = false →
        exec (.readLoLatch off 32) s = .next { s with dev := { d.violation c Viol.read Mst.host (d.gate c Mst.host false off).region (d.gate c Mst.host false off).epoch off with rdata := 0 } }) ∧
      (d.open6 = true → (d.gate c Mst.host true off).ok = false →
        exec (.registerWrite 0 off 32 v) s = .next { s with dev := d.violation c Viol.write Mst.host (d.gate c Mst.host true off).region (d.gate c Mst.host true off).epoch off }) ∧
      (HostMay s false off → isLo off = true → ∃ u, exec (.readLoLatch off 32) s = .next u ∧ DevOnly s u ∧ u.dev = { d with rdata := (d.readReg c off).setWidth 64, hiLatch := u.dev.hiLatch }
        ∧ latchGet u.dev.hiLatch (off + 4) = d.readReg c (off + 4) ∧ ∀ o, o ≠ off + 4 → latchGet u.dev.hiLatch o = latchGet d.hiLatch o) ∧
      (HostMay s false off → isHi off = true → exec (.readLoLatch off 32) s = .next { s with dev := { d with rdata := (latchGet d.hiLatch off).setWidth 64 } }) ∧
      (off % 8 = 0 → ∃ u, exec (.registerWrite 0 off 32 v) s = .next u ∧ exec (.registerWrite 0 off 64 v) s = exec (.registerWrite 0 (off + 4) 32 (v >>> 32)) u)) ∧
    (off < 0x04000000 → HostMay s true off → ∀ bits, ¬ (bits = 32 ∧ off % 4 = 0) → ¬ (bits = 64 ∧ off % 8 = 0) → exec (.registerWrite 0 off bits v) s = .next { s with dev := d.ruleViolation c off }) ∧
    (∀ bits, (0x05000000 ≤ off → exec (.readLoLatch off bits) s = .next s) ∧ (0x04000000 ≤ off → exec (.registerWrite 0 off bits v) s = .next s)) ∧
    (0x04000000 ≤ off → off < 0x05000000 → off % 4 = 0 → HostMay s false off → off % 0x1000 < 0x100 ∨ 0x180 ≤ off % 0x1000 →
      exec (.readLoLatch off 32) s = .next { s with dev := { d with rdata := 0 } }) ∧
    (HostMay s true off →
      off ∈ [Off.hifEvt, Off.hifSliceEvt, Off.timEvt, Off.jnlEvt, Off.ddtEvt, Off.dspEvt, Off.lanEvt, Off.pkeEvt, Off.keyEvt, Off.rngEvt, Off.cusEvt, Off.tmpEvt, Off.tmpNotify, Off.evlEvt, Off.ercEvt,
        Off.lcsEvt, Off.accEvt, Off.memEvt, Off.pwrEvt, Off.fabEvt] →
      exec (.registerWrite 0 off 32 v) s = .next { s with dev := d.setReg off (d.reg off &&& ~~~(v.setWidth 32)) }) ∧
    (d.endpointUp = true → off < 0x8000 → off % 4 = 0 → ∃ u, exec (.registerWrite 4 off 32 v) s = .next u ∧ DevOnly s u ∧ u.dev = { d with hif := u.dev.hif, tx := u.dev.tx } ∧
      let e := d.hif.msixEntry (off / 16)
      let f := u.dev.hif.msixEntry (off / 16)
      f.masked = (if off % 16 = 12 then v.getLsbD 0 else e.masked) ∧ f.data = (if off % 16 = 8 then v.toNat % 2 ^ 32 else e.data)
        ∧ (∀ k, k ≠ off / 16 → u.dev.hif.msixEntry k = d.hif.msixEntry k)
        ∧ (e.pending = true → f.masked = false → d.hif.funcMask = false → f.pending = false ∧ u.dev.tx = .msix (off / 16) f.addr f.data :: d.tx)) ∧
    (d.endpointUp = true → 0x8000 ≤ off → exec (.registerWrite 4 off 32 v) s = .next s) ∧
    (∀ bar bits, bar ≠ 0 → bar ≠ 2 → bar ≠ 4 → exec (.registerWrite bar off bits v) s = .next s) ∧
    (∀ bits, 0x100 ≤ off % 0x1000 ∨ 0x1000000 ≤ off → exec (.registerWrite 2 off bits v) s = .next s)

/-- R590, R642. -/
def Obligations.SmbusAccesses : Prop :=
  ∀ (s : State) (off : Nat) (v : Word),
    let d := s.dev
    (d.pwr.standby = false → exec (.smbusBlockWrite off v) s = exec (.registerWrite 0 off 32 (v.setWidth 64)) s) ∧
    (d.pwr.powered = true → d.pwr.standby = false → ∃ u, exec (.readLoLatch off 32) s = .next u ∧
      let w : Word := u.dev.rdata.setWidth 32
      exec (.smbusBlockRead off) s = .next { u with dev := { u.dev with rdata := w.setWidth 64, tx := .smbus w :: u.dev.tx } }) ∧
    (d.pwr.powered = false → exec (.smbusBlockRead off) s = .next s) ∧
    (d.pwr.powered = true → d.pwr.standby = true → d.warning = false →
      (∃ u, exec (.smbusBlockWrite off v) s = .next u ∧ DevOnly s u ∧ u.dev.pwr.stage = 1 ∧ u.dev.pwr.standby = false ∧ u.dev.pwr.cause = 7) ∧
      (∃ u, exec (.smbusBlockRead off) s = .next u ∧ DevOnly s u ∧ u.dev.pwr.stage = 1 ∧ u.dev.pwr.standby = false ∧ u.dev.pwr.cause = 7 ∧
        (smbusStandby off = true → off % 4 = 0 → u.dev.rdata = (d.readReg s.ctx off).setWidth 64) ∧ (smbusStandby off = false → u.dev.rdata = 0)))
end

