-- ==== Sys2Proof/Laws/State.lean ====
section
/-! SUPPORT. One lemma per field of `Dev` for each of its updates, so that no proof unfolds a record update. -/

namespace Sys2Proof.Machine

variable (d : Dev)

@[simp] theorem Dev.setReg_hiLatch (off : Nat) (v : Word) : (d.setReg off v).hiLatch = d.hiLatch := rfl
@[simp] theorem Dev.setReg_rdata (off : Nat) (v : Word) : (d.setReg off v).rdata = d.rdata := rfl
@[simp] theorem Dev.setReg_tx (off : Nat) (v : Word) : (d.setReg off v).tx = d.tx := rfl
@[simp] theorem Dev.setReg_tim (off : Nat) (v : Word) : (d.setReg off v).tim = d.tim := rfl
@[simp] theorem Dev.setReg_hif (off : Nat) (v : Word) : (d.setReg off v).hif = d.hif := rfl
@[simp] theorem Dev.setReg_slices (off : Nat) (v : Word) : (d.setReg off v).slices = d.slices := rfl
@[simp] theorem Dev.setReg_jnl (off : Nat) (v : Word) : (d.setReg off v).jnl = d.jnl := rfl
@[simp] theorem Dev.setReg_ddt (off : Nat) (v : Word) : (d.setReg off v).ddt = d.ddt := rfl
@[simp] theorem Dev.setReg_dsp (off : Nat) (v : Word) : (d.setReg off v).dsp = d.dsp := rfl
@[simp] theorem Dev.setReg_lan (off : Nat) (v : Word) : (d.setReg off v).lan = d.lan := rfl
@[simp] theorem Dev.setReg_pke (off : Nat) (v : Word) : (d.setReg off v).pke = d.pke := rfl
@[simp] theorem Dev.setReg_key (off : Nat) (v : Word) : (d.setReg off v).key = d.key := rfl
@[simp] theorem Dev.setReg_rng (off : Nat) (v : Word) : (d.setReg off v).rng = d.rng := rfl
@[simp] theorem Dev.setReg_fab (off : Nat) (v : Word) : (d.setReg off v).fab = d.fab := rfl
@[simp] theorem Dev.setReg_cus (off : Nat) (v : Word) : (d.setReg off v).cus = d.cus := rfl
@[simp] theorem Dev.setReg_tmp (off : Nat) (v : Word) : (d.setReg off v).tmp = d.tmp := rfl
@[simp] theorem Dev.setReg_evl (off : Nat) (v : Word) : (d.setReg off v).evl = d.evl := rfl
@[simp] theorem Dev.setReg_erc (off : Nat) (v : Word) : (d.setReg off v).erc = d.erc := rfl
@[simp] theorem Dev.setReg_lcs (off : Nat) (v : Word) : (d.setReg off v).lcs = d.lcs := rfl
@[simp] theorem Dev.setReg_acc (off : Nat) (v : Word) : (d.setReg off v).acc = d.acc := rfl
@[simp] theorem Dev.setReg_mem (off : Nat) (v : Word) : (d.setReg off v).mem = d.mem := rfl
@[simp] theorem Dev.setReg_pwr (off : Nat) (v : Word) : (d.setReg off v).pwr = d.pwr := rfl
@[simp] theorem Dev.setReg_cfg (off : Nat) (v : Word) : (d.setReg off v).cfg = d.cfg := rfl
@[simp] theorem Dev.setReg64_hiLatch (off v : Nat) : (d.setReg64 off v).hiLatch = d.hiLatch := rfl
@[simp] theorem Dev.setReg64_rdata (off v : Nat) : (d.setReg64 off v).rdata = d.rdata := rfl
@[simp] theorem Dev.setReg64_tx (off v : Nat) : (d.setReg64 off v).tx = d.tx := rfl
@[simp] theorem Dev.setReg64_tim (off v : Nat) : (d.setReg64 off v).tim = d.tim := rfl
@[simp] theorem Dev.setReg64_hif (off v : Nat) : (d.setReg64 off v).hif = d.hif := rfl
@[simp] theorem Dev.setReg64_slices (off v : Nat) : (d.setReg64 off v).slices = d.slices := rfl
@[simp] theorem Dev.setReg64_jnl (off v : Nat) : (d.setReg64 off v).jnl = d.jnl := rfl
@[simp] theorem Dev.setReg64_ddt (off v : Nat) : (d.setReg64 off v).ddt = d.ddt := rfl
@[simp] theorem Dev.setReg64_dsp (off v : Nat) : (d.setReg64 off v).dsp = d.dsp := rfl
@[simp] theorem Dev.setReg64_lan (off v : Nat) : (d.setReg64 off v).lan = d.lan := rfl
@[simp] theorem Dev.setReg64_pke (off v : Nat) : (d.setReg64 off v).pke = d.pke := rfl
@[simp] theorem Dev.setReg64_key (off v : Nat) : (d.setReg64 off v).key = d.key := rfl
@[simp] theorem Dev.setReg64_rng (off v : Nat) : (d.setReg64 off v).rng = d.rng := rfl
@[simp] theorem Dev.setReg64_fab (off v : Nat) : (d.setReg64 off v).fab = d.fab := rfl
@[simp] theorem Dev.setReg64_cus (off v : Nat) : (d.setReg64 off v).cus = d.cus := rfl
@[simp] theorem Dev.setReg64_tmp (off v : Nat) : (d.setReg64 off v).tmp = d.tmp := rfl
@[simp] theorem Dev.setReg64_evl (off v : Nat) : (d.setReg64 off v).evl = d.evl := rfl
@[simp] theorem Dev.setReg64_erc (off v : Nat) : (d.setReg64 off v).erc = d.erc := rfl
@[simp] theorem Dev.setReg64_lcs (off v : Nat) : (d.setReg64 off v).lcs = d.lcs := rfl
@[simp] theorem Dev.setReg64_acc (off v : Nat) : (d.setReg64 off v).acc = d.acc := rfl
@[simp] theorem Dev.setReg64_mem (off v : Nat) : (d.setReg64 off v).mem = d.mem := rfl
@[simp] theorem Dev.setReg64_pwr (off v : Nat) : (d.setReg64 off v).pwr = d.pwr := rfl
@[simp] theorem Dev.setReg64_cfg (off v : Nat) : (d.setReg64 off v).cfg = d.cfg := rfl
@[simp] theorem Dev.bumpBy_hiLatch (off n : Nat) : (d.bumpBy off n).hiLatch = d.hiLatch := rfl
@[simp] theorem Dev.bumpBy_rdata (off n : Nat) : (d.bumpBy off n).rdata = d.rdata := rfl
@[simp] theorem Dev.bumpBy_tx (off n : Nat) : (d.bumpBy off n).tx = d.tx := rfl
@[simp] theorem Dev.bumpBy_tim (off n : Nat) : (d.bumpBy off n).tim = d.tim := rfl
@[simp] theorem Dev.bumpBy_hif (off n : Nat) : (d.bumpBy off n).hif = d.hif := rfl
@[simp] theorem Dev.bumpBy_slices (off n : Nat) : (d.bumpBy off n).slices = d.slices := rfl
@[simp] theorem Dev.bumpBy_jnl (off n : Nat) : (d.bumpBy off n).jnl = d.jnl := rfl
@[simp] theorem Dev.bumpBy_ddt (off n : Nat) : (d.bumpBy off n).ddt = d.ddt := rfl
@[simp] theorem Dev.bumpBy_dsp (off n : Nat) : (d.bumpBy off n).dsp = d.dsp := rfl
@[simp] theorem Dev.bumpBy_lan (off n : Nat) : (d.bumpBy off n).lan = d.lan := rfl
@[simp] theorem Dev.bumpBy_pke (off n : Nat) : (d.bumpBy off n).pke = d.pke := rfl
@[simp] theorem Dev.bumpBy_key (off n : Nat) : (d.bumpBy off n).key = d.key := rfl
@[simp] theorem Dev.bumpBy_rng (off n : Nat) : (d.bumpBy off n).rng = d.rng := rfl
@[simp] theorem Dev.bumpBy_fab (off n : Nat) : (d.bumpBy off n).fab = d.fab := rfl
@[simp] theorem Dev.bumpBy_cus (off n : Nat) : (d.bumpBy off n).cus = d.cus := rfl
@[simp] theorem Dev.bumpBy_tmp (off n : Nat) : (d.bumpBy off n).tmp = d.tmp := rfl
@[simp] theorem Dev.bumpBy_evl (off n : Nat) : (d.bumpBy off n).evl = d.evl := rfl
@[simp] theorem Dev.bumpBy_erc (off n : Nat) : (d.bumpBy off n).erc = d.erc := rfl
@[simp] theorem Dev.bumpBy_lcs (off n : Nat) : (d.bumpBy off n).lcs = d.lcs := rfl
@[simp] theorem Dev.bumpBy_acc (off n : Nat) : (d.bumpBy off n).acc = d.acc := rfl
@[simp] theorem Dev.bumpBy_mem (off n : Nat) : (d.bumpBy off n).mem = d.mem := rfl
@[simp] theorem Dev.bumpBy_pwr (off n : Nat) : (d.bumpBy off n).pwr = d.pwr := rfl
@[simp] theorem Dev.bumpBy_cfg (off n : Nat) : (d.bumpBy off n).cfg = d.cfg := rfl
@[simp] theorem Dev.bump_hiLatch (off : Nat) : (d.bump off).hiLatch = d.hiLatch := rfl
@[simp] theorem Dev.bump_rdata (off : Nat) : (d.bump off).rdata = d.rdata := rfl
@[simp] theorem Dev.bump_tx (off : Nat) : (d.bump off).tx = d.tx := rfl
@[simp] theorem Dev.bump_tim (off : Nat) : (d.bump off).tim = d.tim := rfl
@[simp] theorem Dev.bump_hif (off : Nat) : (d.bump off).hif = d.hif := rfl
@[simp] theorem Dev.bump_slices (off : Nat) : (d.bump off).slices = d.slices := rfl
@[simp] theorem Dev.bump_jnl (off : Nat) : (d.bump off).jnl = d.jnl := rfl
@[simp] theorem Dev.bump_ddt (off : Nat) : (d.bump off).ddt = d.ddt := rfl
@[simp] theorem Dev.bump_dsp (off : Nat) : (d.bump off).dsp = d.dsp := rfl
@[simp] theorem Dev.bump_lan (off : Nat) : (d.bump off).lan = d.lan := rfl
@[simp] theorem Dev.bump_pke (off : Nat) : (d.bump off).pke = d.pke := rfl
@[simp] theorem Dev.bump_key (off : Nat) : (d.bump off).key = d.key := rfl
@[simp] theorem Dev.bump_rng (off : Nat) : (d.bump off).rng = d.rng := rfl
@[simp] theorem Dev.bump_fab (off : Nat) : (d.bump off).fab = d.fab := rfl
@[simp] theorem Dev.bump_cus (off : Nat) : (d.bump off).cus = d.cus := rfl
@[simp] theorem Dev.bump_tmp (off : Nat) : (d.bump off).tmp = d.tmp := rfl
@[simp] theorem Dev.bump_evl (off : Nat) : (d.bump off).evl = d.evl := rfl
@[simp] theorem Dev.bump_erc (off : Nat) : (d.bump off).erc = d.erc := rfl
@[simp] theorem Dev.bump_lcs (off : Nat) : (d.bump off).lcs = d.lcs := rfl
@[simp] theorem Dev.bump_acc (off : Nat) : (d.bump off).acc = d.acc := rfl
@[simp] theorem Dev.bump_mem (off : Nat) : (d.bump off).mem = d.mem := rfl
@[simp] theorem Dev.bump_pwr (off : Nat) : (d.bump off).pwr = d.pwr := rfl
@[simp] theorem Dev.bump_cfg (off : Nat) : (d.bump off).cfg = d.cfg := rfl
@[simp] theorem Dev.clrReg_hiLatch (off : Nat) : (d.clrReg off).hiLatch = d.hiLatch := rfl
@[simp] theorem Dev.clrReg_rdata (off : Nat) : (d.clrReg off).rdata = d.rdata := rfl
@[simp] theorem Dev.clrReg_tx (off : Nat) : (d.clrReg off).tx = d.tx := rfl
@[simp] theorem Dev.clrReg_tim (off : Nat) : (d.clrReg off).tim = d.tim := rfl
@[simp] theorem Dev.clrReg_hif (off : Nat) : (d.clrReg off).hif = d.hif := rfl
@[simp] theorem Dev.clrReg_slices (off : Nat) : (d.clrReg off).slices = d.slices := rfl
@[simp] theorem Dev.clrReg_jnl (off : Nat) : (d.clrReg off).jnl = d.jnl := rfl
@[simp] theorem Dev.clrReg_ddt (off : Nat) : (d.clrReg off).ddt = d.ddt := rfl
@[simp] theorem Dev.clrReg_dsp (off : Nat) : (d.clrReg off).dsp = d.dsp := rfl
@[simp] theorem Dev.clrReg_lan (off : Nat) : (d.clrReg off).lan = d.lan := rfl
@[simp] theorem Dev.clrReg_pke (off : Nat) : (d.clrReg off).pke = d.pke := rfl
@[simp] theorem Dev.clrReg_key (off : Nat) : (d.clrReg off).key = d.key := rfl
@[simp] theorem Dev.clrReg_rng (off : Nat) : (d.clrReg off).rng = d.rng := rfl
@[simp] theorem Dev.clrReg_fab (off : Nat) : (d.clrReg off).fab = d.fab := rfl
@[simp] theorem Dev.clrReg_cus (off : Nat) : (d.clrReg off).cus = d.cus := rfl
@[simp] theorem Dev.clrReg_tmp (off : Nat) : (d.clrReg off).tmp = d.tmp := rfl
@[simp] theorem Dev.clrReg_evl (off : Nat) : (d.clrReg off).evl = d.evl := rfl
@[simp] theorem Dev.clrReg_erc (off : Nat) : (d.clrReg off).erc = d.erc := rfl
@[simp] theorem Dev.clrReg_lcs (off : Nat) : (d.clrReg off).lcs = d.lcs := rfl
@[simp] theorem Dev.clrReg_acc (off : Nat) : (d.clrReg off).acc = d.acc := rfl
@[simp] theorem Dev.clrReg_mem (off : Nat) : (d.clrReg off).mem = d.mem := rfl
@[simp] theorem Dev.clrReg_pwr (off : Nat) : (d.clrReg off).pwr = d.pwr := rfl
@[simp] theorem Dev.clrReg_cfg (off : Nat) : (d.clrReg off).cfg = d.cfg := rfl
@[simp] theorem Dev.emit_regs (t : Tx) : (d.emit t).regs = d.regs := rfl
@[simp] theorem Dev.emit_hiLatch (t : Tx) : (d.emit t).hiLatch = d.hiLatch := rfl
@[simp] theorem Dev.emit_rdata (t : Tx) : (d.emit t).rdata = d.rdata := rfl
@[simp] theorem Dev.emit_tim (t : Tx) : (d.emit t).tim = d.tim := rfl
@[simp] theorem Dev.emit_hif (t : Tx) : (d.emit t).hif = d.hif := rfl
@[simp] theorem Dev.emit_slices (t : Tx) : (d.emit t).slices = d.slices := rfl
@[simp] theorem Dev.emit_jnl (t : Tx) : (d.emit t).jnl = d.jnl := rfl
@[simp] theorem Dev.emit_ddt (t : Tx) : (d.emit t).ddt = d.ddt := rfl
@[simp] theorem Dev.emit_dsp (t : Tx) : (d.emit t).dsp = d.dsp := rfl
@[simp] theorem Dev.emit_lan (t : Tx) : (d.emit t).lan = d.lan := rfl
@[simp] theorem Dev.emit_pke (t : Tx) : (d.emit t).pke = d.pke := rfl
@[simp] theorem Dev.emit_key (t : Tx) : (d.emit t).key = d.key := rfl
@[simp] theorem Dev.emit_rng (t : Tx) : (d.emit t).rng = d.rng := rfl
@[simp] theorem Dev.emit_fab (t : Tx) : (d.emit t).fab = d.fab := rfl
@[simp] theorem Dev.emit_cus (t : Tx) : (d.emit t).cus = d.cus := rfl
@[simp] theorem Dev.emit_tmp (t : Tx) : (d.emit t).tmp = d.tmp := rfl
@[simp] theorem Dev.emit_evl (t : Tx) : (d.emit t).evl = d.evl := rfl
@[simp] theorem Dev.emit_erc (t : Tx) : (d.emit t).erc = d.erc := rfl
@[simp] theorem Dev.emit_lcs (t : Tx) : (d.emit t).lcs = d.lcs := rfl
@[simp] theorem Dev.emit_acc (t : Tx) : (d.emit t).acc = d.acc := rfl
@[simp] theorem Dev.emit_mem (t : Tx) : (d.emit t).mem = d.mem := rfl
@[simp] theorem Dev.emit_pwr (t : Tx) : (d.emit t).pwr = d.pwr := rfl
@[simp] theorem Dev.emit_cfg (t : Tx) : (d.emit t).cfg = d.cfg := rfl
@[simp] theorem Dev.emit_reg (t : Tx) (o : Nat) : (d.emit t).reg o = d.reg o := rfl
@[simp] theorem Dev.draw_regs : (d.draw).regs = d.regs := rfl
@[simp] theorem Dev.draw_hiLatch : (d.draw).hiLatch = d.hiLatch := rfl
@[simp] theorem Dev.draw_rdata : (d.draw).rdata = d.rdata := rfl
@[simp] theorem Dev.draw_tx : (d.draw).tx = d.tx := rfl
@[simp] theorem Dev.draw_tim : (d.draw).tim = d.tim := rfl
@[simp] theorem Dev.draw_hif : (d.draw).hif = d.hif := rfl
@[simp] theorem Dev.draw_slices : (d.draw).slices = d.slices := rfl
@[simp] theorem Dev.draw_jnl : (d.draw).jnl = d.jnl := rfl
@[simp] theorem Dev.draw_ddt : (d.draw).ddt = d.ddt := rfl
@[simp] theorem Dev.draw_dsp : (d.draw).dsp = d.dsp := rfl
@[simp] theorem Dev.draw_lan : (d.draw).lan = d.lan := rfl
@[simp] theorem Dev.draw_pke : (d.draw).pke = d.pke := rfl
@[simp] theorem Dev.draw_key : (d.draw).key = d.key := rfl
@[simp] theorem Dev.draw_fab : (d.draw).fab = d.fab := rfl
@[simp] theorem Dev.draw_cus : (d.draw).cus = d.cus := rfl
@[simp] theorem Dev.draw_tmp : (d.draw).tmp = d.tmp := rfl
@[simp] theorem Dev.draw_evl : (d.draw).evl = d.evl := rfl
@[simp] theorem Dev.draw_erc : (d.draw).erc = d.erc := rfl
@[simp] theorem Dev.draw_lcs : (d.draw).lcs = d.lcs := rfl
@[simp] theorem Dev.draw_acc : (d.draw).acc = d.acc := rfl
@[simp] theorem Dev.draw_mem : (d.draw).mem = d.mem := rfl
@[simp] theorem Dev.draw_pwr : (d.draw).pwr = d.pwr := rfl
@[simp] theorem Dev.draw_cfg : (d.draw).cfg = d.cfg := rfl
@[simp] theorem Dev.draw_reg (o : Nat) : (d.draw).reg o = d.reg o := rfl
@[simp] theorem Dev.updGrove_regs (n : Nat) (f : Grove → Grove) : (d.updGrove n f).regs = d.regs := rfl
@[simp] theorem Dev.updGrove_hiLatch (n : Nat) (f : Grove → Grove) : (d.updGrove n f).hiLatch = d.hiLatch := rfl
@[simp] theorem Dev.updGrove_rdata (n : Nat) (f : Grove → Grove) : (d.updGrove n f).rdata = d.rdata := rfl
@[simp] theorem Dev.updGrove_tx (n : Nat) (f : Grove → Grove) : (d.updGrove n f).tx = d.tx := rfl
@[simp] theorem Dev.updGrove_tim (n : Nat) (f : Grove → Grove) : (d.updGrove n f).tim = d.tim := rfl
@[simp] theorem Dev.updGrove_hif (n : Nat) (f : Grove → Grove) : (d.updGrove n f).hif = d.hif := rfl
@[simp] theorem Dev.updGrove_slices (n : Nat) (f : Grove → Grove) : (d.updGrove n f).slices = d.slices := rfl
@[simp] theorem Dev.updGrove_jnl (n : Nat) (f : Grove → Grove) : (d.updGrove n f).jnl = d.jnl := rfl
@[simp] theorem Dev.updGrove_ddt (n : Nat) (f : Grove → Grove) : (d.updGrove n f).ddt = d.ddt := rfl
@[simp] theorem Dev.updGrove_dsp (n : Nat) (f : Grove → Grove) : (d.updGrove n f).dsp = d.dsp := rfl
@[simp] theorem Dev.updGrove_pke (n : Nat) (f : Grove → Grove) : (d.updGrove n f).pke = d.pke := rfl
@[simp] theorem Dev.updGrove_key (n : Nat) (f : Grove → Grove) : (d.updGrove n f).key = d.key := rfl
@[simp] theorem Dev.updGrove_rng (n : Nat) (f : Grove → Grove) : (d.updGrove n f).rng = d.rng := rfl
@[simp] theorem Dev.updGrove_fab (n : Nat) (f : Grove → Grove) : (d.updGrove n f).fab = d.fab := rfl
@[simp] theorem Dev.updGrove_cus (n : Nat) (f : Grove → Grove) : (d.updGrove n f).cus = d.cus := rfl
@[simp] theorem Dev.updGrove_tmp (n : Nat) (f : Grove → Grove) : (d.updGrove n f).tmp = d.tmp := rfl
@[simp] theorem Dev.updGrove_evl (n : Nat) (f : Grove → Grove) : (d.updGrove n f).evl = d.evl := rfl
@[simp] theorem Dev.updGrove_erc (n : Nat) (f : Grove → Grove) : (d.updGrove n f).erc = d.erc := rfl
@[simp] theorem Dev.updGrove_lcs (n : Nat) (f : Grove → Grove) : (d.updGrove n f).lcs = d.lcs := rfl
@[simp] theorem Dev.updGrove_acc (n : Nat) (f : Grove → Grove) : (d.updGrove n f).acc = d.acc := rfl
@[simp] theorem Dev.updGrove_mem (n : Nat) (f : Grove → Grove) : (d.updGrove n f).mem = d.mem := rfl
@[simp] theorem Dev.updGrove_pwr (n : Nat) (f : Grove → Grove) : (d.updGrove n f).pwr = d.pwr := rfl
@[simp] theorem Dev.updGrove_cfg (n : Nat) (f : Grove → Grove) : (d.updGrove n f).cfg = d.cfg := rfl
@[simp] theorem Dev.updGrove_reg (n : Nat) (f : Grove → Grove) (o : Nat) : (d.updGrove n f).reg o = d.reg o := rfl
@[simp] theorem Dev.updTwin_regs (n : Nat) (f : Twin → Twin) : (d.updTwin n f).regs = d.regs := rfl
@[simp] theorem Dev.updTwin_hiLatch (n : Nat) (f : Twin → Twin) : (d.updTwin n f).hiLatch = d.hiLatch := rfl
@[simp] theorem Dev.updTwin_rdata (n : Nat) (f : Twin → Twin) : (d.updTwin n f).rdata = d.rdata := rfl
@[simp] theorem Dev.updTwin_tx (n : Nat) (f : Twin → Twin) : (d.updTwin n f).tx = d.tx := rfl
@[simp] theorem Dev.updTwin_tim (n : Nat) (f : Twin → Twin) : (d.updTwin n f).tim = d.tim := rfl
@[simp] theorem Dev.updTwin_hif (n : Nat) (f : Twin → Twin) : (d.updTwin n f).hif = d.hif := rfl
@[simp] theorem Dev.updTwin_slices (n : Nat) (f : Twin → Twin) : (d.updTwin n f).slices = d.slices := rfl
@[simp] theorem Dev.updTwin_jnl (n : Nat) (f : Twin → Twin) : (d.updTwin n f).jnl = d.jnl := rfl
@[simp] theorem Dev.updTwin_ddt (n : Nat) (f : Twin → Twin) : (d.updTwin n f).ddt = d.ddt := rfl
@[simp] theorem Dev.updTwin_dsp (n : Nat) (f : Twin → Twin) : (d.updTwin n f).dsp = d.dsp := rfl
@[simp] theorem Dev.updTwin_pke (n : Nat) (f : Twin → Twin) : (d.updTwin n f).pke = d.pke := rfl
@[simp] theorem Dev.updTwin_key (n : Nat) (f : Twin → Twin) : (d.updTwin n f).key = d.key := rfl
@[simp] theorem Dev.updTwin_rng (n : Nat) (f : Twin → Twin) : (d.updTwin n f).rng = d.rng := rfl
@[simp] theorem Dev.updTwin_fab (n : Nat) (f : Twin → Twin) : (d.updTwin n f).fab = d.fab := rfl
@[simp] theorem Dev.updTwin_cus (n : Nat) (f : Twin → Twin) : (d.updTwin n f).cus = d.cus := rfl
@[simp] theorem Dev.updTwin_tmp (n : Nat) (f : Twin → Twin) : (d.updTwin n f).tmp = d.tmp := rfl
@[simp] theorem Dev.updTwin_evl (n : Nat) (f : Twin → Twin) : (d.updTwin n f).evl = d.evl := rfl
@[simp] theorem Dev.updTwin_erc (n : Nat) (f : Twin → Twin) : (d.updTwin n f).erc = d.erc := rfl
@[simp] theorem Dev.updTwin_lcs (n : Nat) (f : Twin → Twin) : (d.updTwin n f).lcs = d.lcs := rfl
@[simp] theorem Dev.updTwin_acc (n : Nat) (f : Twin → Twin) : (d.updTwin n f).acc = d.acc := rfl
@[simp] theorem Dev.updTwin_mem (n : Nat) (f : Twin → Twin) : (d.updTwin n f).mem = d.mem := rfl
@[simp] theorem Dev.updTwin_pwr (n : Nat) (f : Twin → Twin) : (d.updTwin n f).pwr = d.pwr := rfl
@[simp] theorem Dev.updTwin_cfg (n : Nat) (f : Twin → Twin) : (d.updTwin n f).cfg = d.cfg := rfl
@[simp] theorem Dev.updTwin_reg (n : Nat) (f : Twin → Twin) (o : Nat) : (d.updTwin n f).reg o = d.reg o := rfl
@[simp] theorem Dev.updEngine_regs (n : Nat) (f : Engine → Engine) : (d.updEngine n f).regs = d.regs := rfl
@[simp] theorem Dev.updEngine_hiLatch (n : Nat) (f : Engine → Engine) : (d.updEngine n f).hiLatch = d.hiLatch := rfl
@[simp] theorem Dev.updEngine_rdata (n : Nat) (f : Engine → Engine) : (d.updEngine n f).rdata = d.rdata := rfl
@[simp] theorem Dev.updEngine_tx (n : Nat) (f : Engine → Engine) : (d.updEngine n f).tx = d.tx := rfl
@[simp] theorem Dev.updEngine_tim (n : Nat) (f : Engine → Engine) : (d.updEngine n f).tim = d.tim := rfl
@[simp] theorem Dev.updEngine_hif (n : Nat) (f : Engine → Engine) : (d.updEngine n f).hif = d.hif := rfl
@[simp] theorem Dev.updEngine_slices (n : Nat) (f : Engine → Engine) : (d.updEngine n f).slices = d.slices := rfl
@[simp] theorem Dev.updEngine_jnl (n : Nat) (f : Engine → Engine) : (d.updEngine n f).jnl = d.jnl := rfl
@[simp] theorem Dev.updEngine_ddt (n : Nat) (f : Engine → Engine) : (d.updEngine n f).ddt = d.ddt := rfl
@[simp] theorem Dev.updEngine_dsp (n : Nat) (f : Engine → Engine) : (d.updEngine n f).dsp = d.dsp := rfl
@[simp] theorem Dev.updEngine_lan (n : Nat) (f : Engine → Engine) : (d.updEngine n f).lan = d.lan := rfl
@[simp] theorem Dev.updEngine_key (n : Nat) (f : Engine → Engine) : (d.updEngine n f).key = d.key := rfl
@[simp] theorem Dev.updEngine_rng (n : Nat) (f : Engine → Engine) : (d.updEngine n f).rng = d.rng := rfl
@[simp] theorem Dev.updEngine_fab (n : Nat) (f : Engine → Engine) : (d.updEngine n f).fab = d.fab := rfl
@[simp] theorem Dev.updEngine_cus (n : Nat) (f : Engine → Engine) : (d.updEngine n f).cus = d.cus := rfl
@[simp] theorem Dev.updEngine_tmp (n : Nat) (f : Engine → Engine) : (d.updEngine n f).tmp = d.tmp := rfl
@[simp] theorem Dev.updEngine_evl (n : Nat) (f : Engine → Engine) : (d.updEngine n f).evl = d.evl := rfl
@[simp] theorem Dev.updEngine_erc (n : Nat) (f : Engine → Engine) : (d.updEngine n f).erc = d.erc := rfl
@[simp] theorem Dev.updEngine_lcs (n : Nat) (f : Engine → Engine) : (d.updEngine n f).lcs = d.lcs := rfl
@[simp] theorem Dev.updEngine_acc (n : Nat) (f : Engine → Engine) : (d.updEngine n f).acc = d.acc := rfl
@[simp] theorem Dev.updEngine_mem (n : Nat) (f : Engine → Engine) : (d.updEngine n f).mem = d.mem := rfl
@[simp] theorem Dev.updEngine_pwr (n : Nat) (f : Engine → Engine) : (d.updEngine n f).pwr = d.pwr := rfl
@[simp] theorem Dev.updEngine_cfg (n : Nat) (f : Engine → Engine) : (d.updEngine n f).cfg = d.cfg := rfl
@[simp] theorem Dev.updEngine_reg (n : Nat) (f : Engine → Engine) (o : Nat) : (d.updEngine n f).reg o = d.reg o := rfl
@[simp] theorem Dev.updDrbg_regs (n : Nat) (f : Drbg → Drbg) : (d.updDrbg n f).regs = d.regs := rfl
@[simp] theorem Dev.updDrbg_hiLatch (n : Nat) (f : Drbg → Drbg) : (d.updDrbg n f).hiLatch = d.hiLatch := rfl
@[simp] theorem Dev.updDrbg_rdata (n : Nat) (f : Drbg → Drbg) : (d.updDrbg n f).rdata = d.rdata := rfl
@[simp] theorem Dev.updDrbg_tx (n : Nat) (f : Drbg → Drbg) : (d.updDrbg n f).tx = d.tx := rfl
@[simp] theorem Dev.updDrbg_tim (n : Nat) (f : Drbg → Drbg) : (d.updDrbg n f).tim = d.tim := rfl
@[simp] theorem Dev.updDrbg_hif (n : Nat) (f : Drbg → Drbg) : (d.updDrbg n f).hif = d.hif := rfl
@[simp] theorem Dev.updDrbg_slices (n : Nat) (f : Drbg → Drbg) : (d.updDrbg n f).slices = d.slices := rfl
@[simp] theorem Dev.updDrbg_jnl (n : Nat) (f : Drbg → Drbg) : (d.updDrbg n f).jnl = d.jnl := rfl
@[simp] theorem Dev.updDrbg_ddt (n : Nat) (f : Drbg → Drbg) : (d.updDrbg n f).ddt = d.ddt := rfl
@[simp] theorem Dev.updDrbg_dsp (n : Nat) (f : Drbg → Drbg) : (d.updDrbg n f).dsp = d.dsp := rfl
@[simp] theorem Dev.updDrbg_lan (n : Nat) (f : Drbg → Drbg) : (d.updDrbg n f).lan = d.lan := rfl
@[simp] theorem Dev.updDrbg_pke (n : Nat) (f : Drbg → Drbg) : (d.updDrbg n f).pke = d.pke := rfl
@[simp] theorem Dev.updDrbg_key (n : Nat) (f : Drbg → Drbg) : (d.updDrbg n f).key = d.key := rfl
@[simp] theorem Dev.updDrbg_fab (n : Nat) (f : Drbg → Drbg) : (d.updDrbg n f).fab = d.fab := rfl
@[simp] theorem Dev.updDrbg_cus (n : Nat) (f : Drbg → Drbg) : (d.updDrbg n f).cus = d.cus := rfl
@[simp] theorem Dev.updDrbg_tmp (n : Nat) (f : Drbg → Drbg) : (d.updDrbg n f).tmp = d.tmp := rfl
@[simp] theorem Dev.updDrbg_evl (n : Nat) (f : Drbg → Drbg) : (d.updDrbg n f).evl = d.evl := rfl
@[simp] theorem Dev.updDrbg_erc (n : Nat) (f : Drbg → Drbg) : (d.updDrbg n f).erc = d.erc := rfl
@[simp] theorem Dev.updDrbg_lcs (n : Nat) (f : Drbg → Drbg) : (d.updDrbg n f).lcs = d.lcs := rfl
@[simp] theorem Dev.updDrbg_acc (n : Nat) (f : Drbg → Drbg) : (d.updDrbg n f).acc = d.acc := rfl
@[simp] theorem Dev.updDrbg_mem (n : Nat) (f : Drbg → Drbg) : (d.updDrbg n f).mem = d.mem := rfl
@[simp] theorem Dev.updDrbg_pwr (n : Nat) (f : Drbg → Drbg) : (d.updDrbg n f).pwr = d.pwr := rfl
@[simp] theorem Dev.updDrbg_cfg (n : Nat) (f : Drbg → Drbg) : (d.updDrbg n f).cfg = d.cfg := rfl
@[simp] theorem Dev.updDrbg_reg (n : Nat) (f : Drbg → Drbg) (o : Nat) : (d.updDrbg n f).reg o = d.reg o := rfl
@[simp] theorem Dev.updRing_regs (a b : Nat) (f : Ring → Ring) : (d.updRing a b f).regs = d.regs := rfl
@[simp] theorem Dev.updRing_hiLatch (a b : Nat) (f : Ring → Ring) : (d.updRing a b f).hiLatch = d.hiLatch := rfl
@[simp] theorem Dev.updRing_rdata (a b : Nat) (f : Ring → Ring) : (d.updRing a b f).rdata = d.rdata := rfl
@[simp] theorem Dev.updRing_tx (a b : Nat) (f : Ring → Ring) : (d.updRing a b f).tx = d.tx := rfl
@[simp] theorem Dev.updRing_tim (a b : Nat) (f : Ring → Ring) : (d.updRing a b f).tim = d.tim := rfl
@[simp] theorem Dev.updRing_slices (a b : Nat) (f : Ring → Ring) : (d.updRing a b f).slices = d.slices := rfl
@[simp] theorem Dev.updRing_jnl (a b : Nat) (f : Ring → Ring) : (d.updRing a b f).jnl = d.jnl := rfl
@[simp] theorem Dev.updRing_ddt (a b : Nat) (f : Ring → Ring) : (d.updRing a b f).ddt = d.ddt := rfl
@[simp] theorem Dev.updRing_dsp (a b : Nat) (f : Ring → Ring) : (d.updRing a b f).dsp = d.dsp := rfl
@[simp] theorem Dev.updRing_lan (a b : Nat) (f : Ring → Ring) : (d.updRing a b f).lan = d.lan := rfl
@[simp] theorem Dev.updRing_pke (a b : Nat) (f : Ring → Ring) : (d.updRing a b f).pke = d.pke := rfl
@[simp] theorem Dev.updRing_key (a b : Nat) (f : Ring → Ring) : (d.updRing a b f).key = d.key := rfl
@[simp] theorem Dev.updRing_rng (a b : Nat) (f : Ring → Ring) : (d.updRing a b f).rng = d.rng := rfl
@[simp] theorem Dev.updRing_fab (a b : Nat) (f : Ring → Ring) : (d.updRing a b f).fab = d.fab := rfl
@[simp] theorem Dev.updRing_cus (a b : Nat) (f : Ring → Ring) : (d.updRing a b f).cus = d.cus := rfl
@[simp] theorem Dev.updRing_tmp (a b : Nat) (f : Ring → Ring) : (d.updRing a b f).tmp = d.tmp := rfl
@[simp] theorem Dev.updRing_evl (a b : Nat) (f : Ring → Ring) : (d.updRing a b f).evl = d.evl := rfl
@[simp] theorem Dev.updRing_erc (a b : Nat) (f : Ring → Ring) : (d.updRing a b f).erc = d.erc := rfl
@[simp] theorem Dev.updRing_lcs (a b : Nat) (f : Ring → Ring) : (d.updRing a b f).lcs = d.lcs := rfl
@[simp] theorem Dev.updRing_acc (a b : Nat) (f : Ring → Ring) : (d.updRing a b f).acc = d.acc := rfl
@[simp] theorem Dev.updRing_mem (a b : Nat) (f : Ring → Ring) : (d.updRing a b f).mem = d.mem := rfl
@[simp] theorem Dev.updRing_pwr (a b : Nat) (f : Ring → Ring) : (d.updRing a b f).pwr = d.pwr := rfl
@[simp] theorem Dev.updRing_cfg (a b : Nat) (f : Ring → Ring) : (d.updRing a b f).cfg = d.cfg := rfl
@[simp] theorem Dev.updRing_reg (a b : Nat) (f : Ring → Ring) (o : Nat) : (d.updRing a b f).reg o = d.reg o := rfl
@[simp] theorem Dev.updSlice_regs (n : Nat) (f : Slice → Slice) : (d.updSlice n f).regs = d.regs := rfl
@[simp] theorem Dev.updSlice_hiLatch (n : Nat) (f : Slice → Slice) : (d.updSlice n f).hiLatch = d.hiLatch := rfl
@[simp] theorem Dev.updSlice_rdata (n : Nat) (f : Slice → Slice) : (d.updSlice n f).rdata = d.rdata := rfl
@[simp] theorem Dev.updSlice_tx (n : Nat) (f : Slice → Slice) : (d.updSlice n f).tx = d.tx := rfl
@[simp] theorem Dev.updSlice_tim (n : Nat) (f : Slice → Slice) : (d.updSlice n f).tim = d.tim := rfl
@[simp] theorem Dev.updSlice_hif (n : Nat) (f : Slice → Slice) : (d.updSlice n f).hif = d.hif := rfl
@[simp] theorem Dev.updSlice_jnl (n : Nat) (f : Slice → Slice) : (d.updSlice n f).jnl = d.jnl := rfl
@[simp] theorem Dev.updSlice_ddt (n : Nat) (f : Slice → Slice) : (d.updSlice n f).ddt = d.ddt := rfl
@[simp] theorem Dev.updSlice_dsp (n : Nat) (f : Slice → Slice) : (d.updSlice n f).dsp = d.dsp := rfl
@[simp] theorem Dev.updSlice_lan (n : Nat) (f : Slice → Slice) : (d.updSlice n f).lan = d.lan := rfl
@[simp] theorem Dev.updSlice_pke (n : Nat) (f : Slice → Slice) : (d.updSlice n f).pke = d.pke := rfl
@[simp] theorem Dev.updSlice_key (n : Nat) (f : Slice → Slice) : (d.updSlice n f).key = d.key := rfl
@[simp] theorem Dev.updSlice_rng (n : Nat) (f : Slice → Slice) : (d.updSlice n f).rng = d.rng := rfl
@[simp] theorem Dev.updSlice_fab (n : Nat) (f : Slice → Slice) : (d.updSlice n f).fab = d.fab := rfl
@[simp] theorem Dev.updSlice_cus (n : Nat) (f : Slice → Slice) : (d.updSlice n f).cus = d.cus := rfl
@[simp] theorem Dev.updSlice_tmp (n : Nat) (f : Slice → Slice) : (d.updSlice n f).tmp = d.tmp := rfl
@[simp] theorem Dev.updSlice_evl (n : Nat) (f : Slice → Slice) : (d.updSlice n f).evl = d.evl := rfl
@[simp] theorem Dev.updSlice_erc (n : Nat) (f : Slice → Slice) : (d.updSlice n f).erc = d.erc := rfl
@[simp] theorem Dev.updSlice_lcs (n : Nat) (f : Slice → Slice) : (d.updSlice n f).lcs = d.lcs := rfl
@[simp] theorem Dev.updSlice_acc (n : Nat) (f : Slice → Slice) : (d.updSlice n f).acc = d.acc := rfl
@[simp] theorem Dev.updSlice_mem (n : Nat) (f : Slice → Slice) : (d.updSlice n f).mem = d.mem := rfl
@[simp] theorem Dev.updSlice_pwr (n : Nat) (f : Slice → Slice) : (d.updSlice n f).pwr = d.pwr := rfl
@[simp] theorem Dev.updSlice_cfg (n : Nat) (f : Slice → Slice) : (d.updSlice n f).cfg = d.cfg := rfl
@[simp] theorem Dev.updSlice_reg (n : Nat) (f : Slice → Slice) (o : Nat) : (d.updSlice n f).reg o = d.reg o := rfl
@[simp] theorem Dev.updItem_regs (n : Nat) (f : Item → Item) : (d.updItem n f).regs = d.regs := rfl
@[simp] theorem Dev.updItem_hiLatch (n : Nat) (f : Item → Item) : (d.updItem n f).hiLatch = d.hiLatch := rfl
@[simp] theorem Dev.updItem_rdata (n : Nat) (f : Item → Item) : (d.updItem n f).rdata = d.rdata := rfl
@[simp] theorem Dev.updItem_tx (n : Nat) (f : Item → Item) : (d.updItem n f).tx = d.tx := rfl
@[simp] theorem Dev.updItem_tim (n : Nat) (f : Item → Item) : (d.updItem n f).tim = d.tim := rfl
@[simp] theorem Dev.updItem_hif (n : Nat) (f : Item → Item) : (d.updItem n f).hif = d.hif := rfl
@[simp] theorem Dev.updItem_slices (n : Nat) (f : Item → Item) : (d.updItem n f).slices = d.slices := rfl
@[simp] theorem Dev.updItem_jnl (n : Nat) (f : Item → Item) : (d.updItem n f).jnl = d.jnl := rfl
@[simp] theorem Dev.updItem_ddt (n : Nat) (f : Item → Item) : (d.updItem n f).ddt = d.ddt := rfl
@[simp] theorem Dev.updItem_lan (n : Nat) (f : Item → Item) : (d.updItem n f).lan = d.lan := rfl
@[simp] theorem Dev.updItem_pke (n : Nat) (f : Item → Item) : (d.updItem n f).pke = d.pke := rfl
@[simp] theorem Dev.updItem_key (n : Nat) (f : Item → Item) : (d.updItem n f).key = d.key := rfl
@[simp] theorem Dev.updItem_rng (n : Nat) (f : Item → Item) : (d.updItem n f).rng = d.rng := rfl
@[simp] theorem Dev.updItem_fab (n : Nat) (f : Item → Item) : (d.updItem n f).fab = d.fab := rfl
@[simp] theorem Dev.updItem_cus (n : Nat) (f : Item → Item) : (d.updItem n f).cus = d.cus := rfl
@[simp] theorem Dev.updItem_tmp (n : Nat) (f : Item → Item) : (d.updItem n f).tmp = d.tmp := rfl
@[simp] theorem Dev.updItem_evl (n : Nat) (f : Item → Item) : (d.updItem n f).evl = d.evl := rfl
@[simp] theorem Dev.updItem_erc (n : Nat) (f : Item → Item) : (d.updItem n f).erc = d.erc := rfl
@[simp] theorem Dev.updItem_lcs (n : Nat) (f : Item → Item) : (d.updItem n f).lcs = d.lcs := rfl
@[simp] theorem Dev.updItem_acc (n : Nat) (f : Item → Item) : (d.updItem n f).acc = d.acc := rfl
@[simp] theorem Dev.updItem_mem (n : Nat) (f : Item → Item) : (d.updItem n f).mem = d.mem := rfl
@[simp] theorem Dev.updItem_pwr (n : Nat) (f : Item → Item) : (d.updItem n f).pwr = d.pwr := rfl
@[simp] theorem Dev.updItem_cfg (n : Nat) (f : Item → Item) : (d.updItem n f).cfg = d.cfg := rfl
@[simp] theorem Dev.updItem_reg (n : Nat) (f : Item → Item) (o : Nat) : (d.updItem n f).reg o = d.reg o := rfl
@[simp] theorem Dev.updRec_regs (n : Nat) (f : Rec → Rec) : (d.updRec n f).regs = d.regs := rfl
@[simp] theorem Dev.updRec_hiLatch (n : Nat) (f : Rec → Rec) : (d.updRec n f).hiLatch = d.hiLatch := rfl
@[simp] theorem Dev.updRec_rdata (n : Nat) (f : Rec → Rec) : (d.updRec n f).rdata = d.rdata := rfl
@[simp] theorem Dev.updRec_tx (n : Nat) (f : Rec → Rec) : (d.updRec n f).tx = d.tx := rfl
@[simp] theorem Dev.updRec_tim (n : Nat) (f : Rec → Rec) : (d.updRec n f).tim = d.tim := rfl
@[simp] theorem Dev.updRec_hif (n : Nat) (f : Rec → Rec) : (d.updRec n f).hif = d.hif := rfl
@[simp] theorem Dev.updRec_slices (n : Nat) (f : Rec → Rec) : (d.updRec n f).slices = d.slices := rfl
@[simp] theorem Dev.updRec_ddt (n : Nat) (f : Rec → Rec) : (d.updRec n f).ddt = d.ddt := rfl
@[simp] theorem Dev.updRec_dsp (n : Nat) (f : Rec → Rec) : (d.updRec n f).dsp = d.dsp := rfl
@[simp] theorem Dev.updRec_lan (n : Nat) (f : Rec → Rec) : (d.updRec n f).lan = d.lan := rfl
@[simp] theorem Dev.updRec_pke (n : Nat) (f : Rec → Rec) : (d.updRec n f).pke = d.pke := rfl
@[simp] theorem Dev.updRec_key (n : Nat) (f : Rec → Rec) : (d.updRec n f).key = d.key := rfl
@[simp] theorem Dev.updRec_rng (n : Nat) (f : Rec → Rec) : (d.updRec n f).rng = d.rng := rfl
@[simp] theorem Dev.updRec_fab (n : Nat) (f : Rec → Rec) : (d.updRec n f).fab = d.fab := rfl
@[simp] theorem Dev.updRec_cus (n : Nat) (f : Rec → Rec) : (d.updRec n f).cus = d.cus := rfl
@[simp] theorem Dev.updRec_tmp (n : Nat) (f : Rec → Rec) : (d.updRec n f).tmp = d.tmp := rfl
@[simp] theorem Dev.updRec_evl (n : Nat) (f : Rec → Rec) : (d.updRec n f).evl = d.evl := rfl
@[simp] theorem Dev.updRec_erc (n : Nat) (f : Rec → Rec) : (d.updRec n f).erc = d.erc := rfl
@[simp] theorem Dev.updRec_lcs (n : Nat) (f : Rec → Rec) : (d.updRec n f).lcs = d.lcs := rfl
@[simp] theorem Dev.updRec_acc (n : Nat) (f : Rec → Rec) : (d.updRec n f).acc = d.acc := rfl
@[simp] theorem Dev.updRec_mem (n : Nat) (f : Rec → Rec) : (d.updRec n f).mem = d.mem := rfl
@[simp] theorem Dev.updRec_pwr (n : Nat) (f : Rec → Rec) : (d.updRec n f).pwr = d.pwr := rfl
@[simp] theorem Dev.updRec_cfg (n : Nat) (f : Rec → Rec) : (d.updRec n f).cfg = d.cfg := rfl
@[simp] theorem Dev.updRec_reg (n : Nat) (f : Rec → Rec) (o : Nat) : (d.updRec n f).reg o = d.reg o := rfl
@[simp] theorem Dev.onTim_regs (f : Tim → Tim) : (d.onTim f).regs = d.regs := rfl
@[simp] theorem Dev.onTim_hiLatch (f : Tim → Tim) : (d.onTim f).hiLatch = d.hiLatch := rfl
@[simp] theorem Dev.onTim_rdata (f : Tim → Tim) : (d.onTim f).rdata = d.rdata := rfl
@[simp] theorem Dev.onTim_tx (f : Tim → Tim) : (d.onTim f).tx = d.tx := rfl
@[simp] theorem Dev.onTim_hif (f : Tim → Tim) : (d.onTim f).hif = d.hif := rfl
@[simp] theorem Dev.onTim_slices (f : Tim → Tim) : (d.onTim f).slices = d.slices := rfl
@[simp] theorem Dev.onTim_jnl (f : Tim → Tim) : (d.onTim f).jnl = d.jnl := rfl
@[simp] theorem Dev.onTim_ddt (f : Tim → Tim) : (d.onTim f).ddt = d.ddt := rfl
@[simp] theorem Dev.onTim_dsp (f : Tim → Tim) : (d.onTim f).dsp = d.dsp := rfl
@[simp] theorem Dev.onTim_lan (f : Tim → Tim) : (d.onTim f).lan = d.lan := rfl
@[simp] theorem Dev.onTim_pke (f : Tim → Tim) : (d.onTim f).pke = d.pke := rfl
@[simp] theorem Dev.onTim_key (f : Tim → Tim) : (d.onTim f).key = d.key := rfl
@[simp] theorem Dev.onTim_rng (f : Tim → Tim) : (d.onTim f).rng = d.rng := rfl
@[simp] theorem Dev.onTim_fab (f : Tim → Tim) : (d.onTim f).fab = d.fab := rfl
@[simp] theorem Dev.onTim_cus (f : Tim → Tim) : (d.onTim f).cus = d.cus := rfl
@[simp] theorem Dev.onTim_tmp (f : Tim → Tim) : (d.onTim f).tmp = d.tmp := rfl
@[simp] theorem Dev.onTim_evl (f : Tim → Tim) : (d.onTim f).evl = d.evl := rfl
@[simp] theorem Dev.onTim_erc (f : Tim → Tim) : (d.onTim f).erc = d.erc := rfl
@[simp] theorem Dev.onTim_lcs (f : Tim → Tim) : (d.onTim f).lcs = d.lcs := rfl
@[simp] theorem Dev.onTim_acc (f : Tim → Tim) : (d.onTim f).acc = d.acc := rfl
@[simp] theorem Dev.onTim_mem (f : Tim → Tim) : (d.onTim f).mem = d.mem := rfl
@[simp] theorem Dev.onTim_pwr (f : Tim → Tim) : (d.onTim f).pwr = d.pwr := rfl
@[simp] theorem Dev.onTim_cfg (f : Tim → Tim) : (d.onTim f).cfg = d.cfg := rfl
@[simp] theorem Dev.onTim_reg (f : Tim → Tim) (o : Nat) : (d.onTim f).reg o = d.reg o := rfl
@[simp] theorem Dev.onPwr_regs (f : Pwr → Pwr) : (d.onPwr f).regs = d.regs := rfl
@[simp] theorem Dev.onPwr_hiLatch (f : Pwr → Pwr) : (d.onPwr f).hiLatch = d.hiLatch := rfl
@[simp] theorem Dev.onPwr_rdata (f : Pwr → Pwr) : (d.onPwr f).rdata = d.rdata := rfl
@[simp] theorem Dev.onPwr_tx (f : Pwr → Pwr) : (d.onPwr f).tx = d.tx := rfl
@[simp] theorem Dev.onPwr_tim (f : Pwr → Pwr) : (d.onPwr f).tim = d.tim := rfl
@[simp] theorem Dev.onPwr_hif (f : Pwr → Pwr) : (d.onPwr f).hif = d.hif := rfl
@[simp] theorem Dev.onPwr_slices (f : Pwr → Pwr) : (d.onPwr f).slices = d.slices := rfl
@[simp] theorem Dev.onPwr_jnl (f : Pwr → Pwr) : (d.onPwr f).jnl = d.jnl := rfl
@[simp] theorem Dev.onPwr_ddt (f : Pwr → Pwr) : (d.onPwr f).ddt = d.ddt := rfl
@[simp] theorem Dev.onPwr_dsp (f : Pwr → Pwr) : (d.onPwr f).dsp = d.dsp := rfl
@[simp] theorem Dev.onPwr_lan (f : Pwr → Pwr) : (d.onPwr f).lan = d.lan := rfl
@[simp] theorem Dev.onPwr_pke (f : Pwr → Pwr) : (d.onPwr f).pke = d.pke := rfl
@[simp] theorem Dev.onPwr_key (f : Pwr → Pwr) : (d.onPwr f).key = d.key := rfl
@[simp] theorem Dev.onPwr_rng (f : Pwr → Pwr) : (d.onPwr f).rng = d.rng := rfl
@[simp] theorem Dev.onPwr_fab (f : Pwr → Pwr) : (d.onPwr f).fab = d.fab := rfl
@[simp] theorem Dev.onPwr_cus (f : Pwr → Pwr) : (d.onPwr f).cus = d.cus := rfl
@[simp] theorem Dev.onPwr_tmp (f : Pwr → Pwr) : (d.onPwr f).tmp = d.tmp := rfl
@[simp] theorem Dev.onPwr_evl (f : Pwr → Pwr) : (d.onPwr f).evl = d.evl := rfl
@[simp] theorem Dev.onPwr_erc (f : Pwr → Pwr) : (d.onPwr f).erc = d.erc := rfl
@[simp] theorem Dev.onPwr_lcs (f : Pwr → Pwr) : (d.onPwr f).lcs = d.lcs := rfl
@[simp] theorem Dev.onPwr_acc (f : Pwr → Pwr) : (d.onPwr f).acc = d.acc := rfl
@[simp] theorem Dev.onPwr_mem (f : Pwr → Pwr) : (d.onPwr f).mem = d.mem := rfl
@[simp] theorem Dev.onPwr_cfg (f : Pwr → Pwr) : (d.onPwr f).cfg = d.cfg := rfl
@[simp] theorem Dev.onPwr_reg (f : Pwr → Pwr) (o : Nat) : (d.onPwr f).reg o = d.reg o := rfl
@[simp] theorem Dev.onRng_regs (f : Rng → Rng) : (d.onRng f).regs = d.regs := rfl
@[simp] theorem Dev.onRng_hiLatch (f : Rng → Rng) : (d.onRng f).hiLatch = d.hiLatch := rfl
@[simp] theorem Dev.onRng_rdata (f : Rng → Rng) : (d.onRng f).rdata = d.rdata := rfl
@[simp] theorem Dev.onRng_tx (f : Rng → Rng) : (d.onRng f).tx = d.tx := rfl
@[simp] theorem Dev.onRng_tim (f : Rng → Rng) : (d.onRng f).tim = d.tim := rfl
@[simp] theorem Dev.onRng_hif (f : Rng → Rng) : (d.onRng f).hif = d.hif := rfl
@[simp] theorem Dev.onRng_slices (f : Rng → Rng) : (d.onRng f).slices = d.slices := rfl
@[simp] theorem Dev.onRng_jnl (f : Rng → Rng) : (d.onRng f).jnl = d.jnl := rfl
@[simp] theorem Dev.onRng_ddt (f : Rng → Rng) : (d.onRng f).ddt = d.ddt := rfl
@[simp] theorem Dev.onRng_dsp (f : Rng → Rng) : (d.onRng f).dsp = d.dsp := rfl
@[simp] theorem Dev.onRng_lan (f : Rng → Rng) : (d.onRng f).lan = d.lan := rfl
@[simp] theorem Dev.onRng_pke (f : Rng → Rng) : (d.onRng f).pke = d.pke := rfl
@[simp] theorem Dev.onRng_key (f : Rng → Rng) : (d.onRng f).key = d.key := rfl
@[simp] theorem Dev.onRng_fab (f : Rng → Rng) : (d.onRng f).fab = d.fab := rfl
@[simp] theorem Dev.onRng_cus (f : Rng → Rng) : (d.onRng f).cus = d.cus := rfl
@[simp] theorem Dev.onRng_tmp (f : Rng → Rng) : (d.onRng f).tmp = d.tmp := rfl
@[simp] theorem Dev.onRng_evl (f : Rng → Rng) : (d.onRng f).evl = d.evl := rfl
@[simp] theorem Dev.onRng_erc (f : Rng → Rng) : (d.onRng f).erc = d.erc := rfl
@[simp] theorem Dev.onRng_lcs (f : Rng → Rng) : (d.onRng f).lcs = d.lcs := rfl
@[simp] theorem Dev.onRng_acc (f : Rng → Rng) : (d.onRng f).acc = d.acc := rfl
@[simp] theorem Dev.onRng_mem (f : Rng → Rng) : (d.onRng f).mem = d.mem := rfl
@[simp] theorem Dev.onRng_pwr (f : Rng → Rng) : (d.onRng f).pwr = d.pwr := rfl
@[simp] theorem Dev.onRng_cfg (f : Rng → Rng) : (d.onRng f).cfg = d.cfg := rfl
@[simp] theorem Dev.onRng_reg (f : Rng → Rng) (o : Nat) : (d.onRng f).reg o = d.reg o := rfl
@[simp] theorem Dev.updSource_regs (n : Nat) (f : Source → Source) : (d.updSource n f).regs = d.regs := rfl
@[simp] theorem Dev.updSource_hiLatch (n : Nat) (f : Source → Source) : (d.updSource n f).hiLatch = d.hiLatch := rfl
@[simp] theorem Dev.updSource_rdata (n : Nat) (f : Source → Source) : (d.updSource n f).rdata = d.rdata := rfl
@[simp] theorem Dev.updSource_tx (n : Nat) (f : Source → Source) : (d.updSource n f).tx = d.tx := rfl
@[simp] theorem Dev.updSource_tim (n : Nat) (f : Source → Source) : (d.updSource n f).tim = d.tim := rfl
@[simp] theorem Dev.updSource_hif (n : Nat) (f : Source → Source) : (d.updSource n f).hif = d.hif := rfl
@[simp] theorem Dev.updSource_slices (n : Nat) (f : Source → Source) : (d.updSource n f).slices = d.slices := rfl
@[simp] theorem Dev.updSource_jnl (n : Nat) (f : Source → Source) : (d.updSource n f).jnl = d.jnl := rfl
@[simp] theorem Dev.updSource_ddt (n : Nat) (f : Source → Source) : (d.updSource n f).ddt = d.ddt := rfl
@[simp] theorem Dev.updSource_dsp (n : Nat) (f : Source → Source) : (d.updSource n f).dsp = d.dsp := rfl
@[simp] theorem Dev.updSource_lan (n : Nat) (f : Source → Source) : (d.updSource n f).lan = d.lan := rfl
@[simp] theorem Dev.updSource_pke (n : Nat) (f : Source → Source) : (d.updSource n f).pke = d.pke := rfl
@[simp] theorem Dev.updSource_key (n : Nat) (f : Source → Source) : (d.updSource n f).key = d.key := rfl
@[simp] theorem Dev.updSource_fab (n : Nat) (f : Source → Source) : (d.updSource n f).fab = d.fab := rfl
@[simp] theorem Dev.updSource_cus (n : Nat) (f : Source → Source) : (d.updSource n f).cus = d.cus := rfl
@[simp] theorem Dev.updSource_tmp (n : Nat) (f : Source → Source) : (d.updSource n f).tmp = d.tmp := rfl
@[simp] theorem Dev.updSource_evl (n : Nat) (f : Source → Source) : (d.updSource n f).evl = d.evl := rfl
@[simp] theorem Dev.updSource_erc (n : Nat) (f : Source → Source) : (d.updSource n f).erc = d.erc := rfl
@[simp] theorem Dev.updSource_lcs (n : Nat) (f : Source → Source) : (d.updSource n f).lcs = d.lcs := rfl
@[simp] theorem Dev.updSource_acc (n : Nat) (f : Source → Source) : (d.updSource n f).acc = d.acc := rfl
@[simp] theorem Dev.updSource_mem (n : Nat) (f : Source → Source) : (d.updSource n f).mem = d.mem := rfl
@[simp] theorem Dev.updSource_pwr (n : Nat) (f : Source → Source) : (d.updSource n f).pwr = d.pwr := rfl
@[simp] theorem Dev.updSource_cfg (n : Nat) (f : Source → Source) : (d.updSource n f).cfg = d.cfg := rfl
@[simp] theorem Dev.updSource_reg (n : Nat) (f : Source → Source) (o : Nat) : (d.updSource n f).reg o = d.reg o := rfl
@[simp] theorem Dev.onPair_regs (f : Pair → Pair) : (d.onPair f).regs = d.regs := rfl
@[simp] theorem Dev.onPair_hiLatch (f : Pair → Pair) : (d.onPair f).hiLatch = d.hiLatch := rfl
@[simp] theorem Dev.onPair_rdata (f : Pair → Pair) : (d.onPair f).rdata = d.rdata := rfl
@[simp] theorem Dev.onPair_tx (f : Pair → Pair) : (d.onPair f).tx = d.tx := rfl
@[simp] theorem Dev.onPair_tim (f : Pair → Pair) : (d.onPair f).tim = d.tim := rfl
@[simp] theorem Dev.onPair_hif (f : Pair → Pair) : (d.onPair f).hif = d.hif := rfl
@[simp] theorem Dev.onPair_slices (f : Pair → Pair) : (d.onPair f).slices = d.slices := rfl
@[simp] theorem Dev.onPair_jnl (f : Pair → Pair) : (d.onPair f).jnl = d.jnl := rfl
@[simp] theorem Dev.onPair_ddt (f : Pair → Pair) : (d.onPair f).ddt = d.ddt := rfl
@[simp] theorem Dev.onPair_dsp (f : Pair → Pair) : (d.onPair f).dsp = d.dsp := rfl
@[simp] theorem Dev.onPair_lan (f : Pair → Pair) : (d.onPair f).lan = d.lan := rfl
@[simp] theorem Dev.onPair_pke (f : Pair → Pair) : (d.onPair f).pke = d.pke := rfl
@[simp] theorem Dev.onPair_key (f : Pair → Pair) : (d.onPair f).key = d.key := rfl
@[simp] theorem Dev.onPair_rng (f : Pair → Pair) : (d.onPair f).rng = d.rng := rfl
@[simp] theorem Dev.onPair_cus (f : Pair → Pair) : (d.onPair f).cus = d.cus := rfl
@[simp] theorem Dev.onPair_tmp (f : Pair → Pair) : (d.onPair f).tmp = d.tmp := rfl
@[simp] theorem Dev.onPair_evl (f : Pair → Pair) : (d.onPair f).evl = d.evl := rfl
@[simp] theorem Dev.onPair_erc (f : Pair → Pair) : (d.onPair f).erc = d.erc := rfl
@[simp] theorem Dev.onPair_lcs (f : Pair → Pair) : (d.onPair f).lcs = d.lcs := rfl
@[simp] theorem Dev.onPair_acc (f : Pair → Pair) : (d.onPair f).acc = d.acc := rfl
@[simp] theorem Dev.onPair_mem (f : Pair → Pair) : (d.onPair f).mem = d.mem := rfl
@[simp] theorem Dev.onPair_pwr (f : Pair → Pair) : (d.onPair f).pwr = d.pwr := rfl
@[simp] theorem Dev.onPair_cfg (f : Pair → Pair) : (d.onPair f).cfg = d.cfg := rfl
@[simp] theorem Dev.onPair_reg (f : Pair → Pair) (o : Nat) : (d.onPair f).reg o = d.reg o := rfl
@[simp] theorem Dev.updCer_regs (n : Nat) (f : Ceremony → Ceremony) : (d.updCer n f).regs = d.regs := rfl
@[simp] theorem Dev.updCer_hiLatch (n : Nat) (f : Ceremony → Ceremony) : (d.updCer n f).hiLatch = d.hiLatch := rfl
@[simp] theorem Dev.updCer_rdata (n : Nat) (f : Ceremony → Ceremony) : (d.updCer n f).rdata = d.rdata := rfl
@[simp] theorem Dev.updCer_tx (n : Nat) (f : Ceremony → Ceremony) : (d.updCer n f).tx = d.tx := rfl
@[simp] theorem Dev.updCer_tim (n : Nat) (f : Ceremony → Ceremony) : (d.updCer n f).tim = d.tim := rfl
@[simp] theorem Dev.updCer_hif (n : Nat) (f : Ceremony → Ceremony) : (d.updCer n f).hif = d.hif := rfl
@[simp] theorem Dev.updCer_slices (n : Nat) (f : Ceremony → Ceremony) : (d.updCer n f).slices = d.slices := rfl
@[simp] theorem Dev.updCer_jnl (n : Nat) (f : Ceremony → Ceremony) : (d.updCer n f).jnl = d.jnl := rfl
@[simp] theorem Dev.updCer_ddt (n : Nat) (f : Ceremony → Ceremony) : (d.updCer n f).ddt = d.ddt := rfl
@[simp] theorem Dev.updCer_dsp (n : Nat) (f : Ceremony → Ceremony) : (d.updCer n f).dsp = d.dsp := rfl
@[simp] theorem Dev.updCer_lan (n : Nat) (f : Ceremony → Ceremony) : (d.updCer n f).lan = d.lan := rfl
@[simp] theorem Dev.updCer_pke (n : Nat) (f : Ceremony → Ceremony) : (d.updCer n f).pke = d.pke := rfl
@[simp] theorem Dev.updCer_key (n : Nat) (f : Ceremony → Ceremony) : (d.updCer n f).key = d.key := rfl
@[simp] theorem Dev.updCer_rng (n : Nat) (f : Ceremony → Ceremony) : (d.updCer n f).rng = d.rng := rfl
@[simp] theorem Dev.updCer_fab (n : Nat) (f : Ceremony → Ceremony) : (d.updCer n f).fab = d.fab := rfl
@[simp] theorem Dev.updCer_tmp (n : Nat) (f : Ceremony → Ceremony) : (d.updCer n f).tmp = d.tmp := rfl
@[simp] theorem Dev.updCer_evl (n : Nat) (f : Ceremony → Ceremony) : (d.updCer n f).evl = d.evl := rfl
@[simp] theorem Dev.updCer_erc (n : Nat) (f : Ceremony → Ceremony) : (d.updCer n f).erc = d.erc := rfl
@[simp] theorem Dev.updCer_lcs (n : Nat) (f : Ceremony → Ceremony) : (d.updCer n f).lcs = d.lcs := rfl
@[simp] theorem Dev.updCer_acc (n : Nat) (f : Ceremony → Ceremony) : (d.updCer n f).acc = d.acc := rfl
@[simp] theorem Dev.updCer_mem (n : Nat) (f : Ceremony → Ceremony) : (d.updCer n f).mem = d.mem := rfl
@[simp] theorem Dev.updCer_pwr (n : Nat) (f : Ceremony → Ceremony) : (d.updCer n f).pwr = d.pwr := rfl
@[simp] theorem Dev.updCer_cfg (n : Nat) (f : Ceremony → Ceremony) : (d.updCer n f).cfg = d.cfg := rfl
@[simp] theorem Dev.updCer_reg (n : Nat) (f : Ceremony → Ceremony) (o : Nat) : (d.updCer n f).reg o = d.reg o := rfl
@[simp] theorem Dev.updCard_regs (n : Nat) (f : CardPort → CardPort) : (d.updCard n f).regs = d.regs := rfl
@[simp] theorem Dev.updCard_hiLatch (n : Nat) (f : CardPort → CardPort) : (d.updCard n f).hiLatch = d.hiLatch := rfl
@[simp] theorem Dev.updCard_rdata (n : Nat) (f : CardPort → CardPort) : (d.updCard n f).rdata = d.rdata := rfl
@[simp] theorem Dev.updCard_tx (n : Nat) (f : CardPort → CardPort) : (d.updCard n f).tx = d.tx := rfl
@[simp] theorem Dev.updCard_tim (n : Nat) (f : CardPort → CardPort) : (d.updCard n f).tim = d.tim := rfl
@[simp] theorem Dev.updCard_hif (n : Nat) (f : CardPort → CardPort) : (d.updCard n f).hif = d.hif := rfl
@[simp] theorem Dev.updCard_slices (n : Nat) (f : CardPort → CardPort) : (d.updCard n f).slices = d.slices := rfl
@[simp] theorem Dev.updCard_jnl (n : Nat) (f : CardPort → CardPort) : (d.updCard n f).jnl = d.jnl := rfl
@[simp] theorem Dev.updCard_ddt (n : Nat) (f : CardPort → CardPort) : (d.updCard n f).ddt = d.ddt := rfl
@[simp] theorem Dev.updCard_dsp (n : Nat) (f : CardPort → CardPort) : (d.updCard n f).dsp = d.dsp := rfl
@[simp] theorem Dev.updCard_lan (n : Nat) (f : CardPort → CardPort) : (d.updCard n f).lan = d.lan := rfl
@[simp] theorem Dev.updCard_pke (n : Nat) (f : CardPort → CardPort) : (d.updCard n f).pke = d.pke := rfl
@[simp] theorem Dev.updCard_key (n : Nat) (f : CardPort → CardPort) : (d.updCard n f).key = d.key := rfl
@[simp] theorem Dev.updCard_rng (n : Nat) (f : CardPort → CardPort) : (d.updCard n f).rng = d.rng := rfl
@[simp] theorem Dev.updCard_fab (n : Nat) (f : CardPort → CardPort) : (d.updCard n f).fab = d.fab := rfl
@[simp] theorem Dev.updCard_tmp (n : Nat) (f : CardPort → CardPort) : (d.updCard n f).tmp = d.tmp := rfl
@[simp] theorem Dev.updCard_evl (n : Nat) (f : CardPort → CardPort) : (d.updCard n f).evl = d.evl := rfl
@[simp] theorem Dev.updCard_erc (n : Nat) (f : CardPort → CardPort) : (d.updCard n f).erc = d.erc := rfl
@[simp] theorem Dev.updCard_lcs (n : Nat) (f : CardPort → CardPort) : (d.updCard n f).lcs = d.lcs := rfl
@[simp] theorem Dev.updCard_acc (n : Nat) (f : CardPort → CardPort) : (d.updCard n f).acc = d.acc := rfl
@[simp] theorem Dev.updCard_mem (n : Nat) (f : CardPort → CardPort) : (d.updCard n f).mem = d.mem := rfl
@[simp] theorem Dev.updCard_pwr (n : Nat) (f : CardPort → CardPort) : (d.updCard n f).pwr = d.pwr := rfl
@[simp] theorem Dev.updCard_cfg (n : Nat) (f : CardPort → CardPort) : (d.updCard n f).cfg = d.cfg := rfl
@[simp] theorem Dev.updCard_reg (n : Nat) (f : CardPort → CardPort) (o : Nat) : (d.updCard n f).reg o = d.reg o := rfl
@[simp] theorem Dev.updDdt_regs (a : Nat) (b : DWord) (f : DdtEntry → DdtEntry) : (d.updDdt a b f).regs = d.regs := rfl
@[simp] theorem Dev.updDdt_hiLatch (a : Nat) (b : DWord) (f : DdtEntry → DdtEntry) : (d.updDdt a b f).hiLatch = d.hiLatch := rfl
@[simp] theorem Dev.updDdt_rdata (a : Nat) (b : DWord) (f : DdtEntry → DdtEntry) : (d.updDdt a b f).rdata = d.rdata := rfl
@[simp] theorem Dev.updDdt_tx (a : Nat) (b : DWord) (f : DdtEntry → DdtEntry) : (d.updDdt a b f).tx = d.tx := rfl
@[simp] theorem Dev.updDdt_tim (a : Nat) (b : DWord) (f : DdtEntry → DdtEntry) : (d.updDdt a b f).tim = d.tim := rfl
@[simp] theorem Dev.updDdt_hif (a : Nat) (b : DWord) (f : DdtEntry → DdtEntry) : (d.updDdt a b f).hif = d.hif := rfl
@[simp] theorem Dev.updDdt_slices (a : Nat) (b : DWord) (f : DdtEntry → DdtEntry) : (d.updDdt a b f).slices = d.slices := rfl
@[simp] theorem Dev.updDdt_jnl (a : Nat) (b : DWord) (f : DdtEntry → DdtEntry) : (d.updDdt a b f).jnl = d.jnl := rfl
@[simp] theorem Dev.updDdt_dsp (a : Nat) (b : DWord) (f : DdtEntry → DdtEntry) : (d.updDdt a b f).dsp = d.dsp := rfl
@[simp] theorem Dev.updDdt_lan (a : Nat) (b : DWord) (f : DdtEntry → DdtEntry) : (d.updDdt a b f).lan = d.lan := rfl
@[simp] theorem Dev.updDdt_pke (a : Nat) (b : DWord) (f : DdtEntry → DdtEntry) : (d.updDdt a b f).pke = d.pke := rfl
@[simp] theorem Dev.updDdt_key (a : Nat) (b : DWord) (f : DdtEntry → DdtEntry) : (d.updDdt a b f).key = d.key := rfl
@[simp] theorem Dev.updDdt_rng (a : Nat) (b : DWord) (f : DdtEntry → DdtEntry) : (d.updDdt a b f).rng = d.rng := rfl
@[simp] theorem Dev.updDdt_fab (a : Nat) (b : DWord) (f : DdtEntry → DdtEntry) : (d.updDdt a b f).fab = d.fab := rfl
@[simp] theorem Dev.updDdt_cus (a : Nat) (b : DWord) (f : DdtEntry → DdtEntry) : (d.updDdt a b f).cus = d.cus := rfl
@[simp] theorem Dev.updDdt_tmp (a : Nat) (b : DWord) (f : DdtEntry → DdtEntry) : (d.updDdt a b f).tmp = d.tmp := rfl
@[simp] theorem Dev.updDdt_evl (a : Nat) (b : DWord) (f : DdtEntry → DdtEntry) : (d.updDdt a b f).evl = d.evl := rfl
@[simp] theorem Dev.updDdt_erc (a : Nat) (b : DWord) (f : DdtEntry → DdtEntry) : (d.updDdt a b f).erc = d.erc := rfl
@[simp] theorem Dev.updDdt_lcs (a : Nat) (b : DWord) (f : DdtEntry → DdtEntry) : (d.updDdt a b f).lcs = d.lcs := rfl
@[simp] theorem Dev.updDdt_acc (a : Nat) (b : DWord) (f : DdtEntry → DdtEntry) : (d.updDdt a b f).acc = d.acc := rfl
@[simp] theorem Dev.updDdt_mem (a : Nat) (b : DWord) (f : DdtEntry → DdtEntry) : (d.updDdt a b f).mem = d.mem := rfl
@[simp] theorem Dev.updDdt_pwr (a : Nat) (b : DWord) (f : DdtEntry → DdtEntry) : (d.updDdt a b f).pwr = d.pwr := rfl
@[simp] theorem Dev.updDdt_cfg (a : Nat) (b : DWord) (f : DdtEntry → DdtEntry) : (d.updDdt a b f).cfg = d.cfg := rfl
@[simp] theorem Dev.updDdt_reg (a : Nat) (b : DWord) (f : DdtEntry → DdtEntry) (o : Nat) : (d.updDdt a b f).reg o = d.reg o := rfl

@[simp] theorem Dev.setReg_regs (off : Nat) (v : Word) : (d.setReg off v).regs = d.regs.set off v := rfl
@[simp] theorem Dev.emit_tx (t : Tx) : (d.emit t).tx = t :: d.tx := rfl
@[simp] theorem Dev.draw_ctr : d.draw.rng.ctr = d.rng.ctr + 1 := rfl
@[simp] theorem Dev.onTim_tim (f : Tim → Tim) : (d.onTim f).tim = f d.tim := rfl
@[simp] theorem Dev.onPwr_pwr (f : Pwr → Pwr) : (d.onPwr f).pwr = f d.pwr := rfl
@[simp] theorem Dev.onRng_rng (f : Rng → Rng) : (d.onRng f).rng = f d.rng := rfl
@[simp] theorem Dev.onPair_pair (f : Pair → Pair) : (d.onPair f).fab.pair = f d.fab.pair := rfl
@[simp] theorem Dev.updDrbg_ctr (n : Nat) (f : Drbg → Drbg) : (d.updDrbg n f).rng.ctr = d.rng.ctr := rfl

/-! The context and the outcome of a command on `Dev`. -/

@[simp] theorem State.ctx_now (s : State) : s.ctx.now = s.st.toNat := rfl
@[simp] theorem State.ctx_otp (s : State) : s.ctx.otp = s.otp := rfl
@[simp] theorem State.onDev_eq (s : State) (f : Ctx → Dev → Dev) : s.onDev f = .next { s with dev := f s.ctx s.dev } := rfl

end Sys2Proof.Machine
end

