-- ==== Sys2Proof/Laws/Ops.lean ====
section
/-! SUPPORT. What the shared operations do: register file and memory (read after write, canonical form kept), events and
interrupts, evidence and recorder, the DRBGs, and the host access that every register goes through. -/

namespace Sys2Proof.Machine

/-! ### Register file -/

theorem RegFile.find_erase (rf : RegFile) (off : Nat) : (rf.erase off).find? (fun p => p.1 == off) = none := by
  simp [RegFile.erase]

theorem RegFile.find_insert (off : Nat) (v : Word) :
    ∀ rf : RegFile, (∀ p ∈ rf, p.1 ≠ off) → (RegFile.insert off v rf).find? (fun p => p.1 == off) = some (off, v)
  | [], _ => by simp [RegFile.insert]
  | p :: t, h => by
    have hp : (p.1 == off) = false := by simpa using h p (by simp)
    simp only [RegFile.insert]
    split
    · simp
    · simp only [List.find?_cons, hp]
      exact RegFile.find_insert off v t (fun q hq => h q (by simp [hq]))

theorem RegFile.find_insert_ne {a off : Nat} (v : Word) (h : a ≠ off) :
    ∀ rf : RegFile, (RegFile.insert off v rf).find? (fun p => p.1 == a) = rf.find? (fun p => p.1 == a)
  | [] => by simp [RegFile.insert, Ne.symm h]
  | p :: t => by
    simp only [RegFile.insert]
    split
    · simp [List.find?_cons, Ne.symm h]
    · simp only [List.find?_cons, RegFile.find_insert_ne v h t]

theorem RegFile.find_erase_ne {a off : Nat} (h : a ≠ off) (rf : RegFile) :
    (rf.erase off).find? (fun p => p.1 == a) = rf.find? (fun p => p.1 == a) := by
  induction rf with
  | nil => rfl
  | cons p t ih =>
    simp only [RegFile.erase, List.filter_cons, List.find?_cons] at *
    by_cases hp : p.1 = off
    · have hq : (off == a) = false := by simpa using Ne.symm h
      simp [hp, ih, hq]
    · simp [hp, ih, List.find?_cons]

/-- A register reads back what was stored. -/
@[simp] theorem RegFile.get_set (rf : RegFile) (off : Nat) (v : Word) : (rf.set off v).get off = v := by
  unfold RegFile.set
  split
  · next h => simp [RegFile.get, RegFile.find_erase, h]
  · simp [RegFile.get, RegFile.find_insert off v (rf.erase off) (by intro p hp; simp [RegFile.erase] at hp; exact hp.2)]

/-- A store leaves every other register. -/
theorem RegFile.get_set_ne {a off : Nat} (rf : RegFile) (v : Word) (h : a ≠ off) : (rf.set off v).get a = rf.get a := by
  unfold RegFile.set
  split <;> simp [RegFile.get, RegFile.find_erase_ne h, RegFile.find_insert_ne v h]

@[simp] theorem Dev.reg_setReg (d : Dev) (off : Nat) (v : Word) : (d.setReg off v).reg off = v := RegFile.get_set _ _ _
theorem Dev.reg_setReg_ne (d : Dev) {a off : Nat} (v : Word) (h : a ≠ off) : (d.setReg off v).reg a = d.reg a :=
  RegFile.get_set_ne _ _ h

theorem RegFile.mem_insert (off : Nat) (v : Word) : ∀ (rf : RegFile) (p : Nat × Word), p ∈ RegFile.insert off v rf ↔ p = (off, v) ∨ p ∈ rf
  | [], p => by simp [RegFile.insert]
  | q :: t, p => by
    simp only [RegFile.insert]
    split
    · simp
    · simp only [List.mem_cons, RegFile.mem_insert off v t p]; tauto

theorem RegFile.pairwise_insert (off : Nat) (v : Word) :
    ∀ rf : RegFile, rf.Pairwise (fun a b => a.1 < b.1) → (∀ p ∈ rf, p.1 ≠ off) → (RegFile.insert off v rf).Pairwise (fun a b => a.1 < b.1)
  | [], _, _ => by simp [RegFile.insert]
  | q :: t, h, hn => by
    simp only [RegFile.insert]
    rw [List.pairwise_cons] at h
    split
    · next hq =>
      rw [List.pairwise_cons]
      refine ⟨fun p hp => ?_, List.pairwise_cons.mpr h⟩
      rcases List.mem_cons.mp hp with rfl | hp
      · exact hq
      · exact lt_trans hq (h.1 p hp)
    · next hq =>
      rw [List.pairwise_cons]
      refine ⟨fun p hp => ?_, RegFile.pairwise_insert off v t h.2 (fun p hp => hn p (by simp [hp]))⟩
      rcases (RegFile.mem_insert off v t p).mp hp with rfl | hp
      · exact lt_of_le_of_ne (not_lt.mp hq) (hn q (by simp))
      · exact h.1 p hp

/-- A store keeps the canonical form of a register file. -/
theorem RegFile.wf_set {rf : RegFile} (off : Nat) (v : Word) (h : rf.wf = true) : (rf.set off v).wf = true := by
  simp only [RegFile.wf, Bool.and_eq_true, decide_eq_true_eq, List.all_eq_true] at *
  have he : (rf.erase off).Pairwise (fun a b => a.1 < b.1) := List.Pairwise.filter _ h.1
  unfold RegFile.set
  split
  · exact ⟨he, fun p hp => h.2 p (List.mem_of_mem_filter hp)⟩
  · next hv =>
    refine ⟨RegFile.pairwise_insert off v _ he (fun p hp => by simpa using (List.mem_filter.mp hp).2), fun p hp => ?_⟩
    rcases (RegFile.mem_insert off v _ p).mp hp with rfl | hp
    · simpa using hv
    · exact h.2 p (List.mem_of_mem_filter hp)

/-! ### Memory -/

theorem Memory.mem_insert (a : Nat) (v : Byte) : ∀ (m : Memory) (p : Nat × Byte), p ∈ Memory.insert a v m ↔ p = (a, v) ∨ p ∈ m
  | [], p => by simp [Memory.insert]
  | q :: t, p => by
    simp only [Memory.insert]
    split
    · simp
    · simp only [List.mem_cons, Memory.mem_insert a v t p]; tauto

theorem Memory.pairwise_insert (a : Nat) (v : Byte) :
    ∀ m : Memory, m.Pairwise (fun x y => x.1 < y.1) → (∀ p ∈ m, p.1 ≠ a) → (Memory.insert a v m).Pairwise (fun x y => x.1 < y.1)
  | [], _, _ => by simp [Memory.insert]
  | q :: t, h, hn => by
    simp only [Memory.insert]
    rw [List.pairwise_cons] at h
    split
    · next hq =>
      rw [List.pairwise_cons]
      refine ⟨fun p hp => ?_, List.pairwise_cons.mpr h⟩
      rcases List.mem_cons.mp hp with rfl | hp
      · exact hq
      · exact lt_trans hq (h.1 p hp)
    · next hq =>
      rw [List.pairwise_cons]
      refine ⟨fun p hp => ?_, Memory.pairwise_insert a v t h.2 (fun p hp => hn p (by simp [hp]))⟩
      rcases (Memory.mem_insert a v t p).mp hp with rfl | hp
      · exact lt_of_le_of_ne (not_lt.mp hq) (hn q (by simp))
      · exact h.1 p hp

/-- Keeping some addresses keeps the canonical form. -/
theorem Memory.wf_keep {m : Memory} (p : Nat → Bool) (h : m.wf = true) : (Memory.keep m p).wf = true := by
  simp only [Memory.wf, Bool.and_eq_true, decide_eq_true_eq, List.all_eq_true] at *
  exact ⟨List.Pairwise.filter _ h.1, fun q hq => h.2 q (List.mem_of_mem_filter hq)⟩

/-- A write keeps the canonical form. -/
theorem Memory.wf_write {m : Memory} (a : Nat) (v : Byte) (h : m.wf = true) : (Memory.write m a v).wf = true := by
  simp only [Memory.wf, Bool.and_eq_true, decide_eq_true_eq, List.all_eq_true] at *
  have he : (m.filter (fun p => p.1 != a)).Pairwise (fun x y => x.1 < y.1) := List.Pairwise.filter _ h.1
  unfold Memory.write
  split
  · exact ⟨he, fun p hp => h.2 p (List.mem_of_mem_filter hp)⟩
  · next hv =>
    refine ⟨Memory.pairwise_insert a v _ he (fun p hp => by simpa using (List.mem_filter.mp hp).2), fun p hp => ?_⟩
    rcases (Memory.mem_insert a v _ p).mp hp with rfl | hp
    · simpa using hv
    · exact h.2 p (List.mem_of_mem_filter hp)

/-- Writing several bytes keeps the canonical form. -/
theorem Memory.wf_writeBytes : ∀ (b : Bytes) {m : Memory} (a : Nat), m.wf = true → (Memory.writeBytes m a b).wf = true
  | [], _, _, h => h
  | _ :: t, _, a, h => Memory.wf_writeBytes t (a + 1) (Memory.wf_write a _ h)

theorem Memory.find_filter_ne {a b : Nat} (h : b ≠ a) (m : Memory) :
    (m.filter (fun p => p.1 != a)).find? (fun p => p.1 == b) = m.find? (fun p => p.1 == b) := by
  induction m with
  | nil => rfl
  | cons p t ih =>
    simp only [List.filter_cons, List.find?_cons] at *
    by_cases hp : p.1 = a
    · have hq : (a == b) = false := by simpa using Ne.symm h
      simp [hp, ih, hq]
    · simp [hp, ih, List.find?_cons]

theorem Memory.find_insert_ne {a b : Nat} (v : Byte) (h : b ≠ a) :
    ∀ m : Memory, (Memory.insert a v m).find? (fun p => p.1 == b) = m.find? (fun p => p.1 == b)
  | [] => by simp [Memory.insert, Ne.symm h]
  | p :: t => by
    simp only [Memory.insert]
    split
    · simp [List.find?_cons, Ne.symm h]
    · simp only [List.find?_cons, Memory.find_insert_ne v h t]

theorem Memory.find_insert (a : Nat) (v : Byte) :
    ∀ m : Memory, (∀ p ∈ m, p.1 ≠ a) → (Memory.insert a v m).find? (fun p => p.1 == a) = some (a, v)
  | [], _ => by simp [Memory.insert]
  | p :: t, h => by
    have hp : (p.1 == a) = false := by simpa using h p (by simp)
    simp only [Memory.insert]
    split
    · simp
    · simp only [List.find?_cons, hp]
      exact Memory.find_insert a v t (fun q hq => h q (by simp [hq]))

/-- A byte reads back what was written. -/
@[simp] theorem Memory.read_write (m : Memory) (a : Nat) (v : Byte) : (Memory.write m a v).read a = v := by
  unfold Memory.write
  split
  · next h =>
    have hn : (m.filter (fun p => p.1 != a)).find? (fun p => p.1 == a) = none := by
      rw [List.find?_eq_none]; intro p hp
      have h2 := (List.mem_filter.mp hp).2
      simpa using h2
    simp only [Memory.read, hn, h]
  · have hi := Memory.find_insert a v (m.filter (fun p => p.1 != a)) (fun p hp => by
      have h2 := (List.mem_filter.mp hp).2
      simpa using h2)
    simp only [Memory.read, hi]

/-- A write leaves every other address. -/
theorem Memory.read_write_ne {a b : Nat} (m : Memory) (v : Byte) (h : b ≠ a) : (Memory.write m a v).read b = Memory.read m b := by
  unfold Memory.write
  split <;> simp [Memory.read, Memory.find_filter_ne h, Memory.find_insert_ne v h]

/-- Writing several bytes leaves every address outside them. -/
theorem Memory.read_writeBytes_ne : ∀ (bs : Bytes) (m : Memory) {a b : Nat}, b < a ∨ a + bs.length ≤ b →
    (Memory.writeBytes m a bs).read b = Memory.read m b
  | [], _, _, _, _ => rfl
  | v :: t, m, a, b, h => by
    simp only [List.length_cons] at h
    rw [Memory.writeBytes, Memory.read_writeBytes_ne t _ (by omega), Memory.read_write_ne _ _ (by omega)]

/-! ### Events, evidence, recorder, DRBGs -/

/-- What every step of a fold keeps, the fold keeps. -/
theorem foldl_keep {α β γ : Type} (g : α → γ) (f : α → β → α) (h : ∀ a b, g (f a b) = g a) (l : List β) (a : α) : g (l.foldl f a) = g a := by
  induction l generalizing a with
  | nil => rfl
  | cons b t ih => simp [ih, h]

variable (d : Dev)

@[simp] theorem Dev.raiseVec_regs (v : Nat) : (d.raiseVec v).regs = d.regs := by unfold Dev.raiseVec; dsimp only; split <;> rfl
@[simp] theorem Dev.raiseVec_hiLatch (v : Nat) : (d.raiseVec v).hiLatch = d.hiLatch := by unfold Dev.raiseVec; dsimp only; split <;> rfl
@[simp] theorem Dev.raiseVec_rdata (v : Nat) : (d.raiseVec v).rdata = d.rdata := by unfold Dev.raiseVec; dsimp only; split <;> rfl
@[simp] theorem Dev.raiseVec_tim (v : Nat) : (d.raiseVec v).tim = d.tim := by unfold Dev.raiseVec; dsimp only; split <;> rfl
@[simp] theorem Dev.raiseVec_slices (v : Nat) : (d.raiseVec v).slices = d.slices := by unfold Dev.raiseVec; dsimp only; split <;> rfl
@[simp] theorem Dev.raiseVec_jnl (v : Nat) : (d.raiseVec v).jnl = d.jnl := by unfold Dev.raiseVec; dsimp only; split <;> rfl
@[simp] theorem Dev.raiseVec_ddt (v : Nat) : (d.raiseVec v).ddt = d.ddt := by unfold Dev.raiseVec; dsimp only; split <;> rfl
@[simp] theorem Dev.raiseVec_dsp (v : Nat) : (d.raiseVec v).dsp = d.dsp := by unfold Dev.raiseVec; dsimp only; split <;> rfl
@[simp] theorem Dev.raiseVec_lan (v : Nat) : (d.raiseVec v).lan = d.lan := by unfold Dev.raiseVec; dsimp only; split <;> rfl
@[simp] theorem Dev.raiseVec_pke (v : Nat) : (d.raiseVec v).pke = d.pke := by unfold Dev.raiseVec; dsimp only; split <;> rfl
@[simp] theorem Dev.raiseVec_key (v : Nat) : (d.raiseVec v).key = d.key := by unfold Dev.raiseVec; dsimp only; split <;> rfl
@[simp] theorem Dev.raiseVec_rng (v : Nat) : (d.raiseVec v).rng = d.rng := by unfold Dev.raiseVec; dsimp only; split <;> rfl
@[simp] theorem Dev.raiseVec_fab (v : Nat) : (d.raiseVec v).fab = d.fab := by unfold Dev.raiseVec; dsimp only; split <;> rfl
@[simp] theorem Dev.raiseVec_cus (v : Nat) : (d.raiseVec v).cus = d.cus := by unfold Dev.raiseVec; dsimp only; split <;> rfl
@[simp] theorem Dev.raiseVec_tmp (v : Nat) : (d.raiseVec v).tmp = d.tmp := by unfold Dev.raiseVec; dsimp only; split <;> rfl
@[simp] theorem Dev.raiseVec_evl (v : Nat) : (d.raiseVec v).evl = d.evl := by unfold Dev.raiseVec; dsimp only; split <;> rfl
@[simp] theorem Dev.raiseVec_erc (v : Nat) : (d.raiseVec v).erc = d.erc := by unfold Dev.raiseVec; dsimp only; split <;> rfl
@[simp] theorem Dev.raiseVec_lcs (v : Nat) : (d.raiseVec v).lcs = d.lcs := by unfold Dev.raiseVec; dsimp only; split <;> rfl
@[simp] theorem Dev.raiseVec_acc (v : Nat) : (d.raiseVec v).acc = d.acc := by unfold Dev.raiseVec; dsimp only; split <;> rfl
@[simp] theorem Dev.raiseVec_mem (v : Nat) : (d.raiseVec v).mem = d.mem := by unfold Dev.raiseVec; dsimp only; split <;> rfl
@[simp] theorem Dev.raiseVec_pwr (v : Nat) : (d.raiseVec v).pwr = d.pwr := by unfold Dev.raiseVec; dsimp only; split <;> rfl
@[simp] theorem Dev.raiseVec_cfg (v : Nat) : (d.raiseVec v).cfg = d.cfg := by unfold Dev.raiseVec; dsimp only; split <;> rfl
@[simp] theorem Dev.raiseVec_reg (v : Nat) (o : Nat) : (d.raiseVec v).reg o = d.reg o := by simp [Dev.reg]
@[simp] theorem Dev.evt_hiLatch (off : Nat) (b : Word) : (d.evt off b).hiLatch = d.hiLatch := by unfold Dev.evt; dsimp only; split <;> [rfl; (split <;> simp)]
@[simp] theorem Dev.evt_rdata (off : Nat) (b : Word) : (d.evt off b).rdata = d.rdata := by unfold Dev.evt; dsimp only; split <;> [rfl; (split <;> simp)]
@[simp] theorem Dev.evt_tim (off : Nat) (b : Word) : (d.evt off b).tim = d.tim := by unfold Dev.evt; dsimp only; split <;> [rfl; (split <;> simp)]
@[simp] theorem Dev.evt_slices (off : Nat) (b : Word) : (d.evt off b).slices = d.slices := by unfold Dev.evt; dsimp only; split <;> [rfl; (split <;> simp)]
@[simp] theorem Dev.evt_jnl (off : Nat) (b : Word) : (d.evt off b).jnl = d.jnl := by unfold Dev.evt; dsimp only; split <;> [rfl; (split <;> simp)]
@[simp] theorem Dev.evt_ddt (off : Nat) (b : Word) : (d.evt off b).ddt = d.ddt := by unfold Dev.evt; dsimp only; split <;> [rfl; (split <;> simp)]
@[simp] theorem Dev.evt_dsp (off : Nat) (b : Word) : (d.evt off b).dsp = d.dsp := by unfold Dev.evt; dsimp only; split <;> [rfl; (split <;> simp)]
@[simp] theorem Dev.evt_lan (off : Nat) (b : Word) : (d.evt off b).lan = d.lan := by unfold Dev.evt; dsimp only; split <;> [rfl; (split <;> simp)]
@[simp] theorem Dev.evt_pke (off : Nat) (b : Word) : (d.evt off b).pke = d.pke := by unfold Dev.evt; dsimp only; split <;> [rfl; (split <;> simp)]
@[simp] theorem Dev.evt_key (off : Nat) (b : Word) : (d.evt off b).key = d.key := by unfold Dev.evt; dsimp only; split <;> [rfl; (split <;> simp)]
@[simp] theorem Dev.evt_rng (off : Nat) (b : Word) : (d.evt off b).rng = d.rng := by unfold Dev.evt; dsimp only; split <;> [rfl; (split <;> simp)]
@[simp] theorem Dev.evt_fab (off : Nat) (b : Word) : (d.evt off b).fab = d.fab := by unfold Dev.evt; dsimp only; split <;> [rfl; (split <;> simp)]
@[simp] theorem Dev.evt_cus (off : Nat) (b : Word) : (d.evt off b).cus = d.cus := by unfold Dev.evt; dsimp only; split <;> [rfl; (split <;> simp)]
@[simp] theorem Dev.evt_tmp (off : Nat) (b : Word) : (d.evt off b).tmp = d.tmp := by unfold Dev.evt; dsimp only; split <;> [rfl; (split <;> simp)]
@[simp] theorem Dev.evt_evl (off : Nat) (b : Word) : (d.evt off b).evl = d.evl := by unfold Dev.evt; dsimp only; split <;> [rfl; (split <;> simp)]
@[simp] theorem Dev.evt_erc (off : Nat) (b : Word) : (d.evt off b).erc = d.erc := by unfold Dev.evt; dsimp only; split <;> [rfl; (split <;> simp)]
@[simp] theorem Dev.evt_lcs (off : Nat) (b : Word) : (d.evt off b).lcs = d.lcs := by unfold Dev.evt; dsimp only; split <;> [rfl; (split <;> simp)]
@[simp] theorem Dev.evt_acc (off : Nat) (b : Word) : (d.evt off b).acc = d.acc := by unfold Dev.evt; dsimp only; split <;> [rfl; (split <;> simp)]
@[simp] theorem Dev.evt_mem (off : Nat) (b : Word) : (d.evt off b).mem = d.mem := by unfold Dev.evt; dsimp only; split <;> [rfl; (split <;> simp)]
@[simp] theorem Dev.evt_pwr (off : Nat) (b : Word) : (d.evt off b).pwr = d.pwr := by unfold Dev.evt; dsimp only; split <;> [rfl; (split <;> simp)]
@[simp] theorem Dev.evt_cfg (off : Nat) (b : Word) : (d.evt off b).cfg = d.cfg := by unfold Dev.evt; dsimp only; split <;> [rfl; (split <;> simp)]
@[simp] theorem Dev.evtBit_hiLatch (off i : Nat) : (d.evtBit off i).hiLatch = d.hiLatch := by simp [Dev.evtBit]
@[simp] theorem Dev.evtBit_rdata (off i : Nat) : (d.evtBit off i).rdata = d.rdata := by simp [Dev.evtBit]
@[simp] theorem Dev.evtBit_tim (off i : Nat) : (d.evtBit off i).tim = d.tim := by simp [Dev.evtBit]
@[simp] theorem Dev.evtBit_slices (off i : Nat) : (d.evtBit off i).slices = d.slices := by simp [Dev.evtBit]
@[simp] theorem Dev.evtBit_jnl (off i : Nat) : (d.evtBit off i).jnl = d.jnl := by simp [Dev.evtBit]
@[simp] theorem Dev.evtBit_ddt (off i : Nat) : (d.evtBit off i).ddt = d.ddt := by simp [Dev.evtBit]
@[simp] theorem Dev.evtBit_dsp (off i : Nat) : (d.evtBit off i).dsp = d.dsp := by simp [Dev.evtBit]
@[simp] theorem Dev.evtBit_lan (off i : Nat) : (d.evtBit off i).lan = d.lan := by simp [Dev.evtBit]
@[simp] theorem Dev.evtBit_pke (off i : Nat) : (d.evtBit off i).pke = d.pke := by simp [Dev.evtBit]
@[simp] theorem Dev.evtBit_key (off i : Nat) : (d.evtBit off i).key = d.key := by simp [Dev.evtBit]
@[simp] theorem Dev.evtBit_rng (off i : Nat) : (d.evtBit off i).rng = d.rng := by simp [Dev.evtBit]
@[simp] theorem Dev.evtBit_fab (off i : Nat) : (d.evtBit off i).fab = d.fab := by simp [Dev.evtBit]
@[simp] theorem Dev.evtBit_cus (off i : Nat) : (d.evtBit off i).cus = d.cus := by simp [Dev.evtBit]
@[simp] theorem Dev.evtBit_tmp (off i : Nat) : (d.evtBit off i).tmp = d.tmp := by simp [Dev.evtBit]
@[simp] theorem Dev.evtBit_evl (off i : Nat) : (d.evtBit off i).evl = d.evl := by simp [Dev.evtBit]
@[simp] theorem Dev.evtBit_erc (off i : Nat) : (d.evtBit off i).erc = d.erc := by simp [Dev.evtBit]
@[simp] theorem Dev.evtBit_lcs (off i : Nat) : (d.evtBit off i).lcs = d.lcs := by simp [Dev.evtBit]
@[simp] theorem Dev.evtBit_acc (off i : Nat) : (d.evtBit off i).acc = d.acc := by simp [Dev.evtBit]
@[simp] theorem Dev.evtBit_mem (off i : Nat) : (d.evtBit off i).mem = d.mem := by simp [Dev.evtBit]
@[simp] theorem Dev.evtBit_pwr (off i : Nat) : (d.evtBit off i).pwr = d.pwr := by simp [Dev.evtBit]
@[simp] theorem Dev.evtBit_cfg (off i : Nat) : (d.evtBit off i).cfg = d.cfg := by simp [Dev.evtBit]
@[simp] theorem Dev.evidenceAt_hiLatch (st : DWord) (r : Bool) (t : Nat) (p : Bytes) : (d.evidenceAt st r t p).hiLatch = d.hiLatch := by unfold Dev.evidenceAt; split <;> simp
@[simp] theorem Dev.evidenceAt_rdata (st : DWord) (r : Bool) (t : Nat) (p : Bytes) : (d.evidenceAt st r t p).rdata = d.rdata := by unfold Dev.evidenceAt; split <;> simp
@[simp] theorem Dev.evidenceAt_tim (st : DWord) (r : Bool) (t : Nat) (p : Bytes) : (d.evidenceAt st r t p).tim = d.tim := by unfold Dev.evidenceAt; split <;> simp
@[simp] theorem Dev.evidenceAt_slices (st : DWord) (r : Bool) (t : Nat) (p : Bytes) : (d.evidenceAt st r t p).slices = d.slices := by unfold Dev.evidenceAt; split <;> simp
@[simp] theorem Dev.evidenceAt_jnl (st : DWord) (r : Bool) (t : Nat) (p : Bytes) : (d.evidenceAt st r t p).jnl = d.jnl := by unfold Dev.evidenceAt; split <;> simp
@[simp] theorem Dev.evidenceAt_ddt (st : DWord) (r : Bool) (t : Nat) (p : Bytes) : (d.evidenceAt st r t p).ddt = d.ddt := by unfold Dev.evidenceAt; split <;> simp
@[simp] theorem Dev.evidenceAt_dsp (st : DWord) (r : Bool) (t : Nat) (p : Bytes) : (d.evidenceAt st r t p).dsp = d.dsp := by unfold Dev.evidenceAt; split <;> simp
@[simp] theorem Dev.evidenceAt_lan (st : DWord) (r : Bool) (t : Nat) (p : Bytes) : (d.evidenceAt st r t p).lan = d.lan := by unfold Dev.evidenceAt; split <;> simp
@[simp] theorem Dev.evidenceAt_pke (st : DWord) (r : Bool) (t : Nat) (p : Bytes) : (d.evidenceAt st r t p).pke = d.pke := by unfold Dev.evidenceAt; split <;> simp
@[simp] theorem Dev.evidenceAt_key (st : DWord) (r : Bool) (t : Nat) (p : Bytes) : (d.evidenceAt st r t p).key = d.key := by unfold Dev.evidenceAt; split <;> simp
@[simp] theorem Dev.evidenceAt_rng (st : DWord) (r : Bool) (t : Nat) (p : Bytes) : (d.evidenceAt st r t p).rng = d.rng := by unfold Dev.evidenceAt; split <;> simp
@[simp] theorem Dev.evidenceAt_fab (st : DWord) (r : Bool) (t : Nat) (p : Bytes) : (d.evidenceAt st r t p).fab = d.fab := by unfold Dev.evidenceAt; split <;> simp
@[simp] theorem Dev.evidenceAt_cus (st : DWord) (r : Bool) (t : Nat) (p : Bytes) : (d.evidenceAt st r t p).cus = d.cus := by unfold Dev.evidenceAt; split <;> simp
@[simp] theorem Dev.evidenceAt_tmp (st : DWord) (r : Bool) (t : Nat) (p : Bytes) : (d.evidenceAt st r t p).tmp = d.tmp := by unfold Dev.evidenceAt; split <;> simp
@[simp] theorem Dev.evidenceAt_erc (st : DWord) (r : Bool) (t : Nat) (p : Bytes) : (d.evidenceAt st r t p).erc = d.erc := by unfold Dev.evidenceAt; split <;> simp
@[simp] theorem Dev.evidenceAt_lcs (st : DWord) (r : Bool) (t : Nat) (p : Bytes) : (d.evidenceAt st r t p).lcs = d.lcs := by unfold Dev.evidenceAt; split <;> simp
@[simp] theorem Dev.evidenceAt_acc (st : DWord) (r : Bool) (t : Nat) (p : Bytes) : (d.evidenceAt st r t p).acc = d.acc := by unfold Dev.evidenceAt; split <;> simp
@[simp] theorem Dev.evidenceAt_mem (st : DWord) (r : Bool) (t : Nat) (p : Bytes) : (d.evidenceAt st r t p).mem = d.mem := by unfold Dev.evidenceAt; split <;> simp
@[simp] theorem Dev.evidenceAt_pwr (st : DWord) (r : Bool) (t : Nat) (p : Bytes) : (d.evidenceAt st r t p).pwr = d.pwr := by unfold Dev.evidenceAt; split <;> simp
@[simp] theorem Dev.evidenceAt_cfg (st : DWord) (r : Bool) (t : Nat) (p : Bytes) : (d.evidenceAt st r t p).cfg = d.cfg := by unfold Dev.evidenceAt; split <;> simp
@[simp] theorem Dev.evidence_hiLatch (c : Ctx) (t : Nat) (p : Bytes) : (d.evidence c t p).hiLatch = d.hiLatch := by simp [Dev.evidence]
@[simp] theorem Dev.evidence_rdata (c : Ctx) (t : Nat) (p : Bytes) : (d.evidence c t p).rdata = d.rdata := by simp [Dev.evidence]
@[simp] theorem Dev.evidence_tim (c : Ctx) (t : Nat) (p : Bytes) : (d.evidence c t p).tim = d.tim := by simp [Dev.evidence]
@[simp] theorem Dev.evidence_slices (c : Ctx) (t : Nat) (p : Bytes) : (d.evidence c t p).slices = d.slices := by simp [Dev.evidence]
@[simp] theorem Dev.evidence_jnl (c : Ctx) (t : Nat) (p : Bytes) : (d.evidence c t p).jnl = d.jnl := by simp [Dev.evidence]
@[simp] theorem Dev.evidence_ddt (c : Ctx) (t : Nat) (p : Bytes) : (d.evidence c t p).ddt = d.ddt := by simp [Dev.evidence]
@[simp] theorem Dev.evidence_dsp (c : Ctx) (t : Nat) (p : Bytes) : (d.evidence c t p).dsp = d.dsp := by simp [Dev.evidence]
@[simp] theorem Dev.evidence_lan (c : Ctx) (t : Nat) (p : Bytes) : (d.evidence c t p).lan = d.lan := by simp [Dev.evidence]
@[simp] theorem Dev.evidence_pke (c : Ctx) (t : Nat) (p : Bytes) : (d.evidence c t p).pke = d.pke := by simp [Dev.evidence]
@[simp] theorem Dev.evidence_key (c : Ctx) (t : Nat) (p : Bytes) : (d.evidence c t p).key = d.key := by simp [Dev.evidence]
@[simp] theorem Dev.evidence_rng (c : Ctx) (t : Nat) (p : Bytes) : (d.evidence c t p).rng = d.rng := by simp [Dev.evidence]
@[simp] theorem Dev.evidence_fab (c : Ctx) (t : Nat) (p : Bytes) : (d.evidence c t p).fab = d.fab := by simp [Dev.evidence]
@[simp] theorem Dev.evidence_cus (c : Ctx) (t : Nat) (p : Bytes) : (d.evidence c t p).cus = d.cus := by simp [Dev.evidence]
@[simp] theorem Dev.evidence_tmp (c : Ctx) (t : Nat) (p : Bytes) : (d.evidence c t p).tmp = d.tmp := by simp [Dev.evidence]
@[simp] theorem Dev.evidence_erc (c : Ctx) (t : Nat) (p : Bytes) : (d.evidence c t p).erc = d.erc := by simp [Dev.evidence]
@[simp] theorem Dev.evidence_lcs (c : Ctx) (t : Nat) (p : Bytes) : (d.evidence c t p).lcs = d.lcs := by simp [Dev.evidence]
@[simp] theorem Dev.evidence_acc (c : Ctx) (t : Nat) (p : Bytes) : (d.evidence c t p).acc = d.acc := by simp [Dev.evidence]
@[simp] theorem Dev.evidence_mem (c : Ctx) (t : Nat) (p : Bytes) : (d.evidence c t p).mem = d.mem := by simp [Dev.evidence]
@[simp] theorem Dev.evidence_pwr (c : Ctx) (t : Nat) (p : Bytes) : (d.evidence c t p).pwr = d.pwr := by simp [Dev.evidence]
@[simp] theorem Dev.evidence_cfg (c : Ctx) (t : Nat) (p : Bytes) : (d.evidence c t p).cfg = d.cfg := by simp [Dev.evidence]
@[simp] theorem Dev.record_hiLatch (c : Ctx) (t : Nat) (p : Bytes) : (d.record c t p).hiLatch = d.hiLatch := by simp only [Dev.record]; (repeat' split) <;> simp
@[simp] theorem Dev.record_rdata (c : Ctx) (t : Nat) (p : Bytes) : (d.record c t p).rdata = d.rdata := by simp only [Dev.record]; (repeat' split) <;> simp
@[simp] theorem Dev.record_tim (c : Ctx) (t : Nat) (p : Bytes) : (d.record c t p).tim = d.tim := by simp only [Dev.record]; (repeat' split) <;> simp
@[simp] theorem Dev.record_slices (c : Ctx) (t : Nat) (p : Bytes) : (d.record c t p).slices = d.slices := by simp only [Dev.record]; (repeat' split) <;> simp
@[simp] theorem Dev.record_jnl (c : Ctx) (t : Nat) (p : Bytes) : (d.record c t p).jnl = d.jnl := by simp only [Dev.record]; (repeat' split) <;> simp
@[simp] theorem Dev.record_ddt (c : Ctx) (t : Nat) (p : Bytes) : (d.record c t p).ddt = d.ddt := by simp only [Dev.record]; (repeat' split) <;> simp
@[simp] theorem Dev.record_dsp (c : Ctx) (t : Nat) (p : Bytes) : (d.record c t p).dsp = d.dsp := by simp only [Dev.record]; (repeat' split) <;> simp
@[simp] theorem Dev.record_lan (c : Ctx) (t : Nat) (p : Bytes) : (d.record c t p).lan = d.lan := by simp only [Dev.record]; (repeat' split) <;> simp
@[simp] theorem Dev.record_pke (c : Ctx) (t : Nat) (p : Bytes) : (d.record c t p).pke = d.pke := by simp only [Dev.record]; (repeat' split) <;> simp
@[simp] theorem Dev.record_key (c : Ctx) (t : Nat) (p : Bytes) : (d.record c t p).key = d.key := by simp only [Dev.record]; (repeat' split) <;> simp
@[simp] theorem Dev.record_rng (c : Ctx) (t : Nat) (p : Bytes) : (d.record c t p).rng = d.rng := by simp only [Dev.record]; (repeat' split) <;> simp
@[simp] theorem Dev.record_fab (c : Ctx) (t : Nat) (p : Bytes) : (d.record c t p).fab = d.fab := by simp only [Dev.record]; (repeat' split) <;> simp
@[simp] theorem Dev.record_cus (c : Ctx) (t : Nat) (p : Bytes) : (d.record c t p).cus = d.cus := by simp only [Dev.record]; (repeat' split) <;> simp
@[simp] theorem Dev.record_tmp (c : Ctx) (t : Nat) (p : Bytes) : (d.record c t p).tmp = d.tmp := by simp only [Dev.record]; (repeat' split) <;> simp
@[simp] theorem Dev.record_evl (c : Ctx) (t : Nat) (p : Bytes) : (d.record c t p).evl = d.evl := by simp only [Dev.record]; (repeat' split) <;> simp
@[simp] theorem Dev.record_lcs (c : Ctx) (t : Nat) (p : Bytes) : (d.record c t p).lcs = d.lcs := by simp only [Dev.record]; (repeat' split) <;> simp
@[simp] theorem Dev.record_acc (c : Ctx) (t : Nat) (p : Bytes) : (d.record c t p).acc = d.acc := by simp only [Dev.record]; (repeat' split) <;> simp
@[simp] theorem Dev.record_mem (c : Ctx) (t : Nat) (p : Bytes) : (d.record c t p).mem = d.mem := by simp only [Dev.record]; (repeat' split) <;> simp
@[simp] theorem Dev.record_pwr (c : Ctx) (t : Nat) (p : Bytes) : (d.record c t p).pwr = d.pwr := by simp only [Dev.record]; (repeat' split) <;> simp
@[simp] theorem Dev.record_cfg (c : Ctx) (t : Nat) (p : Bytes) : (d.record c t p).cfg = d.cfg := by simp only [Dev.record]; (repeat' split) <;> simp
@[simp] theorem Dev.violation_hiLatch (c : Ctx) (k m r e a : Nat) : (d.violation c k m r e a).hiLatch = d.hiLatch := by simp only [Dev.violation]; split <;> simp
@[simp] theorem Dev.violation_rdata (c : Ctx) (k m r e a : Nat) : (d.violation c k m r e a).rdata = d.rdata := by simp only [Dev.violation]; split <;> simp
@[simp] theorem Dev.violation_tim (c : Ctx) (k m r e a : Nat) : (d.violation c k m r e a).tim = d.tim := by simp only [Dev.violation]; split <;> simp
@[simp] theorem Dev.violation_slices (c : Ctx) (k m r e a : Nat) : (d.violation c k m r e a).slices = d.slices := by simp only [Dev.violation]; split <;> simp
@[simp] theorem Dev.violation_jnl (c : Ctx) (k m r e a : Nat) : (d.violation c k m r e a).jnl = d.jnl := by simp only [Dev.violation]; split <;> simp
@[simp] theorem Dev.violation_ddt (c : Ctx) (k m r e a : Nat) : (d.violation c k m r e a).ddt = d.ddt := by simp only [Dev.violation]; split <;> simp
@[simp] theorem Dev.violation_dsp (c : Ctx) (k m r e a : Nat) : (d.violation c k m r e a).dsp = d.dsp := by simp only [Dev.violation]; split <;> simp
@[simp] theorem Dev.violation_lan (c : Ctx) (k m r e a : Nat) : (d.violation c k m r e a).lan = d.lan := by simp only [Dev.violation]; split <;> simp
@[simp] theorem Dev.violation_pke (c : Ctx) (k m r e a : Nat) : (d.violation c k m r e a).pke = d.pke := by simp only [Dev.violation]; split <;> simp
@[simp] theorem Dev.violation_key (c : Ctx) (k m r e a : Nat) : (d.violation c k m r e a).key = d.key := by simp only [Dev.violation]; split <;> simp
@[simp] theorem Dev.violation_rng (c : Ctx) (k m r e a : Nat) : (d.violation c k m r e a).rng = d.rng := by simp only [Dev.violation]; split <;> simp
@[simp] theorem Dev.violation_fab (c : Ctx) (k m r e a : Nat) : (d.violation c k m r e a).fab = d.fab := by simp only [Dev.violation]; split <;> simp
@[simp] theorem Dev.violation_cus (c : Ctx) (k m r e a : Nat) : (d.violation c k m r e a).cus = d.cus := by simp only [Dev.violation]; split <;> simp
@[simp] theorem Dev.violation_tmp (c : Ctx) (k m r e a : Nat) : (d.violation c k m r e a).tmp = d.tmp := by simp only [Dev.violation]; split <;> simp
@[simp] theorem Dev.violation_evl (c : Ctx) (k m r e a : Nat) : (d.violation c k m r e a).evl = d.evl := by simp only [Dev.violation]; split <;> simp
@[simp] theorem Dev.violation_lcs (c : Ctx) (k m r e a : Nat) : (d.violation c k m r e a).lcs = d.lcs := by simp only [Dev.violation]; split <;> simp
@[simp] theorem Dev.violation_mem (c : Ctx) (k m r e a : Nat) : (d.violation c k m r e a).mem = d.mem := by simp only [Dev.violation]; split <;> simp
@[simp] theorem Dev.violation_pwr (c : Ctx) (k m r e a : Nat) : (d.violation c k m r e a).pwr = d.pwr := by simp only [Dev.violation]; split <;> simp
@[simp] theorem Dev.violation_cfg (c : Ctx) (k m r e a : Nat) : (d.violation c k m r e a).cfg = d.cfg := by simp only [Dev.violation]; split <;> simp
@[simp] theorem Dev.ruleViolation_hiLatch (c : Ctx) (off : Nat) : (d.ruleViolation c off).hiLatch = d.hiLatch := by simp [Dev.ruleViolation]
@[simp] theorem Dev.ruleViolation_rdata (c : Ctx) (off : Nat) : (d.ruleViolation c off).rdata = d.rdata := by simp [Dev.ruleViolation]
@[simp] theorem Dev.ruleViolation_tim (c : Ctx) (off : Nat) : (d.ruleViolation c off).tim = d.tim := by simp [Dev.ruleViolation]
@[simp] theorem Dev.ruleViolation_slices (c : Ctx) (off : Nat) : (d.ruleViolation c off).slices = d.slices := by simp [Dev.ruleViolation]
@[simp] theorem Dev.ruleViolation_jnl (c : Ctx) (off : Nat) : (d.ruleViolation c off).jnl = d.jnl := by simp [Dev.ruleViolation]
@[simp] theorem Dev.ruleViolation_ddt (c : Ctx) (off : Nat) : (d.ruleViolation c off).ddt = d.ddt := by simp [Dev.ruleViolation]
@[simp] theorem Dev.ruleViolation_dsp (c : Ctx) (off : Nat) : (d.ruleViolation c off).dsp = d.dsp := by simp [Dev.ruleViolation]
@[simp] theorem Dev.ruleViolation_lan (c : Ctx) (off : Nat) : (d.ruleViolation c off).lan = d.lan := by simp [Dev.ruleViolation]
@[simp] theorem Dev.ruleViolation_pke (c : Ctx) (off : Nat) : (d.ruleViolation c off).pke = d.pke := by simp [Dev.ruleViolation]
@[simp] theorem Dev.ruleViolation_key (c : Ctx) (off : Nat) : (d.ruleViolation c off).key = d.key := by simp [Dev.ruleViolation]
@[simp] theorem Dev.ruleViolation_rng (c : Ctx) (off : Nat) : (d.ruleViolation c off).rng = d.rng := by simp [Dev.ruleViolation]
@[simp] theorem Dev.ruleViolation_fab (c : Ctx) (off : Nat) : (d.ruleViolation c off).fab = d.fab := by simp [Dev.ruleViolation]
@[simp] theorem Dev.ruleViolation_cus (c : Ctx) (off : Nat) : (d.ruleViolation c off).cus = d.cus := by simp [Dev.ruleViolation]
@[simp] theorem Dev.ruleViolation_tmp (c : Ctx) (off : Nat) : (d.ruleViolation c off).tmp = d.tmp := by simp [Dev.ruleViolation]
@[simp] theorem Dev.ruleViolation_evl (c : Ctx) (off : Nat) : (d.ruleViolation c off).evl = d.evl := by simp [Dev.ruleViolation]
@[simp] theorem Dev.ruleViolation_lcs (c : Ctx) (off : Nat) : (d.ruleViolation c off).lcs = d.lcs := by simp [Dev.ruleViolation]
@[simp] theorem Dev.ruleViolation_mem (c : Ctx) (off : Nat) : (d.ruleViolation c off).mem = d.mem := by simp [Dev.ruleViolation]
@[simp] theorem Dev.ruleViolation_pwr (c : Ctx) (off : Nat) : (d.ruleViolation c off).pwr = d.pwr := by simp [Dev.ruleViolation]
@[simp] theorem Dev.ruleViolation_cfg (c : Ctx) (off : Nat) : (d.ruleViolation c off).cfg = d.cfg := by simp [Dev.ruleViolation]
@[simp] theorem Dev.dueReseed_regs (c : Ctx) (n : Nat) : (d.dueReseed c n).regs = d.regs := by simp only [Dev.dueReseed]; split <;> [(split <;> rfl); rfl]
@[simp] theorem Dev.dueReseed_hiLatch (c : Ctx) (n : Nat) : (d.dueReseed c n).hiLatch = d.hiLatch := by simp only [Dev.dueReseed]; split <;> [(split <;> rfl); rfl]
@[simp] theorem Dev.dueReseed_rdata (c : Ctx) (n : Nat) : (d.dueReseed c n).rdata = d.rdata := by simp only [Dev.dueReseed]; split <;> [(split <;> rfl); rfl]
@[simp] theorem Dev.dueReseed_tx (c : Ctx) (n : Nat) : (d.dueReseed c n).tx = d.tx := by simp only [Dev.dueReseed]; split <;> [(split <;> rfl); rfl]
@[simp] theorem Dev.dueReseed_tim (c : Ctx) (n : Nat) : (d.dueReseed c n).tim = d.tim := by simp only [Dev.dueReseed]; split <;> [(split <;> rfl); rfl]
@[simp] theorem Dev.dueReseed_hif (c : Ctx) (n : Nat) : (d.dueReseed c n).hif = d.hif := by simp only [Dev.dueReseed]; split <;> [(split <;> rfl); rfl]
@[simp] theorem Dev.dueReseed_slices (c : Ctx) (n : Nat) : (d.dueReseed c n).slices = d.slices := by simp only [Dev.dueReseed]; split <;> [(split <;> rfl); rfl]
@[simp] theorem Dev.dueReseed_jnl (c : Ctx) (n : Nat) : (d.dueReseed c n).jnl = d.jnl := by simp only [Dev.dueReseed]; split <;> [(split <;> rfl); rfl]
@[simp] theorem Dev.dueReseed_ddt (c : Ctx) (n : Nat) : (d.dueReseed c n).ddt = d.ddt := by simp only [Dev.dueReseed]; split <;> [(split <;> rfl); rfl]
@[simp] theorem Dev.dueReseed_dsp (c : Ctx) (n : Nat) : (d.dueReseed c n).dsp = d.dsp := by simp only [Dev.dueReseed]; split <;> [(split <;> rfl); rfl]
@[simp] theorem Dev.dueReseed_lan (c : Ctx) (n : Nat) : (d.dueReseed c n).lan = d.lan := by simp only [Dev.dueReseed]; split <;> [(split <;> rfl); rfl]
@[simp] theorem Dev.dueReseed_pke (c : Ctx) (n : Nat) : (d.dueReseed c n).pke = d.pke := by simp only [Dev.dueReseed]; split <;> [(split <;> rfl); rfl]
@[simp] theorem Dev.dueReseed_key (c : Ctx) (n : Nat) : (d.dueReseed c n).key = d.key := by simp only [Dev.dueReseed]; split <;> [(split <;> rfl); rfl]
@[simp] theorem Dev.dueReseed_fab (c : Ctx) (n : Nat) : (d.dueReseed c n).fab = d.fab := by simp only [Dev.dueReseed]; split <;> [(split <;> rfl); rfl]
@[simp] theorem Dev.dueReseed_cus (c : Ctx) (n : Nat) : (d.dueReseed c n).cus = d.cus := by simp only [Dev.dueReseed]; split <;> [(split <;> rfl); rfl]
@[simp] theorem Dev.dueReseed_tmp (c : Ctx) (n : Nat) : (d.dueReseed c n).tmp = d.tmp := by simp only [Dev.dueReseed]; split <;> [(split <;> rfl); rfl]
@[simp] theorem Dev.dueReseed_evl (c : Ctx) (n : Nat) : (d.dueReseed c n).evl = d.evl := by simp only [Dev.dueReseed]; split <;> [(split <;> rfl); rfl]
@[simp] theorem Dev.dueReseed_erc (c : Ctx) (n : Nat) : (d.dueReseed c n).erc = d.erc := by simp only [Dev.dueReseed]; split <;> [(split <;> rfl); rfl]
@[simp] theorem Dev.dueReseed_lcs (c : Ctx) (n : Nat) : (d.dueReseed c n).lcs = d.lcs := by simp only [Dev.dueReseed]; split <;> [(split <;> rfl); rfl]
@[simp] theorem Dev.dueReseed_acc (c : Ctx) (n : Nat) : (d.dueReseed c n).acc = d.acc := by simp only [Dev.dueReseed]; split <;> [(split <;> rfl); rfl]
@[simp] theorem Dev.dueReseed_mem (c : Ctx) (n : Nat) : (d.dueReseed c n).mem = d.mem := by simp only [Dev.dueReseed]; split <;> [(split <;> rfl); rfl]
@[simp] theorem Dev.dueReseed_pwr (c : Ctx) (n : Nat) : (d.dueReseed c n).pwr = d.pwr := by simp only [Dev.dueReseed]; split <;> [(split <;> rfl); rfl]
@[simp] theorem Dev.dueReseed_cfg (c : Ctx) (n : Nat) : (d.dueReseed c n).cfg = d.cfg := by simp only [Dev.dueReseed]; split <;> [(split <;> rfl); rfl]
@[simp] theorem Dev.dueReseed_reg (c : Ctx) (n : Nat) (o : Nat) : (d.dueReseed c n).reg o = d.reg o := by simp [Dev.reg]
@[simp] theorem Dev.fwAdvance_regs (c : Ctx) : (d.fwAdvance c).regs = d.regs := by simp [Dev.fwAdvance]
@[simp] theorem Dev.fwAdvance_hiLatch (c : Ctx) : (d.fwAdvance c).hiLatch = d.hiLatch := by simp [Dev.fwAdvance]
@[simp] theorem Dev.fwAdvance_rdata (c : Ctx) : (d.fwAdvance c).rdata = d.rdata := by simp [Dev.fwAdvance]
@[simp] theorem Dev.fwAdvance_tx (c : Ctx) : (d.fwAdvance c).tx = d.tx := by simp [Dev.fwAdvance]
@[simp] theorem Dev.fwAdvance_tim (c : Ctx) : (d.fwAdvance c).tim = d.tim := by simp [Dev.fwAdvance]
@[simp] theorem Dev.fwAdvance_hif (c : Ctx) : (d.fwAdvance c).hif = d.hif := by simp [Dev.fwAdvance]
@[simp] theorem Dev.fwAdvance_slices (c : Ctx) : (d.fwAdvance c).slices = d.slices := by simp [Dev.fwAdvance]
@[simp] theorem Dev.fwAdvance_jnl (c : Ctx) : (d.fwAdvance c).jnl = d.jnl := by simp [Dev.fwAdvance]
@[simp] theorem Dev.fwAdvance_ddt (c : Ctx) : (d.fwAdvance c).ddt = d.ddt := by simp [Dev.fwAdvance]
@[simp] theorem Dev.fwAdvance_lan (c : Ctx) : (d.fwAdvance c).lan = d.lan := by simp [Dev.fwAdvance]
@[simp] theorem Dev.fwAdvance_pke (c : Ctx) : (d.fwAdvance c).pke = d.pke := by simp [Dev.fwAdvance]
@[simp] theorem Dev.fwAdvance_key (c : Ctx) : (d.fwAdvance c).key = d.key := by simp [Dev.fwAdvance]
@[simp] theorem Dev.fwAdvance_rng (c : Ctx) : (d.fwAdvance c).rng = d.rng := by simp [Dev.fwAdvance]
@[simp] theorem Dev.fwAdvance_fab (c : Ctx) : (d.fwAdvance c).fab = d.fab := by simp [Dev.fwAdvance]
@[simp] theorem Dev.fwAdvance_cus (c : Ctx) : (d.fwAdvance c).cus = d.cus := by simp [Dev.fwAdvance]
@[simp] theorem Dev.fwAdvance_tmp (c : Ctx) : (d.fwAdvance c).tmp = d.tmp := by simp [Dev.fwAdvance]
@[simp] theorem Dev.fwAdvance_evl (c : Ctx) : (d.fwAdvance c).evl = d.evl := by simp [Dev.fwAdvance]
@[simp] theorem Dev.fwAdvance_erc (c : Ctx) : (d.fwAdvance c).erc = d.erc := by simp [Dev.fwAdvance]
@[simp] theorem Dev.fwAdvance_lcs (c : Ctx) : (d.fwAdvance c).lcs = d.lcs := by simp [Dev.fwAdvance]
@[simp] theorem Dev.fwAdvance_acc (c : Ctx) : (d.fwAdvance c).acc = d.acc := by simp [Dev.fwAdvance]
@[simp] theorem Dev.fwAdvance_mem (c : Ctx) : (d.fwAdvance c).mem = d.mem := by simp [Dev.fwAdvance]
@[simp] theorem Dev.fwAdvance_pwr (c : Ctx) : (d.fwAdvance c).pwr = d.pwr := by simp [Dev.fwAdvance]
@[simp] theorem Dev.fwAdvance_cfg (c : Ctx) : (d.fwAdvance c).cfg = d.cfg := by simp [Dev.fwAdvance]
@[simp] theorem Dev.fwAdvance_reg (c : Ctx) (o : Nat) : (d.fwAdvance c).reg o = d.reg o := by simp [Dev.reg]
@[simp] theorem Dev.fwReady_regs (c : Ctx) (k : Nat) : (d.fwReady c k).regs = d.regs := by simp only [Dev.fwReady]; split <;> simp
@[simp] theorem Dev.fwReady_hiLatch (c : Ctx) (k : Nat) : (d.fwReady c k).hiLatch = d.hiLatch := by simp only [Dev.fwReady]; split <;> simp
@[simp] theorem Dev.fwReady_rdata (c : Ctx) (k : Nat) : (d.fwReady c k).rdata = d.rdata := by simp only [Dev.fwReady]; split <;> simp
@[simp] theorem Dev.fwReady_tx (c : Ctx) (k : Nat) : (d.fwReady c k).tx = d.tx := by simp only [Dev.fwReady]; split <;> simp
@[simp] theorem Dev.fwReady_tim (c : Ctx) (k : Nat) : (d.fwReady c k).tim = d.tim := by simp only [Dev.fwReady]; split <;> simp
@[simp] theorem Dev.fwReady_hif (c : Ctx) (k : Nat) : (d.fwReady c k).hif = d.hif := by simp only [Dev.fwReady]; split <;> simp
@[simp] theorem Dev.fwReady_slices (c : Ctx) (k : Nat) : (d.fwReady c k).slices = d.slices := by simp only [Dev.fwReady]; split <;> simp
@[simp] theorem Dev.fwReady_jnl (c : Ctx) (k : Nat) : (d.fwReady c k).jnl = d.jnl := by simp only [Dev.fwReady]; split <;> simp
@[simp] theorem Dev.fwReady_ddt (c : Ctx) (k : Nat) : (d.fwReady c k).ddt = d.ddt := by simp only [Dev.fwReady]; split <;> simp
@[simp] theorem Dev.fwReady_lan (c : Ctx) (k : Nat) : (d.fwReady c k).lan = d.lan := by simp only [Dev.fwReady]; split <;> simp
@[simp] theorem Dev.fwReady_pke (c : Ctx) (k : Nat) : (d.fwReady c k).pke = d.pke := by simp only [Dev.fwReady]; split <;> simp
@[simp] theorem Dev.fwReady_key (c : Ctx) (k : Nat) : (d.fwReady c k).key = d.key := by simp only [Dev.fwReady]; split <;> simp
@[simp] theorem Dev.fwReady_rng (c : Ctx) (k : Nat) : (d.fwReady c k).rng = d.rng := by simp only [Dev.fwReady]; split <;> simp
@[simp] theorem Dev.fwReady_fab (c : Ctx) (k : Nat) : (d.fwReady c k).fab = d.fab := by simp only [Dev.fwReady]; split <;> simp
@[simp] theorem Dev.fwReady_cus (c : Ctx) (k : Nat) : (d.fwReady c k).cus = d.cus := by simp only [Dev.fwReady]; split <;> simp
@[simp] theorem Dev.fwReady_tmp (c : Ctx) (k : Nat) : (d.fwReady c k).tmp = d.tmp := by simp only [Dev.fwReady]; split <;> simp
@[simp] theorem Dev.fwReady_evl (c : Ctx) (k : Nat) : (d.fwReady c k).evl = d.evl := by simp only [Dev.fwReady]; split <;> simp
@[simp] theorem Dev.fwReady_erc (c : Ctx) (k : Nat) : (d.fwReady c k).erc = d.erc := by simp only [Dev.fwReady]; split <;> simp
@[simp] theorem Dev.fwReady_lcs (c : Ctx) (k : Nat) : (d.fwReady c k).lcs = d.lcs := by simp only [Dev.fwReady]; split <;> simp
@[simp] theorem Dev.fwReady_acc (c : Ctx) (k : Nat) : (d.fwReady c k).acc = d.acc := by simp only [Dev.fwReady]; split <;> simp
@[simp] theorem Dev.fwReady_mem (c : Ctx) (k : Nat) : (d.fwReady c k).mem = d.mem := by simp only [Dev.fwReady]; split <;> simp
@[simp] theorem Dev.fwReady_pwr (c : Ctx) (k : Nat) : (d.fwReady c k).pwr = d.pwr := by simp only [Dev.fwReady]; split <;> simp
@[simp] theorem Dev.fwReady_cfg (c : Ctx) (k : Nat) : (d.fwReady c k).cfg = d.cfg := by simp only [Dev.fwReady]; split <;> simp
@[simp] theorem Dev.fwReady_reg (c : Ctx) (k : Nat) (o : Nat) : (d.fwReady c k).reg o = d.reg o := by simp [Dev.reg]
@[simp] theorem Dev.request_2_hiLatch (c : Ctx) (n len : Nat) (x : Bytes) : ((d.request c n len x).2).hiLatch = d.hiLatch := by simp only [Dev.request]; split <;> simp
@[simp] theorem Dev.request_2_rdata (c : Ctx) (n len : Nat) (x : Bytes) : ((d.request c n len x).2).rdata = d.rdata := by simp only [Dev.request]; split <;> simp
@[simp] theorem Dev.request_2_tim (c : Ctx) (n len : Nat) (x : Bytes) : ((d.request c n len x).2).tim = d.tim := by simp only [Dev.request]; split <;> simp
@[simp] theorem Dev.request_2_slices (c : Ctx) (n len : Nat) (x : Bytes) : ((d.request c n len x).2).slices = d.slices := by simp only [Dev.request]; split <;> simp
@[simp] theorem Dev.request_2_jnl (c : Ctx) (n len : Nat) (x : Bytes) : ((d.request c n len x).2).jnl = d.jnl := by simp only [Dev.request]; split <;> simp
@[simp] theorem Dev.request_2_ddt (c : Ctx) (n len : Nat) (x : Bytes) : ((d.request c n len x).2).ddt = d.ddt := by simp only [Dev.request]; split <;> simp
@[simp] theorem Dev.request_2_dsp (c : Ctx) (n len : Nat) (x : Bytes) : ((d.request c n len x).2).dsp = d.dsp := by simp only [Dev.request]; split <;> simp
@[simp] theorem Dev.request_2_lan (c : Ctx) (n len : Nat) (x : Bytes) : ((d.request c n len x).2).lan = d.lan := by simp only [Dev.request]; split <;> simp
@[simp] theorem Dev.request_2_pke (c : Ctx) (n len : Nat) (x : Bytes) : ((d.request c n len x).2).pke = d.pke := by simp only [Dev.request]; split <;> simp
@[simp] theorem Dev.request_2_key (c : Ctx) (n len : Nat) (x : Bytes) : ((d.request c n len x).2).key = d.key := by simp only [Dev.request]; split <;> simp
@[simp] theorem Dev.request_2_fab (c : Ctx) (n len : Nat) (x : Bytes) : ((d.request c n len x).2).fab = d.fab := by simp only [Dev.request]; split <;> simp
@[simp] theorem Dev.request_2_cus (c : Ctx) (n len : Nat) (x : Bytes) : ((d.request c n len x).2).cus = d.cus := by simp only [Dev.request]; split <;> simp
@[simp] theorem Dev.request_2_tmp (c : Ctx) (n len : Nat) (x : Bytes) : ((d.request c n len x).2).tmp = d.tmp := by simp only [Dev.request]; split <;> simp
@[simp] theorem Dev.request_2_evl (c : Ctx) (n len : Nat) (x : Bytes) : ((d.request c n len x).2).evl = d.evl := by simp only [Dev.request]; split <;> simp
@[simp] theorem Dev.request_2_erc (c : Ctx) (n len : Nat) (x : Bytes) : ((d.request c n len x).2).erc = d.erc := by simp only [Dev.request]; split <;> simp
@[simp] theorem Dev.request_2_lcs (c : Ctx) (n len : Nat) (x : Bytes) : ((d.request c n len x).2).lcs = d.lcs := by simp only [Dev.request]; split <;> simp
@[simp] theorem Dev.request_2_acc (c : Ctx) (n len : Nat) (x : Bytes) : ((d.request c n len x).2).acc = d.acc := by simp only [Dev.request]; split <;> simp
@[simp] theorem Dev.request_2_mem (c : Ctx) (n len : Nat) (x : Bytes) : ((d.request c n len x).2).mem = d.mem := by simp only [Dev.request]; split <;> simp
@[simp] theorem Dev.request_2_pwr (c : Ctx) (n len : Nat) (x : Bytes) : ((d.request c n len x).2).pwr = d.pwr := by simp only [Dev.request]; split <;> simp
@[simp] theorem Dev.request_2_cfg (c : Ctx) (n len : Nat) (x : Bytes) : ((d.request c n len x).2).cfg = d.cfg := by simp only [Dev.request]; split <;> simp
@[simp] theorem Dev.useDrbg_hiLatch (c : Ctx) (n len : Nat) : (d.useDrbg c n len).hiLatch = d.hiLatch := by simp only [Dev.useDrbg, Dev.request]; split <;> simp
@[simp] theorem Dev.useDrbg_rdata (c : Ctx) (n len : Nat) : (d.useDrbg c n len).rdata = d.rdata := by simp only [Dev.useDrbg, Dev.request]; split <;> simp
@[simp] theorem Dev.useDrbg_tim (c : Ctx) (n len : Nat) : (d.useDrbg c n len).tim = d.tim := by simp only [Dev.useDrbg, Dev.request]; split <;> simp
@[simp] theorem Dev.useDrbg_slices (c : Ctx) (n len : Nat) : (d.useDrbg c n len).slices = d.slices := by simp only [Dev.useDrbg, Dev.request]; split <;> simp
@[simp] theorem Dev.useDrbg_jnl (c : Ctx) (n len : Nat) : (d.useDrbg c n len).jnl = d.jnl := by simp only [Dev.useDrbg, Dev.request]; split <;> simp
@[simp] theorem Dev.useDrbg_ddt (c : Ctx) (n len : Nat) : (d.useDrbg c n len).ddt = d.ddt := by simp only [Dev.useDrbg, Dev.request]; split <;> simp
@[simp] theorem Dev.useDrbg_dsp (c : Ctx) (n len : Nat) : (d.useDrbg c n len).dsp = d.dsp := by simp only [Dev.useDrbg, Dev.request]; split <;> simp
@[simp] theorem Dev.useDrbg_lan (c : Ctx) (n len : Nat) : (d.useDrbg c n len).lan = d.lan := by simp only [Dev.useDrbg, Dev.request]; split <;> simp
@[simp] theorem Dev.useDrbg_pke (c : Ctx) (n len : Nat) : (d.useDrbg c n len).pke = d.pke := by simp only [Dev.useDrbg, Dev.request]; split <;> simp
@[simp] theorem Dev.useDrbg_key (c : Ctx) (n len : Nat) : (d.useDrbg c n len).key = d.key := by simp only [Dev.useDrbg, Dev.request]; split <;> simp
@[simp] theorem Dev.useDrbg_fab (c : Ctx) (n len : Nat) : (d.useDrbg c n len).fab = d.fab := by simp only [Dev.useDrbg, Dev.request]; split <;> simp
@[simp] theorem Dev.useDrbg_cus (c : Ctx) (n len : Nat) : (d.useDrbg c n len).cus = d.cus := by simp only [Dev.useDrbg, Dev.request]; split <;> simp
@[simp] theorem Dev.useDrbg_tmp (c : Ctx) (n len : Nat) : (d.useDrbg c n len).tmp = d.tmp := by simp only [Dev.useDrbg, Dev.request]; split <;> simp
@[simp] theorem Dev.useDrbg_evl (c : Ctx) (n len : Nat) : (d.useDrbg c n len).evl = d.evl := by simp only [Dev.useDrbg, Dev.request]; split <;> simp
@[simp] theorem Dev.useDrbg_erc (c : Ctx) (n len : Nat) : (d.useDrbg c n len).erc = d.erc := by simp only [Dev.useDrbg, Dev.request]; split <;> simp
@[simp] theorem Dev.useDrbg_lcs (c : Ctx) (n len : Nat) : (d.useDrbg c n len).lcs = d.lcs := by simp only [Dev.useDrbg, Dev.request]; split <;> simp
@[simp] theorem Dev.useDrbg_acc (c : Ctx) (n len : Nat) : (d.useDrbg c n len).acc = d.acc := by simp only [Dev.useDrbg, Dev.request]; split <;> simp
@[simp] theorem Dev.useDrbg_mem (c : Ctx) (n len : Nat) : (d.useDrbg c n len).mem = d.mem := by simp only [Dev.useDrbg, Dev.request]; split <;> simp
@[simp] theorem Dev.useDrbg_pwr (c : Ctx) (n len : Nat) : (d.useDrbg c n len).pwr = d.pwr := by simp only [Dev.useDrbg, Dev.request]; split <;> simp
@[simp] theorem Dev.useDrbg_cfg (c : Ctx) (n len : Nat) : (d.useDrbg c n len).cfg = d.cfg := by simp only [Dev.useDrbg, Dev.request]; split <;> simp
@[simp] theorem Dev.hifEvent_hiLatch (s n b : Nat) : (d.hifEvent s n b).hiLatch = d.hiLatch := by unfold Dev.hifEvent; simp
@[simp] theorem Dev.hifEvent_rdata (s n b : Nat) : (d.hifEvent s n b).rdata = d.rdata := by unfold Dev.hifEvent; simp
@[simp] theorem Dev.hifEvent_tim (s n b : Nat) : (d.hifEvent s n b).tim = d.tim := by unfold Dev.hifEvent; simp
@[simp] theorem Dev.hifEvent_slices (s n b : Nat) : (d.hifEvent s n b).slices = d.slices := by unfold Dev.hifEvent; simp
@[simp] theorem Dev.hifEvent_jnl (s n b : Nat) : (d.hifEvent s n b).jnl = d.jnl := by unfold Dev.hifEvent; simp
@[simp] theorem Dev.hifEvent_ddt (s n b : Nat) : (d.hifEvent s n b).ddt = d.ddt := by unfold Dev.hifEvent; simp
@[simp] theorem Dev.hifEvent_dsp (s n b : Nat) : (d.hifEvent s n b).dsp = d.dsp := by unfold Dev.hifEvent; simp
@[simp] theorem Dev.hifEvent_lan (s n b : Nat) : (d.hifEvent s n b).lan = d.lan := by unfold Dev.hifEvent; simp
@[simp] theorem Dev.hifEvent_pke (s n b : Nat) : (d.hifEvent s n b).pke = d.pke := by unfold Dev.hifEvent; simp
@[simp] theorem Dev.hifEvent_key (s n b : Nat) : (d.hifEvent s n b).key = d.key := by unfold Dev.hifEvent; simp
@[simp] theorem Dev.hifEvent_rng (s n b : Nat) : (d.hifEvent s n b).rng = d.rng := by unfold Dev.hifEvent; simp
@[simp] theorem Dev.hifEvent_fab (s n b : Nat) : (d.hifEvent s n b).fab = d.fab := by unfold Dev.hifEvent; simp
@[simp] theorem Dev.hifEvent_cus (s n b : Nat) : (d.hifEvent s n b).cus = d.cus := by unfold Dev.hifEvent; simp
@[simp] theorem Dev.hifEvent_tmp (s n b : Nat) : (d.hifEvent s n b).tmp = d.tmp := by unfold Dev.hifEvent; simp
@[simp] theorem Dev.hifEvent_evl (s n b : Nat) : (d.hifEvent s n b).evl = d.evl := by unfold Dev.hifEvent; simp
@[simp] theorem Dev.hifEvent_erc (s n b : Nat) : (d.hifEvent s n b).erc = d.erc := by unfold Dev.hifEvent; simp
@[simp] theorem Dev.hifEvent_lcs (s n b : Nat) : (d.hifEvent s n b).lcs = d.lcs := by unfold Dev.hifEvent; simp
@[simp] theorem Dev.hifEvent_acc (s n b : Nat) : (d.hifEvent s n b).acc = d.acc := by unfold Dev.hifEvent; simp
@[simp] theorem Dev.hifEvent_mem (s n b : Nat) : (d.hifEvent s n b).mem = d.mem := by unfold Dev.hifEvent; simp
@[simp] theorem Dev.hifEvent_pwr (s n b : Nat) : (d.hifEvent s n b).pwr = d.pwr := by unfold Dev.hifEvent; simp
@[simp] theorem Dev.hifEvent_cfg (s n b : Nat) : (d.hifEvent s n b).cfg = d.cfg := by unfold Dev.hifEvent; simp
@[simp] theorem Dev.sendFrame_regs (f : Frame) : (d.sendFrame f).regs = d.regs := by simp [Dev.sendFrame]
@[simp] theorem Dev.sendFrame_hiLatch (f : Frame) : (d.sendFrame f).hiLatch = d.hiLatch := by simp [Dev.sendFrame]
@[simp] theorem Dev.sendFrame_rdata (f : Frame) : (d.sendFrame f).rdata = d.rdata := by simp [Dev.sendFrame]
@[simp] theorem Dev.sendFrame_tim (f : Frame) : (d.sendFrame f).tim = d.tim := by simp [Dev.sendFrame]
@[simp] theorem Dev.sendFrame_hif (f : Frame) : (d.sendFrame f).hif = d.hif := by simp [Dev.sendFrame]
@[simp] theorem Dev.sendFrame_slices (f : Frame) : (d.sendFrame f).slices = d.slices := by simp [Dev.sendFrame]
@[simp] theorem Dev.sendFrame_jnl (f : Frame) : (d.sendFrame f).jnl = d.jnl := by simp [Dev.sendFrame]
@[simp] theorem Dev.sendFrame_ddt (f : Frame) : (d.sendFrame f).ddt = d.ddt := by simp [Dev.sendFrame]
@[simp] theorem Dev.sendFrame_dsp (f : Frame) : (d.sendFrame f).dsp = d.dsp := by simp [Dev.sendFrame]
@[simp] theorem Dev.sendFrame_lan (f : Frame) : (d.sendFrame f).lan = d.lan := by simp [Dev.sendFrame]
@[simp] theorem Dev.sendFrame_pke (f : Frame) : (d.sendFrame f).pke = d.pke := by simp [Dev.sendFrame]
@[simp] theorem Dev.sendFrame_key (f : Frame) : (d.sendFrame f).key = d.key := by simp [Dev.sendFrame]
@[simp] theorem Dev.sendFrame_rng (f : Frame) : (d.sendFrame f).rng = d.rng := by simp [Dev.sendFrame]
@[simp] theorem Dev.sendFrame_fab (f : Frame) : (d.sendFrame f).fab = d.fab := by simp [Dev.sendFrame]
@[simp] theorem Dev.sendFrame_cus (f : Frame) : (d.sendFrame f).cus = d.cus := by simp [Dev.sendFrame]
@[simp] theorem Dev.sendFrame_tmp (f : Frame) : (d.sendFrame f).tmp = d.tmp := by simp [Dev.sendFrame]
@[simp] theorem Dev.sendFrame_evl (f : Frame) : (d.sendFrame f).evl = d.evl := by simp [Dev.sendFrame]
@[simp] theorem Dev.sendFrame_erc (f : Frame) : (d.sendFrame f).erc = d.erc := by simp [Dev.sendFrame]
@[simp] theorem Dev.sendFrame_lcs (f : Frame) : (d.sendFrame f).lcs = d.lcs := by simp [Dev.sendFrame]
@[simp] theorem Dev.sendFrame_acc (f : Frame) : (d.sendFrame f).acc = d.acc := by simp [Dev.sendFrame]
@[simp] theorem Dev.sendFrame_mem (f : Frame) : (d.sendFrame f).mem = d.mem := by simp [Dev.sendFrame]
@[simp] theorem Dev.sendFrame_pwr (f : Frame) : (d.sendFrame f).pwr = d.pwr := by simp [Dev.sendFrame]
@[simp] theorem Dev.sendFrame_cfg (f : Frame) : (d.sendFrame f).cfg = d.cfg := by simp [Dev.sendFrame]
@[simp] theorem Dev.sendFrame_reg (f : Frame) (o : Nat) : (d.sendFrame f).reg o = d.reg o := by simp [Dev.reg]
@[simp] theorem Dev.floodOut_regs (a : Option Nat) (f : Frame) : (d.floodOut a f).regs = d.regs := by unfold Dev.floodOut; exact foldl_keep Dev.regs _ (by intro x n; split <;> simp) _ _
@[simp] theorem Dev.floodOut_hiLatch (a : Option Nat) (f : Frame) : (d.floodOut a f).hiLatch = d.hiLatch := by unfold Dev.floodOut; exact foldl_keep Dev.hiLatch _ (by intro x n; split <;> simp) _ _
@[simp] theorem Dev.floodOut_rdata (a : Option Nat) (f : Frame) : (d.floodOut a f).rdata = d.rdata := by unfold Dev.floodOut; exact foldl_keep Dev.rdata _ (by intro x n; split <;> simp) _ _
@[simp] theorem Dev.floodOut_tim (a : Option Nat) (f : Frame) : (d.floodOut a f).tim = d.tim := by unfold Dev.floodOut; exact foldl_keep Dev.tim _ (by intro x n; split <;> simp) _ _
@[simp] theorem Dev.floodOut_hif (a : Option Nat) (f : Frame) : (d.floodOut a f).hif = d.hif := by unfold Dev.floodOut; exact foldl_keep Dev.hif _ (by intro x n; split <;> simp) _ _
@[simp] theorem Dev.floodOut_slices (a : Option Nat) (f : Frame) : (d.floodOut a f).slices = d.slices := by unfold Dev.floodOut; exact foldl_keep Dev.slices _ (by intro x n; split <;> simp) _ _
@[simp] theorem Dev.floodOut_jnl (a : Option Nat) (f : Frame) : (d.floodOut a f).jnl = d.jnl := by unfold Dev.floodOut; exact foldl_keep Dev.jnl _ (by intro x n; split <;> simp) _ _
@[simp] theorem Dev.floodOut_ddt (a : Option Nat) (f : Frame) : (d.floodOut a f).ddt = d.ddt := by unfold Dev.floodOut; exact foldl_keep Dev.ddt _ (by intro x n; split <;> simp) _ _
@[simp] theorem Dev.floodOut_dsp (a : Option Nat) (f : Frame) : (d.floodOut a f).dsp = d.dsp := by unfold Dev.floodOut; exact foldl_keep Dev.dsp _ (by intro x n; split <;> simp) _ _
@[simp] theorem Dev.floodOut_lan (a : Option Nat) (f : Frame) : (d.floodOut a f).lan = d.lan := by unfold Dev.floodOut; exact foldl_keep Dev.lan _ (by intro x n; split <;> simp) _ _
@[simp] theorem Dev.floodOut_pke (a : Option Nat) (f : Frame) : (d.floodOut a f).pke = d.pke := by unfold Dev.floodOut; exact foldl_keep Dev.pke _ (by intro x n; split <;> simp) _ _
@[simp] theorem Dev.floodOut_key (a : Option Nat) (f : Frame) : (d.floodOut a f).key = d.key := by unfold Dev.floodOut; exact foldl_keep Dev.key _ (by intro x n; split <;> simp) _ _
@[simp] theorem Dev.floodOut_rng (a : Option Nat) (f : Frame) : (d.floodOut a f).rng = d.rng := by unfold Dev.floodOut; exact foldl_keep Dev.rng _ (by intro x n; split <;> simp) _ _
@[simp] theorem Dev.floodOut_fab (a : Option Nat) (f : Frame) : (d.floodOut a f).fab = d.fab := by unfold Dev.floodOut; exact foldl_keep Dev.fab _ (by intro x n; split <;> simp) _ _
@[simp] theorem Dev.floodOut_cus (a : Option Nat) (f : Frame) : (d.floodOut a f).cus = d.cus := by unfold Dev.floodOut; exact foldl_keep Dev.cus _ (by intro x n; split <;> simp) _ _
@[simp] theorem Dev.floodOut_tmp (a : Option Nat) (f : Frame) : (d.floodOut a f).tmp = d.tmp := by unfold Dev.floodOut; exact foldl_keep Dev.tmp _ (by intro x n; split <;> simp) _ _
@[simp] theorem Dev.floodOut_evl (a : Option Nat) (f : Frame) : (d.floodOut a f).evl = d.evl := by unfold Dev.floodOut; exact foldl_keep Dev.evl _ (by intro x n; split <;> simp) _ _
@[simp] theorem Dev.floodOut_erc (a : Option Nat) (f : Frame) : (d.floodOut a f).erc = d.erc := by unfold Dev.floodOut; exact foldl_keep Dev.erc _ (by intro x n; split <;> simp) _ _
@[simp] theorem Dev.floodOut_lcs (a : Option Nat) (f : Frame) : (d.floodOut a f).lcs = d.lcs := by unfold Dev.floodOut; exact foldl_keep Dev.lcs _ (by intro x n; split <;> simp) _ _
@[simp] theorem Dev.floodOut_acc (a : Option Nat) (f : Frame) : (d.floodOut a f).acc = d.acc := by unfold Dev.floodOut; exact foldl_keep Dev.acc _ (by intro x n; split <;> simp) _ _
@[simp] theorem Dev.floodOut_mem (a : Option Nat) (f : Frame) : (d.floodOut a f).mem = d.mem := by unfold Dev.floodOut; exact foldl_keep Dev.mem _ (by intro x n; split <;> simp) _ _
@[simp] theorem Dev.floodOut_pwr (a : Option Nat) (f : Frame) : (d.floodOut a f).pwr = d.pwr := by unfold Dev.floodOut; exact foldl_keep Dev.pwr _ (by intro x n; split <;> simp) _ _
@[simp] theorem Dev.floodOut_cfg (a : Option Nat) (f : Frame) : (d.floodOut a f).cfg = d.cfg := by unfold Dev.floodOut; exact foldl_keep Dev.cfg _ (by intro x n; split <;> simp) _ _
@[simp] theorem Dev.floodOut_reg (a : Option Nat) (f : Frame) (o : Nat) : (d.floodOut a f).reg o = d.reg o := by simp [Dev.reg]
@[simp] theorem Dev.originate_regs (p : Option Nat) (n k : Nat) (s : Option Session) (b : Bytes) : (d.originate p n k s b).regs = d.regs := by simp only [Dev.originate]; (repeat' split) <;> simp [Dev.nextFlood]
@[simp] theorem Dev.originate_hiLatch (p : Option Nat) (n k : Nat) (s : Option Session) (b : Bytes) : (d.originate p n k s b).hiLatch = d.hiLatch := by simp only [Dev.originate]; (repeat' split) <;> simp [Dev.nextFlood]
@[simp] theorem Dev.originate_rdata (p : Option Nat) (n k : Nat) (s : Option Session) (b : Bytes) : (d.originate p n k s b).rdata = d.rdata := by simp only [Dev.originate]; (repeat' split) <;> simp [Dev.nextFlood]
@[simp] theorem Dev.originate_tim (p : Option Nat) (n k : Nat) (s : Option Session) (b : Bytes) : (d.originate p n k s b).tim = d.tim := by simp only [Dev.originate]; (repeat' split) <;> simp [Dev.nextFlood]
@[simp] theorem Dev.originate_hif (p : Option Nat) (n k : Nat) (s : Option Session) (b : Bytes) : (d.originate p n k s b).hif = d.hif := by simp only [Dev.originate]; (repeat' split) <;> simp [Dev.nextFlood]
@[simp] theorem Dev.originate_slices (p : Option Nat) (n k : Nat) (s : Option Session) (b : Bytes) : (d.originate p n k s b).slices = d.slices := by simp only [Dev.originate]; (repeat' split) <;> simp [Dev.nextFlood]
@[simp] theorem Dev.originate_jnl (p : Option Nat) (n k : Nat) (s : Option Session) (b : Bytes) : (d.originate p n k s b).jnl = d.jnl := by simp only [Dev.originate]; (repeat' split) <;> simp [Dev.nextFlood]
@[simp] theorem Dev.originate_ddt (p : Option Nat) (n k : Nat) (s : Option Session) (b : Bytes) : (d.originate p n k s b).ddt = d.ddt := by simp only [Dev.originate]; (repeat' split) <;> simp [Dev.nextFlood]
@[simp] theorem Dev.originate_dsp (p : Option Nat) (n k : Nat) (s : Option Session) (b : Bytes) : (d.originate p n k s b).dsp = d.dsp := by simp only [Dev.originate]; (repeat' split) <;> simp [Dev.nextFlood]
@[simp] theorem Dev.originate_lan (p : Option Nat) (n k : Nat) (s : Option Session) (b : Bytes) : (d.originate p n k s b).lan = d.lan := by simp only [Dev.originate]; (repeat' split) <;> simp [Dev.nextFlood]
@[simp] theorem Dev.originate_pke (p : Option Nat) (n k : Nat) (s : Option Session) (b : Bytes) : (d.originate p n k s b).pke = d.pke := by simp only [Dev.originate]; (repeat' split) <;> simp [Dev.nextFlood]
@[simp] theorem Dev.originate_key (p : Option Nat) (n k : Nat) (s : Option Session) (b : Bytes) : (d.originate p n k s b).key = d.key := by simp only [Dev.originate]; (repeat' split) <;> simp [Dev.nextFlood]
@[simp] theorem Dev.originate_rng (p : Option Nat) (n k : Nat) (s : Option Session) (b : Bytes) : (d.originate p n k s b).rng = d.rng := by simp only [Dev.originate]; (repeat' split) <;> simp [Dev.nextFlood]
@[simp] theorem Dev.originate_cus (p : Option Nat) (n k : Nat) (s : Option Session) (b : Bytes) : (d.originate p n k s b).cus = d.cus := by simp only [Dev.originate]; (repeat' split) <;> simp [Dev.nextFlood]
@[simp] theorem Dev.originate_tmp (p : Option Nat) (n k : Nat) (s : Option Session) (b : Bytes) : (d.originate p n k s b).tmp = d.tmp := by simp only [Dev.originate]; (repeat' split) <;> simp [Dev.nextFlood]
@[simp] theorem Dev.originate_evl (p : Option Nat) (n k : Nat) (s : Option Session) (b : Bytes) : (d.originate p n k s b).evl = d.evl := by simp only [Dev.originate]; (repeat' split) <;> simp [Dev.nextFlood]
@[simp] theorem Dev.originate_erc (p : Option Nat) (n k : Nat) (s : Option Session) (b : Bytes) : (d.originate p n k s b).erc = d.erc := by simp only [Dev.originate]; (repeat' split) <;> simp [Dev.nextFlood]
@[simp] theorem Dev.originate_lcs (p : Option Nat) (n k : Nat) (s : Option Session) (b : Bytes) : (d.originate p n k s b).lcs = d.lcs := by simp only [Dev.originate]; (repeat' split) <;> simp [Dev.nextFlood]
@[simp] theorem Dev.originate_acc (p : Option Nat) (n k : Nat) (s : Option Session) (b : Bytes) : (d.originate p n k s b).acc = d.acc := by simp only [Dev.originate]; (repeat' split) <;> simp [Dev.nextFlood]
@[simp] theorem Dev.originate_mem (p : Option Nat) (n k : Nat) (s : Option Session) (b : Bytes) : (d.originate p n k s b).mem = d.mem := by simp only [Dev.originate]; (repeat' split) <;> simp [Dev.nextFlood]
@[simp] theorem Dev.originate_pwr (p : Option Nat) (n k : Nat) (s : Option Session) (b : Bytes) : (d.originate p n k s b).pwr = d.pwr := by simp only [Dev.originate]; (repeat' split) <;> simp [Dev.nextFlood]
@[simp] theorem Dev.originate_cfg (p : Option Nat) (n k : Nat) (s : Option Session) (b : Bytes) : (d.originate p n k s b).cfg = d.cfg := by simp only [Dev.originate]; (repeat' split) <;> simp [Dev.nextFlood]
@[simp] theorem Dev.originate_reg (p : Option Nat) (n k : Nat) (s : Option Session) (b : Bytes) (o : Nat) : (d.originate p n k s b).reg o = d.reg o := by simp [Dev.reg]
@[simp] theorem Dev.sendSealed_regs (p : Option Nat) (n k : Nat) (b : Bytes) : (d.sendSealed p n k b).regs = d.regs := by unfold Dev.sendSealed; refine foldl_keep Dev.regs _ ?_ _ _; intro a x; cases a.session? n <;> simp
@[simp] theorem Dev.sendSealed_hiLatch (p : Option Nat) (n k : Nat) (b : Bytes) : (d.sendSealed p n k b).hiLatch = d.hiLatch := by unfold Dev.sendSealed; refine foldl_keep Dev.hiLatch _ ?_ _ _; intro a x; cases a.session? n <;> simp
@[simp] theorem Dev.sendSealed_rdata (p : Option Nat) (n k : Nat) (b : Bytes) : (d.sendSealed p n k b).rdata = d.rdata := by unfold Dev.sendSealed; refine foldl_keep Dev.rdata _ ?_ _ _; intro a x; cases a.session? n <;> simp
@[simp] theorem Dev.sendSealed_tim (p : Option Nat) (n k : Nat) (b : Bytes) : (d.sendSealed p n k b).tim = d.tim := by unfold Dev.sendSealed; refine foldl_keep Dev.tim _ ?_ _ _; intro a x; cases a.session? n <;> simp
@[simp] theorem Dev.sendSealed_hif (p : Option Nat) (n k : Nat) (b : Bytes) : (d.sendSealed p n k b).hif = d.hif := by unfold Dev.sendSealed; refine foldl_keep Dev.hif _ ?_ _ _; intro a x; cases a.session? n <;> simp
@[simp] theorem Dev.sendSealed_slices (p : Option Nat) (n k : Nat) (b : Bytes) : (d.sendSealed p n k b).slices = d.slices := by unfold Dev.sendSealed; refine foldl_keep Dev.slices _ ?_ _ _; intro a x; cases a.session? n <;> simp
@[simp] theorem Dev.sendSealed_jnl (p : Option Nat) (n k : Nat) (b : Bytes) : (d.sendSealed p n k b).jnl = d.jnl := by unfold Dev.sendSealed; refine foldl_keep Dev.jnl _ ?_ _ _; intro a x; cases a.session? n <;> simp
@[simp] theorem Dev.sendSealed_ddt (p : Option Nat) (n k : Nat) (b : Bytes) : (d.sendSealed p n k b).ddt = d.ddt := by unfold Dev.sendSealed; refine foldl_keep Dev.ddt _ ?_ _ _; intro a x; cases a.session? n <;> simp
@[simp] theorem Dev.sendSealed_dsp (p : Option Nat) (n k : Nat) (b : Bytes) : (d.sendSealed p n k b).dsp = d.dsp := by unfold Dev.sendSealed; refine foldl_keep Dev.dsp _ ?_ _ _; intro a x; cases a.session? n <;> simp
@[simp] theorem Dev.sendSealed_lan (p : Option Nat) (n k : Nat) (b : Bytes) : (d.sendSealed p n k b).lan = d.lan := by unfold Dev.sendSealed; refine foldl_keep Dev.lan _ ?_ _ _; intro a x; cases a.session? n <;> simp
@[simp] theorem Dev.sendSealed_pke (p : Option Nat) (n k : Nat) (b : Bytes) : (d.sendSealed p n k b).pke = d.pke := by unfold Dev.sendSealed; refine foldl_keep Dev.pke _ ?_ _ _; intro a x; cases a.session? n <;> simp
@[simp] theorem Dev.sendSealed_key (p : Option Nat) (n k : Nat) (b : Bytes) : (d.sendSealed p n k b).key = d.key := by unfold Dev.sendSealed; refine foldl_keep Dev.key _ ?_ _ _; intro a x; cases a.session? n <;> simp
@[simp] theorem Dev.sendSealed_rng (p : Option Nat) (n k : Nat) (b : Bytes) : (d.sendSealed p n k b).rng = d.rng := by unfold Dev.sendSealed; refine foldl_keep Dev.rng _ ?_ _ _; intro a x; cases a.session? n <;> simp
@[simp] theorem Dev.sendSealed_cus (p : Option Nat) (n k : Nat) (b : Bytes) : (d.sendSealed p n k b).cus = d.cus := by unfold Dev.sendSealed; refine foldl_keep Dev.cus _ ?_ _ _; intro a x; cases a.session? n <;> simp
@[simp] theorem Dev.sendSealed_tmp (p : Option Nat) (n k : Nat) (b : Bytes) : (d.sendSealed p n k b).tmp = d.tmp := by unfold Dev.sendSealed; refine foldl_keep Dev.tmp _ ?_ _ _; intro a x; cases a.session? n <;> simp
@[simp] theorem Dev.sendSealed_evl (p : Option Nat) (n k : Nat) (b : Bytes) : (d.sendSealed p n k b).evl = d.evl := by unfold Dev.sendSealed; refine foldl_keep Dev.evl _ ?_ _ _; intro a x; cases a.session? n <;> simp
@[simp] theorem Dev.sendSealed_erc (p : Option Nat) (n k : Nat) (b : Bytes) : (d.sendSealed p n k b).erc = d.erc := by unfold Dev.sendSealed; refine foldl_keep Dev.erc _ ?_ _ _; intro a x; cases a.session? n <;> simp
@[simp] theorem Dev.sendSealed_lcs (p : Option Nat) (n k : Nat) (b : Bytes) : (d.sendSealed p n k b).lcs = d.lcs := by unfold Dev.sendSealed; refine foldl_keep Dev.lcs _ ?_ _ _; intro a x; cases a.session? n <;> simp
@[simp] theorem Dev.sendSealed_acc (p : Option Nat) (n k : Nat) (b : Bytes) : (d.sendSealed p n k b).acc = d.acc := by unfold Dev.sendSealed; refine foldl_keep Dev.acc _ ?_ _ _; intro a x; cases a.session? n <;> simp
@[simp] theorem Dev.sendSealed_mem (p : Option Nat) (n k : Nat) (b : Bytes) : (d.sendSealed p n k b).mem = d.mem := by unfold Dev.sendSealed; refine foldl_keep Dev.mem _ ?_ _ _; intro a x; cases a.session? n <;> simp
@[simp] theorem Dev.sendSealed_pwr (p : Option Nat) (n k : Nat) (b : Bytes) : (d.sendSealed p n k b).pwr = d.pwr := by unfold Dev.sendSealed; refine foldl_keep Dev.pwr _ ?_ _ _; intro a x; cases a.session? n <;> simp
@[simp] theorem Dev.sendSealed_cfg (p : Option Nat) (n k : Nat) (b : Bytes) : (d.sendSealed p n k b).cfg = d.cfg := by unfold Dev.sendSealed; refine foldl_keep Dev.cfg _ ?_ _ _; intro a x; cases a.session? n <;> simp
@[simp] theorem Dev.sendSealed_reg (p : Option Nat) (n k : Nat) (b : Bytes) (o : Nat) : (d.sendSealed p n k b).reg o = d.reg o := by simp [Dev.reg]
@[simp] theorem Dev.sendPeer_regs (n k m : Nat) (p : Bytes) : (d.sendPeer n k m p).regs = d.regs := by simp only [Dev.sendPeer]; (repeat' split) <;> simp
@[simp] theorem Dev.sendPeer_hiLatch (n k m : Nat) (p : Bytes) : (d.sendPeer n k m p).hiLatch = d.hiLatch := by simp only [Dev.sendPeer]; (repeat' split) <;> simp
@[simp] theorem Dev.sendPeer_rdata (n k m : Nat) (p : Bytes) : (d.sendPeer n k m p).rdata = d.rdata := by simp only [Dev.sendPeer]; (repeat' split) <;> simp
@[simp] theorem Dev.sendPeer_tim (n k m : Nat) (p : Bytes) : (d.sendPeer n k m p).tim = d.tim := by simp only [Dev.sendPeer]; (repeat' split) <;> simp
@[simp] theorem Dev.sendPeer_hif (n k m : Nat) (p : Bytes) : (d.sendPeer n k m p).hif = d.hif := by simp only [Dev.sendPeer]; (repeat' split) <;> simp
@[simp] theorem Dev.sendPeer_slices (n k m : Nat) (p : Bytes) : (d.sendPeer n k m p).slices = d.slices := by simp only [Dev.sendPeer]; (repeat' split) <;> simp
@[simp] theorem Dev.sendPeer_jnl (n k m : Nat) (p : Bytes) : (d.sendPeer n k m p).jnl = d.jnl := by simp only [Dev.sendPeer]; (repeat' split) <;> simp
@[simp] theorem Dev.sendPeer_ddt (n k m : Nat) (p : Bytes) : (d.sendPeer n k m p).ddt = d.ddt := by simp only [Dev.sendPeer]; (repeat' split) <;> simp
@[simp] theorem Dev.sendPeer_dsp (n k m : Nat) (p : Bytes) : (d.sendPeer n k m p).dsp = d.dsp := by simp only [Dev.sendPeer]; (repeat' split) <;> simp
@[simp] theorem Dev.sendPeer_lan (n k m : Nat) (p : Bytes) : (d.sendPeer n k m p).lan = d.lan := by simp only [Dev.sendPeer]; (repeat' split) <;> simp
@[simp] theorem Dev.sendPeer_pke (n k m : Nat) (p : Bytes) : (d.sendPeer n k m p).pke = d.pke := by simp only [Dev.sendPeer]; (repeat' split) <;> simp
@[simp] theorem Dev.sendPeer_key (n k m : Nat) (p : Bytes) : (d.sendPeer n k m p).key = d.key := by simp only [Dev.sendPeer]; (repeat' split) <;> simp
@[simp] theorem Dev.sendPeer_rng (n k m : Nat) (p : Bytes) : (d.sendPeer n k m p).rng = d.rng := by simp only [Dev.sendPeer]; (repeat' split) <;> simp
@[simp] theorem Dev.sendPeer_cus (n k m : Nat) (p : Bytes) : (d.sendPeer n k m p).cus = d.cus := by simp only [Dev.sendPeer]; (repeat' split) <;> simp
@[simp] theorem Dev.sendPeer_tmp (n k m : Nat) (p : Bytes) : (d.sendPeer n k m p).tmp = d.tmp := by simp only [Dev.sendPeer]; (repeat' split) <;> simp
@[simp] theorem Dev.sendPeer_evl (n k m : Nat) (p : Bytes) : (d.sendPeer n k m p).evl = d.evl := by simp only [Dev.sendPeer]; (repeat' split) <;> simp
@[simp] theorem Dev.sendPeer_erc (n k m : Nat) (p : Bytes) : (d.sendPeer n k m p).erc = d.erc := by simp only [Dev.sendPeer]; (repeat' split) <;> simp
@[simp] theorem Dev.sendPeer_lcs (n k m : Nat) (p : Bytes) : (d.sendPeer n k m p).lcs = d.lcs := by simp only [Dev.sendPeer]; (repeat' split) <;> simp
@[simp] theorem Dev.sendPeer_acc (n k m : Nat) (p : Bytes) : (d.sendPeer n k m p).acc = d.acc := by simp only [Dev.sendPeer]; (repeat' split) <;> simp
@[simp] theorem Dev.sendPeer_mem (n k m : Nat) (p : Bytes) : (d.sendPeer n k m p).mem = d.mem := by simp only [Dev.sendPeer]; (repeat' split) <;> simp
@[simp] theorem Dev.sendPeer_pwr (n k m : Nat) (p : Bytes) : (d.sendPeer n k m p).pwr = d.pwr := by simp only [Dev.sendPeer]; (repeat' split) <;> simp
@[simp] theorem Dev.sendPeer_cfg (n k m : Nat) (p : Bytes) : (d.sendPeer n k m p).cfg = d.cfg := by simp only [Dev.sendPeer]; (repeat' split) <;> simp
@[simp] theorem Dev.sendPeer_reg (n k m : Nat) (p : Bytes) (o : Nat) : (d.sendPeer n k m p).reg o = d.reg o := by simp [Dev.reg]
/-- An event sets its bits in its register, and no other register changes. -/
@[simp] theorem Dev.evt_regs (off : Nat) (b : Word) : (d.evt off b).regs = d.regs.set off (d.reg off ||| b) := by
  have hr : ∀ (v : Nat) (e : Dev), (e.raiseVec v).regs = e.regs := by
    intro v e; simp
  unfold Dev.evt; dsimp only; split
  · rfl
  · split <;> simp

@[simp] theorem Dev.evtBit_regs (off i : Nat) : (d.evtBit off i).regs = d.regs.set off (d.reg off ||| (1#32 <<< i)) := by
  simp [Dev.evtBit]

@[simp] theorem Dev.evt_reg (off : Nat) (b : Word) : (d.evt off b).reg off = d.reg off ||| b := by simp [Dev.reg]
theorem Dev.evt_reg_ne {a off : Nat} (b : Word) (h : a ≠ off) : (d.evt off b).reg a = d.reg a := by
  simp [Dev.reg, RegFile.get_set_ne _ _ h]
@[simp] theorem Dev.evtBit_reg (off i : Nat) : (d.evtBit off i).reg off = d.reg off ||| (1#32 <<< i) := by simp [Dev.reg]
theorem Dev.evtBit_reg_ne {a off : Nat} (i : Nat) (h : a ≠ off) : (d.evtBit off i).reg a = d.reg a := by
  simp [Dev.reg, RegFile.get_set_ne _ _ h]

/-- A request to a DRBG draws once. -/
@[simp] theorem Dev.dueReseed_ctr (c : Ctx) (n : Nat) : (d.dueReseed c n).rng.ctr = d.rng.ctr := by
  simp only [Dev.dueReseed]; split <;> [(split <;> rfl); rfl]
@[simp] theorem Dev.request_2_ctr (c : Ctx) (n len : Nat) (x : Bytes) : (d.request c n len x).2.rng.ctr = d.rng.ctr + 1 := by
  simp only [Dev.request]; split <;> simp
@[simp] theorem Dev.useDrbg_ctr (c : Ctx) (n len : Nat) : (d.useDrbg c n len).rng.ctr = d.rng.ctr + 1 := by
  simp only [Dev.useDrbg, Dev.request]; split <;> simp

/-! ### Host accesses -/

/-- Which host access may go through. -/
theorem HostMay.up {s : State} {w : Bool} {off : Nat} (h : HostMay s w off) : s.dev.endpointUp = true := by
  have h6 := h.opened
  simp only [Dev.open6, Bool.and_eq_true] at h6
  simp [Dev.endpointUp, h6.1.2, h6.2]

/-- A write of a register that firmware does not serve goes by the register's own rule. -/
@[simp] theorem Dev.served_other (c : Ctx) {off : Nat} (f : Dev → WOut) (h : fwServed off = false) : d.served c off f = f d := by
  simp [Dev.served, h]
/-- One that firmware serves: with a pair in service, the rule's effect and a configuration task. -/
theorem Dev.served_took {c : Ctx} {off : Nat} {f : Dev → WOut} {e : Dev} (h : fwServed off = true) (hm : d.mgmtUp = true) (hf : f d = .took e) :
    d.served c off f = .took (e.fwReady c 4) := by
  simp [Dev.served, h, hm, hf]

/-- A write that the register's rule takes. -/
theorem hostWrite_took {s : State} {off : Nat} {f : Dev → WOut} {e : Dev} (h : HostMay s true off) (hf : s.dev.served s.ctx off f = .took e) :
    s.dev.hostWrite s.ctx off f = e := by
  simp [Dev.hostWrite, h.up, h.opened, h.gate, hf]

/-- The same of a register that firmware does not serve, by the register's own rule. -/
theorem hostWrite_own {s : State} {off : Nat} {f : Dev → WOut} {e : Dev} (h : HostMay s true off) (hs : fwServed off = false) (hf : f s.dev = .took e) :
    s.dev.hostWrite s.ctx off f = e := hostWrite_took h (by rw [Dev.served_other _ _ _ hs, hf])

/-- A write that the register's rule discards. -/
theorem hostWrite_drop {s : State} {off : Nat} {f : Dev → WOut} (h : HostMay s true off) (hf : s.dev.served s.ctx off f = .drop) :
    s.dev.hostWrite s.ctx off f = s.dev := by
  simp [Dev.hostWrite, h.up, h.opened, h.gate, hf]

/-- A write that the register's rule discards and reports. -/
theorem hostWrite_viol {s : State} {off : Nat} {f : Dev → WOut} (h : HostMay s true off) (hf : s.dev.served s.ctx off f = .viol) :
    s.dev.hostWrite s.ctx off f = s.dev.ruleViolation s.ctx off := by
  simp [Dev.hostWrite, h.up, h.opened, h.gate, hf]

/-- The same of a register that firmware does not serve. -/
theorem hostWrite_own_viol {s : State} {off : Nat} {f : Dev → WOut} (h : HostMay s true off) (hs : fwServed off = false) (hf : f s.dev = .viol) :
    s.dev.hostWrite s.ctx off f = s.dev.ruleViolation s.ctx off := hostWrite_viol h (by rw [Dev.served_other _ _ _ hs, hf])
theorem hostWrite_own_drop {s : State} {off : Nat} {f : Dev → WOut} (h : HostMay s true off) (hs : fwServed off = false) (hf : f s.dev = .drop) :
    s.dev.hostWrite s.ctx off f = s.dev := hostWrite_drop h (by rw [Dev.served_other _ _ _ hs, hf])

/-- A write that the access rules deny. -/
theorem hostWrite_denied {s : State} {off : Nat} {f : Dev → WOut} (h6 : s.dev.open6 = true)
    (hg : (s.dev.gate s.ctx Mst.host true off).ok = false) :
    s.dev.hostWrite s.ctx off f = s.dev.violation s.ctx Viol.write Mst.host (s.dev.gate s.ctx Mst.host true off).region
      (s.dev.gate s.ctx Mst.host true off).epoch off := by
  have hu : s.dev.endpointUp = true := by
    simp only [Dev.open6, Bool.and_eq_true] at h6
    simp [Dev.endpointUp, h6.1.2, h6.2]
  simp [Dev.hostWrite, hu, h6, hg]

/-- A read that is let through. -/
theorem hostRead_ret {s : State} {off : Nat} {f : Dev → DWord × Dev} (h : HostMay s false off) :
    s.dev.hostRead s.ctx off f = { (f s.dev).2 with rdata := (f s.dev).1 } := by
  simp [Dev.hostRead, h.up, h.opened, h.gate]
/-! ### Things found by a number -/

/-- What is found after a change that keeps the property. -/
theorem find_updWhere {α : Type} (p : α → Bool) (f : α → α) (hf : ∀ x, p x = true → p (f x) = true) :
    ∀ l : List α, (updWhere p f l).find? p = (l.find? p).map f
  | [] => rfl
  | a :: t => by
    have ih := find_updWhere p f hf t
    simp only [updWhere, List.map_cons, List.find?_cons] at *
    by_cases h : p a = true
    · simp [h, hf a h]
    · simp [h, ih]

/-- What is found after a change of other elements. -/
theorem find_updWhere_other {α : Type} (p q : α → Bool) (f : α → α) (hq : ∀ x, q x = true → p x = false)
    (hf : ∀ x, p x = true → q (f x) = false) : ∀ l : List α, (updWhere p f l).find? q = l.find? q
  | [] => rfl
  | a :: t => by
    have ih := find_updWhere_other p q f hq hf t
    simp only [updWhere, List.map_cons, List.find?_cons] at *
    by_cases h : p a = true
    · have h2 : q a = false := by
        by_contra hc
        have := hq a (by simpa using hc)
        simp [h] at this
      simp [h, hf a h, h2, ih]
    · simp [h, ih]

/-- The element that an `upsert` leaves. -/
theorem find_upsert {α : Type} (p : α → Bool) (new : α) (f : α → α) (hn : p new = true) (hf : ∀ x, p x = true → p (f x) = true) (l : List α) :
    (upsert p new f l).find? p = some (f ((l.find? p).getD new)) := by
  unfold upsert
  split
  · next h =>
    rw [find_updWhere p f hf]
    obtain ⟨x, hx, hp⟩ := List.any_eq_true.mp h
    cases hfind : l.find? p with
    | none => rw [List.find?_eq_none] at hfind; exact absurd hp (hfind x hx)
    | some y => simp
  · next h =>
    have hnone : l.find? p = none := by
      rw [List.find?_eq_none]; intro x hx hp
      exact h (List.any_eq_true.mpr ⟨x, hx, hp⟩)
    rw [List.find?_append, hnone]
    simp [hf new hn]

/-- The ring after a change that keeps its slice and number. -/
theorem Dev.ring_updRing (s n : Nat) (f : Ring → Ring) (hf : ∀ x : Ring, x.slice = s → x.num = n → (f x).slice = s ∧ (f x).num = n) :
    (d.updRing s n f).ring s n = f (d.ring s n) := by
  simp only [Dev.ring, Dev.updRing]
  rw [find_upsert _ _ _ (by simp) (fun x hx => by
    simp only [Bool.and_eq_true, beq_iff_eq] at hx ⊢
    exact hf x hx.1 hx.2)]
  rfl

/-- Another ring after a change. -/
theorem Dev.ring_updRing_ne {s n s' n' : Nat} (f : Ring → Ring) (h : s' ≠ s ∨ n' ≠ n)
    (hf : ∀ x : Ring, x.slice = s → x.num = n → (f x).slice = s ∧ (f x).num = n) :
    (d.updRing s n f).ring s' n' = d.ring s' n' := by
  simp only [Dev.ring, Dev.updRing, upsert]
  split
  · rw [find_updWhere_other]
    · intro x hx
      simp only [Bool.and_eq_true, beq_iff_eq] at hx
      simp only [Bool.and_eq_false_iff, beq_eq_false_iff_ne]
      omega
    · intro x hx
      simp only [Bool.and_eq_true, beq_iff_eq] at hx
      have := hf x hx.1 hx.2
      simp only [Bool.and_eq_false_iff, beq_eq_false_iff_ne]
      omega
  · generalize hr : ({ slice := s, num := n } : Ring) = r0
    have h0 := hf r0 (by rw [← hr]) (by rw [← hr])
    have hno : ([f r0].find? (fun x => x.slice == s' && x.num == n')) = none := by
      have : ((f r0).slice == s' && (f r0).num == n') = false := by
        simp only [Bool.and_eq_false_iff, beq_eq_false_iff_ne]; omega
      simp only [List.find?_cons, List.find?_nil, this]
    rw [List.find?_append, hno, Option.or_none]

@[simp] theorem Dev.ring_slice_num (s n : Nat) : (d.ring s n).slice = s ∧ (d.ring s n).num = n := by
  simp only [Dev.ring]
  cases h : d.hif.rings.find? (fun x => x.slice == s && x.num == n) with
  | none => simp
  | some r =>
    have := List.find?_some h
    simpa using this

/-- The slice after a change that keeps its number. -/
theorem Dev.slice_updSlice (n : Nat) (f : Slice → Slice) (hf : ∀ x : Slice, x.num = n → (f x).num = n) :
    (d.updSlice n f).slice n = f (d.slice n) := by
  simp only [Dev.slice, Dev.updSlice]
  rw [find_upsert _ _ _ (by simp) (fun x hx => by simp only [beq_iff_eq] at hx ⊢; exact hf x hx)]
  rfl

/-- The item, record, twin, grove, engine, DRBG of a number after a change that keeps the number, where there is one. -/
theorem Dev.item_updItem {n : Nat} {i : Item} (f : Item → Item) (h : d.item? n = some i) (hf : ∀ x : Item, x.slot = n → (f x).slot = n) :
    (d.updItem n f).item? n = some (f i) := by
  simp only [Dev.item?, Dev.updItem] at *
  rw [find_updWhere _ _ (fun x hx => by simp only [beq_iff_eq] at hx ⊢; exact hf x hx), h]; rfl
theorem Dev.rec_updRec {n : Nat} {r : Rec} (f : Rec → Rec) (h : d.rec? n = some r) (hf : ∀ x : Rec, x.slot = n → (f x).slot = n) :
    (d.updRec n f).rec? n = some (f r) := by
  simp only [Dev.rec?, Dev.updRec] at *
  rw [find_updWhere _ _ (fun x hx => by simp only [beq_iff_eq] at hx ⊢; exact hf x hx), h]; rfl
theorem Dev.twin_updTwin {n : Nat} {t : Twin} (f : Twin → Twin) (h : d.lan.twins.find? (fun t => t.num == n) = some t)
    (hf : ∀ x : Twin, x.num = n → (f x).num = n) : (d.updTwin n f).twin n = f t := by
  simp only [Dev.twin, Dev.updTwin]
  rw [find_updWhere _ _ (fun x hx => by simp only [beq_iff_eq] at hx ⊢; exact hf x hx), h]; rfl
theorem Dev.grove_updGrove {n : Nat} {t : Grove} (f : Grove → Grove) (h : d.lan.groves.find? (fun t => t.num == n) = some t)
    (hf : ∀ x : Grove, x.num = n → (f x).num = n) : (d.updGrove n f).grove n = f t := by
  simp only [Dev.grove, Dev.updGrove]
  rw [find_updWhere _ _ (fun x hx => by simp only [beq_iff_eq] at hx ⊢; exact hf x hx), h]; rfl
theorem Dev.engine_updEngine {n : Nat} {t : Engine} (f : Engine → Engine) (h : d.pke.engines.find? (fun t => t.num == n) = some t)
    (hf : ∀ x : Engine, x.num = n → (f x).num = n) : (d.updEngine n f).engine n = f t := by
  simp only [Dev.engine, Dev.updEngine]
  rw [find_updWhere _ _ (fun x hx => by simp only [beq_iff_eq] at hx ⊢; exact hf x hx), h]; rfl
theorem Dev.drbg_updDrbg {n : Nat} {t : Drbg} (f : Drbg → Drbg) (h : d.rng.drbgs.find? (fun t => t.num == n) = some t)
    (hf : ∀ x : Drbg, x.num = n → (f x).num = n) : (d.updDrbg n f).drbg n = f t := by
  simp only [Dev.drbg, Dev.updDrbg]
  rw [find_updWhere _ _ (fun x hx => by simp only [beq_iff_eq] at hx ⊢; exact hf x hx), h]; rfl

/-- A violation is latched: VALID of the report reads 1 after it (R558, R559). -/
theorem Dev.violation_latched (c : Ctx) (k m r e a : Nat) : bit (d.violation c k m r e a).acc.viol 0 = true := by
  have hacc : ∀ (x : Dev) (t : Nat) (p : Bytes), (x.record c t p).acc = x.acc := by intro x t p; simp
  simp only [Dev.violation, hacc]
  split
  · next h => simpa using h
  · simp [bit, packW]
    rw [← BitVec.getLsbD_eq_getElem (by decide), BitVec.getLsbD_ofNat]
    simp [Nat.testBit_zero]
    omega
@[simp] theorem Dev.ruleViolation_latched (c : Ctx) (off : Nat) : bit (d.ruleViolation c off).acc.viol 0 = true := Dev.violation_latched ..

/-! ### Events and reports leave the rings and every other register -/

@[simp] theorem Dev.raiseVec_rings (v : Nat) : (d.raiseVec v).hif.rings = d.hif.rings := by
  unfold Dev.raiseVec; dsimp only; split <;> rfl
@[simp] theorem Dev.evt_rings (off : Nat) (b : Word) : (d.evt off b).hif.rings = d.hif.rings := by
  unfold Dev.evt; dsimp only; split
  · rfl
  · split <;> simp
@[simp] theorem Dev.evtBit_rings (off i : Nat) : (d.evtBit off i).hif.rings = d.hif.rings := by simp [Dev.evtBit]
theorem Dev.evtRing_rings (w : Word) (b : Nat) :
    (Dev.evtBit Off.hifEvt b ({ d with hif := { d.hif with evtRing := w } })).hif.rings = d.hif.rings := by
  unfold Dev.evtBit; rw [Dev.evt_rings]
@[simp] theorem Dev.hifEvent_rings (s n b : Nat) : (d.hifEvent s n b).hif.rings = d.hif.rings := Dev.evtRing_rings d _ b
@[simp] theorem Dev.record_rings (c : Ctx) (t : Nat) (p : Bytes) : (d.record c t p).hif.rings = d.hif.rings := by
  simp only [Dev.record]; (repeat' split) <;> simp
@[simp] theorem Dev.violation_rings (c : Ctx) (k m r e a : Nat) : (d.violation c k m r e a).hif.rings = d.hif.rings := by
  simp only [Dev.violation]; split <;> simp
@[simp] theorem Dev.ruleViolation_rings (c : Ctx) (off : Nat) : (d.ruleViolation c off).hif.rings = d.hif.rings := by
  unfold Dev.ruleViolation; rw [Dev.violation_rings]
@[simp] theorem Dev.evidenceAt_rings (st : DWord) (r : Bool) (t : Nat) (p : Bytes) : (d.evidenceAt st r t p).hif.rings = d.hif.rings := by
  unfold Dev.evidenceAt; split <;> simp
@[simp] theorem Dev.evidence_rings (c : Ctx) (t : Nat) (p : Bytes) : (d.evidence c t p).hif.rings = d.hif.rings := by
  unfold Dev.evidence; rw [Dev.evidenceAt_rings]
@[simp] theorem Dev.raiseVec_cmdResult (v : Nat) : (d.raiseVec v).hif.cmdResult = d.hif.cmdResult := by
  unfold Dev.raiseVec; dsimp only; split <;> rfl
@[simp] theorem Dev.evt_cmdResult (off : Nat) (b : Word) : (d.evt off b).hif.cmdResult = d.hif.cmdResult := by
  unfold Dev.evt; dsimp only; split
  · rfl
  · split <;> simp
@[simp] theorem Dev.evtBit_cmdResult (off i : Nat) : (d.evtBit off i).hif.cmdResult = d.hif.cmdResult := by simp [Dev.evtBit]
theorem Dev.evtRing_cmdResult (w : Word) (b : Nat) :
    (Dev.evtBit Off.hifEvt b ({ d with hif := { d.hif with evtRing := w } })).hif.cmdResult = d.hif.cmdResult := by
  unfold Dev.evtBit; rw [Dev.evt_cmdResult]
@[simp] theorem Dev.hifEvent_cmdResult (s n b : Nat) : (d.hifEvent s n b).hif.cmdResult = d.hif.cmdResult := Dev.evtRing_cmdResult d _ b
@[simp] theorem Dev.record_cmdResult (c : Ctx) (t : Nat) (p : Bytes) : (d.record c t p).hif.cmdResult = d.hif.cmdResult := by
  simp only [Dev.record]; (repeat' split) <;> simp
@[simp] theorem Dev.violation_cmdResult (c : Ctx) (k m r e a : Nat) : (d.violation c k m r e a).hif.cmdResult = d.hif.cmdResult := by
  simp only [Dev.violation]; split <;> simp
@[simp] theorem Dev.ruleViolation_cmdResult (c : Ctx) (off : Nat) : (d.ruleViolation c off).hif.cmdResult = d.hif.cmdResult := by
  unfold Dev.ruleViolation; rw [Dev.violation_cmdResult]
@[simp] theorem Dev.evidenceAt_cmdResult (st : DWord) (r : Bool) (t : Nat) (p : Bytes) : (d.evidenceAt st r t p).hif.cmdResult = d.hif.cmdResult := by
  unfold Dev.evidenceAt; split <;> simp
@[simp] theorem Dev.evidence_cmdResult (c : Ctx) (t : Nat) (p : Bytes) : (d.evidence c t p).hif.cmdResult = d.hif.cmdResult := by
  unfold Dev.evidence; rw [Dev.evidenceAt_cmdResult]
@[simp] theorem Dev.raiseVec_cmdGen (v : Nat) : (d.raiseVec v).hif.cmdGen = d.hif.cmdGen := by
  unfold Dev.raiseVec; dsimp only; split <;> rfl
@[simp] theorem Dev.evt_cmdGen (off : Nat) (b : Word) : (d.evt off b).hif.cmdGen = d.hif.cmdGen := by
  unfold Dev.evt; dsimp only; split
  · rfl
  · split <;> simp
@[simp] theorem Dev.evtBit_cmdGen (off i : Nat) : (d.evtBit off i).hif.cmdGen = d.hif.cmdGen := by simp [Dev.evtBit]
theorem Dev.evtRing_cmdGen (w : Word) (b : Nat) :
    (Dev.evtBit Off.hifEvt b ({ d with hif := { d.hif with evtRing := w } })).hif.cmdGen = d.hif.cmdGen := by
  unfold Dev.evtBit; rw [Dev.evt_cmdGen]
@[simp] theorem Dev.hifEvent_cmdGen (s n b : Nat) : (d.hifEvent s n b).hif.cmdGen = d.hif.cmdGen := Dev.evtRing_cmdGen d _ b
@[simp] theorem Dev.record_cmdGen (c : Ctx) (t : Nat) (p : Bytes) : (d.record c t p).hif.cmdGen = d.hif.cmdGen := by
  simp only [Dev.record]; (repeat' split) <;> simp
@[simp] theorem Dev.violation_cmdGen (c : Ctx) (k m r e a : Nat) : (d.violation c k m r e a).hif.cmdGen = d.hif.cmdGen := by
  simp only [Dev.violation]; split <;> simp
@[simp] theorem Dev.ruleViolation_cmdGen (c : Ctx) (off : Nat) : (d.ruleViolation c off).hif.cmdGen = d.hif.cmdGen := by
  unfold Dev.ruleViolation; rw [Dev.violation_cmdGen]
@[simp] theorem Dev.evidenceAt_cmdGen (st : DWord) (r : Bool) (t : Nat) (p : Bytes) : (d.evidenceAt st r t p).hif.cmdGen = d.hif.cmdGen := by
  unfold Dev.evidenceAt; split <;> simp
@[simp] theorem Dev.evidence_cmdGen (c : Ctx) (t : Nat) (p : Bytes) : (d.evidence c t p).hif.cmdGen = d.hif.cmdGen := by
  unfold Dev.evidence; rw [Dev.evidenceAt_cmdGen]
@[simp] theorem Dev.raiseVec_cmdBusy (v : Nat) : (d.raiseVec v).hif.cmdBusy = d.hif.cmdBusy := by
  unfold Dev.raiseVec; dsimp only; split <;> rfl
@[simp] theorem Dev.evt_cmdBusy (off : Nat) (b : Word) : (d.evt off b).hif.cmdBusy = d.hif.cmdBusy := by
  unfold Dev.evt; dsimp only; split
  · rfl
  · split <;> simp
@[simp] theorem Dev.evtBit_cmdBusy (off i : Nat) : (d.evtBit off i).hif.cmdBusy = d.hif.cmdBusy := by simp [Dev.evtBit]
theorem Dev.evtRing_cmdBusy (w : Word) (b : Nat) :
    (Dev.evtBit Off.hifEvt b ({ d with hif := { d.hif with evtRing := w } })).hif.cmdBusy = d.hif.cmdBusy := by
  unfold Dev.evtBit; rw [Dev.evt_cmdBusy]
@[simp] theorem Dev.hifEvent_cmdBusy (s n b : Nat) : (d.hifEvent s n b).hif.cmdBusy = d.hif.cmdBusy := Dev.evtRing_cmdBusy d _ b
@[simp] theorem Dev.record_cmdBusy (c : Ctx) (t : Nat) (p : Bytes) : (d.record c t p).hif.cmdBusy = d.hif.cmdBusy := by
  simp only [Dev.record]; (repeat' split) <;> simp
@[simp] theorem Dev.violation_cmdBusy (c : Ctx) (k m r e a : Nat) : (d.violation c k m r e a).hif.cmdBusy = d.hif.cmdBusy := by
  simp only [Dev.violation]; split <;> simp
@[simp] theorem Dev.ruleViolation_cmdBusy (c : Ctx) (off : Nat) : (d.ruleViolation c off).hif.cmdBusy = d.hif.cmdBusy := by
  unfold Dev.ruleViolation; rw [Dev.violation_cmdBusy]
@[simp] theorem Dev.evidenceAt_cmdBusy (st : DWord) (r : Bool) (t : Nat) (p : Bytes) : (d.evidenceAt st r t p).hif.cmdBusy = d.hif.cmdBusy := by
  unfold Dev.evidenceAt; split <;> simp
@[simp] theorem Dev.evidence_cmdBusy (c : Ctx) (t : Nat) (p : Bytes) : (d.evidence c t p).hif.cmdBusy = d.hif.cmdBusy := by
  unfold Dev.evidence; rw [Dev.evidenceAt_cmdBusy]
@[simp] theorem Dev.raiseVec_barriers (v : Nat) : (d.raiseVec v).hif.barriers = d.hif.barriers := by
  unfold Dev.raiseVec; dsimp only; split <;> rfl
@[simp] theorem Dev.evt_barriers (off : Nat) (b : Word) : (d.evt off b).hif.barriers = d.hif.barriers := by
  unfold Dev.evt; dsimp only; split
  · rfl
  · split <;> simp
@[simp] theorem Dev.evtBit_barriers (off i : Nat) : (d.evtBit off i).hif.barriers = d.hif.barriers := by simp [Dev.evtBit]
theorem Dev.evtRing_barriers (w : Word) (b : Nat) :
    (Dev.evtBit Off.hifEvt b ({ d with hif := { d.hif with evtRing := w } })).hif.barriers = d.hif.barriers := by
  unfold Dev.evtBit; rw [Dev.evt_barriers]
@[simp] theorem Dev.hifEvent_barriers (s n b : Nat) : (d.hifEvent s n b).hif.barriers = d.hif.barriers := Dev.evtRing_barriers d _ b
@[simp] theorem Dev.record_barriers (c : Ctx) (t : Nat) (p : Bytes) : (d.record c t p).hif.barriers = d.hif.barriers := by
  simp only [Dev.record]; (repeat' split) <;> simp
@[simp] theorem Dev.violation_barriers (c : Ctx) (k m r e a : Nat) : (d.violation c k m r e a).hif.barriers = d.hif.barriers := by
  simp only [Dev.violation]; split <;> simp
@[simp] theorem Dev.ruleViolation_barriers (c : Ctx) (off : Nat) : (d.ruleViolation c off).hif.barriers = d.hif.barriers := by
  unfold Dev.ruleViolation; rw [Dev.violation_barriers]
@[simp] theorem Dev.evidenceAt_barriers (st : DWord) (r : Bool) (t : Nat) (p : Bytes) : (d.evidenceAt st r t p).hif.barriers = d.hif.barriers := by
  unfold Dev.evidenceAt; split <;> simp
@[simp] theorem Dev.evidence_barriers (c : Ctx) (t : Nat) (p : Bytes) : (d.evidence c t p).hif.barriers = d.hif.barriers := by
  unfold Dev.evidence; rw [Dev.evidenceAt_barriers]

/-- A ring is found in the list of rings alone. -/
theorem Dev.ring_congr {d e : Dev} (h : d.hif.rings = e.hif.rings) (s n : Nat) : d.ring s n = e.ring s n := by
  simp [Dev.ring, h]

theorem Dev.bump_reg_ne {a off : Nat} (h : a ≠ off) : (d.bump off).reg a = d.reg a := Dev.reg_setReg_ne _ _ h

/-- The recorder touches its own registers alone. -/
theorem Dev.record_reg_ne {a : Nat} (c : Ctx) (t : Nat) (p : Bytes) (h1 : a ≠ Off.ercLost) (h2 : a ≠ Off.ercEvt) :
    (d.record c t p).reg a = d.reg a := by
  have key : ∀ (x : Dev) (b : Bool), x.reg a = d.reg a → (Dev.evtBit Off.ercEvt 0 (if b = true then x.bump Off.ercLost else x)).reg a = d.reg a := by
    intro x b hx
    rw [Dev.evtBit_reg_ne _ _ h2]
    split
    · rw [Dev.bump_reg_ne _ h1, hx]
    · exact hx
  simp only [Dev.record]
  split
  · split
    · rfl
    · exact key _ _ rfl
  · exact key _ _ rfl

/-- A violation report touches the registers of the access rules and of the recorder alone. -/
theorem Dev.violation_reg_ne {a : Nat} (c : Ctx) (k m r e x : Nat) (h1 : a ≠ Off.ercLost) (h2 : a ≠ Off.ercEvt)
    (h3 : a ≠ Off.accViolMore) (h4 : a ≠ Off.accViolTotal) (h5 : a ≠ Off.accEvt) : (d.violation c k m r e x).reg a = d.reg a := by
  simp only [Dev.violation]
  rw [Dev.record_reg_ne _ _ _ _ h1 h2, Dev.bump_reg_ne _ h4]
  split
  · rw [Dev.bump_reg_ne _ h3]
  · rw [Dev.evtBit_reg_ne _ _ h5]; rfl

/-- An evidence cause touches the registers of the log alone. -/
theorem Dev.evidence_reg_ne {a : Nat} (c : Ctx) (t : Nat) (p : Bytes) (h1 : a ≠ Off.evlQueueLost) (h2 : a ≠ Off.evlEvt) :
    (d.evidence c t p).reg a = d.reg a := by
  unfold Dev.evidence Dev.evidenceAt
  split
  · rfl
  · dsimp only
    rw [Dev.evtBit_reg_ne _ _ h2, Dev.bump_reg_ne _ h1]; rfl

/-- An event of a ring is in HIF_EVT after it. -/
theorem Dev.hifEvent_bit (s n : Nat) {b : Nat} (hb : b < 32) : bit ((d.hifEvent s n b).reg Off.hifEvt) b = true := by
  unfold Dev.hifEvent; dsimp only; generalize packW _ = w
  rw [Dev.evtBit_reg]
  simp [bit, hb]
theorem Dev.hifEvent_reg_ne {a : Nat} (s n b : Nat) (h : a ≠ Off.hifEvt) : (d.hifEvent s n b).reg a = d.reg a := by
  unfold Dev.hifEvent; dsimp only; generalize packW _ = w
  rw [Dev.evtBit_reg_ne _ _ h]; simp [Dev.reg]

/-! ### The delay list -/

theorem tickDue_iff (now t : Nat) : tickDue now t = true ↔ t ≤ now / 1000 * 1000 := by
  unfold tickDue; rw [decide_eq_true_iff]; unfold tickOf ceilDiv; omega

/-- An entry of the delay list fires: it is the next that is due, and the tick has room. -/
theorem Dev.mayFire_iff (c : Ctx) (u : DelayUse) (n : Nat) (d : Dev) :
    d.mayFire c u n = true ↔ (∃ e, d.nextDue c = some e ∧ e.use = u ∧ e.n = n) ∧ d.fireRoom c = true := by
  unfold Dev.mayFire; cases d.nextDue c <;> simp

@[simp] theorem Dev.delayFire_regs (c : Ctx) (t : Nat) (d : Dev) : (d.delayFire c t).regs = d.regs := rfl
@[simp] theorem Dev.delayFire_jnl (c : Ctx) (t : Nat) (d : Dev) : (d.delayFire c t).jnl = d.jnl := rfl
@[simp] theorem Dev.delayFire_hif (c : Ctx) (t : Nat) (d : Dev) : (d.delayFire c t).hif = d.hif := rfl
@[simp] theorem Dev.delayFire_items (c : Ctx) (t : Nat) (d : Dev) : (d.delayFire c t).dsp.items = d.dsp.items := rfl
@[simp] theorem Dev.delayFire_tx (c : Ctx) (t : Nat) (d : Dev) : (d.delayFire c t).tx = d.tx := rfl

/-! ### The time state -/

/-- A change of the time state changes it, and nothing else of the time base (R33). -/
@[simp] theorem Dev.toTimeState_tim (st : TimeState) : (d.toTimeState st).tim = { d.tim with state := st } := by
  unfold Dev.toTimeState; split
  · next h => subst h; rfl
  · simp

/-- What a jump leaves: no correction, STEP_DONE set, and the value for ST (R35 to R37). -/
theorem Dev.jumpTo_spec (c : Ctx) (src v : Nat) :
    (d.jumpTo c src v).2 = some v ∧ (d.jumpTo c src v).1.tim.slewRem = 0 ∧ bit ((d.jumpTo c src v).1.reg Off.timEvt) 3 = true
      ∧ (d.jumpTo c src v).1.tim.token = d.tim.token ∧ (d.tim.state ≠ .unset → (d.jumpTo c src v).1.tim.state = d.tim.state)
      ∧ (d.tim.state = .unset → (d.jumpTo c src v).1.tim.state = .acquiring) := by
  simp only [Dev.jumpTo]
  refine ⟨trivial, ?_, by simp [bit], ?_, fun h => ?_, fun h => ?_⟩ <;> (try split) <;> simp_all [Dev.enterAcquiring, Dev.shiftTimes]

/-! ### Messages and the mirror (R412, R437) -/

@[simp] theorem Dev.originate_pair (p : Option Nat) (n k : Nat) (s : Option Session) (b : Bytes) : (d.originate p n k s b).fab.pair = d.fab.pair := by
  simp only [Dev.originate]; (repeat' split) <;> simp [Dev.nextFlood]
@[simp] theorem Dev.sendSealed_pair (p : Option Nat) (n k : Nat) (b : Bytes) : (d.sendSealed p n k b).fab.pair = d.fab.pair := by
  unfold Dev.sendSealed; refine foldl_keep (fun x : Dev => x.fab.pair) _ ?_ _ _; intro a x; cases a.session? n <;> simp
@[simp] theorem Dev.sendPeer_pair (n k m : Nat) (p : Bytes) : (d.sendPeer n k m p).fab.pair = d.fab.pair := by
  simp only [Dev.sendPeer]; (repeat' split) <;> simp

/-- A message leaves alone everything but the fabric's own state and what is sent. -/
structure Dev.Sends (d e : Dev) : Prop where
  regs : e.regs = d.regs
  hif  : e.hif = d.hif
  jnl  : e.jnl = d.jnl
  dsp  : e.dsp = d.dsp
  key  : e.key = d.key
  sl   : e.slices = d.slices
  pair : e.fab.pair = d.fab.pair

theorem Dev.sendRing_sends (s n : Nat) : d.Sends (d.mirroring (Dev.sendRing s n)) := by
  constructor <;> (unfold Dev.mirroring Dev.sendRing Dev.mirrorSend; split <;> simp)
theorem Dev.sendSlice_sends (n : Nat) : d.Sends (d.mirroring (Dev.sendSlice n)) := by
  constructor <;> (unfold Dev.mirroring Dev.sendSlice Dev.mirrorSend; split <;> simp)
theorem Dev.sendSlot_sends (a n : Nat) : d.Sends (d.mirroring (Dev.sendSlot a n)) := by
  constructor <;> (unfold Dev.mirroring Dev.sendSlot Dev.mirrorSend; split <;> simp)
theorem Dev.sendDomain_sends (n : Nat) : d.Sends (d.mirroring (Dev.sendDomain n)) := by
  constructor <;> (unfold Dev.mirroring Dev.sendDomain Dev.mirrorSend; split <;> simp)

theorem Dev.Sends.sync {d e : Dev} (h : d.Sends e) : e.syncMirror = d.syncMirror := by
  simp [Dev.syncMirror, Dev.pairMode, Dev.reg, h.pair, h.jnl, h.regs]

/-- The doorbell pages are not registers that firmware serves. -/
@[simp] theorem fwServed_bar2 (x : Nat) : fwServed (bar2 x) = false := by
  have h : ∀ o, o < 0x04000000 → (bar2 x == o) = false := fun o ho => by simp only [bar2, beq_eq_false_iff_ne, ne_eq]; omega
  simp only [fwServed, h Off.pwrGovCtrl (by decide), h Off.pwrPowerCap (by decide), h Off.fabDiscCtrl (by decide), Bool.or_self]

/-! ### Ring commands (R74, R90, R437) -/

/-- How a ring command ends: its result and the ring's generation; no ring changes; the event follows, with an acknowledgement
to wait for only later. -/
theorem Dev.ringCmdEnd_spec (c : Ctx) (s n res : Nat) :
    (d.ringCmdEnd c s n res).hif.rings = d.hif.rings ∧ (d.ringCmdEnd c s n res).hif.cmdResult = res
      ∧ (d.ringCmdEnd c s n res).hif.cmdGen = (d.ring s n).gen ∧ (d.ringCmdEnd c s n res).hif.cmdBusy = none
      ∧ (d.syncMirror = false ∨ res ≠ 0 → bit ((d.ringCmdEnd c s n res).reg Off.hifEvt) 4 = true) := by
  unfold Dev.ringCmdEnd
  dsimp only
  generalize hD : ({ d with hif := { d.hif with cmdBusy := none, cmdResult := res, cmdGen := (d.ring s n).gen } } : Dev) = D
  have h0 : D.hif.rings = d.hif.rings ∧ D.hif.cmdResult = res ∧ D.hif.cmdGen = (d.ring s n).gen ∧ D.hif.cmdBusy = none ∧ D.syncMirror = d.syncMirror := by
    subst hD; exact ⟨rfl, rfl, rfl, rfl, rfl⟩
  split
  · have hs := D.sendRing_sends s n
    unfold Dev.ringChanged Dev.awaitAck
    split
    · next h =>
      rw [hs.sync, h0.2.2.2.2] at h
      refine ⟨?_, ?_, ?_, ?_, fun h2 => ?_⟩
      · show (Dev.mirroring _ D).hif.rings = _; rw [hs.hif]; exact h0.1
      · show (Dev.mirroring _ D).hif.cmdResult = _; rw [hs.hif]; exact h0.2.1
      · show (Dev.mirroring _ D).hif.cmdGen = _; rw [hs.hif]; exact h0.2.2.1
      · show (Dev.mirroring _ D).hif.cmdBusy = _; rw [hs.hif]; exact h0.2.2.2.1
      · rcases h2 with h2 | h2
        · rw [h2] at h; cases h
        · contradiction
    · unfold Dev.changeDone
      dsimp only
      rw [Dev.hifEvent_rings, Dev.hifEvent_cmdResult, Dev.hifEvent_cmdGen, Dev.hifEvent_cmdBusy, hs.hif]
      exact ⟨h0.1, h0.2.1, h0.2.2.1, h0.2.2.2.1, fun _ => Dev.hifEvent_bit _ _ _ (by decide)⟩
  · rw [Dev.hifEvent_rings, Dev.hifEvent_cmdResult, Dev.hifEvent_cmdGen, Dev.hifEvent_cmdBusy]
    exact ⟨h0.1, h0.2.1, h0.2.2.1, h0.2.2.2.1, fun _ => Dev.hifEvent_bit _ _ _ (by decide)⟩

end Sys2Proof.Machine
end

