-- ==== Sys2Proof/Laws/Owed.lean ====
section
/-! SUPPORT. What the operation that takes a record to OWED can do (R98, R138, R152): the record of its own slot is completed
with the status given, every other slot keeps its record and its items, but for items of the same flow that were marked. -/

namespace Sys2Proof.Machine

variable {d e : Dev}

/-- What has the smallest measure is one of the list. -/
theorem minBy_mem {α : Type} (m : α → Nat) : ∀ (l : List α) {a : α}, minBy m l = some a → a ∈ l
  | [], _, h => by cases h
  | x :: t, a, h => by
    unfold minBy at h
    split at h
    · cases h; simp
    · next b hb =>
      have := minBy_mem m t hb
      split at h <;> cases h <;> simp [this]

/-- The items of a slot. -/
def Dev.slotItems (d : Dev) (k : Nat) : List Item := d.dsp.items.filter (fun i => i.slot == k)

theorem Dev.item_slotItems (d : Dev) (k : Nat) : d.item? k = (d.slotItems k).head? := by
  simp [Dev.item?, Dev.slotItems, List.head?_filter]

/-! ### Rings and barriers stand -/

theorem Dev.retire_hif (j : Nat) (d : Dev) : (d.retire j).hif = d.hif := by unfold Dev.retire; split <;> rfl
theorem Dev.unbind_hif (c : Ctx) (j : Nat) (d : Dev) : (d.unbind c j).hif = d.hif := by unfold Dev.unbind; dsimp only; split <;> rfl
theorem Dev.flowPrune_hif (f : Option (Nat × Nat)) (d : Dev) : (d.flowPrune f).hif = d.hif := by unfold Dev.flowPrune; split <;> [rfl; (split <;> rfl)]
theorem Dev.mirrorRec_hif (j : Nat) (d : Dev) : (d.mirrorRec j).hif = d.hif := by unfold Dev.mirrorRec; split <;> simp
theorem Dev.countStatus_rings (st sub : Nat) (d : Dev) : (d.countStatus st sub).hif.rings = d.hif.rings := by
  unfold Dev.countStatus; (repeat' split) <;> simp
theorem Dev.countStatus_barriers (st sub : Nat) (d : Dev) : (d.countStatus st sub).hif.barriers = d.hif.barriers := by
  unfold Dev.countStatus; (repeat' split) <;> simp
theorem Dev.discardEntry_hif (j : Nat) (d : Dev) : (d.discardEntry j).hif = d.hif := by
  simp [Dev.discardEntry, Dev.mirrorRec_hif, Dev.retire_hif]
theorem Dev.oweOne_rings (c : Ctx) (j st sub n : Nat) (d : Dev) : (d.oweOne c j st sub n).hif.rings = d.hif.rings := by
  unfold Dev.oweOne
  dsimp only
  (repeat' split) <;> simp [Dev.spillAnswer, Dev.unbind_hif, Dev.discardEntry_hif, Dev.owe, Dev.mirrorRec_hif, Dev.countStatus_rings, Dev.flowPrune_hif]
theorem Dev.oweOne_barriers (c : Ctx) (j st sub n : Nat) (d : Dev) : (d.oweOne c j st sub n).hif.barriers = d.hif.barriers := by
  unfold Dev.oweOne
  dsimp only
  (repeat' split) <;> simp [Dev.spillAnswer, Dev.unbind_hif, Dev.discardEntry_hif, Dev.owe, Dev.mirrorRec_hif, Dev.countStatus_barriers, Dev.flowPrune_hif]
/-- Taking a record to OWED changes no ring and no barrier. -/
theorem Dev.cascade_rings (c : Ctx) : ∀ (n : Nat) (d : Dev), (d.cascade c n).hif.rings = d.hif.rings
  | 0, _ => rfl
  | n + 1, d => by
    unfold Dev.cascade
    (repeat' split) <;> first | rfl | rw [Dev.cascade_rings c n, Dev.oweOne_rings]
theorem Dev.cascade_barriers (c : Ctx) : ∀ (n : Nat) (d : Dev), (d.cascade c n).hif.barriers = d.hif.barriers
  | 0, _ => rfl
  | n + 1, d => by
    unfold Dev.cascade
    (repeat' split) <;> first | rfl | rw [Dev.cascade_barriers c n, Dev.oweOne_barriers]
@[simp] theorem Dev.toOwed_rings (c : Ctx) (j st sub n : Nat) (d : Dev) : (d.toOwed c j st sub n).hif.rings = d.hif.rings := by
  unfold Dev.toOwed; rw [Dev.cascade_rings, Dev.oweOne_rings]
@[simp] theorem Dev.toOwed_barriers (c : Ctx) (j st sub n : Nat) (d : Dev) : (d.toOwed c j st sub n).hif.barriers = d.hif.barriers := by
  unfold Dev.toOwed; rw [Dev.cascade_barriers, Dev.oweOne_barriers]

/-- Everything that a slot has: its record and its items. -/
structure Dev.SameSlot (k : Nat) (d e : Dev) : Prop where
  record : e.rec? k = d.rec? k
  items  : e.slotItems k = d.slotItems k

theorem Dev.SameSlot.refl (k : Nat) (d : Dev) : Dev.SameSlot k d d := ⟨rfl, rfl⟩
theorem Dev.SameSlot.trans {k : Nat} {a b c : Dev} (h : Dev.SameSlot k a b) (g : Dev.SameSlot k b c) : Dev.SameSlot k a c :=
  ⟨g.record.trans h.record, g.items.trans h.items⟩
/-- A change of neither table keeps every slot. -/
theorem Dev.SameSlot.of_eq (k : Nat) (h1 : e.jnl.recs = d.jnl.recs) (h2 : e.dsp.items = d.dsp.items) : Dev.SameSlot k d e :=
  ⟨by simp [Dev.rec?, h1], by simp [Dev.slotItems, h2]⟩

/-- A change of records and items of one slot leaves the others. -/
theorem Dev.SameSlot.changed {k j : Nat} (h : k ≠ j) {f : Rec → Rec} {g : Item → Item}
    (h1 : e.jnl.recs = updWhere (fun r => r.slot == j) f d.jnl.recs) (h2 : e.dsp.items = updWhere (fun i => i.slot == j) g d.dsp.items)
    (hf : ∀ x : Rec, (f x).slot = x.slot) (hg : ∀ x : Item, (g x).slot = x.slot) : Dev.SameSlot k d e := by
  refine ⟨?_, ?_⟩
  · simp only [Dev.rec?, h1]
    exact find_updWhere_other _ _ f (fun x hx => by simp at hx ⊢; omega) (fun x hx => by simp at hx ⊢; have := hf x; omega) _
  · simp only [Dev.slotItems, h2, updWhere]
    induction d.dsp.items with
    | nil => rfl
    | cons a t ih =>
      simp only [List.map_cons, List.filter_cons, ih]
      by_cases hj : a.slot = j
      · simp [hj, hg a, Ne.symm h]
      · simp [hj]
theorem Dev.SameSlot.dropItems {k j : Nat} (h : k ≠ j) (e : Dev) (h1 : e.jnl.recs = d.jnl.recs)
    (h2 : e.dsp.items = d.dsp.items.filter (fun i => i.slot != j)) : Dev.SameSlot k d e :=
  ⟨by simp [Dev.rec?, h1], by
    simp only [Dev.slotItems, h2, List.filter_filter]
    exact List.filter_congr (fun x _ => by by_cases hx : x.slot = k <;> simp [hx, h])⟩

theorem Dev.mirrorRec_jnl (slot : Nat) (d : Dev) : (d.mirrorRec slot).jnl = d.jnl := by
  unfold Dev.mirrorRec; split <;> simp
theorem Dev.mirrorRec_dsp (slot : Nat) (d : Dev) : (d.mirrorRec slot).dsp = d.dsp := by
  unfold Dev.mirrorRec; split <;> simp
theorem Dev.unbind_jnl (c : Ctx) (slot : Nat) (d : Dev) : (d.unbind c slot).jnl = d.jnl := by
  unfold Dev.unbind; dsimp only; split <;> rfl
theorem Dev.unbind_items (c : Ctx) (slot : Nat) (d : Dev) : (d.unbind c slot).dsp.items = d.dsp.items := by
  unfold Dev.unbind; dsimp only; split <;> rfl
theorem Dev.countStatus_jnl (st sub : Nat) (d : Dev) : (d.countStatus st sub).jnl = d.jnl := by
  unfold Dev.countStatus; (repeat' split) <;> simp
theorem Dev.countStatus_dsp (st sub : Nat) (d : Dev) : (d.countStatus st sub).dsp = d.dsp := by
  unfold Dev.countStatus; (repeat' split) <;> simp
theorem Dev.flowPrune_jnl (f : Option (Nat × Nat)) (d : Dev) : (d.flowPrune f).jnl = d.jnl := by
  unfold Dev.flowPrune; split <;> [rfl; (split <;> rfl)]
theorem Dev.flowPrune_items (f : Option (Nat × Nat)) (d : Dev) : (d.flowPrune f).dsp.items = d.dsp.items := by
  unfold Dev.flowPrune; split <;> [rfl; (split <;> rfl)]

/-- A slot let go: other slots stand. -/
theorem Dev.retire_other {k j : Nat} (h : k ≠ j) (d : Dev) : Dev.SameSlot k d (d.retire j) := by
  unfold Dev.retire
  split
  · exact .refl _ _
  · exact .dropItems h _ rfl rfl
theorem Dev.discardEntry_other {k j : Nat} (h : k ≠ j) (d : Dev) : Dev.SameSlot k d (d.discardEntry j) := by
  unfold Dev.discardEntry
  refine ((Dev.SameSlot.changed h (e := d.updRec j (fun x : Rec => { x with st := .complete })) (g := id) rfl (by simp [updWhere]) (fun _ => rfl)
    (fun _ => rfl)).trans (Dev.retire_other h _)).trans (.of_eq _ ?_ ?_)
  · rw [Dev.mirrorRec_jnl]
  · rw [Dev.mirrorRec_dsp]

/-- What going to OWED does to the records. -/
theorem Dev.owe_recs (c : Ctx) (j : Nat) (r : Rec) (st sub n : Nat) (d : Dev) :
    (d.owe c j r st sub n).jnl.recs = updWhere (fun x => x.slot == j) (fun x =>
      { x with st := .owed, status := st, sub := sub, backlog := decide (1 ≤ d.dsp.reef),
               late := decide (((d.item? j).elim r.deadline (fun i => i.deadline)) < c.now), resLen := n, cst := d.stamp c }) d.jnl.recs := by
  unfold Dev.owe
  dsimp only
  rw [Dev.mirrorRec_jnl, Dev.countStatus_jnl, Dev.flowPrune_jnl]
  simp only [Dev.updItem, Dev.updDdt, Dev.updRec, Dev.unbind_jnl]
/-- What it does to the items. -/
theorem Dev.owe_items (c : Ctx) (j : Nat) (r : Rec) (st sub n : Nat) (d : Dev) :
    (d.owe c j r st sub n).dsp.items = updWhere (fun x => x.slot == j) Item.finish d.dsp.items := by
  unfold Dev.owe
  dsimp only
  rw [Dev.mirrorRec_dsp, Dev.countStatus_dsp, Dev.flowPrune_items]
  simp only [Dev.updItem, Dev.updDdt, Dev.updRec, Dev.unbind_items]
theorem Dev.owe_other {k j : Nat} (h : k ≠ j) (c : Ctx) (r : Rec) (st sub n : Nat) (d : Dev) : Dev.SameSlot k d (d.owe c j r st sub n) :=
  .changed h (Dev.owe_recs ..) (Dev.owe_items ..) (fun _ => rfl) (fun _ => rfl)

/-- Completing a slot leaves the record and the items of every other slot. -/
theorem Dev.oweOne_other {k j : Nat} (h : k ≠ j) (c : Ctx) (st sub n : Nat) (d : Dev) : Dev.SameSlot k d (d.oweOne c j st sub n) := by
  unfold Dev.oweOne
  dsimp only
  split
  · next i p hp =>
    have hs : i.slot = j := by
      obtain ⟨i', h1, h2⟩ := Option.bind_eq_some_iff.mp hp
      obtain ⟨q, _, h3⟩ := Option.map_eq_some_iff.mp h2
      simp only [Prod.mk.injEq] at h3
      have := List.find?_some h1
      simp only [beq_iff_eq] at this
      rw [← h3.1]; exact this
    refine .dropItems h _ ?_ ?_
    · simp [Dev.spillAnswer, Dev.unbind_jnl]
    · simp [Dev.spillAnswer, Dev.unbind_items, hs]
  · split
    · exact .refl _ _
    · split
      · exact (Dev.owe_other h ..).trans (Dev.discardEntry_other h _)
      · exact Dev.owe_other h ..

/-- Every item of a slot is finished. -/
def Dev.SlotDone (d : Dev) (k : Nat) : Prop := ∀ i ∈ d.slotItems k, i.incomplete = false

theorem Dev.SameSlot.done {k : Nat} (h : Dev.SameSlot k d e) (g : d.SlotDone k) : e.SlotDone k := by
  unfold Dev.SlotDone; rw [h.items]; exact g
theorem Dev.SameSlot.ended {k st sub : Nat} (h : Dev.SameSlot k d e) (g : d.Ended k st sub) : e.Ended k st sub := by
  obtain ⟨x, h1, h2⟩ := g; exact ⟨x, by rw [h.record]; exact h1, h2⟩
theorem Dev.SameSlot.own {k : Nat} (h : Dev.SameSlot k d e) (g : d.OwnItem k) : e.OwnItem k := by
  intro i hi; rw [Dev.item_slotItems, h.items, ← Dev.item_slotItems] at hi; exact g i hi

theorem Dev.owe_done (c : Ctx) (j : Nat) (r : Rec) (st sub n : Nat) (d : Dev) : (d.owe c j r st sub n).SlotDone j := by
  intro i hi
  simp only [Dev.slotItems, Dev.owe_items, updWhere, List.mem_filter, List.mem_map] at hi
  obtain ⟨⟨a, _, rfl⟩, h⟩ := hi
  split at h <;> simp_all [Item.finish, Item.incomplete]
theorem Dev.owe_ended {j : Nat} {r : Rec} (h : d.rec? j = some r) (c : Ctx) (st sub n : Nat) : (d.owe c j r st sub n).Ended j st sub := by
  unfold Dev.Ended
  simp only [Dev.rec?, Dev.owe_recs]
  rw [find_updWhere _ _ (fun x hx => by simpa using hx)]
  simp only [Dev.rec?] at h
  rw [h]
  exact ⟨_, rfl, rfl, rfl, rfl⟩
theorem Dev.owe_own {j : Nat} (h : d.OwnItem j) (c : Ctx) (r : Rec) (st sub n : Nat) : (d.owe c j r st sub n).OwnItem j := by
  intro i hi
  simp only [Dev.item?, Dev.owe_items] at hi
  rw [find_updWhere _ _ (fun x hx => by simpa [Item.finish] using hx)] at hi
  obtain ⟨a, h1, rfl⟩ := Option.map_eq_some_iff.mp hi
  exact h a h1

theorem Dev.retire_recs (j : Nat) (d : Dev) : (d.retire j).jnl.recs = d.jnl.recs := by
  unfold Dev.retire; split <;> rfl
theorem Dev.retire_items {j : Nat} {i : Item} (d : Dev) (h : i ∈ (d.retire j).dsp.items) : i ∈ d.dsp.items := by
  unfold Dev.retire at h; split at h
  · exact h
  · exact List.mem_of_mem_filter h
/-- An entry discarded: its record keeps what it came to. -/
theorem Dev.discardEntry_ended {j st sub : Nat} (h : d.Ended j st sub) : (d.discardEntry j).Ended j st sub := by
  obtain ⟨x, h1, -, h3⟩ := h
  refine ⟨{ x with st := .complete }, ?_, rfl, h3⟩
  have := Dev.rec_updRec d (fun y : Rec => { y with st := .complete }) h1 (fun _ q => q)
  rw [← this]
  simp only [Dev.rec?, Dev.discardEntry, Dev.mirrorRec_jnl, Dev.retire_recs]
theorem Dev.discardEntry_done {j : Nat} (h : d.SlotDone j) : (d.discardEntry j).SlotDone j := by
  intro i hi
  simp only [Dev.slotItems, Dev.discardEntry, Dev.mirrorRec_dsp, List.mem_filter] at hi
  exact h i (List.mem_filter.mpr ⟨Dev.retire_items (d.updRec j _) hi.1, hi.2⟩)
theorem Dev.discardEntry_own {j : Nat} (h : d.OwnItem j) : (d.discardEntry j).OwnItem j := by
  intro i hi
  simp only [Dev.item?, Dev.discardEntry, Dev.mirrorRec_dsp] at hi
  unfold Dev.retire at hi
  split at hi
  · exact h i hi
  · have h1 := List.find?_some hi
    have h2 := List.mem_of_find?_eq_some hi
    simp at h1 h2
    omega

/-- Completing a slot of the part's own: its record has the status, its items are finished. -/
theorem Dev.oweOne_own {j : Nat} {r : Rec} (h : d.rec? j = some r) (ho : d.OwnItem j) (c : Ctx) (st sub n : Nat) :
    (d.oweOne c j st sub n).Ended j st sub ∧ (d.oweOne c j st sub n).SlotDone j ∧ (d.oweOne c j st sub n).OwnItem j := by
  have hb : (d.item? j).bind (fun i => i.spillFrom.map (fun p => (i, p))) = none := by
    cases hi : d.item? j with
    | none => rfl
    | some i => simp [ho i hi]
  unfold Dev.oweOne
  simp only [hb, h]
  split
  · exact ⟨Dev.discardEntry_ended (Dev.owe_ended h ..), Dev.discardEntry_done (Dev.owe_done c j r st sub n d), Dev.discardEntry_own (Dev.owe_own ho c r st sub n)⟩
  · exact ⟨Dev.owe_ended h .., Dev.owe_done c j r st sub n d, Dev.owe_own ho c r st sub n⟩

/-- The items that were marked behind: a slot whose items are all finished stands. -/
theorem Dev.cascade_done {k : Nat} (c : Ctx) : ∀ (n : Nat) (d : Dev), d.SlotDone k → Dev.SameSlot k d (d.cascade c n)
  | 0, d, _ => .refl _ _
  | n + 1, d, h => by
    unfold Dev.cascade
    split
    · exact .refl _ _
    · next i hi =>
      split
      · exact .refl _ _
      · have hm : i ∈ d.dsp.items ∧ i.incomplete = true := by
          have := minBy_mem _ _ hi
          simp at this
          exact ⟨this.1, this.2.1.1.2⟩
        have hk : k ≠ i.slot := by
          intro hk
          have := h i (List.mem_filter.mpr ⟨hm.1, by simp [hk]⟩)
          rw [hm.2] at this; cases this
        exact (Dev.oweOne_other hk ..).trans (Dev.cascade_done c n _ ((Dev.oweOne_other hk ..).done h))

/-- The record of a slot of the part's own that is taken to OWED is completed with the status given. -/
theorem Dev.toOwed_ended {j : Nat} (h : (d.rec? j).isSome = true) (ho : d.OwnItem j) (c : Ctx) (st sub n : Nat) :
    (d.toOwed c j st sub n).Ended j st sub := by
  obtain ⟨r, hr⟩ := Option.isSome_iff_exists.mp h
  have h1 := Dev.oweOne_own hr ho c st sub n
  exact (Dev.cascade_done c _ _ h1.2.1).ended h1.1

/-- A slot with a record, of the part's own. -/
def Dev.Owns (d : Dev) (k : Nat) : Prop := (d.rec? k).isSome = true ∧ d.OwnItem k
/-- A slot whose record is completed and whose items are finished. -/
def Dev.Closed (d : Dev) (k st sub : Nat) : Prop := d.Ended k st sub ∧ d.SlotDone k ∧ d.OwnItem k

theorem Dev.SameSlot.owns {k : Nat} (h : Dev.SameSlot k d e) (g : d.Owns k) : e.Owns k := ⟨by rw [h.record]; exact g.1, h.own g.2⟩
theorem Dev.Closed.owns {k st sub : Nat} (h : d.Closed k st sub) : d.Owns k := by
  obtain ⟨⟨x, h1, -⟩, -, h3⟩ := h
  exact ⟨by rw [h1]; rfl, h3⟩
theorem Dev.oweOne_closed {j : Nat} (h : d.Owns j) (c : Ctx) (st sub n : Nat) : (d.oweOne c j st sub n).Closed j st sub := by
  obtain ⟨r, hr⟩ := Option.isSome_iff_exists.mp h.1
  exact Dev.oweOne_own hr h.2 c st sub n
theorem Dev.oweOne_owns {k : Nat} (h : d.Owns k) (c : Ctx) (j st sub n : Nat) : (d.oweOne c j st sub n).Owns k := by
  by_cases hk : k = j
  · subst hk; exact (Dev.oweOne_closed h c st sub n).owns
  · exact (Dev.oweOne_other hk ..).owns h
theorem Dev.cascade_owns {k : Nat} (c : Ctx) : ∀ (n : Nat) (d : Dev), d.Owns k → (d.cascade c n).Owns k
  | 0, _, h => h
  | n + 1, d, h => by
    unfold Dev.cascade
    split
    · exact h
    · split
      · exact h
      · exact Dev.cascade_owns c n _ (Dev.oweOne_owns h ..)
theorem Dev.toOwed_owns {k : Nat} (h : d.Owns k) (c : Ctx) (j st sub n : Nat) : (d.toOwed c j st sub n).Owns k :=
  Dev.cascade_owns c _ _ (Dev.oweOne_owns h ..)
theorem Dev.toOwed_closed {j : Nat} (h : d.Owns j) (c : Ctx) (st sub n : Nat) : (d.toOwed c j st sub n).Closed j st sub := by
  have h1 := Dev.oweOne_closed h c st sub n
  have h2 := Dev.cascade_done c d.dsp.items.length _ h1.2.1
  exact ⟨h2.ended h1.1, h2.done h1.2.1, h2.own h1.2.2⟩
theorem Dev.toOwed_keeps {k st sub : Nat} (h : d.Closed k st sub) {j : Nat} (hk : k ≠ j) (c : Ctx) (st' sub' n : Nat) :
    (d.toOwed c j st' sub' n).Closed k st sub := by
  have h1 := Dev.oweOne_other hk c st' sub' n d
  have h2 := Dev.cascade_done c d.dsp.items.length _ (h1.done h.2.1)
  have h3 := h1.trans h2
  exact ⟨h3.ended h.1, h3.done h.2.1, h3.own h.2.2⟩

/-- A list of slots taken to OWED with one status: every record of the list that is the part's own is completed with it. -/
theorem Dev.toOwed_fold (c : Ctx) (st sub n : Nat) : ∀ (l : List Nat) (d : Dev) (k : Nat),
    (k ∈ l → d.Owns k → (l.foldl (fun (a : Dev) k => a.toOwed c k st sub n) d).Closed k st sub) ∧
    (d.Closed k st sub → (l.foldl (fun (a : Dev) k => a.toOwed c k st sub n) d).Closed k st sub)
  | [], _, _ => ⟨by simp, fun h => h⟩
  | j :: t, d, k => by
    have ih := Dev.toOwed_fold c st sub n t (d.toOwed c j st sub n) k
    have hj : d.Owns k → k = j → (d.toOwed c j st sub n).Closed k st sub := fun h e => by subst e; exact Dev.toOwed_closed h c st sub n
    refine ⟨fun hk ho => ?_, fun hk => ?_⟩
    · rcases List.mem_cons.mp hk with e | hk
      · exact ih.2 (hj ho e)
      · exact ih.1 hk (Dev.toOwed_owns ho ..)
    · by_cases e : k = j
      · exact ih.2 (hj hk.owns e)
      · exact ih.2 (Dev.toOwed_keeps hk e ..)

/-- An item that finishes without execution and that nothing of its flow holds: its record has the status. -/
theorem Dev.finishNow_ended {j : Nat} {i : Item} (hi : d.item? j = some i) (hf : i.ds ≠ .finished) (hh : d.flowHeld i = false)
    (h : d.Owns j) (c : Ctx) (st sub : Nat) : (d.finishNow c j st sub).Ended j st sub := by
  unfold Dev.finishNow
  simp only [hi, hf, hh, if_false, Bool.false_eq_true]
  exact (Dev.toOwed_closed h c st sub 0).1

end Sys2Proof.Machine
end

