-- ==== Sys2Proof/Laws/Lanes.lean ====
section
/-! SUPPORT. What the release comparator can find (R242, R243): complemented values oppose each other exactly where they are
the complements of one value. -/

namespace Sys2Proof.Machine

theorem opposed_iff : ∀ a b : Bytes, opposed (deliver false a) (deliver true b) = decide (a = b)
  | [], [] => rfl
  | [], _ :: _ => by simp [opposed, deliver, compl]
  | _ :: _, [] => by simp [opposed, deliver, compl]
  | x :: a, y :: b => by
    have ih := opposed_iff a b
    simp only [opposed, deliver, compl, bxor, if_true, Bool.false_eq_true, if_false, List.length_map, List.length_cons, List.map_cons, List.zipWith_cons_cons,
      List.all_cons] at ih ⊢
    have hx : (x ^^^ ~~~y == 0xFF#8) = decide (x = y) := by
      rw [Bool.eq_iff_iff]
      simp only [beq_iff_eq, decide_eq_true_eq]
      constructor
      · intro h
        have h2 : x ^^^ y = 0#8 := by
          have : x ^^^ y = ~~~(x ^^^ ~~~y) := by ext i; simp
          rw [this, h]; rfl
        have : x = (x ^^^ y) ^^^ y := by rw [BitVec.xor_assoc, BitVec.xor_self, BitVec.xor_zero]
        rw [this, h2, BitVec.zero_xor]
      · rintro rfl
        ext i
        simp
        revert i; decide
    have hl : (a.length + 1 == b.length + 1) = (a.length == b.length) := by
      rw [Bool.eq_iff_iff]; simp
    have hx' : (x ^^^ ~~~y == 0xFF) = decide (x = y) := hx
    rw [hl, hx']
    rw [Bool.and_left_comm, ih]
    rw [Bool.eq_iff_iff]
    simp

/-- The comparator's finding for two lanes: each kind by the first value that differs, as R243's table lists them. -/
theorem compareKind_present (level level' : Nat) (desc : Bytes) (r r' : VRes) (e e' : LaneEnd) :
    compareKind (present false level desc r e) (present true level' desc r' e') =
      if flipBits e.out r.out ≠ flipBits e'.out r'.out ∨ flipBits e.sap (r.sap.elim [] (fun s => s.2)) ≠ flipBits e'.sap (r'.sap.elim [] (fun s => s.2)) then some .data
      else if flipBits e.stat (toLe 4 r.out.length ++ [BitVec.ofNat 8 r.st, BitVec.ofNat 8 r.sub])
          ≠ flipBits e'.stat (toLe 4 r'.out.length ++ [BitVec.ofNat 8 r'.st, BitVec.ofNat 8 r'.sub]) then some .status
      else if flipBits e.sig (toLe 8 (Config.seqSig level desc).toNat) ≠ flipBits e'.sig (toLe 8 (Config.seqSig level' desc).toNat) then some .signature
      else if e'.clk + 64 < e.clk ∨ e.clk + 64 < e'.clk then some .skew
      else none := by
  unfold compareKind present
  simp only [opposed_iff]
  simp

end Sys2Proof.Machine
end

