-- ==== Sys2Proof/Tests/Slice0.lean ====
section
/-! SUPPORT. Small tests, each of one command on a small state, and for each statement with hypotheses a state that
meets them all. Expected values are from the spec's words. -/

namespace Sys2Proof.Tests

open Sys2Proof Sys2Proof.Machine

/-- A part that has started: stage 9, main power, one region that covers the registers and lets everyone in. -/
def readyDev : Dev :=
  { pwr := { stage := 9, powered := true }, acc := { committed := [{ baseLo := 0, baseHi := 0, cfg := 0x00001B01#32, perm := 0xFFFFFFFF#32 }] } }
/-- That part, from a change of it, at an ST. -/
def at_ (st : Nat) (f : Dev → Dev) : State := { State.reset with st := BitVec.ofNat 64 st, dev := f readyDev }


/-! ### Well-formedness: an ill-formed command for each check -/
def noTests (u : ClrUnit) : Instr := .clearingTestsDone u { aes := 0, tdes := 0, digest := 0, cmp := 0, ctx := 0, release := 0 } { mgen := false, cache := false, sram := false }
  { engAlg := false, engCheck := false, engRead := false } 0
theorem test_wf_access : [Instr.registerWrite 1 0 32 0, .registerWrite 0 0 12 0, .readLoLatch 0 0, .ringSettingsWrite 2 0, .ddtReinit 1 0, .sliceCfgWrite 3 0].all (fun i => !i.wf) = true := by decide
theorem test_wf_debug : (Instr.debugAccess false 0 (zeros 4097) none).wf = false := by
  have h : (zeros 4097).length = 4097 := List.length_replicate
  have e : ∀ l : Bytes, (Instr.debugAccess false 0 l none).wf = (decide (l.length ≤ 4096) && true) := fun _ => rfl
  rw [e, h, Bool.and_true]
  exact decide_eq_false (by omega)
theorem test_wf_debug_core : (Instr.debugAccess false 0 [] (some (2, true))).wf = false := by decide
theorem test_wf_rings : [Instr.ringStatusRead 4096 0 true, .ringStatusRead 0 16 true, .sqDoorbell 4096 0 64 true 0, .sqDoorbell 0 16 64 true 0, .sqDoorbell 0 0 63 true 0, .cqDoorbell 4096 0 64 true 0, .cqDoorbell 0 16 64 true 0,
    .cqDoorbell 0 0 63 true 0, .descriptorFetch 4096 0 {} {} {} {}, .descriptorFetch 0 16 {} {} {} {}, .acceptDescriptor 4096 0, .acceptDescriptor 0 16, .headWriteBack 4096 0 false, .headWriteBack 0 16 false,
    .completionPost 4096 0 false, .completionPost 0 16 false, .irqTimer 4096 0, .irqTimer 0 16, .flowStallRetry 4096 0, .flowStallRetry 0 16, .msixUnmask 2048].all (fun i => !i.wf) = true := by decide
theorem test_wf_units : [Instr.sliceBarrierResolve 4096 0, .sliceBarrierDissolve 4096 0, .mirrorAck (.record 32768), .mirrorAckTimeout (.record 32768), .twinDispatch 96 [], .twinDispatch 0 [2], .contextSaveDone 96, .releaseCompare 96 {} {} false, .skewTimeout 96,
    .maskSeedArrival 12, .maskGenExhausted 12, noTests (.twin 96), noTests (.grove 12), noTests (.engine 12), .twinClear 96, .groveClear 12, .pkeDispatch 12, .enginePhaseDone 12 .ok [] true,
    .abortReadbackDone 12 true, .keyLoadDone 12 0, .healthFailure 24 .repetition [true], .healthFailure 0 .repetition [], .drbgReseedTimer 13].all (fun i => !i.wf) = true := by decide
/-- A block takes 1,024 samples and a test pass 4,096 (R365, R367). -/
theorem test_wf_samples : [Instr.startupTestsPass [], .startupTestsPass (List.replicate 24 [true]), .blockConditioned 0 [], .rerunPass 0 [], .rawSourceReattach 0 []].all (fun i => !i.wf) = true := by decide
theorem test_wf_source (l : List Bool) : (Instr.blockConditioned 24 l).wf = false ∧ (Instr.rerunPass 24 l).wf = false ∧ (Instr.rawSourceReattach 24 l).wf = false := ⟨rfl, rfl, rfl⟩
theorem test_wf_fabric : [Instr.sliceDrainDone 4096, .saveDone 4096, .restoreDone 4096, .prepareExpiry 4096, .retainElapsed 4096, .portTrained 8, .portAuthDone 8 0 0 0 true, .portAuthDone 0 1024 0 0 true, .portAuthDone 0 0 8 0 true,
    .portDown 8, .portRetrainTimer 8, .authRetryTimer 8, .frameReceive 8 [], .discoveryReceive 8 [], .nodeAgeOut 1024, .routeAgeOut 1024 0, .routeAgeOut 0 6, .sessionSetup 1024 (zeros 97) true, .sessionSetup 0 [] true, .sessionRekey 1024 (zeros 97),
    .sessionRekey 0 [], .sessionBreak 1024, .replicateReceive { peer := 1024, domain := 0, kind := .copy }, .spillOfferReceive 1024 { credit := 0 },
    .spillItemReceive { peer := 1024, slot := 0, seq := 0, slice := 0, domain := 0, desc := [], input := [], remaining := 0 },
    .spillReturn 1024 0 { executed := false, status := 0, sub := 0 }, .spillCancelReceive 1024 0, .renewalReceive 8 0 0].all (fun i => !i.wf) = true := by decide
theorem test_wf_rest : [Instr.cardApproval 4 0 [] [], .cardApproval 0 2 [] [], .ceremonyWindowExpiry 4, .ceremonyOpenTimeout 4, .cardInsert 2, .cardAtrReceive 2 true, .cardAtrTimeout 2, .cardRemove 2, .alarmDetection (.volt 3 0 0), .alarmDetection (.glitch 3 0 0),
    .alarmDetection (.temps 1024 0), .batteryAlarm (.volt 3 0 0), .alarmSourceClear 0x15, .alarmSourceClear 0, .fuseProgram 4 0 0, .groveEnable 12, .groveDisable 12, .railReset 6 0, .mgmtDisagree 2, .mgmtPairResetDone 2, .ddrPatrolScrub 0 [128] 0].all (fun i => !i.wf) = true := by decide
theorem test_wf_good : [Instr.registerWrite 0 0x1234 32 0, .readLoLatch 3 8, .sqDoorbell 4095 15 64 true 0, .twinDispatch 95 [1], .alarmDetection (.temps 1023 0), .frameReceive 7 []].all Instr.wf = true := by decide

/-! ### The whole part -/
theorem test_idle : (match step { at_ 41 id with pending := [] } with | .next t => t.st | _ => 0) = 42 := by decide
theorem test_power_up_time : (match exec (.powerOnReset true) { at_ 41 (fun d => { d with tim := { d.tim with state := .locked } }) with pending := [] } with
    | .next t => (t.st, t.dev.tim.state) | _ => (1, .locked)) = (0, .unset) := by decide
theorem test_front : (match step { at_ 41 id with pending := [.jtagIdcode, .powerLoss] } with | .next t => (t.pending, t.st) | _ => ([], 0)) = ([.powerLoss], 41)
    ∧ ∀ c ∈ ({ at_ 41 id with pending := [.jtagIdcode, .powerLoss] } : State).pending.head?, c ≠ .powerLoss ∧ ∀ v, c ≠ .powerOnReset v := by
  refine ⟨by decide, ?_⟩; intro c h; simp at h; subst h; simp
theorem test_reset_st : State.reset.st = 0 ∧ State.reset.memOk = true := by decide
/-- FIELD to FIELD_RETURN: INTENT is done, and start-up is at stage 2. -/
def transState : State := { at_ 5 (fun d => { d with pwr := { d.pwr with stage := 2 }, cfg := { d.cfg with a := some { gen := 1, entries := [] } } }) with
  otp := { copyA := 0xFFFFFF, copyB := 0xFFFFFF, recs := [0x3F0FFF04#32, 0x308#32], words := [] } }
set_option maxRecDepth 20000 in
theorem test_fuse_witness : (match step { transState with pending := [.lifecycleDecode (some 9)] } with | .next t => (t.otp.copyA, t.otp.copyB, t.otp.recs) | _ => (0, 0, []))
    = (0xFFFFFFFF#40, 0xFFFFFF#40, [0x3F0FFF04#32, 0x30FFF08#32]) := by decide
theorem test_mem_witness : let s := { at_ 5 id with mem := [(0x08000000, 1), (0x20000000, 2)], pending := [.powerLoss] }
    s.memOk = true ∧ (match step s with | .next t => (t.mem, t.memOk) | _ => ([], false)) = ([(0x20000000, 2)], true) := by decide
theorem test_grove_mask : HostMay (at_ 5 id) true Off.dspGroveMask ∧ (match exec (.registerWrite 0 Off.dspGroveMask 32 0x1000) (at_ 5 id) with | .next t => bit t.dev.acc.viol 0 | _ => false) = true
    ∧ (match exec (.registerWrite 0 Off.dspGroveMask 32 0x1001) (at_ 5 id) with | .next t => t.dev.reg Off.dspGroveMask | _ => 0) = 1#32 := ⟨⟨by decide, by decide⟩, by decide, by decide⟩

/-! ### Settlement time -/

/-- PPS enabled. -/
def withPps (tim : Tim) : Dev → Dev := fun d => ({ d with tim := tim }).setReg Off.timRefCfg 1#32

theorem test_ppsEdge_unset : let s := at_ 5 (withPps {})
    bit (s.dev.reg Off.timRefCfg) 0 = true ∧ s.dev.pwr.powered = true ∧ s.dev.tim.setWait = none ∧ s.dev.tim.token = none ∧ s.dev.tim.state = .unset := by decide
theorem test_ppsEdge_locked : let s := at_ 2000010000 (withPps { state := .locked, lastValid := some 1000000000 })
    bit (s.dev.reg Off.timRefCfg) 0 = true ∧ s.dev.pwr.powered = true ∧ s.dev.tim.setWait = none ∧ s.dev.tim.token = none ∧ s.dev.tim.state = .locked
      ∧ s.dev.tim.expected = 2000000000 ∧ nearestSecond s.st.toNat ≤ 2000000000 ∧ s.st.toNat ≤ 2000000000 + 10000 := by decide
theorem test_ppsMiss : let s := at_ 3000010000 (withPps { state := .locked, lastValid := some 1000000000, misses := 1 })
    s.dev.pwr.powered = true ∧ s.dev.tim.state = .locked ∧ s.dev.tim.misses = 1 ∧ s.dev.tim.expected + 10000 ≤ s.st.toNat := by decide
theorem test_acquireTimeout : let s := at_ 10000000000 (withPps { state := .acquiring })
    s.dev.tim.state = .acquiring ∧ max s.dev.tim.acqSince (s.dev.tim.lastValid.getD 0) + 10000000000 ≤ s.st.toNat := by decide
/-- Example 2.1: with 20 ns at the last edge, the estimate passes 1,000,000 ns after 499.99 s of ST. -/
theorem test_holdoverLimit : let s := at_ 499991000000 (withPps { state := .holdover, lastValid := some 0, changes := [18, 0] })
    s.dev.tim.state = .holdover ∧ (s.dev.reg Off.timHoldLimit).toNat < s.dev.tim.errEst s.st.toNat := by decide
theorem test_example_2_1 : ({ state := .holdover, lastValid := some 0, changes := [18, 0] } : Tim).errEst 2000010000 = 4020 := by decide
theorem test_trefValidated : let s := at_ 10000000 (fun d => d.setReg Off.timRefCfg 4#32)
    fld (s.dev.reg Off.timRefCfg) 3 2 ≠ 0 ∧ s.dev.tim.trefValid = false ∧ s.dev.tim.trefSince + 10000000 ≤ s.st.toNat := by decide
theorem test_trefLoss : let s := at_ 10000000 (fun d => ({ d with tim := { state := .locked, trefValid := true } }).setReg Off.timRefCfg 4#32)
    fld (s.dev.reg Off.timRefCfg) 3 2 ≠ 0 ∧ s.dev.tim.trefValid = true ∧ s.dev.tim.state = .locked := by decide
theorem test_tokenGo_may : HostMay (at_ 5 id) true Off.timTokenCtrl ∧ (at_ 5 id).dev.tim.tokenStat ≠ 1 ∧ (at_ 5 id).dev.mgmtUp = true :=
  ⟨⟨by decide, by decide⟩, by decide, by decide⟩
/-- A token that waits for nothing yet, and one that has waited two seconds. -/
def withToken (w : Option TokenWait) : Dev → Dev := fun d => { d with tim := { d.tim with tokenStat := 1, token := some { nonce := 7, goSt := 2, issued := 1, live := true, wait := w } } }
theorem test_token_malformed : (match exec (.tokenVerifyDone [] .done) (at_ 5 (withToken none)) with | .next t => t.dev.tim.tokenStat | _ => 0) = 3 := by decide
theorem test_token_timeout : (match exec .tokenPpsTimeout (at_ 2000000005 (withToken (some { value := 9, since := 5 }))) with | .next t => t.dev.tim.tokenStat | _ => 0) = 10 := by decide
/-- An open time ceremony that lists an APPLY of `v` to TIM_SET_CTRL. -/
def timeCer (v : Byte) : Ceremony :=
  { num := 0, state := .opened, cls := 5, param := zeros 6 ++ [1, 0] ++ zeros 56 ++ [0x50, 0, 1, 0, v, 0, 0, 0] }
theorem test_setApply_may : let s := at_ 5 (fun d => { d with cus := { d.cus with cers := [timeCer 1] } })
    HostMay s true Off.timSetCtrl ∧ s.dev.quorum Off.timSetCtrl 1#32 = true := ⟨⟨by decide, by decide⟩, by decide⟩
theorem test_setApply_step : let s := at_ 5 (fun d => ({ d with cus := { d.cus with cers := [timeCer 1] }, tim := { state := .locked } }).setReg Off.timSetValueLo 9#32)
    (match exec (.timSetApply 1#32) s with | .next t => t.st | _ => 0) = 9#64 := by decide

/-! ### Rings -/
theorem test_doorbell_may : HostMay (at_ 5 id) true (bar2 (7 * 0x1000 + 0x10 * 3)) ∧ HostMay (at_ 5 id) true (bar2 (7 * 0x1000 + 0x10 * 3 + 8)) :=
  ⟨⟨by decide, by decide⟩, by decide, by decide⟩
/-- Ring 3 of slice 7, ACTIVE, generation 2, 64 entries, three accepted. -/
def ringDev (st : RingState) : Dev → Dev := fun d =>
  { d with hif := { d.hif with rings := [{ slice := 7, num := 3, state := st, gen := 2, accepted := 3, posted := 3, tail := 5, consumed := 1 }] } }
theorem test_sq_records : let s := at_ 5 (ringDev .active)
    (match exec (.sqDoorbell 7 3 64 true 0x0000000200000043) s with | .next t => (t.dev.ring 7 3).tail | _ => 0) = 0x43#32 := by decide
theorem test_sq_faults : let s := at_ 5 (ringDev .active)
    (match exec (.sqDoorbell 7 3 64 true 0x0000000200000044) s with | .next t => ((t.dev.ring 7 3).state, (t.dev.ring 7 3).cause) | _ => (.absent, 0)) = (.fault, 1) := by decide
theorem test_cq_parked : let s := at_ 5 (ringDev .parked)
    (match exec (.cqDoorbell 7 3 64 true 0x0000000200000004) s with | .next t => decide (t.dev = s.dev) | _ => false) = true := by decide
/-- DDR5 and the journal usable, slice 0 bound to ring 0. -/
def createDev : Dev → Dev := fun d =>
  ({ d with mem := { d.mem with ddrReady := true }, slices := [{ num := 0, state := .bound, rings := 1 }] }).setReg Off.jnlBodyBaseLo 0x10000000#32 |>.setReg Off.ddtBaseLo 0x20000000#32
theorem test_create : let s := at_ 5 createDev
    HostMay s true Off.hifRingCmd ∧ s.dev.createFail (s.dev.ring s.dev.selSlice s.dev.selRing) = none := ⟨⟨by decide, by decide⟩, by decide⟩

/-- Ring 3 of slice 7 with one entry owed and covered, a head write-back due and one entry counted, of a part that is up. -/
def owedDev : Dev → Dev := fun d =>
  { d with hif := { d.hif with rings := [{ slice := 7, num := 3, state := .active, gen := 2, accepted := 1, tail := 5, hwb := some 1, hwbSince := some 4, irqCount := 1, mod := 1 }],
                               msix := [{ vec := 1, addr := 64, data := 9, pending := true }] },
           jnl := { d.jnl with recs := [{ slot := 0, seq := 1, reqId := 5, slice := 7, ring := 3, st := .owed }], owed := [{ slot := 0, slice := 7, ring := 3 }] } }
theorem test_ring_transfers : let s := at_ 2000 owedDev; let r := s.dev.ring 7 3
    s.dev.hostSide = true ∧ r.state = .active ∧ r.fetched.length < (r.tail - r.accepted).toNat ∧ (s.dev.nextOwed r).isSome = true ∧ r.hwbSince.isSome = true
      ∧ s.dev.endpointUp = true ∧ 0 < r.irqCount ∧ fld r.mod 9 0 ≠ 0 ∧ r.irqOldest + fld r.mod 9 0 * 1000 ≤ s.st.toNat
      ∧ (s.dev.hif.msixEntry 1).pending = true ∧ s.dev.hif.funcMask = false ∧ s.dev.hif.cmdBusy = none := by decide
/-- ENABLE of that ring in progress: the word completes it, and no entry is posted before. -/
theorem test_ring_job : let s := at_ 2000 (fun d => let e := owedDev d
      { e with hif := { e.hif with rings := e.hif.rings.map (fun (r : Ring) => { r with state := .held }), cmdBusy := some { slice := 7, num := 3, dest := .active, left := 0 } } })
    (match exec (.headWriteBack 7 3 false) s with | .next t => ((t.dev.ring 7 3).state, t.dev.hif.cmdBusy) | _ => (.absent, none)) = (.active, none)
      ∧ (match exec (.completionPost 7 3 false) s with | .next t => t.dev.tx.length | _ => 1) = 0 := by decide
/-- R55: the phase bit of the first pass is 1; the request ID lies first. -/
theorem test_cq_entry : let s := at_ 2000 owedDev
    (match exec (.completionPost 7 3 false) s with | .next t => t.dev.tx.map (fun x => match x with | .cqe _ _ _ _ b => (byteAt b 0, byteAt b 18) | _ => (0, 0)) | _ => [])
      = [(5, 1)] := by decide
theorem test_ring_registers : let s := at_ 5 (ringDev .active)
    HostMay s true Off.hifRingSel ∧ HostMay s true Off.hifRingMod ∧ HostMay s false (bar2 (7 * 0x1000 + 0x100 + 8 * 3)) ∧ HostMay s false (bar2 (7 * 0x1000 + 0x100 + 8 * 3) + 4) :=
  ⟨⟨by decide, by decide⟩, ⟨by decide, by decide⟩, ⟨by decide, by decide⟩, by decide, by decide⟩
/-- A count above 1 without a time is refused (R73). -/
theorem test_settings_cases : let r := (at_ 5 (ringDev .active)).dev.ring 7 3
    irqBad r.irq 0 r.policy = false ∧ irqBad 0x00020001#32 0 r.policy = true ∧ r.state ≠ .absent ∧ r.needsSettings = false := by decide
theorem test_ring_status : let s := at_ 5 (ringDev .active)
    (match exec (.ringStatusRead 7 3 false) s with
      | .next t => (match exec (.ringStatusRead 7 3 true) t with | .next u => (t.dev.rdata, u.dev.rdata) | _ => (0, 0)) | _ => (0, 0)) = (3, 0x00020002) := by decide

/-! ### The journal and the deduplication table -/
theorem test_owed : let d := owedDev readyDev
    (d.rec? 0).isSome = true ∧ (d.ring 7 3).state ≠ .absent ∧ (d.item? 0).isNone = true ∧ d.dsp.items.all (fun i => i.mark.isNone) = true := by decide
/-- A RING_BARRIER and a RELEASE_AT of ring 3 that wait; a slice barrier of slice 7 in which only ring 3 has joined. -/
def controlDev (op : Byte) : Dev → Dev := fun d =>
  let d := owedDev d
  { d with dsp := { d.dsp with items := [{ slot := 1, seq := 2, slice := 7, ring := 3, desc := op :: zeros 127, input := [], staged := true, acceptSt := 1, deadline := 9, key := 9, ds := .control, relAt := some 1500 }] },
           jnl := { d.jnl with recs := [{ slot := 1, seq := 2, reqId := 6, slice := 7, ring := 3, st := .accepted, pos := 1 }], owed := [] },
           hif := { d.hif with barriers := [{ slice := 7, id := 5, mask := 0x18, joined := [(3, 2)] }, { slice := 7, id := 6, mask := 8, joined := [(3, 2)] }] } }
theorem test_control_rows : let s := at_ 2000 (controlDev 1); let t := at_ 2000 (controlDev 3)
    s.dev.hostSide = true ∧ (s.dev.item? 1).isSome = true ∧ (s.dev.rec? 1).isSome = true ∧ (s.dev.item? 1).all (fun i => i.waitingControl && Desc.op i.desc == 1) = true
      ∧ s.dev.acked 1 = true ∧ s.dev.aheadWaits 7 3 1 = false ∧ s.dev.aheadWaits 7 3 2 = true ∧ (t.dev.item? 1).all (fun i => i.waitingControl && Desc.op i.desc == 3) = true ∧ t.dev.fireRoom t.ctx = true ∧ (t.dev.nextDue t.ctx).any (fun e => e.use == .release && e.n == 1 && e.due == 1500) = true := by decide
theorem test_slice_barriers : let s := at_ 2000 (controlDev 2)
    (s.dev.openBarrier 7 6).any (fun b => b.arrived) = true ∧ (s.dev.openBarrier 7 5).any (fun b => !b.arrived && s.dev.barrierLate s.ctx b) = true
      ∧ s.dev.squashing 7 = none ∧ (match exec (.sliceBarrierDissolve 7 5) s with | .next t => (t.dev.rec? 1).map (fun r => (r.st, r.status, r.sub)) | _ => none) = some (.owed, 1, 1) := by decide
theorem test_close_may : HostMay (at_ 5 id) true Off.jnlRecoverCtrl := ⟨by decide, by decide⟩
theorem test_ddt_may : HostMay (at_ 5 id) true Off.ddtSize ∧ (at_ 5 id).dev.ringsDefined = 0 ∧ (at_ 5 id).dev.reg64 Off.ddtBaseLo = 0 := ⟨⟨by decide, by decide⟩, by decide, by decide⟩
/-- DDR5 usable and the management DRBG serving. -/
def ddrDev : Dev → Dev := fun d => { d with mem := { d.mem with ddrReady := true }, rng := { d.rng with drbgs := [{ num := 12, state := .serving }] } }
theorem test_ddt_ready : (at_ 5 ddrDev).dev.mem.ddrReady = true ∧ (at_ 5 ddrDev).dev.mgmtDrbg = true := by decide
theorem test_flow_stall : let s := at_ 5 (fun d => { d with hif := { d.hif with rings := [{ slice := 7, num := 3, state := .active, flowStall := true }] } })
    (s.dev.ring 7 3).flowStall = true ∧ (s.dev.ring 7 3).fetched = [] := by decide
/-- An attachment that waits since 100 ns for the standby. -/
def mirrorDev : Dev → Dev := fun d => { d with jnl := { d.jnl with mirrorWait := [{ slot := 4, since := 100, slice := 7, ring := 3, pos := 0, att := true }] } }
theorem test_mirror_wait : (((at_ 40100 mirrorDev).dev.jnl.mirrorWait.find? (fun w => w.slot == 4)).map (fun w => (w.att, w.since))) = some (true, 100) := by decide

/-- Ring 3 of bound slice 7 with a fetched descriptor: request ID 5 as byte 8 says; the table ready. -/
def fetchDev (es : List DdtEntry) (rs : List Rec) : Dev → Dev := fun d =>
  { d with hif := { d.hif with rings := [{ slice := 7, num := 3, state := .active, gen := 2, tail := 5, fetched := [{ desc := [16, 1] ++ zeros 6 ++ [5] ++ zeros 119 }] }] },
           slices := [{ num := 7, state := .bound, rings := 8 }], ddt := { d.ddt with ready := true, entries := es }, jnl := { d.jnl with recs := rs } }
theorem test_accept_ready : let s := at_ 2000 (fetchDev [] [])
    s.dev.ringOpen (s.dev.ring 7 3) = true ∧ s.dev.creditOk (s.dev.ring 7 3) = true ∧ s.dev.ddt.stalledSince = none ∧ (s.dev.ring 7 3).flowStall = false := by decide
theorem test_accept_cases : let e : DdtEntry := { slice := 7, reqId := 5, st := .inFlight, seq := 9, time := 1 }
    (∀ st ∈ [DdtState.inFlight, .done, .awaiting], let s := at_ 2000 (fetchDev [{ e with st := st }] [{ slot := 0, seq := 9, reqId := 5, slice := 7, ring := 3, st := .awaiting }])
      s.dev.ddtFind s.ctx 7 (BitVec.ofNat 64 (Desc.rid ((s.dev.ring 7 3).fetched.headD { desc := [] }).desc)) = some { e with st := st }) := by decide
/-- The request ID of the descriptor, and that it has no flow. -/
theorem test_accept_desc : let b : Bytes := [16, 1] ++ zeros 6 ++ [5] ++ zeros 119; Desc.rid b = 5 ∧ Desc.flow b = 0 := by decide

/-! ### Dispatch -/
theorem test_epoch : let s := at_ 2000 id
    s.dev.endpointUp = true ∧ s.dev.pwr.halted = false ∧ s.dev.past 5 = true ∧ s.dev.dsp.lastEpoch < s.st.toNat / 1000
      ∧ s.dev.fab.pair.role ≠ .active ∧ s.dev.rng.state ≠ .noRandomness := by decide
theorem test_epoch_same : (at_ 2999 (fun d => { d with dsp := { d.dsp with lastEpoch := 2 } })).st.toNat / 1000 ≤ 2 := by decide
theorem test_reef : let s := fun n => at_ 200000 (fun d => { d with dsp := { d.dsp with reef := n, upSince := if n = 0 then some 1 else none, downSince := some 1, lowSince := some 1, eff := [(Off.dspReefCtrl, 0x00640040#32)] } })
    ∀ n ∈ [1, 2, 3], (s n).dev.warning = false ∧ (s n).dev.locked = false ∧ (s n).dev.outstanding < 32768 ∧ 8 * (s n).dev.backlog ≤ 7 * 64
      ∧ fld ((s n).dev.effReg Off.dspReefCtrl) 15 0 = 64 ∧ (match exec .reefLevelChange (s n) with | .next t => t.dev.dsp.reef | _ => 9) = n - 1 := by decide
/-- Grove 0 and twins 0 in service, with masks; one CHECKSUM-like item in a state; the record of slot 1. -/
def itemDev (ds : DState) (twin ctx : Option Nat) (pre : Bool) : Dev → Dev := fun d =>
  { d with
    lan := { d.lan with groves := [{ num := 0, state := .inService, cur := { seed := [], left := 1000000 } }], twins := [{ num := 0, state := .inService, running := if ds = .running then some 1 else none }] },
    dsp := { d.dsp with items := [{ slot := 1, seq := 2, slice := 7, ring := 3, desc := [1, 6] ++ zeros 126, input := [], staged := true, acceptSt := 1, deadline := 9000, key := 9000, ds := ds,
                                    keysOk := true, twin := twin, ctxSlot := ctx, preempt := pre, started := ds == .suspended }],
                        eff := [(Off.dspGroveMask, 1#32)] },
    jnl := { d.jnl with recs := [{ slot := 1, seq := 2, reqId := 6, slice := 7, ring := 3, st := .accepted }] } }
theorem test_placement : let s := at_ 2000 (itemDev .pending none none false)
    s.dev.warning = false ∧ s.dev.locked = false ∧ s.dev.roleActs = true ∧ s.dev.past 8 = true ∧ s.dev.pwr.halted = false
      ∧ (s.dev.firstByKey (s.dev.heads.filter (fun i => (s.dev.chooseGrove i).isSome || (s.dev.spillPeer i).isSome))).map (fun i => (i.slot, s.dev.spillPeer i, s.dev.chooseGrove i)) = some (1, none, some 0) := by decide
theorem test_dispatch : let s := at_ 2000 (itemDev .placed none none false)
    s.dev.dispatchOn = true ∧ s.dev.waitingRelease 0 = none ∧ (s.dev.nextFor 0).map (fun i => (i.slot, i.pke)) = some (1, .none) ∧ (s.dev.item? 1).any (fun i => !s.dev.expires i && !s.dev.flowHeld i && i.stageBlocks.isEmpty && s.dev.stageDenied s.ctx Mst.lane i == none) = true
      ∧ s.dev.lan.twins.all (fun t => t.main.level == t.check.level) = true := by decide
theorem test_resume : let s := at_ 2000 (itemDev .suspended (some 0) (some 3) false)
    s.dev.dispatchOn = true ∧ (s.dev.nextFor 0).map (fun i => (i.slot, i.ds)) = some (1, .suspended)
      ∧ (match exec (.twinDispatch 0 []) s with | .next u => (u.dev.item? 1).map (fun i => (i.ds, i.ctxSlot)) | _ => none) = some (.running, none) := by decide
theorem test_save : let s := at_ 2000 (itemDev .running (some 0) none true)
    (s.dev.twin 0).running = some 1 ∧ (s.dev.item? 1).any (fun i => i.preempt) = true ∧ (List.range 8).find? (fun k => !(s.dev.ctxOn 0).contains k) = some 0 := by decide
/-- Ring 3 of slice 7 expires what is late. -/
def expireDev (ds : DState) : Dev → Dev := fun d =>
  let d := itemDev ds none none false d
  { d with hif := { d.hif with rings := [{ slice := 7, num := 3, state := .active, policy := 0x2007D0 }] },
           dsp := { d.dsp with items := d.dsp.items.map (fun (i : Item) => { i with notBefore := some 9500 }), fwTimers := [{ cls := 0, due := 100000, ins := 0 }], fw := [{ id := 4, cls := 0, pair := 0, deadline := 100, left := 300000 }] } }
theorem test_expiry : let s := at_ 9999 (expireDev .pending); let u := at_ 10500 (fun d => let e := expireDev .pending d; { e with dsp := { e.dsp with items := e.dsp.items.map (fun (i : Item) => { i with notBefore := none }) } })
    (u.dev.item? 1).any (fun i => u.dev.expires i && i.mark.isNone && !i.started && !i.pastAt && !u.dev.flowHeld i) = true ∧ u.dev.acked 1 = true ∧ u.dev.fireRoom u.ctx = true
      ∧ (u.dev.nextDue u.ctx).any (fun e => e.use == .expiry && e.n == 1) = true ∧ (s.dev.nextDue s.ctx).any (fun e => e.use == .expiry) = false
      ∧ (match exec (.deadlineExpiry 1) u with | .next u => (u.dev.rec? 1).map (fun r => (r.st, r.status, r.sub)) | _ => none) = some (.owed, 1, 2) := by decide
theorem test_full_tick : let s := at_ 10500 (fun d => let e := expireDev .placed d; { e with dsp := { e.dsp with fireTick := 10, fireCount := 1024 } })
    (s.dev.item? 1).map (fun i => i.notBefore) = some (some 9500) ∧ s.dev.dsp.fireTick = s.st.toNat / 1000 ∧ 1024 ≤ s.dev.dsp.fireCount
      ∧ (at_ 10500 (expireDev .placed)).dev.fireRoom (at_ 10500 (expireDev .placed)).ctx = true := by decide
theorem test_backoff : let s := at_ 10500 (fun d => let e := expireDev .pending d; { e with hif := { e.hif with rings := [] } })
    ((s.dev.item? 1).map (fun i => i.notBefore)) = some (some 9500) ∧ (s.dev.nextDue s.ctx).any (fun e => e.use == .backoff && e.n == 1) = true ∧ s.dev.fireRoom s.ctx = true := by decide
theorem test_fw : let s := at_ 100000 (fun d => { expireDev .placed d with dsp := { (expireDev .placed d).dsp with items := [] } })
    (s.dev.dsp.fwTimers.find? (fun f => f.cls == 0)).isSome = true ∧ s.dev.dsp.fwTimers.find? (fun f => f.cls == 3) = none ∧ s.dev.mgmtUp = true ∧ s.dev.endpointUp = true ∧ s.dev.fireRoom s.ctx = true
      ∧ (s.dev.nextDue s.ctx).any (fun e => e.use == .firmware && e.n == 0) = true
      ∧ ((s.dev.fwAdvance s.ctx).dsp.fw.find? (fun f => f.id == 4)).map (fun f => (f.missed, f.deadline)) = some (false, 100) := by decide
theorem test_hist_may : HostMay (at_ 5 id) true Off.dspSliceHistCtrl ∧ HostMay (at_ 5 id) false Off.dspSliceHist := ⟨⟨by decide, by decide⟩, by decide, by decide⟩

/-! ### Lanes -/
/-- The item of `itemDev` with another descriptor; and, with a verb that fails, on a part of its own. -/
def descDev (desc : Bytes) (keys : List KeyRes) : Dev → Dev := fun d =>
  let e := itemDev .running (some 0) none false d
  { e with dsp := { e.dsp with items := e.dsp.items.map (fun (i : Item) => { i with desc := desc, keys := keys }) } }
theorem test_release_ready : let s := at_ 2000 (itemDev .running (some 0) none false)
    (s.dev.twin 0).running = some 1 ∧ s.dev.warning = false ∧ (s.dev.item? 1).any (fun i => !i.preempt && !s.dev.saplingWaits i && i.pke == .none && i.spillFrom.isNone) = true
      ∧ s.dev.onTwin 0 = [1] ∧ (s.dev.grove 0).mmSts = [] ∧ s.dev.lan.devMm = [] ∧ (s.dev.rec? 1).isSome = true := by decide
/-- Equal lanes agree, whatever the verb makes of its data. -/
theorem test_agrees : let s := at_ 2000 (descDev ([2, 1] ++ zeros 126) []); ∀ i, s.dev.item? 1 = some i →
    compareKind (present false 0 i.desc (s.dev.laneRes i false {}) {}) (present true 0 i.desc (s.dev.laneRes i false {}) {}) = none := by
  intro s i _; rw [compareKind_present]; simp
theorem test_mismatch : let s := at_ 2000 (descDev ([2, 1] ++ zeros 126) [])
    (match exec (.releaseCompare 0 { stat := [1] } {} false) s with
      | .next u => ((u.dev.twin 0).state, (u.dev.item? 1).map (fun i => (i.ds, i.restarts, i.notBefore)), u.dev.lan.lastMm)
      | _ => (.gated, none, 0#32)) = (.clearing, some (.placed, 1, some 4000), packW [(0, 0), (8, mmCode .status), (16, 1), (24, 1)]) := by decide
/-- A RANDOM of 4 bytes succeeds with a result; a PIN_VERIFY_OFFSET with nothing to work on fails. -/
theorem test_result : let s := fun (desc : Bytes) => at_ 2000 (descDev desc [])
    ((s ([1, 0x0A] ++ zeros 74 ++ [4] ++ zeros 51)).dev.item? 1).map (fun i => (((s ([1, 0x0A] ++ zeros 74 ++ [4] ++ zeros 51)).dev.laneRes i false {}).st,
        ((s ([1, 0x0A] ++ zeros 74 ++ [4] ++ zeros 51)).dev.laneRes i false {}).out.length)) = some (0, 4)
    ∧ ((s ([2, 1] ++ zeros 126)).dev.item? 1).map (fun i => decide (((s ([2, 1] ++ zeros 126)).dev.laneRes i false {}).st ≠ 0)) = some true := by decide
theorem test_skew : let s := at_ 2000000000 (itemDev .running (some 0) none false)
    (s.dev.item? 1).any (fun i => decide (i.runSt + 2 * atOp (s.dev.groveOp i.grove) i.laneCost + 10000 < s.st.toNat)) = true := by decide
theorem test_masks : let s := at_ 2000 (fun d => { (itemDev .placed none none false d) with rng := { d.rng with drbgs := [{ num := 0, state := .serving }] }, lan := { d.lan with groves := [{ num := 0, state := .inService, hold := [{ left := 7 }], mgen := .exhausted }] } })
    (s.dev.drbg 0).serves = true ∧ ((s.dev.grove 0).next, (s.dev.grove 0).remain, (s.dev.grove 0).reserve) = (0, 0, 7) := by decide
theorem test_masks_seed : let x : Grove := { num := 0, state := .inService, hold := [{ left := 7 }], mgen := .exhausted }
    ((Grove.seed [] x).remain, (Grove.seed [] x).reserve, (Grove.seed [] x).mgen) = (2 ^ 20 - 4089, 4096, .running) := by decide
theorem test_masks_out : let s := at_ 2000 (fun d => { d with lan := { d.lan with groves := [{ num := 0, state := .inService }] } })
    ((s.dev.grove 0).state, (s.dev.grove 0).mgen, (s.dev.grove 0).next, (s.dev.grove 0).remain) = (.inService, .running, 0, 0) := by decide
/-- An item of 300 bytes, not staged. -/
def longDev (ds : DState) (sp : Option (Nat × Nat)) : Dev → Dev := fun d =>
  let d := itemDev ds none none false d
  { d with dsp := { d.dsp with items := d.dsp.items.map (fun (i : Item) => { i with staged := false, spill := sp, desc := [1, 6] ++ zeros 26 ++ [0x2C, 1] ++ zeros 98 }) } }
theorem test_long_input : (∀ s ∈ [at_ 2000 (longDev .placed none), at_ 2000 (longDev .running (some (3, 5)))],
    s.dev.dispatchOn = true ∧ (s.dev.item? 1).any (fun i => !i.staged && decide (256 < Desc.inLen i.desc) && i.mark.isNone && i.keysOk && !Desc.usesEngine i.desc && i.spillFrom.isNone && !s.dev.flowHeld i) = true
      ∧ (s.dev.rec? 1).isSome = true) := by decide
theorem test_staging_ecc : let s := at_ 2000 (itemDev .placed none none false)
    (s.dev.item? 1).any (fun i => i.staged && !i.readback && i.spill.isNone && !i.eccOnce && i.spillFrom.isNone && !s.dev.flowHeld i) = true ∧ (s.dev.rec? 1).isSome = true := by decide
/-- Twin 0 in a state, in grove 0 in a state; every other grove GATED. -/
def clrDev (tw gr : UnitState) : Dev → Dev := fun d =>
  { d with lan := { d.lan with twins := [{ num := 0, state := tw }], groves := [{ num := 0, state := gr }, { num := 1, state := .inService }] }, pwr := { d.pwr with groveOn := 0xFFF },
           pke := { d.pke with engines := [{ num := 0, state := tw }] } }
theorem test_clearing_may : HostMay (at_ 5 id) true Off.lanClearCmd ∧ HostMay (at_ 5 id) true Off.lanClearCtrl ∧ HostMay (at_ 5 id) true Off.pkeClearCmd ∧ HostMay (at_ 5 id) true Off.pkeAbortCmd :=
  ⟨⟨by decide, by decide⟩, ⟨by decide, by decide⟩, ⟨by decide, by decide⟩, by decide, by decide⟩
theorem test_clearing_twin : let s := at_ 5 (clrDev .clearing .inService)
    ((s.dev.twin 0).state, (s.dev.twin 0).passed, (s.dev.grove 0).state, s.dev.domWaking 0, s.dev.domWaking 1, s.dev.lan.cmdBusy.isNone) = (.clearing, false, .inService, false, false, true) := by decide
theorem test_clear_drains : let s := at_ 5 (fun d => let e := clrDev .inService .inService d; { e with lan := { e.lan with cmdBusy := some (.twin 0) } })
    s.dev.onTwin 0 = [] ∧ s.dev.lan.groves.all (fun g => !g.draining) = true ∧ s.dev.pke.clearBusy = none
      ∧ (match exec .clearDrainDone s with | .next u => ((u.dev.twin 0).state, u.dev.lan.cmdBusy.isNone) | _ => (.gated, false)) = (.clearing, true) := by decide
/-- The last grove in service is not cleared (R257). -/
theorem test_grove_clear : let s := at_ 5 (clrDev .inService .inService); let t := at_ 5 (fun d => let e := clrDev .inService .inService d; { e with lan := { e.lan with groves := [{ num := 0, state := .inService }] } })
    s.dev.groveOn 0 = true ∧ s.dev.groveItems 0 .placed = [] ∧ s.dev.lan.groves.any (fun x => x.num != 0 && x.state == .inService) = true
      ∧ (match exec (.groveClear 0) t with | .next u => u.dev.lan.cmdResult | _ => 9) = 3 := by decide
theorem test_pke_rows : let s := at_ 5 (fun d => let e := itemDev .running none none false (clrDev .clearing .inService d)
      { e with dsp := { e.dsp with items := e.dsp.items.map (fun (i : Item) => { i with slice := 0, desc := zeros 128, pke := .engine }) } })
    s.dev.pke.clearBusy = none ∧ s.dev.pke.abort = none ∧ (s.dev.abortItem).map (fun i => (i.slot, i.pke)) = some (1, .engine) ∧ s.dev.warning = false ∧ s.dev.locked = false := by decide

/-! ### Public-key engines -/
/-- Engine 0 of grove 0 in service; one public-key item of opcode 0x0410 on it, or ready for it. -/
def pkeDev (ds : DState) (ph : PkePhase) (rb : Bool) : Dev → Dev := fun d =>
  let e := itemDev ds none none false d
  { e with hif := { e.hif with rings := [{ slice := 7, num := 3, state := .active }] },
           pke := { e.pke with engines := [{ num := 0, state := .inService, readback := rb, item := if ph = .none then none else some 1 }], abort := if rb then some (1, 0) else none },
           dsp := { e.dsp with items := e.dsp.items.map (fun (i : Item) => { i with desc := [0x10, 4] ++ zeros 126, pke := ph, readback := rb, rnd := some {} }) } }
theorem test_pke_dispatch : let s := at_ 2000 (pkeDev .placed .none false)
    (s.dev.firstByKey (s.dev.dsp.items.filter (s.dev.engineReady 0))).map (fun i => (i.slot, i.started, s.dev.expires i)) = some (1, false, false) ∧ s.dev.dispatchOn = true
      ∧ (s.dev.item? 1).any (fun i => s.dev.stageDenied s.ctx Mst.pke i == none) = true
      ∧ (match exec (.pkeDispatch 0) s with | .next u => (u.dev.item? 1).map (fun i => (i.ds, i.engineSt)) | _ => none) = some (.running, 2000) := by decide
/-- With no committed region the reads of a staged input are denied, wherever it lies (R547). -/
def deniedDev : Dev → Dev := fun d => let e := pkeDev .placed .none false d; { e with
  acc := { e.acc with committed := [] }
  dsp := { e.dsp with items := e.dsp.items.map (fun (i : Item) => { i with desc := [0x10, 4] ++ zeros 26 ++ [1] ++ zeros 99 }) } }
theorem test_pke_denied : let s := at_ 2000 deniedDev; ∀ m i, s.dev.item? 1 = some i → (s.dev.stageDenied s.ctx m i).isSome = true := by
  intro s m i hi
  have h0 : i.grove = 0 ∧ Desc.inLen i.desc = 1 := by
    have : (s.dev.item? 1).map (fun (i : Item) => (i.grove, Desc.inLen i.desc)) = some (0, 1) := by decide
    rw [hi] at this; simpa using this
  have hk : ∀ a : Nat, 0x10000000 ≤ a → a < 0x18000000 → (s.dev.gate s.ctx m false a).ok = false := by
    intro a h1 h2
    have hb : s.dev.reg64 Off.jnlBodyBaseLo = 0 ∧ s.dev.reg64 Off.ddtBaseLo = 0 := by decide
    have hh : s.dev.hardRule false a = none := by
      unfold Dev.hardRule
      dsimp only
      rw [hb.1, hb.2]
      repeat' rw [if_neg (by omega)]
    have hg : (s.dev.gateTable s.ctx a).1 = [] := rfl
    simp only [Dev.gate]
    generalize hx : s.dev.gateTable s.ctx a = x at hg ⊢
    rw [hh]; cases x; subst hg; rfl
  unfold Dev.stageDenied Item.stageBlocks
  rw [h0.1, h0.2, List.find?_isSome]
  have hm := Nat.mod_lt (Config.freeNat i.seq 430) (by decide : 0 < 12160)
  refine ⟨_, List.mem_map.mpr ⟨0, by decide, rfl⟩, ?_⟩
  rw [hk _ (by omega) (by omega)]; rfl
theorem test_phase : let s := at_ 2000 (pkeDev .running .engine false)
    (s.dev.engine 0).item = some 1 ∧ (s.dev.item? 1).any (fun i => i.pke == .engine && !i.readback && decide (i.restarts = 0)) = true ∧ (s.dev.rec? 1).isSome = true
      ∧ (s.dev.grove 0).mmSts = [] ∧ s.dev.lan.devMm = [] := by decide
theorem test_abort : let s := at_ 2000 (pkeDev .running .engine true)
    s.dev.pke.abort = some (1, 0) ∧ (s.dev.engine 0).readback = true ∧ (match exec (.abortReadbackDone 0 true) s with | .next u => (u.dev.rec? 1).map (fun r => (r.st, r.status, r.sub)) | _ => none) = some (.owed, 3, 1) := by decide
/-- The same with a readback that found a word that is not zero; the alarm of source 0x12 is of class NOTIFY. -/
theorem test_abort_dirty : let s := at_ 2000 (pkeDev .running .engine true)
    s.dev.tmp.classes.getD 0x12 0 ≤ 1 ∧ (s.dev.item? 1).any (fun i => i.readback && i.ds == .running && s.dev.dsp.items == [i]) = true
      ∧ (match exec (.abortReadbackDone 0 false) s with | .next u => (u.dev.rec? 1).map (fun r => (r.st, r.status, r.sub)) | _ => none) = some (.owed, 3, 1) := by decide
theorem test_abort_gated : (match exec (.abortReadbackDone 0 false) (at_ 2000 (pkeDev .running .engine true)) with
    | .next u => ((u.dev.engine 0).state, (u.dev.engine 0).zeroFail, u.dev.pke.abort) | _ => (.failed, false, none)) = (.gated, true, none) := by decide
/-- Both ends of the validation stage: a signature has nothing to validate, curve parameters that are not there do not pass. -/
theorem test_validate : pkeValidate ([1, 8] ++ zeros 126) (verbData ([1, 8] ++ zeros 126) []) [] = none
    ∧ pkeValidate ([1, 8] ++ zeros 74 ++ [6] ++ zeros 51) (verbData ([1, 8] ++ zeros 74 ++ [6] ++ zeros 51) []) [] = some 7 := by decide
theorem test_limited : limited ([0x11, 9] ++ zeros 126) = true ∧ limited ([1, 8] ++ zeros 126) = false := by decide

/-! ### Keys -/
/-- Slot 1 of domain 0 of a READY store, its halves as given, its check value 0 as expected; perhaps a PROMOTE in progress. -/
def slotDev (act sap : Option Half) (pr : Option (Nat × Nat × Nat)) : Dev → Dev := fun d =>
  ({ d with key := { d.key with store := .ready, slots := [{ dom := 0, num := 1, act := act, sap := sap }], promote := pr } }).setReg Off.keySelSlot 1#32
theorem test_slot_may : HostMay (at_ 5 id) true Off.keySlotCmd := ⟨by decide, by decide⟩
theorem test_slot_info : ∀ half, (match exec (.slotInfo half) (at_ 5 (slotDev (some { attr := { alg := 0, gen := 4 }, mat := [] }) none none)) with | .next u => (u.dev.key.infoGen, u.dev.key.slotResult) | _ => (9#32, 9))
    = (if half then 0#32 else 4#32, 0) := by decide
theorem test_slot_ready : let h : Half := { attr := { alg := 0, gen := 4 }, mat := [] }; let s := at_ 5 (slotDev (some h) (some h) none); let t := at_ 5 (slotDev (some h) none none)
    (s.dev.cmdSlot).any (fun x => !x.custOnly && x.sap.isSome && x.act.isSome) = true ∧ (t.dev.cmdSlot).any (fun x => !x.custOnly && x.sap.isNone) = true ∧ s.dev.locked = false ∧ s.dev.warning = false ∧ s.dev.changing MirrorOf.isSlot = false ∧ s.dev.syncMirror = false
      ∧ (match exec (.slotInfo false) s with | .next u => u.dev.key.infoGen | _ => 0) = 4#32
      ∧ (match exec .slotDelete s with | .next u => u.dev.key.slots.length | _ => 9) = 0 := by decide
/-- A key that is no pair needs no engine for its test; one of a pair waits with no grove in service. -/
theorem test_pair_test : let h : Half := { attr := { alg := 0, gen := 4 }, mat := [] }; (at_ 5 id).dev.pairTestWaits h = false
    ∧ (at_ 5 id).dev.pairTestWaits { h with attr := { h.attr with alg := 0x80, part := 1 } } = true := by decide
theorem test_promote_cases : let h : Half := { attr := { alg := 0, gen := 4 }, mat := [] }; let s := at_ 5 (slotDev none (some h) (some (0, 1, 0)))
    s.dev.key.promote = some (0, 1, 0) ∧ kcv 0 0 0 [] = (toLe 8 (s.dev.reg64 Off.keyExpKcvLo)).take 0 := by decide
theorem test_domain_may : HostMay (at_ 5 id) true Off.keyFence ∧ HostMay (at_ 5 id) true Off.keyDomCmd ∧ HostMay (at_ 5 id) true Off.keyDomErase ∧ HostMay (at_ 5 id) true Off.keyDomQuota ∧ HostMay (at_ 5 id) true Off.keyStoreCmd :=
  ⟨⟨by decide, by decide⟩, ⟨by decide, by decide⟩, ⟨by decide, by decide⟩, ⟨by decide, by decide⟩, by decide, by decide⟩
/-- An OPEN ceremony of a class whose write list is one write, with the selector's value 0 beside it. -/
def openDev (cls off : Nat) (v : Word) : Dev → Dev := fun d =>
  { d with cus := { d.cus with cers := [{ num := 0, state := .opened, cls := cls, param := zeros 6 ++ toLe 2 2 ++ zeros 56 ++ toLe 4 off ++ toLe 4 v.toNat ++ toLe 4 Off.keySelDomain ++ zeros 4 }] } }
theorem test_quorum_writes : (at_ 5 (openDev 1 Off.keyDomErase 1)).dev.quorum Off.keyDomErase 1 = true ∧ (at_ 5 (openDev 6 Off.keyDomQuota 0x10)).dev.quorum Off.keyDomQuota 0x10 = true
    ∧ (at_ 5 (openDev 6 Off.keyDomQuota 0xFFFE)).dev.quorum Off.keyDomQuota 0xFFFE = true ∧ (at_ 5 (openDev 2 Off.keyStoreCmd 1)).dev.quorum Off.keyStoreCmd 1 = true ∧ (at_ 5 ddrDev).dev.mgmtDrbg = true := by decide
/-- Domain 0 rolling, or ACTIVE with a valid previous generation; an erasure, a fence or a REINIT in progress. -/
def domDev (st : DomState) (pv : Bool) : Dev → Dev := fun d =>
  { d with key := { d.key with domains := [{ num := 0, state := st, prevValid := pv, gen := 3, newGen := 4 }], domErase := none, fence := true, reinit := true } }
theorem test_domain_rows : let s := at_ 5 (domDev .rolling false); let t := at_ 5 (domDev .active true)
    s.dev.key.domains.map (fun m => m.state) = [.rolling] ∧ s.dev.fab.repls = [] ∧ s.dev.fab.replicas = [] ∧ s.dev.changing (fun w => w == .domain) = false ∧ (t.dev.key.domains.find? (fun x => x.num == t.dev.selDom)).any (fun m => m.prevValid) = true
      ∧ t.dev.isReplica 0 = false ∧ s.dev.key.users = [] ∧ (s.dev.key.domain 0).prevValid = false
      ∧ (match exec .rollDone s with | .next u => u.dev.key.domains.map (fun m => (m.gen, m.prevGen, m.prevValid)) | _ => []) = [(4, 3, true)] := by decide
/-- A load for an item whose handle names a slot that does not exist. -/
theorem test_load_fails : let s := at_ 2000 (fun d => let e := itemDev .placed none none false d; { e with key := { e.key with loads := [{ grove := 0, item := 1, idx := 1 }] } })
    (s.dev.item? 1).map (fun i => match s.dev.loadKey s.otp (Desc.key1 i.desc) (kbBytes i.desc i.input 1) with | .fail _ _ => 1 | .hit _ => 2 | .miss => 3) = some 1
    ∧ (s.dev.item? 1).any (fun i => decide (i.ds ≠ .finished) && !s.dev.flowHeld i && i.spillFrom.isNone) = true ∧ (s.dev.rec? 1).isSome = true := by decide
/-- A load of a slot of a READY store, which no entry holds. -/
theorem test_load_hits : let h : Half := { attr := { alg := 0x10, gen := 4 }, mat := zeros 16 }
    let s := { at_ 2000 (fun d => let e := itemDev .placed none none false d
      { e with key := { e.key with loads := [{ grove := 0, item := 1, idx := 1 }], store := .ready, domains := [{ num := 0, state := .active }], slots := [{ dom := 0, num := 1, act := some h }] } })
      with otp := { copyA := 0xFF, copyB := 0xFF, recs := [] } }
    s.dev.key.cache = [] ∧ (match s.dev.loadKey s.otp 0x100000000 [] with | .hit r => (r.slot, r.gen) | _ => (0, 0)) = (1, 4) := by decide

/-! ### Entropy -/
/-- Source 0 in a state, the block in a state; DRBG 12 and DRBG 0 serving. -/
def rngDev (st : RngState) (src : SrcState) : Dev → Dev := fun d =>
  { d with rng := { d.rng with state := st, settled := true, testsOk := true, sources := [{ num := 0, state := src }], drbgs := [{ num := 12, state := .serving }, { num := 0, state := .serving }] } }
theorem test_rng_states : let s := at_ 200000000 (rngDev .running .ok)
    s.dev.rng.testsOk = true ∧ (s.dev.source 0).state = .ok ∧ s.dev.blockFor = none ∧ s.dev.rng.lastFail = none ∧ (s.dev.source 0).reattach = false ∧ s.dev.rng.pool = [] := by decide
/-- Samples that alternate fail no test, whatever their number (R365). -/
def flips : Nat → Bool → List Bool
  | 0, _ => []
  | k + 1, b => b :: flips k (!b)
theorem flips_len : ∀ k b, (flips k b).length = k
  | 0, _ => rfl
  | k + 1, b => by simp [flips, flips_len k]
theorem flips_clean : ∀ (k : Nat) (b : Bool) (s : Source), (s.run = 0 ∨ (s.last = !b ∧ s.run ≤ 1)) →
    (s.win = 0 ∨ s.win ≤ 1024 ∧ (s.win % 2 = 0 → s.winBit = b ∧ s.winCnt * 2 = s.win) ∧ (s.win % 2 = 1 → s.winBit = !b ∧ s.winCnt * 2 = s.win + 1)) →
    s.clean (flips k b) = true
  | 0, _, _, _, _ => rfl
  | k + 1, b, s, h1, h2 => by
    have hr : (s.sample b).run = 1 ∧ (s.sample b).last = b := by
      rcases h1 with h | h <;> simp [Source.sample, h]
    have hw : (s.sample b).win ≤ 1024 ∧ ((s.sample b).win % 2 = 0 → (s.sample b).winBit = !b ∧ (s.sample b).winCnt * 2 = (s.sample b).win)
        ∧ ((s.sample b).win % 2 = 1 → (s.sample b).winBit = b ∧ (s.sample b).winCnt * 2 = (s.sample b).win + 1) := by
      by_cases hn : s.win = 0 ∨ s.win = 1024
      · simp [Source.sample, hn]
      · rcases h2 with h2 | ⟨a1, a3, a4⟩
        · exact absurd (.inl h2) hn
        · have h0 : (s.win == 0 || s.win == 1024) = false := by simpa using hn
          simp only [Source.sample, h0, if_false, Bool.false_eq_true]
          rcases Nat.mod_two_eq_zero_or_one s.win with e | e
          · obtain ⟨c1, c2⟩ := a3 e
            have hb : b2n (b == s.winBit) = 1 := by rw [c1]; simp [b2n]
            rw [hb]
            exact ⟨by omega, fun h => by omega, fun _ => ⟨c1, by omega⟩⟩
          · obtain ⟨c1, c2⟩ := a4 e
            have hb : b2n (b == s.winBit) = 0 := by rw [c1]; cases b <;> rfl
            rw [hb]
            exact ⟨by omega, fun h => ⟨c1, by omega⟩, fun h => by omega⟩
    have hf : (s.sample b).fault = none := by
      unfold Source.fault
      rw [hr.1, if_neg (by omega), if_neg (by omega)]
    show ((s.sample b).fault.isNone && Source.clean (flips k (!b)) (s.sample b)) = true
    rw [hf]
    simp only [Option.isNone_none, Bool.true_and]
    exact flips_clean k (!b) _ (.inr ⟨by rw [hr.2]; simp, by omega⟩) (.inr ⟨hw.1, hw.2.1, by simpa using hw.2.2⟩)
/-- A source passes its start-up test and its rerun, and conditions a block; 62 equal samples fail the repetition test. -/
theorem test_rng_samples : (flips 4096 true).length = 4096 ∧ (flips 1024 true).length = 1024
    ∧ ({ num := 0, state := .startup } : Source).clean (flips 4096 true) = true ∧ ({ num := 0, state := .ok } : Source).clean (flips 1024 true) = true :=
  ⟨flips_len _ _, flips_len _ _, flips_clean _ _ _ (.inl rfl) (.inl rfl), flips_clean _ _ _ (.inl rfl) (.inl rfl)⟩
set_option maxRecDepth 20000 in
theorem test_rng_fails : ({ num := 0, state := .ok } : Source).failsBy .repetition (List.replicate 61 true) = true ∧ ({ num := 0, state := .ok } : Source).failsBy .repetition (List.replicate 60 true) = false := by decide
theorem test_rng_block : let s := at_ 5 (fun d => let e := rngDev .running .ok d
      { e with lan := { e.lan with groves := [{ num := 0, state := .inService }] }, rng := { e.rng with drbgs := [{ num := 12, state := .serving }, { num := 0, state := .uninst }] } })
    s.dev.blockFor = some 0 := by decide
theorem test_rng_retest : let t := at_ 5 (rngDev .retest .retest); (t.dev.source 0).state = .retest ∧ t.dev.rng.retestSrc = 0 := by decide
theorem test_rng_timeout : let s := at_ 200000000 (rngDev .startup .startup)
    s.dev.rng.startSt + 200000000 ≤ s.st.toNat ∧ (match exec .startupTimeout s with | .next u => (u.dev.rng.state, u.dev.rng.cause) | _ => (.off, 0)) = (.noRandomness, 1) := by decide
theorem test_rng_may : HostMay (at_ 5 id) true Off.rngCtrl ∧ HostMay (at_ 5 id) true Off.rngRawCtrl ∧ HostMay (at_ 5 id) false Off.rngRawData ∧ HostMay (at_ 5 id) true Off.rngReseedCtrl :=
  ⟨⟨by decide, by decide⟩, ⟨by decide, by decide⟩, ⟨by decide, by decide⟩, by decide, by decide⟩
/-- A unit in FACTORY_TEST: one group of each copy of the state word is full. -/
def testOtp : Otp := { copyA := 0xFF, copyB := 0xFF, recs := [] }
theorem test_raw_allowed : testOtp.testsAllowed = true ∧ State.reset.otp.testsAllowed = false := by decide
theorem test_raw_cases : let s := at_ 5 (rngDev .running .ok); let t := at_ 5 (fun d => ({ rngDev .running .raw d with rng := { (rngDev .running .raw d).rng with raw := [true, false] } }).setReg Off.rngRawCtrl 0x100#32)
    bit (s.dev.reg Off.rngRawCtrl) 8 = false ∧ bit (t.dev.reg Off.rngRawCtrl) 8 = true ∧ (t.dev.source (fld (t.dev.reg Off.rngRawCtrl) 4 0)).state = .raw ∧ t.dev.rng.rawOn = false ∧ t.dev.rng.raw = [true, false] := by decide
/-- Both RESTART cases and the age of a DRBG, whose reset limit is 10 s. -/
theorem test_rng_restart : let s := at_ 20000000000 (rngDev .noRandomness .failed)
    s.dev.rng.cmdBusy = false ∧ (match exec .rngRestart s with | .next u => (u.dev.rng.state, u.dev.rng.cmdBusy) | _ => (.off, false)) = (.startup, true) := by decide
theorem test_reseed_due : let s := at_ 20000000000 (fun d => { d with rng := { d.rng with drbgs := [{ num := 0, state := .serving }] } })
    (s.dev.nextDue s.ctx).map (fun e => (e.use, e.n)) = some (.reseed, 0) ∧ s.dev.rng.pool = [] ∧ s.dev.fireRoom s.ctx = true := by decide
theorem test_reattach : let s := at_ 5 (fun d => { d with rng := { d.rng with sources := [{ num := 3, state := .startup, reattach := true }] } })
    (s.dev.source 3).reattach = true := by decide
theorem test_reseed_limit : let s := at_ 5 (fun d => { d with rng := { d.rng with drbgs := [{ num := 0, state := .stretching, reqs := 65537 }] } })
    (match exec (.reseedCtrlWrite 0x00010010#32) s with | .next u => u.dev.rng.drbgs.map (fun g => g.state) | _ => []) = [.starved] := by decide

/-! ### Slices -/
theorem test_slice_may : HostMay (at_ 5 id) true Off.hifSliceCmd ∧ HostMay (at_ 5 id) true Off.hifSliceSel ∧ HostMay (at_ 5 id) true Off.hifSlicePasid ∧ HostMay (at_ 5 id) true Off.hifSliceCfg ∧ HostMay (at_ 5 id) true Off.hifSliceRings :=
  ⟨⟨by decide, by decide⟩, ⟨by decide, by decide⟩, ⟨by decide, by decide⟩, ⟨by decide, by decide⟩, by decide, by decide⟩
/-- Slice 0 in a state under a command, with ring 3 defined. -/
def sliceDev (st : SliceState) (cmd : Option SliceCmd) : Dev → Dev := fun d =>
  { d with slices := [{ num := 0, state := st, cmd := cmd, nonce := 9, since := 100 }], hif := { d.hif with rings := [{ slice := 0, num := 3, state := .held, gen := 5 }] } }
theorem test_slice_bind : let s := at_ 5 id
    s.dev.migSlice = 0 ∧ (s.dev.slice 0).state = .unbound ∧ (s.dev.slice 0).cmd = none ∧ s.dev.pasidTaken 0 = false
      ∧ (at_ 5 (fun d => { d with slices := [{ num := 4, state := .bound }] })).dev.pasidTaken 0 = true := by decide
theorem test_slice_squash : let s := at_ 5 (sliceDev .draining (some .freeze))
    HostMay s true Off.hifSliceCmd ∧ s.dev.migSlice = 0 ∧ (s.dev.slice 0).squash = false
      ∧ (match exec (.sliceFreeze true) s with | .next u => (u.dev.slice 0).squash | _ => false) = true := ⟨⟨by decide, by decide⟩, by decide, by decide, by decide⟩
theorem test_slice_stop : ∀ q, (match exec (.sliceRemove q) (at_ 5 (sliceDev .saved none)) with | .next u => ((u.dev.slice 0).state, (u.dev.slice 0).squash) | _ => (.unbound, !q)) = (.draining, q) := by decide
theorem test_slice_drained : let s := at_ 5 (sliceDev .draining (some .remove))
    s.dev.warning = false ∧ s.dev.drained 0 = true ∧ (match exec (.sliceDrainDone 0) s with | .next u => ((u.dev.slice 0).state, (u.dev.ring 0 3).state, (u.dev.ring 0 3).gen) | _ => (.unbound, .held, 0)) = (.retaining, .absent, 5) := by decide
theorem test_slice_retained : let s := at_ 60000000100 (sliceDev .retaining none); let t := at_ 999 (sliceDev .retaining none)
    (s.dev.slice 0).since + s.dev.ddtRetain ≤ s.st.toNat ∧ t.st.toNat < (t.dev.slice 0).since + t.dev.ddtRetain := by decide
theorem test_prepare : (at_ 5 ddrDev).dev.mgmtDrbg = true ∧ (at_ 5 id).dev.mgmtDrbg = false ∧ (at_ 5 id).dev.migSlice = 0 := by decide
/-- The FABRIC method chosen. -/
theorem test_save_cases : let s := at_ 5 (fun d => let e := (ddrDev (sliceDev .frozen none d)).setReg Off.hifMigCtrl 0x00010001#32
      { e with fab := { e.fab with nodes := [{ num := 1, unit := 0, live := true }] } }.setReg Off.fabCtrl 1#32)
    s.dev.saveBlocked 0 = false ∧ s.dev.locked = false ∧ fld (s.dev.reg Off.hifMigCtrl) 1 0 = 1
      ∧ le ((List.range 4).flatMap (fun i => toLe 4 (s.dev.reg (Off.hifMigTargetUid + 4 * i)).toNat)) 0 16 = 0
      ∧ (match exec (.sliceSave { reachable := true, certOk := true }) s with | .next u => (u.dev.slice 0).state | _ => .unbound) = .saving := by decide
theorem test_restore_cases : let s := at_ 5 (sliceDev .prepared none)
    (match exec (.sliceRestore [] .done) s with | .next u => (match exec (.restoreDone 0) u with | .next v => ((u.dev.slice 0).state, (v.dev.slice 0).state, (v.dev.slice 0).result) | _ => (.bound, .bound, 0)) | _ => (.bound, .bound, 0))
      = (.restoring, .unbound, 2) := by decide
/-- An image with no ring, chain, reference or entry is restored. -/
theorem test_restore_done : let s := at_ 5 (sliceDev .restoring (some .restore))
    (s.dev.slice 0).pendingResult = 0 ∧ s.dev.ringsDefined + (imageRings 0 (s.dev.slice 0).image).length ≤ 16384 ∧ (s.dev.insertAll s.ctx (imageDdt s.st.toNat 0 (s.dev.slice 0).image)).isSome = true := by decide
theorem test_prepare_expiry : ((at_ 60000000000 (sliceDev .prepared none)).dev.slice 0).nonceSt = 0 := by decide
/-- An empty buffer is too small for any image. -/
theorem test_save_small : let s := at_ 5 (sliceDev .saving (some .save))
    (s.dev.slice 0).image = [] ∧ 0 < imageLen 0 0 0 ∧ (s.dev.slice 0).prev = .unbound := by decide

/-- Slice 3 is bound, with ring 1 defined. -/
def boundDev (f : Slice → Slice) : Dev → Dev := fun d =>
  { d with slices := [f { num := 3, state := .bound, pasid := 5, domain := 2, rings := 2 }], hif := { d.hif with rings := [{ slice := 3, num := 1, state := .held }] } }.setReg Off.hifSliceSel 3#32
theorem test_slice_reg_may : let s := at_ 5 (boundDev id)
    HostMay s true Off.hifSliceSel ∧ HostMay s true Off.hifSlicePasid ∧ HostMay s true Off.hifSliceCfg ∧ HostMay s true Off.hifSliceRings :=
  ⟨⟨by decide, by decide⟩, ⟨by decide, by decide⟩, ⟨by decide, by decide⟩, by decide, by decide⟩
theorem test_slice_select : (match exec (.sliceSelect 3#32) (at_ 5 (boundDev id)) with | .next u => (u.dev.reg Off.hifSlicePasid, u.dev.reg Off.hifSliceCfg) | _ => (0, 0)) = (5#32, 0x01010002#32)
    ∧ (match exec (.sliceSelect 4#32) (at_ 5 (boundDev id)) with | .next u => (u.dev.reg Off.hifSlicePasid, u.dev.reg Off.hifSliceCfg) | _ => (0, 0)) = (0#32, 0x01010000#32) := by decide
theorem test_slice_weight : (match exec (.sliceCfgWrite Off.hifSliceCfg 0x02FF0002#32) (at_ 5 (boundDev id)) with | .next u => ((u.dev.slice 3).weight, (u.dev.slice 3).expiry) | _ => (0, 0)) = (255, 2)
    ∧ (match exec (.sliceCfgWrite Off.hifSliceCfg 0x03FF0002#32) (at_ 5 (boundDev id)) with | .next u => (u.dev.slice 3).weight | _ => 0) = 1
    ∧ (match exec (.sliceCfgWrite Off.hifSliceRings 1#32) (at_ 5 (boundDev id)) with | .next u => (u.dev.slice 3).rings | _ => 0) = 2 := by decide

/-! ### Fabric -/
/-- Port 2 in a state, the fabric on, the node ID 5. -/
def portDev (st : PortState) (ch : Bool) : Dev → Dev := fun d =>
  ({ d with fab := { d.fab with ports := [{ num := 2, state := st, challenged := ch }, { num := 3, state := .up }] } }.setReg Off.fabCtrl 0xFF01#32).setReg Off.fabNodeId 5#32
theorem test_port_may : HostMay (at_ 5 (portDev .disabled false)) true Off.fabCtrl ∧ HostMay (at_ 5 (portDev .disabled false)) true Off.fabRouteCtrl ∧ HostMay (at_ 5 (portDev .disabled false)) true Off.fabPairCmd :=
  ⟨⟨by decide, by decide⟩, ⟨by decide, by decide⟩, by decide, by decide⟩
theorem test_port_trained : (match exec (.portTrained 2) (at_ 5 (portDev .training false)) with | .next u => ((u.dev.port 2).state, (u.dev.port 2).challenged, (u.dev.port 2).since) | _ => (.down, true, 0)) = (.auth, false, 5) := by decide
theorem test_port_auth : let s := at_ 5 (portDev .auth true)
    ((match exec (.portAuthDone 2 7 1 0 true) s with | .next u => (u.dev.port 2).state | _ => .down), (match exec (.portAuthDone 2 7 1 0 false) s with | .next u => ((u.dev.port 2).state, u.dev.evl.queue.map (fun q => q.typ)) | _ => (.down, [])))
      = (.up, .refused, [0x52]) := by decide
theorem test_port_down : let s := at_ 5 (portDev .up false); let t := at_ 1000000 (portDev .down false)
    (match exec (.portDown 2) s with | .next u => (u.dev.port 2).state | _ => .up, match exec (.portRetrainTimer 2) t with | .next u => (u.dev.port 2).state | _ => .up) = (.down, .training) := by decide
theorem test_auth_retry : let s := at_ 10000000 (portDev .auth false)
    (s.dev.port 2).since + 10000000 ≤ s.st.toNat ∧ (match exec (.authRetryTimer 2) s with | .next u => (u.dev.port 2).since | _ => 0) = 10000000 := by decide
/-- A frame from node 9 on port 3, for node `dst`. -/
def aFrame (cls dst hops : Nat) (flood : Bool) : Frame := { port := 3, dst := dst, src := 9, cls := cls, hops := hops, seq := 4, boot := 1, flood := flood, payload := [] }
/-- Ports 2 and 3 UP, node ID 5. -/
def upDev (f : Fab → Fab) : Dev → Dev := fun d => let e := portDev .up false d; { e with fab := f e.fab }
theorem test_frame_on : let s := at_ 5 (upDev id)
    s.dev.fabOn = true ∧ s.dev.portUp 3 = true ∧ s.dev.nodeId = 5 ∧ s.dev.maxHops = 16 ∧ s.dev.fab.conflict = false ∧ s.dev.fab.large = false := by decide
set_option maxRecDepth 20000 in
/-- A frame is read as it was written, and one with a wrong check word is none. -/
theorem test_frame_bytes : Frame.ofBytes 3 (aFrame 3 8 0 false).bytes = some (aFrame 3 8 0 false) ∧ Frame.ofBytes 3 (zeros 20) = none := by decide
/-- The destination's route is known: one frame leaves on its port with a hop more. -/
theorem test_frame_routed : let s := at_ 5 (upDev (fun f => { f with routes := [{ node := 8, cls := 3, port := 2, hops := 1, st := 0 }, { node := 9, cls := 3, port := 2, hops := 0, st := 0 }] }))
    (frameReceiveOp (aFrame 3 8 0 false) s.ctx s.dev).tx = [.frame 2 { aFrame 3 8 1 false with port := 2 }.bytes]
      ∧ (s.dev.learn s.ctx 9 3 3 0).fab.routes = s.dev.fab.routes
      ∧ ((at_ 2000000 (upDev (fun f => { f with routes := [{ node := 9, cls := 3, port := 2, hops := 0, st := 0 }] }))).dev.learn ⟨2000000, {}⟩ 9 3 3 0).fab.routes.map (fun r => r.port) = [3] := ⟨rfl, by decide, by decide⟩
/-- No route: a flood on port 2 alone. -/
theorem test_frame_flood : let s := at_ 5 (upDev (fun f => { f with routes := [{ node := 9, cls := 3, port := 3, hops := 0, st := 0 }] }))
    (frameReceiveOp (aFrame 3 8 0 false) s.ctx s.dev).tx = [.frame 2 { aFrame 3 8 1 true with port := 2, seq := 1 }.bytes] ∧ s.dev.maxHops < (aFrame 3 8 16 false).hops + 1 := ⟨rfl, by decide⟩
theorem test_frame_seen : let s := at_ 5 (upDev (fun f => { f with floods := [{ src := 9, boot := 1, high := 4 }], routes := [{ node := 9, cls := 3, port := 3, hops := 0, st := 0 }] }))
    (frameReceiveOp (aFrame 3 8 0 true) s.ctx s.dev).tx = [] := by decide
theorem test_route_age : let s := at_ 1000000000 (upDev (fun f => { f with routes := [{ node := 9, cls := 3, port := 3, hops := 0, st := 0 }, { node := 9, cls := 4, port := 3, hops := 0, st := 1 }] }))
    (match exec (.routeAgeOut 9 3) s with | .next u => u.dev.fab.routes.map (fun r => r.cls) | _ => []) = [4] ∧ (match exec (.routeFlush 10#32) s with | .next u => u.dev.fab.routes | _ => s.dev.fab.routes) = [] := by decide
set_option maxRecDepth 20000 in
theorem test_route_full : let s := at_ 5 (upDev (fun f => { f with nodes := List.replicate 65 { num := 1, live := true }, routes := List.replicate 256 { node := 1, cls := 0, port := 3, hops := 0, st := 0 } }))
    s.dev.fab.large = true ∧ s.dev.learn s.ctx 9 3 3 0 = s.dev := by decide
/-- The table holds nothing: an insertion finds a place. -/
theorem test_route_place : (occInsert 0 4096 (9, 3) []).occ ≠ none := by simp [occInsert, Occ.full, Occ.bucket]
theorem test_discovery : let s := at_ 10000001 (upDev (fun f => { f with lastDisc := 1 })); let t := at_ 10000000 (upDev (fun f => { f with lastDisc := 1 }))
    s.dev.fab.lastDisc + fld (s.dev.reg Off.fabDiscCtrl) 15 0 * 1000000 ≤ s.st.toNat ∧ t.st.toNat < t.dev.fab.lastDisc + fld (t.dev.reg Off.fabDiscCtrl) 15 0 * 1000000 ∧ s.dev.mgmtUp = true := by decide
/-- A discovery message of node 9, unit 77. -/
def aDisc : Frame := { aFrame 0 9 1 true with payload := toLe 16 77 ++ [0, 2] ++ zeros 14 }
set_option maxRecDepth 40000 in
theorem test_discovery_bytes : Frame.ofBytes 3 aDisc.bytes = some aDisc ∧ aDisc.payload.length = 32 := by decide
/-- Node 9 with an older message known, and one that is newer. -/
theorem test_discovery_new : let s := at_ 5 (upDev (fun f => { f with nodes := [{ num := 9, boot := 1, seq := 3 }], conflict := true, routes := [{ node := 9, cls := 0, port := 3, hops := 0, st := 0 }] }))
    (∀ n ∈ s.dev.fab.nodes, n.num = 9 → n.older 1 4 = true) ∧ (({ num := 9, boot := 1, seq := 4 } : Node).older 1 4 = false)
      ∧ (discoveryReceiveOp aDisc s.ctx s.dev).fab.nodes.map (fun n => (n.num, n.unit, n.live)) = [(9, 77, true)] := by decide
theorem test_discovery_conflict : let s := at_ 5 (upDev id)
    (5 = s.dev.nodeId) ∧ s.dev.fab.conflict = false := by decide
theorem test_node_lost : let s := at_ 30000000 (upDev (fun f => { f with nodes := [{ num := 9, live := true }], routes := [{ node := 9, cls := 0, port := 3, hops := 0, st := 0 }] }))
    (match exec (.nodeAgeOut 9) s with | .next u => (u.dev.fab.nodes.map (fun n => n.live), u.dev.fab.routes) | _ => ([], s.dev.fab.routes)) = ([false], []) := by decide

/-- A session with node 9, and a replication of domain 1 to it. -/
def sessDev (f : Fab → Fab) : Dev → Dev := upDev (fun b => f { b with sessions := [{ peer := 9, since := 0 }], repls := [{ domain := 1, index := 0, en := true, peer := 9, state := 1 }] })
theorem test_session_setup : let s := at_ 5 (fun d => upDev (fun b => { b with repls := [{ domain := 1, index := 0, en := true, peer := 9, state := 3 }] }) (ddrDev d))
    s.dev.fabOn = true ∧ s.dev.mgmtDrbg = true ∧ (match exec (.sessionSetup 9 [] true) s with | .next u => (u.dev.fab.sessions.map (fun x => (x.peer, x.since)), u.dev.fab.repls.map (fun r => r.state)) | _ => ([], [])) = ([(9, 5)], [1]) := by decide
theorem test_session_old : let s := at_ 3600000000000 (sessDev id)
    (s.dev.fab.sessions.map (fun x => x.since + 3600000000000)) = [s.st.toNat] := by decide
theorem test_session_break : (match exec (.sessionBreak 9) (at_ 5 (sessDev id)) with | .next u => (u.dev.hasSession 9, u.dev.fab.repls.map (fun r => r.state), bit (u.dev.reg Off.fabEvt) 9) | _ => (true, [], false)) = (false, [3], true) := by decide
theorem test_repl_ack : (match exec (.replicateReceive { peer := 9, domain := 1, kind := .ack }) (at_ 5 (sessDev id)) with | .next u => u.dev.fab.repls.map (fun r => r.state) | _ => []) = [2] := by decide
/-- An open REPLICA_LOAD ceremony for domain 1 that names node 9's unit ID, 0. -/
def replDev (o : List ReplicaOf) (x : DomState) : Dev → Dev := fun d => let e := sessDev (fun f => { f with nodes := [{ num := 9 }], replicas := o }) d
  { e with key := { e.key with store := .ready, domains := [{ num := 1, state := x, gen := 4, prevValid := true }] },
           cus := { e.cus with cers := [{ num := 0, state := .opened, cls := 1, action := 3, domain := some 1, param := zeros 40 }] } }
theorem test_repl_copy : let s := at_ 5 (replDev [] .empty)
    s.dev.session? 9 = some { peer := 9, since := 0 } ∧ s.dev.fabOn = true ∧ s.dev.replicaLoad 1 9 ≠ none ∧ s.dev.locked = false ∧ s.dev.key.store = .ready
      ∧ (s.dev.key.domain 1).state = .empty ∧ (match exec (.replicateReceive { peer := 8, domain := 1, kind := .copy }) s with | .next u => u.dev.fab.replicas | _ => [{ domain := 9, src := 9 }]) = [] := by decide
/-- A roll's end is let through to its keys, an ERASE of the source empties the domain. -/
theorem test_repl_follow : let s := at_ 5 (replDev [{ domain := 1, src := 9 }] .active)
    (s.dev.key.domain 1).gen ≠ 7 ∧ (s.dev.key.domain 1).state ≠ .rolling ∧ s.dev.fab.replicas.any (fun r => r.domain == 1 && r.src == 9) = true
      ∧ (match exec (.replicateReceive { peer := 9, domain := 1, kind := .erase }) s with | .next u => u.dev.isReplica 1 | _ => true) = false
      ∧ (match exec (.replicateReceive { peer := 9, domain := 1, kind := .retirePrev }) s with | .next u => u.dev.key.domains.map (fun m => m.prevValid) | _ => []) = [false] := by decide
theorem test_repl_ended : (match exec (.replicateReceive { peer := 9, domain := 1, kind := .ended }) (at_ 5 (sessDev id)) with | .next u => u.dev.fab.repls.map (fun r => (r.state, r.ended)) | _ => []) = [(3, true)] := by decide
/-- An item of slot 4 that waits for node 9 since ST 0, its record in service; a limit of 1. -/
def spillDev (its : List Item) (peer : Word) : Dev → Dev := fun d => let e := sessDev id d
  (({ e with dsp := { e.dsp with items := its }, jnl := { e.jnl with recs := [{ slot := 4, seq := 1, reqId := 1, slice := 0, ring := 0, st := .inService, spilled := true }] } }.setReg Off.fabSpillCtrl 0x1F400010#32)).setReg Off.fabSpillPeer peer
def aSpill (sp : Option (Nat × Nat)) (fr : Option (Nat × Nat)) : Item :=
  { slot := 4, seq := 1, slice := 0, ring := 0, desc := zeros 128, input := [], acceptSt := 0, deadline := 9, key := 9, ds := .running, spill := sp, spillFrom := fr }
/-- The offer of one credit as it floods from node 5 to node 9. -/
def aFr (port : Nat) : Frame := { port := port, dst := 9, src := 5, cls := 0, flood := true, hops := 0, seq := 1, payload := toLe 1 1 ++ msgNum 1 }
theorem test_spill_offer : let s := at_ 100000 (spillDev [] 0x80000009#32)
    s.dev.spillListed 9 = true ∧ s.dev.spillListed 8 = false ∧ (match exec .spillOfferTimer s with | .next u => u.dev.tx | _ => []) = [.frame 3 (aFr 3).bytes, .frame 2 (aFr 2).bytes] := by refine ⟨by decide, by decide, rfl⟩
theorem test_spill_item : let s := at_ 5 (spillDev [] 0#32)
    s.dev.past 8 = true ∧ s.dev.roleActs = true ∧ s.dev.warning = false ∧ s.dev.locked = false ∧ s.dev.hasSession 9 = true
      ∧ (match exec (.spillItemReceive { peer := 9, slot := 7, seq := 1, slice := 0, domain := 0, desc := zeros 128, input := [], remaining := 20 }) s with | .next u => u.dev.dsp.items.map (fun i => (i.deadline, i.spillFrom)) | _ => []) = [(25, some (9, 7))] := by decide
theorem test_spill_lost : let s := at_ 500000 (spillDev [aSpill (some (9, 0)) none] 0#32); let t := at_ 499999 (spillDev [aSpill (some (9, 0)) none] 0#32)
    (match exec (.spillTimeout 4) s with | .next u => ((u.dev.reg Off.fabSpillLost).toNat, u.dev.dsp.items.map (fun i => (i.ds, i.spill)), u.dev.jnl.recs.map (fun r => r.st)) | _ => (0, [], []))
      = (1, [(.pending, none)], [.accepted]) ∧ t.st.toNat < 0 + fld (t.dev.reg Off.fabSpillCtrl) 31 20 * 1000 := by decide
theorem test_spill_return : let s := at_ 5 (spillDev [aSpill (some (9, 0)) none] 0#32)
    s.dev.mayRelease s.ctx = true ∧ (match exec (.spillReturn 9 4 { executed := true, status := 0x31, sub := 0 }) s with | .next u => u.dev.dsp.items.map (fun i => i.ds) | _ => []) = [.pending] := by decide
theorem test_spill_cancel : let s := at_ 5 (spillDev [aSpill none (some (9, 7))] 0#32)
    (match exec (.spillCancelReceive 9 7) s with | .next u => u.dev.dsp.items.length | _ => 5) = 0 ∧ s.dev.spillLimit ≤ s.dev.spillHeld := by decide
/-- A pair role, with pair links on ports 2 and 3, the partner node 9, the lease at its start at ST 0. -/
def pairDev (r : Role) (f : Pair → Pair) : Dev → Dev := fun d => let e := upDev (fun b => { b with pair := f { b.pair with role := r, epoch := 4, holder := 9 } }) d
  { e.setReg Off.fabPairCtrl 0x00090322#32 with hif := { e.hif with rings := [{ slice := 0, num := 1, state := .active }] } }
/-- It is time for a renewal, and there is room at the tick; one acknowledged moves the lease. -/
theorem test_lease_sent : let s := at_ 40000 (pairDev .active id)
    s.dev.pairLinkUp = true ∧ s.dev.fireRoom s.ctx = true ∧ s.dev.partner = 9 ∧ (s.dev.nextDue s.ctx).map (fun e => (e.use, e.n)) = some (.lease, 0)
      ∧ (match exec .leaseRenewalTimer s with | .next u => u.dev.fab.pair.lastSent | _ => 0) = 40000
      ∧ (match exec (.renewalAckReceive 4 39000 0) s with | .next u => u.dev.fab.pair.leaseEnd | _ => 0) = 199000 := by decide
theorem test_lease_heard : let s := at_ 100 (pairDev .standby id)
    (match exec (.renewalReceive 2 4 90) s with | .next u => (u.dev.fab.pair.leaseEnd, u.dev.fab.pair.offset) | _ => (0, 0)) = (160100, 10)
      ∧ (match exec (.renewalReceive 2 6 90) (at_ 100 (pairDev .syncing id)) with | .next u => u.dev.fab.pair.role | _ => .active) = .fenced
      ∧ ¬ (5 = s.dev.fab.pair.epoch + 1 ∧ s.dev.fab.pair.holder = s.dev.nodeId) ∧ (at_ 100 (pairDev .standby (fun p => { p with holder := 5 }))).dev.nodeId = 5 := by decide
/-- With a session each renewal leaves sealed on its pair link. -/
theorem test_lease_links : let s := at_ 40000 (fun d => let e := pairDev .active id d; { e with fab := { e.fab with sessions := [{ peer := 9, since := 0 }] } })
    s.dev.pairPorts = [2, 3] ∧ s.dev.portUp 2 = true ∧ s.dev.session? s.dev.partner = some { peer := 9, since := 0 } := by decide
theorem test_lease_guard : let s := at_ 200001 (pairDev .standby (fun p => { p with leaseEnd := 160000 })); let t := at_ 200000 (pairDev .standby (fun p => { p with leaseEnd := 160000 }))
    (match exec .leaseGuardExpiry s with | .next u => u.dev.tx | _ => []) = [.cas (witnessWord 4 9) (witnessWord 5 5)] ∧ t.st.toNat ≤ t.dev.fab.pair.leaseEnd + 40000 := by decide
theorem test_lease_active : let s := at_ 80000 (pairDev .active (fun p => { p with leaseEnd := 80000 }))
    (match exec .ackMissingTimeout s with | .next u => u.dev.fab.pair.swap | _ => none) = some .alone
      ∧ (match exec .activeLeaseExpiry s with | .next u => (u.dev.fab.pair.role, u.dev.hif.rings.map (fun r => r.state)) | _ => (.active, [])) = (.fenced, [.parked]) := by decide
theorem test_swap_again : let s := at_ 80000 (pairDev .fenced (fun p => { p with swapDue := some (.alone, 70000) }))
    s.dev.past 8 = true ∧ s.dev.endpointUp = true ∧ (match exec .witnessRetryTimer s with | .next u => u.dev.fab.pair.swap | _ => none) = some .alone := by decide
theorem test_swap_error : (match exec (.witnessSwapDone .error []) (at_ 7 (pairDev .standby (fun p => { p with swap := some .takeover }))) with | .next u => (u.dev.fab.pair.swap, u.dev.fab.pair.swapDue) | _ => (none, none))
    = (none, some (.takeover, 1000007)) := by decide
theorem test_takeover : (match exec (.witnessSwapDone (.found (witnessWord 4 9)) []) (at_ 7 (pairDev .standby (fun p => { p with swap := some .takeover }))) with
    | .next u => (u.dev.fab.pair.role, u.dev.fab.pair.epoch, u.dev.fab.pair.holder) | _ => (.fenced, 0, 0)) = (.activeAlone, 5, 5) := by decide
theorem test_swap_lost : (match exec (.witnessSwapDone (.found (witnessWord 5 9)) []) (at_ 7 (pairDev .active (fun p => { p with swap := some .alone }))) with | .next u => u.dev.fab.pair.role | _ => .active) = .fenced
    ∧ witnessWord 5 9 ≠ witnessWord 4 9 := by decide
theorem test_activate : let s := at_ 7 (pairDev .unpaired id)
    HostMay s true Off.fabPairCmd ∧ (match exec .pairActivate s with | .next u => u.dev.fab.pair.swap | _ => none) = some .activate
      ∧ (match exec .pairLeave s with | .next u => u.dev.fab.pair.cmdResult | _ => 9) = 1 := ⟨⟨by decide, by decide⟩, by decide⟩
theorem test_switchover : (match exec .pairSwitchover (at_ 7 (pairDev .active id)) with | .next u => (u.dev.fab.pair.role, u.dev.fab.pair.cmdBusy, u.dev.hif.rings.map (fun r => r.state)) | _ => (.fenced, true, []))
    = (.standby, false, [.parked]) := by decide
theorem test_copy_done : (match exec .syncCopyDone (at_ 7 (pairDev .syncing id)) with | .next u => u.dev.fab.pair.role | _ => .fenced) = .standby
    ∧ (match exec .syncCopyDone (at_ 7 (pairDev .activeAlone id)) with | .next u => u.dev.fab.pair.role | _ => .fenced) = .active := by decide
theorem test_mirror : (match exec (.mirrorReceive 4 (.repl 1 0 true 9)) (at_ 7 (pairDev .standby id)) with | .next u => u.dev.fab.repls.map (fun r => r.peer) | _ => []) = [9] := by decide

/-! ### Custodians -/
/-- Slot 0 with a change, one device custodian 5, a card in port 0. -/
def cusDev (f : Ceremony → Ceremony) : Dev → Dev := fun d => let e := ddrDev d
  { e with cus := { e.cus with cers := [f { num := 0, cfg := 0x80000005#32, paramLen := 64 }], ports := [{ num := 0, state := .active, present := true }],
                               scopes := [{ domain := none, m := 2, recs := [{ id := 5, digest := sha256 (zeros 194), remote := true }] }] } }
/-- A parameter block of class 5, register form, device scope, with no write list. -/
def aParam : Bytes := toLe 2 1 ++ [5, 0] ++ toLe 2 0x8000 ++ zeros 58
theorem test_cer_may : HostMay (at_ 5 (cusDev id)) true Off.cusCerCmd ∧ (at_ 5 (cusDev id)).dev.mgmtUp = true ∧ (at_ 5 (cusDev id)).dev.locked = false ∧ (at_ 5 (cusDev id)).dev.mgmtDrbg = true
    ∧ fld ((at_ 5 (cusDev id)).dev.reg Off.cusCerSel) 1 0 = 0 := ⟨⟨by decide, by decide⟩, by decide⟩
theorem test_cer_param : parmOk 0x80000005#32 64 aParam = true ∧ parmOk 0x80000006#32 64 aParam = false := by decide
theorem test_cer_end : let s := at_ 5 (cusDev (fun k => { k with state := .opened, cls := 5 }))
    (match exec .ceremonyEnd s, exec .ceremonyAbandon s with | .next u, .next v => ((u.dev.cer 0).state, (u.dev.cer 0).result, (v.dev.cer 0).result) | _, _ => (.opened, 9, 9)) = (.idle, 0, 14) := by decide
theorem test_cer_window : let s := at_ 120000000001 (cusDev (fun k => { k with state := .collecting, cls := 5 })); let t := at_ 120000000000 (cusDev (fun k => { k with state := .collecting, cls := 5 }))
    (match exec (.ceremonyWindowExpiry 0) s with | .next u => (u.dev.cer 0).result | _ => 9) = 12 ∧ t.st.toNat ≤ t.dev.windowEnd (t.dev.cer 0) ∧ t.dev.endpointUp = true := by decide
theorem test_cer_open : let s := at_ 300000000000 (cusDev (fun k => { k with state := .opened, cls := 5 }))
    (match exec (.ceremonyOpenTimeout 0) s with | .next u => ((u.dev.cer 0).state, (u.dev.cer 0).result) | _ => (.opened, 9)) = (.idle, 13) := by decide
/-- An approval of an unknown custodian is rejected, and the ceremony goes on. -/
theorem test_cer_unknown : let s := at_ 5 (cusDev (fun k => { k with state := .collecting, cls := 5 }))
    (match exec (.ceremonySubmit (zeros 300) .done) s with | .next u => ((u.dev.cer 0).state, (u.dev.cer 0).result, (u.dev.cer 0).apps.length) | _ => (.idle, 0, 9)) = (.collecting, 7, 0) := by decide
/-- One approval more meets a quorum of one, so the slot opens. -/
theorem test_cer_quorum : ({ num := 0, apps := [{ id := 5, loc := true }], required := 1 } : Ceremony).quorumMet = true ∧ ({ num := 0, apps := [{ id := 5, loc := true }], required := 2 } : Ceremony).quorumMet = false := by decide
def cardDev (p : CardPort) : Dev → Dev := fun d => let e := cusDev (fun k => { k with state := .collecting, cls := 5 }) d
  { e with cus := { e.cus with ports := [p] } }.setReg Off.cusPortCtrl 1#32
theorem test_card : (match exec (.cardInsert 0) (at_ 5 (cardDev { num := 0 })) with | .next u => (u.dev.cardPort 0).trying | _ => none) = some false
    ∧ (match exec (.cardAtrTimeout 0) (at_ 5 (cardDev { num := 0, trying := some false })) with | .next u => (u.dev.cardPort 0).trying | _ => none) = some true
    ∧ (match exec (.cardAtrTimeout 0) (at_ 5 (cardDev { num := 0, trying := some true })) with | .next u => (u.dev.cardPort 0).state | _ => .empty) = .fault
    ∧ (match exec (.cardRemove 0) (at_ 5 (cardDev { num := 0, state := .active, present := true })) with | .next u => (u.dev.cardPort 0).state | _ => .active) = .empty := by decide

/-! ### Tamper -/
/-- Source 9 at a class. -/
def tmpDev (cls : Nat) (f : Tmp → Tmp) : Dev → Dev := fun d =>
  let e := cusDev (fun k => { k with state := .collecting, cls := 5 }) d
  { e with tmp := f { e.tmp with classes := bumpTo cls }, key := { e.key with bbkek := .valid, bbkekVal := [1, 2] } }
where bumpTo (cls : Nat) : List Nat := (List.range 32).map (fun i => if i = 9 then cls else 2)
theorem test_alarm_notify : let e := (at_ 5 (tmpDev 1 id)).dev.alarm ⟨5, {}⟩ 9
    (e.tmp.lock, e.reg Off.tmpNotify, e.tmp.counts.getD 9 0) = (false, 0x200#32, 1) := by decide
theorem test_alarm_lock : let e := (at_ 5 (tmpDev 2 id)).dev.alarm ⟨5, {}⟩ 9
    (e.tmp.lock, e.tmp.zeroised, e.tmp.latched, (e.cer 0).state, (e.cer 0).result) = (true, false, 0x200#32, .idle, 15) := by decide
set_option maxRecDepth 8000 in
theorem test_alarm_zeroise : let e := (at_ 5 (tmpDev 3 id)).dev.alarm ⟨5, {}⟩ 9
    (e.tmp.lock, e.tmp.zeroised, e.key.bbkek, e.key.bbkekVal, e.rng.drbgs.map (fun g => g.state)) = (true, true, .erased, [], [.uninst]) := by decide
theorem test_alarm_window : let s := at_ 10006 (tmpDev 2 (fun t => { t with event := some { st := 5, stamp := 0, counts := [(9, 1)] } }))
    (match exec .alarmWindowClose s with | .next u => (u.dev.tmp.event, u.dev.evl.queue.map (fun q => q.typ)) | _ => (none, [])) = (none, [Ev.tamperEvent]) := by decide
theorem test_shroud : let s := at_ 50000 (tmpDev 2 (fun t => { t with badPattern := 4#4 }))
    (match exec (.shroudPatternPeriod 0x100000000#64) s with | .next u => u.dev.tmp.counts.getD 1 0 | _ => 0) = 1 := by decide
theorem test_battery : let s := at_ 5 (fun d => let e := tmpDev 3 id d; { e with pwr := { e.pwr with powered := false } })
    (match exec (.batteryAlarm (.integrity true)) s with | .next u => (u.dev.tmp.lock, u.dev.key.bbkek, u.dev.tmp.batt.map (fun e => e.src)) | _ => (false, .valid, [])) = (true, .erased, [9]) := by decide
theorem test_pair : let s := at_ 5 (fun d => let e := tmpDev 2 id d; { e with tim := { e.tim with state := .locked } })
    (match exec .rtcPairTimer s with | .next u => u.dev.tmp.pair | _ => none) = some (5, 0) ∧ HostMay s true Off.tmpCmd := ⟨by decide, by decide, by decide⟩
/-- Source 9 latched under LOCK, an open UNLOCK ceremony that lists the write. -/
def unlockDev (f : Tmp → Tmp) : Dev → Dev := fun d =>
  tmpDev 2 (fun t => f { t with lock := true, latched := 0x200#32 }) { (cusDev id d) with pwr := d.pwr } |> fun e =>
    { e with cus := { e.cus with cers := [{ num := 0, state := .opened, cls := 2, param := aParam.take 6 ++ toLe 2 1 ++ zeros 56 ++ toLe 4 Off.tmpUnlock ++ toLe 4 1 }] } }
theorem test_unlock_may : let s := at_ 5 (unlockDev id)
    HostMay s true Off.tmpUnlock ∧ HostMay s true Off.tmpTokenCtrl ∧ s.dev.quorum Off.tmpUnlock 1#32 = true ∧ s.dev.quorum Off.tmpUnlock 3#32 = false :=
  ⟨⟨by decide, by decide⟩, ⟨by decide, by decide⟩, by decide⟩
/-- Source 9 is a vendor source: no unlock without a token. -/
theorem test_unlock_vendor : (match exec (.tamperUnlock 1#32) (at_ 5 (unlockDev id)) with | .next u => (u.dev.tmp.lock, u.dev.tmp.unlockResult) | _ => (false, 0)) = (true, 3)
    ∧ (match exec (.tamperUnlock 1#32) (at_ 5 (unlockDev (fun t => { t with active := 0x200#32 }))) with | .next u => u.dev.tmp.unlockResult | _ => 0) = 2 := by decide
theorem test_unlock_done : (match exec (.tamperUnlock 1#32) (at_ 5 (unlockDev (fun t => { t with tokenMask := some 0x200#32 }))) with | .next u => (u.dev.tmp.lock, u.dev.tmp.latched, u.dev.tmp.unlockResult) | _ => (true, 1, 9)) = (false, 0, 0) := by decide
/-- An empty token has no form. -/
theorem test_token_form : (match exec (.tmpTokenGo [] .done) (at_ 5 (unlockDev id)) with | .next u => u.dev.tmp.tokenStat | _ => 0) = 3 := by decide

/-! ### Evidence and recorder -/
/-- One cause queued behind one record of the same type and payload, or another. -/
def evlDev (pay : Bytes) (ex : Bool) : Dev → Dev := fun d =>
  { d with evl := { d.evl with recs := [{ typ := 0x50, stamp := 1, payload := zeros 28, repeats := 0, link := zeros 16 }], queue := [{ typ := 0x50, stamp := 7, payload := pay }], exporting := ex } }
theorem test_append_repeat : (match exec .evidenceAppend (at_ 5 (evlDev (zeros 28) false)) with | .next u => (u.dev.evl.recs.map (fun r => r.repeats), u.dev.evl.queue) | _ => ([], [])) = ([1], []) := by decide
theorem test_append_new : let e := (at_ 5 (evlDev [1] false)).dev.evl
    e.matchesLast { typ := 0x50, stamp := 7, payload := [1] } = false ∧ e.recs.length < 65535 ∧ e.lost = 0 := by decide
theorem test_merge : (match exec .mramMergeFlush (at_ 1000000 (evlDev [] false)) with | .next u => (u.dev.evl.head, u.dev.mem.mergeSt) | _ => (0, 0)) = (1, 1000000) := by decide
/-- An open EVIDENCE_EXPORT ceremony that lists the write of 1, the queue empty. -/
def exportDev (f : Dev → Dev) : Dev → Dev := fun d => f { d with
  cus := { d.cus with cers := [{ num := 0, state := .opened, cls := 7, param := toLe 2 1 ++ [7, 0] ++ toLe 2 0x8000 ++ toLe 2 1 ++ zeros 56 ++ toLe 4 Off.evlExportCmd ++ toLe 4 1 }] } }
theorem test_export_may : let s := at_ 5 (exportDev id)
    HostMay s true Off.evlExportCmd ∧ s.dev.quorum Off.evlExportCmd 1#32 = true ∧ s.dev.quorum Off.evlExportCmd 3#32 = false ∧ s.otp.root = 2 ∧ s.dev.mgmtUp = true ∧ s.dev.evl.queue = [] :=
  ⟨⟨by decide, by decide⟩, by decide⟩
theorem test_export_flush : (match exec (.evidenceExport 1#32) (at_ 5 (exportDev (fun d => { d with erc := { d.erc with flushTo := some 0 } }))) with | .next u => u.dev.evl.expResult | _ => 0) = 2 := by decide
theorem test_export_refused : (match exec (.exportDone true) (at_ 5 (evlDev [] true)) with | .next u => (u.dev.evl.exporting, u.dev.evl.expResult) | _ => (true, 0)) = (false, 3) := by decide
def ercDev (fl : Option Nat) : Dev → Dev := fun d =>
  { (exportDev id d) with
    erc := { d.erc with seq := 1, flushTo := fl, ring := [{ seq := 1, trig := 4, first := 0, last := 0, lastNs := 0, detail := zeros 32, snaps := [] }] },
    cus := { d.cus with cers := [{ num := 0, state := .opened, cls := 8, param := toLe 2 1 ++ [8, 0] ++ toLe 2 0x8000 ++ toLe 2 1 ++ zeros 56 ++ toLe 4 Off.ercClear ++ toLe 4 1 }] } }
theorem test_erc_may : let s := at_ 5 (ercDev none)
    HostMay s true Off.ercCmd ∧ HostMay s true Off.ercClear ∧ s.dev.quorum Off.ercClear 1#32 = true ∧ s.dev.quorum Off.ercClear 3#32 = false := ⟨⟨by decide, by decide⟩, ⟨by decide, by decide⟩, by decide⟩
/-- Within 100 µs, the reset value, an equal trigger coalesces; a later one does not. -/
theorem test_erc_coalesce : (((at_ 5 (ercDev none)).dev.record ⟨5, {}⟩ 4 (zeros 32)).erc.ring.map (fun r => r.count), ((at_ 5 (ercDev none)).dev.record ⟨500000000, {}⟩ 4 (zeros 32)).erc.ring.length)
    = ([1], 2) := by decide
theorem test_erc_flush : (match exec .recorderFlushDone (at_ 5 (ercDev (some 1))) with | .next u => (u.dev.erc.ring.map (fun r => r.flushed), u.dev.erc.mram.length, u.dev.erc.flushTo) | _ => ([], 0, none)) = ([true], 1, none) := by decide
theorem test_erc_clear : (match exec (.recorderClear 1#32) (at_ 5 (ercDev none)) with | .next u => (u.dev.erc.ring.length, u.dev.erc.seq, u.dev.evl.queue.map (fun q => q.typ)) | _ => (9, 9, [])) = (0, 1, [0x71]) := by decide

/-! ### Life cycle and debug -/
/-- A request for FIELD to FIELD_RETURN, counter 3, in its form, for a unit ID. -/
def aRequest (uid : Bytes) : Bytes := toLe 2 1 ++ toLe 2 2 ++ toLe 4 96 ++ uid ++ toLe 4 3 ++ [3, 4] ++ zeros 18 ++ zeros 96
theorem test_lc_may : HostMay (at_ 5 id) true Off.lcsReqCtrl ∧ HostMay (at_ 5 id) true Off.lcsGo := ⟨⟨by decide, by decide⟩, by decide, by decide⟩
set_option maxRecDepth 8000 in
theorem test_lc_form : (match exec (.lcRequestLoad [] .done) (at_ 5 id) with | .next u => u.dev.lcs.reqResult | _ => 0) = 1
    ∧ (match exec (.lcRequestLoad ((aRequest (zeros 16)).take 60) .done) (at_ 5 id) with | .next u => u.dev.lcs.reqResult | _ => 0) = 2 := by decide
theorem test_lc_state : State.reset.otp.counter = 3 ∧ State.reset.otp.state = .field ∧ State.reset.otp.inTransition = false ∧ byteAt (aRequest (zeros 16)) 28 = LcState.field.code := by decide
/-- A GO in FACTORY_LOCKED (no ceremony) with a request for FIELD accepted. -/
def goState (f : Dev → Dev) : State := { at_ 5 (fun d => f { d with lcs := { d.lcs with reqLoaded := some (3, 2) } }) with otp := { copyA := 0xFFFF, copyB := 0xFFFF, recs := [0x3F03FF01, 0x3F0FFF02] } }
theorem test_go_busy : (match exec (.lcGo 0x80000203#32) (goState (fun d => { d with hif := { d.hif with rings := [{ slice := 0, num := 0, state := .held }] } })) with | .next u => (u.dev.lcs.goResult, u.otp.recs.length) | _ => (0, 0)) = (3, 2)
    ∧ (goState id).otp.state = .factoryLocked ∧ (match exec (.lcGo 0x80000303#32) (goState id) with | .next u => u.dev.lcs.goResult | _ => 0) = 2 := by decide
set_option maxRecDepth 8000 in
theorem test_go : (match exec (.lcGo 0x80000203#32) (goState id) with | .next u => (u.otp.recs, u.dev.pwr.stage, u.dev.pwr.cause, u.dev.lcs.report) | _ => ([], 0, 0, none))
    = ([0x3F03FF01, 0x3F0FFF02, 0x304], 1, 2, some (2, 3)) := by decide
/-- An accepted response, or none, under FACTORY_LOCKED or FIELD. -/
def dbgState (f : Dev → Dev) : State := { goState f with otp := { copyA := 0xFFFF, copyB := 0xFFFF, recs := [0x3F03FF01, 0x3F0FFF02] } }
theorem test_dbg_may : HostMay (dbgState id) true Off.lcsDbgCmd ∧ HostMay (dbgState id) true Off.lcsDbgTokenCtrl ∧ HostMay (dbgState id) true Off.lcsDbgOpen ∧ (dbgState id).otp.both LcState.reopens = true
    ∧ testOtp.both LcState.reopens = false := ⟨⟨by decide, by decide⟩, ⟨by decide, by decide⟩, ⟨by decide, by decide⟩, by decide⟩
theorem test_dbg_noentropy : (match exec .debugChallenge (dbgState id) with | .next u => u.dev.lcs.dbgResult | _ => 0) = 2 := by decide
theorem test_dbg_open : (match exec (.debugOpen 0x00070001#32) (dbgState (fun d => { d with lcs := { d.lcs with resp := some (1, 60, 7) } })) with | .next u => (u.dev.lcs.scope, u.dev.lcs.expiry, u.dev.lcs.resp) | _ => (0, 0, none))
    = (1, 60000000005, none) := by decide
theorem test_dbg_close : (match exec .debugClose (dbgState (fun d => { d with lcs := { d.lcs with scope := 2, expiry := 9 } })) with | .next u => u.dev.lcs.scope | _ => 9) = 0
    ∧ (match exec .debugExpiry (dbgState (fun d => { d with lcs := { d.lcs with scope := 2, expiry := 5 } })) with | .next u => u.dev.lcs.scope | _ => 9) = 0 := by decide
/-- A response that was refused, or has no form. -/
theorem test_dbg_form : (match exec (.debugTokenGo (zeros 200) .done) (dbgState id) with | .next u => u.dev.lcs.dbgResult | _ => 0) = 3
    ∧ (match exec (.debugTokenGo [] .done) (dbgState id) with | .next u => u.dev.lcs.dbgResult | _ => 0) = 3 := by decide
/-- SRAM is in no region of this table: the access is denied. A region for it lets the master in. -/
def dbgMem (w : Bool) : State := dbgState (fun d => { d with
  lcs := { d.lcs with scope := 2 }
  acc := if w then { d.acc with committed := d.acc.committed ++ [{ baseLo := 0x08000000#32, baseHi := 0, cfg := 0x00001801#32, perm := 0xFFFFFFFF#32 }] } else d.acc })
theorem test_dbg_resume : let s := dbgMem true
    let t : State := { s with dev := { s.dev with pwr := { s.dev.pwr with mgmtOk := [false, true], mgmtHalt := [true, false] } } }
    (match exec (.debugAccess false 0 [] (some (0, false))) t with | .next u => (u.dev.pwr.mgmtOk, u.dev.pwr.mgmtHalt) | _ => ([], [])) = ([true, true], [false, false])
      ∧ t.dev.lcs.scope ≠ 0 ∧ t.dev.pwr.mgmtHalt.getD 0 false = true
      ∧ (match exec .debugClose t with | .next u => u.dev.pwr.mgmtHalt | _ => []) = [false, false] := by decide
theorem test_dbg_halt : (match exec (.debugAccess false 0 [] (some (0, true))) (dbgMem true) with | .next u => (u.dev.pwr.mgmtOk, u.dev.pwr.mgmtHalt) | _ => ([], [])) = ([false, true], [true, false])
    ∧ 2 ≤ (dbgMem true).dev.dbgScope (dbgMem true).otp ∧ (dbgMem true).dev.pwr.powered = true ∧ (dbgMem true).dev.pwr.mgmtOk = [true, true] := by decide
theorem test_dbg_denied : (match exec (.debugAccess false 0x08000000 [0, 0] none) (dbgMem false) with | .next u => (u.dev.acc.dbgError, u.dev.rdata) | _ => (false, 1)) = (true, 0) := by decide
theorem test_dbg_write : (match exec (.debugAccess true 0x08000010 [7] none) (dbgMem true) with | .next u => (u.dev.acc.dbgError, u.mem) | _ => (true, [])) = (false, [(0x08000010, 7)]) := by decide
theorem test_jtag : (match exec .jtagIdcode (at_ 5 id) with | .next u => u.dev.lcs.jtag | _ => 0) = 1 ∧ (match exec (.jtagBypass true) (at_ 5 (fun d => { d with lcs := { d.lcs with bypass := true } })) with | .next u => u.dev.tx | _ => []) = [.tdo 1 1] := by decide
theorem test_memtest : (match exec (.memoryTestMode true) { at_ 5 id with otp := testOtp } with | .next u => u.dev.lcs.memTest | _ => false) = true ∧ (at_ 5 id).otp.testsAllowed = false := by decide
/-- A BLANK unit. -/
theorem test_fuse : let s := { at_ 5 id with otp := { copyA := 0, copyB := 0, recs := [], words := [(1, 2, 0x5#32)] } }
    (s.otp.state, s.otp.inTransition, s.otp.openRec) = (.blank, false, none) ∧ (match exec (.fuseProgram 1 2 0x2#32) s with | .next u => u.otp.word 1 2 | _ => 0) = 0x7#32 := by decide

/-! ### Access rules -/
def accDev (f : AccT → AccT) : Dev → Dev := fun d => { d with acc := f { d.acc with staged := [{ baseLo := 0x1000#32, baseHi := 0, cfg := 0x00000C01#32, perm := 0 }] } }
theorem test_acc_may : let s := at_ 5 (accDev id)
    HostMay s true Off.accCommit ∧ HostMay s true Off.accFence ∧ HostMay s true Off.accViolStat := ⟨⟨by decide, by decide⟩, ⟨by decide, by decide⟩, by decide, by decide⟩
theorem test_acc_commit : (match exec .accCommit (at_ 5 (accDev id)) with | .next u => (u.dev.acc.epoch, u.dev.acc.committed.length, u.dev.acc.older.isSome) | _ => (0, 0, false)) = (1, 1, true) := by decide
/-- A base that is no multiple of the size. -/
theorem test_acc_bad : (match exec .accCommit (at_ 5 (accDev (fun a => { a with staged := [{ baseLo := 0x1000#32, baseHi := 0, cfg := 0x00000D01#32, perm := 0 }] }))) with | .next u => (u.dev.acc.result, u.dev.acc.badRgn, u.dev.acc.epoch) | _ => (0, 9, 9)) = (1, 0, 0) := by decide
theorem test_acc_fence : (match exec .accFenceDone (at_ 5 (accDev (fun a => { a with fence := true }))) with | .next u => u.dev.acc.fence | _ => true) = false
    ∧ (match exec .commitReplicated (at_ 5 (accDev (fun a => { a with older := some [], fence := true }))) with | .next u => u.dev.acc.older | _ => some []) = none := by decide
theorem test_acc_viol : (match exec .violationClear (at_ 5 (accDev (fun a => { a with viol := 3#32 }))) with | .next u => u.dev.acc.viol | _ => 9) = 2#32 := by decide

/-! ### Memories, power, resets, start-up -/
/-- DDR5 ready, 15 MiB of it usable; configuration block A and an anchor present. -/
def memDev (f : Mem → Mem) : Dev → Dev := fun d =>
  { d with mem := f { d.mem with ddrReady := true, usable := 15 }, cfg := { d.cfg with a := some { gen := 4, entries := [] } }, jnl := { d.jnl with anchor := some { nextSeq := 0, recs := [], fresh := 0, completed := [], rings := [], slices := [], epoch := 0, crcOk := true } } }
theorem test_scrub : let s := at_ 5 (memDev id)
    s.dev.endpointUp = true ∧ s.dev.mem.installed = 0x1000000 ∧ (match exec (.sramScrub 0x08000000 1) s with | .next u => (u.dev.reg Off.memCeSram).toNat | _ => 0) = 1
      ∧ (match exec (.mramScrub 0x20EA0000 3) s with | .next u => (u.dev.cfg.a, u.dev.mem.ueMram) | _ => (none, 0)) = (none, 1) := by decide
theorem test_patrol : (match exec (.ddrPatrolScrub (ddrBase + 0xFFFF80) [] true) (at_ 5 (memDev id)) with | .next u => ((u.dev.reg Off.memScrubStat).toNat, bit (u.dev.reg Off.memEvt) 3) | _ => (0, false)) = (1, true) := by decide
theorem test_mgmt : (match exec (.mgmtDisagree 1) (at_ 5 id) with | .next u => (u.dev.pwr.mgmtOk, u.dev.erc.flushTo) | _ => ([], none)) = ([true, false], some 1)
    ∧ (match exec (.mgmtPairResetDone 1) (at_ 5 (fun d => { d with pwr := { d.pwr with mgmtOk := [true, false] } })) with | .next u => u.dev.pwr.mgmtOk | _ => []) = [true, true] := by decide
theorem test_save_may : HostMay (at_ 5 (memDev id)) true Off.cfgCmd ∧ (at_ 5 (memDev id)).dev.mgmtUp = true ∧ (at_ 5 (memDev id)).dev.cfg.newestB = false := ⟨⟨by decide, by decide⟩, by decide⟩
theorem test_save_done : (match exec (.configSaveDone true) (at_ 5 (fun d => { d with cfg := { d.cfg with a := some { gen := 4, entries := [] }, job := some { gen := 5, entries := [] } } })) with
    | .next u => (u.dev.cfg.newest.map (fun x => x.gen), u.dev.cfg.job) | _ => (none, none)) = (some 5, none) := by decide

/-- Grove 0 on, in service, its enable bit set. -/
def pwrDev (f : Dev → Dev) : Dev → Dev := fun d =>
  f ({ d with pwr := { d.pwr with groveOn := 1#12, groveOp := [3, 2] }, lan := { d.lan with groves := [{ num := 0, state := .inService }], twins := [] } }.setReg Off.pwrGroveEn 1#32)
theorem test_grove_may : HostMay (at_ 5 (pwrDev id)) true Off.pwrGroveEn := ⟨by decide, by decide⟩
theorem test_grove_on : (match exec (.groveEnable 1) (at_ 5 (pwrDev id)) with | .next u => u.dev.domWaking 217 | _ => false) = true := by decide
set_option maxRecDepth 8000 in
theorem test_grove_off : (match exec (.groveDisable 0) (at_ 5 (pwrDev id)) with | .next u => (u.dev.groveOn 0, (u.dev.grove 0).state) | _ => (true, .held)) = (false, .gated) := by decide
/-- An item runs there: the grove drains. -/
def runItem : Item := { slot := 4, seq := 1, slice := 0, ring := 0, desc := zeros 128, input := [], acceptSt := 0, deadline := 9, key := 9, ds := .running, grove := 0 }
theorem test_grove_drain : (match exec (.groveDisable 0) (at_ 5 (pwrDev (fun d => { d with dsp := { d.dsp with items := [runItem] } }))) with | .next u => (u.dev.groveOn 0, (u.dev.grove 0).draining) | _ => (false, false)) = (true, true) := by decide
theorem test_domain : let w (st : Nat) : Dev → Dev := pwrDev (fun d => { d with pwr := { d.pwr with doms := [{ num := 217, state := 1, step := st }] } })
    (match exec (.domainWakeDone 217) (at_ 5 (w 2)) with | .next u => u.dev.pwr.doms.map (fun x => x.step) | _ => []) = [3]
      ∧ (match exec (.domainWakeTimeout 217) (at_ 5 (w 0)) with | .next u => u.dev.pwr.doms.map (fun x => (x.state, x.fault)) | _ => []) = [(0, true)] := by decide
theorem test_boost : (match exec (.boostVoltageDrop 929) (at_ 5 (pwrDev id)) with | .next u => u.dev.pwr.groveOp | _ => []) = [2, 2] := by decide
theorem test_dvfs : let s := at_ 100000 (pwrDev id)
    s.dev.endpointUp = true ∧ s.dev.mgmtUp = true ∧ s.dev.warning = false ∧ s.dev.locked = false ∧ s.dev.past 6 = true ∧ s.dev.pwr.evalSt + 100000 ≤ s.st.toNat := by decide
def warnDev (f : Dev → Dev) : Dev → Dev := fun d => f { d with pwr := { d.pwr with warnPfail := true, warnStage := 9, groveOp := [3] } }
theorem test_warning : (match exec (.supplyWarning true 1000) (at_ 7 (fun d => { d with pwr := { d.pwr with groveOp := [3] }, cfg := { d.cfg with job := some { gen := 1, entries := [] } } })) with
    | .next u => (u.dev.warning, u.dev.pwr.warnSt, u.dev.pwr.groveOp, u.dev.cfg.job) | _ => (false, 0, [], none)) = (true, 7, [2], none) := by decide
set_option maxRecDepth 20000 in
theorem test_flush_start : let s := at_ 20000 (warnDev id)
    s.dev.warning = true ∧ s.dev.endpointUp = true ∧ s.dev.past 8 = true ∧ (match exec .anchorFlushStart s with | .next u => (u.dev.jnl.flushBusy, u.dev.jnl.flushStart) | _ => (false, 0)) = (true, 20000)
      ∧ (∀ t ∈ s.dev.lan.twins, t.running = none) ∧ 8 < s.dev.pwr.warnStage := by decide
set_option maxRecDepth 20000 in
theorem test_flush_done : (match exec .anchorFlushDone (at_ 5 (warnDev (fun d => { d with jnl := { d.jnl with flushBusy := true, nextSeq := 44 } }))) with
    | .next u => (u.dev.jnl.flushDone, u.dev.jnl.anchor.map (fun a => a.nextSeq)) | _ => (false, none)) = (true, some 44) := by decide
set_option maxRecDepth 20000 in
theorem test_warning_over : (match exec (.supplyWarningClear 850) (at_ 5 (warnDev (fun d => { d with jnl := { d.jnl with flushDone := true } }))) with
    | .next u => (u.dev.warning, u.dev.jnl.flushDone, u.dev.pwr.vmin) | _ => (true, true, 0)) = (false, false, 850) := by decide
set_option maxRecDepth 20000 in
theorem test_cold : (match exec .coldReset (at_ 9 (fun d => { d with hif := { d.hif with rings := [{ slice := 0, num := 1, state := .active }] } })) with
    | .next u => (u.st, u.dev.pwr.stage, u.dev.pwr.cause, u.dev.hif.rings.map (fun r => r.state)) | _ => (0, 0, 0, [])) = (9, 1, 1, [.parked]) := by decide
theorem test_held : (match exec .coldReset (at_ 9 (warnDev id)) with | .next u => (u.dev.pwr.held, u.dev.pwr.stage) | _ => (none, 0)) = (some .cold, 9) := by decide
/-- STANDBY: PERST_N does not wake. -/
theorem test_standby : let s := at_ 9 (fun d => { d with pwr := { d.pwr with standby := true } })
    (match exec (.warmReset .perst) s with | .next u => u.dev.pwr.stage | _ => 0) = 9 ∧ HostMay (at_ 9 id) true Off.pwrCmd ∧ (at_ 9 id).dev.quiet = true ∧ (at_ 9 (warnDev id)).dev.quiet = false :=
  ⟨by decide, ⟨by decide, by decide⟩, by decide⟩
set_option maxRecDepth 20000 in
theorem test_wake : (match exec (.standbyWake .warmPin) (at_ 9 (fun d => { d with pwr := { d.pwr with standby := true } })) with | .next u => (u.dev.pwr.standby, u.dev.pwr.stage, u.dev.pwr.cause) | _ => (true, 0, 0)) = (false, 1, 7) := by decide
theorem test_power_loss : let s := { at_ 9 (tmpDev 2 (fun t => { t with lock := true })) with mem := [(0x08000000, 1), (0x20000004, 2)] }
    (match exec .powerLoss s with | .next u => (u.st, u.mem, u.dev.tmp.lock, u.dev.pwr.powered) | _ => (1, [], false, true)) = (0, [(0x20000004, 2)], true, false) := by decide
theorem test_power_on : let s := at_ 9 (tmpDev 2 (fun t => { t with lock := true }))
    (match exec (.powerOnReset true) s with | .next u => (u.dev.pwr.boots, u.dev.pwr.stage, u.dev.tmp.startedLocked, u.dev.key.bbkek) | _ => (0, 0, false, .absent)) = (1, 1, true, .valid)
      ∧ (match exec .powerLoss (at_ 9 (fun d => { d with pwr := { d.pwr with powered := false } })) with | .next u => u.st | _ => 0) = 9 := by decide
set_option maxRecDepth 8000 in
theorem test_cell : (match exec (.powerOnReset false) (at_ 9 (tmpDev 2 id)) with | .next u => (u.dev.tmp.vbatLost, u.dev.key.bbkek) | _ => (false, .valid)) = (true, .erased) := by decide

/-- Start-up at a stage. -/
def stageDev (n : Nat) (f : Dev → Dev) : Dev → Dev := fun d => f { d with pwr := { d.pwr with stage := n } }
theorem test_stage_due : (at_ 5 (stageDev 1 id)).dev.stageDue 1 = true ∧ (at_ 5 (stageDev 2 id)).dev.stageDue 2 = true ∧ (at_ 5 (stageDev 3 id)).dev.stageRuns 3 = true
    ∧ (at_ 5 (stageDev 4 id)).dev.stageRuns 4 = true ∧ (at_ 5 id).dev.stageDue 1 = false := by decide
theorem test_fuse_load : (match exec (.fuseLoad true false) (at_ 5 (stageDev 1 id)) with | .next u => (u.dev.pwr.stage, u.dev.lcs.rootBad) | _ => (0, false)) = (2, true)
    ∧ (match exec (.fuseLoad false true) (at_ 5 (stageDev 1 id)) with | .next u => (u.dev.pwr.stage, u.dev.pwr.halted) | _ => (0, false)) = (1, true) := by decide
set_option maxRecDepth 20000 in
theorem test_transition : (match exec (.lifecycleDecode none) transState with | .next u => (u.otp.state, u.otp.openRec, u.otp.inTransition, u.dev.cfg.a, u.dev.pwr.stage) | _ => (.blank, none, true, none, 0)) = (.fieldReturn, none, false, none, 3) := by decide
set_option maxRecDepth 20000 in
theorem test_stuck : transState.otp.openRec = some 0x308#32 ∧ lcStepUsed (recTarget 0x308#32) 3 = true ∧ lcStepDone 0x308#32 3 = false
    ∧ (match exec (.lifecycleDecode (some 3)) transState with | .next u => (u.dev.lcs.stuck, u.dev.pwr.stage, u.dev.cfg.a.isSome, u.otp.recs) | _ => (false, 0, false, [])) = (true, 2, true, [0x3F0FFF04#32, 0x3F08#32]) := by decide
theorem test_boot_image : (match exec (.bootImageVerify { version := 3, sigOk := false } { version := 2, ddrParams := 0x11#32 } false) (at_ 5 (stageDev 3 id)) with | .next u => (u.dev.pwr.stage, u.dev.pwr.imageB, u.dev.pwr.ddrParams) | _ => (0, false, 0)) = (4, true, 0x11#32) := by decide
set_option maxRecDepth 20000 in
theorem test_training : let s := { at_ 5 (stageDev 4 id) with mem := [(0x08000000, 1), (ddrBase, 2)] }
    (match exec (.ddr5Training true) s with | .next u => (u.mem, u.dev.mem.train, u.dev.pwr.stage, u.dev.mem.usable) | _ => ([], 0, 0, 0)) = ([(0x08000000, 1)], 1, 5, 61440)
      ∧ (match exec (.ddr5Training false) s with | .next u => (u.dev.mem.train, u.dev.pwr.halted) | _ => (0, false)) = (3, true) := by decide
theorem test_late_stages : (at_ 5 (stageDev 6 id)).dev.stageRuns 6 = true ∧ (at_ 5 (stageDev 7 id)).dev.stageRuns 7 = true ∧ (at_ 5 (stageDev 8 id)).dev.stageRuns 8 = true := by decide
set_option maxRecDepth 20000 in
theorem test_config_load : (match exec .configLoad (at_ 5 (stageDev 6 id)) with | .next u => (u.dev.pwr.stage, u.dev.cfg.defaulted, u.dev.key.store) | _ => (0, false, .ready)) = (7, true, .uninit) := by decide
theorem test_time_start : (match exec .timeRefStart (at_ 5 (stageDev 7 id)) with | .next u => (u.dev.pwr.stage, u.dev.tim.trefSince, u.dev.tim.nonceLive) | _ => (0, 0, true)) = (8, 5, false) := by decide
/-- A serving management DRBG, and an anchor with one pending record. -/
def anchorRecd : Rec := { slot := 4, seq := 7, reqId := 3, slice := 1, ring := 0, st := .inService, remaining := 10 }
def recovDev (f : Dev → Dev) : Dev → Dev := stageDev 8 (fun d => f { d with
  jnl := { d.jnl with flushDone := true, anchor := some { nextSeq := 8, recs := [anchorRecd], fresh := 5, completed := [], rings := [], slices := [], epoch := 0, crcOk := true } }
  rng := { d.rng with state := .running, drbgs := [{ num := 12, state := .serving }] } })
theorem test_recovery : let s := at_ 1000 (recovDev id)
    s.dev.mgmtDrbg = true ∧ (match exec .journalRecovery s with
      | .next u => (u.dev.pwr.stage, u.dev.jnl.nextSeq, u.dev.jnl.recs.map (fun r => (r.seq, r.st, r.deadline)), u.dev.jnl.flushDone) | _ => (0, 0, [], true)) = (9, 8, [(7, .awaiting, 11000)], false) := by decide
theorem test_no_anchor : (match exec .journalRecovery (at_ 1000 (recovDev (fun d => { d with jnl := { d.jnl with flushDone := false, hiStored := some 2 } }))) with
      | .next u => (u.dev.jnl.nextSeq, u.dev.jnl.recs) | _ => (0, [])) = (3 * 2 ^ 40, []) := by decide
theorem test_fenced_after : (match exec .journalRecovery (at_ 1000 (recovDev (fun d => { d with pwr := { d.pwr with jnlLost := false }, fab := { d.fab with pair := { d.fab.pair with role := .active } } }))) with
      | .next u => (u.dev.pwr.stage, u.dev.fab.pair.role) | _ => (0, .active)) = (9, .fenced) := by decide

/-! ### Host accesses -/
def hostState (f : Dev → Dev) : State := at_ 0x500000007 f
theorem test_host_may : let s := hostState id
    HostMay s false Off.timStLo ∧ HostMay s false (Off.timStLo + 4) ∧ HostMay s true Off.pwrEvt ∧ isLo Off.timStLo = true ∧ isHi (Off.timStLo + 4) = true :=
  ⟨⟨by decide, by decide⟩, ⟨by decide, by decide⟩, ⟨by decide, by decide⟩, by decide, by decide⟩
/-- ST is read in two halves; _HI is what _LO latched. -/
theorem test_lo_latch : (match exec (.readLoLatch Off.timStLo 32) (hostState id) with
    | .next u => (match exec (.readLoLatch (Off.timStLo + 4) 32) { u with st := 0 } with | .next w => [u.dev.rdata, w.dev.rdata] | _ => []) | _ => []) = [7, 5] := by decide
theorem test_w1c : (match exec (.registerWrite 0 Off.pwrEvt 32 2) (hostState (Dev.setReg Off.pwrEvt 7#32)) with | .next u => u.dev.reg Off.pwrEvt | _ => 0) = 5#32 := by decide
theorem test_width : (match exec (.registerWrite 0 Off.pwrEvt 16 2) (hostState id) with | .next u => fld u.dev.acc.viol 3 2 | _ => 0) = 2
    ∧ (hostState (fun d => { d with acc := {} })).dev.open6 = true ∧ ((hostState (fun d => { d with acc := {} })).dev.gate (hostState id).ctx Mst.host true Off.pwrEvt).ok = false
    ∧ ((hostState (fun d => { d with acc := {} })).dev.gate (hostState id).ctx Mst.host false Off.pwrEvt).ok = false := by decide
theorem test_early : let s := hostState (fun d => { d with pwr := { d.pwr with stage := 6 } })
    s.dev.endpointUp = true ∧ s.dev.open6 = false ∧ s.dev.early Off.memEvt = false ∧ s.dev.early Off.pwrEvt = true := by decide
theorem test_msix : (match exec (.registerWrite 4 28 32 0) (hostState (fun d => { d with hif := { d.hif with msix := [{ vec := 1, addr := 8, data := 9, masked := true, pending := true }] } })) with
    | .next u => u.dev.tx | _ => []) = [.msix 1 8 9] := by decide
set_option maxRecDepth 20000 in
theorem test_smbus_read : (match exec (.smbusBlockRead Off.timStLo) (hostState id) with | .next u => u.dev.tx | _ => []) = [.smbus 7]
    ∧ (match exec (.smbusBlockRead Off.timStLo) (hostState (fun d => { d with pwr := { d.pwr with standby := true } })) with | .next u => (u.dev.rdata, u.dev.pwr.stage) | _ => (1, 0)) = (0, 1) := by decide

end Sys2Proof.Tests
end

/-! The staging registers of a slice (R406, R408). -/

namespace Sys2Proof.Machine

/-! ### Masked fields, and elements found after a change of another -/

/-- A mask that keeps all bits of a field leaves the field. -/
theorem fld_and_of_full {hi lo : Nat} (v m : Word) (h : fld m hi lo = 2 ^ (hi + 1 - lo) - 1) : fld (v &&& m) hi lo = fld v hi lo := by
  unfold fld at *
  rw [BitVec.toNat_and, Nat.shiftRight_and_distrib, Nat.and_mod_two_pow, h, Nat.and_two_pow_sub_one_eq_mod, Nat.mod_mod]

/-- What is found after an `upsert` of other elements. -/
theorem find_upsert_other {α : Type} (p q : α → Bool) (new : α) (f : α → α) (hq : ∀ x, q x = true → p x = false)
    (hf : ∀ x, p x = true → q (f x) = false) (hn : p new = true) (l : List α) : (upsert p new f l).find? q = l.find? q := by
  unfold upsert
  split
  · exact find_updWhere_other p q f hq hf l
  · rw [List.find?_append, List.find?_singleton, hf new hn]
    simp

/-- The slice of a number has that number, listed or not. -/
@[simp] theorem Dev.slice_num (d : Dev) (n : Nat) : (d.slice n).num = n := by
  unfold Dev.slice
  cases h : d.slices.find? (fun x => x.num == n) with
  | none => rfl
  | some x => simpa using List.find?_some h

/-- Another slice after a change that keeps the number. -/
theorem Dev.slice_updSlice_ne (d : Dev) {n k : Nat} (f : Slice → Slice) (h : k ≠ n) (hf : ∀ x : Slice, x.num = n → (f x).num = n) :
    (d.updSlice n f).slice k = d.slice k := by
  unfold Dev.slice Dev.updSlice
  rw [find_upsert_other]
  · intro x hx
    simp only [beq_iff_eq, beq_eq_false_iff_ne] at hx ⊢
    omega
  · intro x hx
    simp only [beq_iff_eq, beq_eq_false_iff_ne] at hx ⊢
    have := hf x hx
    omega
  · simp

/-- A change of a slice that a register write makes is mirrored, with no event (R437): the slices and the rings stand. -/
theorem Dev.sliceChanged_write_slices (d : Dev) (c : Ctx) (n : Nat) : (d.sliceChanged c n .write).slices = d.slices := by
  have hs := d.sendSlice_sends n
  unfold Dev.sliceChanged Dev.awaitAck
  split <;> exact hs.sl
theorem Dev.sliceChanged_write_hif (d : Dev) (c : Ctx) (n : Nat) : (d.sliceChanged c n .write).hif = d.hif := by
  have hs := d.sendSlice_sends n
  unfold Dev.sliceChanged Dev.awaitAck
  split <;> exact hs.hif
theorem Dev.slice_sliceChanged_write (d : Dev) (c : Ctx) (n k : Nat) : (d.sliceChanged c n .write).slice k = d.slice k := by
  simp only [Dev.slice, d.sliceChanged_write_slices]

/-! ### HIF_SLICE_SEL loads the staging registers (R406) -/

/-- The select register and the staging registers together. -/
def Dev.withStaging (sel pasid cfg rings : Word) (d : Dev) : Dev :=
  (((d.setReg Off.hifSliceSel sel).setReg Off.hifSlicePasid pasid).setReg Off.hifSliceCfg cfg).setReg Off.hifSliceRings rings

section
variable (sel pasid cfg rings : Word) (d : Dev)

theorem Dev.withStaging_dev : d.withStaging sel pasid cfg rings = { d with regs := (d.withStaging sel pasid cfg rings).regs } := rfl
@[simp] theorem Dev.withStaging_sel : (d.withStaging sel pasid cfg rings).reg Off.hifSliceSel = sel := by
  unfold Dev.withStaging
  rw [Dev.reg_setReg_ne _ _ (by decide), Dev.reg_setReg_ne _ _ (by decide), Dev.reg_setReg_ne _ _ (by decide), Dev.reg_setReg]
@[simp] theorem Dev.withStaging_pasid : (d.withStaging sel pasid cfg rings).reg Off.hifSlicePasid = pasid := by
  unfold Dev.withStaging
  rw [Dev.reg_setReg_ne _ _ (by decide), Dev.reg_setReg_ne _ _ (by decide), Dev.reg_setReg]
@[simp] theorem Dev.withStaging_cfg : (d.withStaging sel pasid cfg rings).reg Off.hifSliceCfg = cfg := by
  unfold Dev.withStaging
  rw [Dev.reg_setReg_ne _ _ (by decide), Dev.reg_setReg]
@[simp] theorem Dev.withStaging_rings : (d.withStaging sel pasid cfg rings).reg Off.hifSliceRings = rings := Dev.reg_setReg ..
theorem Dev.withStaging_reg_ne {o : Nat} (h1 : o ≠ Off.hifSliceSel) (h2 : o ≠ Off.hifSlicePasid) (h3 : o ≠ Off.hifSliceCfg)
    (h4 : o ≠ Off.hifSliceRings) : (d.withStaging sel pasid cfg rings).reg o = d.reg o := by
  unfold Dev.withStaging
  rw [Dev.reg_setReg_ne _ _ h4, Dev.reg_setReg_ne _ _ h3, Dev.reg_setReg_ne _ _ h2, Dev.reg_setReg_ne _ _ h1]
end

/-- The slice that a write of the select register names. -/
theorem Dev.migSlice_select (d : Dev) (v : Word) : (d.setReg Off.hifSliceSel (v &&& 0xFFF#32)).migSlice = fld v 11 0 := by
  unfold Dev.migSlice
  rw [Dev.reg_setReg, fld_and_of_full v 0xFFF#32 (by decide)]

section
variable {d : Dev} {v : Word} {x : Slice} (hx : d.slice (fld v 11 0) = x)
include hx

theorem sliceSelW_bound (h : x.state.hasBinding = true) :
    sliceSelW v d = .took (d.withStaging (v &&& 0xFFF#32) (packW [(0, x.pasid), (31, b2n x.noPasid)])
      (packW [(0, x.domain), (16, x.weight), (24, x.expiry)]) (BitVec.ofNat 32 x.rings)) := by
  subst hx
  simp only [sliceSelW, d.migSlice_select v]
  exact if_pos h
theorem sliceSelW_staged (hb : x.state.hasBinding = false) (h : x.state.staged = true) :
    sliceSelW v d = .took (d.withStaging (v &&& 0xFFF#32) (packW [(0, x.pasid), (31, b2n x.noPasid)]) (packW [(0, x.domain), (16, 1), (24, 1)]) 0#32) := by
  subst hx
  simp only [sliceSelW, d.migSlice_select v]
  exact (if_neg (ne_true_of_eq_false hb)).trans (if_pos h)
theorem sliceSelW_neither (hb : x.state.hasBinding = false) (h : x.state.staged = false) :
    sliceSelW v d = .took (d.withStaging (v &&& 0xFFF#32) 0#32 0x01010000#32 0#32) := by
  subst hx
  simp only [sliceSelW, d.migSlice_select v]
  exact (if_neg (ne_true_of_eq_false hb)).trans (if_neg (ne_true_of_eq_false h))

/-- Every write of the select register loads the staging registers, with what the state of the slice gives them. -/
theorem sliceSelW_took : ∃ pasid cfg rings, sliceSelW v d = .took (d.withStaging (v &&& 0xFFF#32) pasid cfg rings) ∧
    (x.state = .unbound ∨ x.state = .retaining → pasid = 0#32 ∧ cfg = 0x01010000#32 ∧ rings = 0#32) ∧
    (x.state = .prepared ∨ x.state = .restoring → pasid = packW [(0, x.pasid), (31, b2n x.noPasid)] ∧ cfg = packW [(0, x.domain), (16, 1), (24, 1)]) ∧
    (x.state = .bound ∨ x.state = .frozen ∨ x.state = .draining ∨ x.state = .saving ∨ x.state = .saved →
      pasid = packW [(0, x.pasid), (31, b2n x.noPasid)] ∧ cfg = packW [(0, x.domain), (16, x.weight), (24, x.expiry)] ∧ rings = BitVec.ofNat 32 x.rings) := by
  cases hb : x.state.hasBinding with
  | true =>
    refine ⟨_, _, _, sliceSelW_bound hx hb, fun h => ?_, fun h => ?_, fun _ => ⟨rfl, rfl, rfl⟩⟩ <;>
      rcases h with h | h <;> rw [h] at hb <;> cases hb
  | false =>
    have hbound : ¬ (x.state = .bound ∨ x.state = .frozen ∨ x.state = .draining ∨ x.state = .saving ∨ x.state = .saved) := by
      rintro (h | h | h | h | h) <;> rw [h] at hb <;> cases hb
    cases hs : x.state.staged with
    | true =>
      refine ⟨_, _, _, sliceSelW_staged hx hb hs, fun h => ?_, fun _ => ⟨rfl, rfl⟩, fun h => absurd h hbound⟩
      rcases h with h | h <;> rw [h] at hs <;> cases hs
    | false =>
      refine ⟨_, _, _, sliceSelW_neither hx hb hs, fun _ => ⟨rfl, rfl, rfl⟩, fun h => ?_, fun h => absurd h hbound⟩
      rcases h with h | h <;> rw [h] at hs <;> cases hs
end

/-! ### Writes of the staging registers (R408) -/

/-- The fields of HIF_SLICE_CFG as the register keeps them. -/
theorem sliceCfg_fields (v : Word) : fld (v &&& 0x03FF03FF#32) 23 16 = fld v 23 16 ∧ fld (v &&& 0x03FF03FF#32) 25 24 = fld v 25 24
    ∧ fld (v &&& 0x03FF03FF#32) 9 0 = fld v 9 0 :=
  ⟨fld_and_of_full v _ (by decide), fld_and_of_full v _ (by decide), fld_and_of_full v _ (by decide)⟩

theorem sliceCfgW_cfg_drop {d : Dev} (c : Ctx) {v : Word} (h : fld v 23 16 = 0 ∨ fld v 25 24 = 0 ∨ fld v 25 24 = 3) : sliceCfgW c Off.hifSliceCfg v d = .drop := by
  obtain ⟨hw, he, -⟩ := sliceCfg_fields v
  simp [sliceCfgW, hw, he, h]
theorem sliceCfgW_rings_drop {d : Dev} (c : Ctx) {v : Word} (h : ∃ r ∈ d.hif.rings, r.slice = d.migSlice ∧ r.state ≠ .absent ∧ fld v 15 0 / 2 ^ r.num % 2 = 0) :
    sliceCfgW c Off.hifSliceRings v d = .drop := by
  have hany : d.hif.rings.any (fun r => r.slice == d.migSlice && r.state != .absent && fld v 15 0 / 2 ^ r.num % 2 == 0) = true := by
    obtain ⟨r, hr, hs, hst, hm⟩ := h
    exact List.any_eq_true.mpr ⟨r, hr, by simp [hs, hst, hm]⟩
  simp only [sliceCfgW, Dev.slice_num, hany]
  rfl

section
variable {d : Dev} {x : Slice} (c : Ctx) (v : Word) (hx : d.slice d.migSlice = x)
include hx

theorem sliceCfgW_pasid_unbound (h : x.state = .unbound) :
    sliceCfgW c Off.hifSlicePasid v d = .took (d.setReg Off.hifSlicePasid (v &&& 0x800FFFFF#32)) := by
  subst hx
  simp [sliceCfgW, h]
theorem sliceCfgW_pasid_bound (h : x.state = .bound) (hne : v &&& 0x800FFFFF#32 ≠ packW [(0, x.pasid), (31, b2n x.noPasid)]) :
    sliceCfgW c Off.hifSlicePasid v d = .viol := by
  subst hx
  simp [sliceCfgW, h, SliceState.hasBinding, hne]

section
variable (hok : ¬ (fld v 23 16 = 0 ∨ fld v 25 24 = 0 ∨ fld v 25 24 = 3))
include hok

theorem sliceCfgW_cfg_unbound (h : x.state = .unbound) :
    sliceCfgW c Off.hifSliceCfg v d = .took (d.setReg Off.hifSliceCfg (v &&& 0x03FF03FF#32)) := by
  subst hx
  obtain ⟨hw, he, -⟩ := sliceCfg_fields v
  simp [sliceCfgW, hw, he, hok, h, SliceState.hasBinding]
theorem sliceCfgW_cfg_domain (h : x.state = .bound) (hd : fld v 9 0 ≠ x.domain) : sliceCfgW c Off.hifSliceCfg v d = .viol := by
  subst hx
  obtain ⟨hw, he, hdom⟩ := sliceCfg_fields v
  simp [sliceCfgW, hw, he, hdom, hok, h, SliceState.hasBinding, hd]
theorem sliceCfgW_cfg_bound (h : x.state = .bound) (hd : fld v 9 0 = x.domain) :
    sliceCfgW c Off.hifSliceCfg v d = .took (((d.setReg Off.hifSliceCfg (v &&& 0x03FF03FF#32)).updSlice d.migSlice
      (fun y => { y with weight := fld v 23 16, expiry := fld v 25 24 })).sliceChanged c d.migSlice .write) := by
  subst hx
  obtain ⟨hw, he, hdom⟩ := sliceCfg_fields v
  simp [sliceCfgW, hw, he, hdom, hok, h, SliceState.hasBinding, hd]
end

theorem sliceCfgW_rings_bound (hr : ∀ r ∈ d.hif.rings, r.slice = d.migSlice → r.state ≠ .absent → fld v 15 0 / 2 ^ r.num % 2 = 1) (h : x.state = .bound) :
    sliceCfgW c Off.hifSliceRings v d = .took (((d.setReg Off.hifSliceRings (v &&& 0xFFFF#32)).updSlice d.migSlice
      (fun y => { y with rings := fld v 15 0 })).sliceChanged c d.migSlice .write) := by
  subst hx
  have hany : d.hif.rings.any (fun r => r.slice == d.migSlice && r.state != .absent && fld v 15 0 / 2 ^ r.num % 2 == 0) = false := by
    rw [List.any_eq_false]
    intro r hmem hc
    simp only [Bool.and_eq_true, beq_iff_eq, bne_iff_ne] at hc
    obtain ⟨⟨hs, hst⟩, hm⟩ := hc
    rw [hr r hmem hs hst] at hm
    cases hm
  simp only [sliceCfgW, Dev.slice_num, hany, h, SliceState.hasBinding]
  rfl
end

/-! ### The two commands -/

theorem exec_sliceSelect (v : Word) (s : State) :
    exec (.sliceSelect v) s = .next { s with dev := s.dev.hostWrite s.ctx Off.hifSliceSel (sliceSelW v) } := rfl
theorem exec_sliceCfgWrite {off : Nat} (v : Word) (s : State) (h : off = Off.hifSlicePasid ∨ off = Off.hifSliceCfg ∨ off = Off.hifSliceRings) :
    exec (.sliceCfgWrite off v) s = .next { s with dev := s.dev.hostWrite s.ctx off (sliceCfgW s.ctx off v) } := by
  show execSliceCfgWrite off v s = _
  simp only [execSliceCfgWrite, State.onDev, if_pos h]
theorem exec_sliceCfgWrite_other {off : Nat} (v : Word) (s : State) (h : ¬ (off = Off.hifSlicePasid ∨ off = Off.hifSliceCfg ∨ off = Off.hifSliceRings)) :
    exec (.sliceCfgWrite off v) s = .next s := by
  show execSliceCfgWrite off v s = _
  simp only [execSliceCfgWrite, State.onDev, if_neg h]

/-- Settles O34: each write goes by the rule of its register, and a change of a bound slice is mirrored without touching a slice or ring. -/
theorem sliceRegisters : Obligations.SliceRegisters := by
  unfold Obligations.SliceRegisters
  intro s v d
  refine ⟨fun hm => ?_, fun off hm => ?_⟩
  · obtain ⟨p, cfg, r, hw, hnone, hstaged, hbound⟩ := sliceSelW_took (d := d) (v := v) rfl
    refine ⟨_, exec_sliceSelect v s, ⟨rfl, rfl, rfl, rfl⟩, ?_⟩
    simp only [hostWrite_own hm rfl hw, Dev.withStaging_sel, Dev.withStaging_pasid, Dev.withStaging_cfg, Dev.withStaging_rings]
    exact ⟨rfl, trivial, fun o => d.withStaging_reg_ne _ _ _ _, hnone, hstaged, hbound⟩
  · intro n x
    refine ⟨?pasid, ?cfg, ?rings, fun h1 h2 h3 => exec_sliceCfgWrite_other v s (by simp [h1, h2, h3])⟩
    case pasid =>
      rintro rfl
      rw [exec_sliceCfgWrite v s (.inl rfl)]
      refine ⟨fun h => ?_, fun h hne => ?_⟩
      · rw [hostWrite_own hm rfl (sliceCfgW_pasid_unbound s.ctx v rfl h)]
      · rw [hostWrite_own_viol hm rfl (sliceCfgW_pasid_bound s.ctx v rfl h hne)]
    case cfg =>
      rintro rfl
      rw [exec_sliceCfgWrite v s (.inr (.inl rfl))]
      refine ⟨fun h => ?_, fun hw he => ⟨fun h => ?_, fun h hd => ?_, fun h hd => ?_⟩⟩
      · rw [hostWrite_own_drop hm rfl (sliceCfgW_cfg_drop s.ctx h)]
      · rw [hostWrite_own hm rfl (sliceCfgW_cfg_unbound s.ctx v rfl (by omega) h)]
      · rw [hostWrite_own_viol hm rfl (sliceCfgW_cfg_domain s.ctx v rfl (by omega) h hd)]
      · rw [hostWrite_own hm rfl (sliceCfgW_cfg_bound s.ctx v rfl (by omega) h hd)]
        refine ⟨_, rfl, ⟨rfl, rfl, rfl, rfl⟩, ?_, fun k hk => ?_⟩
        · rw [Dev.slice_sliceChanged_write]
          exact Dev.slice_updSlice _ n _ (fun _ h => h)
        · rw [Dev.slice_sliceChanged_write]
          exact Dev.slice_updSlice_ne _ _ hk (fun _ h => h)
    case rings =>
      rintro rfl
      rw [exec_sliceCfgWrite v s (.inr (.inr rfl))]
      refine ⟨fun h => ?_, fun hr h => ?_⟩
      · rw [hostWrite_own_drop hm rfl (sliceCfgW_rings_drop s.ctx h)]
      · rw [hostWrite_own hm rfl (sliceCfgW_rings_bound s.ctx v rfl hr h)]
        refine ⟨_, rfl, ⟨rfl, rfl, rfl, rfl⟩, ?_, Dev.sliceChanged_write_hif ..⟩
        rw [Dev.slice_sliceChanged_write]
        exact Dev.slice_updSlice _ n _ (fun _ h => h)

end Sys2Proof.Machine

/-! Host accesses through the BARs (R5, R8, R59, R75, R548, R557, R558, R604, R639 to R641). -/

namespace Sys2Proof.Machine

/-! ### The latch of a 64-bit pair (R8) -/

/-- The registers of a pair are those listed and the bases of the region table. -/
theorem isLo_iff (off : Nat) : isLo off = true ↔
    off ∈ pairLos ∨ (Off.accRgnBaseLo ≤ off ∧ off < Off.accRgnBaseLo + 1024) ∧ (off - Off.accRgnBaseLo) % 16 = 0 := by
  simp only [isLo, Bool.or_eq_true, List.contains_iff_mem, Bool.and_eq_true, decide_eq_true_eq, beq_iff_eq]

/-- No listed _LO is an _HI, and none lies in the region table. -/
theorem pairLos_apart : ∀ o ∈ pairLos, isHi o = false ∧ ¬ (Off.accRgnBaseLo ≤ o + 4 ∧ o < Off.accRgnBaseLo + 1024) := by decide

/-- No register is both halves of a pair. -/
theorem isHi_of_isLo {off : Nat} (h : isLo off = true) : isHi off = false := by
  rcases (isLo_iff off).mp h with hl | ⟨hr, hm⟩
  · exact (pairLos_apart off hl).1
  · rw [← Bool.not_eq_true]
    intro hh
    simp only [isHi, Bool.and_eq_true, decide_eq_true_eq] at hh
    obtain ⟨h4, hlo⟩ := hh
    rcases (isLo_iff (off - 4)).mp hlo with hl | ⟨hr', hm'⟩
    · have := (pairLos_apart _ hl).2
      omega
    · omega

/-- The latch of a register holds what was stored. -/
@[simp] theorem latchGet_latchSet (l : RegFile) (off : Nat) (v : Word) : latchGet (latchSet l off v) off = v := by
  unfold latchSet
  split
  · next h => simp [latchGet, RegFile.find_erase, h]
  · simp [latchGet, RegFile.find_insert off v (l.erase off) (fun p hp => by simpa using (List.mem_filter.mp hp).2)]
/-- The other latches stand. -/
theorem latchGet_latchSet_ne {o off : Nat} (l : RegFile) (v : Word) (h : o ≠ off) : latchGet (latchSet l off v) o = latchGet l o := by
  unfold latchSet
  split <;> simp [latchGet, RegFile.find_erase_ne h, RegFile.find_insert_ne v h]

/-! ### Host reads of a word -/

/-- What a permitted host read of a word returns and does. -/
def Dev.wordRead (c : Ctx) (off : Nat) (d : Dev) : DWord × Dev := ((d.readWord c off).1.setWidth 64, (d.readWord c off).2)

theorem exec_readLoLatch_word {off : Nat} (s : State) (h : off < 0x04000000) (h4 : off % 4 = 0) :
    exec (.readLoLatch off 32) s = .next { s with dev := s.dev.hostRead s.ctx off (Dev.wordRead s.ctx off) } := by
  have h5 : ¬ 0x05000000 ≤ off := by omega
  show execReadLoLatch off 32 s = _
  simp only [execReadLoLatch, State.onDev, hostReadOp, if_neg h5, if_neg (Nat.not_le.mpr h), h4, and_self, if_true, BitVec.ofNat_toNat]
  rfl

/-- A _LO register: its value is read and its _HI latched. -/
theorem Dev.wordRead_lo (c : Ctx) {off : Nat} (d : Dev) (h : isLo off = true) :
    d.wordRead c off = ((d.readReg c off).setWidth 64, { d with hiLatch := latchSet d.hiLatch (off + 4) (d.readReg c (off + 4)) }) := by
  simp [Dev.wordRead, Dev.readWord, isHi_of_isLo h, h]
/-- An _HI register: what is latched. -/
theorem Dev.wordRead_hi (c : Ctx) {off : Nat} (d : Dev) (h : isHi off = true) : d.wordRead c off = ((latchGet d.hiLatch off).setWidth 64, d) := by
  simp [Dev.wordRead, Dev.readWord, h]

/-- Open start-up means that the endpoint answers. -/
theorem Dev.endpointUp_of_open6 {d : Dev} (h6 : d.open6 = true) : d.endpointUp = true := by
  simp only [Dev.open6, Bool.and_eq_true] at h6
  obtain ⟨⟨-, hp⟩, hs⟩ := h6
  simp [Dev.endpointUp, hp, hs]

section
variable {d : Dev} {c : Ctx} {off : Nat}

/-- A register that does not respond yet reads 0 and takes no write (R604). -/
theorem hostRead_closed (f : Dev → DWord × Dev) (hu : d.endpointUp = true) (h6 : d.open6 = false) (he : d.early off = false) :
    d.hostRead c off f = { d with rdata := 0 } := by
  simp [Dev.hostRead, hu, h6, he]
theorem hostWrite_closed (f : Dev → WOut) (hu : d.endpointUp = true) (h6 : d.open6 = false) (he : d.early off = false) :
    d.hostWrite c off f = d := by
  simp [Dev.hostWrite, hu, h6, he]
/-- A read that the access rules deny gives zeros and is reported (R557, R558). -/
theorem hostRead_denied (f : Dev → DWord × Dev) (h6 : d.open6 = true) (hg : (d.gate c Mst.host false off).ok = false) :
    d.hostRead c off f = { d.violation c Viol.read Mst.host (d.gate c Mst.host false off).region (d.gate c Mst.host false off).epoch off with rdata := 0 } := by
  simp [Dev.hostRead, Dev.endpointUp_of_open6 h6, h6, hg]
end

/-- The doorbells and the reserved offsets of a doorbell page read 0 (R59). -/
theorem bar2Word_zero {o : Nat} (d : Dev) (h : o % 0x1000 < 0x100 ∨ 0x180 ≤ o % 0x1000) : d.bar2Word o = (0#32, d) := by
  simp only [Dev.bar2Word, if_pos h]

theorem exec_readLoLatch_page {off : Nat} {s : State} (h4 : 0x04000000 ≤ off) (h5 : off < 0x05000000) (ha : off % 4 = 0) (hm : HostMay s false off)
    (hz : off % 0x1000 < 0x100 ∨ 0x180 ≤ off % 0x1000) : exec (.readLoLatch off 32) s = .next { s with dev := { s.dev with rdata := 0 } } := by
  have hb : bar2 (off - 0x04000000) = off := by unfold bar2; omega
  have ha' : (off - 0x04000000) % 4 = 0 := by omega
  have hw : ∀ d : Dev, d.bar2Word (off - 0x04000000) = (0#32, d) := fun d => bar2Word_zero d (by omega)
  show execReadLoLatch off 32 s = _
  simp only [execReadLoLatch, State.onDev, hostReadOp, if_neg (Nat.not_le.mpr h5), if_pos h4, bar2Read, ha', and_self, if_true, hb, hw, hostRead_ret hm]
  rfl
theorem exec_readLoLatch_beyond {off : Nat} (bits : Nat) (s : State) (h : 0x05000000 ≤ off) : exec (.readLoLatch off bits) s = .next s := by
  show execReadLoLatch off bits s = _
  simp only [execReadLoLatch, State.onDev, hostReadOp, if_pos h]

/-! ### Host writes of BAR0 -/

theorem loW_toNat (v : DWord) : loW v.toNat = v.setWidth 32 := BitVec.ofNat_toNat ..
theorem loW_shifted (v : DWord) : loW (v >>> 32).toNat = hiW v.toNat := by
  rw [loW, hiW, BitVec.toNat_ushiftRight, Nat.shiftRight_eq_div_pow]

theorem exec_registerWrite_bar0 (off bits : Nat) (v : DWord) (s : State) : exec (.registerWrite 0 off bits v) s = .next (s.writeBar0 off bits v) := rfl

theorem writeBar0_beyond {off : Nat} (bits : Nat) (v : DWord) (s : State) (h : 0x04000000 ≤ off) : s.writeBar0 off bits v = s := if_pos h
theorem writeBar0_word {off : Nat} (v : DWord) (s : State) (h : off < 0x04000000) (h4 : off % 4 = 0) :
    s.writeBar0 off 32 v = s.writeWord off (v.setWidth 32) := by
  simp only [State.writeBar0, if_neg (Nat.not_le.mpr h), h4, and_self, if_true, loW_toNat]
theorem writeBar0_pair {off : Nat} (v : DWord) (s : State) (h : off < 0x04000000) (h8 : off % 8 = 0) :
    s.writeBar0 off 64 v = (s.writeWord off (v.setWidth 32)).writeWord (off + 4) (hiW v.toNat) := by
  simp [State.writeBar0, Nat.not_le.mpr h, h8, loW_toNat]
theorem writeBar0_refused {off bits : Nat} (v : DWord) (s : State) (h : off < 0x04000000) (h32 : ¬ (bits = 32 ∧ off % 4 = 0)) (h64 : ¬ (bits = 64 ∧ off % 8 = 0)) :
    s.writeBar0 off bits v = { s with dev := s.dev.hostWrite s.ctx off (fun _ => .viol) } := by
  rw [State.writeBar0, if_neg (Nat.not_le.mpr h), if_neg h32, if_neg h64]

/-- What firmware serves or not, a write that its rule reports is a violation. -/
theorem Dev.served_viol (d : Dev) (c : Ctx) (off : Nat) : d.served c off (fun _ => .viol) = .viol := by
  unfold Dev.served
  split
  · rfl
  · split <;> rfl

/-- A latched life-cycle transition that was there before does nothing again. -/
theorem goLatch_of_eq {s : State} {before : Option (Nat × Nat)} (h : s.dev.lcs.report = before) : s.goLatch before = s := by
  unfold State.goLatch
  split
  · next a t hr => rw [if_pos (h.symm.trans hr)]
  · rfl

/-- A write that the time base answers with a state and no jump. -/
theorem onTime_none {s : State} {f : Ctx → Dev → Dev × Option Nat} {e : Dev} (h : f s.ctx s.dev = (e, none)) :
    s.onTime f = .next { s with dev := e } := by
  simp only [State.onTime, h]

/-- A word written where the host access goes no further than `e`, whatever the register's own rule: `e` is what is left, for
the two registers too that reach beyond `Dev`. -/
theorem writeWord_stopped {off : Nat} {s : State} {e : Dev} (v : Word) (hw : ∀ f, s.dev.hostWrite s.ctx off f = e)
    (hl : e.lcs = s.dev.lcs) (ht : off = Off.timSetCtrl → timSetApplyOp v s.ctx s.dev = (e, none)) :
    s.writeWord off v = { s with dev := e } := by
  unfold State.writeWord
  split
  · next h =>
    subst h
    simp only [State.lcGo, hw]
    exact goLatch_of_eq (congrArg Lcs.report hl)
  · split
    · next h => rw [onTime_none (ht h)]
    · rw [hw]

theorem writeWord_closed {off : Nat} {s : State} (v : Word) (hu : s.dev.endpointUp = true) (h6 : s.dev.open6 = false) (he : s.dev.early off = false) :
    s.writeWord off v = s :=
  writeWord_stopped v (fun f => hostWrite_closed f hu h6 he) rfl (fun _ => by simp [timSetApplyOp, h6])

theorem writeWord_denied {off : Nat} {s : State} (v : Word) (h6 : s.dev.open6 = true) (hg : (s.dev.gate s.ctx Mst.host true off).ok = false) :
    s.writeWord off v =
      { s with dev := s.dev.violation s.ctx Viol.write Mst.host (s.dev.gate s.ctx Mst.host true off).region (s.dev.gate s.ctx Mst.host true off).epoch off } :=
  writeWord_stopped v (fun _ => hostWrite_denied h6 hg) (by simp) (fun h => by
    subst h
    simp [timSetApplyOp, h6, hg, hostWrite_denied h6 hg])

/-- The event registers (R5). -/
def eventRegs : List Nat :=
  [Off.hifEvt, Off.hifSliceEvt, Off.timEvt, Off.jnlEvt, Off.ddtEvt, Off.dspEvt, Off.lanEvt, Off.pkeEvt, Off.keyEvt, Off.rngEvt, Off.cusEvt, Off.tmpEvt, Off.tmpNotify,
   Off.evlEvt, Off.ercEvt, Off.lcsEvt, Off.accEvt, Off.memEvt, Off.pwrEvt, Off.fabEvt]

/-- Every event register is a plain one of BAR0: no register that firmware serves, nor one that reaches beyond `Dev`. -/
theorem eventRegs_plain : ∀ off ∈ eventRegs, fwServed off = false ∧ off ≠ Off.lcsGo ∧ off ≠ Off.timSetCtrl ∧ off < 0x04000000 ∧ off % 4 = 0 := by decide

/-- The rule of an event register, block by block: a 1 clears its bit. -/
theorem regW_event (c : Ctx) {off : Nat} (w : Word) (d : Dev) (h : off ∈ eventRegs) : regW c off w d = .took (d.setReg off (d.reg off &&& ~~~w)) := by
  unfold eventRegs at h
  fin_cases h <;> rfl

theorem writeWord_event {off : Nat} {s : State} (w : Word) (hm : HostMay s true off) (h : off ∈ eventRegs) :
    s.writeWord off w = { s with dev := s.dev.setReg off (s.dev.reg off &&& ~~~w) } := by
  obtain ⟨hfw, hgo, htim, -, -⟩ := eventRegs_plain off h
  rw [State.writeWord, if_neg hgo, if_neg htim, hostWrite_own hm hfw (regW_event s.ctx w s.dev h)]

/-! ### The MSI-X table (R75, R76) -/

@[simp] theorem Hif.msixEntry_updMsix (h : Hif) (v : Nat) (f : MsixEntry → MsixEntry) (hf : ∀ e : MsixEntry, (f e).vec = e.vec) :
    (h.updMsix v f).msixEntry v = f (h.msixEntry v) := by
  unfold Hif.msixEntry Hif.updMsix
  rw [find_upsert _ _ _ (by simp) (fun x hx => by simpa [hf] using hx)]
  cases h.msix.find? (fun e => e.vec == v) <;> rfl
theorem Hif.msixEntry_updMsix_ne (h : Hif) {v k : Nat} (f : MsixEntry → MsixEntry) (hk : k ≠ v) (hf : ∀ e : MsixEntry, (f e).vec = e.vec) :
    (h.updMsix v f).msixEntry k = h.msixEntry k := by
  unfold Hif.msixEntry Hif.updMsix
  rw [find_upsert_other]
  · intro x hx
    simp only [beq_iff_eq, beq_eq_false_iff_ne] at hx ⊢
    omega
  · intro x hx
    simp only [beq_iff_eq, beq_eq_false_iff_ne, hf] at hx ⊢
    omega
  · simp

/-- A pending vector that nothing masks is sent, and is pending no more. -/
theorem Dev.flushVec_sends {d : Dev} {v : Nat} (hp : (d.hif.msixEntry v).pending = true) (hm : (d.hif.msixEntry v).masked = false) (hf : d.hif.funcMask = false) :
    d.flushVec v = { d with hif := d.hif.updMsix v (fun e => { e with pending := false }),
                            tx := .msix v (d.hif.msixEntry v).addr (d.hif.msixEntry v).data :: d.tx } := by
  simp [Dev.flushVec, hp, hm, hf, Dev.emit]
/-- Any other vector stands. -/
theorem Dev.flushVec_keeps {d : Dev} {v : Nat} (h : ¬ ((d.hif.msixEntry v).pending = true ∧ (d.hif.msixEntry v).masked = false ∧ d.hif.funcMask = false)) :
    d.flushVec v = d := by
  unfold Dev.flushVec
  exact if_neg (by simpa [and_assoc] using h)

/-- What is sent on a vector changes nothing of the table but its pending bit. -/
theorem Dev.flushVec_spec (d : Dev) (v : Nat) :
    d.flushVec v = { d with hif := (d.flushVec v).hif, tx := (d.flushVec v).tx }
      ∧ (∃ p, (d.flushVec v).hif.msixEntry v = { d.hif.msixEntry v with pending := p })
      ∧ ∀ k, k ≠ v → (d.flushVec v).hif.msixEntry k = d.hif.msixEntry k := by
  by_cases h : (d.hif.msixEntry v).pending = true ∧ (d.hif.msixEntry v).masked = false ∧ d.hif.funcMask = false
  · obtain ⟨hp, hm, hf⟩ := h
    rw [Dev.flushVec_sends hp hm hf]
    exact ⟨rfl, ⟨false, Hif.msixEntry_updMsix _ _ _ (fun _ => rfl)⟩, fun k hk => Hif.msixEntry_updMsix_ne _ _ hk (fun _ => rfl)⟩
  · rw [Dev.flushVec_keeps h]
    exact ⟨rfl, ⟨_, rfl⟩, fun _ _ => rfl⟩

/-- The lowest bit of a word, in the lower half of what is written. -/
theorem setWidth_odd (v : DWord) : ((v.setWidth 32).toNat % 2 == 1) = v.getLsbD 0 := by
  rw [← BitVec.testBit_toNat, Nat.testBit_zero, BitVec.toNat_setWidth, Nat.mod_mod_of_dvd _ (by decide), beq_eq_decide]

/-- What a word written at an offset of the table makes of its entry. -/
def msixPut (off n : Nat) (e : MsixEntry) : MsixEntry :=
  if off % 16 = 0 then { e with addr := e.addr / 2 ^ 32 * 2 ^ 32 + n / 4 * 4 }
  else if off % 16 = 4 then { e with addr := e.addr % 2 ^ 32 + n * 2 ^ 32 }
  else if off % 16 = 8 then { e with data := n }
  else { e with masked := n % 2 == 1 }

@[simp] theorem msixPut_vec (off n : Nat) (e : MsixEntry) : (msixPut off n e).vec = e.vec := by
  unfold msixPut; (repeat' split) <;> rfl
@[simp] theorem msixPut_pending (off n : Nat) (e : MsixEntry) : (msixPut off n e).pending = e.pending := by
  unfold msixPut; (repeat' split) <;> rfl
theorem msixPut_masked {off : Nat} (n : Nat) (e : MsixEntry) (h : off % 4 = 0) :
    (msixPut off n e).masked = (if off % 16 = 12 then n % 2 == 1 else e.masked) := by
  have : off % 16 = 0 ∨ off % 16 = 4 ∨ off % 16 = 8 ∨ off % 16 = 12 := by omega
  rcases this with h | h | h | h <;> simp [msixPut, h]
theorem msixPut_data {off : Nat} (n : Nat) (e : MsixEntry) (h : off % 4 = 0) :
    (msixPut off n e).data = (if off % 16 = 8 then n else e.data) := by
  have : off % 16 = 0 ∨ off % 16 = 4 ∨ off % 16 = 8 ∨ off % 16 = 12 := by omega
  rcases this with h | h | h | h <;> simp [msixPut, h]

theorem msixWord_eq {off : Nat} (w : Word) (d : Dev) (h : off < 0x8000) :
    msixWord off w d = ({ d with hif := d.hif.updMsix (off / 16) (msixPut off w.toNat) } : Dev).flushVec (off / 16) :=
  if_neg (Nat.not_le.mpr h)

/-- A word of the table: its entry is as the word makes it, pending bit apart; every other entry stands; and the vector's message
goes out where it was pending and nothing masks it now. -/
theorem msixWord_spec {off : Nat} (w : Word) (d : Dev) (h : off < 0x8000) :
    msixWord off w d = { d with hif := (msixWord off w d).hif, tx := (msixWord off w d).tx }
      ∧ (∃ p, (msixWord off w d).hif.msixEntry (off / 16) = { msixPut off w.toNat (d.hif.msixEntry (off / 16)) with pending := p })
      ∧ (∀ k, k ≠ off / 16 → (msixWord off w d).hif.msixEntry k = d.hif.msixEntry k)
      ∧ ((d.hif.msixEntry (off / 16)).pending = true → ((msixWord off w d).hif.msixEntry (off / 16)).masked = false → d.hif.funcMask = false →
        ((msixWord off w d).hif.msixEntry (off / 16)).pending = false
          ∧ (msixWord off w d).tx = .msix (off / 16) ((msixWord off w d).hif.msixEntry (off / 16)).addr ((msixWord off w d).hif.msixEntry (off / 16)).data :: d.tx) := by
  rw [msixWord_eq w d h]
  generalize hD : ({ d with hif := d.hif.updMsix (off / 16) (msixPut off w.toNat) } : Dev) = D
  have hent : D.hif.msixEntry (off / 16) = msixPut off w.toNat (d.hif.msixEntry (off / 16)) := by
    subst hD; exact Hif.msixEntry_updMsix _ _ _ (msixPut_vec _ _)
  have hother : ∀ k, k ≠ off / 16 → D.hif.msixEntry k = d.hif.msixEntry k := by
    subst hD; exact fun k hk => Hif.msixEntry_updMsix_ne _ _ hk (msixPut_vec _ _)
  have hfm : D.hif.funcMask = d.hif.funcMask := by subst hD; rfl
  have htx : D.tx = d.tx := by subst hD; rfl
  obtain ⟨hdev, ⟨p, hp⟩, hne⟩ := D.flushVec_spec (off / 16)
  refine ⟨?_, ⟨p, by rw [hp, hent]⟩, fun k hk => (hne k hk).trans (hother k hk), fun hpend hmask hf => ?_⟩
  · subst hD; exact hdev
  · rw [hp] at hmask
    have hpD : (D.hif.msixEntry (off / 16)).pending = true := by rw [hent, msixPut_pending, hpend]
    rw [Dev.flushVec_sends hpD hmask (hfm.trans hf), htx]
    simp

theorem exec_registerWrite_bar4 {off : Nat} {s : State} (v : DWord) (hu : s.dev.endpointUp = true) (h4 : off % 4 = 0) :
    exec (.registerWrite 4 off 32 v) s = .next { s with dev := msixWord off (v.setWidth 32) s.dev } := by
  show execRegisterWrite 4 off 32 v s = _
  simp [execRegisterWrite, State.onDev, bar4Write, hu, h4, loW_toNat]
theorem exec_registerWrite_bar4_beyond {off : Nat} {s : State} (v : DWord) (h : 0x8000 ≤ off) : exec (.registerWrite 4 off 32 v) s = .next s := by
  show execRegisterWrite 4 off 32 v s = _
  simp [execRegisterWrite, State.onDev, bar4Write, msixWord, h]

/-! ### The other BARs, and what a page takes no write at -/

theorem exec_registerWrite_noBar {bar : Nat} (off bits : Nat) (v : DWord) (s : State) (h0 : bar ≠ 0) (h2 : bar ≠ 2) (h4 : bar ≠ 4) :
    exec (.registerWrite bar off bits v) s = .next s := by
  show execRegisterWrite bar off bits v s = _
  rw [execRegisterWrite, if_neg h0, if_neg h2, if_neg h4]
theorem exec_registerWrite_page {off : Nat} (bits : Nat) (v : DWord) (s : State) (h : 0x100 ≤ off % 0x1000 ∨ 0x1000000 ≤ off) :
    exec (.registerWrite 2 off bits v) s = .next s := by
  have hp : 4096 ≤ off / 0x1000 ∨ 0x100 ≤ off % 0x1000 := by omega
  show s.onDev (bar2Write off bits v) = _
  simp only [State.onDev, bar2Write, if_pos hp]

/-- Settles O59: an access goes by start-up, then by the access rules, then by the rule of its register. -/
theorem hostAccesses : Obligations.HostAccesses := by
  unfold Obligations.HostAccesses
  intro s off v d c
  refine ⟨fun hoff h4 => ⟨?closed, ?deniedRead, ?deniedWrite, ?lo, ?hi, ?pair⟩, ?width, ?beyond, ?page, ?event, ?msix, ?msixBeyond, ?bar, ?pageWrite⟩
  case closed =>
    intro hu h6 he
    rw [exec_readLoLatch_word s hoff h4, hostRead_closed _ hu h6 he, exec_registerWrite_bar0, writeBar0_word v s hoff h4, writeWord_closed _ hu h6 he]
    exact ⟨rfl, rfl⟩
  case deniedRead =>
    intro h6 hg
    rw [exec_readLoLatch_word s hoff h4, hostRead_denied _ h6 hg]
  case deniedWrite =>
    intro h6 hg
    rw [exec_registerWrite_bar0, writeBar0_word v s hoff h4, writeWord_denied _ h6 hg]
  case lo =>
    intro hm hlo
    rw [exec_readLoLatch_word s hoff h4, hostRead_ret hm, Dev.wordRead_lo _ _ hlo]
    exact ⟨_, rfl, ⟨rfl, rfl, rfl, rfl⟩, rfl, latchGet_latchSet .., fun o => latchGet_latchSet_ne _ _⟩
  case hi =>
    intro hm hhi
    rw [exec_readLoLatch_word s hoff h4, hostRead_ret hm, Dev.wordRead_hi _ _ hhi]
  case pair =>
    intro h8
    refine ⟨_, exec_registerWrite_bar0 off 32 v s, ?_⟩
    rw [exec_registerWrite_bar0, exec_registerWrite_bar0, writeBar0_pair v s hoff h8, writeBar0_word v s hoff h4,
      writeBar0_word (v >>> 32) _ (by omega) (by omega), ← loW_toNat (v >>> 32), loW_shifted]
  case width =>
    intro hoff hm bits h32 h64
    rw [exec_registerWrite_bar0, writeBar0_refused v s hoff h32 h64, hostWrite_viol hm (Dev.served_viol ..)]
  case beyond =>
    exact fun bits => ⟨exec_readLoLatch_beyond bits s, fun h => by rw [exec_registerWrite_bar0, writeBar0_beyond bits v s h]⟩
  case page => exact exec_readLoLatch_page
  case event =>
    intro hm hev
    obtain ⟨-, -, -, hoff, h4⟩ := eventRegs_plain off hev
    rw [exec_registerWrite_bar0, writeBar0_word v s hoff h4, writeWord_event _ hm hev]
  case msix =>
    intro hu hoff h4
    obtain ⟨hdev, ⟨p, hp⟩, hother, hsent⟩ := msixWord_spec (v.setWidth 32) s.dev hoff
    refine ⟨_, exec_registerWrite_bar4 v hu h4, ⟨rfl, rfl, rfl, rfl⟩, hdev, ?_, ?_, hother, hsent⟩
    · rw [hp, ← setWidth_odd v]
      exact msixPut_masked _ _ h4
    · rw [hp, ← BitVec.toNat_setWidth 32 v]
      exact msixPut_data _ _ h4
  case msixBeyond => exact fun _ => exec_registerWrite_bar4_beyond v
  case bar => exact fun bar bits => exec_registerWrite_noBar off bits v s
  case pageWrite => exact fun bits => exec_registerWrite_page bits v s

end Sys2Proof.Machine

/-! The grove mask (R24). -/

namespace Sys2Proof.Machine

/-- A word of BAR0 that no row of its own takes beyond `Dev` goes by the rule of its register. -/
theorem exec_registerWrite_own {off : Nat} (v : DWord) (s : State) (h : off < 0x04000000) (h4 : off % 4 = 0) (hgo : off ≠ Off.lcsGo) (htim : off ≠ Off.timSetCtrl) :
    exec (.registerWrite 0 off 32 v) s = .next { s with dev := s.dev.hostWrite s.ctx off (regW s.ctx off (v.setWidth 32)) } := by
  rw [exec_registerWrite_bar0, writeBar0_word v s h h4, State.writeWord, if_neg hgo, if_neg htim]

/-- The rule of the mask register, by the twelve bits that are left. -/
theorem regW_groveMask_viol (c : Ctx) (d : Dev) {w : Word} (h : w &&& 0xFFF#32 = 0#32) : regW c Off.dspGroveMask w d = .viol := if_pos h
theorem regW_groveMask_took (c : Ctx) (d : Dev) {w : Word} (h : w &&& 0xFFF#32 ≠ 0#32) :
    regW c Off.dspGroveMask w d = .took (d.setReg Off.dspGroveMask (w &&& 0xFFF#32)) := if_neg h

/-- The bits of the mask register. -/
theorem groveBits_getLsbD (v : DWord) (g : Nat) : (v.setWidth 32 &&& 0xFFF#32).getLsbD g = (decide (g < 12) && v.getLsbD g) := by
  rw [BitVec.getLsbD_and, BitVec.getLsbD_setWidth, BitVec.getLsbD_ofNat, show 0xFFF = 2 ^ 12 - 1 by rfl, Nat.testBit_two_pow_sub_one]
  by_cases h : g < 12
  · simp [h, show g < 32 by omega]
  · simp [h]
/-- The written mask leaves no grove exactly where its twelve lowest bits are clear. -/
theorem groveBits_eq_zero (v : DWord) : v.setWidth 32 &&& 0xFFF#32 = 0#32 ↔ ∀ g, g < 12 → v.getLsbD g = false := by
  refine ⟨fun h g hg => ?_, fun h => BitVec.eq_of_getLsbD_eq fun g _ => ?_⟩
  · simpa [h, hg] using (groveBits_getLsbD v g).symm
  · rw [groveBits_getLsbD, BitVec.getLsbD_zero]
    by_cases hg : g < 12
    · simp [h g hg]
    · simp [hg]

/-- Settles O7: the rule of the register refuses the mask exactly where none of its twelve bits is set. -/
theorem groveMask_holds : Obligations.GroveMask := by
  unfold Obligations.GroveMask
  intro s v hm
  rw [exec_registerWrite_own v s (by decide) (by decide) (by decide) (by decide)]
  refine ⟨fun h => ?_, fun ⟨g, hg, hv⟩ => ?_⟩
  · rw [hostWrite_own_viol hm rfl (regW_groveMask_viol _ _ ((groveBits_eq_zero v).mpr h))]
  · rw [hostWrite_own hm rfl (regW_groveMask_took _ _ fun h => ?_)]
    rw [(groveBits_eq_zero v).mp h g hg] at hv
    cases hv

end Sys2Proof.Machine

/-! The reef levels (R173, R177, R182). -/

namespace Sys2Proof.Machine

/-! ### The level that follows -/

section
variable (c : Ctx) (d : Dev)

/-- A condition of R173 that holds now has held since it began; one that does not hold has no beginning. -/
theorem Dev.reefWatch_upSince {t : Nat} (h : fld (d.effReg Off.dspReefCtrl) 15 0 < d.backlog) (ht : d.dsp.upSince = some t) :
    (d.reefWatch c).dsp.upSince = some t := by
  simp [Dev.reefWatch, h, ht]
theorem Dev.reefWatch_upSince_none (h : d.backlog ≤ fld (d.effReg Off.dspReefCtrl) 15 0) : (d.reefWatch c).dsp.upSince = none := by
  simp [Dev.reefWatch, Nat.not_lt.mpr h]
theorem Dev.reefWatch_downSince {t : Nat} (h : 8 * d.backlog ≤ 7 * fld (d.effReg Off.dspReefCtrl) 15 0) (ht : d.dsp.downSince = some t) :
    (d.reefWatch c).dsp.downSince = some t := by
  simp [Dev.reefWatch, h, ht]
theorem Dev.reefWatch_downSince_none (h : 7 * fld (d.effReg Off.dspReefCtrl) 15 0 < 8 * d.backlog) : (d.reefWatch c).dsp.downSince = none := by
  simp [Dev.reefWatch, Nat.not_le.mpr h]
theorem Dev.reefWatch_lowSince {t : Nat} (h : d.outstanding ≤ 30720) (ht : d.dsp.lowSince = some t) : (d.reefWatch c).dsp.lowSince = some t := by
  simp [Dev.reefWatch, h, ht]
theorem Dev.reefWatch_lowSince_none (h : 30720 < d.outstanding) : (d.reefWatch c).dsp.lowSince = none := by
  simp [Dev.reefWatch, Nat.not_le.mpr h]

@[simp] theorem Dev.reefWatch_reef : (d.reefWatch c).dsp.reef = d.dsp.reef := rfl
@[simp] theorem Dev.reefWatch_reefSince : (d.reefWatch c).dsp.reefSince = d.dsp.reefSince := rfl
@[simp] theorem Dev.reefWatch_outstanding : (d.reefWatch c).outstanding = d.outstanding := rfl
@[simp] theorem Dev.reefWatch_effReg (o : Nat) : (d.reefWatch c).effReg o = d.effReg o := rfl

@[simp] theorem heldFor_some (t n : Nat) : heldFor c (some t) n = decide (t + n ≤ c.now) := rfl
@[simp] theorem heldFor_none (n : Nat) : heldFor c none n = false := rfl

/-- So many records outstanding take any level to 3. -/
theorem Dev.reefNext_three (h3 : d.dsp.reef ≠ 3) (ho : 32768 ≤ d.outstanding) : (d.reefWatch c).reefNext c = some 3 := if_pos ⟨h3, ho⟩
/-- The level that follows level 3, and with fewer records outstanding each level below. -/
theorem Dev.reefNext_from_three (h : d.dsp.reef = 3) :
    (d.reefWatch c).reefNext c = if heldFor c (d.reefWatch c).dsp.lowSince 100000 then some 2 else none := by
  simp [Dev.reefNext, h, nsUs]

section
variable {d} (ho : d.outstanding < 32768)
include ho
theorem Dev.reefNext_zero (h : d.dsp.reef = 0) :
    (d.reefWatch c).reefNext c = if heldFor c (d.reefWatch c).dsp.upSince 100000 then some 1 else none := by
  simp [Dev.reefNext, h, Nat.not_le.mpr ho, nsUs]
theorem Dev.reefNext_one (h : d.dsp.reef = 1) :
    (d.reefWatch c).reefNext c =
      if heldFor c ((d.reefWatch c).dsp.upSince.map (fun t => max t d.dsp.reefSince)) (fld (d.effReg Off.dspReefCtrl) 31 16 * 1000) then some 2
      else if heldFor c (d.reefWatch c).dsp.downSince 100000 then some 0 else none := by
  simp [Dev.reefNext, h, Nat.not_le.mpr ho, nsUs] <;> rfl
theorem Dev.reefNext_two (h : d.dsp.reef = 2) :
    (d.reefWatch c).reefNext c = if heldFor c (d.reefWatch c).dsp.downSince 100000 then some 1 else none := by
  simp [Dev.reefNext, h, Nat.not_le.mpr ho, nsUs]
end

/-! ### What entering a level does -/

/-- The register that counts entries of a level. -/
def reefCounters : List (Nat × Nat) := [(1, Off.dspReefL1Cnt), (2, Off.dspReefL2Cnt), (3, Off.dspReefL3Cnt)]

theorem Dev.bump_toNat (off : Nat) : ((d.bump off).reg off).toNat = min 0xFFFFFFFF ((d.reg off).toNat + 1) := by
  have h : sat 0xFFFFFFFF ((d.reg off).toNat + 1) = min 0xFFFFFFFF ((d.reg off).toNat + 1) := by unfold sat; split <;> omega
  show ((d.setReg off _).reg off).toNat = _
  rw [Dev.reg_setReg, BitVec.toNat_ofNat, h]
  omega

theorem Dev.toReef_dsp (n : Nat) : (d.toReef c n).dsp.reef = n ∧ (d.toReef c n).dsp.reefSince = c.now ∧ (d.toReef c n).dsp.items = d.dsp.items := by
  unfold Dev.toReef
  simp only [Dev.record_dsp, Dev.evtBit_dsp]
  split_ifs <;> exact ⟨rfl, rfl, rfl⟩
theorem Dev.toReef_evt (n : Nat) : bit ((d.toReef c n).reg Off.dspEvt) 0 = true := by
  unfold Dev.toReef
  dsimp only
  rw [Dev.record_reg_ne _ _ _ _ (by decide) (by decide), Dev.evtBit_reg]
  simp [bit]
theorem Dev.toReef_counts {n off : Nat} (h : (n, off) ∈ reefCounters) : ((d.toReef c n).reg off).toNat = min 0xFFFFFFFF ((d.reg off).toNat + 1) := by
  have hoff : off ≠ Off.ercLost ∧ off ≠ Off.ercEvt ∧ off ≠ Off.dspEvt := by
    unfold reefCounters at h; fin_cases h <;> decide
  obtain ⟨h1, h2, h3⟩ := hoff
  unfold Dev.toReef
  dsimp only
  rw [Dev.record_reg_ne _ _ _ _ h1 h2, Dev.evtBit_reg_ne _ _ h3]
  unfold reefCounters at h
  fin_cases h <;> exact Dev.bump_toNat ..
end

/-! ### The command -/

theorem exec_reefLevelChange_between {s : State} (h : s.st.toNat % 1000 ≠ 0) : exec .reefLevelChange s = .next s := by
  show s.onDev reefLevelChangeOp = _
  simp [reefLevelChangeOp, h]
/-- At a multiple of 1 µs: the conditions as they stand, and the level that they move to. -/
def Dev.reefStep (c : Ctx) (d : Dev) : Dev := ((d.reefWatch c).reefNext c).elim (d.reefWatch c) (fun n => (d.reefWatch c).toReef c n)
theorem exec_reefLevelChange {s : State} (hw : s.dev.warning = false) (hl : s.dev.locked = false) (h : s.st.toNat % 1000 = 0) :
    exec .reefLevelChange s = .next { s with dev := s.dev.reefStep s.ctx } := by
  show s.onDev reefLevelChangeOp = _
  simp only [State.onDev_eq, reefLevelChangeOp, hw, hl, State.ctx_now, h, Dev.reefStep]
  cases (s.dev.reefWatch s.ctx).reefNext s.ctx <;> rfl
theorem Dev.reefStep_moves {c : Ctx} {d : Dev} {n : Nat} (h : (d.reefWatch c).reefNext c = some n) : d.reefStep c = (d.reefWatch c).toReef c n := by
  rw [Dev.reefStep, h]; rfl
theorem Dev.reefStep_stays {c : Ctx} {d : Dev} (h : (d.reefWatch c).reefNext c = none) : d.reefStep c = d.reefWatch c := by
  rw [Dev.reefStep, h]; rfl

/-- Settles O21: the moves are those that R173's conditions, watched up to this moment, give. -/
theorem reefLevels : Obligations.ReefLevels := by
  unfold Obligations.ReefLevels
  intro s hw hl moved stays counted th b
  have hrun := exec_reefLevelChange hw hl
  have hmove : ∀ n, s.st.toNat % 1000 = 0 → (s.dev.reefWatch s.ctx).reefNext s.ctx = some n → moved n := by
    intro n hm hn
    obtain ⟨h1, h2, h3⟩ := (s.dev.reefWatch s.ctx).toReef_dsp s.ctx n
    rw [← Dev.reefStep_moves hn] at h1 h2 h3
    refine ⟨_, hrun hm, ⟨rfl, rfl, rfl, rfl⟩, h1, h2, h3, ?_⟩
    rw [Dev.reefStep_moves hn]
    exact Dev.toReef_evt ..
  have hcount : ∀ n off, (n, off) ∈ reefCounters → s.st.toNat % 1000 = 0 → (s.dev.reefWatch s.ctx).reefNext s.ctx = some n → moved n ∧ counted off := by
    intro n off ho hm hn
    refine ⟨hmove n hm hn, _, hrun hm, ?_⟩
    rw [Dev.reefStep_moves hn]
    exact Dev.toReef_counts _ _ ho
  have hstay : s.st.toNat % 1000 = 0 → (s.dev.reefWatch s.ctx).reefNext s.ctx = none → stays := by
    intro hm hn
    refine ⟨_, hrun hm, ⟨rfl, rfl, rfl, rfl⟩, ?_⟩
    rw [Dev.reefStep_stays hn]
    exact ⟨rfl, rfl, rfl⟩
  refine ⟨exec_reefLevelChange_between, fun hm h3 ho => hcount 3 _ (by decide) hm (Dev.reefNext_three _ _ h3 ho), fun hm ho => ?_⟩
  refine ⟨?up01, ?stay0, ?up12, ?down10, ?stay1, ?down21, ?stay2, ?down32, ?stay3⟩
  case up01 =>
    intro t h0 hup hs ht
    refine hcount 1 _ (by decide) hm ?_
    simp [Dev.reefNext_zero _ ho h0, Dev.reefWatch_upSince _ _ hup hs, ht]
  case stay0 =>
    intro h0 hup
    refine hstay hm ?_
    simp [Dev.reefNext_zero _ ho h0, Dev.reefWatch_upSince_none _ _ hup]
  case up12 =>
    intro t h1 hup hs ht
    refine hcount 2 _ (by decide) hm ?_
    simp [Dev.reefNext_one _ ho h1, Dev.reefWatch_upSince _ _ hup hs, ht]
  case down10 =>
    intro t h1 hup hdown hs ht
    refine hmove 0 hm ?_
    simp [Dev.reefNext_one _ ho h1, Dev.reefWatch_upSince_none _ _ hup, Dev.reefWatch_downSince _ _ hdown hs, ht]
  case stay1 =>
    intro h1 hup hdown
    refine hstay hm ?_
    simp [Dev.reefNext_one _ ho h1, Dev.reefWatch_upSince_none _ _ hup, Dev.reefWatch_downSince_none _ _ hdown]
  case down21 =>
    intro t h2 hdown hs ht
    refine hcount 1 _ (by decide) hm ?_
    simp [Dev.reefNext_two _ ho h2, Dev.reefWatch_downSince _ _ hdown hs, ht]
  case stay2 =>
    intro h2 hdown
    refine hstay hm ?_
    simp [Dev.reefNext_two _ ho h2, Dev.reefWatch_downSince_none _ _ hdown]
  case down32 =>
    intro t h3 hlow hs ht
    refine hcount 2 _ (by decide) hm ?_
    simp [Dev.reefNext_from_three _ _ h3, Dev.reefWatch_lowSince _ _ hlow hs, ht]
  case stay3 =>
    intro h3 hlow
    refine hstay hm ?_
    simp [Dev.reefNext_from_three _ _ h3, Dev.reefWatch_lowSince_none _ _ hlow]

end Sys2Proof.Machine

/-! The dispatch epoch (R22, R183): an epoch that begins leaves no trace of itself in the dispatch unit. -/

namespace Sys2Proof.Machine

/-- Start-up is done, and the second microsecond has begun with no epoch since. -/
def epochDue : State := { State.reset with st := 2000, dev := { pwr := { stage := 9, powered := true } } }

/-- After the epoch, no epoch has been yet: `Dev.maskEvents` goes on with its second part, and an epoch hands it the new settings as
its first. -/
theorem epochDue_stays_due : ∃ u, exec .dispatchEpoch epochDue = .next u ∧ u.dev.dsp.lastEpoch = 0 := ⟨_, rfl, by decide⟩

/-- Refutes O20: an epoch at 2 µs of ST leaves the last epoch at 0, as it goes on from the part before its settings were taken up. -/
theorem not_dispatchEpoch : ¬ Obligations.DispatchEpoch := by
  unfold Obligations.DispatchEpoch
  intro h
  obtain ⟨u, hu, -, hlast, -⟩ := (h epochDue).1 (by decide) (by decide) (by decide) (by decide) (by decide) (by decide)
  obtain ⟨u', hu', hlast'⟩ := epochDue_stays_due
  rw [hu] at hu'
  cases hu'
  rw [hlast] at hlast'
  exact absurd hlast' (by decide)

end Sys2Proof.Machine

/-! Discovery and the node table (R17, R409, R411, R414 to R416). -/

namespace Sys2Proof.Machine

/-! ### What a flood sends -/

/-- A flood at one port. -/
def Dev.floodAt (skip : Option Nat) (f : Frame) (d : Dev) (n : Nat) : Dev :=
  if d.portUp n && skip != some n then d.sendFrame { f with port := n } else d
theorem Dev.floodOut_eq (skip : Option Nat) (f : Frame) (d : Dev) : d.floodOut skip f = (List.range 8).foldl (Dev.floodAt skip f) d := rfl

/-- Nothing changes but `tx`, and what was sent stays sent. -/
structure Dev.OnlySends (d e : Dev) : Prop where
  dev  : e = { d with tx := e.tx }
  sent : ∀ t ∈ d.tx, t ∈ e.tx

theorem Dev.OnlySends.refl (d : Dev) : d.OnlySends d := ⟨rfl, fun _ h => h⟩
theorem Dev.OnlySends.trans {a b c : Dev} (h : a.OnlySends b) (g : b.OnlySends c) : a.OnlySends c :=
  ⟨by rw [g.dev, h.dev], fun t ht => g.sent t (h.sent t ht)⟩
theorem Dev.OnlySends.fab {d e : Dev} (h : d.OnlySends e) : e.fab = d.fab := by rw [h.dev]
theorem Dev.OnlySends.portUp {d e : Dev} (h : d.OnlySends e) (n : Nat) : e.portUp n = d.portUp n := by rw [Dev.portUp, h.fab, Dev.portUp]

section
variable (skip : Option Nat) (f : Frame)

theorem Dev.floodAt_onlySends (d : Dev) (n : Nat) : d.OnlySends (d.floodAt skip f n) := by
  unfold Dev.floodAt
  split
  · exact ⟨rfl, fun _ h => List.mem_cons_of_mem _ h⟩
  · exact .refl d
/-- The frame as it leaves does not show its port. -/
theorem Dev.floodAt_sends {d : Dev} {n : Nat} (hup : d.portUp n = true) (hs : skip ≠ some n) : Tx.frame n f.bytes ∈ (d.floodAt skip f n).tx := by
  have h : d.floodAt skip f n = d.sendFrame { f with port := n } := if_pos (by simp [hup, hs])
  rw [h]
  exact List.mem_cons_self

theorem foldl_floodAt_onlySends : ∀ (l : List Nat) (d : Dev), d.OnlySends (l.foldl (Dev.floodAt skip f) d)
  | [], d => .refl d
  | n :: l, d => (d.floodAt_onlySends skip f n).trans (foldl_floodAt_onlySends l _)
theorem foldl_floodAt_sends {n : Nat} (hs : skip ≠ some n) {l : List Nat} {d : Dev} (hn : n ∈ l) (hup : d.portUp n = true) :
    Tx.frame n f.bytes ∈ (l.foldl (Dev.floodAt skip f) d).tx := by
  induction l generalizing d with
  | nil => cases hn
  | cons k l ih =>
    rw [List.foldl_cons]
    rcases List.mem_cons.mp hn with hk | hn
    · have h := Dev.floodAt_sends skip f hup hs
      rw [hk] at h ⊢
      exact (foldl_floodAt_onlySends skip f l (d.floodAt skip f k)).sent _ h
    · exact ih hn (((d.floodAt_onlySends skip f k).portUp n).trans hup)

theorem Dev.floodOut_onlySends (d : Dev) : d.OnlySends (d.floodOut skip f) := foldl_floodAt_onlySends skip f (List.range 8) d
/-- A flood leaves on every UP port but one. -/
theorem Dev.floodOut_sends {d : Dev} {n : Nat} (h8 : n < 8) (hup : d.portUp n = true) (hs : skip ≠ some n) : Tx.frame n f.bytes ∈ (d.floodOut skip f).tx :=
  foldl_floodAt_sends skip f hs (List.mem_range.mpr h8) hup
end

/-! ### The discovery message that a device sends (R415) -/

/-- The message of the next flood sequence. -/
def Dev.discovery (d : Dev) : Frame :=
  { port := 0, dst := d.nodeId, src := d.nodeId, cls := 0, flood := true, hops := 0, seq := (d.fab.floodSeq + 1) % 2 ^ 32, boot := d.pwr.boots,
    payload := unitIdBytes ++ toLe 1 d.fab.pair.role.code ++ toLe 1 d.tim.state.code ++ zeros 14 }
/-- A device that has taken the next flood sequence for a message of now. -/
def Dev.discovering (c : Ctx) (d : Dev) : Dev := { d with fab := { d.fab with floodSeq := (d.fab.floodSeq + 1) % 2 ^ 32, lastDisc := c.now } }

theorem discoveryTimerOp_due (c : Ctx) {d : Dev} (hf : d.fabOn = true) (hm : d.mgmtUp = true) (ht : d.fab.lastDisc = 0 ∨ d.fab.lastDisc + d.discPeriod ≤ c.now) :
    discoveryTimerOp c d = (d.discovering c).floodOut none d.discovery := by
  unfold discoveryTimerOp
  rw [if_pos (by simpa [hf, hm] using ht)]
  rfl
theorem discoveryTimerOp_waits (c : Ctx) {d : Dev} (h : d.mgmtUp = false ∨ (0 < d.fab.lastDisc ∧ c.now < d.fab.lastDisc + d.discPeriod)) : discoveryTimerOp c d = d := by
  unfold discoveryTimerOp
  rw [if_neg]
  rintro hc
  simp only [Bool.and_eq_true, Bool.or_eq_true, beq_iff_eq, decide_eq_true_eq] at hc
  obtain ⟨⟨-, hm⟩, ht⟩ := hc
  rcases h with h | ⟨h1, h2⟩
  · rw [hm] at h; cases h
  · omega

/-! ### The node table (R414, R416) -/

/-- The frame that arrives on a port has that port. -/
theorem Frame.ofBytes_port {port : Nat} {b : Bytes} {f : Frame} (h : Frame.ofBytes port b = some f) : f.port = port := by
  unfold Frame.ofBytes at h
  dsimp only at h
  split at h
  · cases h
  · cases h; rfl

/-- Routes are learned without a word to the node table. -/
theorem Dev.routeInsert_nodes (r : Route) (d : Dev) : (d.routeInsert r).fab.nodes = d.fab.nodes := by
  unfold Dev.routeInsert
  dsimp only
  split
  · rfl
  · split
    · rfl
    · split <;> rfl
theorem Dev.learn_nodes (c : Ctx) (src cls port hops : Nat) (d : Dev) : (d.learn c src cls port hops).fab.nodes = d.fab.nodes := by
  unfold Dev.learn
  dsimp only
  split
  · split
    · rfl
    · exact Dev.routeInsert_nodes ..
  · split <;> rfl
theorem Dev.floodNew_nodes (src boot seq : Nat) (d : Dev) : (d.floodNew src boot seq).2.fab.nodes = d.fab.nodes := by
  unfold Dev.floodNew
  dsimp only
  (repeat' split) <;> rfl

/-- A frame that carries a discovery message to this device. -/
structure Frame.IsDiscovery (f : Frame) (d : Dev) : Prop where
  on   : d.fabOn = true
  up   : d.portUp f.port = true
  cls  : f.cls = 0
  flood : f.flood = true
  self : f.dst = f.src
  len  : f.payload.length = 32

/-- The message is heard: firmware has a task, and the route of its source is learned. -/
def Dev.heard (c : Ctx) (f : Frame) (d : Dev) : Dev := (d.fwReady c 2).learn c f.src f.cls f.port f.hops
/-- A node as a new message leaves it. -/
def Node.told (now : Nat) (f : Frame) (n : Node) : Node :=
  { n with
    unit := le f.payload 0 16, boot := f.boot, seq := f.seq, hops := f.hops, live := true, lastSt := now, role := byteAt f.payload 16, qual := byteAt f.payload 17
    portSts := (f.port, now) :: n.portSts.filter (fun p => p.1 != f.port) }
/-- The node table with a new message. -/
def Dev.noted (c : Ctx) (f : Frame) (d : Dev) : Dev :=
  { d with fab := { d.fab with nodes := upsert (fun n => n.num == f.src) { num := f.src } (Node.told c.now f) d.fab.nodes } }
/-- A discovery message goes onward, where the flood is new. -/
def Dev.relay (f : Frame) (d : Dev) : Dev :=
  let (new, e) := d.floodNew f.src f.boot f.seq
  if !new || e.fab.conflict then e
  else if e.maxHops < f.hops + 1 then e.bump Off.fabDropped
  else (e.bump Off.fabFlooded).floodOut (some f.port) { f with hops := f.hops + 1 }
/-- The table holds this message of the node, or a later one. -/
def Dev.knows (f : Frame) (d : Dev) : Bool := d.fab.nodes.any (fun n => n.num == f.src && !n.older f.boot f.seq)

section
variable (c : Ctx) (f : Frame) (d : Dev)

theorem Dev.heard_nodes : (d.heard c f).fab.nodes = d.fab.nodes := by
  unfold Dev.heard
  rw [Dev.learn_nodes, Dev.fwReady_fab]
theorem Dev.relay_nodes : (d.relay f).fab.nodes = d.fab.nodes := by
  have h := d.floodNew_nodes f.src f.boot f.seq
  unfold Dev.relay
  generalize d.floodNew f.src f.boot f.seq = r at h ⊢
  obtain ⟨new, e⟩ := r
  dsimp only at h ⊢
  split_ifs
  · exact h
  · exact h
  · rw [Dev.floodOut_fab]
    exact h
theorem Dev.noted_node : (d.noted c f).fab.nodes.find? (fun n => n.num == f.src) =
    some (Node.told c.now f ((d.fab.nodes.find? (fun n => n.num == f.src)).getD { num := f.src })) :=
  find_upsert (fun n : Node => n.num == f.src) { num := f.src } (Node.told c.now f) (by simp) (fun n hn => by simpa [Node.told] using hn) d.fab.nodes
theorem Dev.noted_node_ne {k : Nat} (h : k ≠ f.src) :
    (d.noted c f).fab.nodes.find? (fun n => n.num == k) = d.fab.nodes.find? (fun n => n.num == k) := by
  refine find_upsert_other _ _ _ _ (fun n hn => ?_) (fun n hn => ?_) (by simp) _
  · simp only [beq_iff_eq, beq_eq_false_iff_ne] at hn ⊢
    omega
  · simp only [Node.told, beq_iff_eq, beq_eq_false_iff_ne] at hn ⊢
    omega
end

section
variable {f : Frame} {d : Dev} (hf : f.IsDiscovery d) (c : Ctx)
include hf

theorem discoveryReceiveOp_conflict (hs : f.src = d.nodeId) (hu : le f.payload 0 16 ≠ Config.unitId.toNat) (hc : d.fab.conflict = false) :
    discoveryReceiveOp f c d = ({ d with fab := { d.fab with conflict := true } } : Dev).evtBit Off.fabEvt 1 := by
  obtain ⟨hon, hup, hcls, hfl, hself, hlen⟩ := hf
  simp [discoveryReceiveOp, hon, hup, hcls, hfl, hself, hlen, hs, hu, hc]

theorem discoveryReceiveOp_other (hs : f.src ≠ d.nodeId) :
    discoveryReceiveOp f c d = if (d.heard c f).knows f then d.heard c f else ((d.heard c f).noted c f).relay f := by
  obtain ⟨hon, hup, hcls, hfl, hself, hlen⟩ := hf
  exact (if_neg (by simp [hon, hup, hcls, hfl, hself, hlen])).trans ((if_neg hs).trans rfl)

/-- A message that the node table does not hold yet. -/
theorem discoveryReceiveOp_new (hs : f.src ≠ d.nodeId) (hn : ∀ n ∈ d.fab.nodes, n.num = f.src → n.older f.boot f.seq = true) :
    (discoveryReceiveOp f c d).fab.nodes = ((d.heard c f).noted c f).fab.nodes := by
  have hk : (d.heard c f).knows f = false := by
    rw [Dev.knows, Dev.heard_nodes, List.any_eq_false]
    intro n hmem
    simpa using hn n hmem
  rw [discoveryReceiveOp_other hf c hs, hk]
  exact Dev.relay_nodes ..
theorem discoveryReceiveOp_known (hs : f.src ≠ d.nodeId) {n : Node} (hmem : n ∈ d.fab.nodes) (hnum : n.num = f.src) (ho : n.older f.boot f.seq = false) :
    discoveryReceiveOp f c d = d.heard c f := by
  have hk : (d.heard c f).knows f = true := by
    rw [Dev.knows, Dev.heard_nodes, List.any_eq_true]
    exact ⟨n, hmem, by simp [hnum, ho]⟩
  rw [discoveryReceiveOp_other hf c hs, hk]
  rfl
end

/-- A node that is LIVE no more, and has no routes. -/
def Dev.aged (node : Nat) (d : Dev) : Dev :=
  let f := { d.fab with nodes := updWhere (fun (n : Node) => n.num == node) (fun (n : Node) => { n with live := false }) d.fab.nodes }
  { d with fab := f.dropRoutes (fun r => r.node == node) }
/-- A node that has not been heard of for three periods (R416). -/
theorem nodeAgeOp_due (c : Ctx) {d : Dev} {node : Nat} {x : Node} (hx : d.fab.nodes.find? (fun n => n.num == node) = some x) (hl : x.live = true)
    (ht : x.lastSt + 3 * d.discPeriod ≤ c.now) : nodeAgeOp node c d = (d.aged node).evtBit Off.fabEvt 2 := by
  have hany : d.fab.nodes.any (fun n => n.num == node && n.live && decide (n.lastSt + 3 * d.discPeriod ≤ c.now)) = true := by
    rw [List.any_eq_true]
    exact ⟨x, List.mem_of_find?_eq_some hx, by simpa [hl, ht] using List.find?_some hx⟩
  exact if_pos hany

/-! ### The three commands -/

theorem exec_discoveryTimer (s : State) : exec .discoveryTimer s = .next { s with dev := discoveryTimerOp s.ctx s.dev } := rfl
theorem exec_nodeAgeOut (node : Nat) (s : State) : exec (.nodeAgeOut node) s = .next { s with dev := nodeAgeOp node s.ctx s.dev } := rfl
theorem exec_discoveryReceive {port : Nat} {bytes : Bytes} {f : Frame} (s : State) (h : Frame.ofBytes port bytes = some f) :
    exec (.discoveryReceive port bytes) s = .next { s with dev := discoveryReceiveOp f s.ctx s.dev } := by
  show s.onDev (onFrame port bytes discoveryReceiveOp) = _
  simp only [State.onDev_eq, onFrame, h]

/-- Settles O37: a message that is sent, one that is heard, and a node that is not heard of. -/
theorem fabricNodes : Obligations.FabricNodes := by
  unfold Obligations.FabricNodes
  intro s
  refine ⟨fun hon => ⟨?sends, ?waits⟩, ?hears, ?ages⟩
  case sends =>
    intro hm ht m
    have hop := discoveryTimerOp_due s.ctx hon hm ht
    have honly := (s.dev.discovering s.ctx).floodOut_onlySends none s.dev.discovery
    refine ⟨_, exec_discoveryTimer s, ⟨rfl, rfl, rfl, rfl⟩, ?_, ?_, fun n h8 hup => ?_⟩
    · dsimp only
      rw [hop, honly.fab]
      exact honly.dev
    · dsimp only
      rw [hop, honly.fab]
      rfl
    · dsimp only
      rw [hop]
      exact Dev.floodOut_sends none s.dev.discovery h8 hup (by simp)
  case waits =>
    intro h
    rw [exec_discoveryTimer, discoveryTimerOp_waits s.ctx h]
  case hears =>
    intro port bytes f hb hon hup hcls hfl hself hlen unit
    obtain rfl := Frame.ofBytes_port hb
    have hf : f.IsDiscovery s.dev := ⟨hon, hup, hcls, hfl, hself, hlen⟩
    rw [exec_discoveryReceive s hb]
    refine ⟨fun hs hu hc => by rw [discoveryReceiveOp_conflict hf s.ctx hs hu hc], fun hs => ⟨fun hn => ?_, fun n hmem hnum ho => ?_⟩⟩
    · have hnodes := discoveryReceiveOp_new hf s.ctx hs hn
      refine ⟨_, Node.told s.st.toNat f ((s.dev.fab.nodes.find? (fun n => n.num == f.src)).getD { num := f.src }), rfl, ⟨rfl, rfl, rfl, rfl⟩, ?_, ?_⟩
      · dsimp only
        rw [hnodes, Dev.noted_node, Dev.heard_nodes]
        rfl
      · refine ⟨rfl, rfl, rfl, rfl, rfl, rfl, rfl, rfl, List.mem_cons_self, fun k hk => ?_⟩
        dsimp only
        rw [hnodes, Dev.noted_node_ne _ _ _ hk, Dev.heard_nodes]
    · rw [discoveryReceiveOp_known hf s.ctx hs hmem hnum ho, Dev.heard, hcls]
  case ages =>
    intro node x hx hl ht
    refine ⟨_, exec_nodeAgeOut node s, ⟨rfl, rfl, rfl, rfl⟩, ?_⟩
    dsimp only
    rw [nodeAgeOp_due s.ctx hx hl ht, Dev.evtBit_fab]
    refine ⟨?_, ?_, ?_⟩
    · show (updWhere _ _ s.dev.fab.nodes).find? _ = _
      rw [find_updWhere _ _ (fun n hn => by simpa using hn), hx]
      rfl
    · rfl
    · rw [Dev.evtBit_reg]
      simp [bit]

end Sys2Proof.Machine

/-! Debug reopen and the debug master (R517, R534 to R539, R557, R560). -/

namespace Sys2Proof.Machine

/-! ### Challenge, response, scope -/

section
variable (c : Ctx) (d : Dev)

theorem Dev.dbgDone_ends (res : Nat) : (d.dbgDone res).lcs = { d.lcs with dbgResult := res } ∧ bit ((d.dbgDone res).reg Off.lcsEvt) 3 = true := by
  unfold Dev.dbgDone
  rw [Dev.evtBit_lcs, Dev.evtBit_reg]
  exact ⟨rfl, by simp [bit]⟩

theorem Dev.mgmtNonce_lcs : (d.mgmtNonce c).2.lcs = d.lcs := Dev.request_2_lcs ..

variable {c d}

theorem Dev.dbgChallenge_noReopen (h : c.otp.both LcState.reopens = false) : d.dbgChallenge c = d.dbgDone 1 := by simp [Dev.dbgChallenge, h]
theorem Dev.dbgChallenge_noEntropy (h : c.otp.both LcState.reopens = true) (hm : d.mgmtDrbg = false) : d.dbgChallenge c = d.dbgDone 2 := by
  simp [Dev.dbgChallenge, h, hm]
theorem Dev.dbgChallenge_issues (h : c.otp.both LcState.reopens = true) (hm : d.mgmtDrbg = true) :
    (d.dbgChallenge c).lcs = { d.lcs with
      dbgResult := 0
      chal := some { nonce := (d.mgmtNonce c).1, state := c.otp.state.code, scope := fld (d.reg Off.lcsDbgReq) 1 0, issued := c.now, stamp := d.stamp c } }
    ∧ bit ((d.dbgChallenge c).reg Off.lcsEvt) 3 = true := by
  have hl := d.mgmtNonce_lcs c
  unfold Dev.dbgChallenge
  rw [if_neg (by simp [h]), if_neg (by simp [hm])]
  generalize d.mgmtNonce c = r at hl ⊢
  obtain ⟨n, e⟩ := r
  dsimp only at hl ⊢
  obtain ⟨h1, h2⟩ := Dev.dbgDone_ends { e with lcs := { e.lcs with chal := some { nonce := n, state := c.otp.state.code, scope := fld (d.reg Off.lcsDbgReq) 1 0, issued := c.now, stamp := d.stamp c } } } 0
  exact ⟨by rw [h1, ← hl], h2⟩

/-- A pair that debug does not halt stands; one that it halts is in service again. -/
theorem Dev.mgmtResume_running {n : Nat} (h : d.pwr.mgmtHalt.getD n false = false) : d.mgmtResume c n = d := if_neg (ne_true_of_eq_false h)
theorem Dev.mgmtResume_halted {n : Nat} (h : d.pwr.mgmtHalt.getD n false = true) : d.mgmtResume c n = { (d.fwAdvance c) with
    pwr := { d.pwr with mgmtHalt := d.pwr.mgmtHalt.set n false, mgmtOk := d.pwr.mgmtOk.set n true }
    tmp := { d.tmp with active := d.tmp.active &&& ~~~(1#32 <<< 0x10) } } := if_pos h

theorem Dev.dbgReset_closed (h : d.lcs.scope = 0) : d.dbgReset c = d := if_pos h
theorem Dev.dbgReset_open (h : d.lcs.scope ≠ 0) : (d.dbgReset c).lcs = { d.lcs with scope := 0, expiry := 0 } ∧ bit ((d.dbgReset c).reg Off.lcsEvt) 2 = true
    ∧ (d.dbgReset c).pwr = ((d.mgmtResume c 0).mgmtResume c 1).pwr := by
  rw [Dev.dbgReset, if_neg h, Dev.evtBit_lcs, Dev.evtBit_reg, Dev.evtBit_pwr]
  exact ⟨rfl, by simp [bit], rfl⟩
/-- Pair 0 alone is halted: it resumes. -/
theorem Dev.mgmtResume_first (h : d.pwr.mgmtHalt = [true, false]) : ((d.mgmtResume c 0).mgmtResume c 1).pwr.mgmtHalt = [false, false]
    ∧ ((d.mgmtResume c 0).mgmtResume c 1).pwr.mgmtOk.getD 0 true = true := by
  rw [Dev.mgmtResume_halted (n := 0) (by simp [h]), Dev.mgmtResume_running (by simp [h])]
  refine ⟨by simp [h], ?_⟩
  cases d.pwr.mgmtOk <;> simp
end

section
variable {s : State} (hm : HostMay s true Off.lcsDbgCmd)
include hm
theorem exec_debugChallenge : exec .debugChallenge s = .next { s with dev := s.dev.dbgChallenge s.ctx } := by
  have h : s.dev.hostWrite s.ctx Off.lcsDbgCmd (dbgCmdW s.ctx 1#32) = s.dev.dbgChallenge s.ctx := hostWrite_own hm rfl rfl
  show execDebugChallenge s = _
  rw [execDebugChallenge, State.onDev_eq, h]
theorem exec_debugClose : exec .debugClose s = .next { s with dev := s.dev.dbgReset s.ctx } := by
  have h : s.dev.hostWrite s.ctx Off.lcsDbgCmd (dbgCmdW s.ctx 2#32) = s.dev.dbgReset s.ctx := hostWrite_own hm rfl rfl
  show execDebugClose s = _
  rw [execDebugClose, State.onDev_eq, h]
end

theorem exec_debugExpiry (s : State) : exec .debugExpiry s = .next { s with dev := debugExpiryOp s.ctx s.dev } := rfl

/-! ### The response (R537) -/

/-- What a response leaves of the debug state. -/
def Lcs.answered (l : Lcs) : Except Nat (Nat × Nat × Nat) → Lcs
  | .error e => { l with dbgResult := e }
  | .ok x => { l with dbgResult := 6, resp := some x, chal := l.chal.map (fun (k : DbgChal) => { k with used := true }) }

/-- A response of the form of R537 whose signature fits. -/
def dbgFormOk (c : Ctx) (d : Dev) (r : DmaRead) : Bool :=
  (r.refused == false && r.failed == false && le r.data 0 2 == 1 && (le r.data 2 2 == 2 || le r.data 2 2 == 3)
    && le r.data 4 4 == (if le r.data 2 2 = 2 then 96 else 3309) && decide (48 + le r.data 4 4 ≤ r.data.length)
    && decide (1 ≤ le r.data 36 4 ∧ le r.data 36 4 ≤ 86400) && allZero (bsub r.data 34 2) && allZero (bsub r.data 40 8))
  && d.nymjorSig c r.data
/-- A response to another device's challenge, or to another challenge of this one. -/
def dbgUnbound (k : DbgChal) (b : Bytes) : Bool :=
  !unitIdIs b 8 || le b 24 8 != k.nonce.toNat || byteAt b 32 != k.state || byteAt b 33 != k.scope

section
variable {c : Ctx} {r : DmaRead} {d : Dev}

theorem dbgResponse_badForm (h : dbgFormOk c d r = false) : dbgResponse c r d = .error 3 := by
  refine if_pos ?_
  simpa only [dbgFormOk, beq_false, svcSigLen, Bool.and_eq_false_iff (y := d.nymjorSig c r.data)] using h

variable (h : dbgFormOk c d r = true)
include h
theorem dbgResponse_formed : dbgResponse c r d = match d.lcs.chal with
    | none => .error 4
    | some k => if dbgUnbound k r.data then .error 4 else if k.used = true ∨ k.issued + 600 * nsS < c.now then .error 5
      else .ok (k.scope, le r.data 36 4, k.nonce.toNat % 65536) := by
  unfold dbgResponse
  dsimp only
  rw [if_neg (by simpa only [dbgFormOk, beq_false, svcSigLen, not_or, Bool.not_eq_false, Bool.and_eq_true_iff (y := d.nymjorSig c r.data)] using h)]
  cases d.lcs.chal with
  | none => rfl
  | some k =>
    dsimp only
    congr 1
    simp [dbgUnbound, or_assoc]
end

/-- What a response comes to, check by check. -/
theorem Lcs.answered_dbgResponse {c : Ctx} {r : DmaRead} {d : Dev} : d.lcs.answered (dbgResponse c r d) =
    if !dbgFormOk c d r then { d.lcs with dbgResult := 3 }
    else match d.lcs.chal with
      | none => { d.lcs with dbgResult := 4 }
      | some k => if dbgUnbound k r.data then { d.lcs with dbgResult := 4 }
        else if k.used = true ∨ k.issued + 600 * nsS < c.now then { d.lcs with dbgResult := 5 }
        else { d.lcs with dbgResult := 6, resp := some (k.scope, le r.data 36 4, k.nonce.toNat % 65536), chal := some { k with used := true } } := by
  cases hf : dbgFormOk c d r with
  | false => rw [dbgResponse_badForm hf]; rfl
  | true =>
    rw [dbgResponse_formed hf, if_neg (by decide)]
    cases hk : d.lcs.chal with
    | none => simp [Lcs.answered, hk]
    | some k =>
      dsimp only
      split_ifs with hb hu <;> simp [Lcs.answered, hk]

theorem dbgTokenW_took (c : Ctx) (r : DmaRead) (d : Dev) :
    ∃ e, dbgTokenW c r d = .took e ∧ e.lcs = d.lcs.answered (dbgResponse c r d) ∧ bit (e.reg Off.lcsEvt) 3 = true := by
  unfold dbgTokenW
  cases dbgResponse c r d with
  | error e => exact ⟨_, rfl, d.dbgDone_ends e⟩
  | ok x => exact ⟨_, rfl, Dev.dbgDone_ends _ 6⟩

theorem exec_debugTokenGo (data : Bytes) (read : DmaEnd) (s : State) :
    exec (.debugTokenGo data read) s = .next { s with dev := s.dev.hostWrite s.ctx Off.lcsDbgTokenCtrl (dbgTokenW s.ctx (dmaRead data read)) } := rfl

/-! ### LCS_DBG_OPEN (R538) -/

section
variable {c : Ctx} {d : Dev} {v : Word}

theorem dbgOpenW_none (h : d.lcs.resp = none) : dbgOpenW c v d = .viol := by simp [dbgOpenW, h]

variable {scope life nonce : Nat} (h : d.lcs.resp = some (scope, life, nonce))
include h
theorem dbgOpenW_other (hv : fld v 1 0 ≠ scope ∨ fld v 31 16 ≠ nonce) : dbgOpenW c v d = .viol := by simp [dbgOpenW, h, hv]
theorem dbgOpenW_noQuorum (hl : c.otp.state ≠ .factoryLocked) (hq : d.quorum Off.lcsDbgOpen v = false) : dbgOpenW c v d = .viol := by
  simp [dbgOpenW, h, hl, hq]
theorem dbgOpenW_opens (hs : fld v 1 0 = scope) (hn : fld v 31 16 = nonce) (hq : c.otp.state = .factoryLocked ∨ d.quorum Off.lcsDbgOpen v = true) :
    ∃ e, dbgOpenW c v d = .took e ∧ e.lcs = { d.lcs with resp := none, scope := scope, expiry := c.now + life * 1000000000 }
      ∧ bit (e.reg Off.lcsEvt) 1 = true := by
  have hq' : ¬ (c.otp.state ≠ .factoryLocked ∧ d.quorum Off.lcsDbgOpen v = false) := by
    rintro ⟨h1, h2⟩
    rcases hq with hq | hq
    · exact h1 hq
    · rw [hq] at h2; cases h2
  unfold dbgOpenW
  simp only [h]
  rw [if_neg (by simp [hs, hn]), if_neg hq']
  refine ⟨_, rfl, ?_, ?_⟩
  · rw [Dev.evtBit_lcs, Dev.evidence_lcs]
    rfl
  · rw [Dev.evtBit_reg]
    simp [bit]
end

theorem exec_debugOpen (v : Word) (s : State) : exec (.debugOpen v) s = .next { s with dev := s.dev.hostWrite s.ctx Off.lcsDbgOpen (dbgOpenW s.ctx v) } := rfl

/-! ### What was sent stays sent -/

section
variable (d : Dev)

theorem Dev.raiseVec_sent (v : Nat) {t : Tx} (h : t ∈ d.tx) : t ∈ (d.raiseVec v).tx := by
  unfold Dev.raiseVec
  dsimp only
  split
  · exact h
  · exact List.mem_cons_of_mem _ h
theorem Dev.evtBit_sent (off i : Nat) {t : Tx} (h : t ∈ d.tx) : t ∈ (d.evtBit off i).tx := by
  unfold Dev.evtBit Dev.evt
  dsimp only
  split_ifs
  · exact h
  · exact h
  · exact Dev.raiseVec_sent _ _ h
theorem Dev.record_sent (c : Ctx) (trig : Nat) (p : Bytes) {t : Tx} (h : t ∈ d.tx) : t ∈ (d.record c trig p).tx := by
  have hb : ∀ (e : Dev) (b : Bool), t ∈ e.tx → t ∈ (Dev.evtBit Off.ercEvt 0 (if b = true then e.bump Off.ercLost else e)).tx := by
    intro e b he
    apply Dev.evtBit_sent
    split
    · exact he
    · exact he
  simp only [Dev.record]
  split
  · split
    · exact h
    · exact hb _ _ h
  · exact hb _ _ h
theorem Dev.violation_sent (c : Ctx) (k m r e a : Nat) {t : Tx} (h : t ∈ d.tx) : t ∈ (d.violation c k m r e a).tx := by
  unfold Dev.violation
  apply Dev.record_sent
  rw [Dev.bump_tx]
  split
  · exact h
  · exact Dev.evtBit_sent _ _ _ h
theorem Dev.evidence_sent (c : Ctx) (typ : Nat) (p : Bytes) {t : Tx} (h : t ∈ d.tx) : t ∈ (d.evidence c typ p).tx := by
  unfold Dev.evidence Dev.evidenceAt
  split
  · exact h
  · exact Dev.evtBit_sent _ _ _ h

/-! ### A denied access is reported (R560) -/

theorem Dev.debugDenied_spec (c : Ctx) (k r e a : Nat) : (d.debugDenied c k r e a).acc.dbgError = true ∧ (d.debugDenied c k r e a).rdata = d.rdata
    ∧ ∀ t ∈ d.tx, t ∈ (d.debugDenied c k r e a).tx := by
  have hr := d.violation_rdata c k Mst.debug r e a
  have ht : ∀ t ∈ d.tx, t ∈ (d.violation c k Mst.debug r e a).tx := fun t h => d.violation_sent c k Mst.debug r e a h
  unfold Dev.debugDenied
  dsimp only
  split
  · rw [Dev.evtBit_acc, Dev.evidence_acc, Dev.evtBit_rdata, Dev.evidence_rdata]
    exact ⟨rfl, hr, fun t h => Dev.evtBit_sent _ _ _ (Dev.evidence_sent _ _ _ _ (ht t h))⟩
  · exact ⟨rfl, hr, ht⟩
end

/-! ### What the debug master reads (R555) -/

section
variable (c : Ctx) (m : Memory) (addr n : Nat) (d : Dev)

theorem Dev.debugRead_length : (d.debugRead c m addr n).1.length = n := by simp [Dev.debugRead]
/-- A byte that the gates deny reads 0. -/
theorem Dev.debugRead_denied {i : Nat} (hi : i < n) (hg : (d.gate c Mst.debug false (addr + i)).ok = false) : byteAt (d.debugRead c m addr n).1 i = 0 := by
  simp [Dev.debugRead, byteAt, hi, hg]

/-- Above the registers no word of a register is read. -/
theorem debugWords_none (h : 0x05000000 ≤ addr) (p : Nat → Bool) :
    ((List.range (n / 4 + 2)).map (fun i => addr / 4 * 4 + 4 * i)).filter (fun a => decide (a < addr + n ∧ a < 0x05000000) && p a) = [] := by
  rw [List.filter_eq_nil_iff]
  intro a ha
  obtain ⟨i, -, rfl⟩ := List.mem_map.mp ha
  have : ¬ (addr / 4 * 4 + 4 * i < addr + n ∧ addr / 4 * 4 + 4 * i < 0x05000000) := by omega
  simp [this]
/-- SRAM and what lies about it reads as memory. -/
theorem Dev.memByte_below {a : Nat} (h : a < 0x20000000) : d.memByte c m a = m.read a := by
  have hm : isMram a = false := by
    simp only [isMram, decide_eq_false_iff_not]
    omega
  rw [Dev.memByte, hm, if_neg (by decide), if_neg (by omega), if_neg (by unfold ddrBase; omega)]
theorem Dev.debugRead_memory (ha : 0x05000000 ≤ addr) (hn : addr + n ≤ 0x20000000) (hg : ∀ i, i < n → (d.gate c Mst.debug false (addr + i)).ok = true) :
    d.debugRead c m addr n = ((List.range n).map (fun i => m.read (addr + i)), d) := by
  unfold Dev.debugRead
  rw [debugWords_none addr n ha]
  refine Prod.ext (List.map_congr_left fun i hi => ?_) rfl
  have hi := List.mem_range.mp hi
  dsimp only
  rw [hg i hi, if_neg (by decide), if_neg (by omega), Dev.memByte_below c m d (by omega)]
end

/-! ### What an access does (R534, R557) -/

section
variable {c : Ctx} {d : Dev} {w : Bool} {addr n : Nat}

theorem Dev.debugIssued_eq_true : d.debugIssued c w = true ↔ d.pwr.powered = true ∧ (if w then 2 else 1) ≤ d.dbgScope c.otp := by
  simp [Dev.debugIssued]
theorem Dev.debugIssued_eq_false : d.debugIssued c w = false ↔ d.pwr.powered = false ∨ d.dbgScope c.otp < (if w then 2 else 1) := by
  rw [← Bool.not_eq_true, Dev.debugIssued_eq_true, not_and_or, Bool.not_eq_true, Nat.not_le]
/-- Halting and resuming a pair needs CONTROL. -/
theorem Dev.debugControl_eq_true : d.debugIssued c true = true ↔ d.pwr.powered = true ∧ 2 ≤ d.dbgScope c.otp := by simp [Dev.debugIssued]
theorem Dev.debugControl_eq_false : d.debugIssued c true = false ↔ d.pwr.powered = false ∨ d.dbgScope c.otp < 2 := by
  rw [← Bool.not_eq_true, Dev.debugControl_eq_true, not_and_or, Bool.not_eq_true, Nat.not_le]
theorem Dev.debugBad_some (h : ∃ i, i < n ∧ (d.gate c Mst.debug w (addr + i)).ok = false) : ∃ i, d.debugBad c w addr n = some i := by
  obtain ⟨i, hi, hg⟩ := h
  rw [← Option.isSome_iff_exists, Dev.debugBad, List.find?_isSome]
  exact ⟨i, List.mem_range.mpr hi, by simp [hg]⟩
theorem Dev.debugBad_none (h : ∀ i, i < n → (d.gate c Mst.debug w (addr + i)).ok = true) : d.debugBad c w addr n = none := by
  rw [Dev.debugBad, List.find?_eq_none]
  intro i hi
  simp [h i (List.mem_range.mp hi)]
end

section
variable {w : Bool} {addr : Nat} {data : Bytes} {s : State}

theorem exec_debugAccess_idle (h : s.dev.debugIssued s.ctx w = false) : exec (.debugAccess w addr data none) s = .next s := by
  show execDebugAccess w addr data none s = _
  simp [execDebugAccess, debugAccessOp, Dev.debugTaken, h]

variable (hi : s.dev.debugIssued s.ctx w = true)
include hi

theorem exec_debugAccess_denied {i : Nat} (hb : s.dev.debugBad s.ctx w addr (min 4096 data.length) = some i) :
    ∃ k r e a, exec (.debugAccess w addr data none) s
      = .next { s with dev := (s.dev.debugGot s.ctx w s.mem addr (min 4096 data.length)).debugDenied s.ctx k r e a } := by
  refine ⟨if w then Viol.write else Viol.read, (s.dev.gate s.ctx Mst.debug w (addr + i)).region, (s.dev.gate s.ctx Mst.debug w (addr + i)).epoch, addr + i, ?_⟩
  show execDebugAccess w addr data none s = _
  simp only [execDebugAccess, debugAccessOp, Dev.debugTaken, hi, hb, Option.isNone_some, Bool.and_false, Bool.false_eq_true, Bool.not_true, if_false]

variable (hb : s.dev.debugBad s.ctx w addr (min 4096 data.length) = none)
include hb

theorem exec_debugAccess_read (hw : w = false) (ha : 0x05000000 ≤ addr) (hn : addr + min 4096 data.length ≤ 0x20000000)
    (hg : ∀ i, i < min 4096 data.length → (s.dev.gate s.ctx Mst.debug false (addr + i)).ok = true) :
    exec (.debugAccess w addr data none) s = .next { s with dev := { s.dev with
      acc := { s.dev.acc with dbgError := false }
      rdata := BitVec.ofNat 64 (le ((List.range (min 4096 data.length)).map (fun i => Memory.read s.mem (addr + i))) 0 8)
      tx := .debug ((List.range (min 4096 data.length)).map (fun i => Memory.read s.mem (addr + i))) :: s.dev.tx } } := by
  subst hw
  show execDebugAccess false addr data none s = _
  simp [execDebugAccess, debugAccessOp, hi, hb, Dev.debugGot, Dev.debugRead_memory _ _ _ _ _ ha hn hg, Dev.emit]

theorem exec_debugAccess_write (hw : w = true) (ha : 0x04000000 ≤ addr) (hn : 0 < min 4096 data.length)
    (hok : ∀ i, i < min 4096 data.length → s.dev.writable (addr + i) = true) :
    exec (.debugAccess w addr data none) s = .next { s with
      dev := { s.dev with acc := { s.dev.acc with dbgError := false } }, mem := Memory.writeBytes s.mem addr (data.take (min 4096 data.length)) } := by
  subst hw
  have hall : (List.range (min 4096 data.length)).all (fun i => s.dev.writable (addr + i)) = true := by
    rw [List.all_eq_true]
    exact fun i h => hok i (List.mem_range.mp h)
  show execDebugAccess true addr data none s = _
  unfold execDebugAccess
  dsimp only
  rw [if_pos (by simp [Dev.debugTaken, hi, hb]), if_neg (by omega), if_pos hall]
  simp [debugAccessOp, hi, hb, Dev.debugGot]
end

/-! ### Halting and resuming a pair (R534, R535) -/

theorem exec_debugAccess_core (w : Bool) (addr : Nat) (data : Bytes) (p : Nat) (halt : Bool) (s : State) :
    exec (.debugAccess w addr data (some (p, halt))) s = .next { s with dev := debugCoreOp p halt s.ctx s.dev } := rfl

section
variable {c : Ctx} {d : Dev} {p : Nat}

theorem debugCoreOp_idle {halt : Bool} (h : d.debugIssued c true = false) : debugCoreOp p halt c d = d := by simp [debugCoreOp, h]

variable (h : d.debugIssued c true = true) (hp : p < 2)
include h hp
theorem debugCoreOp_halt : debugCoreOp p true c d = d.mgmtHaltBy c p := by simp [debugCoreOp, h, hp]
theorem debugCoreOp_resume : debugCoreOp p false c d = d.mgmtResume c p := by simp [debugCoreOp, h, hp]
end

/-- Where both pairs are in service, one that debug halts leaves the other: no alarm fires. -/
theorem Dev.mgmtHaltBy_spec {c : Ctx} {d : Dev} {p : Nat} (hp : p < 2) (hok : d.pwr.mgmtOk = [true, true]) :
    (d.mgmtHaltBy c p).pwr = { d.pwr with mgmtOk := d.pwr.mgmtOk.set p false, mgmtHalt := d.pwr.mgmtHalt.set p true }
    ∧ (d.mgmtHaltBy c p).mgmtUp = true ∧ (d.mgmtHaltBy c p).jnl = d.jnl ∧ (d.mgmtHaltBy c p).dsp.items = d.dsp.items ∧ (d.mgmtHaltBy c p).regs = d.regs := by
  have hin : d.pwr.mgmtOk.getD p false = true := by
    rw [hok]
    interval_cases p <;> rfl
  have hup : (d.pwr.mgmtOk.set p false).any id = true := by
    rw [hok]
    interval_cases p <;> rfl
  have hby : d.mgmtHaltBy c p = { d.mgmtOut c p with pwr := { (d.mgmtOut c p).pwr with mgmtHalt := (d.mgmtOut c p).pwr.mgmtHalt.set p true } } :=
    (if_neg (ne_false_of_eq_true hin)).trans (if_pos hup)
  rw [hby]
  exact ⟨rfl, hup, rfl, rfl, rfl⟩

/-! ### The clauses of O49 -/

theorem DevOnly.of_dev (s : State) (e : Dev) : DevOnly s { s with dev := e } := ⟨rfl, rfl, rfl, rfl⟩

section
variable {s : State}

theorem debugChallenge_ends (hm : HostMay s true Off.lcsDbgCmd) {l : Lcs}
    (h : (s.dev.dbgChallenge s.ctx).lcs = l ∧ bit ((s.dev.dbgChallenge s.ctx).reg Off.lcsEvt) 3 = true) :
    ∃ u, exec .debugChallenge s = .next u ∧ DevOnly s u ∧ u.dev.lcs = l ∧ bit (u.dev.reg Off.lcsEvt) 3 = true := by
  rw [exec_debugChallenge hm]
  exact ⟨_, rfl, .of_dev .., h⟩

theorem debugClose_open (hm : HostMay s true Off.lcsDbgCmd) (h : s.dev.lcs.scope ≠ 0) :
    ∃ u, exec .debugClose s = .next u ∧ DevOnly s u ∧ u.dev.lcs = { s.dev.lcs with scope := 0, expiry := 0 } ∧ bit (u.dev.reg Off.lcsEvt) 2 = true
      ∧ (s.dev.pwr.mgmtHalt = [true, false] → u.dev.pwr.mgmtHalt = [false, false] ∧ u.dev.pwr.mgmtOk.getD 0 true = true) := by
  obtain ⟨hl, he, hpwr⟩ := Dev.dbgReset_open (c := s.ctx) h
  rw [exec_debugClose hm]
  refine ⟨_, rfl, .of_dev .., hl, he, fun hh => ?_⟩
  rw [hpwr]
  exact Dev.mgmtResume_first hh

theorem debugExpiry_open (h : s.dev.lcs.scope ≠ 0) (ht : s.dev.lcs.expiry ≤ s.st.toNat) :
    ∃ u, exec .debugExpiry s = .next u ∧ DevOnly s u ∧ u.dev.lcs = { s.dev.lcs with scope := 0, expiry := 0 } := by
  have hop : debugExpiryOp s.ctx s.dev = s.dev.dbgReset s.ctx := if_pos ht
  exact ⟨_, exec_debugExpiry s, .of_dev .., (congrArg Dev.lcs hop).trans (Dev.dbgReset_open h).1⟩
theorem debugExpiry_early (ht : s.st.toNat < s.dev.lcs.expiry) : exec .debugExpiry s = .next s := by
  have hop : debugExpiryOp s.ctx s.dev = s.dev := if_neg (Nat.not_le.mpr ht)
  rw [exec_debugExpiry, hop]

/-- One denied byte has the access reported; a read still gives its bytes, the denied ones 0. -/
theorem debugAccess_denied {w : Bool} {addr : Nat} {data : Bytes} (hi : s.dev.debugIssued s.ctx w = true)
    (hb : ∃ i, i < min 4096 data.length ∧ (s.dev.gate s.ctx Mst.debug w (addr + i)).ok = false) :
    ∃ u, exec (.debugAccess w addr data none) s = .next u ∧ DevOnly s u ∧ u.dev.acc.dbgError = true ∧
      (w = false → ∃ b, Tx.debug b ∈ u.dev.tx ∧ u.dev.rdata = BitVec.ofNat 64 (le b 0 8) ∧ b.length = min 4096 data.length ∧
        ∀ i, i < min 4096 data.length → (s.dev.gate s.ctx Mst.debug w (addr + i)).ok = false → byteAt b i = 0) := by
  obtain ⟨j, hj⟩ := Dev.debugBad_some hb
  obtain ⟨k, r, e, a, hx⟩ := exec_debugAccess_denied hi hj
  obtain ⟨herr, hrd, htx⟩ := Dev.debugDenied_spec (s.dev.debugGot s.ctx w s.mem addr (min 4096 data.length)) s.ctx k r e a
  refine ⟨_, hx, .of_dev .., herr, ?_⟩
  rintro rfl
  exact ⟨_, htx _ List.mem_cons_self, hrd, Dev.debugRead_length .., fun i hi hg => Dev.debugRead_denied _ _ _ _ _ hi hg⟩

/-- The response's outcome, check by check in the order of R537. -/
theorem debugToken_ends {data : Bytes} {read : DmaEnd} (hm : HostMay s true Off.lcsDbgTokenCtrl) :
    ∃ u, exec (.debugTokenGo data read) s = .next u ∧ DevOnly s u ∧ u.dev.lcs = s.dev.lcs.answered (dbgResponse s.ctx (dmaRead data read) s.dev)
      ∧ bit (u.dev.reg Off.lcsEvt) 3 = true := by
  obtain ⟨e, hw, hl, hb⟩ := dbgTokenW_took s.ctx (dmaRead data read) s.dev
  rw [exec_debugTokenGo, hostWrite_own hm rfl hw]
  exact ⟨_, rfl, .of_dev .., hl, hb⟩

section
variable {w : Bool} {addr p : Nat} {data : Bytes} (hi : s.dev.debugIssued s.ctx true = true) (hp : p < 2)
include hi hp
theorem debugHalt_ends (hok : s.dev.pwr.mgmtOk = [true, true]) :
    ∃ u, exec (.debugAccess w addr data (some (p, true))) s = .next u ∧ DevOnly s u
      ∧ u.dev.pwr = { s.dev.pwr with mgmtOk := s.dev.pwr.mgmtOk.set p false, mgmtHalt := s.dev.pwr.mgmtHalt.set p true }
      ∧ u.dev.mgmtUp = true ∧ u.dev.jnl = s.dev.jnl ∧ u.dev.dsp.items = s.dev.dsp.items ∧ u.dev.regs = s.dev.regs := by
  rw [exec_debugAccess_core, debugCoreOp_halt hi hp]
  exact ⟨_, rfl, .of_dev .., Dev.mgmtHaltBy_spec hp hok⟩
theorem debugResume_ends (hh : s.dev.pwr.mgmtHalt.getD p false = true) :
    ∃ u, exec (.debugAccess w addr data (some (p, false))) s = .next u ∧ DevOnly s u
      ∧ u.dev.pwr = { s.dev.pwr with mgmtHalt := s.dev.pwr.mgmtHalt.set p false, mgmtOk := s.dev.pwr.mgmtOk.set p true }
      ∧ u.dev.tmp = { s.dev.tmp with active := s.dev.tmp.active &&& ~~~(1#32 <<< 0x10) }
      ∧ u.dev.jnl = s.dev.jnl ∧ u.dev.dsp.items = s.dev.dsp.items ∧ u.dev.regs = s.dev.regs := by
  rw [exec_debugAccess_core, debugCoreOp_resume hi hp, Dev.mgmtResume_halted hh]
  exact ⟨_, rfl, .of_dev .., rfl, rfl, rfl, rfl, rfl⟩
end
end

/-- Settles O49: each command by its own rule, with the response's checks (R537) in the order in which `dbgResponse` makes them and
the access by whether the gates let every byte through. -/
theorem debugScope : Obligations.DebugScope := by
  unfold Obligations.DebugScope
  intro s l now ends
  refine ⟨fun hm => ⟨fun h => ?_, fun h hd => ?_, fun h hd => ?_, fun h => ?_, fun h => ?_⟩, fun h => ⟨debugExpiry_open h, debugExpiry_early⟩, ?_, ?_, ?_, ?_⟩
  · exact debugChallenge_ends hm (by rw [Dev.dbgChallenge_noReopen (c := s.ctx) h]; exact s.dev.dbgDone_ends 1)
  · exact debugChallenge_ends hm (by rw [Dev.dbgChallenge_noEntropy (c := s.ctx) h hd]; exact s.dev.dbgDone_ends 2)
  · exact debugChallenge_ends hm (Dev.dbgChallenge_issues h hd)
  · exact debugClose_open hm h
  · rw [exec_debugClose hm, Dev.dbgReset_closed h]
  · intro data read hm r b form
    obtain ⟨u, hu, hd, hl, he⟩ := debugToken_ends (data := data) (read := read) hm
    refine ⟨u, hu, hd, hl.trans ?_, he⟩
    have hform : (!form || !s.dev.nymjorSig s.ctx b) = !dbgFormOk s.ctx s.dev r := (Bool.not_and ..).symm
    rw [hform]
    exact Lcs.answered_dbgResponse
  · intro v hm viol
    have hviol (h : dbgOpenW s.ctx v s.dev = .viol) : viol := by
      show exec _ _ = _
      rw [exec_debugOpen, hostWrite_own_viol hm rfl h]
    refine ⟨fun h => hviol (dbgOpenW_none h), fun scope life nonce h => ⟨fun hv => hviol (dbgOpenW_other h hv), fun hs hn =>
      ⟨fun hl hq => hviol (dbgOpenW_noQuorum h hl hq), fun hq => ?_⟩⟩⟩
    obtain ⟨e, hw, hl, hb⟩ := dbgOpenW_opens (c := s.ctx) h hs hn hq
    rw [exec_debugOpen, hostWrite_own hm rfl hw]
    exact ⟨_, rfl, .of_dev .., hl, hb⟩
  · intro w addr data n need
    refine ⟨fun h => exec_debugAccess_idle (Dev.debugIssued_eq_false.mpr h), fun hp hs => ?_⟩
    have hi : s.dev.debugIssued s.ctx w = true := Dev.debugIssued_eq_true.mpr ⟨hp, hs⟩
    refine ⟨debugAccess_denied hi, fun hg ha => ⟨fun hw hlo hhi => ?_, fun hw hn hok => ?_⟩⟩
    · subst hw
      exact exec_debugAccess_read hi (Dev.debugBad_none hg) rfl hlo hhi hg
    · exact exec_debugAccess_write hi (Dev.debugBad_none hg) hw ha hn hok
  · intro w addr data p hp _ _
    refine ⟨fun h halt => ?_, fun hpw hs => ⟨fun hok => ?_, fun hh => ?_⟩⟩
    · rw [exec_debugAccess_core, debugCoreOp_idle ((Dev.debugControl_eq_false (c := s.ctx)).mpr h)]
    · exact debugHalt_ends (Dev.debugControl_eq_true.mpr ⟨hpw, hs⟩) hp hok
    · exact debugResume_ends (Dev.debugControl_eq_true.mpr ⟨hpw, hs⟩) hp hh

end Sys2Proof.Machine

/-! A lock that FW_UNAVAILABLE brings on while debug has halted a management pair (R17, R475, R539). -/

namespace Sys2Proof.Machine

/-- Start-up is done, debug has halted management pair 1 under an open scope, and FW_UNAVAILABLE is of class LOCK. -/
def haltedPair : State := { State.reset with dev := {
  pwr := { stage := 9, powered := true, mgmtOk := [true, false], mgmtHalt := [false, true] }
  lcs := { scope := 2, expiry := 1 }
  tmp := { classes := ((List.range 32).map alarmMinClass).set 0x10 2 } } }

/-- Pair 0 goes out too: the lock closes the debug scope, and pair 1 resumes. -/
theorem haltedPair_resumes : ∃ u, exec (.mgmtDisagree 0) haltedPair = .next u ∧ u.dev.pwr.mgmtOk = [false, true] := ⟨_, rfl, by decide⟩

/-- Refutes O52: where FW_UNAVAILABLE locks the part, the lock closes the debug scope, and the pair that debug had halted is in service. -/
theorem not_scrubs : ¬ Obligations.Scrubs := by
  unfold Obligations.Scrubs
  intro h
  obtain ⟨-, -, hpairs, -⟩ := h haltedPair
  obtain ⟨u, hu, -, hok, -⟩ := (hpairs 0 (by decide) (by decide) (by decide)).1 (by decide)
  obtain ⟨u', hu', hok'⟩ := haltedPair_resumes
  rw [hu] at hu'
  cases hu'
  rw [hok] at hok'
  exact absurd hok' (by decide)

end Sys2Proof.Machine

/-! Which commands reach ST, the fuses and the addressed memory (R28, R519, R564). -/

namespace Sys2Proof.Machine

/-- Commands by which main power goes or comes (R28). -/
def movesPower : Instr → Bool
  | .powerLoss | .powerOnReset _ => true
  | _ => false

/-- What a command leaves alone, by its kind (Safety). -/
structure Reached (c : Instr) (s t : State) : Prop where
  pending : t.pending = s.pending
  onward  : movesPower c = false → s.st.toNat ≤ t.st.toNat
  st      : movesSt c = false → t.st = s.st
  otp     : blowsFuses c = false → t.otp = s.otp
  mem     : changesMemory c = false → t.mem = s.mem

/-- ST goes on, the addressed memory and the queue stand. -/
structure Onward (s t : State) : Prop where
  st      : s.st.toNat ≤ t.st.toNat
  mem     : t.mem = s.mem
  pending : t.pending = s.pending

theorem Onward.refl (s : State) : Onward s s := ⟨Nat.le_refl _, rfl, rfl⟩
theorem Onward.trans {s t u : State} (h : Onward s t) (g : Onward t u) : Onward s u :=
  ⟨Nat.le_trans h.st g.st, g.mem.trans h.mem, g.pending.trans h.pending⟩
theorem Onward.of_dev (s : State) (e : Dev) : Onward s { s with dev := e } := ⟨Nat.le_refl _, rfl, rfl⟩

theorem Reached.of_dev (c : Instr) (s : State) (e : Dev) : Reached c s { s with dev := e } :=
  ⟨rfl, fun _ => Nat.le_refl _, fun _ => rfl, fun _ => rfl, fun _ => rfl⟩
theorem Reached.of_onward {c : Instr} {s t : State} (h : Onward s t) (hs : movesSt c = true) (ho : blowsFuses c = true ∨ t.otp = s.otp) : Reached c s t where
  pending := h.pending
  onward _ := h.st
  st h0 := by cases hs.symm.trans h0
  otp h0 := ho.resolve_left (fun h1 => by cases h1.symm.trans h0)
  mem _ := h.mem

/-! ### Commands on the time base, and register writes -/

/-- The state that a command of the time base leaves. -/
def State.timed (s : State) (f : Ctx → Dev → Dev × Option Nat) : State :=
  { s with dev := (f s.ctx s.dev).1, st := match (f s.ctx s.dev).2 with
    | some v => if s.st.toNat ≤ v ∧ v < 2 ^ 64 then BitVec.ofNat 64 v else s.st
    | none => s.st }
theorem onTime_eq (s : State) (f : Ctx → Dev → Dev × Option Nat) : s.onTime f = .next (s.timed f) := rfl

/-- A jump is taken only where it does not go back (R28). -/
theorem timed_onward (s : State) (f : Ctx → Dev → Dev × Option Nat) : Onward s (s.timed f) := by
  refine ⟨?_, rfl, rfl⟩
  unfold State.timed
  dsimp only
  split
  · split
    · next h =>
      rw [BitVec.toNat_ofNat, Nat.mod_eq_of_lt h.2]
      exact h.1
    · exact Nat.le_refl _
  · exact Nat.le_refl _

/-- A life-cycle transition that starts changes the fuses and the device alone (R526, R529). -/
theorem goLatch_onward (s : State) (before : Option (Nat × Nat)) : Onward s (s.goLatch before) := by
  unfold State.goLatch
  split
  · split
    · exact .refl s
    · exact ⟨Nat.le_refl _, rfl, rfl⟩
  · exact .refl s
theorem lcGo_onward (v : Word) (s : State) : Onward s (s.lcGo v) := (Onward.of_dev s _).trans (goLatch_onward _ _)
theorem lcGo_st (v : Word) (s : State) : (s.lcGo v).st = s.st := by
  unfold State.lcGo State.goLatch
  split
  · split <;> rfl
  · rfl

theorem writeWord_onward (off : Nat) (v : Word) (s : State) : Onward s (s.writeWord off v) := by
  unfold State.writeWord
  split
  · exact lcGo_onward v s
  · split
    · exact timed_onward s _
    · exact .of_dev s _
theorem writeBar0_onward (off bits : Nat) (v : DWord) (s : State) : Onward s (s.writeBar0 off bits v) := by
  unfold State.writeBar0
  split
  · exact .refl s
  · split
    · exact writeWord_onward ..
    · split
      · exact (writeWord_onward ..).trans (writeWord_onward ..)
      · exact .of_dev s _
theorem debugWord_onward (off : Nat) (v : Word) (s : State) : Onward s (s.debugWord off v) := by
  unfold State.debugWord
  dsimp only
  split
  · exact timed_onward s _
  · exact (Onward.of_dev s _).trans (goLatch_onward _ _)
/-- The words of an access, written one after the other. -/
theorem foldl_onward {β : Type} (f : State → β → State) (h : ∀ s x, Onward s (f s x)) : ∀ (l : List β) (s : State), Onward s (l.foldl f s)
  | [], s => .refl s
  | x :: l, s => (h s x).trans (foldl_onward f h l (f s x))

/-! ### Every command -/

theorem exec_registerWrite_reached (bar off bits : Nat) (v : DWord) (s : State) :
    ∃ t, exec (.registerWrite bar off bits v) s = .next t ∧ Reached (.registerWrite bar off bits v) s t := by
  show ∃ t, execRegisterWrite bar off bits v s = .next t ∧ _
  unfold execRegisterWrite
  split
  · exact ⟨_, rfl, .of_onward (writeBar0_onward ..) rfl (.inl rfl)⟩
  · split
    · exact ⟨_, rfl, .of_dev ..⟩
    · split
      · exact ⟨_, rfl, .of_dev ..⟩
      · exact ⟨_, rfl, .of_dev _ s s.dev⟩

theorem exec_smbusBlockWrite_reached (off : Nat) (v : Word) (s : State) :
    ∃ t, exec (.smbusBlockWrite off v) s = .next t ∧ Reached (.smbusBlockWrite off v) s t := by
  show ∃ t, execSmbusBlockWrite off v s = .next t ∧ _
  unfold execSmbusBlockWrite
  split
  · exact ⟨_, rfl, .of_dev ..⟩
  · exact ⟨_, rfl, .of_onward (writeBar0_onward ..) rfl (.inl rfl)⟩

theorem exec_debugAccess_reached (w : Bool) (addr : Nat) (data : Bytes) (core : Option (Nat × Bool)) (s : State) :
    ∃ t, exec (.debugAccess w addr data core) s = .next t ∧ Reached (.debugAccess w addr data core) s t := by
  show ∃ t, execDebugAccess w addr data core s = .next t ∧ _
  unfold execDebugAccess
  split
  · exact ⟨_, rfl, .of_dev ..⟩
  · dsimp only
    split
    · split
      · exact ⟨_, rfl, .of_onward ((Onward.of_dev s _).trans (foldl_onward _ (fun t i => debugWord_onward ..) _ _)) rfl (.inl rfl)⟩
      · split
        · exact ⟨_, rfl, rfl, fun _ => Nat.le_refl _, fun _ => rfl, fun _ => rfl, nofun⟩
        · exact ⟨_, rfl, .of_dev ..⟩
    · exact ⟨_, rfl, .of_dev ..⟩

theorem losePower_pending (s : State) : s.losePower.pending = s.pending := by unfold State.losePower; split <;> rfl
theorem losePower_otp (s : State) : s.losePower.otp = s.otp := by unfold State.losePower; split <;> rfl

/-- Every command runs; it reaches beyond the device only as its kind says. -/
theorem exec_reached (c : Instr) (s : State) : ∃ t, exec c s = .next t ∧ Reached c s t := by
  cases c with
  | registerWrite bar off bits v => exact exec_registerWrite_reached bar off bits v s
  | smbusBlockWrite off v => exact exec_smbusBlockWrite_reached off v s
  | debugAccess w addr data core => exact exec_debugAccess_reached w addr data core s
  | ppsEdge => exact ⟨_, rfl, .of_onward (timed_onward s _) rfl (.inr rfl)⟩
  | tokenVerifyDone data read => exact ⟨_, rfl, .of_onward (timed_onward s _) rfl (.inr rfl)⟩
  | timSetApply v => exact ⟨_, rfl, .of_onward (timed_onward s _) rfl (.inr rfl)⟩
  | lcGo v => exact ⟨_, rfl, (lcGo_onward v s).pending, fun _ => (lcGo_onward v s).st, fun _ => lcGo_st v s, nofun, fun _ => (lcGo_onward v s).mem⟩
  | lifecycleDecode f => exact ⟨_, rfl, rfl, fun _ => Nat.le_refl _, fun _ => rfl, nofun, fun _ => rfl⟩
  | fuseProgram g w v =>
    refine ⟨_, rfl, ?_⟩
    split
    · exact ⟨rfl, fun _ => Nat.le_refl _, fun _ => rfl, nofun, fun _ => rfl⟩
    · exact .of_dev _ s s.dev
  | ddr5Training ok => exact ⟨_, rfl, rfl, fun _ => Nat.le_refl _, fun _ => rfl, fun _ => rfl, nofun⟩
  | powerLoss => exact ⟨_, rfl, losePower_pending s, nofun, nofun, fun _ => losePower_otp s, nofun⟩
  | powerOnReset v => exact ⟨_, rfl, losePower_pending s, nofun, nofun, fun _ => losePower_otp s, nofun⟩
  | _ => exact ⟨_, rfl, .of_dev ..⟩

/-- Settles O3: every command runs, and leaves alone what its kind does not name. -/
theorem whatCommandsReach : Obligations.WhatCommandsReach := by
  unfold Obligations.WhatCommandsReach
  intro c s
  obtain ⟨t, ht, h⟩ := exec_reached c s
  exact ⟨t, ht, h.pending, h.st, h.otp, h.mem⟩

end Sys2Proof.Machine

/-! What work on items and units leaves alone (R138, R246, R253, R254). -/

namespace Sys2Proof.Machine

/-- The parts of the device that no item and no unit at work has a hand in. -/
structure Apart where
  tim      : Tim
  pwr      : Pwr
  evl      : Evl
  acc      : AccT
  lcs      : Lcs
  tmp      : Tmp
  cus      : Cus
  slots    : List Slot
  bbkek    : BbkekState
  bbkekVal : Bytes
  pwrEvt   : Word

def Dev.apart (d : Dev) : Apart where
  tim := d.tim
  pwr := d.pwr
  evl := d.evl
  acc := d.acc
  lcs := d.lcs
  tmp := d.tmp
  cus := d.cus
  slots := d.key.slots
  bbkek := d.key.bbkek
  bbkekVal := d.key.bbkekVal
  pwrEvt := d.reg Off.pwrEvt

section
variable (d : Dev)

/-! ### Tables, counters, events, messages -/

@[simp] theorem Dev.updItem_apart (n : Nat) (f : Item → Item) : (d.updItem n f).apart = d.apart := rfl
@[simp] theorem Dev.updRec_apart (n : Nat) (f : Rec → Rec) : (d.updRec n f).apart = d.apart := rfl
@[simp] theorem Dev.updDdt_apart (a : Nat) (b : DWord) (f : DdtEntry → DdtEntry) : (d.updDdt a b f).apart = d.apart := rfl
@[simp] theorem Dev.updTwin_apart (n : Nat) (f : Twin → Twin) : (d.updTwin n f).apart = d.apart := rfl
@[simp] theorem Dev.updGrove_apart (n : Nat) (f : Grove → Grove) : (d.updGrove n f).apart = d.apart := rfl
@[simp] theorem Dev.updEngine_apart (n : Nat) (f : Engine → Engine) : (d.updEngine n f).apart = d.apart := rfl
@[simp] theorem Dev.updDrbg_apart (n : Nat) (f : Drbg → Drbg) : (d.updDrbg n f).apart = d.apart := rfl
theorem Dev.bump_apart {off : Nat} (h : Off.pwrEvt ≠ off) : (d.bump off).apart = d.apart := by
  simp [Dev.apart, Dev.bump_reg_ne d h]
theorem Dev.evtBit_apart {off : Nat} (i : Nat) (h : Off.pwrEvt ≠ off) : (d.evtBit off i).apart = d.apart := by
  simp [Dev.apart, Dev.evtBit_reg_ne d i h]
@[simp] theorem Dev.record_apart (c : Ctx) (t : Nat) (p : Bytes) : (d.record c t p).apart = d.apart := by
  simp [Dev.apart, Dev.record_reg_ne d c t p (by decide : Off.pwrEvt ≠ Off.ercLost) (by decide)]
@[simp] theorem Dev.startFlush_apart : d.startFlush.apart = d.apart := by
  unfold Dev.startFlush
  split <;> rfl
@[simp] theorem Dev.recordUnit_apart (c : Ctx) (kind n : Nat) (old new : UnitState) : (d.recordUnit c kind n old new).apart = d.apart := by
  unfold Dev.recordUnit
  split <;> simp
@[simp] theorem Dev.sendPeer_apart (n k m : Nat) (p : Bytes) : (d.sendPeer n k m p).apart = d.apart := by
  simp [Dev.apart]
@[simp] theorem Dev.mirrorRec_apart (k : Nat) : (d.mirrorRec k).apart = d.apart := by
  unfold Dev.mirrorRec
  split
  · exact Dev.sendPeer_apart ..
  · rfl

/-! ### To OWED (R98, R138, R152) -/

@[simp] theorem Dev.unbind_apart (c : Ctx) (k : Nat) : (d.unbind c k).apart = d.apart := by
  unfold Dev.unbind
  dsimp only
  split <;> rfl
@[simp] theorem Dev.countStatus_apart (st sub : Nat) : (d.countStatus st sub).apart = d.apart := by
  unfold Dev.countStatus
  split
  · rw [Dev.evtBit_apart _ _ (by decide), Dev.bump_apart _ (by decide)]
  · split
    · rw [Dev.evtBit_apart _ _ (by decide), Dev.bump_apart _ (by decide)]
    · split
      · rw [Dev.bump_apart _ (by decide)]
      · rfl
@[simp] theorem Dev.flowPrune_apart (f : Option (Nat × Nat)) : (d.flowPrune f).apart = d.apart := by
  unfold Dev.flowPrune
  split
  · rfl
  · split <;> rfl
@[simp] theorem Dev.retire_apart (k : Nat) : (d.retire k).apart = d.apart := by
  unfold Dev.retire
  split <;> rfl
@[simp] theorem Dev.discardEntry_apart (k : Nat) : (d.discardEntry k).apart = d.apart := by
  unfold Dev.discardEntry
  rw [Dev.mirrorRec_apart]
  exact Dev.retire_apart (d.updRec k _) k
@[simp] theorem Dev.spillAnswer_apart (i : Item) (peer o st sub n : Nat) (out : Bytes) : (d.spillAnswer i peer o st sub n out).apart = d.apart :=
  Dev.sendPeer_apart d peer 4 2 _
@[simp] theorem Dev.owe_apart (c : Ctx) (k : Nat) (r : Rec) (st sub n : Nat) : (d.owe c k r st sub n).apart = d.apart := by
  unfold Dev.owe
  dsimp only
  rw [Dev.mirrorRec_apart, Dev.countStatus_apart, Dev.flowPrune_apart]
  have h := Dev.unbind_apart d c k
  generalize d.unbind c k = e at h ⊢
  exact h
@[simp] theorem Dev.oweOne_apart (c : Ctx) (k st sub n : Nat) : (d.oweOne c k st sub n).apart = d.apart := by
  unfold Dev.oweOne
  dsimp only
  split
  · simp
  · split
    · rfl
    · split <;> simp
@[simp] theorem Dev.cascade_apart (c : Ctx) : ∀ (n : Nat) (d : Dev), (d.cascade c n).apart = d.apart
  | 0, _ => rfl
  | n + 1, d => by
    unfold Dev.cascade
    split
    · rfl
    · split
      · rfl
      · rw [Dev.cascade_apart c n, Dev.oweOne_apart]
@[simp] theorem Dev.toOwed_apart (c : Ctx) (k st sub n : Nat) : (d.toOwed c k st sub n).apart = d.apart := by
  unfold Dev.toOwed
  rw [Dev.cascade_apart, Dev.oweOne_apart]
@[simp] theorem Dev.finishNow_apart (c : Ctx) (k st sub : Nat) : (d.finishNow c k st sub).apart = d.apart := by
  unfold Dev.finishNow
  split
  · exact Dev.toOwed_apart ..
  · split
    · rfl
    · split
      · rfl
      · exact Dev.toOwed_apart ..

/-! ### Items that go back, units that leave service (R155, R246, R253, R254) -/

@[simp] theorem Dev.goBack_apart (c : Ctx) (k : Nat) (p : Bool) : (d.goBack c k p).apart = d.apart := by
  unfold Dev.goBack
  rw [Dev.mirrorRec_apart]
  split <;> exact Dev.unbind_apart d c k
@[simp] theorem Dev.restart_apart (c : Ctx) (k : Nat) (p : Bool) (t : Option Nat) : (d.restart c k p t).apart = d.apart := by
  unfold Dev.restart
  split
  · rfl
  · split
    · exact Dev.finishNow_apart ..
    · rw [Dev.updItem_apart, Dev.goBack_apart, Dev.bump_apart _ (by decide)]
@[simp] theorem Dev.unplace_apart (c : Ctx) (g : Nat) (p : Item → Bool) : (d.unplace c g p).apart = d.apart := by
  unfold Dev.unplace
  refine foldl_keep Dev.apart _ (fun a i => ?_) _ d
  exact Dev.goBack_apart ..
@[simp] theorem Dev.twinLeaves_apart (c : Ctx) (t : Nat) (new : UnitState) (p : Bool) : (d.twinLeaves c t new p).apart = d.apart := by
  have hitems : ((d.onTwin t).foldl (fun a k => a.restart c k p (some t)) d).apart = d.apart :=
    foldl_keep Dev.apart _ (fun a k => Dev.restart_apart a c k p (some t)) _ d
  unfold Dev.twinLeaves
  dsimp only
  split <;> split <;> simp [Dev.evtBit_apart, Off.pwrEvt, Off.lanEvt, hitems]
@[simp] theorem Dev.engineLeaves_apart (c : Ctx) (g : Nat) (new : UnitState) : (d.engineLeaves c g new).apart = d.apart := by
  have hitems : ∀ l : List Nat, (l.foldl (fun a k => a.restart c k true none) d).apart = d.apart :=
    fun l => foldl_keep Dev.apart _ (fun a k => Dev.restart_apart a c k true none) l d
  unfold Dev.engineLeaves
  dsimp only
  split <;> split <;> simp [Dev.evtBit_apart, Off.pwrEvt, Off.pkeEvt, hitems]
/-- A grove that is gated: its operating point is the switch's own business. -/
theorem Dev.groveLeaves_gated_apart (c : Ctx) (g : Nat) : (d.groveLeaves c g .gated).apart = d.apart := by
  have htwins : ∀ e : Dev, ((twinsOf g).foldl (fun a t => a.twinLeaves c t .gated true) e).apart = e.apart :=
    fun e => foldl_keep Dev.apart _ (fun a t => Dev.twinLeaves_apart a c t .gated true) _ e
  unfold Dev.groveLeaves
  extract_lets old eng d1 d2 key d3 d4 d5
  have heng : eng.apart = d.apart := by
    unfold eng
    split
    · rfl
    · exact Dev.engineLeaves_apart ..
  have h2 : d2.apart = d.apart := (Dev.unplace_apart ..).trans ((htwins eng).trans heng)
  have h4 : d4.apart = d2.apart := by
    clear_value d2
    rfl
  have h5 : d5.apart = d4.apart := by
    show (if old = .gated then d4 else d4.recordUnit c 1 g old .gated).apart = _
    split
    · rfl
    · exact Dev.recordUnit_apart ..
  split
  · rw [Dev.evtBit_apart _ _ (by decide), h5, h4, h2]
  · rw [h5, h4, h2]
end
end Sys2Proof.Machine

/-! What an alarm and a reset's closing work leave alone (R452, R475, R476, R480, R539). -/

namespace Sys2Proof.Machine

/-- The parts of the device that even a tamper response, a ceremony's end and a closing debug scope leave alone, the BBKEK
beside them. -/
structure Lasting where
  tim       : Tim
  powered   : Bool
  boots     : Nat
  stage     : Nat
  seen      : Nat
  recs      : List EvRecord
  committed : List Region
  bbkek     : BbkekState
  bbkekVal  : Bytes

def Apart.lasting (a : Apart) : Lasting where
  tim := a.tim
  powered := a.pwr.powered
  boots := a.pwr.boots
  stage := a.pwr.stage
  seen := a.pwr.seen
  recs := a.evl.recs
  committed := a.acc.committed
  bbkek := a.bbkek
  bbkekVal := a.bbkekVal

def Dev.lasting (d : Dev) : Lasting := d.apart.lasting

theorem Dev.lasting_of_apart {d e : Dev} (h : e.apart = d.apart) : e.lasting = d.lasting := congrArg Apart.lasting h

section
variable (d : Dev) (c : Ctx)

@[simp] theorem Dev.setReg_lasting (off : Nat) (v : Word) : (d.setReg off v).lasting = d.lasting := rfl
@[simp] theorem Dev.evtBit_lasting (off i : Nat) : (d.evtBit off i).lasting = d.lasting := by simp [Dev.lasting, Dev.apart, Apart.lasting]
@[simp] theorem Dev.record_lasting (t : Nat) (p : Bytes) : (d.record c t p).lasting = d.lasting := Dev.lasting_of_apart (Dev.record_apart ..)
@[simp] theorem Dev.startFlush_lasting : d.startFlush.lasting = d.lasting := Dev.lasting_of_apart (Dev.startFlush_apart d)
@[simp] theorem Dev.evidenceAt_lasting (st : DWord) (r : Bool) (t : Nat) (p : Bytes) : (d.evidenceAt st r t p).lasting = d.lasting := by
  unfold Dev.evidenceAt
  split
  · rfl
  · exact Dev.evtBit_lasting ..
@[simp] theorem Dev.evidence_lasting (t : Nat) (p : Bytes) : (d.evidence c t p).lasting = d.lasting := Dev.evidenceAt_lasting ..
@[simp] theorem Dev.abandonAll_apart : (d.abandonAll c).apart = d.apart := by
  unfold Dev.abandonAll
  refine foldl_keep Dev.apart _ (fun a i => ?_) _ d
  exact Dev.goBack_apart ..
@[simp] theorem Dev.abandonAll_lasting : (d.abandonAll c).lasting = d.lasting := Dev.lasting_of_apart (Dev.abandonAll_apart ..)

/-! ### Ceremonies, the debug scope, commands in progress -/

@[simp] theorem Dev.cerEnd_lasting (n : Nat) (q : Bool) (r : Nat) : (d.cerEnd c n q r).lasting = d.lasting := by
  unfold Dev.cerEnd
  extract_lets k d0 d1
  have h1 : d1.lasting = d.lasting := by
    show ((d0.updCer n _).evtBit Off.cusEvt 3).lasting = _
    rw [Dev.evtBit_lasting]
    unfold d0
    split <;> rfl
  split
  · rw [Dev.evidence_lasting, h1]
  · exact h1
@[simp] theorem Dev.supersedeCers_lasting (all : Bool) : (d.supersedeCers c all).lasting = d.lasting := by
  unfold Dev.supersedeCers
  refine foldl_keep Dev.lasting _ (fun a n => ?_) _ d
  dsimp only
  split
  · exact Dev.cerEnd_lasting ..
  · rfl
@[simp] theorem Dev.mgmtResume_lasting (n : Nat) : (d.mgmtResume c n).lasting = d.lasting := by
  unfold Dev.mgmtResume
  split <;> rfl
@[simp] theorem Dev.dbgReset_lasting : (d.dbgReset c).lasting = d.lasting := by
  unfold Dev.dbgReset
  split
  · rfl
  · rw [Dev.evtBit_lasting]
    exact (Dev.mgmtResume_lasting ..).trans (Dev.mgmtResume_lasting ..)
@[simp] theorem Dev.supersedeSlot_lasting : d.supersedeSlot.lasting = d.lasting := by
  unfold Dev.supersedeSlot
  split <;> rfl
@[simp] theorem Dev.supersedeSave_lasting : d.supersedeSave.lasting = d.lasting := rfl
@[simp] theorem Dev.abortOvertaken_lasting : (d.abortOvertaken c).lasting = d.lasting := by
  unfold Dev.abortOvertaken
  split
  · rfl
  · split
    · rfl
    · exact Dev.evtBit_lasting ..

/-! ### What a response decides (R19, R138) -/

@[simp] theorem Dev.unsap_lasting (i : Item) : (d.unsap i).lasting = d.lasting := by
  unfold Dev.unsap
  split <;> rfl
@[simp] theorem Dev.overtake_lasting (st sub : Nat) : (d.overtake c st sub).lasting = d.lasting := by
  unfold Dev.overtake
  refine foldl_keep Dev.lasting _ (fun a i => ?_) _ d
  dsimp only
  split
  · rfl
  · split
    · rfl
    · exact (Dev.lasting_of_apart (Dev.mirrorRec_apart ..)).trans (Dev.unsap_lasting ..)
@[simp] theorem Dev.decideItems_lasting (st sub : Nat) : (d.decideItems c st sub).lasting = d.lasting := by
  unfold Dev.decideItems
  extract_lets live order hif d1
  refine (foldl_keep Dev.lasting _ (fun a i => ?_) order d1).trans rfl
  split
  · rfl
  · split
    · rfl
    · exact Dev.lasting_of_apart (Dev.toOwed_apart ..)
@[simp] theorem Dev.lockActions_lasting (src st : Nat) : (d.lockActions c src st).lasting = d.lasting := by
  unfold Dev.lockActions
  dsimp only
  simp only [Dev.startFlush_lasting, Dev.evtBit_lasting, Dev.dbgReset_lasting, Dev.supersedeCers_lasting, Dev.supersedeSave_lasting, Dev.supersedeSlot_lasting,
    Dev.decideItems_lasting, Dev.overtake_lasting, Dev.abortOvertaken_lasting]
  rfl

/-! ### ZEROISE erases the BBKEK, and no more of it (R359, R476) -/

@[simp] theorem Dev.rngZeroise_lasting : (d.rngZeroise c).lasting = d.lasting := by
  unfold Dev.rngZeroise
  dsimp only
  split <;> rfl
theorem Dev.zeroiseErase_lasting : (d.zeroiseErase c).lasting = d.eraseBbkek.lasting := by
  unfold Dev.zeroiseErase
  extract_lets e e1 d1 lan key d2
  have he : e1.lasting = e.lasting := by
    unfold e1
    split
    · rfl
    · exact Dev.evtBit_lasting ..
  have h2 : d2.lasting = d1.lasting := rfl
  rw [Dev.evtBit_lasting, Dev.supersedeCers_lasting, h2, Dev.rngZeroise_lasting, he]
theorem Dev.zeroise_lasting (src : Nat) : (d.zeroise c src).lasting = d.eraseBbkek.lasting := by
  unfold Dev.zeroise
  extract_lets d1 tmp d2
  have h2 : d2.lasting = d.eraseBbkek.lasting := Dev.zeroiseErase_lasting d c
  split
  · rw [Dev.startFlush_lasting, Dev.decideItems_lasting, Dev.overtake_lasting, Dev.abortOvertaken_lasting, h2]
  · rw [Dev.lockActions_lasting, h2]

/-! ### Alarms (R480, R481) -/

@[simp] theorem Dev.closeEvent_lasting : (d.closeEvent c).lasting = d.lasting := by
  unfold Dev.closeEvent
  split
  · rfl
  · exact Dev.evidenceAt_lasting ..

theorem Dev.eraseBbkek_lasting : d.eraseBbkek.lasting = { d.lasting with bbkek := if d.lasting.bbkek = .absent then .absent else .erased, bbkekVal := [] } := rfl

/-- An alarm leaves the lasting parts, but for the BBKEK, which it may erase. -/
theorem Dev.alarm_lasting (src : Nat) : (d.alarm c src).lasting = d.lasting ∨ (d.alarm c src).lasting = d.eraseBbkek.lasting := by
  unfold Dev.alarm
  extract_lets d0 t cls d1 e fresh tmp d2 d3 d4 d5
  have h0 : d0.lasting = d.lasting := by
    unfold d0
    split
    · split
      · exact Dev.closeEvent_lasting d c
      · rfl
    · rfl
  have h1 : d1.lasting = d.lasting := h0
  have h2 : d2.lasting = d.lasting := h1
  have h3 : d3.lasting = d.lasting := by
    unfold d3
    split
    · rw [Dev.evtBit_lasting, h2]
    · exact h2
  have h4 : d4.lasting = d.lasting := by
    unfold d4
    split
    · rw [Dev.setReg_lasting, h3]
    · exact h3
  have h5 : d5.lasting = d.lasting ∨ d5.lasting = d.eraseBbkek.lasting := by
    unfold d5
    split
    · right
      rw [Dev.zeroise_lasting, Dev.eraseBbkek_lasting, h4, Dev.eraseBbkek_lasting]
    · left
      split
      · rw [Dev.lockActions_lasting, h4]
      · exact h4
  split
  · left
    rw [Dev.evidence_lasting, h1]
  · rw [Dev.record_lasting]
    exact h5
end
end Sys2Proof.Machine

/-! Power lost, power-on and the course of ST (R28, R36, R359, R485, R600). -/

namespace Sys2Proof.Machine

/-! ### Power-on (R485, R600) -/

section
variable (d : Dev) (c : Ctx)

/-- A cell that failed takes the BBKEK with it; the alarm that follows adds nothing to that. -/
theorem Dev.cellLost_lasting : (d.cellLost c).lasting = d.eraseBbkek.lasting := by
  unfold Dev.cellLost
  extract_lets e a
  have he : e.lasting = d.eraseBbkek.lasting := rfl
  have ha : a.lasting = d.eraseBbkek.lasting := by
    rcases Dev.alarm_lasting e c 0x0E with h | h
    · exact h.trans he
    · refine h.trans ?_
      rw [Dev.eraseBbkek_lasting, he, Dev.eraseBbkek_lasting]
      dsimp only
      split <;> rfl
  exact ha

theorem Dev.powerOn_kept : (d.powerOn c true).lasting = { d.lasting with tim := {}, powered := true, boots := d.pwr.boots + 1 } := rfl
theorem Dev.powerOn_lost : (d.powerOn c false).lasting =
    { d.lasting with tim := {}, powered := true, boots := d.pwr.boots + 1, bbkek := if d.key.bbkek = .absent then .absent else .erased, bbkekVal := [] } := by
  unfold Dev.powerOn
  exact Dev.cellLost_lasting _ c

/-- ST starts UNSET, with a power-up counted, whatever became of the cell. -/
theorem Dev.powerOn_spec (v : Bool) : (d.powerOn c v).tim = {} ∧ (d.powerOn c v).pwr.powered = true ∧ (d.powerOn c v).pwr.boots = d.pwr.boots + 1
    ∧ (d.powerOn c v).pwr.stage = d.pwr.stage := by
  cases v with
  | true => exact ⟨rfl, rfl, rfl, rfl⟩
  | false =>
    have h := Dev.powerOn_lost d c
    exact ⟨congrArg Lasting.tim h, congrArg Lasting.powered h, congrArg Lasting.boots h, congrArg Lasting.stage h⟩
/-- Without the cell the BBKEK is gone (R359). -/
theorem Dev.powerOn_lost_bbkek : (d.powerOn c false).key.bbkekVal = [] ∧ (d.powerOn c false).key.bbkek ≠ .valid := by
  have h := Dev.powerOn_lost d c
  refine ⟨congrArg Lasting.bbkekVal h, ?_⟩
  rw [show (d.powerOn c false).key.bbkek = _ from congrArg Lasting.bbkek h]
  dsimp only
  split <;> nofun
end

/-! ### One nanosecond (R28, R36) -/

theorem Tim.tick_nominal {t : Tim} (h : t.slewRem = 0) : t.tick = (1, t) := if_pos h

theorem stAdd_toNat (st : DWord) (n : Nat) : (stAdd st n).toNat = if st.toNat + n < 2 ^ 64 then st.toNat + n else st.toNat := by
  unfold stAdd
  split
  · next h => rw [BitVec.toNat_ofNat, Nat.mod_eq_of_lt h]
  · rfl
theorem stAdd_le (st : DWord) (n : Nat) : st.toNat ≤ (stAdd st n).toNat := by
  rw [stAdd_toNat]
  split <;> omega

theorem idle_st {s : State} (h : s.dev.pwr.powered = true) : s.idle.st = stAdd s.st s.dev.tim.tick.1 := by
  simp only [State.idle, h, if_true]
theorem idle_st_unpowered {s : State} (h : s.dev.pwr.powered = false) : s.idle.st = s.st := by
  simp [State.idle, h]
theorem idle_st_le (s : State) : s.st.toNat ≤ s.idle.st.toNat := by
  cases h : s.dev.pwr.powered with
  | true => rw [idle_st h]; exact stAdd_le ..
  | false => rw [idle_st_unpowered h]

/-- Where a step is not one of lost or applied power, ST does not go back. -/
theorem step_st_le {s t : State} (ht : step s = .next t) (hc : ∀ c ∈ s.pending.head?, movesPower c = false) : s.st.toNat ≤ t.st.toNat := by
  unfold step at ht
  split at ht
  · cases ht
    exact idle_st_le s
  · next c rest hp =>
    obtain ⟨u, hu, hr⟩ := exec_reached c { s with pending := rest }
    rw [hu] at ht
    cases ht
    exact hr.onward (hc c (by simp [hp]))

theorem movesPower_eq_false {c : Instr} (h : c ≠ .powerLoss) (hv : ∀ v, c ≠ .powerOnReset v) : movesPower c = false := by
  cases c with
  | powerLoss => exact absurd rfl h
  | powerOnReset v => exact absurd rfl (hv v)
  | _ => rfl

/-- Settles O4: what a command can do to ST is `exec_reached`, what a nanosecond does is `stAdd`. -/
theorem timeNeverGoesBack : Obligations.TimeNeverGoesBack := by
  unfold Obligations.TimeNeverGoesBack
  refine ⟨⟨rfl, rfl⟩, fun s v => ⟨_, rfl, rfl, ?_⟩, fun s hp hpow hs hlt => ?_, fun s t ht hc => ?_⟩
  · exact congrArg Tim.state (Dev.powerOn_spec _ _ v).1
  · refine ⟨s.idle, by simp only [step, hp], ?_⟩
    rw [idle_st hpow, Tim.tick_nominal hs, stAdd_toNat, if_pos hlt]
  · exact step_st_le ht (fun c h => movesPower_eq_false (hc c h).1 (hc c h).2)

/-! ### Power lost (R28, R564, R600) -/

/-- An address that is kept reads as before, any other reads 0. -/
theorem Memory.read_keep (m : Memory) (p : Nat → Bool) (a : Nat) : (Memory.keep m p).read a = if p a then m.read a else 0 := by
  unfold Memory.read Memory.keep
  rw [List.find?_filter]
  cases h : p a with
  | true =>
    have hq : (fun x : Nat × BitVec 8 => decide (p x.1 = true ∧ (x.1 == a) = true)) = fun x => x.1 == a := by
      funext x
      by_cases hx : x.1 = a <;> simp [hx, h]
    rw [hq]
    rfl
  | false =>
    have hq : m.find? (fun x => decide (p x.1 = true ∧ (x.1 == a) = true)) = none := by
      rw [List.find?_eq_none]
      intro x _ hx
      simp only [beq_iff_eq, decide_eq_true_eq] at hx
      rw [hx.2, h] at hx
      cases hx.1
    rw [hq]
    rfl

theorem losePower_powered {s : State} (h : s.dev.pwr.powered = true) :
    s.losePower = { s with st := 0, dev := s.dev.afterLoss s.ctx, mem := Memory.keep s.mem isMram } := if_pos h
theorem losePower_unpowered {s : State} (h : s.dev.pwr.powered = false) : s.losePower = s := if_neg (ne_true_of_eq_false h)

/-- What survives a loss of power that power-on then asks for. -/
theorem losePower_kept (s : State) : s.losePower.dev.tmp.lock = s.dev.tmp.lock ∧ s.losePower.dev.key.bbkekVal = s.dev.key.bbkekVal
    ∧ s.losePower.dev.pwr.boots = s.dev.pwr.boots := by
  unfold State.losePower
  split <;> exact ⟨rfl, rfl, rfl⟩

/-- Settles O56: what is left without main power is `Dev.afterLoss`; what a cell that failed too takes with it is `Dev.cellLost`. -/
theorem powerLossAndOn : Obligations.PowerLossAndOn := by
  unfold Obligations.PowerLossAndOn
  intro s t
  refine ⟨fun hp => ?_, fun hp => ?_, fun v => ?_⟩
  · refine ⟨_, rfl, ?_⟩
    rw [losePower_powered hp]
    refine ⟨rfl, rfl, rfl, rfl, rfl, rfl, rfl, rfl, rfl, rfl, rfl, rfl, fun a => ?_, ?_, ?_⟩
    · rw [Memory.read_keep]
      simp only [isMram, decide_eq_true_eq]
    · simp [Dev.afterLoss, Evl.afterLoss]
    · intro r hr
      obtain ⟨x, -, rfl⟩ := List.mem_map.mp hr
      rfl
  · exact congrArg Host.Outcome.next (losePower_unpowered hp)
  · obtain ⟨hlock, hval, hboots⟩ := losePower_kept s
    refine ⟨_, rfl, rfl, losePower_otp s, losePower_pending s, ?_⟩
    generalize hc : State.ctx { s.losePower with st := 0 } = c
    obtain ⟨htim, hpow, hb, hstage⟩ := Dev.powerOn_spec s.losePower.dev c v
    refine ⟨hpow, hb.trans (by rw [hboots]), fun hp => ?_, ?_, ?_⟩
    · rw [hstage, losePower_powered hp]
      rfl
    · rintro rfl
      exact ⟨hlock, hlock, hval, congrArg Tim.state htim⟩
    · rintro rfl
      exact ⟨rfl, rfl, Dev.powerOn_lost_bbkek _ c⟩

/-! ### The part after power-on reset (R28, R600, R602) -/

/-- Settles O2: the reset state as its definition lists it. -/
theorem resetState : Obligations.ResetState := by
  unfold Obligations.ResetState
  refine ⟨rfl, rfl, rfl, rfl, fun _ => rfl, rfl, rfl, rfl, rfl, rfl, rfl, by decide, rfl, rfl, rfl, fun _ => rfl, fun _ _ => rfl, by decide, rfl, by decide⟩

end Sys2Proof.Machine

/-! Resets, STANDBY and the wake from it (R549, R589, R590, R594, R599, R600, R611). -/

namespace Sys2Proof.Machine

/-! ### What a reset with power retained leaves -/

/-- The part stands at the beginning of start-up after a reset of a kind, with what that reset keeps of `d` (R600). -/
def Dev.Begun (k : ResetKind) (d e : Dev) : Prop :=
  e.pwr.stage = 1 ∧ e.pwr.halted = false ∧ e.pwr.standby = false ∧ e.pwr.cause = k.code ∧ e.pwr.seen = d.pwr.seen ||| 2 ^ k.code
    ∧ (∀ r ∈ e.hif.rings, r.state = .absent ∨ r.state = .parked) ∧ (∀ t ∈ e.lan.twins, t.running = none) ∧ (∀ c ∈ e.cus.cers, c.state = .idle ∧ c.result = 16)
    ∧ e.key.slots = d.key.slots ∧ e.evl.recs = d.evl.recs ∧ e.hiLatch = []
    ∧ (if k = .cold then e.acc.committed = List.replicate 64 {} else e.acc.committed = d.acc.committed)

/-- What a reset first closes: operations in progress, raw mode, the debug scope, the ceremonies that had reached quorum. -/
def Dev.closing (c : Ctx) (d : Dev) : Dev :=
  (List.range 4).foldl (fun (a : Dev) n => if (a.cer n).state == .opened then a.cerEnd c n true 16 else a) (((d.abandonAll c).rawLeave).dbgReset c)

section
variable (d : Dev) (c : Ctx) (k : ResetKind)

theorem Dev.rawLeave_lasting : d.rawLeave.lasting = d.lasting := by
  unfold Dev.rawLeave
  dsimp only
  split <;> rfl
theorem Dev.rawLeave_key : d.rawLeave.key = d.key := by
  unfold Dev.rawLeave
  dsimp only
  split <;> rfl
theorem Dev.mgmtResume_key (n : Nat) : (d.mgmtResume c n).key = d.key := by
  unfold Dev.mgmtResume
  split <;> rfl
theorem Dev.dbgReset_key : (d.dbgReset c).key = d.key := by
  unfold Dev.dbgReset
  split
  · rfl
  · rw [Dev.evtBit_key]
    exact (Dev.mgmtResume_key ..).trans (Dev.mgmtResume_key ..)
theorem Dev.cerEnd_key (n : Nat) (q : Bool) (r : Nat) : (d.cerEnd c n q r).key = d.key := by
  unfold Dev.cerEnd
  dsimp only
  split <;> split <;> simp

/-- Devices alike in what every closing operation keeps, read out for what a reset is asked about. -/
theorem Dev.kept_of_lasting {a b : Dev} (h : a.lasting = b.lasting) : a.pwr.seen = b.pwr.seen ∧ a.evl.recs = b.evl.recs ∧ a.acc.committed = b.acc.committed :=
  ⟨congrArg Lasting.seen h, congrArg Lasting.recs h, congrArg Lasting.committed h⟩
/-- What the closing work keeps. -/
theorem Dev.closing_lasting : (d.closing c).lasting = d.lasting := by
  unfold Dev.closing
  refine (foldl_keep Dev.lasting _ (fun a n => ?_) _ _).trans ?_
  · split
    · exact Dev.cerEnd_lasting ..
    · rfl
  · rw [Dev.dbgReset_lasting, Dev.rawLeave_lasting, Dev.abandonAll_lasting]
theorem Dev.closing_slots : (d.closing c).key.slots = d.key.slots := by
  unfold Dev.closing
  refine (foldl_keep (fun a : Dev => a.key.slots) _ (fun a n => ?_) _ _).trans ?_
  · split
    · exact congrArg Key.slots (Dev.cerEnd_key ..)
    · rfl
  · rw [Dev.dbgReset_key, Dev.rawLeave_key]
    exact congrArg Apart.slots (Dev.abandonAll_apart d c)

/-! The blocks of the part after a reset, from what its closing work left. -/

theorem Dev.resetTo_pwr : (d.resetTo c k).pwr = (d.closing c).pwr.restarted k := by
  dsimp only [Dev.resetTo, Dev.closing]
theorem Dev.resetTo_hif : (d.resetTo c k).hif = (d.closing c).hif.restarted := by
  dsimp only [Dev.resetTo, Dev.closing]
theorem Dev.resetTo_key : (d.resetTo c k).key = (d.closing c).key.restarted (d.changing MirrorOf.isSlot) := by
  dsimp only [Dev.resetTo, Dev.closing]
theorem Dev.resetTo_recs : (d.resetTo c k).evl.recs = (d.closing c).evl.recs := by
  dsimp only [Dev.resetTo, Dev.closing]
theorem Dev.resetTo_acc : (d.resetTo c k).acc = (d.closing c).acc.restarted k.coldLike := by
  dsimp only [Dev.resetTo, Dev.closing]
theorem Dev.resetTo_lan : ∃ en, (d.resetTo c k).lan = (d.closing c).lan.restarted en := by
  dsimp only [Dev.resetTo, Dev.closing]
  exact ⟨_, rfl⟩
theorem Dev.resetTo_cus : ∃ en, (d.resetTo c k).cus = (d.closing c).cus.restarted en := by
  dsimp only [Dev.resetTo, Dev.closing]
  exact ⟨_, rfl⟩
theorem Dev.resetTo_hiLatch : (d.resetTo c k).hiLatch = [] := by
  dsimp only [Dev.resetTo, Dev.closing]

theorem Ring.park_state (r : Ring) : r.park.state = .absent ∨ r.park.state = .parked := by
  unfold Ring.park
  split
  · next h => exact .inl h
  · exact .inr rfl
theorem Hif.restarted_rings (h : Hif) : ∀ r ∈ h.restarted.rings, r.state = .absent ∨ r.state = .parked := by
  intro r hr
  obtain ⟨x, -, rfl⟩ := List.mem_map.mp hr
  dsimp only
  split <;> exact x.park_state
theorem Lan.restarted_twins (en : Word) (l : Lan) : ∀ t ∈ (l.restarted en).twins, t.running = none := by
  intro t ht
  obtain ⟨x, -, rfl⟩ := List.mem_map.mp ht
  rfl
theorem Cus.restarted_cers (en : Word) (x : Cus) : ∀ y ∈ (x.restarted en).cers, y.state = .idle ∧ y.result = 16 := by
  intro y hy
  obtain ⟨z, -, rfl⟩ := List.mem_map.mp hy
  exact ⟨rfl, rfl⟩
/-- A reset that is not cold keeps the committed table; a cold one puts it at its reset value (R549). -/
theorem AccT.restarted_committed (hk : k ≠ .transition) (a : AccT) :
    if k = .cold then (a.restarted k.coldLike).committed = List.replicate 64 {} else (a.restarted k.coldLike).committed = a.committed := by
  cases k with
  | transition => exact absurd rfl hk
  | _ => rfl

/-- Every reset that is signalled from outside leaves the part at the beginning of start-up. -/
theorem Dev.resetTo_begun (hk : k ≠ .transition) : d.Begun k (d.resetTo c k) := by
  obtain ⟨hseen, hrecs, hcom⟩ := Dev.kept_of_lasting (Dev.closing_lasting d c)
  obtain ⟨en, hlan⟩ := Dev.resetTo_lan d c k
  obtain ⟨en', hcus⟩ := Dev.resetTo_cus d c k
  unfold Dev.Begun
  rw [Dev.resetTo_pwr, Dev.resetTo_hif, Dev.resetTo_key, Dev.resetTo_recs, Dev.resetTo_acc, Dev.resetTo_hiLatch, hlan, hcus, ← hseen, ← hrecs, ← hcom, ← Dev.closing_slots d c]
  generalize d.closing c = e
  exact ⟨rfl, rfl, rfl, rfl, rfl, Hif.restarted_rings e.hif, Lan.restarted_twins en e.lan, Cus.restarted_cers en' e.cus, rfl, rfl, rfl, AccT.restarted_committed k hk _⟩

/-! ### A reset as it is signalled (R590, R594, R599) -/

theorem Dev.signalReset_now {d : Dev} (hp : d.pwr.powered = true) (hw : d.warning = false) : d.signalReset c k = d.resetTo c k := by
  simp [Dev.signalReset, hp, hw]
theorem Dev.signalReset_held {d : Dev} (hp : d.pwr.powered = true) (hw : d.warning = true) :
    d.signalReset c k = { d with pwr := { d.pwr with held := if k.coldLike then some k else some (d.pwr.held.getD k) } } := by
  simp [Dev.signalReset, hp, hw]
end

theorem exec_coldReset (s : State) : exec .coldReset s = .next { s with dev := s.dev.signalReset s.ctx .cold } := rfl
theorem exec_warmReset_pin (s : State) : exec (.warmReset .warmPin) s = .next { s with dev := s.dev.signalReset s.ctx (if s.dev.pwr.standby then .wake else .warmPin) } := rfl
theorem exec_warmReset_perst (s : State) : exec (.warmReset .perst) s = .next { s with dev := if s.dev.pwr.standby then s.dev else s.dev.signalReset s.ctx .perst } := rfl
theorem exec_warmReset_hot (s : State) : exec (.warmReset .hotReset) s = .next { s with dev := if s.dev.pwr.standby then s.dev else s.dev.signalReset s.ctx .hotReset } := rfl
theorem exec_functionLevelReset (s : State) : exec .functionLevelReset s = .next { s with dev := if s.dev.pwr.standby then s.dev else s.dev.signalReset s.ctx .flr } := rfl
theorem exec_standbyWake (w : WakeSource) (s : State) : exec (.standbyWake w) s = .next { s with dev := standbyWakeOp w s.ctx s.dev } := rfl
theorem exec_railReset (r mv : Nat) (s : State) : exec (.railReset r mv) s = .next { s with dev := railResetOp r mv s.ctx s.dev } := rfl

/-- What a command that resets at once leaves: the device alone differs, and stands at the beginning of start-up. -/
theorem begun_of_exec {i : Instr} {s : State} {k : ResetKind} (hk : k ≠ .transition) (h : exec i s = .next { s with dev := s.dev.resetTo s.ctx k }) :
    ∃ u, exec i s = .next u ∧ DevOnly s u ∧ Dev.Begun k s.dev u.dev :=
  ⟨_, h, .of_dev .., Dev.resetTo_begun _ _ k hk⟩

/-! ### STANDBY and its wake (R589, R590) -/

theorem standbyWakeOp_awake (w : WakeSource) (c : Ctx) {d : Dev} (h : d.pwr.standby = false) : standbyWakeOp w c d = d := by
  simp [standbyWakeOp, h]
theorem standbyWakeOp_pin (c : Ctx) {d : Dev} (hp : d.pwr.powered = true) (h : d.pwr.standby = true) : standbyWakeOp .warmPin c d = d.signalReset c .wake := by
  simp [standbyWakeOp, hp, h]
theorem standbyWakeOp_own (c : Ctx) {d : Dev} (hp : d.pwr.powered = true) (h : d.pwr.standby = true) :
    standbyWakeOp (.smbus (fld (d.reg Off.pwrSmbWake) 6 0)) c d = d.signalReset c .wake := by
  simp [standbyWakeOp, hp, h]
theorem standbyWakeOp_other (c : Ctx) {d : Dev} {a : Nat} (ha : a ≠ fld (d.reg Off.pwrSmbWake) 6 0) : standbyWakeOp (.smbus a) c d = d := by
  simp [standbyWakeOp, ha]

section
variable (c : Ctx)

/-- A grove that goes off: its domain is off, its point, its idle count and its domains with it; nothing else of power changes. -/
theorem Dev.groveSwitchOff_pwr (g : Nat) (d : Dev) : (d.groveSwitchOff c g).pwr = { d.pwr with
    groveOn := d.pwr.groveOn &&& ~~~(1#12 <<< g)
    groveOp := d.pwr.groveOp.mapIdx (fun i x => if i = g then 0 else x)
    idle := d.pwr.idle.mapIdx (fun i x => if i = g then 0 else x)
    doms := d.pwr.doms.filter (fun x => !domOfGrove g x.num) } := by
  have h : ((d.groveLeaves c g .gated).updDrbg g Drbg.erased).pwr = d.pwr := congrArg Apart.pwr (Dev.groveLeaves_gated_apart d c g)
  unfold Dev.groveSwitchOff
  rw [← h]
theorem Dev.groveSwitchOff_pwrEvt (g : Nat) (d : Dev) : (d.groveSwitchOff c g).reg Off.pwrEvt = d.reg Off.pwrEvt :=
  congrArg Apart.pwrEvt (Dev.groveLeaves_gated_apart d c g)

/-- Groves that are on go off, those of a list. -/
def Dev.grovesOff (l : List Nat) (d : Dev) : Dev := l.foldl (fun (a : Dev) g => if a.groveOn g then a.groveSwitchOff c g else a) d

theorem Dev.groveSwitchOff_groveOn (g n : Nat) (d : Dev) : (d.groveSwitchOff c g).groveOn n = (d.groveOn n && !decide (n = g)) := by
  unfold Dev.groveOn
  rw [Dev.groveSwitchOff_pwr]
  simp only [BitVec.getLsbD_and, BitVec.getLsbD_not, BitVec.getLsbD_shiftLeft, BitVec.getLsbD_one]
  by_cases hn : n < 12
  · by_cases hg : n = g
    · subst hg
      simp [hn]
    · have : ¬ (¬ n < g ∧ n - g = 0) := by omega
      simp only [hn, hg, decide_true, decide_false, Bool.true_and, Bool.not_false]
      congr 1
      by_cases hlt : n < g
      · simp [hlt]
      · simp [hlt, show n - g ≠ 0 by omega]
  · simp [BitVec.getLsbD_of_ge d.pwr.groveOn n (by omega)]

/-- Afterwards the groves of the list are off, and of the rest only that is asked here what STANDBY needs. -/
theorem Dev.grovesOff_spec : ∀ (l : List Nat) (d : Dev), (d.grovesOff c l).pwr.cmdResult = d.pwr.cmdResult ∧ (d.grovesOff c l).reg Off.pwrEvt = d.reg Off.pwrEvt
    ∧ ∀ n, (d.groveOn n = false ∨ n ∈ l) → (d.grovesOff c l).groveOn n = false
  | [], d => ⟨rfl, rfl, fun n h => h.resolve_right List.not_mem_nil⟩
  | g :: l, d => by
    let e : Dev := if d.groveOn g then d.groveSwitchOff c g else d
    have he : e.pwr.cmdResult = d.pwr.cmdResult ∧ e.reg Off.pwrEvt = d.reg Off.pwrEvt ∧ ∀ n, (d.groveOn n = false ∨ n = g) → e.groveOn n = false := by
      by_cases hg : d.groveOn g = true
      · simp only [e, hg, if_true]
        refine ⟨by rw [Dev.groveSwitchOff_pwr], Dev.groveSwitchOff_pwrEvt c g d, fun n hn => ?_⟩
        rw [Dev.groveSwitchOff_groveOn]
        rcases hn with hn | hn <;> simp [hn]
      · simp only [e, hg]
        refine ⟨rfl, rfl, fun n hn => ?_⟩
        rcases hn with hn | rfl
        · exact hn
        · simpa using hg
    obtain ⟨hres, hevt, hoff⟩ := Dev.grovesOff_spec l e
    refine ⟨hres.trans he.1, hevt.trans he.2.1, fun n hn => hoff n ?_⟩
    rcases hn with hn | hn
    · exact .inl (he.2.2 n (.inl hn))
    · rcases List.mem_cons.mp hn with hn | hn
      · exact .inl (he.2.2 n (.inr hn))
      · exact .inr hn

theorem Dev.enterStandby_pwr (d : Dev) : (d.enterStandby c).pwr = { (d.grovesOff c (List.range 12)).pwr with standby := true, doms := [] } := rfl
theorem Dev.enterStandby_reg (d : Dev) (o : Nat) : (d.enterStandby c).reg o = (d.grovesOff c (List.range 12)).reg o := rfl
theorem Dev.enterStandby_ports (d : Dev) : ∀ p ∈ (d.enterStandby c).fab.ports, p.state = .disabled := by
  intro p hp
  obtain ⟨x, -, rfl⟩ := List.mem_map.mp hp
  rfl

/-- A command of the power controller is done, with its result (R610). -/
def Dev.pwrCmdDone (res : Nat) (d : Dev) : Dev := (d.onPwr (fun p => { p with cmdResult := res })).evtBit Off.pwrEvt 7
theorem Dev.pwrCmdDone_pwr (res : Nat) (d : Dev) : (d.pwrCmdDone res).pwr = { d.pwr with cmdResult := res } := by simp [Dev.pwrCmdDone]
theorem Dev.pwrCmdDone_evt (res : Nat) (d : Dev) : bit ((d.pwrCmdDone res).reg Off.pwrEvt) 7 = true := by
  simp [Dev.pwrCmdDone, bit]

theorem pwrCmdW_quiet {d : Dev} (h : d.quiet = true) : pwrCmdW c 1#32 d = .took ((d.pwrCmdDone 0).enterStandby c) := by
  have hf : ¬ fld 1#32 1 0 ≠ 1 := by decide
  simp only [pwrCmdW, if_neg hf, h]
  rfl
theorem pwrCmdW_busy {d : Dev} (h : d.quiet = false) : pwrCmdW c 1#32 d = .took (d.pwrCmdDone 1) := by
  have hf : ¬ fld 1#32 1 0 ≠ 1 := by decide
  simp only [pwrCmdW, if_neg hf, h]
  rfl
end

theorem exec_pwrStandby (s : State) : exec .pwrStandby s = .next { s with dev := s.dev.hostWrite s.ctx Off.pwrCmd (pwrCmdW s.ctx 1#32) } := rfl

/-- STANDBY entered: nothing is in use, and afterwards the groves and the links are off (R589). -/
theorem pwrStandby_enters {s : State} (hm : HostMay s true Off.pwrCmd) (h : s.dev.quiet = true) :
    ∃ u, exec .pwrStandby s = .next u ∧ DevOnly s u ∧ u.dev.pwr.standby = true ∧ u.dev.pwr.cmdResult = 0 ∧ (∀ g, g < 12 → u.dev.groveOn g = false)
      ∧ (∀ p ∈ u.dev.fab.ports, p.state = .disabled) ∧ bit (u.dev.reg Off.pwrEvt) 7 = true := by
  obtain ⟨hres, hevt, hoff⟩ := Dev.grovesOff_spec s.ctx (List.range 12) (s.dev.pwrCmdDone 0)
  refine ⟨_, exec_pwrStandby s, .of_dev .., ?_⟩
  rw [hostWrite_own hm rfl (pwrCmdW_quiet s.ctx h)]
  refine ⟨rfl, ?_, fun g hg => hoff g (.inr (List.mem_range.mpr hg)), Dev.enterStandby_ports s.ctx _, ?_⟩
  · rw [Dev.enterStandby_pwr]
    exact hres.trans (congrArg Pwr.cmdResult (Dev.pwrCmdDone_pwr 0 s.dev))
  · dsimp only
    rw [Dev.enterStandby_reg, hevt]
    exact Dev.pwrCmdDone_evt 0 s.dev
theorem pwrStandby_busy {s : State} (hm : HostMay s true Off.pwrCmd) (h : s.dev.quiet = false) :
    ∃ u, exec .pwrStandby s = .next u ∧ DevOnly s u ∧ u.dev.pwr = { s.dev.pwr with cmdResult := 1 } ∧ bit (u.dev.reg Off.pwrEvt) 7 = true := by
  refine ⟨_, exec_pwrStandby s, .of_dev .., ?_⟩
  rw [hostWrite_own hm rfl (pwrCmdW_busy s.ctx h)]
  exact ⟨Dev.pwrCmdDone_pwr 1 s.dev, Dev.pwrCmdDone_evt 1 s.dev⟩

/-! ### A rail at its reset level (R594, R578) -/

section
variable {d : Dev} {r mv : Nat} (c : Ctx)

theorem railResetOp_above (h : 6 ≤ r ∨ railLevel.getD r 0 < mv) : railResetOp r mv c d = d := by
  have hno : decide (mv ≤ railLevel.getD r 0 ∧ r < 6) = false := decide_eq_false (by omega)
  unfold railResetOp
  rw [hno, Bool.not_false, Bool.or_true, if_pos rfl]
variable (hp : d.pwr.powered = true) (h6 : r < 6) (hmv : mv ≤ railLevel.getD r 0)
include hp h6 hmv
theorem railResetOp_resets (h2 : r ≠ 2) : railResetOp r mv c d = d.resetTo c .cold := by
  unfold railResetOp
  rw [hp, decide_eq_true (And.intro hmv h6)]
  exact if_neg h2
theorem railResetOp_vddq (h2 : r = 2) : railResetOp r mv c d = { d.resetTo c .cold with
    mem := { (d.resetTo c .cold).mem with vddqDropped := true, ddrReady := false }
    pwr := { (d.resetTo c .cold).pwr with ddrFull := true, jnlLost := true } } := by
  unfold railResetOp
  rw [hp, decide_eq_true (And.intro hmv h6)]
  exact if_pos h2
/-- Every rail resets cold; VDDQ takes the content of DDR5 with it. -/
theorem railResetOp_begun : Dev.Begun .cold d (railResetOp r mv c d) := by
  have hb := Dev.resetTo_begun d c .cold nofun
  by_cases h2 : r = 2
  · rw [railResetOp_vddq c hp h6 hmv h2]
    generalize d.resetTo c .cold = e at hb ⊢
    exact hb
  · rw [railResetOp_resets c hp h6 hmv h2]
    exact hb
end

/-- Settles O55: every reset that acts at once is `Dev.resetTo_begun`; a warning holds it back, and in STANDBY only the wake
sources reach it. -/
theorem resets : Obligations.Resets := by
  unfold Obligations.Resets
  intro s d again
  have hnow (i : Instr) (k : ResetKind) (hk : k ≠ .transition) (h : exec i s = .next { s with dev := s.dev.resetTo s.ctx k }) : again (exec i s) k := begun_of_exec hk h
  refine ⟨fun hp hw => ?_, fun hs w => ?_, fun hp hw hs => ?_, fun hp r mv => ?_, fun hm => ⟨pwrStandby_enters hm, pwrStandby_busy hm⟩⟩
  · have hsig (k : ResetKind) : s.dev.signalReset s.ctx k = s.dev.resetTo s.ctx k := Dev.signalReset_now s.ctx k hp hw
    refine ⟨hnow _ _ nofun (by rw [exec_coldReset, hsig]), fun hs => ⟨?_, ?_, ?_, ?_⟩, fun hs => ⟨?_, ?_, ?_, ?_, ?_, fun a => ⟨?_, ?_⟩⟩⟩
    · exact hnow _ _ nofun (by rw [exec_warmReset_pin, if_neg (ne_true_of_eq_false hs), hsig])
    · exact hnow _ _ nofun (by rw [exec_warmReset_perst, if_neg (ne_true_of_eq_false hs), hsig])
    · exact hnow _ _ nofun (by rw [exec_warmReset_hot, if_neg (ne_true_of_eq_false hs), hsig])
    · exact hnow _ _ nofun (by rw [exec_functionLevelReset, if_neg (ne_true_of_eq_false hs), hsig])
    · exact hnow _ _ nofun (by rw [exec_warmReset_pin, if_pos hs, hsig])
    · rw [exec_warmReset_perst, if_pos hs]
    · rw [exec_warmReset_hot, if_pos hs]
    · rw [exec_functionLevelReset, if_pos hs]
    · exact hnow _ _ nofun (by rw [exec_standbyWake, standbyWakeOp_pin s.ctx hp hs, hsig])
    · rintro rfl
      exact hnow _ _ nofun (by rw [exec_standbyWake, standbyWakeOp_own s.ctx hp hs, hsig])
    · intro ha
      rw [exec_standbyWake, standbyWakeOp_other s.ctx ha]
  · rw [exec_standbyWake, standbyWakeOp_awake w s.ctx hs]
  · refine ⟨?_, ?_⟩
    · rw [exec_coldReset, Dev.signalReset_held s.ctx .cold hp hw]
      rfl
    · rw [exec_warmReset_perst, if_neg (ne_true_of_eq_false hs), Dev.signalReset_held s.ctx .perst hp hw]
      rfl
  · refine ⟨fun h6 hmv => ?_, fun h => ?_, fun h2 hmv => ?_⟩
    · exact ⟨_, exec_railReset r mv s, .of_dev .., railResetOp_begun s.ctx hp h6 hmv⟩
    · rw [exec_railReset, railResetOp_above s.ctx h]
    · refine ⟨_, exec_railReset r mv s, ?_⟩
      dsimp only
      rw [railResetOp_vddq s.ctx hp (by omega) hmv h2]
      exact ⟨rfl, rfl, rfl⟩

end Sys2Proof.Machine

/-! The time base: edges, the moves of the time state, tokens, quorum sets and the fence (R30 to R44, R643 to R648). -/

namespace Sys2Proof.Machine

/-! ### PPS edges (R31, R36) -/

section
variable {d : Dev} (c : Ctx)

/-- With no set and no token waiting, an edge applies nothing. -/
theorem Dev.edgeWaits_none (hs : d.tim.setWait = none) (ht : d.tim.token = none) : d.edgeWaits c = (d, none) := by
  simp [Dev.edgeWaits, Dev.edgeSet, Dev.edgeToken, hs, ht]

theorem ppsEdgeOp_valid {e : Dev} (hen : bit (d.reg Off.timRefCfg) 0 = true) (hp : d.pwr.powered = true) (hv : (d.judgeEdge c).valid = true)
    (he : d.validEdge c (d.judgeEdge c) = e) (hs : e.tim.setWait = none) (ht : e.tim.token = none) : ppsEdgeOp c d = (e, none) := by
  simp [ppsEdgeOp, hen, hp, hv, he, Dev.edgeWaits_none c hs ht]

theorem Dev.judgeEdge_unset (h : d.tim.state = .unset) : (d.judgeEdge c).valid = true := by
  simp [Dev.judgeEdge, h]
theorem Dev.validEdge_unset (j : EdgeJudge) (h : d.tim.state = .unset) :
    d.validEdge c j = { d with tim := { d.tim with ppsCap := c.now, ppsValid := true } } := by
  unfold Dev.validEdge
  rw [h]
  rfl

/-- In LOCKED the edge is expected at the next whole second after the last valid one, where no later second is nearer (R31). -/
theorem Dev.judgeEdge_locked {e : Nat} (h : d.tim.state = .locked) (he : d.tim.expected = e) (hn : nearestSecond c.now ≤ e)
    (hlo : e ≤ c.now + 10000) (hhi : c.now ≤ e + 10000) : d.judgeEdge c = { valid := true, ref := e, count := d.tim.acqCount } := by
  have hus : 10 * nsUs = 10000 := rfl
  unfold Dev.judgeEdge
  simp only [h, he, Nat.max_eq_left hn, hus, hlo, hhi, and_self, decide_true]
theorem Dev.validEdge_locked (j : EdgeJudge) (h : d.tim.state = .locked) :
    d.validEdge c j = { d with tim := Tim.takeOffset c.now j.ref { d.tim with ppsCap := c.now, ppsValid := true } } := by
  unfold Dev.validEdge
  rw [h]
  rfl
end


/-- Settles O8: in UNSET an edge is captured alone; in LOCKED its offset from the expected second becomes the correction. -/
theorem timeEdges : Obligations.TimeEdges := by
  unfold Obligations.TimeEdges
  intro s hen hp hs ht
  refine ⟨fun hst => ?_, fun e hst he hn hlo hhi => ?_⟩
  · have h := ppsEdgeOp_valid s.ctx hen hp (Dev.judgeEdge_unset s.ctx hst) (Dev.validEdge_unset s.ctx _ hst) hs ht
    exact onTime_none h
  · have hj := Dev.judgeEdge_locked s.ctx hst he hn hlo hhi
    have h := ppsEdgeOp_valid s.ctx hen hp (by rw [hj]) (Dev.validEdge_locked s.ctx _ hst) hs ht
    refine ⟨_, onTime_none h, .of_dev .., hst, rfl, ?_, rfl, rfl⟩
    rw [hj]
    exact Int.neg_sub _ _

/-! ### The moves of the time state (R32, R33, R648) -/

section
variable {d : Dev} (c : Ctx)

/-- A move into another time state is reported. -/
theorem Dev.toTimeState_moves {st : TimeState} (h : d.tim.state ≠ st) : d.toTimeState st = (d.onTim (fun t => { t with state := st })).evtBit Off.timEvt 0 := if_neg h
theorem Dev.toTimeState_evt {st : TimeState} (h : d.tim.state ≠ st) : (d.toTimeState st).reg Off.timEvt = d.reg Off.timEvt ||| 1#32 := by
  rw [Dev.toTimeState_moves h, Dev.evtBit_reg]
  rfl
/-- An event sets its bit and keeps the others. -/
theorem bit_or_one (v : Word) : bit (v ||| 1#32) 0 = true := by simp [bit]
theorem bit_or_left {v : Word} (w : Word) {i : Nat} (h : bit v i = true) : bit (v ||| w) i = true := by
  unfold bit at h ⊢
  rw [BitVec.getLsbD_or, h, Bool.true_or]

/-- PPS is lost where the time state moves on without it. -/
def Dev.losesPps (st : TimeState) (d : Dev) : Dev := (d.onTim (fun t => { t with ppsValid := false })).toTimeState st
theorem Dev.losesPps_tim (st : TimeState) : (d.losesPps st).tim = { d.tim with state := st, ppsValid := false } := Dev.toTimeState_tim ..
theorem Dev.losesPps_evt {st : TimeState} (h : d.tim.state ≠ st) : (d.losesPps st).reg Off.timEvt = d.reg Off.timEvt ||| 1#32 := Dev.toTimeState_evt h

/-- An edge is missed. -/
def Dev.missed (d : Dev) : Dev := (d.onTim (fun t => { t with misses := t.misses + 1 })).evtBit Off.timEvt 1
theorem Dev.missed_tim : d.missed.tim = { d.tim with misses := d.tim.misses + 1 } := Dev.evtBit_tim ..
theorem Dev.missed_evt : bit (d.missed.reg Off.timEvt) 1 = true := by simp [Dev.missed, bit]

/-- The second miss in LOCKED (R33). -/
theorem ppsMissOp_second (hp : d.pwr.powered = true) (hl : d.tim.state = .locked) (hm : d.tim.misses = 1) (ht : d.tim.expected + 10000 ≤ c.now) :
    ppsMissOp c d = d.missed.losesPps .holdover := by
  have hus : 10 * nsUs = 10000 := rfl
  have hdue : ¬ c.now < d.tim.expected + 10000 := by omega
  have h2 : 2 ≤ d.missed.tim.misses := by rw [Dev.missed_tim, hm]
  simp only [ppsMissOp, hl, hus, hp, reduceCtorEq, if_false, Nat.add_zero, hdue, decide_false, Bool.not_true, Bool.or_self, Bool.false_eq_true]
  exact if_pos h2
theorem acquireTimeoutOp_due (ha : d.tim.state = .acquiring) (ht : max d.tim.acqSince (d.tim.lastValid.getD 0) + 10000000000 ≤ c.now) :
    acquireTimeoutOp c d = d.losesPps .freeRun := if_pos ⟨ha, ht⟩
theorem holdoverLimitOp_due (hh : d.tim.state = .holdover) (ht : (d.reg Off.timHoldLimit).toNat < d.tim.errEst c.now) :
    holdoverLimitOp c d = d.losesPps .freeRun := if_pos ⟨hh, ht⟩
theorem Dev.trefSelected_of (h : fld (d.reg Off.timRefCfg) 3 2 ≠ 0) : d.trefSelected = true := bne_iff_ne.mpr h
theorem trefLossOp_locked (hs : d.trefSelected = true) (hv : d.tim.trefValid = true) (hl : d.tim.state = .locked) :
    trefLossOp c d = (d.onTim (fun t => { t with trefValid := false, trefSince := c.now })).toTimeState .holdover := by
  simp only [trefLossOp, hv, hl, hs, and_self, if_true]
end

theorem exec_ppsMiss (s : State) : exec .ppsMiss s = .next { s with dev := ppsMissOp s.ctx s.dev } := rfl
theorem exec_acquireTimeout (s : State) : exec .acquireTimeout s = .next { s with dev := acquireTimeoutOp s.ctx s.dev } := rfl
theorem exec_holdoverLimitExceeded (s : State) : exec .holdoverLimitExceeded s = .next { s with dev := holdoverLimitOp s.ctx s.dev } := rfl
theorem exec_trefValidated (s : State) : exec .trefValidated s = .next { s with dev := trefValidatedOp s.ctx s.dev } := rfl
theorem exec_trefLoss (s : State) : exec .trefLoss s = .next { s with dev := trefLossOp s.ctx s.dev } := rfl
theorem exec_slewComplete (s : State) : exec .slewComplete s = .next { s with dev := slewCompleteOp s.ctx s.dev } := rfl
theorem exec_timFenceDone (s : State) : exec .timFenceDone s = .next { s with dev := { s.dev with tim := { s.dev.tim with fenceBusy := false } } } := rfl

/-- Settles O9: each move through the lemma of its operation. -/
theorem timeStateMoves : Obligations.TimeStateMoves := by
  unfold Obligations.TimeStateMoves
  intro s
  refine ⟨fun hp hl hm ht => ?_, fun ha ht => ?_, fun hh ht => ?_, fun hf hv ht => ?_, fun hf hv hl => ?_, fun h0 => ?_, exec_timFenceDone s⟩
  · have hmoves : s.dev.missed.tim.state ≠ .holdover := by
      rw [Dev.missed_tim]
      exact fun h => by cases hl.symm.trans h
    refine ⟨_, exec_ppsMiss s, .of_dev .., ?_⟩
    dsimp only
    rw [ppsMissOp_second s.ctx hp hl hm ht, Dev.losesPps_tim, Dev.losesPps_evt hmoves, Dev.missed_tim, hm]
    exact ⟨rfl, bit_or_one _, bit_or_left _ Dev.missed_evt⟩
  · refine ⟨_, exec_acquireTimeout s, .of_dev .., ?_⟩
    dsimp only
    rw [acquireTimeoutOp_due s.ctx ha ht, Dev.losesPps_tim, Dev.losesPps_evt (fun h => by cases ha.symm.trans h)]
    exact ⟨rfl, bit_or_one _⟩
  · refine ⟨_, exec_holdoverLimitExceeded s, .of_dev .., ?_⟩
    dsimp only
    rw [holdoverLimitOp_due s.ctx hh ht, Dev.losesPps_tim, Dev.losesPps_evt (fun h => by cases hh.symm.trans h)]
    exact ⟨rfl, bit_or_one _⟩
  · have h : trefValidatedOp s.ctx s.dev = s.dev.onTim (fun t => { t with trefValid := true }) := if_pos ⟨Dev.trefSelected_of hf, hv, ht⟩
    rw [exec_trefValidated, h]
    rfl
  · refine ⟨_, exec_trefLoss s, .of_dev .., ?_⟩
    dsimp only
    rw [trefLossOp_locked s.ctx (Dev.trefSelected_of hf) hv hl, Dev.toTimeState_tim, Dev.toTimeState_evt (fun h => by cases hl.symm.trans h)]
    exact ⟨rfl, bit_or_one _⟩
  · have h : slewCompleteOp s.ctx s.dev = s.dev.onTim (fun t => { t with slewPhase := 0 }) := if_pos h0
    rw [exec_slewComplete, h]
    rfl

/-! ### A time token ends (R44) -/

section
variable {d : Dev} (c : Ctx)

theorem Dev.tokenFinal_tim (code : Nat) : (d.tokenFinal code).tim = { d.tim with token := none, tokenStat := code } := Dev.evtBit_tim ..
theorem Dev.tokenFinal_evt (code : Nat) : bit ((d.tokenFinal code).reg Off.timEvt) 2 = true := by simp [Dev.tokenFinal, bit]
theorem Dev.tokenFinal_reg (code : Nat) {o : Nat} (h : o ≠ Off.timEvt) : (d.tokenFinal code).reg o = d.reg o := Dev.evtBit_reg_ne _ 2 h

theorem Dev.applyToken_slew (raw : Nat) {v : Nat} (hv : v < 2 ^ 61) (hu : d.tim.state ≠ .unset) :
    d.applyToken c raw v = ((d.slewBy ((v : Int) - c.now)).tokenFinal 2, none) := by
  simp only [Dev.applyToken, if_neg (Nat.not_le.mpr hv), if_neg hu, Dev.tokenFinal]
theorem Dev.applyToken_jump {raw v : Nat} (hv : v < 2 ^ 61) (hu : d.tim.state = .unset) (hr : c.now ≤ raw) :
    d.applyToken c raw v = ((d.jumpTo c 1 v).1.tokenFinal 2, some v) := by
  simp only [Dev.applyToken, if_neg (Nat.not_le.mpr hv), if_pos hu, if_neg (Nat.not_lt.mpr hr), Dev.tokenFinal]
theorem Dev.applyToken_early {raw v : Nat} (hv : v < 2 ^ 61) (hu : d.tim.state = .unset) (hr : raw < c.now) :
    d.applyToken c raw v = (d.tokenFinal 6, none) := by
  simp only [Dev.applyToken, if_neg (Nat.not_le.mpr hv), if_pos hu, if_pos hr, Dev.tokenFinal]

/-! ### Verification ends (R40, R644) -/

variable {r : DmaRead} {k : TokenJob} (hk : d.tim.token = some k) (hw : k.wait = none)
include hk hw

theorem tokenVerifyOp_fails {code : Nat} (hf : tokenFail r k d = some code) : tokenVerifyOp r c d = (d.tokenFinal code, none) := by
  simp [tokenVerifyOp, hk, hw, hf]
theorem tokenVerifyOp_waits (hf : tokenFail r k d = none) (h : le r.data 2 2 = 1 ∧ d.ppsOk = true) :
    tokenVerifyOp r c d = (d.onTim (fun t => { t with token := some { k with wait := some { value := le r.data 32 8, since := c.now } } }), none) := by
  simp [tokenVerifyOp, hk, hw, hf, h]
theorem tokenVerifyOp_applies (hf : tokenFail r k d = none) (h : ¬ (le r.data 2 2 = 1 ∧ d.ppsOk = true)) :
    tokenVerifyOp r c d = d.applyToken c (le r.data 32 8) (le r.data 32 8 + (c.now - k.goSt)) := by
  simp only [tokenVerifyOp, hk, hw, hf, Option.isSome_none, Bool.false_eq_true, if_false, if_neg h]
end

theorem exec_tokenVerifyDone (data : Bytes) (read : DmaEnd) (s : State) : exec (.tokenVerifyDone data read) s = s.onTime (tokenVerifyOp (dmaRead data read)) := rfl

/-- A jump that does not go back gives ST its value. -/
theorem onTime_jump {s : State} {f : Ctx → Dev → Dev × Option Nat} {e : Dev} {v : Nat} (h : f s.ctx s.dev = (e, some v)) (hle : s.st.toNat ≤ v) (hv : v < 2 ^ 64) :
    s.onTime f = .next { s with dev := e, st := BitVec.ofNat 64 v } := by
  simp only [State.onTime, h, hle, hv, and_self, if_true]

/-! ### GO and NEW_NONCE (R40, R643) -/

section
variable {d : Dev} (c : Ctx)

/-- A fresh nonce is issued at this ST. -/
theorem Dev.newTimeNonce_issued (h : d.mgmtDrbg = true) :
    d.newTimeNonce c = (d.mgmtNonce c).2.onTim (fun t => { t with nonce := (d.mgmtNonce c).1, nonceIssued := c.now, nonceLive := true }) := if_pos h
theorem Dev.mgmtNonce_tim : (d.mgmtNonce c).2.tim = d.tim := Dev.request_2_tim ..
theorem Dev.mgmtNonce_ctr : (d.mgmtNonce c).2.rng.ctr = d.rng.ctr + 1 := Dev.request_2_ctr ..
theorem Dev.newTimeNonce_tim (h : d.mgmtDrbg = true) : (d.newTimeNonce c).tim = { d.tim with nonce := (d.mgmtNonce c).1, nonceIssued := c.now, nonceLive := true } := by
  rw [Dev.newTimeNonce_issued c h, Dev.onTim_tim, Dev.mgmtNonce_tim]
theorem Dev.newTimeNonce_ctr (h : d.mgmtDrbg = true) : (d.newTimeNonce c).rng.ctr = d.rng.ctr + 1 := by
  rw [Dev.newTimeNonce_issued c h, Dev.onTim_rng, Dev.mgmtNonce_ctr]

/-- What GO captures (R40). -/
def Dev.tokenJob (c : Ctx) (d : Dev) : TokenJob := { nonce := d.tim.nonce, goSt := c.now, issued := d.tim.nonceIssued, live := d.tim.nonceLive }
/-- A token is in progress, its nonce consumed, and a firmware task for it ready. -/
def Dev.tokenGoes (c : Ctx) (d : Dev) : Dev :=
  (d.onTim (fun t => { t with nonceLive := false, token := some (d.tokenJob c), tokenStat := 1 })).fwReady c 1

theorem Dev.tokenGoes_tim : (d.tokenGoes c).tim = { d.tim with nonceLive := false, token := some (d.tokenJob c), tokenStat := 1 } := Dev.fwReady_tim ..
theorem Dev.tokenGoes_regs : (d.tokenGoes c).regs = d.regs := Dev.fwReady_regs ..
theorem Dev.tokenGoes_mgmtDrbg : (d.tokenGoes c).mgmtDrbg = d.mgmtDrbg := by
  simp only [Dev.mgmtDrbg, Dev.drbg, Dev.tokenGoes, Dev.fwReady_rng, Dev.onTim_rng]

theorem timTokenCtrlW_go {v : Word} (h0 : bit v 0 = true) (hst : d.tim.tokenStat ≠ 1) (hm : d.mgmtUp = true) :
    timTokenCtrlW c v d = .took (if bit v 1 then (d.tokenGoes c).newTimeNonce c else d.tokenGoes c) := by
  simp only [timTokenCtrlW, h0, if_true, if_neg hst, hm]
  rfl
theorem timTokenCtrlW_inProgress {v : Word} (h0 : bit v 0 = true) (hst : d.tim.tokenStat = 1) : timTokenCtrlW c v d = .viol := by
  simp only [timTokenCtrlW, h0, if_true, hst]
theorem timTokenCtrlW_nonce : timTokenCtrlW c 2#32 d = .took (d.newTimeNonce c) := rfl

/-! ### The wait for a PPS edge (R645) -/

theorem tokenPpsTimeoutOp_due {k : TokenJob} {w : TokenWait} (hk : d.tim.token = some k) (hw : k.wait = some w) (ht : w.since + 2000000000 ≤ c.now) :
    tokenPpsTimeoutOp c d = d.tokenFinal 10 := by
  have h : w.since + 2 * nsS ≤ c.now := ht
  simp [tokenPpsTimeoutOp, hk, hw, h]
end

theorem exec_timTokenGo (b : Bool) (s : State) :
    exec (.timTokenGo b) s = .next { s with dev := s.dev.hostWrite s.ctx Off.timTokenCtrl (timTokenCtrlW s.ctx (if b then 3#32 else 1#32)) } := rfl
theorem exec_timNewNonce (s : State) : exec .timNewNonce s = .next { s with dev := s.dev.hostWrite s.ctx Off.timTokenCtrl (timTokenCtrlW s.ctx 2#32) } := rfl
theorem exec_tokenPpsTimeout (s : State) : exec .tokenPpsTimeout s = .next { s with dev := tokenPpsTimeoutOp s.ctx s.dev } := rfl

/-- A permitted GO, with and without NEW_NONCE. -/
theorem timTokenGo_goes {s : State} (hm : HostMay s true Off.timTokenCtrl) (hst : s.dev.tim.tokenStat ≠ 1) (hu : s.dev.mgmtUp = true) (b : Bool) :
    exec (.timTokenGo b) s = .next { s with dev := if b then (s.dev.tokenGoes s.ctx).newTimeNonce s.ctx else s.dev.tokenGoes s.ctx } := by
  cases b <;> rw [exec_timTokenGo, hostWrite_own hm rfl (timTokenCtrlW_go s.ctx rfl hst hu)] <;> rfl

/-- Settles O10: GO and NEW_NONCE by what the write makes of them, the end of a verification by the branch of its checks. -/
theorem timeTokens : Obligations.TimeTokens := by
  unfold Obligations.TimeTokens
  intro s
  refine ⟨fun hm hst hu => ⟨?_, fun hd => ?_⟩, fun b hm hst => ?_, fun hm hd => ?_, ?_, fun k w hk hw ht => ?_⟩
  · exact ⟨_, timTokenGo_goes hm hst hu false, .of_dev .., Dev.tokenGoes_regs s.ctx, Dev.tokenGoes_tim s.ctx⟩
  · refine ⟨_, timTokenGo_goes hm hst hu true, .of_dev .., ?_⟩
    dsimp only
    rw [if_pos rfl, Dev.newTimeNonce_tim s.ctx ((Dev.tokenGoes_mgmtDrbg s.ctx).trans hd), Dev.tokenGoes_tim]
    exact ⟨rfl, rfl, rfl, rfl⟩
  · rw [exec_timTokenGo, hostWrite_own_viol hm rfl (timTokenCtrlW_inProgress s.ctx (by cases b <;> rfl) hst)]
  · refine ⟨_, exec_timNewNonce s, .of_dev .., ?_⟩
    dsimp only
    rw [hostWrite_own hm rfl (timTokenCtrlW_nonce s.ctx), Dev.newTimeNonce_tim s.ctx hd, Dev.newTimeNonce_ctr s.ctx hd]
    exact ⟨rfl, rfl, rfl, rfl, rfl⟩
  · intro data read k v token hk hw hv hlt
    subst hv
    rw [exec_tokenVerifyDone]
    cases hf : tokenFail token k s.dev with
    | some code => exact ⟨_, onTime_none (tokenVerifyOp_fails s.ctx hk hw hf), rfl, rfl, rfl, rfl, Dev.tokenFinal_tim code, Dev.tokenFinal_evt code⟩
    | none =>
      dsimp only
      by_cases hwait : le token.data 2 2 = 1 ∧ s.dev.ppsOk = true
      · simp only [if_pos hwait]
        exact ⟨_, onTime_none (tokenVerifyOp_waits s.ctx hk hw hf hwait), rfl, rfl, rfl, rfl, rfl⟩
      · have happ := tokenVerifyOp_applies s.ctx hk hw hf hwait
        simp only [if_neg hwait]
        by_cases hu : s.dev.tim.state = .unset
        · simp only [if_pos hu]
          by_cases hle : s.st.toNat ≤ le token.data 32 8
          · simp only [if_pos hle]
            have hjump := happ.trans (Dev.applyToken_jump s.ctx hlt hu hle)
            obtain ⟨-, -, -, -, -, hacq⟩ := Dev.jumpTo_spec s.dev s.ctx 1 (le token.data 32 8 + (s.st.toNat - k.goSt))
            rw [State.ctx_now] at hjump
            refine ⟨_, onTime_jump hjump (by omega) (by omega), rfl, rfl, rfl, ?_, ?_⟩
            · exact (BitVec.toNat_ofNat _ 64).trans (Nat.mod_eq_of_lt (by omega))
            · dsimp only
              rw [Dev.tokenFinal_tim]
              exact ⟨rfl, rfl, hacq hu⟩
          · simp only [if_neg hle]
            exact ⟨_, onTime_none (happ.trans (Dev.applyToken_early s.ctx hlt hu (by simpa using hle))), rfl, rfl, rfl, rfl, Dev.tokenFinal_tim 6⟩
        · simp only [if_neg hu]
          exact ⟨_, onTime_none (happ.trans (Dev.applyToken_slew s.ctx _ hlt hu)), rfl, rfl, rfl, rfl, Dev.tokenFinal_tim 2⟩
  · refine ⟨_, exec_tokenPpsTimeout s, .of_dev .., ?_⟩
    dsimp only
    rw [tokenPpsTimeoutOp_due s.ctx hk hw ht]
    exact ⟨Dev.tokenFinal_tim 10, Dev.tokenFinal_evt 10⟩

/-! ### Quorum sets and steps (R35 to R37, R40) -/

section
variable {d : Dev} (c : Ctx)

theorem Dev.applySet_forward {v : Nat} (h : c.now ≤ v) : d.applySet c v = d.jumpTo c 2 v := if_pos h
theorem Dev.applySet_back {v : Nat} (h : v < c.now) (hu : d.tim.state ≠ .unset) : d.applySet c v = (d.slewBy ((v : Int) - c.now), none) := by
  rw [Dev.applySet, if_neg (Nat.not_le.mpr h), if_neg hu]

variable {v : Word}

theorem timSetCtrl_noQuorum (hq : d.quorum Off.timSetCtrl v = false) : timSetCtrl v d = .viol := by
  simp [timSetCtrl, hq]
variable (hq : d.quorum Off.timSetCtrl v = true) (h0 : bit v 0 = true)
include hq h0
theorem timSetCtrl_tooLarge (hx : 2 ^ 61 ≤ d.reg64 Off.timSetValueLo) : timSetCtrl v d = .viol := by
  simp only [timSetCtrl, hq, h0, Bool.not_true, Bool.false_eq_true, if_false, if_pos hx]
theorem timSetCtrl_apply (h1 : bit v 1 = false) (hx : d.reg64 Off.timSetValueLo < 2 ^ 61) : timSetCtrl v d = .apply (d.reg64 Off.timSetValueLo) := by
  simp only [timSetCtrl, hq, h0, h1, Bool.not_true, Bool.false_eq_true, if_false, if_neg (Nat.not_le.mpr hx), Bool.false_and]
theorem timSetCtrl_wait (h1 : bit v 1 = true) (hp : d.ppsOk = true) (hx : d.reg64 Off.timSetValueLo < 2 ^ 61) :
    timSetCtrl v d = .wait (d.reg64 Off.timSetValueLo) := by
  simp only [timSetCtrl, hq, h0, h1, hp, Bool.not_true, Bool.false_eq_true, if_false, if_neg (Nat.not_le.mpr hx), Bool.and_self, if_true]
end

theorem exec_timSetApply (v : Word) (s : State) : exec (.timSetApply v) s = s.onTime (timSetApplyOp v) := rfl

section
variable {s : State} {v : Word} (hm : HostMay s true Off.timSetCtrl)
include hm

theorem timSetApplyOp_may : timSetApplyOp v s.ctx s.dev = timSetDo (Dev.ruleViolation s.ctx Off.timSetCtrl) v s.ctx s.dev := by
  rw [timSetApplyOp, hm.opened, hm.gate]
  rfl
theorem timSetApply_viol (h : timSetCtrl v s.dev = .viol) : exec (.timSetApply v) s = .next { s with dev := s.dev.ruleViolation s.ctx Off.timSetCtrl } :=
  onTime_none (by rw [timSetApplyOp_may hm, timSetDo, h])
theorem timSetApplyOp_wait {x : Nat} (h : timSetCtrl v s.dev = .wait x) :
    timSetApplyOp v s.ctx s.dev = ((s.dev.setReg Off.timSetCtrl (v &&& 3#32)).onTim (fun t => { t with setWait := some x }), none) := by
  rw [timSetApplyOp_may hm, timSetDo, h]
theorem timSetApplyOp_apply {x : Nat} (h : timSetCtrl v s.dev = .apply x) :
    timSetApplyOp v s.ctx s.dev = (s.dev.setReg Off.timSetCtrl (v &&& 3#32)).applySet s.ctx x := by
  rw [timSetApplyOp_may hm, timSetDo, h]
end

/-! ### The time fence and the reference settings (R32, R39, R43) -/

section
variable {d : Dev} (c : Ctx)

theorem timFenceW_start (h : d.tim.fenceBusy = false) : timFenceW c 1#32 d = .took (d.onTim (fun t => { t with fenceBusy := true })) := by
  have h0 : bit 1#32 0 = true := by decide
  simp only [timFenceW, h0, h, Bool.false_eq_true, if_true, if_false]
theorem timRefCfgW_reserved {v : Word} (h : fld v 3 2 = 3) : timRefCfgW c v d = .drop := if_pos h

/-- What a write of TIM_REF_CFG makes of the time base before a waiting token is ended. -/
def Dev.refCfg (c : Ctx) (v : Word) (d : Dev) : Dev :=
  let d1 := d.setReg Off.timRefCfg (v &&& 0x1F#32)
  let d2 := if fld v 3 2 != fld (d.reg Off.timRefCfg) 3 2 || fld v 3 2 != 0 then d1.onTim (fun t => { t with trefValid := false, trefSince := c.now }) else d1
  if bit v 0 then d2 else d2.onTim (fun t => { t with ppsValid := false })

theorem timRefCfgW_taken {v : Word} (h : fld v 3 2 ≠ 3) :
    timRefCfgW c v d = .took (if !bit v 0 && (d.tim.token.bind (fun k => k.wait)).isSome then (d.refCfg c v).tokenFinal 10 else d.refCfg c v) := if_neg h
theorem Dev.refCfg_spec (v : Word) : (d.refCfg c v).reg Off.timRefCfg = v &&& 0x1F#32 ∧ (d.refCfg c v).tim.state = d.tim.state
    ∧ (fld v 3 2 ≠ 0 → (d.refCfg c v).tim.trefValid = false) := by
  have hsel : fld v 3 2 ≠ 0 → (fld v 3 2 != fld (d.reg Off.timRefCfg) 3 2 || fld v 3 2 != 0) = true := fun h => by simp [h]
  unfold Dev.refCfg
  dsimp only
  refine ⟨?_, ?_, fun h => ?_⟩
  · split <;> split <;> simp
  · split <;> split <;> simp
  · rw [if_pos (hsel h)]
    split <;> rfl
/-- A token that ends leaves the settings. -/
theorem Dev.tokenFinal_refCfg (code : Nat) : (d.tokenFinal code).reg Off.timRefCfg = d.reg Off.timRefCfg ∧ (d.tokenFinal code).tim.state = d.tim.state
    ∧ (d.tokenFinal code).tim.trefValid = d.tim.trefValid := by
  rw [Dev.tokenFinal_tim]
  exact ⟨Dev.tokenFinal_reg code (by decide), rfl, rfl⟩
end

theorem exec_timFenceStart (s : State) : exec .timFenceStart s = .next { s with dev := s.dev.hostWrite s.ctx Off.timFence (timFenceW s.ctx 1#32) } := rfl
theorem exec_timRefCfgWrite (v : Word) (s : State) : exec (.timRefCfgWrite v) s = .next { s with dev := s.dev.hostWrite s.ctx Off.timRefCfg (timRefCfgW s.ctx v) } := rfl

/-- Settles O11: the write of TIM_SET_CTRL by what its rule makes of it, a forward value by `Dev.jumpTo_spec`. -/
theorem timeSets : Obligations.TimeSets := by
  unfold Obligations.TimeSets
  intro s
  refine ⟨fun v hm hq h0 h1 => ⟨fun hx hle => ?_, fun hx hlt hu => ?_, fun hx => ?_⟩, fun v hm hq h0 h1 hp hx => ?_, fun v hm hq => ?_, fun hm hf => ?_,
    fun v hm h3 => ?_, fun v hm h3 => ?_⟩
  · have happ := timSetApplyOp_apply hm (timSetCtrl_apply hq h0 h1 hx)
    rw [Dev.applySet_forward s.ctx hle] at happ
    obtain ⟨hv, hrem, hevt, -⟩ := Dev.jumpTo_spec (s.dev.setReg Off.timSetCtrl (v &&& 3#32)) s.ctx 2 (s.dev.reg64 Off.timSetValueLo)
    refine ⟨_, onTime_jump (happ.trans (Prod.ext rfl hv)) hle (by omega), ?_, rfl, rfl, rfl, hrem, hevt⟩
    exact (BitVec.toNat_ofNat _ 64).trans (Nat.mod_eq_of_lt (by omega))
  · have happ := timSetApplyOp_apply hm (timSetCtrl_apply hq h0 h1 hx)
    rw [Dev.applySet_back (d := s.dev.setReg Off.timSetCtrl (v &&& 3#32)) s.ctx hlt hu] at happ
    exact ⟨_, onTime_none happ, .of_dev .., rfl⟩
  · exact timSetApply_viol hm (timSetCtrl_tooLarge hq h0 hx)
  · exact ⟨_, onTime_none (timSetApplyOp_wait hm (timSetCtrl_wait hq h0 h1 hp hx)), .of_dev .., rfl⟩
  · exact timSetApply_viol hm (timSetCtrl_noQuorum hq)
  · rw [exec_timFenceStart, hostWrite_own hm rfl (timFenceW_start s.ctx hf)]
    rfl
  · obtain ⟨hreg, hstate, htref⟩ := Dev.refCfg_spec (d := s.dev) s.ctx v
    obtain ⟨hreg', hstate', htref'⟩ := Dev.tokenFinal_refCfg (d := s.dev.refCfg s.ctx v) 10
    refine ⟨_, exec_timRefCfgWrite v s, .of_dev .., ?_⟩
    dsimp only
    rw [hostWrite_own hm rfl (timRefCfgW_taken s.ctx h3)]
    split
    · exact ⟨hreg'.trans hreg, hstate'.trans hstate, fun h => htref'.trans (htref h)⟩
    · exact ⟨hreg, hstate, htref⟩
  · rw [exec_timRefCfgWrite, hostWrite_own_drop hm rfl (timRefCfgW_reserved s.ctx h3)]

end Sys2Proof.Machine

/-! Doorbells (R61): every row, for SQ_DB and CQ_DB. -/

namespace Sys2Proof.Machine

/-- What a doorbell write that R61 discards leaves: the rings stand, bit `b` of HIF_EVT is set, and the write is reported where
its row says so. -/
def DoorbellDiscarded (s : State) (o : Host.Outcome State Fault Refusal) (b : Nat) (rep : Bool) : Prop :=
  ∃ u, o = .next u ∧ DevOnly s u ∧ u.dev.hif.rings = s.dev.hif.rings ∧ bit (u.dev.reg Off.hifEvt) b = true
    ∧ (if rep then bit u.dev.acc.viol 0 = true else u.dev.acc = s.dev.acc)

/-- What a doorbell write leaves whose count is out of bounds: the ring in FAULT with the cause, its counts as they were. -/
def DoorbellFaulted (s : State) (sl rg : Nat) (o : Host.Outcome State Fault Refusal) (cause : Nat) : Prop :=
  ∃ u, o = .next u ∧ DevOnly s u ∧ (u.dev.ring sl rg).state = .fault ∧ (u.dev.ring sl rg).cause = cause
    ∧ (u.dev.ring sl rg).tail = (s.dev.ring sl rg).tail ∧ (u.dev.ring sl rg).consumed = (s.dev.ring sl rg).consumed
    ∧ bit (u.dev.reg Off.hifEvt) 0 = true

/-! ### The rows before the counts -/

section
variable (c : Ctx) (sl rg a : Nat) {bits : Nat} {al : Bool} (v : DWord) (f : Word → Dev → WOut) (d : Dev)

theorem Dev.doorbell_narrow (h : bits < 64 ∨ al = false) :
    d.doorbell c sl rg a bits al v f = .took ((d.hifEvent sl rg 3).ruleViolation c a) := if_pos h

section
variable (hb : 64 ≤ bits) (hal : al = true)
include hb hal

theorem Dev.doorbell_undefined (hr : (d.ring sl rg).state = .absent) :
    d.doorbell c sl rg a bits al v f = .took ((d.hifEvent sl rg 2).ruleViolation c a) := by
  simp [Dev.doorbell, Nat.not_lt.mpr hb, hal, hr]
theorem Dev.doorbell_stale (hr : (d.ring sl rg).state ≠ .absent) (hg : v.toNat / 2 ^ 32 % 65536 ≠ (d.ring sl rg).gen) :
    d.doorbell c sl rg a bits al v f = .took (d.hifEvent sl rg 1) := by
  simp only [Dev.doorbell, Nat.not_lt.mpr hb, hal, Bool.true_eq_false, or_self, if_false, if_neg hr, if_pos hg]
theorem Dev.doorbell_counts (hr : (d.ring sl rg).state ≠ .absent) (hg : v.toNat / 2 ^ 32 % 65536 = (d.ring sl rg).gen) :
    d.doorbell c sl rg a bits al v f = f (BitVec.ofNat 32 v.toNat) d := by
  simp only [Dev.doorbell, Nat.not_lt.mpr hb, hal, Bool.true_eq_false, or_self, if_false, if_neg hr, hg, ne_eq, not_true_eq_false]
end

/-- A report of a rule leaves HIF_EVT. -/
theorem Dev.ruleViolation_hifEvt : (d.ruleViolation c a).reg Off.hifEvt = d.reg Off.hifEvt :=
  Dev.violation_reg_ne d c _ _ _ _ _ (by decide) (by decide) (by decide) (by decide) (by decide)
end

section
variable {s : State} {sl rg a : Nat} (hm : HostMay s true a) (ha : fwServed a = false)
include hm ha

/-- A doorbell that is discarded with its event, and reported. -/
theorem doorbell_reported {f : Dev → WOut} {b : Nat} (hb : b < 32) (hf : f s.dev = .took ((s.dev.hifEvent sl rg b).ruleViolation s.ctx a)) :
    DoorbellDiscarded s (.next { s with dev := s.dev.hostWrite s.ctx a f }) b true := by
  refine ⟨_, rfl, .of_dev .., ?_⟩
  dsimp only
  rw [hostWrite_own hm ha hf, Dev.ruleViolation_rings, Dev.hifEvent_rings, Dev.ruleViolation_hifEvt]
  exact ⟨rfl, Dev.hifEvent_bit _ _ _ hb, Dev.ruleViolation_latched ..⟩

/-- The three rows of R61 that come before the counts. -/
theorem doorbell_discarded (bits : Nat) (al : Bool) (v : DWord) (f : Word → Dev → WOut) :
    let o := Host.Outcome.next { s with dev := s.dev.hostWrite s.ctx a (fun d => d.doorbell s.ctx sl rg a bits al v f) }
    (bits < 64 ∨ al = false → DoorbellDiscarded s o 3 true) ∧
    (64 ≤ bits → al = true → (s.dev.ring sl rg).state = .absent → DoorbellDiscarded s o 2 true) ∧
    (64 ≤ bits → al = true → (s.dev.ring sl rg).state ≠ .absent → v.toNat / 2 ^ 32 % 65536 ≠ (s.dev.ring sl rg).gen → DoorbellDiscarded s o 1 false) := by
  refine ⟨fun h => ?_, fun hb hal hr => ?_, fun hb hal hr hg => ?_⟩
  · exact doorbell_reported hm ha (by decide) (Dev.doorbell_narrow s.ctx sl rg a v f s.dev h)
  · exact doorbell_reported hm ha (by decide) (Dev.doorbell_undefined s.ctx sl rg a v f s.dev hb hal hr)
  · refine ⟨_, rfl, .of_dev .., ?_⟩
    dsimp only
    rw [hostWrite_own hm ha (Dev.doorbell_stale s.ctx sl rg a v f s.dev hb hal hr hg)]
    exact ⟨Dev.hifEvent_rings .., Dev.hifEvent_bit _ _ _ (by decide), Dev.hifEvent_acc ..⟩
end

/-! ### The counts -/

/-- The states in which a ring enters FAULT. -/
theorem Ring.posts_iff (r : Ring) : r.posts = true ↔ r.state = .active ∨ r.state = .held := by
  simp [Ring.posts]
theorem Ring.posts_false {r : Ring} (h : r.state = .parked ∨ r.state = .fault) : r.posts = false := by
  rcases h with h | h <;> simp [Ring.posts, h]

/-- A ring that enters FAULT: its cause, its counts kept, RING_FAULT in HIF_EVT (R67). -/
theorem Dev.ringFault_spec {d : Dev} (c : Ctx) (sl rg cause addr : Nat) (h : (d.ring sl rg).posts = true) :
    (d.ringFault c sl rg cause addr).ring sl rg = { d.ring sl rg with state := .fault, cause := cause, faultAddr := addr, fetched := [], hwbSince := if cause = 5 then none else some c.now }
      ∧ bit ((d.ringFault c sl rg cause addr).reg Off.hifEvt) 0 = true := by
  unfold Dev.ringFault
  rw [if_pos h]
  dsimp only
  constructor
  · rw [Dev.ring_congr ((Dev.record_rings ..).trans (Dev.hifEvent_rings ..))]
    exact Dev.ring_updRing _ _ _ _ (fun x h1 h2 => ⟨h1, h2⟩)
  · rw [Dev.record_reg_ne _ _ _ _ (by decide) (by decide)]
    exact Dev.hifEvent_bit _ _ _ (by decide)

section
variable {d : Dev} (c : Ctx) {sl rg : Nat} {t : Word}

theorem sqDb_records (h1 : ((d.ring sl rg).tail - (d.ring sl rg).accepted).toNat ≤ (t - (d.ring sl rg).accepted).toNat)
    (h2 : (t - (d.ring sl rg).accepted).toNat ≤ 2 ^ (d.ring sl rg).sqLog2) :
    sqDb c sl rg t d = .took (d.updRing sl rg (fun x => { x with tail := t })) := if_pos ⟨h1, h2⟩
theorem sqDb_outside (h : ¬(((d.ring sl rg).tail - (d.ring sl rg).accepted).toNat ≤ (t - (d.ring sl rg).accepted).toNat
    ∧ (t - (d.ring sl rg).accepted).toNat ≤ 2 ^ (d.ring sl rg).sqLog2)) :
    sqDb c sl rg t d = if (d.ring sl rg).posts then .took (d.ringFault c sl rg 1 0) else .drop := if_neg h
theorem cqDb_records (h : ((d.ring sl rg).posted - t).toNat ≤ ((d.ring sl rg).posted - (d.ring sl rg).consumed).toNat) :
    cqDb c sl rg t d = .took (d.updRing sl rg (fun x => { x with consumed := t })) := if_pos h
theorem cqDb_outside (h : ¬((d.ring sl rg).posted - t).toNat ≤ ((d.ring sl rg).posted - (d.ring sl rg).consumed).toNat) :
    cqDb c sl rg t d = if (d.ring sl rg).posts then .took (d.ringFault c sl rg 2 0) else .drop := if_neg h
end

section
variable {s : State} {sl rg a : Nat} (hm : HostMay s true a) (ha : fwServed a = false) {f : Dev → WOut}
include hm ha

/-- A count that is recorded: the ring has it, and no register changes. -/
theorem doorbell_recorded {g : Ring → Ring} (hf : f s.dev = .took (s.dev.updRing sl rg g)) (hg : ∀ x, (g x).slice = x.slice ∧ (g x).num = x.num) :
    ∃ u, Host.Outcome.next (φ := Fault) (ρ := Refusal) { s with dev := s.dev.hostWrite s.ctx a f } = .next u ∧ DevOnly s u
      ∧ u.dev.ring sl rg = g (s.dev.ring sl rg) ∧ u.dev.regs = s.dev.regs := by
  refine ⟨_, rfl, .of_dev .., ?_⟩
  dsimp only
  rw [hostWrite_own hm ha hf]
  exact ⟨Dev.ring_updRing _ _ _ _ (fun x h1 h2 => ⟨(hg x).1.trans h1, (hg x).2.trans h2⟩), rfl⟩

/-- A count out of bounds: the ring faults, where it is in a state that can. -/
theorem doorbell_outside {cause : Nat} (hf : f s.dev = if (s.dev.ring sl rg).posts then .took (s.dev.ringFault s.ctx sl rg cause 0) else .drop) :
    let o := Host.Outcome.next { s with dev := s.dev.hostWrite s.ctx a f }
    (((s.dev.ring sl rg).state = .active ∨ (s.dev.ring sl rg).state = .held) → DoorbellFaulted s sl rg o cause) ∧
    (((s.dev.ring sl rg).state = .parked ∨ (s.dev.ring sl rg).state = .fault) → o = .next s) := by
  refine ⟨fun h => ?_, fun h => ?_⟩
  · have hp := (Ring.posts_iff _).mpr h
    obtain ⟨hring, hevt⟩ := Dev.ringFault_spec (d := s.dev) s.ctx sl rg cause 0 hp
    refine ⟨_, rfl, .of_dev .., ?_⟩
    dsimp only
    rw [hostWrite_own hm ha (hf.trans (if_pos hp)), hring]
    exact ⟨rfl, rfl, rfl, rfl, hevt⟩
  · rw [Ring.posts_false h] at hf
    rw [hostWrite_own_drop hm ha hf]
end

/-! ### The two commands -/

theorem exec_sqDoorbell {sl rg : Nat} (bits : Nat) (al : Bool) (v : DWord) (s : State) (hs : sl < 4096) (hr : rg < 16) :
    let a := bar2 (sl * 0x1000 + 0x10 * rg)
    exec (.sqDoorbell sl rg bits al v) s = .next { s with dev := s.dev.hostWrite s.ctx a (fun d => d.doorbell s.ctx sl rg a bits al v (sqDb s.ctx sl rg)) } := by
  show execSqDoorbell sl rg bits al v s = _
  simp only [execSqDoorbell, State.onDev_eq, if_pos (And.intro hs hr)]
theorem exec_cqDoorbell {sl rg : Nat} (bits : Nat) (al : Bool) (v : DWord) (s : State) (hs : sl < 4096) (hr : rg < 16) :
    let a := bar2 (sl * 0x1000 + 0x10 * rg + 8)
    exec (.cqDoorbell sl rg bits al v) s = .next { s with dev := s.dev.hostWrite s.ctx a (fun d => d.doorbell s.ctx sl rg a bits al v (cqDb s.ctx sl rg)) } := by
  show execCqDoorbell sl rg bits al v s = _
  simp only [execCqDoorbell, State.onDev_eq, if_pos (And.intro hs hr)]

/-- Settles O12: the rows of R61 before the counts are those of `Dev.doorbell`, one lemma for both doorbells; then each judges its
own count. -/
theorem doorbells : Obligations.Doorbells := by
  unfold Obligations.Doorbells
  intro s sl rg bits al v hsl hrg
  rw [exec_sqDoorbell bits al v s hsl hrg, exec_cqDoorbell bits al v s hsl hrg]
  refine ⟨fun hm => ?_, fun hm => ?_⟩
  · obtain ⟨hnarrow, hundef, hstale⟩ := doorbell_discarded (sl := sl) (rg := rg) hm (fwServed_bar2 _) bits al v (sqDb s.ctx sl rg)
    refine ⟨hnarrow, hundef, hstale, fun hb hal hr hg => ⟨fun h1 h2 => ?_, fun h => ?_⟩⟩
    all_goals have hf := Dev.doorbell_counts s.ctx sl rg (bar2 (sl * 0x1000 + 0x10 * rg)) v (sqDb s.ctx sl rg) s.dev hb hal hr hg
    · exact doorbell_recorded hm (fwServed_bar2 _) (hf.trans (sqDb_records s.ctx h1 h2)) (fun _ => ⟨rfl, rfl⟩)
    · exact doorbell_outside hm (fwServed_bar2 _) (hf.trans (sqDb_outside s.ctx h))
  · obtain ⟨hnarrow, hundef, hstale⟩ := doorbell_discarded (sl := sl) (rg := rg) hm (fwServed_bar2 _) bits al v (cqDb s.ctx sl rg)
    refine ⟨hnarrow, hundef, hstale, fun hb hal hr hg => ⟨fun h1 => ?_, fun h => ?_⟩⟩
    all_goals have hf := Dev.doorbell_counts s.ctx sl rg (bar2 (sl * 0x1000 + 0x10 * rg + 8)) v (cqDb s.ctx sl rg) s.dev hb hal hr hg
    · exact doorbell_recorded hm (fwServed_bar2 _) (hf.trans (cqDb_records s.ctx h1)) (fun _ => ⟨rfl, rfl⟩)
    · exact doorbell_outside hm (fwServed_bar2 _) (hf.trans (cqDb_outside s.ctx h))

end Sys2Proof.Machine

/-! Ring registers (R59, R71 to R73, R641): the selector and its staging registers, HIF_RING_MOD, RING_STATUS. -/

namespace Sys2Proof.Machine

/-! ### HIF_RING_SEL loads the staging registers (R71) -/

section
variable (d : Dev) (r : Ring)

/-- The last three staging registers of a ring; those before them, one by one. -/
theorem Dev.loadStaging_last : ∃ e : Dev, (∀ o, o < Off.hifSqBaseLo → e.reg o = d.reg o) ∧ e.hif = d.hif ∧ d.loadStaging r =
    ((e.setReg Off.hifRingIrq r.irq).setReg Off.hifRingMod r.mod).setReg Off.hifRingPolicy r.policy := by
  have hw : ∀ w : Word, BitVec.ofNat 32 w.toNat = w := fun w => by simp
  simp only [Dev.loadStaging, List.foldl, hw]
  refine ⟨_, fun o ho => ?_, ?_, rfl⟩
  · have hne : ∀ x, Off.hifSqBaseLo ≤ x → o ≠ x := fun x hx => by omega
    iterate 7 rw [Dev.reg_setReg_ne _ _ (hne _ (by decide))]
  · rfl
theorem Dev.loadStaging_hif : (d.loadStaging r).hif = d.hif := by
  obtain ⟨e, -, he, h⟩ := d.loadStaging_last r
  rw [h]
  exact he
theorem Dev.loadStaging_below {o : Nat} (ho : o < Off.hifSqBaseLo) : (d.loadStaging r).reg o = d.reg o := by
  obtain ⟨e, he, -, h⟩ := d.loadStaging_last r
  have hne : ∀ x, Off.hifSqBaseLo ≤ x → o ≠ x := fun x hx => by omega
  rw [h, Dev.reg_setReg_ne _ _ (hne _ (by decide)), Dev.reg_setReg_ne _ _ (hne _ (by decide)), Dev.reg_setReg_ne _ _ (hne _ (by decide)), he o ho]
/-- The settings of the ring as the staging registers read after it. -/
theorem Dev.loadStaging_settings : (d.loadStaging r).reg Off.hifRingMod = r.mod ∧ (d.loadStaging r).reg Off.hifRingPolicy = r.policy
    ∧ (d.loadStaging r).reg Off.hifRingIrq = r.irq := by
  obtain ⟨e, -, -, h⟩ := d.loadStaging_last r
  rw [h]
  refine ⟨?_, Dev.reg_setReg .., ?_⟩
  · rw [Dev.reg_setReg_ne _ _ (by decide), Dev.reg_setReg]
  · rw [Dev.reg_setReg_ne _ _ (by decide), Dev.reg_setReg_ne _ _ (by decide), Dev.reg_setReg]
end

/-- The ring that a write of HIF_RING_SEL selects. -/
theorem Dev.ring_select (d : Dev) (v : Word) :
    (d.setReg Off.hifRingSel (v &&& 0x000F0FFF#32)).ring (d.setReg Off.hifRingSel (v &&& 0x000F0FFF#32)).selSlice
      (d.setReg Off.hifRingSel (v &&& 0x000F0FFF#32)).selRing = d.ring (fld v 11 0) (fld v 19 16) := by
  simp only [Dev.selSlice, Dev.selRing, Dev.reg_setReg]
  rw [fld_and_of_full v _ (by decide), fld_and_of_full v _ (by decide)]
  rfl

/-- A write of the selector: the selection is stored, the rings stand, and the staging registers are those of the ring named. -/
theorem ringSelW_took (v : Word) (d : Dev) : ∃ e, ringSelW v d = .took e ∧ e.hif = d.hif ∧ e.reg Off.hifRingSel = v &&& 0x000F0FFF#32 ∧
    ((d.ring (fld v 11 0) (fld v 19 16)).state = .absent → e = d.setReg Off.hifRingSel (v &&& 0x000F0FFF#32)) ∧
    ((d.ring (fld v 11 0) (fld v 19 16)).state ≠ .absent → (d.ring (fld v 11 0) (fld v 19 16)).needsSettings = false →
      e = (d.setReg Off.hifRingSel (v &&& 0x000F0FFF#32)).loadStaging (d.ring (fld v 11 0) (fld v 19 16))) := by
  unfold ringSelW
  dsimp only
  rw [Dev.ring_select]
  have hload : ∀ r, ((d.setReg Off.hifRingSel (v &&& 0x000F0FFF#32)).loadStaging r).hif = d.hif
      ∧ ((d.setReg Off.hifRingSel (v &&& 0x000F0FFF#32)).loadStaging r).reg Off.hifRingSel = v &&& 0x000F0FFF#32 :=
    fun r => ⟨Dev.loadStaging_hif .., (Dev.loadStaging_below _ _ (by decide)).trans (Dev.reg_setReg ..)⟩
  refine ⟨_, rfl, ?_⟩
  split
  · next h => exact ⟨rfl, Dev.reg_setReg .., fun _ => rfl, fun h' => absurd h h'⟩
  · next h =>
    split
    · next hn => exact ⟨(hload _).1, (hload _).2, fun h' => absurd h' h, fun _ h' => absurd (hn.symm.trans h') (by decide)⟩
    · exact ⟨(hload _).1, (hload _).2, fun h' => absurd h' h, fun _ _ => rfl⟩

/-! ### HIF_RING_MOD (R72) -/

/-- A change of a ring's settings is mirrored, with no event (R437): the rings and the registers stand. -/
theorem Dev.ringChanged_write (d : Dev) (c : Ctx) (s n : Nat) : (d.ringChanged c s n .write).hif = d.hif ∧ (d.ringChanged c s n .write).regs = d.regs := by
  have hs := d.sendRing_sends s n
  unfold Dev.ringChanged Dev.awaitAck
  split <;> exact ⟨hs.hif, hs.regs⟩

section
variable {d : Dev} (c : Ctx) (v : Word)

theorem stagingW_mod_absent (h : (d.ring d.selSlice d.selRing).state = .absent) :
    stagingW c Off.hifRingMod v d = .took (d.setReg Off.hifRingMod (v &&& 0x000103FF#32)) := by
  simp [stagingW, h, stagingMask, Off.hifRingMod, Off.hifRingSize, Off.hifRingIrq, Off.hifRingPolicy]

section
variable (h : (d.ring d.selSlice d.selRing).state ≠ .absent) (hn : (d.ring d.selSlice d.selRing).needsSettings = false)
include h hn

theorem stagingW_mod_taken
    (hi : irqBad (d.ring d.selSlice d.selRing).irq (v &&& 0x000103FF#32) (d.ring d.selSlice d.selRing).policy = false) :
    stagingW c Off.hifRingMod v d = .took (((d.setReg Off.hifRingMod (v &&& 0x000103FF#32)).updRing d.selSlice d.selRing
      (fun _ => { d.ring d.selSlice d.selRing with mod := v &&& 0x000103FF#32 })).ringChanged c d.selSlice d.selRing .write) := by
  simp [stagingW, h, hn, hi, stagingMask, Off.hifRingMod, Off.hifRingSize, Off.hifRingIrq, Off.hifRingPolicy]
theorem stagingW_mod_refused
    (hi : irqBad (d.ring d.selSlice d.selRing).irq (v &&& 0x000103FF#32) (d.ring d.selSlice d.selRing).policy = true) :
    stagingW c Off.hifRingMod v d = .viol := by
  simp [stagingW, h, hn, hi, stagingMask, Off.hifRingMod, Off.hifRingSize, Off.hifRingIrq, Off.hifRingPolicy]
end
end

/-! ### RING_STATUS (R59, R641) -/

/-- The status latch of a ring's word. -/
def Hif.latchStatus (a : Nat) (w : Word) (h : Hif) : Hif :=
  { h with statusLatch := (a, w) :: h.statusLatch.filter (fun (p : Nat × Word) => p.1 != a) }

section
variable (d : Dev) {sl rg : Nat} (hr : rg < 16)
include hr

/-- The lower half returns the accepted count, and latches the upper half. -/
theorem Dev.bar2Word_lower : d.bar2Word (sl * 0x1000 + 0x100 + 8 * rg) = (d.accShown (d.ring sl rg),
    { d with hif := d.hif.latchStatus (sl * 0x1000 + 0x100 + 8 * rg) (d.ring sl rg).statusHi }) := by
  have hpage : ¬ ((sl * 0x1000 + 0x100 + 8 * rg) % 0x1000 < 0x100 ∨ 0x180 ≤ (sl * 0x1000 + 0x100 + 8 * rg) % 0x1000) := by omega
  have hhalf : (sl * 0x1000 + 0x100 + 8 * rg) % 8 ≠ 4 := by omega
  have hslice : (sl * 0x1000 + 0x100 + 8 * rg) / 0x1000 = sl := by omega
  have hring : (sl * 0x1000 + 0x100 + 8 * rg) % 0x1000 / 8 - 32 = rg := by omega
  have haddr : (sl * 0x1000 + 0x100 + 8 * rg) / 8 * 8 = sl * 0x1000 + 0x100 + 8 * rg := by omega
  simp only [Dev.bar2Word, if_neg hpage, if_neg hhalf, hslice, hring, haddr]
  rfl

/-- The upper half returns what is latched. -/
theorem Dev.bar2Word_upper {w : Word} {h : Hif} (hd : d.hif = h.latchStatus (sl * 0x1000 + 0x100 + 8 * rg) w) :
    d.bar2Word (sl * 0x1000 + 0x100 + 8 * rg + 4) = (w, d) := by
  have hpage : ¬ ((sl * 0x1000 + 0x100 + 8 * rg + 4) % 0x1000 < 0x100 ∨ 0x180 ≤ (sl * 0x1000 + 0x100 + 8 * rg + 4) % 0x1000) := by omega
  have hhalf : (sl * 0x1000 + 0x100 + 8 * rg + 4) % 8 = 4 := by omega
  have haddr : (sl * 0x1000 + 0x100 + 8 * rg + 4) / 8 * 8 = sl * 0x1000 + 0x100 + 8 * rg := by omega
  simp only [Dev.bar2Word, if_neg hpage, if_pos hhalf, haddr, hd, Hif.latchStatus, List.find?_cons, BEq.rfl, Option.map_some, Option.getD_some]
end

theorem exec_ringStatusRead {sl rg : Nat} (upper : Bool) (s : State) (hs : sl < 4096) (hr : rg < 16) :
    let o := sl * 0x1000 + 0x100 + 8 * rg + (if upper then 4 else 0)
    exec (.ringStatusRead sl rg upper) s
      = .next { s with dev := s.dev.hostRead s.ctx (bar2 o) (fun d => (BitVec.ofNat 64 (d.bar2Word o).1.toNat, (d.bar2Word o).2)) } := by
  show execRingStatusRead sl rg upper s = _
  simp only [execRingStatusRead, State.onDev_eq, ringStatusReadOp, if_neg (show ¬ (4096 ≤ sl ∨ 16 ≤ rg) by omega)]

/-- A word as the host reads it. -/
theorem toNat_ofNat_word (w : Word) : (BitVec.ofNat 64 w.toNat).toNat = w.toNat := by
  rw [BitVec.toNat_ofNat, Nat.mod_eq_of_lt (by omega)]

/-- The device after a read of the lower half. -/
def Dev.statusRead (sl rg : Nat) (d : Dev) : Dev :=
  { d with hif := d.hif.latchStatus (sl * 0x1000 + 0x100 + 8 * rg) (d.ring sl rg).statusHi
           rdata := BitVec.ofNat 64 (d.accShown (d.ring sl rg)).toNat }

section
variable {s : State} {sl rg : Nat} (hs : sl < 4096) (hr : rg < 16)
include hs hr

theorem exec_ringStatusRead_lower (hm : HostMay s false (bar2 (sl * 0x1000 + 0x100 + 8 * rg))) :
    exec (.ringStatusRead sl rg false) s = .next { s with dev := s.dev.statusRead sl rg } := by
  refine (exec_ringStatusRead false s hs hr).trans ?_
  rw [if_neg Bool.false_ne_true, Nat.add_zero, hostRead_ret hm, Dev.bar2Word_lower s.dev hr]
  rfl

/-- A read of the upper half, with a status latched: that, and nothing else changes. -/
theorem exec_ringStatusRead_upper {w : Word} {h : Hif} (hm : HostMay s false (bar2 (sl * 0x1000 + 0x100 + 8 * rg + 4)))
    (hd : s.dev.hif = h.latchStatus (sl * 0x1000 + 0x100 + 8 * rg) w) :
    exec (.ringStatusRead sl rg true) s = .next { s with dev := { s.dev with rdata := BitVec.ofNat 64 w.toNat } } := by
  refine (exec_ringStatusRead true s hs hr).trans ?_
  rw [if_pos rfl, hostRead_ret hm, Dev.bar2Word_upper s.dev hr hd]
end

/-! ### The three clauses -/

theorem exec_ringSelect (v : Word) (s : State) :
    exec (.ringSelect v) s = .next { s with dev := s.dev.hostWrite s.ctx Off.hifRingSel (ringSelW v) } := rfl
theorem exec_ringSettingsWrite_mod (v : Word) (s : State) :
    exec (.ringSettingsWrite Off.hifRingMod v) s = .next { s with dev := s.dev.hostWrite s.ctx Off.hifRingMod (stagingW s.ctx Off.hifRingMod v) } := rfl

/-- Settles O15: the selector by `ringSelW_took`, HIF_RING_MOD by its three cases, RING_STATUS by what the lower half latches. -/
theorem ringRegisters : Obligations.RingRegisters := by
  unfold Obligations.RingRegisters
  intro s
  refine ⟨fun v hm => ?_, fun v hm => ⟨fun h => ?_, fun h hn hi => ?_, fun h hn hi => ?_⟩, fun sl rg hsl hrg hm hm4 => ?_⟩
  · obtain ⟨e, htook, hhif, hsel, habsent, hload⟩ := ringSelW_took v s.dev
    refine ⟨_, exec_ringSelect v s, .of_dev .., ?_⟩
    dsimp only
    rw [hostWrite_own hm rfl htook]
    refine ⟨hhif, hsel, fun h hn => ?_, fun h o ho => ?_⟩
    · rw [hload h hn]
      exact Dev.loadStaging_settings ..
    · rw [habsent h, Dev.reg_setReg_ne _ _ ho]
  · rw [exec_ringSettingsWrite_mod, hostWrite_own hm rfl (stagingW_mod_absent s.ctx v h)]
  · refine ⟨_, exec_ringSettingsWrite_mod v s, .of_dev .., ?_⟩
    dsimp only
    rw [hostWrite_own hm rfl (stagingW_mod_taken s.ctx v h hn hi)]
    obtain ⟨hhif, hregs⟩ := Dev.ringChanged_write ((s.dev.setReg Off.hifRingMod (v &&& 0x000103FF#32)).updRing s.dev.selSlice s.dev.selRing
      (fun _ => { s.dev.ring s.dev.selSlice s.dev.selRing with mod := v &&& 0x000103FF#32 })) s.ctx s.dev.selSlice s.dev.selRing
    refine ⟨?_, ?_⟩
    · rw [Dev.ring_congr (congrArg Hif.rings hhif)]
      exact Dev.ring_updRing _ _ _ _ (fun _ _ _ => s.dev.ring_slice_num ..)
    · rw [Dev.reg, hregs]
      exact RegFile.get_set ..
  · refine ⟨_, exec_ringSettingsWrite_mod v s, .of_dev .., ?_⟩
    dsimp only
    rw [hostWrite_own_viol hm rfl (stagingW_mod_refused s.ctx v h hn hi)]
    exact ⟨Dev.ruleViolation_rings .., Dev.violation_reg_ne _ _ _ _ _ _ _ (by decide) (by decide) (by decide) (by decide) (by decide),
      Dev.ruleViolation_latched ..⟩
  · refine ⟨_, exec_ringStatusRead_lower hsl hrg hm, .of_dev .., toNat_ofNat_word _, rfl, ?_⟩
    have hm4' : HostMay { s with dev := s.dev.statusRead sl rg } false (bar2 (sl * 0x1000 + 0x100 + 8 * rg) + 4) := ⟨hm4.opened, hm4.gate⟩
    exact ⟨_, exec_ringStatusRead_upper hsl hrg hm4' rfl, ⟨rfl, rfl, rfl, rfl⟩, toNat_ofNat_word _, rfl⟩

end Sys2Proof.Machine

/-! Ring commands (R67, R69, R70, R73, R74, R437): CREATE, ENABLE, HOLD and DESTROY of the ring that HIF_RING_SEL names. -/

namespace Sys2Proof.Machine

/-! ### Generations (R70) -/

theorem nextGen_ne_zero (g : Nat) : nextGen g ≠ 0 := by
  unfold nextGen
  split <;> omega
theorem nextGen_of_lt {g : Nat} (h : g < 0xFFFF) : nextGen g = g + 1 := if_neg (by omega)

/-! ### What each command does (`Dev.ringDo`) -/

section
variable {d : Dev} (c : Ctx)

/-- A ring leaves ACTIVE: HELD, with nothing fetched and no stall; whether a change waits for the standby does not change. -/
theorem Dev.ringHold_spec (s n : Nat) :
    (d.ringHold s n).ring s n = { d.ring s n with state := .held, fetched := [], ddtStall := false, flowStall := false }
      ∧ (d.ringHold s n).syncMirror = d.syncMirror := by
  have hring := d.ring_updRing s n (fun x => { x with state := .held, fetched := [], ddtStall := false, flowStall := false }) (fun x h1 h2 => ⟨h1, h2⟩)
  unfold Dev.ringHold
  dsimp only
  split
  · refine ⟨(Dev.ring_congr (Dev.evtBit_rings ..) ..).trans hring, ?_⟩
    simp only [Dev.syncMirror, Dev.pairMode, Dev.evtBit_fab, Dev.evtBit_jnl, Dev.evtBit_reg_ne _ _ (by decide : Off.fabPairCtrl ≠ Off.dspEvt)]
    rfl
  · exact ⟨hring, rfl⟩

section
variable (hp : d.fab.pair.role.parks = false)
include hp

theorem Dev.ringDo_create (h : d.createFail (d.ring d.selSlice d.selRing) = none) :
    d.ringDo c 1 = (some 0, d.updRing d.selSlice d.selRing
      (fun x => { d.takeStaged x.absent with state := .held, gen := nextGen (d.ring d.selSlice d.selRing).gen })) := by
  simp [Dev.ringDo, hp, h]
theorem Dev.ringDo_enable (h : (d.ring d.selSlice d.selRing).state = .held) :
    d.ringDo c 2 = (some 0, d.updRing d.selSlice d.selRing (fun x => { x with state := .active })) := by
  simp [Dev.ringDo, hp, h]
theorem Dev.ringDo_hold (h : (d.ring d.selSlice d.selRing).state = .active) : d.ringDo c 3 = (some 0, d.ringHold d.selSlice d.selRing) := by
  simp [Dev.ringDo, hp, h]
theorem Dev.ringDo_destroy (h : (d.ring d.selSlice d.selRing).state = .held) (ho : d.entriesOwed d.selSlice d.selRing = 0)
    (hc : (d.ring d.selSlice d.selRing).consumed = (d.ring d.selSlice d.selRing).posted) :
    d.ringDo c 4 = (some 0, d.updRing d.selSlice d.selRing Ring.absent) := by
  simp [Dev.ringDo, hp, h, ho, hc]
/-- No command but CREATE does anything with a ring that is ABSENT. -/
theorem Dev.ringDo_absent (h : (d.ring d.selSlice d.selRing).state = .absent) {cmd : Nat} (hcmd : cmd = 2 ∨ cmd = 3 ∨ cmd = 4) :
    d.ringDo c cmd = (some 2, d) := by
  rcases hcmd with rfl | rfl | rfl <;> simp [Dev.ringDo, hp, h]
/-- ENABLE and HOLD resume a ring that is PARKED or in FAULT. -/
theorem Dev.ringDo_resume (h : (d.ring d.selSlice d.selRing).state = .parked ∨ (d.ring d.selSlice d.selRing).state = .fault) :
    d.ringDo c 2 = d.ringResume c (d.ring d.selSlice d.selRing) .active ∧ d.ringDo c 3 = d.ringResume c (d.ring d.selSlice d.selRing) .held := by
  rcases h with h | h <;> simp [Dev.ringDo, hp, h]
end

/-- A command in progress. -/
def Dev.withRingJob (j : RingJob) (d : Dev) : Dev := { d with hif := { d.hif with cmdBusy := some j } }

/-- ENABLE or HOLD in progress on a ring whose settings stand: as many entries are to be posted as the ring owes. -/
def Dev.resumeJob (d : Dev) (s n : Nat) (dest : RingState) : RingJob :=
  { slice := s, num := n, dest := dest, left := (d.jnl.owed.filter (fun o => o.slice == s && o.ring == n)).length, took := false }

/-- A ring whose settings stand is resumed: HELD, with no fault and a head write-back due, the command in progress. -/
theorem Dev.ringResume_eq (s n : Nat) (dest : RingState) (hn : (d.ring s n).needsSettings = false) :
    d.ringResume c (d.ring s n) dest = (none,
      (d.updRing s n (fun _ => { d.ring s n with state := .held, cause := 0, hwbSince := some c.now })).withRingJob
        (d.resumeJob s n dest)) := by
  obtain ⟨hs, hk⟩ := d.ring_slice_num s n
  simp only [Dev.ringResume, hn, hs, hk, Bool.false_eq_true, if_false]
  rfl
theorem Dev.ring_withRingJob (j : RingJob) (s n : Nat) : (d.withRingJob j).ring s n = d.ring s n := Dev.ring_congr rfl s n
end

/-! ### The write of HIF_RING_CMD (R74, R90) -/

/-- How a ring command completes: with RESULT DONE, the ring `x` and its generation, and with its event unless the standby's
acknowledgement is awaited. -/
def RingCmdDone (s : State) (o : Host.Outcome State Fault Refusal) (x : Ring) : Prop :=
  ∃ u, o = .next u ∧ DevOnly s u ∧ u.dev.ring s.dev.selSlice s.dev.selRing = x ∧ u.dev.hif.cmdResult = 0 ∧ u.dev.hif.cmdGen = x.gen
    ∧ (s.dev.syncMirror = false → bit (u.dev.reg Off.hifEvt) 4 = true)

/-- The state after a permitted write of a command. -/
def State.ringCmd (s : State) (cmd : Nat) : State := { s with dev := s.dev.hostWrite s.ctx Off.hifRingCmd (ringCmdW s.ctx cmd) }

theorem State.ringCmd_devOnly (s : State) (cmd : Nat) : DevOnly s (s.ringCmd cmd) := .of_dev ..

theorem exec_ringCreate (s : State) : exec .ringCreate s = .next (s.ringCmd 1) := rfl
theorem exec_ringEnable (s : State) : exec .ringEnable s = .next (s.ringCmd 2) := rfl
theorem exec_ringHold (s : State) : exec .ringHold s = .next (s.ringCmd 3) := rfl
theorem exec_ringDestroy (s : State) : exec .ringDestroy s = .next (s.ringCmd 4) := rfl

section
variable {s : State} {cmd : Nat} (hm : HostMay s true Off.hifRingCmd)
include hm

/-- A command while one is in progress is discarded and reported. -/
theorem ringCmd_busy (h : s.dev.hif.cmdBusy.isSome = true) : s.ringCmd cmd = { s with dev := s.dev.ruleViolation s.ctx Off.hifRingCmd } := by
  unfold State.ringCmd
  rw [hostWrite_own_viol hm rfl (by simp [ringCmdW, h])]

section
variable (hbusy : s.dev.hif.cmdBusy = none) (hchg : s.dev.changing MirrorOf.isRing = false) {e : Dev}
include hbusy hchg

theorem ringCmd_ended {res : Nat} (hdo : s.dev.ringDo s.ctx cmd = (some res, e)) :
    (s.ringCmd cmd).dev = e.ringCmdEnd s.ctx s.dev.selSlice s.dev.selRing res := by
  unfold State.ringCmd
  exact hostWrite_own hm rfl (by simp [ringCmdW, hbusy, hchg, hdo])
theorem ringCmd_started (hdo : s.dev.ringDo s.ctx cmd = (none, e)) : (s.ringCmd cmd).dev = e := by
  unfold State.ringCmd
  exact hostWrite_own hm rfl (by simp [ringCmdW, hbusy, hchg, hdo])

/-- A command that takes effect at once. -/
theorem ringCmd_done {x : Ring} (hdo : s.dev.ringDo s.ctx cmd = (some 0, e)) (hring : e.ring s.dev.selSlice s.dev.selRing = x)
    (hsync : e.syncMirror = s.dev.syncMirror) : RingCmdDone s (.next (s.ringCmd cmd)) x := by
  obtain ⟨hrings, hres, hgen, -, hevt⟩ := e.ringCmdEnd_spec s.ctx s.dev.selSlice s.dev.selRing 0
  refine ⟨_, rfl, s.ringCmd_devOnly cmd, ?_⟩
  rw [ringCmd_ended hm hbusy hchg hdo]
  exact ⟨(Dev.ring_congr hrings ..).trans hring, hres, by rw [hgen, hring], fun h => hevt (.inl (hsync.trans h))⟩

/-- A command that BAD_STATE refuses: no ring changes. -/
theorem ringCmd_badState (hdo : s.dev.ringDo s.ctx cmd = (some 2, s.dev)) :
    ∃ u, Host.Outcome.next (φ := Fault) (ρ := Refusal) (s.ringCmd cmd) = .next u ∧ DevOnly s u ∧ u.dev.hif.rings = s.dev.hif.rings ∧ u.dev.hif.cmdResult = 2 := by
  obtain ⟨hrings, hres, -⟩ := s.dev.ringCmdEnd_spec s.ctx s.dev.selSlice s.dev.selRing 2
  refine ⟨_, rfl, s.ringCmd_devOnly cmd, ?_⟩
  rw [ringCmd_ended hm hbusy hchg hdo]
  exact ⟨hrings, hres⟩

/-- A ring that is resumed: the command is in progress. -/
theorem ringCmd_going {dest : RingState} (hdo : s.dev.ringDo s.ctx cmd = s.dev.ringResume s.ctx (s.dev.ring s.dev.selSlice s.dev.selRing) dest)
    (hn : (s.dev.ring s.dev.selSlice s.dev.selRing).needsSettings = false) :
    ∃ u j, Host.Outcome.next (φ := Fault) (ρ := Refusal) (s.ringCmd cmd) = .next u ∧ DevOnly s u
      ∧ u.dev.ring s.dev.selSlice s.dev.selRing = { s.dev.ring s.dev.selSlice s.dev.selRing with state := .held, cause := 0, hwbSince := some s.st.toNat }
      ∧ u.dev.hif.cmdBusy = some j ∧ j.slice = s.dev.selSlice ∧ j.num = s.dev.selRing ∧ j.dest = dest := by
  refine ⟨_, s.dev.resumeJob s.dev.selSlice s.dev.selRing dest, rfl, s.ringCmd_devOnly cmd, ?_⟩
  rw [ringCmd_started hm hbusy hchg (hdo.trans (Dev.ringResume_eq s.ctx s.dev.selSlice s.dev.selRing dest hn)), Dev.ring_withRingJob]
  exact ⟨Dev.ring_updRing _ _ _ _ (fun _ _ _ => s.dev.ring_slice_num ..), rfl, rfl, rfl, rfl⟩
end
end

/-- Settles O13: each command by its row of `Dev.ringDo`, and its completion by `ringCmd_done`. -/
theorem ringCommands : Obligations.RingCommands := by
  unfold Obligations.RingCommands
  intro s hm
  rw [exec_ringCreate, exec_ringEnable, exec_ringHold, exec_ringDestroy]
  refine ⟨fun hbusy hchg hp => ⟨fun h => ⟨?_, rfl, rfl, rfl, rfl, nextGen_ne_zero _, rfl, nextGen_of_lt⟩, fun h => ?_, fun h => ?_, fun h hn => ?_,
    fun h ho hc => ?_, fun h c hc => ?_⟩, fun hbusy c hc => ?_⟩
  · exact ringCmd_done hm hbusy hchg (Dev.ringDo_create s.ctx hp h) (Dev.ring_updRing _ _ _ _ (fun _ h1 h2 => ⟨h1, h2⟩)) rfl
  · exact ringCmd_done hm hbusy hchg (Dev.ringDo_enable s.ctx hp h) (Dev.ring_updRing _ _ _ _ (fun _ h1 h2 => ⟨h1, h2⟩)) rfl
  · obtain ⟨hring, hsync⟩ := Dev.ringHold_spec (d := s.dev) s.dev.selSlice s.dev.selRing
    exact ringCmd_done hm hbusy hchg (Dev.ringDo_hold s.ctx hp h) hring hsync
  · obtain ⟨henable, hhold⟩ := Dev.ringDo_resume s.ctx hp h
    exact ⟨ringCmd_going hm hbusy hchg henable hn, ringCmd_going hm hbusy hchg hhold hn⟩
  · obtain ⟨hs, hn⟩ := s.dev.ring_slice_num s.dev.selSlice s.dev.selRing
    refine ringCmd_done hm hbusy hchg (Dev.ringDo_destroy s.ctx hp h ho hc) ?_ rfl
    rw [Dev.ring_updRing _ _ _ Ring.absent (fun _ h1 h2 => ⟨h1, h2⟩), Ring.absent, hs, hn]
  · simp only [List.mem_cons, List.not_mem_nil, or_false] at hc
    rcases hc with rfl | rfl | rfl
    · exact ringCmd_badState hm hbusy hchg (Dev.ringDo_absent s.ctx hp h (.inl rfl))
    · exact ringCmd_badState hm hbusy hchg (Dev.ringDo_absent s.ctx hp h (.inr (.inl rfl)))
    · exact ringCmd_badState hm hbusy hchg (Dev.ringDo_absent s.ctx hp h (.inr (.inr rfl)))
  · simp only [List.mem_cons, List.not_mem_nil, or_false] at hc
    rcases hc with rfl | rfl | rfl | rfl <;> exact congrArg _ (ringCmd_busy hm hbusy)

end Sys2Proof.Machine

/-! Control descriptors (R77, R79, R80, R82, R124, R163): barriers, releases and CLOSE complete their descriptors. -/

namespace Sys2Proof.Machine

/-! ### The delay list is sorted (R163) -/

theorem mem_insertDelay (e x : DelayEnt) : ∀ l : List DelayEnt, x ∈ insertDelay e l ↔ x = e ∨ x ∈ l
  | [] => by simp [insertDelay]
  | f :: t => by
    unfold insertDelay
    split
    · exact List.mem_cons
    · rw [List.mem_cons, mem_insertDelay e x t, List.mem_cons]
      exact or_left_comm

theorem insertDelay_pairwise (e : DelayEnt) : ∀ l : List DelayEnt, l.Pairwise (fun a b => a.due ≤ b.due) →
    (insertDelay e l).Pairwise (fun a b => a.due ≤ b.due)
  | [], _ => by simp [insertDelay]
  | f :: t, h => by
    obtain ⟨hf, ht⟩ := List.pairwise_cons.mp h
    unfold insertDelay
    split
    · next hlt =>
      have hef : e.due ≤ f.due := by omega
      refine List.pairwise_cons.mpr ⟨fun x hx => ?_, h⟩
      rcases List.mem_cons.mp hx with rfl | hx
      · exact hef
      · exact hef.trans (hf x hx)
    · next hge =>
      refine List.pairwise_cons.mpr ⟨fun x hx => ?_, insertDelay_pairwise e t ht⟩
      rcases (mem_insertDelay e x t).mp hx with rfl | hx
      · omega
      · exact hf x hx

theorem Dev.delayList_pairwise (d : Dev) : d.delayList.Pairwise (fun a b => a.due ≤ b.due) := by
  unfold Dev.delayList
  induction d.dsp.items.flatMap d.itemDelays ++ d.timerDelays with
  | nil => exact .nil
  | cons e t ih => exact insertDelay_pairwise e _ ih

/-- The entry that fires next is due, and no entry that could fire is due before it. -/
theorem Dev.nextDue_first {d : Dev} {c : Ctx} {e : DelayEnt} (h : d.nextDue c = some e) :
    e.due ≤ c.now / 1000 * 1000 ∧ ∀ x ∈ d.delayList, tickDue c.now x.due = true → d.delayAble x = true → e.due ≤ x.due := by
  obtain ⟨hdue, before, after, hlist, hbefore⟩ := List.find?_eq_some_iff_append.mp h
  rw [Bool.and_eq_true] at hdue
  refine ⟨(tickDue_iff _ _).mp hdue.1, fun x hx hxd hxa => ?_⟩
  have hsorted := d.delayList_pairwise
  rw [hlist] at hx hsorted
  rcases List.mem_append.mp hx with hx | hx
  · exact absurd (hbefore x hx) (by simp [hxd, hxa])
  · rcases List.mem_cons.mp hx with rfl | hx
    · exact Nat.le_refl _
    · exact (List.pairwise_cons.mp (List.pairwise_append.mp hsorted).2.1).1 x hx

/-! ### RING_BARRIER and RELEASE_AT (R77, R79) -/

section
variable {d : Dev} (c : Ctx) {slot : Nat} {i : Item} (hi : d.item? slot = some i)
include hi

/-- A slot whose item is the part's own, with its record. -/
theorem Dev.owns_of_item {r : Rec} (hr : d.rec? slot = some r) (hs : i.spillFrom = none) : d.Owns slot := by
  refine ⟨by rw [hr]; rfl, fun j hj => ?_⟩
  rw [hi] at hj
  cases hj
  exact hs

section
variable {r : Rec} (hr : d.rec? slot = some r)
include hr

theorem ringBarrierResolveOp_clear (hw : i.waitingControl = true) (hop : Desc.op i.desc = 1) (ha : d.acked slot = true) (hh : d.hostSide = true)
    (hahead : d.aheadWaits i.slice i.ring r.pos = false) : ringBarrierResolveOp slot c d = d.toOwed c slot 0 0 0 := by
  simp [ringBarrierResolveOp, hi, hr, hw, hop, ha, hh, hahead]
theorem ringBarrierResolveOp_ahead (hahead : d.aheadWaits i.slice i.ring r.pos = true) : ringBarrierResolveOp slot c d = d := by
  simp [ringBarrierResolveOp, hi, hr, hahead]
end

theorem releaseAtFireOp_fires {t : Nat} (ht : i.relAt = some t) (hw : i.waitingControl = true) (hop : Desc.op i.desc = 3) (ha : d.acked slot = true)
    (hh : d.hostSide = true) (hf : d.mayFire c .release slot = true) :
    releaseAtFireOp slot c d = ((d.delayFire c t).updItem slot (fun x => { x with fired := true })).toOwed c slot 0 0 0 := by
  simp [releaseAtFireOp, hi, ht, hw, hop, ha, hh, hf]
theorem releaseAtFireOp_waits (hf : d.mayFire c .release slot = false) : releaseAtFireOp slot c d = d := by
  unfold releaseAtFireOp
  rw [hi]
  dsimp only
  split
  · rfl
  · rw [hf, Bool.and_false]
    rfl

/-- An entry that fires leaves the slot the part's own. -/
theorem Dev.owns_fired {r : Rec} (hr : d.rec? slot = some r) (hs : i.spillFrom = none) (t : Nat) :
    ((d.delayFire c t).updItem slot (fun x => { x with fired := true })).Owns slot :=
  Dev.owns_of_item (Dev.item_updItem (d.delayFire c t) _ hi (fun _ h => h)) hr hs
end

/-- An entry that is not the next to fire, or that the tick has no room for. -/
theorem Dev.mayFire_false_of_next {d : Dev} {c : Ctx} {u : DelayUse} {n : Nat} (h : ∀ e, d.nextDue c = some e → e.use = u → e.n ≠ n) :
    d.mayFire c u n = false := by
  rw [Bool.eq_false_iff, ne_eq, Dev.mayFire_iff]
  rintro ⟨⟨e, he, hu, hn⟩, -⟩
  exact h e he hu hn
theorem Dev.mayFire_false_of_room {d : Dev} {c : Ctx} {u : DelayUse} {n : Nat} (h : d.fireRoom c = false) : d.mayFire c u n = false := by
  rw [Dev.mayFire, h, Bool.and_false]

/-! ### Slice barriers (R80, R82) -/

/-- The unresolved barrier of an ID, marked as resolved. -/
def Dev.resolved (sl id : Nat) (d : Dev) : Dev :=
  { d with hif := { d.hif with
      barriers := updWhere (fun (b : Barrier) => b.slice == sl && b.id == id && !b.resolved) (fun b => { b with resolved := true }) d.hif.barriers } }
/-- A barrier taken off the list. -/
def Dev.withoutBarrier (b : Barrier) (d : Dev) : Dev := { d with hif := { d.hif with barriers := d.hif.barriers.erase b } }
/-- Several slots to OWED with one status. -/
def Dev.oweAll (c : Ctx) (st sub : Nat) (ks : List Nat) (d : Dev) : Dev := ks.foldl (fun a k => a.toOwed c k st sub 0) d

section
variable {d : Dev} (c : Ctx)

theorem Dev.oweAll_barriers (st sub : Nat) (ks : List Nat) (d : Dev) : (d.oweAll c st sub ks).hif.barriers = d.hif.barriers :=
  foldl_keep (fun x : Dev => x.hif.barriers) _ (fun a k => a.toOwed_barriers c k st sub 0) ks d
/-- Every slot of the list that is the part's own is completed with the status. -/
theorem Dev.oweAll_ended (st sub : Nat) {ks : List Nat} {k : Nat} (hk : k ∈ ks) (h : d.Owns k) : (d.oweAll c st sub ks).Ended k st sub :=
  ((Dev.toOwed_fold c st sub 0 ks d k).1 hk h).1

/-- A barrier that resolves leaves none unresolved of its ID, whatever of the list is dropped after it. -/
theorem Dev.openBarrier_resolved {e : Dev} {sl id : Nat} (h : e.hif.barriers = (d.resolved sl id).hif.barriers) :
    e.pruneBarriers.openBarrier sl id = none := by
  refine List.find?_eq_none.mpr fun b hb => ?_
  have hmem : b ∈ e.hif.barriers := List.mem_of_mem_filter hb
  rw [h] at hmem
  obtain ⟨x, -, rfl⟩ := List.mem_map.mp hmem
  split
  · simp
  · assumption

variable {sl id : Nat} {b : Barrier} (hb : d.openBarrier sl id = some b) (hh : d.hostSide = true)
include hb hh

theorem sliceBarrierResolveOp_complete (ha : b.arrived = true)
    (hc : ∀ k ∈ d.barrierSlots b, ∀ r, d.rec? k = some r → d.aheadWaits sl r.ring r.pos = false) :
    sliceBarrierResolveOp sl id c d = ((d.resolved sl id).oweAll c 0 0 (d.barrierSlots b)).pruneBarriers := by
  unfold sliceBarrierResolveOp
  rw [hb]
  dsimp only
  rw [ha, hh, if_pos]
  · rfl
  · rw [Bool.and_self, Bool.true_and, List.all_eq_true]
    intro k hk
    cases hr : d.rec? k with
    | none => rfl
    | some r => simp [hc k hk r hr]
theorem sliceBarrierDissolveOp_late (ha : b.arrived = false) (hl : d.barrierLate c b = true) (hq : d.squashing b.slice = none) :
    sliceBarrierDissolveOp sl id c d = (d.withoutBarrier b).oweAll c 1 1 (d.barrierSlots b) := by
  simp [sliceBarrierDissolveOp, hb, hh, ha, hl, Dev.dissolve, hq, Dev.withoutBarrier, Dev.oweAll]
end

/-! ### CLOSE (R124) -/

/-- Recovery ends, and is reported. -/
def Dev.recoveryClosed (d : Dev) : Dev := ({ d with jnl := { d.jnl with recoverOpen := false } }).evtBit Off.jnlEvt 4

theorem recoverCloseW_eq (c : Ctx) (d : Dev) : recoverCloseW c d
    = .took (d.oweAll c 1 0 ((d.jnl.recs.filter (fun r => r.st == .awaiting)).map (fun r => r.slot))).recoveryClosed := rfl

theorem Dev.recoveryClosed_spec (d : Dev) : d.recoveryClosed.jnl.recoverOpen = false ∧ bit (d.recoveryClosed.reg Off.jnlEvt) 4 = true
    ∧ ∀ k, Dev.SameSlot k d d.recoveryClosed := by
  unfold Dev.recoveryClosed
  refine ⟨?_, ?_, fun k => .of_eq k ?_ ?_⟩
  · rw [Dev.evtBit_jnl]
  · rw [Dev.evtBit_reg]
    simp [bit]
  · rw [Dev.evtBit_jnl]
  · rw [Dev.evtBit_dsp]

/-- A slot that some record names has a record. -/
theorem Dev.rec_isSome {d : Dev} {r : Rec} (h : r ∈ d.jnl.recs) : (d.rec? r.slot).isSome = true :=
  List.find?_isSome.mpr ⟨r, h, BEq.rfl⟩

/-! ### The five commands -/

theorem exec_ringBarrierResolve (slot : Nat) (s : State) : exec (.ringBarrierResolve slot) s = .next { s with dev := ringBarrierResolveOp slot s.ctx s.dev } := rfl
theorem exec_releaseAtFire (slot : Nat) (s : State) : exec (.releaseAtFire slot) s = .next { s with dev := releaseAtFireOp slot s.ctx s.dev } := rfl
theorem exec_sliceBarrierResolve (sl id : Nat) (s : State) :
    exec (.sliceBarrierResolve sl id) s = .next { s with dev := sliceBarrierResolveOp sl id s.ctx s.dev } := rfl
theorem exec_sliceBarrierDissolve (sl id : Nat) (s : State) :
    exec (.sliceBarrierDissolve sl id) s = .next { s with dev := sliceBarrierDissolveOp sl id s.ctx s.dev } := rfl
theorem exec_recoverClose (s : State) :
    exec .recoverClose s = .next { s with dev := s.dev.hostWrite s.ctx Off.jnlRecoverCtrl (recoverCloseW s.ctx) } := rfl

/-- Settles O17: each command by its rule, what it completes by `Dev.toOwed_closed` and `Dev.toOwed_fold`. -/
theorem controlRows : Obligations.ControlRows := by
  unfold Obligations.ControlRows
  intro s hh
  refine ⟨fun slot i r hi hr hw hs ha => ⟨fun hop hahead => ?_, fun _ hahead => ?_, fun hop ht => ⟨fun e he hu hn hroom => ?_, fun hnext => ?_, fun hroom => ?_⟩⟩,
    fun sl id b hb hown => ⟨fun harr hclear => ?_, fun harr hlate hsq => ?_⟩, fun hm => ?_⟩
  · rw [exec_ringBarrierResolve, ringBarrierResolveOp_clear s.ctx hi hr hw hop ha hh hahead]
    exact ⟨⟨_, rfl, .of_dev .., (Dev.toOwed_closed (Dev.owns_of_item hi hr hs) ..).1⟩, rfl⟩
  · rw [exec_ringBarrierResolve, ringBarrierResolveOp_ahead s.ctx hi hr hahead]
  · obtain ⟨t, ht⟩ := Option.isSome_iff_exists.mp ht
    have hfire := (Dev.mayFire_iff s.ctx .release slot s.dev).mpr ⟨⟨e, he, hu, hn⟩, hroom⟩
    have hfirst := Dev.nextDue_first he
    rw [State.ctx_now] at hfirst
    refine ⟨⟨_, exec_releaseAtFire slot s, .of_dev .., ?_⟩, hfirst⟩
    dsimp only
    rw [releaseAtFireOp_fires s.ctx hi ht hw hop ha hh hfire]
    exact (Dev.toOwed_closed (Dev.owns_fired s.ctx hi hr hs t) ..).1
  · rw [exec_releaseAtFire, releaseAtFireOp_waits s.ctx hi (Dev.mayFire_false_of_next hnext)]
  · rw [exec_releaseAtFire, releaseAtFireOp_waits s.ctx hi (Dev.mayFire_false_of_room hroom)]
  · have hahead : ∀ k ∈ s.dev.barrierSlots b, ∀ r, s.dev.rec? k = some r → s.dev.aheadWaits sl r.ring r.pos = false := by
      intro k hk r hr
      have h := List.all_eq_true.mp hclear k hk
      simpa [hr] using h
    refine ⟨_, exec_sliceBarrierResolve sl id s, .of_dev .., ?_⟩
    dsimp only
    rw [sliceBarrierResolveOp_complete s.ctx hb hh harr hahead]
    refine ⟨fun k hk => ?_, Dev.openBarrier_resolved (Dev.oweAll_barriers ..)⟩
    have hk' : (s.dev.resolved sl id).Owns k := (Dev.SameSlot.of_eq k rfl rfl).owns (hown k hk)
    exact (Dev.SameSlot.of_eq k rfl rfl).ended (Dev.oweAll_ended s.ctx 0 0 hk hk')
  · refine ⟨_, exec_sliceBarrierDissolve sl id s, .of_dev .., ?_⟩
    dsimp only
    rw [sliceBarrierDissolveOp_late s.ctx hb hh harr hlate hsq]
    refine ⟨fun k hk => ?_, Dev.oweAll_barriers ..⟩
    exact Dev.oweAll_ended s.ctx 1 1 hk ((Dev.SameSlot.of_eq k rfl rfl).owns (hown k hk))
  · refine ⟨_, exec_recoverClose s, .of_dev .., ?_⟩
    dsimp only
    rw [hostWrite_own hm rfl (recoverCloseW_eq s.ctx s.dev)]
    obtain ⟨hopen, hevt, hsame⟩ := Dev.recoveryClosed_spec (s.dev.oweAll s.ctx 1 0 ((s.dev.jnl.recs.filter (fun r => r.st == .awaiting)).map (fun r => r.slot)))
    refine ⟨hopen, hevt, ?_⟩
    rintro k ⟨r, hr, rfl, hst⟩ hown
    refine (hsame r.slot).ended (Dev.oweAll_ended s.ctx 1 0 ?_ ⟨Dev.rec_isSome hr, hown⟩)
    exact List.mem_map.mpr ⟨r, List.mem_filter.mpr ⟨hr, by rw [hst]; rfl⟩, rfl⟩

end Sys2Proof.Machine

/-! Masks and staged input (R45, R52, R87, R237, R240, R241, R251, R267): the seeds of a mask generator, the fetch of a long input,
staging errors. -/

namespace Sys2Proof.Machine

/-! ### A seed in a mask generator (R237, R240) -/

theorem runLen_append (l : List MaskRun) (r : MaskRun) : runLen (l ++ [r]) = runLen l + r.left := by
  simp [runLen]

/-- What a seed tops the reserve up with. -/
theorem Grove.topUp_reserve (s : Bytes) {x : Grove} (h : x.reserve ≤ 4096) :
    runLen (if 4096 - x.reserve = 0 then x.hold else x.hold ++ [({ seed := s, left := 2 ^ 20 } : MaskRun).upto (4096 - x.reserve)]) = 4096 := by
  unfold Grove.reserve at h ⊢
  split
  · omega
  · rw [runLen_append]
    dsimp only [MaskRun.upto]
    omega

/-- A generator with blocks left of its current seed, and a next seed or more than 2^18 blocks, settles as it is, RUNNING. -/
theorem Grove.settle_running {x : Grove} (h0 : x.remain ≠ 0) (h : x.next ≠ 0 ∨ 2 ^ 18 < x.remain) (hm : x.mgen = .running ∨ x.mgen = .reseedPending) :
    x.settle = { x with mgen := .running } := by
  have hno : ¬ (x.next = 0 ∧ x.remain ≤ 2 ^ 18) := by omega
  unfold Grove.settle
  rw [if_neg h0]
  rcases hm with hm | hm <;> simp only [hm, if_neg hno]

/-- A seed's 2^20 blocks: the reserve is topped up to 4,096, the rest is held, and the generator runs. -/
theorem Grove.seed_spec (s : Bytes) {x : Grove} (hm : x.mgen ≠ .failed) (hn : x.next = 0) (hr : x.reserve ≤ 4096) :
    (x.seed s).reserve = 4096 ∧ (x.seed s).reseeds = x.reseeds + 1 ∧ (x.seed s).remain + (x.seed s).next + 4096 = x.remain + x.reserve + 2 ^ 20
      ∧ (x.seed s).mgen = .running ∧ (if x.remain = 0 then (x.seed s).cur.seed else (x.seed s).nxt.seed) = s := by
  have htop := Grove.topUp_reserve s hr
  have hgen : (if x.mgen == .exhausted then MgenState.running else x.mgen) = .running
      ∨ (if x.mgen == .exhausted then MgenState.running else x.mgen) = .reseedPending := by
    cases hx : x.mgen <;> simp_all
  unfold Grove.seed
  extract_lets top run g1
  have hrem : g1.remain = x.remain := rfl
  have hnext : g1.next = 0 := hn
  have hleft : (run.past top).left = 2 ^ 20 - top := rfl
  have hbig : 2 ^ 18 < 2 ^ 20 - top := by omega
  by_cases h0 : x.remain = 0
  · rw [if_pos (hrem.trans h0), if_pos h0]
    have hcur : Grove.remain { g1 with cur := run.past top } = 2 ^ 20 - top := hleft
    rw [Grove.settle_running (by omega) (.inr (by omega)) hgen]
    refine ⟨htop, rfl, ?_, rfl, rfl⟩
    show (run.past top).left + g1.next + 4096 = _
    omega
  · rw [if_neg (hrem ▸ h0), if_neg h0]
    have hnxt : Grove.next { g1 with nxt := run.past top } = 2 ^ 20 - top := hleft
    rw [Grove.settle_running (x := { g1 with nxt := run.past top }) (hrem ▸ h0) (.inl (by omega)) hgen]
    refine ⟨htop, rfl, ?_, rfl, rfl⟩
    show g1.remain + (run.past top).left + 4096 = _
    omega

/-! ### Seeds that arrive and run out (R237, R241) -/

/-- The grove that the list holds for a number. -/
theorem Dev.grove_of_find {d : Dev} {g : Nat} {x : Grove} (h : d.lan.groves.find? (fun x => x.num == g) = some x) : d.grove g = x := by
  rw [Dev.grove, h]
  rfl
theorem Dev.grove_congr {d e : Dev} (h : e.lan.groves = d.lan.groves) (g : Nat) : e.grove g = d.grove g := by
  rw [Dev.grove, h]
  rfl

theorem Dev.tryPreempt_lan (c : Ctx) (g : Nat) (d : Dev) : (d.tryPreempt c g).lan = d.lan := by
  unfold Dev.tryPreempt
  dsimp only
  split
  · rfl
  · split
    · split <;> rfl
    · rfl

theorem Grove.seed_num (s : Bytes) (x : Grove) : (x.seed s).num = x.num := by
  have hsettle : ∀ y : Grove, y.settle.num = y.num := by
    intro y
    unfold Grove.settle
    dsimp only
    split <;> split <;> rfl
  unfold Grove.seed
  dsimp only
  rw [hsettle]
  exact (apply_ite Grove.num ..).trans (ite_self _)

/-- What a seed makes of a grove that may ask for one. -/
theorem maskSeedOp_grove (c : Ctx) {d : Dev} {g : Nat} {x : Grove} (hg : g < 12) (hx : d.lan.groves.find? (fun x => x.num == g) = some x)
    (hs : x.state ≠ .gated) (hm : x.mgen ≠ .failed) (hn : x.next = 0) (hr : x.remain ≤ 2 ^ 18) (hd : (d.drbg g).serves = true) :
    (maskSeedOp g c d).grove g = x.seed ((d.request c g 48 []).1.bytes 48) := by
  unfold maskSeedOp
  dsimp only
  rw [Dev.grove_of_find hx, if_pos (by simp [hg, hs, hm, hn, hd]; exact hr), Dev.grove_congr (congrArg Lan.groves (Dev.tryPreempt_lan ..))]
  exact Dev.grove_updGrove _ _ (by rw [Dev.request_2_lan]; exact hx) (fun y hy => (Grove.seed_num _ y).trans hy)

theorem Dev.unbind_groves_regs (c : Ctx) (k : Nat) (d : Dev) : (d.unbind c k).lan.groves = d.lan.groves ∧ (d.unbind c k).regs = d.regs := by
  unfold Dev.unbind
  dsimp only
  split <;> exact ⟨rfl, rfl⟩
theorem Dev.mirrorRec_lan_regs (k : Nat) (d : Dev) : (d.mirrorRec k).lan = d.lan ∧ (d.mirrorRec k).regs = d.regs := by
  unfold Dev.mirrorRec
  split
  · exact ⟨Dev.sendPeer_lan .., Dev.sendPeer_regs ..⟩
  · exact ⟨rfl, rfl⟩
/-- An item that goes back leaves the groves and the registers. -/
theorem Dev.goBack_groves_regs (c : Ctx) (k : Nat) (p : Bool) (d : Dev) : (d.goBack c k p).lan.groves = d.lan.groves ∧ (d.goBack c k p).regs = d.regs := by
  unfold Dev.goBack
  dsimp only
  rw [(Dev.mirrorRec_lan_regs ..).1, (Dev.mirrorRec_lan_regs ..).2]
  split <;> exact Dev.unbind_groves_regs c k d
theorem Dev.unplace_groves_regs (c : Ctx) (g : Nat) (p : Item → Bool) (d : Dev) :
    (d.unplace c g p).lan.groves = d.lan.groves ∧ (d.unplace c g p).regs = d.regs := by
  unfold Dev.unplace
  constructor
  · refine foldl_keep (fun x : Dev => x.lan.groves) _ (fun a i => ?_) _ d
    exact (a.goBack_groves_regs c i.slot true).1
  · refine foldl_keep Dev.regs _ (fun a i => ?_) _ d
    exact (a.goBack_groves_regs c i.slot true).2

/-- A generator whose seeds are used up. -/
theorem maskExhaustedOp_spec (c : Ctx) {d : Dev} {g : Nat} {x : Grove} (hg : g < 12) (hx : d.lan.groves.find? (fun x => x.num == g) = some x)
    (hs : x.state ≠ .gated) (hm : x.mgen = .running ∨ x.mgen = .reseedPending) (hn : x.next = 0) (hr : x.remain = 0) :
    (maskExhaustedOp g c d).grove g = { x with mgen := .exhausted, mgenIn := false } ∧ bit ((maskExhaustedOp g c d).reg Off.lanEvt) 5 = true := by
  have hcond : (decide (g < 12) && x.state != .gated && (x.mgen == .running || x.mgen == .reseedPending) && d.seedUsedUp g) = true := by
    simp [Dev.seedUsedUp, Dev.grove_of_find hx, hg, hs, hm, hn, hr]
  unfold maskExhaustedOp
  dsimp only
  rw [Dev.grove_of_find hx, if_pos hcond]
  constructor
  · rw [Dev.grove_congr (Dev.unplace_groves_regs ..).1, Dev.grove_congr (congrArg Lan.groves (Dev.evtBit_lan ..))]
    exact Dev.grove_updGrove _ _ hx (fun _ h => h)
  · rw [Dev.reg, (Dev.unplace_groves_regs ..).2]
    exact (congrArg (bit · 5) (Dev.evtBit_reg ..)).trans (by simp [bit])

/-! ### What was sent stays sent -/

section
variable {t : Tx}

theorem Dev.sendFrame_sent (f : Frame) {d : Dev} (h : t ∈ d.tx) : t ∈ (d.sendFrame f).tx := List.mem_cons_of_mem _ h
theorem Dev.floodOut_sent (skip : Option Nat) (f : Frame) {d : Dev} (h : t ∈ d.tx) : t ∈ (d.floodOut skip f).tx := by
  unfold Dev.floodOut
  refine List.foldlRecOn (motive := fun e : Dev => t ∈ e.tx) _ _ h (fun e he n _ => ?_)
  split
  · exact Dev.sendFrame_sent _ he
  · exact he
theorem Dev.originate_sent (p : Option Nat) (n k : Nat) (s : Option Session) (b : Bytes) {d : Dev} (h : t ∈ d.tx) : t ∈ (d.originate p n k s b).tx := by
  have hflood : ∀ f : Frame, t ∈ (d.nextFlood.2.floodOut none f).tx := fun f => Dev.floodOut_sent none f (d := d.nextFlood.2) h
  unfold Dev.originate
  extract_lets seq f shut g d1
  have h1 : t ∈ d1.tx := by
    unfold d1
    split
    · exact Dev.sendFrame_sent _ h
    · exact hflood _
  cases s with
  | none => exact h1
  | some x => exact h1
theorem Dev.sendSealed_sent (p : Option Nat) (n k : Nat) (b : Bytes) {d : Dev} (h : t ∈ d.tx) : t ∈ (d.sendSealed p n k b).tx := by
  unfold Dev.sendSealed
  refine List.foldlRecOn (motive := fun e : Dev => t ∈ e.tx) _ _ h (fun e he x _ => ?_)
  cases e.session? n with
  | none => exact he
  | some s => exact Dev.originate_sent p n k (some s) x he
theorem Dev.sendPeer_sent (n k m : Nat) (p : Bytes) {d : Dev} (h : t ∈ d.tx) : t ∈ (d.sendPeer n k m p).tx := by
  unfold Dev.sendPeer
  dsimp only
  split_ifs
  · exact h
  · exact Dev.originate_sent _ _ _ _ _ h
  · exact Dev.sendSealed_sent _ _ _ _ h
  · exact h
  · exact h
end

/-! ### The fetch of a long input (R45, R52, R87, R267) -/

/-- A staged item that is spilled is sent to its peer: it stays the item of its slot, staged. -/
theorem Dev.spillSend_spec (c : Ctx) {d : Dev} {slot : Nat} {i : Item} (hi : d.item? slot = some i) (hs : i.staged = true) (hp : i.spill.isSome = true) :
    ∃ j, (d.spillSend c slot).item? slot = some j ∧ j.staged = true ∧ j.input = i.input ∧ (d.spillSend c slot).regs = d.regs
      ∧ ∀ t ∈ d.tx, t ∈ (d.spillSend c slot).tx := by
  obtain ⟨p, hp⟩ := Option.isSome_iff_exists.mp hp
  unfold Dev.spillSend
  simp only [hi, hp, hs, if_true]
  generalize List.flatMap _ _ ++ _ ++ _ = msg
  have hitem : (d.sendPeer p.1 4 1 msg).item? slot = some i := by rw [Dev.item?, Dev.sendPeer_dsp]; exact hi
  exact ⟨_, Dev.item_updItem _ _ hitem (fun _ h => h), hs, rfl, Dev.sendPeer_regs .., fun t h => Dev.sendPeer_sent _ _ _ _ h⟩

/-- The item's input, staged. -/
def Dev.stageInput (slot : Nat) (b : Bytes) (d : Dev) : Dev := d.updItem slot (fun x => { x with staged := true, input := b })

/-- What the fetch of an item's long input asks for (R45). -/
def Dev.inputFetch (d : Dev) (i : Item) : Tx := .fetch (d.tagOf i.slice) (BitVec.ofNat 64 (Desc.inPtr i.desc)) (Desc.inLen i.desc)

/-- A long input of the part's own that may be fetched now: the item is PLACED, or spilled. -/
structure Dev.Fetchable (d : Dev) (slot : Nat) (i : Item) : Prop where
  item   : d.item? slot = some i
  staged : i.staged = false
  long   : 256 < Desc.inLen i.desc
  on     : d.dispatchOn = true
  mark   : i.mark = none
  own    : i.spillFrom = none
  place  : i.ds = .placed ∨ (i.ds = .running ∧ i.spill.isSome = true)

section
variable (c : Ctx) {d : Dev} {slot : Nat} {i : Item} {rd : DmaRead} (h : d.Fetchable slot i)
include h

theorem Dev.Fetchable.longInputOp_eq : longInputOp slot rd c d =
    if rd.refused then (d.emit (d.inputFetch i)).finishNow c slot 0x30 1
    else if rd.failed ∨ rd.data.length < Desc.inLen i.desc then (d.emit (d.inputFetch i)).finishNow c slot 0x10 2
    else
      let d1 := (d.emit (d.inputFetch i)).stageInput slot (rd.data.take (Desc.inLen i.desc))
      if i.ds = .placed then (d1.pumpKeys c i.grove).tryPreempt c i.grove else d1.spillSend c slot := by
  obtain ⟨hi, hs, hl, ho, hm, hw, hp⟩ := h
  have hcond : (!i.staged && decide (256 < Desc.inLen i.desc) && d.dispatchOn && i.mark.isNone && i.spillFrom.isNone
      && (i.ds == .placed || (i.ds == .running && i.spill.isSome))) = true := by
    rcases hp with hp | ⟨hp, hsp⟩
    · simp [hs, hl, ho, hm, hw, hp]
    · simp [hs, hl, ho, hm, hw, hp, hsp]
  unfold longInputOp
  rw [hi]
  dsimp only
  rw [if_pos hcond]
  rfl

theorem Dev.Fetchable.refused (hr : rd.refused = true) : longInputOp slot rd c d = (d.emit (d.inputFetch i)).finishNow c slot 0x30 1 := by
  rw [h.longInputOp_eq, if_pos hr]
theorem Dev.Fetchable.short (hr : rd.refused = false) (hs : rd.failed = true ∨ rd.data.length < Desc.inLen i.desc) :
    longInputOp slot rd c d = (d.emit (d.inputFetch i)).finishNow c slot 0x10 2 := by
  rw [h.longInputOp_eq, if_neg (by simp [hr]), if_pos hs]

section
variable (hr : rd.refused = false) (hf : rd.failed = false) (hl : Desc.inLen i.desc ≤ rd.data.length)
include hr hf hl

theorem Dev.Fetchable.placed (hp : i.ds = .placed) : longInputOp slot rd c d =
    (((d.emit (d.inputFetch i)).stageInput slot (rd.data.take (Desc.inLen i.desc))).pumpKeys c i.grove).tryPreempt c i.grove := by
  rw [h.longInputOp_eq, if_neg (by simp [hr]), if_neg (by simp [hf, hl])]
  exact if_pos hp
theorem Dev.Fetchable.spilled (hp : i.ds = .running) : longInputOp slot rd c d =
    ((d.emit (d.inputFetch i)).stageInput slot (rd.data.take (Desc.inLen i.desc))).spillSend c slot := by
  rw [h.longInputOp_eq, if_neg (by simp [hr]), if_neg (by simp [hf, hl])]
  exact if_neg (by simp [hp])

/-- The input of a spilled item: staged, the fetch on record, no register changed. -/
theorem Dev.Fetchable.spilled_spec (hp : i.ds = .running) : ∃ j, (longInputOp slot rd c d).item? slot = some j ∧ j.staged = true
    ∧ j.input = rd.data.take (Desc.inLen i.desc) ∧ d.inputFetch i ∈ (longInputOp slot rd c d).tx ∧ (longInputOp slot rd c d).regs = d.regs := by
  have hspill : i.spill.isSome = true := by
    rcases h.place with hx | hx
    · rw [hp] at hx; cases hx
    · exact hx.2
  have hitem := Dev.item_updItem (d.emit (d.inputFetch i)) (fun x => { x with staged := true, input := rd.data.take (Desc.inLen i.desc) }) h.item (fun _ hx => hx)
  obtain ⟨j, hj, hst, hin, hregs, hsent⟩ := Dev.spillSend_spec c (d := (d.emit (d.inputFetch i)).stageInput slot (rd.data.take (Desc.inLen i.desc))) hitem rfl hspill
  rw [h.spilled c hr hf hl hp]
  exact ⟨j, hj, hst, hin, hsent _ List.mem_cons_self, hregs⟩
end

/-- An item that is completed after its fetch. -/
theorem Dev.Fetchable.ended (hh : d.flowHeld i = false) (ho : d.Owns slot) (st sub : Nat) :
    ((d.emit (d.inputFetch i)).finishNow c slot st sub).Ended slot st sub := by
  refine Dev.finishNow_ended (d := d.emit (d.inputFetch i)) h.item ?_ hh ((Dev.SameSlot.of_eq slot rfl rfl).owns ho) c st sub
  rcases h.place with hp | ⟨hp, -⟩ <;> simp [hp]
end

/-! ### Staging errors (R251) -/

/-- The item of a slot after it went back. -/
theorem Dev.item_goBack (c : Ctx) (p : Bool) {d : Dev} {slot : Nat} {i : Item} (hi : d.item? slot = some i) :
    (d.goBack c slot p).item? slot = some (i.back p) := by
  have hitem : (d.unbind c slot).item? slot = some i := by rw [Dev.item?, Dev.unbind_items]; exact hi
  have hback := Dev.item_updItem _ (Item.back p) hitem (fun _ h => h)
  unfold Dev.goBack
  dsimp only
  rw [Dev.item?, Dev.mirrorRec_dsp]
  split <;> exact hback

section
variable (c : Ctx) {d : Dev} {slot : Nat} {i : Item} (hi : d.item? slot = some i) (hs : i.staged = true) (hb : i.readback = false) (hsp : i.spill = none)
    (hds : i.ds = .placed ∨ i.ds = .running ∨ i.ds = .suspended)
include hi hs hb hsp hds

theorem stagingEccOp_eq : stagingEccOp slot c d = if i.eccOnce then d.finishNow c slot 0x40 2 else
    (d.goBack c slot false).updItem slot (fun x => { x with eccOnce := true, staged := decide (Desc.inLen x.desc ≤ 256) || x.spillFrom.isSome }) := by
  unfold stagingEccOp
  rw [hi]
  dsimp only
  rw [if_neg]
  rcases hds with hds | hds | hds <;> simp [hs, hb, hsp, hds]

/-- The first error takes the item back to PLACED, its restarts kept and a long input of its own to be fetched again. -/
theorem stagingEccOp_first (he : i.eccOnce = false) : ∃ j, (stagingEccOp slot c d).item? slot = some j ∧ j.ds = .placed ∧ j.eccOnce = true
    ∧ j.restarts = i.restarts ∧ j.twin = none ∧ (256 < Desc.inLen i.desc → i.spillFrom = none → j.staged = false) := by
  rw [stagingEccOp_eq c hi hs hb hsp hds, if_neg (by simp [he])]
  refine ⟨_, Dev.item_updItem _ _ (Dev.item_goBack c false hi) (fun _ h => h), rfl, rfl, rfl, rfl, fun hl ho => ?_⟩
  simp [Item.back, hl, ho]
/-- The second completes it. -/
theorem stagingEccOp_second (he : i.eccOnce = true) (hh : d.flowHeld i = false) (ho : d.Owns slot) : (stagingEccOp slot c d).Ended slot 0x40 2 := by
  rw [stagingEccOp_eq c hi hs hb hsp hds, if_pos he]
  refine Dev.finishNow_ended hi ?_ hh ho c 0x40 2
  rcases hds with hds | hds | hds <;> simp [hds]
end

/-! ### The four commands -/

theorem exec_maskSeedArrival (g : Nat) (s : State) : exec (.maskSeedArrival g) s = .next { s with dev := maskSeedOp g s.ctx s.dev } := rfl
theorem exec_maskGenExhausted (g : Nat) (s : State) : exec (.maskGenExhausted g) s = .next { s with dev := maskExhaustedOp g s.ctx s.dev } := rfl
theorem exec_longInputFetch (slot : Nat) (rd : DmaRead) (s : State) : exec (.longInputFetch slot rd) s = .next { s with dev := longInputOp slot rd s.ctx s.dev } := rfl
theorem exec_stagingEccError (slot : Nat) (s : State) : exec (.stagingEccError slot) s = .next { s with dev := stagingEccOp slot s.ctx s.dev } := rfl

/-- Settles O25: a seed by `Grove.seed_spec`, the fetch by the cases of `Dev.Fetchable`, a staging error by whether it is the item's first. -/
theorem masksAndStaging : Obligations.MasksAndStaging := by
  unfold Obligations.MasksAndStaging
  intro s
  refine ⟨fun g x hg hx hst hm hn hr hres hd => ?_, fun g x hg hx hst hm hn hr => ?_, fun slot i rd hi hs hl hon hmk hsf hp hh hrec hown => ?_,
    fun slot i hi hs hb hsp hds => ⟨fun he => ?_, fun he hh hrec hown => ?_⟩⟩
  · refine ⟨_, exec_maskSeedArrival g s, .of_dev .., ?_⟩
    dsimp only
    rw [maskSeedOp_grove s.ctx hg hx hst hm hn hr hd]
    exact Grove.seed_spec _ hm hn hres
  · refine ⟨_, exec_maskGenExhausted g s, .of_dev .., ?_⟩
    dsimp only
    obtain ⟨hgrove, hevt⟩ := maskExhaustedOp_spec s.ctx hg hx hst hm hn hr
    rw [hgrove]
    exact ⟨rfl, rfl, hevt⟩
  · have hfetch : s.dev.Fetchable slot i := ⟨hi, hs, hl, hon, hmk, hsf, hp⟩
    refine ⟨fun hr => ?_, fun hr hshort => ?_, fun hr hf hlen hrun => ?_, fun hr hf hlen hpl _ _ => ?_⟩
    · refine ⟨_, exec_longInputFetch slot rd s, .of_dev .., ?_⟩
      dsimp only
      rw [hfetch.refused s.ctx hr]
      exact ⟨rfl, hfetch.ended s.ctx hh ⟨hrec, hown⟩ 0x30 1⟩
    · refine ⟨_, exec_longInputFetch slot rd s, .of_dev .., ?_⟩
      dsimp only
      rw [hfetch.short s.ctx hr hshort]
      exact ⟨rfl, hfetch.ended s.ctx hh ⟨hrec, hown⟩ 0x10 2⟩
    · obtain ⟨j, hj, hspec⟩ := hfetch.spilled_spec s.ctx hr hf hlen hrun
      exact ⟨_, j, exec_longInputFetch slot rd s, .of_dev .., hj, hspec⟩
    · exact ⟨_, exec_longInputFetch slot rd s, .of_dev .., hfetch.placed s.ctx hr hf hlen hpl⟩
  · obtain ⟨j, hj, hspec⟩ := stagingEccOp_first s.ctx hi hs hb hsp hds he
    exact ⟨_, j, exec_stagingEccError slot s, .of_dev .., hj, hspec⟩
  · exact ⟨_, exec_stagingEccError slot s, .of_dev .., stagingEccOp_second s.ctx hi hs hb hsp hds he hh ⟨hrec, hown⟩⟩

end Sys2Proof.Machine

/-! A record that reaches OWED (R56, R57, R98, R138, R152). -/

namespace Sys2Proof.Machine

section
variable {d : Dev} {slot : Nat} (c : Ctx) (st sub n : Nat)

/-! ### What the units and the ring see of it -/

theorem Twin.lanes_running (f : Bool → Lane → Lane) (t : Twin) : (t.lanes f).running = t.running := rfl
theorem Twin.letGo_running (masks : List MaskRun) (t : Twin) : (t.letGo slot masks).running ≠ some slot := by
  unfold Twin.letGo
  rw [Twin.lanes_running]
  split
  · simp
  · assumption
/-- A slot that is unbound is on no twin. -/
theorem Dev.unbind_twins (d : Dev) : ∀ t ∈ (d.unbind c slot).lan.twins, t.running ≠ some slot := by
  have hmap : (d.unbind c slot).lan.twins = d.lan.twins.map (Twin.letGo slot ((d.item? slot).elim [] (fun i => i.masks))) := by
    unfold Dev.unbind
    dsimp only
    split <;> rfl
  rw [hmap]
  intro t ht
  obtain ⟨x, -, rfl⟩ := List.mem_map.mp ht
  exact Twin.letGo_running _ x
theorem Dev.mirrorRec_lan (k : Nat) (d : Dev) : (d.mirrorRec k).lan = d.lan := (Dev.mirrorRec_lan_regs k d).1
theorem Dev.countStatus_lan (d : Dev) : (d.countStatus st sub).lan = d.lan := by
  unfold Dev.countStatus
  (repeat' split) <;> simp
theorem Dev.flowPrune_lan (f : Option (Nat × Nat)) (d : Dev) : (d.flowPrune f).lan = d.lan := by
  unfold Dev.flowPrune
  split <;> [rfl; (split <;> rfl)]
theorem Dev.owe_lan (r : Rec) (d : Dev) : (d.owe c slot r st sub n).lan = (d.unbind c slot).lan := by
  unfold Dev.owe
  dsimp only
  rw [Dev.mirrorRec_lan, Dev.countStatus_lan, Dev.flowPrune_lan]
  rfl
theorem Dev.owe_rings (r : Rec) (d : Dev) : (d.owe c slot r st sub n).hif.rings = d.hif.rings := by
  unfold Dev.owe
  dsimp only
  rw [Dev.mirrorRec_hif, Dev.countStatus_rings, Dev.flowPrune_hif]
  simp only [Dev.updItem_hif, Dev.updDdt_hif, Dev.updRec_hif, Dev.unbind_hif]
/-- One entry joins the end of what is owed. -/
theorem Dev.owe_owed (r : Rec) (d : Dev) :
    ∃ o, (d.owe c slot r st sub n).jnl.owed = d.jnl.owed ++ [o] ∧ o.slot = slot ∧ o.slice = r.slice ∧ o.ring = r.ring := by
  unfold Dev.owe
  dsimp only
  rw [Dev.mirrorRec_jnl, Dev.countStatus_jnl, Dev.flowPrune_jnl]
  simp only [Dev.updItem_jnl, Dev.updDdt_jnl, Dev.updRec, Dev.unbind_jnl]
  exact ⟨_, rfl, rfl, rfl, rfl⟩

/-! ### The one record, and what does not follow -/

/-- An item of the part's own on a ring that is not ABSENT: the record goes to OWED, and nothing is discarded. -/
theorem Dev.oweOne_eq_owe {r : Rec} (hr : d.rec? slot = some r) (hring : (d.ring r.slice r.ring).state ≠ .absent) (ho : d.OwnItem slot) :
    d.oweOne c slot st sub n = d.owe c slot r st sub n := by
  have hown : (d.item? slot).bind (fun i => i.spillFrom.map (fun p => (i, p))) = none := by
    cases hi : d.item? slot with
    | none => rfl
    | some i => simp [ho i hi]
  have hst : ((d.owe c slot r st sub n).ring r.slice r.ring).state ≠ .absent := by
    rwa [Dev.ring_congr (Dev.owe_rings c st sub n r d)]
  unfold Dev.oweOne
  simp only [hown, hr]
  rw [if_neg (by simpa using hst)]

/-- With no item marked nothing else is decided. -/
theorem Dev.cascade_unmarked : ∀ (m : Nat) {d : Dev}, (∀ i ∈ d.dsp.items, i.mark = none) → d.cascade c m = d
  | 0, _, _ => rfl
  | m + 1, d, h => by
    have hnone : d.dsp.items.filter (fun i => i.mark.isSome && i.incomplete && !d.flowHeld i && !d.jnl.mirrorWait.any (fun w => w.slot == i.slot && !w.att)) = [] :=
      List.filter_eq_nil_iff.mpr (fun i hi => by simp [h i hi])
    unfold Dev.cascade
    rw [hnone]
    rfl
theorem Dev.owe_unmarked (r : Rec) (h : ∀ i ∈ d.dsp.items, i.mark = none) : ∀ i ∈ (d.owe c slot r st sub n).dsp.items, i.mark = none := by
  rw [Dev.owe_items]
  intro i hi
  obtain ⟨x, hx, rfl⟩ := List.mem_map.mp hi
  split
  · rfl
  · exact h x hx
end

/-- Settles O16: the record by `Dev.owe_recs`, the items by `Dev.owe_items`, and with nothing marked the cascade is empty. -/
theorem recordOwed : Obligations.RecordOwed := by
  unfold Obligations.RecordOwed
  intro c d slot st sub n r hr hring hown
  dsimp only
  rw [Dev.toOwed, Dev.oweOne_eq_owe c st sub n hr hring hown]
  refine ⟨?_, Dev.owe_owed c st sub n r d, fun i hi => ?_, ?_, fun hmark => Dev.cascade_unmarked c _ (Dev.owe_unmarked c st sub n r (by simpa using hmark))⟩
  · simp only [Dev.rec?, Dev.owe_recs] at hr ⊢
    rw [find_updWhere _ _ (fun x hx => by simpa using hx), hr]
    rfl
  · refine ⟨i.finish, ?_, rfl, rfl, rfl, rfl⟩
    simp only [Dev.item?, Dev.owe_items] at hi ⊢
    rw [find_updWhere _ _ (fun x hx => by simpa [Item.finish] using hx), hi]
    rfl
  · rw [Dev.owe_lan]
    exact Dev.unbind_twins c d

end Sys2Proof.Machine

/-! An engine fault while an item that nothing holds any longer carries a mark (R152, R246, R310). -/

namespace Sys2Proof.Machine

/-- A signature in its engine phase on engine 0, with an outcome marked for its place in flow order. -/
def markedItem : Item :=
  { slot := 1, seq := 1, slice := 7, ring := 3, desc := [1, 8] ++ zeros 126, input := [], acceptSt := 0, deadline := 9000, key := 9000, ds := .running, pke := .engine, mark := some (2, 1) }
/-- Another of the same grove, between its phases, which has been restarted twice. -/
def lastTryItem : Item := { markedItem with slot := 2, seq := 2, pke := .between, mark := none, restarts := 2 }
/-- Engine 0 in service with the marked item, whose ring is ACTIVE. -/
def markedPhase : State := { State.reset with st := 2000, dev := {
  hif := { rings := [{ slice := 7, num := 3, state := .active }] }
  pke := { engines := [{ num := 0, state := .inService, item := some 1 }] }
  dsp := { items := [markedItem, lastTryItem] }
  jnl := { recs := [{ slot := 1, seq := 1, reqId := 6, slice := 7, ring := 3, st := .inService }] } } }

/-- The engine's leaving service completes the other item, its third restart, and the completion takes the marked item to its end. -/
theorem markedPhase_finishes : ∃ u, exec (.enginePhaseDone 0 .faultE3 [] true) markedPhase = .next u ∧ (u.dev.item? 1).map Item.ds = some .finished :=
  ⟨_, rfl, by decide⟩

/-- Refutes O27: a failed fault check does not leave its item to be restarted where the item carries a mark and another item of the
engine meets its third restart. -/
theorem not_enginePhases : ¬ Obligations.EnginePhases := by
  unfold Obligations.EnginePhases
  intro h
  have hitem : markedPhase.dev.item? 1 = some markedItem := by decide
  obtain ⟨-, hphase, -⟩ := h markedPhase
  obtain ⟨-, -, hend, -⟩ := hphase 0 { num := 0, state := .inService, item := some 1 } 1 markedItem [] (by decide) rfl hitem rfl rfl
    (fun j hj => by rw [hitem] at hj; cases hj; rfl) (by decide)
  obtain ⟨-, -, -, hfault⟩ := hend (by decide)
  obtain ⟨u, j, hu, -, -, -, -, -, -, hj, hds, -⟩ := hfault rfl rfl (by decide) (by decide) .faultE3 0 (.inl rfl)
  obtain ⟨u', hu', hfin⟩ := markedPhase_finishes
  rw [hu] at hu'
  cases hu'
  rw [hj] at hfin
  rcases hds with hds | hds <;> simp [hds] at hfin

end Sys2Proof.Machine

/-! What an item's end, its going back and an acceptance's consequences leave alone (R98, R112, R138, R155, R246). -/

namespace Sys2Proof.Machine

/-- What a record says of the request that it was made for, whatever has become of it since. -/
def Rec.request (r : Rec) : Rec :=
  { slot := r.slot, seq := r.seq, reqId := r.reqId, slice := r.slice, ring := r.ring, st := .accepted, pos := r.pos, opcode := r.opcode }

/-- The journal but for its records, its free list, the entries owed and the body entries. -/
def Jnl.frame (j : Jnl) : Jnl := { j with recs := [], completed := [], owed := [], bodies := [] }

/-- The parts of the device that no end of an item and no return of one to its list has a hand in. -/
structure Steady where
  rings   : List Ring
  slices  : List Slice
  pair    : Pair
  promote : Option (Nat × Nat × Nat)
  cfg     : Cfg
  jnl     : Jnl
  jnlEvt  : Word

def Dev.steady (d : Dev) : Steady where
  rings := d.hif.rings
  slices := d.slices
  pair := d.fab.pair
  promote := d.key.promote
  cfg := d.cfg
  jnl := d.jnl.frame
  jnlEvt := d.reg Off.jnlEvt

/-- The requests of the records. -/
def Dev.requests (d : Dev) : List Rec := d.jnl.recs.map Rec.request

section
variable (d : Dev)

/-! ### Tables, counters, events, messages -/

@[simp] theorem Dev.updItem_steady (n : Nat) (f : Item → Item) : (d.updItem n f).steady = d.steady := rfl
@[simp] theorem Dev.updRec_steady (n : Nat) (f : Rec → Rec) : (d.updRec n f).steady = d.steady := rfl
@[simp] theorem Dev.updDdt_steady (a : Nat) (b : DWord) (f : DdtEntry → DdtEntry) : (d.updDdt a b f).steady = d.steady := rfl
@[simp] theorem Dev.updTwin_steady (n : Nat) (f : Twin → Twin) : (d.updTwin n f).steady = d.steady := rfl
@[simp] theorem Dev.updGrove_steady (n : Nat) (f : Grove → Grove) : (d.updGrove n f).steady = d.steady := rfl
@[simp] theorem Dev.updEngine_steady (n : Nat) (f : Engine → Engine) : (d.updEngine n f).steady = d.steady := rfl
@[simp] theorem Dev.updDrbg_steady (n : Nat) (f : Drbg → Drbg) : (d.updDrbg n f).steady = d.steady := rfl
@[simp] theorem Dev.onPwr_steady (f : Pwr → Pwr) : (d.onPwr f).steady = d.steady := rfl
theorem Dev.bump_steady {off : Nat} (h : Off.jnlEvt ≠ off) : (d.bump off).steady = d.steady := by
  simp [Dev.steady, Dev.bump_reg_ne d h]
theorem Dev.evtBit_steady {off : Nat} (i : Nat) (h : Off.jnlEvt ≠ off) : (d.evtBit off i).steady = d.steady := by
  simp [Dev.steady, Dev.evtBit_reg_ne d i h]
@[simp] theorem Dev.record_steady (c : Ctx) (t : Nat) (p : Bytes) : (d.record c t p).steady = d.steady := by
  simp [Dev.steady, Dev.record_reg_ne d c t p (by decide : Off.jnlEvt ≠ Off.ercLost) (by decide)]
@[simp] theorem Dev.startFlush_steady : d.startFlush.steady = d.steady := by
  unfold Dev.startFlush
  split <;> rfl
@[simp] theorem Dev.recordUnit_steady (c : Ctx) (kind n : Nat) (old new : UnitState) : (d.recordUnit c kind n old new).steady = d.steady := by
  unfold Dev.recordUnit
  split <;> simp
@[simp] theorem Dev.sendPeer_steady (n k m : Nat) (p : Bytes) : (d.sendPeer n k m p).steady = d.steady := by
  simp [Dev.steady]
@[simp] theorem Dev.mirrorRec_steady (k : Nat) : (d.mirrorRec k).steady = d.steady := by
  unfold Dev.mirrorRec
  split
  · exact Dev.sendPeer_steady ..
  · rfl

/-! ### To OWED (R98, R138, R152) -/

@[simp] theorem Dev.unbind_steady (c : Ctx) (k : Nat) : (d.unbind c k).steady = d.steady := by
  unfold Dev.unbind
  dsimp only
  split <;> rfl
@[simp] theorem Dev.countStatus_steady (st sub : Nat) : (d.countStatus st sub).steady = d.steady := by
  unfold Dev.countStatus
  split
  · rw [Dev.evtBit_steady _ _ (by decide), Dev.bump_steady _ (by decide)]
  · split
    · rw [Dev.evtBit_steady _ _ (by decide), Dev.bump_steady _ (by decide)]
    · split
      · rw [Dev.bump_steady _ (by decide)]
      · rfl
@[simp] theorem Dev.flowPrune_steady (f : Option (Nat × Nat)) : (d.flowPrune f).steady = d.steady := by
  unfold Dev.flowPrune
  split
  · rfl
  · split <;> rfl
@[simp] theorem Dev.retire_steady (k : Nat) : (d.retire k).steady = d.steady := by
  unfold Dev.retire
  split <;> rfl
@[simp] theorem Dev.discardEntry_steady (k : Nat) : (d.discardEntry k).steady = d.steady := by
  unfold Dev.discardEntry
  rw [Dev.mirrorRec_steady]
  exact Dev.retire_steady (d.updRec k _) k
@[simp] theorem Dev.spillAnswer_steady (i : Item) (peer o st sub n : Nat) (out : Bytes) : (d.spillAnswer i peer o st sub n out).steady = d.steady :=
  Dev.sendPeer_steady d peer 4 2 _
@[simp] theorem Dev.owe_steady (c : Ctx) (k : Nat) (r : Rec) (st sub n : Nat) : (d.owe c k r st sub n).steady = d.steady := by
  unfold Dev.owe
  dsimp only
  rw [Dev.mirrorRec_steady, Dev.countStatus_steady, Dev.flowPrune_steady]
  have h := Dev.unbind_steady d c k
  generalize d.unbind c k = e at h ⊢
  exact h
@[simp] theorem Dev.oweOne_steady (c : Ctx) (k st sub n : Nat) : (d.oweOne c k st sub n).steady = d.steady := by
  unfold Dev.oweOne
  dsimp only
  split
  · simp
  · split
    · rfl
    · split <;> simp
@[simp] theorem Dev.cascade_steady (c : Ctx) : ∀ (n : Nat) (d : Dev), (d.cascade c n).steady = d.steady
  | 0, _ => rfl
  | n + 1, d => by
    unfold Dev.cascade
    split
    · rfl
    · split
      · rfl
      · rw [Dev.cascade_steady c n, Dev.oweOne_steady]
@[simp] theorem Dev.toOwed_steady (c : Ctx) (k st sub n : Nat) : (d.toOwed c k st sub n).steady = d.steady := by
  unfold Dev.toOwed
  rw [Dev.cascade_steady, Dev.oweOne_steady]
@[simp] theorem Dev.finishNow_steady (c : Ctx) (k st sub : Nat) : (d.finishNow c k st sub).steady = d.steady := by
  unfold Dev.finishNow
  split
  · exact Dev.toOwed_steady ..
  · split
    · rfl
    · split
      · rfl
      · exact Dev.toOwed_steady ..
@[simp] theorem Dev.withBarriers_steady (b : List Barrier) : ({ d with hif := { d.hif with barriers := b } } : Dev).steady = d.steady := rfl
@[simp] theorem Dev.joinBarrier_steady (c : Ctx) (i : Item) : (d.joinBarrier c i).steady = d.steady := by
  unfold Dev.joinBarrier
  dsimp only
  (repeat' split) <;> simp
/-- What follows an acceptance at once moves no ring and no numbering. -/
@[simp] theorem Dev.afterAccept_steady (c : Ctx) (k : Nat) : (d.afterAccept c k).steady = d.steady := by
  unfold Dev.afterAccept
  dsimp only
  (repeat' split) <;> simp

/-! ### Items that go back, units that leave service (R155, R246, R253, R254) -/

@[simp] theorem Dev.goBack_steady (c : Ctx) (k : Nat) (p : Bool) : (d.goBack c k p).steady = d.steady := by
  unfold Dev.goBack
  rw [Dev.mirrorRec_steady]
  split <;> exact Dev.unbind_steady d c k
@[simp] theorem Dev.restart_steady (c : Ctx) (k : Nat) (p : Bool) (t : Option Nat) : (d.restart c k p t).steady = d.steady := by
  unfold Dev.restart
  split
  · rfl
  · split
    · exact Dev.finishNow_steady ..
    · rw [Dev.updItem_steady, Dev.goBack_steady, Dev.bump_steady _ (by decide)]
@[simp] theorem Dev.unplace_steady (c : Ctx) (g : Nat) (p : Item → Bool) : (d.unplace c g p).steady = d.steady := by
  unfold Dev.unplace
  refine foldl_keep Dev.steady _ (fun a i => ?_) _ d
  exact Dev.goBack_steady ..
@[simp] theorem Dev.twinLeaves_steady (c : Ctx) (t : Nat) (new : UnitState) (p : Bool) : (d.twinLeaves c t new p).steady = d.steady := by
  have hitems : ((d.onTwin t).foldl (fun a k => a.restart c k p (some t)) d).steady = d.steady :=
    foldl_keep Dev.steady _ (fun a k => Dev.restart_steady a c k p (some t)) _ d
  unfold Dev.twinLeaves
  dsimp only
  split <;> split <;> simp [Dev.evtBit_steady, Off.jnlEvt, Off.lanEvt, hitems]
@[simp] theorem Dev.engineLeaves_steady (c : Ctx) (g : Nat) (new : UnitState) : (d.engineLeaves c g new).steady = d.steady := by
  have hitems : ∀ l : List Nat, (l.foldl (fun a k => a.restart c k true none) d).steady = d.steady :=
    fun l => foldl_keep Dev.steady _ (fun a k => Dev.restart_steady a c k true none) l d
  unfold Dev.engineLeaves
  dsimp only
  split <;> split <;> simp [Dev.evtBit_steady, Off.jnlEvt, Off.pkeEvt, hitems]
@[simp] theorem Dev.holdOp2_steady (g : Nat) (new : UnitState) : (d.holdOp2 g new).steady = d.steady := by
  unfold Dev.holdOp2
  split <;> rfl
@[simp] theorem Dev.groveLeaves_steady (c : Ctx) (g : Nat) (new : UnitState) : (d.groveLeaves c g new).steady = d.steady := by
  have htwins : ∀ e : Dev, ((twinsOf g).foldl (fun a t => a.twinLeaves c t new true) e).steady = e.steady :=
    fun e => foldl_keep Dev.steady _ (fun a t => Dev.twinLeaves_steady a c t new true) _ e
  unfold Dev.groveLeaves
  extract_lets old eng d1 d2 key d3 d4 d5
  have heng : eng.steady = d.steady := by
    unfold eng
    split
    · rfl
    · exact Dev.engineLeaves_steady ..
  have h2 : d2.steady = d.steady := (Dev.unplace_steady ..).trans ((htwins eng).trans heng)
  have h4 : d4.steady = d2.steady := by
    clear_value d2
    rfl
  have h5 : d5.steady = d4.steady := by
    unfold d5
    rw [Dev.holdOp2_steady]
    split
    · rfl
    · exact Dev.recordUnit_steady ..
  split
  · rw [Dev.evtBit_steady _ _ (by decide), h5, h4, h2]
  · rw [h5, h4, h2]
@[simp] theorem Dev.groveSwitchOff_steady (c : Ctx) (g : Nat) : (d.groveSwitchOff c g).steady = d.steady := Dev.groveLeaves_steady d c g .gated

/-! ### The requests of the records stand while they are completed (R98, R108) -/

theorem map_updWhere_same {α β : Type} (g : α → β) (p : α → Bool) (f : α → α) (h : ∀ x, g (f x) = g x) (l : List α) : (updWhere p f l).map g = l.map g := by
  unfold updWhere
  rw [List.map_map]
  refine List.map_congr_left (fun x _ => ?_)
  rw [Function.comp_apply]
  split
  · exact h x
  · rfl
@[simp] theorem Dev.owe_requests (c : Ctx) (k : Nat) (r : Rec) (st sub n : Nat) : (d.owe c k r st sub n).requests = d.requests := by
  unfold Dev.requests
  rw [Dev.owe_recs]
  refine map_updWhere_same _ _ _ (fun x => ?_) _
  rfl
@[simp] theorem Dev.discardEntry_requests (k : Nat) : (d.discardEntry k).requests = d.requests := by
  unfold Dev.requests Dev.discardEntry
  rw [Dev.mirrorRec_jnl]
  dsimp only
  rw [Dev.retire_recs]
  refine map_updWhere_same _ (fun x : Rec => x.slot == k) _ (fun x => ?_) _
  rfl
@[simp] theorem Dev.oweOne_requests (c : Ctx) (k st sub n : Nat) : (d.oweOne c k st sub n).requests = d.requests := by
  unfold Dev.oweOne
  dsimp only
  split
  · simp [Dev.requests, Dev.spillAnswer, Dev.unbind_jnl]
  · split
    · rfl
    · split <;> simp
@[simp] theorem Dev.cascade_requests (c : Ctx) : ∀ (n : Nat) (d : Dev), (d.cascade c n).requests = d.requests
  | 0, _ => rfl
  | n + 1, d => by
    unfold Dev.cascade
    split
    · rfl
    · split
      · rfl
      · rw [Dev.cascade_requests c n, Dev.oweOne_requests]
@[simp] theorem Dev.toOwed_requests (c : Ctx) (k st sub n : Nat) : (d.toOwed c k st sub n).requests = d.requests := by
  unfold Dev.toOwed
  rw [Dev.cascade_requests, Dev.oweOne_requests]
@[simp] theorem Dev.finishNow_requests (c : Ctx) (k st sub : Nat) : (d.finishNow c k st sub).requests = d.requests := by
  unfold Dev.finishNow
  split
  · exact Dev.toOwed_requests ..
  · split
    · rfl
    · split
      · rfl
      · exact Dev.toOwed_requests ..
@[simp] theorem Dev.withBarriers_requests (b : List Barrier) : ({ d with hif := { d.hif with barriers := b } } : Dev).requests = d.requests := rfl
@[simp] theorem Dev.joinBarrier_requests (c : Ctx) (i : Item) : (d.joinBarrier c i).requests = d.requests := by
  unfold Dev.joinBarrier
  dsimp only
  (repeat' split) <;> simp
@[simp] theorem Dev.updItem_requests (n : Nat) (f : Item → Item) : (d.updItem n f).requests = d.requests := rfl
@[simp] theorem Dev.afterAccept_requests (c : Ctx) (k : Nat) : (d.afterAccept c k).requests = d.requests := by
  unfold Dev.afterAccept
  dsimp only
  (repeat' split) <;> simp
end

end Sys2Proof.Machine

/-! Acceptance (R63, R64, R92, R95, R99, R108 to R110, R123): the outcomes of the lookup. -/

namespace Sys2Proof.Machine

/-! ### What every outcome does to the ring and leaves of the journal -/

/-- A ring that has accepted the first descriptor that it fetched. -/
def Ring.advanced (now : Nat) (r : Ring) : Ring :=
  { r with accepted := r.accepted + 1, fetched := r.fetched.drop 1, hwbSince := some now, flowStall := false, ddtStall := false }

section
variable {c : Ctx} {d : Dev}

theorem Dev.advance_ring (s n : Nat) : (d.advance c s n).ring s n = (d.ring s n).advanced c.now := by
  have h : (d.updRing s n (Ring.advanced c.now)).ring s n = (d.ring s n).advanced c.now := Dev.ring_updRing d s n _ (fun x hs hn => ⟨hs, hn⟩)
  unfold Dev.advance
  dsimp only
  split <;> exact h
@[simp] theorem Dev.advance_jnl (s n : Nat) : (d.advance c s n).jnl = d.jnl := by
  unfold Dev.advance
  dsimp only
  split <;> rfl
@[simp] theorem Dev.advance_reg (s n o : Nat) : (d.advance c s n).reg o = d.reg o := by
  unfold Dev.advance
  dsimp only
  split <;> rfl

section
variable (slot s n : Nat) (pos : Word) (att : Bool)

@[simp] theorem Dev.mirrorOut_hif : (d.mirrorOut c slot s n pos att).hif = d.hif := by
  unfold Dev.mirrorOut
  split
  · dsimp only
    split <;> simp
  · rfl
theorem Dev.mirrorOut_ring (s' n' : Nat) : (d.mirrorOut c slot s n pos att).ring s' n' = d.ring s' n' := Dev.ring_congr (congrArg Hif.rings (Dev.mirrorOut_hif ..)) s' n'
@[simp] theorem Dev.mirrorOut_reg (o : Nat) : (d.mirrorOut c slot s n pos att).reg o = d.reg o := by
  unfold Dev.mirrorOut
  split
  · dsimp only
    split <;> simp [Dev.reg]
  · rfl
/-- An acceptance joins what waits for the standby, or nothing in the journal changes. -/
theorem Dev.mirrorOut_jnl : ∃ w, (d.mirrorOut c slot s n pos att).jnl = { d.jnl with mirrorWait := w } := by
  unfold Dev.mirrorOut
  split
  · dsimp only
    split
    · exact ⟨_, by simp; rfl⟩
    · exact ⟨d.jnl.mirrorWait, by simp⟩
  · exact ⟨d.jnl.mirrorWait, rfl⟩
theorem Dev.mirrorOut_recs : (d.mirrorOut c slot s n pos att).jnl.recs = d.jnl.recs := by
  obtain ⟨w, hw⟩ := Dev.mirrorOut_jnl (c := c) (d := d) slot s n pos att
  rw [hw]
theorem Dev.mirrorOut_nextSeq : (d.mirrorOut c slot s n pos att).jnl.nextSeq = d.jnl.nextSeq := by
  obtain ⟨w, hw⟩ := Dev.mirrorOut_jnl (c := c) (d := d) slot s n pos att
  rw [hw]
theorem Dev.mirrorOut_owed : (d.mirrorOut c slot s n pos att).jnl.owed = d.jnl.owed := by
  obtain ⟨w, hw⟩ := Dev.mirrorOut_jnl (c := c) (d := d) slot s n pos att
  rw [hw]
end

@[simp] theorem Dev.addRec_jnl (r : Rec) : (d.addRec r).jnl = { d.jnl with recs := d.jnl.recs ++ [r] } := by
  unfold Dev.addRec
  dsimp only
  split <;> simp
@[simp] theorem Dev.addRec_rings (r : Rec) : (d.addRec r).hif.rings = d.hif.rings := by
  unfold Dev.addRec
  dsimp only
  split <;> simp
theorem Dev.addRec_reg_ne (r : Rec) {o : Nat} (h : o ≠ Off.jnlEvt) : (d.addRec r).reg o = d.reg o := by
  unfold Dev.addRec
  dsimp only
  split
  · rw [Dev.evtBit_reg_ne _ _ h]
    rfl
  · rfl
theorem Dev.takeSlot_fresh (h : d.jnl.fresh < 32768) : d.takeSlot = some (d.jnl.fresh, { d with jnl := { d.jnl with fresh := d.jnl.fresh + 1 } }) := by
  unfold Dev.takeSlot
  rw [if_pos h]
/-- An insertion changes the table, and its eviction counter. -/
theorem Dev.ddtInsert_keeps {e : DdtEntry} {d1 : Dev} (h : d.ddtInsert c e = some d1) : d1.jnl = d.jnl ∧ d1.hif = d.hif := by
  unfold Dev.ddtInsert at h
  dsimp only at h
  (repeat' split at h) <;> cases h <;> exact ⟨rfl, rfl⟩
/-- What an acceptance's consequences leave: the rings, the numbering, and the requests of the records. -/
theorem Dev.afterwards_keeps (b : Bool) (k : Nat) :
    (if b then d else d.afterAccept c k).hif.rings = d.hif.rings ∧ (if b then d else d.afterAccept c k).jnl.nextSeq = d.jnl.nextSeq
      ∧ (if b then d else d.afterAccept c k).requests = d.requests := by
  have hsteady : (if b then d else d.afterAccept c k).steady = d.steady := by split <;> simp
  refine ⟨congrArg Steady.rings hsteady, congrArg (fun x : Steady => x.jnl.nextSeq) hsteady, ?_⟩
  split <;> simp

/-! ### The original is in flight (R109) -/

variable {r : Ring} {f : Fetched} {e : DdtEntry}

theorem Dev.attach_ring : (d.attach c r e).ring r.slice r.num = (d.ring r.slice r.num).advanced c.now := by
  unfold Dev.attach
  dsimp only
  rw [Dev.mirrorOut_ring, Dev.advance_ring]
  rfl
theorem Dev.attach_recs : (d.attach c r e).jnl.recs = d.jnl.recs ∧ (d.attach c r e).jnl.nextSeq = d.jnl.nextSeq := by
  unfold Dev.attach
  dsimp only
  rw [Dev.mirrorOut_recs, Dev.mirrorOut_nextSeq]
  simp
theorem Dev.attach_counted : ((d.attach c r e).reg Off.ddtAttach).toNat = min 0xFFFFFFFF ((d.reg Off.ddtAttach).toNat + 1) := by
  unfold Dev.attach
  simp only [Dev.mirrorOut_reg, Dev.advance_reg]
  exact Dev.bump_toNat ..

/-! ### The original is done (R110) -/

/-- The REPLAY record of a stored outcome. -/
def Dev.replayRec (r : Ring) (e : DdtEntry) (d : Dev) : Rec :=
  { slot := d.jnl.fresh, seq := e.seq, reqId := e.reqId, slice := r.slice, ring := r.num, st := .replay, mirrored := d.syncMirror, pos := r.accepted,
    status := e.status, sub := fld e.outcome 7 0, backlog := bit e.outcome 8, late := bit e.outcome 9, resLen := fld e.outcome 31 13, cst := e.time }
/-- The new record stands, the ring has moved on, and the replay is counted. -/
def Dev.replayed (c : Ctx) (r : Ring) (e : DdtEntry) (d : Dev) : Dev :=
  (((({ d with jnl := { d.jnl with fresh := d.jnl.fresh + 1 } } : Dev).addRec (d.replayRec r e)).advance c r.slice r.num).bump Off.ddtReplay).mirrorOut c d.jnl.fresh r.slice r.num
    r.accepted false

theorem Dev.acceptReplay_eq (h : d.jnl.fresh < 32768) : d.acceptReplay c r e =
    { d.replayed c r e with jnl := { (d.replayed c r e).jnl with owed := (d.replayed c r e).jnl.owed ++ [{ slot := d.jnl.fresh, slice := r.slice, ring := r.num }] } } := by
  unfold Dev.acceptReplay
  rw [Dev.takeSlot_fresh h]
  rfl
theorem Dev.replayed_ring : (d.replayed c r e).ring r.slice r.num = (d.ring r.slice r.num).advanced c.now := by
  unfold Dev.replayed
  rw [Dev.mirrorOut_ring]
  refine (Dev.advance_ring r.slice r.num).trans ?_
  rw [Dev.ring_congr (Dev.addRec_rings ..)]
  rfl
theorem Dev.replayed_jnl : (d.replayed c r e).jnl.recs = d.jnl.recs ++ [d.replayRec r e] ∧ (d.replayed c r e).jnl.nextSeq = d.jnl.nextSeq
    ∧ (d.replayed c r e).jnl.owed = d.jnl.owed := by
  unfold Dev.replayed
  rw [Dev.mirrorOut_recs, Dev.mirrorOut_nextSeq, Dev.mirrorOut_owed]
  simp
theorem Dev.replayed_counted : ((d.replayed c r e).reg Off.ddtReplay).toNat = min 0xFFFFFFFF ((d.reg Off.ddtReplay).toNat + 1) := by
  unfold Dev.replayed
  rw [Dev.mirrorOut_reg, Dev.bump_toNat, Dev.advance_reg, Dev.addRec_reg_ne _ (by decide)]
  rfl

/-! ### The original awaits its descriptor (R123) -/

theorem Dev.represent_ok {x : Rec} (hflow : Desc.flow f.desc = 0) :
    ∃ u, d.represent c r f e x = .ok u ∧ u.ring r.slice r.num = (d.ring r.slice r.num).advanced c.now ∧ u.jnl.nextSeq = d.jnl.nextSeq := by
  unfold Dev.represent
  dsimp only
  rw [if_pos hflow]
  refine ⟨_, rfl, ?_⟩
  obtain ⟨hrings, hseq, -⟩ := Dev.afterwards_keeps ..
  refine ⟨(Dev.ring_congr hrings ..).trans ?_, hseq.trans ?_⟩
  · rw [Dev.mirrorOut_ring, Dev.advance_ring]
    rfl
  · rw [Dev.mirrorOut_nextSeq, Dev.advance_jnl]
    rfl

/-! ### A new request (R92, R95) -/

/-- A record enters the journal, its ring moves on, and the standby is told. -/
def Dev.enter (c : Ctx) (r : Ring) (rc : Rec) (chains : List ChainInst) (d : Dev) : Dev :=
  (((d.addRec rc).updRing r.slice r.num (fun x => { x with chains := chains })).advance c r.slice r.num).mirrorOut c rc.slot r.slice r.num r.accepted false

theorem Dev.enter_ring (rc : Rec) (chains : List ChainInst) :
    (d.enter c r rc chains).ring r.slice r.num = ({ d.ring r.slice r.num with chains := chains } : Ring).advanced c.now := by
  unfold Dev.enter
  have h : ((d.addRec rc).updRing r.slice r.num (fun x => { x with chains := chains })).ring r.slice r.num = { (d.addRec rc).ring r.slice r.num with chains := chains } :=
    Dev.ring_updRing _ _ _ _ (fun x hs hn => ⟨hs, hn⟩)
  rw [Dev.mirrorOut_ring, Dev.advance_ring, h, Dev.ring_congr (Dev.addRec_rings rc)]
theorem Dev.enter_jnl (rc : Rec) (chains : List ChainInst) :
    (d.enter c r rc chains).jnl.recs = d.jnl.recs ++ [rc] ∧ (d.enter c r rc chains).jnl.nextSeq = d.jnl.nextSeq := by
  unfold Dev.enter
  rw [Dev.mirrorOut_recs, Dev.mirrorOut_nextSeq]
  simp

/-- The record that a new request is given. -/
def Dev.newRequest (r : Ring) (f : Fetched) (d : Dev) : Rec :=
  { slot := d.jnl.fresh, seq := d.jnl.nextSeq, reqId := BitVec.ofNat 64 (Desc.rid f.desc), slice := r.slice, ring := r.num, st := .accepted, pos := r.accepted, opcode := Desc.op f.desc }

/-- Both tables take the request: its record enters with the next sequence, and the acceptance is complete or waits for the standby. -/
theorem Dev.acceptNew_eq (hfresh : d.jnl.fresh < 32768) (hflow : Desc.flow f.desc = 0)
    (hins : (d.ddtInsert c { slice := r.slice, reqId := BitVec.ofNat 64 (Desc.rid f.desc), st := .inFlight, seq := d.jnl.nextSeq, time := d.stamp c }).isSome = true) :
    ∃ (d1 : Dev) (rc : Rec) (chains : List ChainInst) (b : Bool),
      d.acceptNew c r f = .ok (if b then d1.enter c r rc chains else (d1.enter c r rc chains).afterAccept c rc.slot)
        ∧ d1.hif = d.hif ∧ d1.jnl.nextSeq = d.jnl.nextSeq + 1 ∧ rc.request = d.newRequest r f := by
  obtain ⟨d1, h1⟩ := Option.isSome_iff_exists.mp hins
  obtain ⟨hjnl, hhif⟩ := Dev.ddtInsert_keeps h1
  have hslot := Dev.takeSlot_fresh (d := d1) (by rwa [hjnl])
  rw [hjnl] at hslot
  unfold Dev.acceptNew
  dsimp only
  rw [h1]
  dsimp only
  rw [if_pos hflow]
  dsimp only
  rw [hslot]
  exact ⟨_, _, _, _, rfl, hhif, rfl, rfl⟩
theorem Dev.acceptNew_ok (hfresh : d.jnl.fresh < 32768) (hflow : Desc.flow f.desc = 0)
    (hins : (d.ddtInsert c { slice := r.slice, reqId := BitVec.ofNat 64 (Desc.rid f.desc), st := .inFlight, seq := d.jnl.nextSeq, time := d.stamp c }).isSome = true) :
    ∃ u, d.acceptNew c r f = .ok u ∧ (u.ring r.slice r.num).accepted = (d.ring r.slice r.num).accepted + 1
      ∧ (u.ring r.slice r.num).fetched = (d.ring r.slice r.num).fetched.drop 1 ∧ u.jnl.nextSeq = d.jnl.nextSeq + 1
      ∧ ∃ x ∈ u.jnl.recs, x.request = d.newRequest r f := by
  obtain ⟨d1, rc, chains, b, heq, hhif, hseq, hrec⟩ := Dev.acceptNew_eq hfresh hflow hins
  obtain ⟨hrings, hnext, hreq⟩ := Dev.afterwards_keeps (c := c) (d := d1.enter c r rc chains) b rc.slot
  obtain ⟨hrecs, hseq1⟩ := Dev.enter_jnl (c := c) (d := d1) (r := r) rc chains
  have hring := (Dev.ring_congr hrings r.slice r.num).trans (Dev.enter_ring rc chains)
  rw [Dev.ring_congr (congrArg Hif.rings hhif)] at hring
  refine ⟨_, heq, congrArg Ring.accepted hring, congrArg Ring.fetched hring, hnext.trans (hseq1.trans hseq), ?_⟩
  refine List.mem_map.mp (?_ : d.newRequest r f ∈ Dev.requests _)
  rw [hreq, ← hrec]
  exact List.mem_map.mpr ⟨rc, by rw [hrecs]; simp, rfl⟩
end

/-! ### The command -/

section
variable {s : State} {sl rg : Nat} {f : Fetched} {rest : List Fetched}

theorem exec_acceptDescriptor (sl rg : Nat) (s : State) : exec (.acceptDescriptor sl rg) s = .next { s with dev := acceptOp sl rg s.ctx s.dev } := rfl

/-- A ring that may accept: what the lookup leads to. -/
theorem exec_acceptDescriptor_letIn {u : Dev} (hf : (s.dev.ring sl rg).fetched = f :: rest) (ho : s.dev.ringOpen (s.dev.ring sl rg) = true)
    (hc : s.dev.creditOk (s.dev.ring sl rg) = true) (hd : s.dev.ddt.stalledSince = none) (hs : (s.dev.ring sl rg).flowStall = false)
    (hu : s.dev.letIn s.ctx (s.dev.ring sl rg) f = .ok u) : exec (.acceptDescriptor sl rg) s = .next { s with dev := u } := by
  rw [exec_acceptDescriptor]
  simp [acceptOp, hf, ho, hc, hd, hs, hu]

variable {c : Ctx} {d : Dev} {r : Ring} {e : DdtEntry}

theorem Dev.letIn_inFlight (h : d.ddtFind c r.slice (BitVec.ofNat 64 (Desc.rid f.desc)) = some e) (hst : e.st = .inFlight) : d.letIn c r f = .ok (d.attach c r e) := by
  unfold Dev.letIn
  simp only [h, hst]
theorem Dev.letIn_done (h : d.ddtFind c r.slice (BitVec.ofNat 64 (Desc.rid f.desc)) = some e) (hst : e.st = .done) : d.letIn c r f = .ok (d.acceptReplay c r e) := by
  unfold Dev.letIn
  simp only [h, hst]
theorem Dev.letIn_awaiting {x : Rec} (h : d.ddtFind c r.slice (BitVec.ofNat 64 (Desc.rid f.desc)) = some e) (hst : e.st = .awaiting)
    (hx : d.jnl.recs.find? (fun x => x.seq == e.seq && x.st == .awaiting) = some x) : d.letIn c r f = d.represent c r f e x := by
  unfold Dev.letIn
  simp only [h, hst, hx]
theorem Dev.letIn_new (h : d.ddtFind c r.slice (BitVec.ofNat 64 (Desc.rid f.desc)) = none) : d.letIn c r f = d.acceptNew c r f := by
  unfold Dev.letIn
  simp only [h]
end

/-- Settles O19: by what the lookup finds, each outcome by what it does to the ring, the journal and its counter. -/
theorem acceptance : Obligations.Acceptance := by
  unfold Obligations.Acceptance
  intro s sl rg f rest
  dsimp only
  intro hf ho hc hd hs
  obtain ⟨hslice, hnum⟩ := Dev.ring_slice_num s.dev sl rg
  have hself : s.dev.ring (s.dev.ring sl rg).slice (s.dev.ring sl rg).num = s.dev.ring sl rg := by rw [hslice, hnum]
  have hdrop : (s.dev.ring sl rg).fetched.drop 1 = rest := by rw [hf]; rfl
  have hexec : ∀ u, s.dev.letIn s.ctx (s.dev.ring sl rg) f = .ok u → exec (.acceptDescriptor sl rg) s = .next { s with dev := u } :=
    fun u hu => exec_acceptDescriptor_letIn hf ho hc hd hs hu
  generalize hr : s.dev.ring sl rg = r at *
  subst hslice hnum
  refine ⟨fun e hlook hst => ?_, fun e hlook hst hfresh => ?_, fun e x hlook hst hx hflow => ?_, fun hlook hfresh hflow hins => ?_⟩
  · have hring := Dev.attach_ring (c := s.ctx) (d := s.dev) (r := r) (e := e)
    rw [hself] at hring
    obtain ⟨hrecs, hseq⟩ := Dev.attach_recs (c := s.ctx) (d := s.dev) (r := r) (e := e)
    exact ⟨_, hexec _ (Dev.letIn_inFlight hlook hst), .of_dev .., congrArg Ring.accepted hring, (congrArg Ring.fetched hring).trans hdrop, congrArg Ring.hwbSince hring, hrecs, hseq,
      Dev.attach_counted⟩
  · have hring := Dev.replayed_ring (c := s.ctx) (d := s.dev) (r := r) (e := e)
    rw [hself] at hring
    obtain ⟨hrecs, hseq, howed⟩ := Dev.replayed_jnl (c := s.ctx) (d := s.dev) (r := r) (e := e)
    refine ⟨_, s.dev.replayRec r e, hexec _ (Dev.letIn_done hlook hst), .of_dev .., ?_⟩
    rw [Dev.acceptReplay_eq hfresh]
    exact ⟨congrArg Ring.accepted hring, (congrArg Ring.fetched hring).trans hdrop, hrecs, rfl, rfl, rfl, rfl, rfl, rfl, rfl, rfl, hseq, by rw [← howed], Dev.replayed_counted⟩
  · obtain ⟨u, hu, hring, hseq⟩ := Dev.represent_ok (c := s.ctx) (d := s.dev) (r := r) (e := e) (x := x) hflow
    rw [hself] at hring
    exact ⟨_, hexec u ((Dev.letIn_awaiting hlook hst hx).trans hu), .of_dev .., congrArg Ring.accepted hring, (congrArg Ring.fetched hring).trans hdrop, hseq⟩
  · obtain ⟨u, hu, hacc, hfet, hseq, x, hx, hreq⟩ := Dev.acceptNew_ok hfresh hflow hins
    rw [hself] at hacc hfet
    exact ⟨_, hexec u ((Dev.letIn_new hlook).trans hu), .of_dev .., hacc, hfet.trans hdrop, hseq, x, hx, congrArg Rec.slot hreq, congrArg Rec.seq hreq, congrArg Rec.slice hreq,
      congrArg Rec.ring hreq, congrArg Rec.pos hreq, congrArg Rec.reqId hreq, congrArg Rec.opcode hreq⟩

end Sys2Proof.Machine

/-! The deduplication table, its stalls, and the standby's acknowledgement (R104, R127, R132, R136, R150, R437). -/

namespace Sys2Proof.Machine

theorem exec_ddtReinit (off : Nat) (v : Word) (s : State) :
    exec (.ddtReinit off v) s = .next { s with dev := if off = Off.ddtBaseLo ∨ off = Off.ddtBaseHi ∨ off = Off.ddtSize then s.dev.hostWrite s.ctx off (ddtPlaceW s.ctx off v) else s.dev } := rfl
theorem exec_ddtInitDone (s : State) : exec .ddtInitDone s = .next { s with dev := ddtInitDoneOp s.ctx s.dev } := rfl
theorem exec_ddtStallRetry (s : State) : exec .ddtStallRetry s = .next { s with dev := ddtStallRetryOp s.ctx s.dev } := rfl
theorem exec_flowStallRetry (sl rg : Nat) (s : State) : exec (.flowStallRetry sl rg) s = .next { s with dev := flowStallRetryOp sl rg s.ctx s.dev } := rfl
theorem exec_mirrorAck (of : AckOf) (s : State) : exec (.mirrorAck of) s = .next { s with dev := (mirrorAckOp of s.ctx s.dev).handoverGo s.ctx } := rfl
theorem exec_mirrorAckTimeout (of : AckOf) (s : State) : exec (.mirrorAckTimeout of) s = .next { s with dev := mirrorTimeoutOp of s.ctx s.dev } := rfl

section
variable (c : Ctx) (d : Dev)

theorem Dev.evtBit_bit (off : Nat) {i : Nat} (h : i < 32) : bit ((d.evtBit off i).reg off) i = true := by
  rw [Dev.evtBit_reg]
  simp [bit, h]

/-! ### The end of a stall (R104) -/

theorem Dev.ddtStallEnd_rng : (d.ddtStallEnd c).rng = d.rng := by
  unfold Dev.ddtStallEnd
  split <;> simp
theorem Dev.ddtStallEnd_reg_ne {a : Nat} (h1 : a ≠ Off.ddtEvt) (h2 : a ≠ Off.ercLost) (h3 : a ≠ Off.ercEvt) : (d.ddtStallEnd c).reg a = d.reg a := by
  unfold Dev.ddtStallEnd
  split
  · rfl
  · rw [Dev.record_reg_ne _ _ _ _ h2 h3, Dev.evtBit_reg_ne _ _ h1]
    rfl
theorem Dev.ddtStallEnd_stalled {t : Nat} (h : d.ddt.stalledSince = some t) :
    (d.ddtStallEnd c).ddt = { d.ddt with stalledSince := none, stallNs := d.ddt.stallNs + (c.now - t) } ∧ bit ((d.ddtStallEnd c).reg Off.ddtEvt) 1 = true := by
  unfold Dev.ddtStallEnd
  simp only [h]
  constructor
  · simp
  · rw [Dev.record_reg_ne _ _ _ _ (by decide) (by decide)]
    exact Dev.evtBit_bit _ _ (by decide)
theorem Dev.ddtStallEnd_none : (d.ddtStallEnd c).ddt.stalledSince = none := by
  cases h : d.ddt.stalledSince with
  | none => simp only [Dev.ddtStallEnd, h]
  | some t => rw [(d.ddtStallEnd_stalled c h).1]

/-! ### The table is made anew (R136) -/

theorem Dev.mgmtNonce_1_congr {d e : Dev} (h : d.rng = e.rng) : (d.mgmtNonce c).1 = (e.mgmtNonce c).1 := by
  simp only [Dev.mgmtNonce, Dev.mgmtBytes, Dev.request, Dev.drbg, h]
theorem Dev.request_2_reg_ne {a : Nat} (n len : Nat) (x : Bytes) (h : a ≠ Off.rngEvt) : (d.request c n len x).2.reg a = d.reg a := by
  unfold Dev.request
  dsimp only
  have hreseed : ∀ e : Dev, (e.dueReseed c n).reg a = e.reg a := by
    intro e
    unfold Dev.dueReseed
    dsimp only
    split
    · split <;> rfl
    · rfl
  split
  · rw [Dev.evtBit_reg_ne _ _ h]
    exact hreseed _
  · exact hreseed _
/-- The table emptied, its hash keys still to come. -/
def Dev.emptyTable (d : Dev) : Dev := { d with ddt := { d.ddt with entries := [], occ := [], ready := false, initing := d.mgmtDrbg, needKeys := !d.mgmtDrbg } }
theorem Dev.startDdt_served (h : d.mgmtDrbg = true) :
    (d.startDdt c).ddt = { (d.ddtStallEnd c).ddt with entries := [], occ := [], ready := false, initing := true, needKeys := false, hashKey := (d.mgmtNonce c).1.toNat } := by
  have hserves : (d.ddtStallEnd c).mgmtDrbg = true := by
    unfold Dev.mgmtDrbg Dev.drbg at h ⊢
    rwa [Dev.ddtStallEnd_rng]
  have hkeys : ∀ e : Dev, e.rng = d.rng →
      ({ (e.mgmtNonce c).2 with ddt := { (e.mgmtNonce c).2.ddt with hashKey := (e.mgmtNonce c).1.toNat } } : Dev).ddt = { e.ddt with hashKey := (d.mgmtNonce c).1.toNat } := by
    intro e hrng
    rw [show (e.mgmtNonce c).2.ddt = e.ddt from Dev.request_2_ddt .., Dev.mgmtNonce_1_congr c hrng]
  have hddt := hkeys (d.ddtStallEnd c).emptyTable (d.ddtStallEnd_rng c)
  unfold Dev.startDdt
  dsimp only
  rw [if_pos hserves]
  refine hddt.trans ?_
  simp only [Dev.emptyTable, hserves, Bool.not_true]
theorem Dev.startDdt_reg_ne {a : Nat} (h1 : a ≠ Off.ddtEvt) (h2 : a ≠ Off.ercLost) (h3 : a ≠ Off.ercEvt) (h4 : a ≠ Off.rngEvt) :
    (d.startDdt c).reg a = d.reg a := by
  unfold Dev.startDdt
  dsimp only
  refine Eq.trans ?_ (d.ddtStallEnd_reg_ne c h1 h2 h3)
  split
  · have h := Dev.request_2_reg_ne c (d.ddtStallEnd c).emptyTable 12 8 [] h4
    unfold Dev.reg at h ⊢
    exact h
  · rfl

/-- A size for a table that no base has placed yet. -/
theorem ddtPlaceW_unplaced {v : Word} (hlo : 18 ≤ fld v 4 0) (hhi : fld v 4 0 ≤ 29) (hr : d.ringsDefined = 0) (hm : d.mem.ddrReady = true) (hb : d.reg64 Off.ddtBaseLo = 0) :
    ddtPlaceW c Off.ddtSize v d = .took ((d.setReg Off.ddtSize (v &&& 0x1F#32)).startDdt c) := by
  have hb1 : (d.setReg Off.ddtSize (v &&& 0x1F#32)).reg64 Off.ddtBaseLo = 0 := by
    unfold Dev.reg64 at hb ⊢
    rwa [Dev.reg_setReg_ne _ _ (by decide), Dev.reg_setReg_ne _ _ (by decide)]
  have hsize : ¬(fld v 4 0 < 18 ∨ 29 < fld v 4 0) := by omega
  unfold ddtPlaceW
  simp only [if_true, hr, hm, hsize, hb, hb1]
  simp

/-! ### A stalled ring (R150) -/

theorem flowStallRetry_idle {sl rg : Nat} (hs : (d.ring sl rg).flowStall = true) (hf : (d.ring sl rg).fetched = []) :
    (flowStallRetryOp sl rg c d).ring sl rg = { d.ring sl rg with flowStall := false } := by
  have h : (d.updRing sl rg (fun x => { x with flowStall := false })).ring sl rg = { d.ring sl rg with flowStall := false } :=
    Dev.ring_updRing _ _ _ _ (fun x h1 h2 => ⟨h1, h2⟩)
  unfold flowStallRetryOp
  dsimp only
  rw [if_neg (by rw [hs]; decide)]
  split
  case h_2 hne => rw [hf] at hne; cases hne
  split
  · exact h
  · rwa [Dev.ring_congr (Dev.evtBit_rings ..)]

/-! ### Acknowledgements (R127, R132, R437) -/

theorem Dev.handoverGo_idle (h : d.fab.pair.handing = false) : d.handoverGo c = d := by
  simp [Dev.handoverGo, h]

/-- The completion of a change moves neither the pair nor the journal. -/
theorem Dev.changeDone_keeps (w : MirrorOf) :
    (d.changeDone w).fab = d.fab ∧ (d.changeDone w).jnl = d.jnl ∧ (d.changeDone w).reg Off.jnlEvt = d.reg Off.jnlEvt := by
  have hevt : ∀ off i, Off.jnlEvt ≠ off → (d.evtBit off i).fab = d.fab ∧ (d.evtBit off i).jnl = d.jnl ∧ (d.evtBit off i).reg Off.jnlEvt = d.reg Off.jnlEvt :=
    fun off i h => ⟨by simp, by simp, Dev.evtBit_reg_ne d i h⟩
  unfold Dev.changeDone
  split
  · exact ⟨by simp, by simp, Dev.hifEvent_reg_ne d _ _ _ (by decide)⟩
  · exact hevt _ _ (by decide)
  · split
    · exact hevt _ _ (by decide)
    · exact ⟨rfl, rfl, rfl⟩
  all_goals exact ⟨rfl, rfl, rfl⟩
theorem Dev.changesAll_keeps :
    d.changesAll.fab.pair.changes = [] ∧ d.changesAll.jnl = d.jnl ∧ d.changesAll.reg Off.jnlEvt = d.reg Off.jnlEvt := by
  unfold Dev.changesAll
  refine ⟨congrArg (fun (f : Fab) => f.pair.changes) (foldl_keep Dev.fab _ (fun a (w : MirrorChange) => (a.changeDone_keeps w.of).1) ..), foldl_keep Dev.jnl _ (fun a (w : MirrorChange) => (a.changeDone_keeps w.of).2.1) .., foldl_keep (Dev.reg · Off.jnlEvt) _ (fun a (w : MirrorChange) => (a.changeDone_keeps w.of).2.2) ..⟩

/-- The oldest change is complete, and nothing else of the journal or the pair moves. -/
theorem Dev.changeAck_first {w : MirrorChange} {rest : List MirrorChange} (h : d.fab.pair.changes = w :: rest) :
    d.changeAck.fab.pair = { d.fab.pair with changes := rest } ∧ d.changeAck.jnl = d.jnl
      ∧ ((∃ a b, w.of = .ring a b) → bit (d.changeAck.reg Off.hifEvt) 4 = true) := by
  unfold Dev.changeAck
  simp only [h]
  obtain ⟨hfab, hjnl, -⟩ := Dev.changeDone_keeps { d with fab := { d.fab with pair := { d.fab.pair with changes := rest } } } w.of
  refine ⟨by rw [hfab], hjnl, ?_⟩
  rintro ⟨a, b, hw⟩
  rw [hw]
  exact Dev.hifEvent_bit _ _ _ (by decide)

/-- An attachment whose acknowledgement is in: its wait ends and its head write-back is due. -/
theorem Dev.mirrorDone_attached {slot : Nat} {w : MirrorWait} (h : d.jnl.mirrorWait.find? (fun w => w.slot == slot) = some w) (ha : w.att = true) :
    d.mirrorDone c slot = ({ d with jnl := { d.jnl with mirrorWait := d.jnl.mirrorWait.erase w } }).updRing w.slice w.ring (fun r => { r with hwbSince := some c.now }) := by
  unfold Dev.mirrorDone
  simp only [h, ha]
  split <;> rfl
theorem mirrorAck_attached {slot : Nat} {w : MirrorWait} (h : d.jnl.mirrorWait.find? (fun w => w.slot == slot) = some w) (ha : w.att = true) :
    mirrorAckOp (.record slot) c d = ({ (d.setReg Off.jnlMirrorLat (BitVec.ofNat 32 (sat 0xFFFF (c.now - w.since)))) with jnl := { d.jnl with mirrorWait := d.jnl.mirrorWait.erase w } }).updRing w.slice w.ring (fun r => { r with hwbSince := some c.now }) := by
  unfold mirrorAckOp
  simp only [h]
  exact Dev.mirrorDone_attached c (d.setReg Off.jnlMirrorLat _) h ha

/-! ### Sync-degraded mode (R127) -/

/-- The wait at the head of the list ends, and the rest of the journal's frame stays. -/
theorem Dev.mirrorDone_head {w : MirrorWait} {rest : List MirrorWait} (h : d.jnl.mirrorWait = w :: rest) :
    (d.mirrorDone c w.slot).jnl.frame = { d.jnl.frame with mirrorWait := rest } ∧ (d.mirrorDone c w.slot).reg Off.jnlEvt = d.reg Off.jnlEvt := by
  have hfind : (w :: rest).find? (fun x => x.slot == w.slot) = some w := by simp
  unfold Dev.mirrorDone
  dsimp only
  simp only [h, hfind]
  have hafter : ∀ e : Dev, (e.afterAccept c w.slot).jnl.frame = e.jnl.frame ∧ (e.afterAccept c w.slot).reg Off.jnlEvt = e.reg Off.jnlEvt :=
    fun e => ⟨congrArg Steady.jnl (e.afterAccept_steady c w.slot), congrArg Steady.jnlEvt (e.afterAccept_steady c w.slot)⟩
  have hrest : (w :: rest).erase w = rest := List.erase_cons_head ..
  rw [hrest]
  split
  · exact ⟨rfl, rfl⟩
  · split
    · exact ⟨rfl, rfl⟩
    · split
      · exact hafter _
      · exact ⟨rfl, rfl⟩
/-- Every acceptance is complete after as many steps as there are. -/
theorem Dev.mirrorAll_all : ∀ (l : List MirrorWait) (d : Dev), d.jnl.mirrorWait = l →
    (d.mirrorAll c l.length).jnl.frame = { d.jnl.frame with mirrorWait := [] } ∧ (d.mirrorAll c l.length).reg Off.jnlEvt = d.reg Off.jnlEvt
  | [], d, h => by
    have hframe : d.jnl.frame = { d.jnl.frame with mirrorWait := d.jnl.frame.mirrorWait } := rfl
    exact ⟨by rw [show d.jnl.frame.mirrorWait = [] from h] at hframe; exact hframe, rfl⟩
  | w :: rest, d, h => by
    obtain ⟨hframe, hreg⟩ := d.mirrorDone_head c h
    obtain ⟨hf, hr⟩ := Dev.mirrorAll_all rest (d.mirrorDone c w.slot) (congrArg Jnl.mirrorWait hframe)
    rw [hframe] at hf
    rw [hreg] at hr
    simp only [List.length_cons, Dev.mirrorAll, h]
    exact ⟨hf, hr⟩
theorem Dev.degrade_facts : (d.degrade c).jnl.degraded = true ∧ (d.degrade c).jnl.mirrorWait = [] ∧ (d.degrade c).fab.pair.changes = []
    ∧ bit ((d.degrade c).reg Off.jnlEvt) 3 = true := by
  unfold Dev.degrade
  dsimp only
  generalize hd : Dev.evidence c Ev.mirrorDegraded _ (Dev.evtBit Off.jnlEvt 3 _) = d2
  have hdeg : d2.jnl.degraded = true := by rw [← hd]; simp
  have hbit : bit (d2.reg Off.jnlEvt) 3 = true := by
    rw [← hd, Dev.evidence_reg_ne _ _ _ _ (by decide) (by decide)]
    exact Dev.evtBit_bit _ _ (by decide)
  obtain ⟨hframe, hreg⟩ := Dev.mirrorAll_all c _ d2 rfl
  obtain ⟨hch, hjnl, hreg1⟩ := (d2.mirrorAll c d2.jnl.mirrorWait.length).changesAll_keeps
  refine ⟨?_, ?_, hch, ?_⟩
  · rw [hjnl]
    exact (congrArg Jnl.degraded hframe).trans hdeg
  · rw [hjnl]
    exact congrArg Jnl.mirrorWait hframe
  · rw [hreg1, hreg]
    exact hbit

theorem Dev.handoverFail_keeps : d.handoverFail.jnl = d.jnl ∧ d.handoverFail.fab.pair.changes = d.fab.pair.changes ∧ d.handoverFail.reg Off.jnlEvt = d.reg Off.jnlEvt := by
  unfold Dev.handoverFail
  dsimp only
  split
  · split
    · unfold Dev.pairEnd
      rw [Dev.evtBit_reg_ne _ _ (by decide)]
      exact ⟨by simp, by simp, rfl⟩
    · exact ⟨rfl, rfl, rfl⟩
  · exact ⟨rfl, rfl, rfl⟩

theorem mirrorTimeout_early {of : AckOf} {t : Nat} (ht : d.ackSince of = some t) (h : c.now < t + 40000) : mirrorTimeoutOp of c d = d := by
  have hop : mirrorAckTimeoutOp of c d = d := by
    unfold mirrorAckTimeoutOp
    rw [ht]
    exact if_neg (by simp only [nsUs]; omega)
  unfold mirrorTimeoutOp
  rw [hop]
  simp
theorem mirrorTimeout_due {of : AckOf} {t : Nat} (ht : d.ackSince of = some t) (h : t + 40000 ≤ c.now) :
    mirrorTimeoutOp of c d = if d.jnl.degraded then d.degrade c else (d.degrade c).handoverFail := by
  have hop : mirrorAckTimeoutOp of c d = d.degrade c := by
    unfold mirrorAckTimeoutOp
    rw [ht]
    exact if_pos (by simp only [nsUs]; omega)
  unfold mirrorTimeoutOp
  rw [hop]
  cases hd : d.jnl.degraded <;> simp [(d.degrade_facts c).1]
theorem mirrorTimeout_degraded {of : AckOf} {t : Nat} (ht : d.ackSince of = some t) (h : t + 40000 ≤ c.now) :
    (mirrorTimeoutOp of c d).jnl.degraded = true ∧ (mirrorTimeoutOp of c d).jnl.mirrorWait = [] ∧ (mirrorTimeoutOp of c d).fab.pair.changes = []
      ∧ bit ((mirrorTimeoutOp of c d).reg Off.jnlEvt) 3 = true := by
  rw [mirrorTimeout_due c d ht h]
  split
  · exact d.degrade_facts c
  · obtain ⟨hjnl, hch, hreg⟩ := (d.degrade c).handoverFail_keeps
    rw [hjnl, hch, hreg]
    exact d.degrade_facts c
end

/-- Settles O18, a conjunct per command: the table made anew, its readiness, the two retries, the acknowledgement and its timeout. -/
theorem tableRows : Obligations.TableRows := by
  unfold Obligations.TableRows
  intro s
  refine ⟨fun v hm hlo hhi hr hd hb hg => ?_, fun hi => ?_, fun t ht => ⟨fun hall => ?_, fun r f rest d1 hfind hf ho hcr hlet => ?_⟩, fun sl rg hs hf => ?_,
    fun hh => ⟨fun slot w hw ha => ?_, fun w rest hw => ?_⟩, fun of t ht => ⟨fun h => ?_, fun h => ?_⟩⟩
  · refine ⟨_, exec_ddtReinit .., DevOnly.of_dev .., ?_⟩
    have hg1 : (s.dev.setReg Off.ddtSize (v &&& 0x1F#32)).mgmtDrbg = true := hg
    dsimp only
    rw [if_pos (Or.inr (Or.inr rfl)), hostWrite_own hm (by decide) (ddtPlaceW_unplaced s.ctx s.dev hlo hhi hr hd hb), Dev.startDdt_served s.ctx _ hg1,
      Dev.startDdt_reg_ne s.ctx _ (by decide) (by decide) (by decide) (by decide)]
    exact ⟨rfl, rfl, rfl, congrArg BitVec.toNat (Dev.mgmtNonce_1_congr s.ctx rfl), Dev.reg_setReg ..⟩
  · refine ⟨_, exec_ddtInitDone s, DevOnly.of_dev .., ?_⟩
    simp only [ddtInitDoneOp, hi, if_true, Dev.evtBit_ddt, true_and]
    exact Dev.evtBit_bit _ _ (by decide)
  · refine ⟨_, exec_ddtStallRetry s, DevOnly.of_dev .., ?_⟩
    have hnone : s.dev.hif.rings.find? (fun x => x.ddtStall && x.state == .active && !x.fetched.isEmpty) = none := by
      rw [List.find?_eq_none]
      intro x hx
      have := List.all_eq_true.mp hall x hx
      simp_all
    simp only [ddtStallRetryOp, ht, hnone]
    exact Dev.ddtStallEnd_stalled s.ctx _ ht
  · refine ⟨_, exec_ddtStallRetry s, DevOnly.of_dev .., ?_⟩
    have hop : ddtStallRetryOp s.ctx s.dev = d1.ddtStallEnd s.ctx := by
      simp [ddtStallRetryOp, ht, hfind, hf, ho, hcr, hlet]
    exact ⟨hop, by rw [hop]; exact d1.ddtStallEnd_none s.ctx⟩
  · exact ⟨_, exec_flowStallRetry sl rg s, DevOnly.of_dev .., flowStallRetry_idle s.ctx s.dev hs hf⟩
  · refine ⟨_, exec_mirrorAck _ s, DevOnly.of_dev .., ?_⟩
    have hop := mirrorAck_attached s.ctx s.dev hw ha
    dsimp only
    rw [Dev.handoverGo_idle s.ctx _ (by rw [hop]; exact hh), hop]
    refine ⟨rfl, Dev.ring_updRing _ _ _ _ (fun x h1 h2 => ⟨h1, h2⟩), ?_⟩
    rw [Dev.updRing_reg]
    refine (congrArg BitVec.toNat (Dev.reg_setReg ..)).trans ?_
    have hsat : ∀ n, sat 0xFFFF n = min 0xFFFF n := by
      intro n
      unfold sat
      split <;> omega
    rw [hsat, BitVec.toNat_ofNat]
    exact Nat.mod_eq_of_lt (by omega)
  · obtain ⟨hpair, hjnl, hbit⟩ := s.dev.changeAck_first hw
    refine ⟨_, exec_mirrorAck _ s, DevOnly.of_dev .., ?_⟩
    have hgo : (mirrorAckOp .change s.ctx s.dev).handoverGo s.ctx = s.dev.changeAck := Dev.handoverGo_idle s.ctx _ (by rw [show mirrorAckOp .change s.ctx s.dev = s.dev.changeAck from rfl, hpair]; exact hh)
    dsimp only
    rw [hgo]
    exact ⟨by rw [hpair], hjnl, hbit⟩
  · rw [exec_mirrorAckTimeout, mirrorTimeout_early s.ctx s.dev ht h]
  · exact ⟨_, exec_mirrorAckTimeout of s, DevOnly.of_dev .., mirrorTimeout_degraded s.ctx s.dev ht h⟩

end Sys2Proof.Machine

/-! Binding, stopping and freeing a slice (R107, R387, R388, R390, R391, R393, R394, R407, R437). -/

namespace Sys2Proof.Machine

/-! ### The commands -/

/-- A host write of HIF_SLICE_CMD, with nothing read from outside. -/
def State.sliceWrite (v : Word) (s : State) : State := { s with dev := s.dev.hostWrite s.ctx Off.hifSliceCmd (sliceCmdW s.ctx v none) }

theorem exec_sliceBind (s : State) : exec .sliceBind s = .next (s.sliceWrite 1#32) := rfl
theorem exec_sliceFreeze (q : Bool) (s : State) : exec (.sliceFreeze q) s = .next (s.sliceWrite (packW [(0, 2), (4, b2n q)])) := rfl
theorem exec_sliceThaw (s : State) : exec .sliceThaw s = .next (s.sliceWrite 3#32) := rfl
theorem exec_sliceReset (q : Bool) (s : State) : exec (.sliceReset q) s = .next (s.sliceWrite (packW [(0, 4), (4, b2n q)])) := rfl
theorem exec_sliceRemove (q : Bool) (s : State) : exec (.sliceRemove q) s = .next (s.sliceWrite (packW [(0, 5), (4, b2n q)])) := rfl
theorem exec_sliceDrainDone (k : Nat) (s : State) : exec (.sliceDrainDone k) s = .next { s with dev := sliceDrainOp k s.ctx s.dev } := rfl
theorem exec_retainElapsed (k : Nat) (s : State) : exec (.retainElapsed k) s = .next { s with dev := retainElapsedOp k s.ctx s.dev } := rfl

theorem State.sliceWrite_took {s : State} {v : Word} {e : Dev} (hm : HostMay s true Off.hifSliceCmd) (h : sliceCmdW s.ctx v none s.dev = .took e) :
    s.sliceWrite v = { s with dev := e } := by
  unfold State.sliceWrite
  rw [hostWrite_own hm (by decide) h]

/-! ### The end of a slice command (R407, R437) -/

section
variable (c : Ctx) (d : Dev)

theorem Dev.slice_congr {d e : Dev} (h : d.slices = e.slices) (n : Nat) : d.slice n = e.slice n := by
  unfold Dev.slice
  rw [h]
/-- A slice in another state, its command still in progress. -/
def Slice.moved (st : SliceState) (x : Slice) : Slice := { x with state := st }
/-- The slice that a command leaves. -/
def Slice.ended (res : Nat) (x : Slice) : Slice := { x with cmd := none, squash := false, pendingResult := 0, image := [], result := res }

theorem Dev.sliceEnd_eq (n res : Nat) : d.sliceEnd c n res =
    if res = 0 then (d.updSlice n (Slice.ended res)).sliceChanged c n (.slice n) else (d.updSlice n (Slice.ended res)).evtBit Off.hifSliceEvt 0 := rfl
theorem Dev.sliceEnd_keeps (n res : Nat) :
    (d.sliceEnd c n res).slice n = (d.slice n).ended res ∧ (d.sliceEnd c n res).hif.rings = d.hif.rings
      ∧ (res ≠ 0 ∨ d.syncMirror = false → bit ((d.sliceEnd c n res).reg Off.hifSliceEvt) 0 = true) := by
  have hslice : (d.updSlice n (Slice.ended res)).slice n = (d.slice n).ended res := Dev.slice_updSlice _ _ _ (fun _ h => h)
  have hevt : ∀ e : Dev, bit ((e.evtBit Off.hifSliceEvt 0).reg Off.hifSliceEvt) 0 = true := fun e => by
    rw [Dev.evtBit_reg]
    exact bit_or_one _
  have hsend := (d.updSlice n (Slice.ended res)).sendSlice_sends n
  rw [Dev.sliceEnd_eq]
  split
  · next h0 =>
    unfold Dev.sliceChanged Dev.awaitAck
    split
    · next hsync =>
      refine ⟨(Dev.slice_congr hsend.sl n).trans hslice, congrArg Hif.rings hsend.hif, fun hnot => ?_⟩
      rw [hsend.sync] at hsync
      rcases hnot with h | h
      · exact absurd h0 h
      · exact absurd (hsync.symm.trans h) (by decide)
    · refine ⟨(Dev.slice_congr ((Dev.evtBit_slices ..).trans hsend.sl) n).trans hslice, (Dev.evtBit_rings ..).trans (congrArg Hif.rings hsend.hif), fun _ => hevt _⟩
  · exact ⟨(Dev.slice_congr (Dev.evtBit_slices ..) n).trans hslice, Dev.evtBit_rings .., fun _ => hevt _⟩

/-! ### A drain begins (R391, R393) -/

@[simp] theorem Dev.dissolve_steady (b : Barrier) : (d.dissolve c b).steady = d.steady := by
  unfold Dev.dissolve
  dsimp only
  rw [foldl_keep Dev.steady _ (fun a k => by simp)]
  rfl
@[simp] theorem Dev.drainStart_steady (n : Nat) : (d.drainStart c n).steady = d.steady :=
  foldl_keep Dev.steady _ (fun a b => a.dissolve_steady c b) ..
@[simp] theorem Dev.squashAll_steady (n : Nat) : (d.squashAll c n).steady = d.steady := by
  unfold Dev.squashAll
  dsimp only
  rw [foldl_keep Dev.steady _ (fun a r => by simp), foldl_keep Dev.steady _ (fun a i => by simp), Dev.drainStart_steady]

/-- What is found after a change, of a wider kind of elements, that keeps the property. -/
theorem find_updWhere_wider {α : Type} (p q : α → Bool) (f : α → α) (hqp : ∀ x, q x = true → p x = true) (hf : ∀ x, p x = true → q (f x) = q x) :
    ∀ l : List α, (updWhere p f l).find? q = (l.find? q).map f
  | [] => rfl
  | a :: t => by
    have ih := find_updWhere_wider p q f hqp hf t
    simp only [updWhere, List.map_cons, List.find?_cons] at *
    by_cases h : p a = true
    · cases hq : q a <;> simp [h, hf a h, hq, ih]
    · have hq : q a = false := by
        by_contra hc
        exact h (hqp a (by simpa using hc))
      simp [h, hq, ih]

/-- The rings of a slice, all changed. -/
def Dev.updRings (n : Nat) (f : Ring → Ring) (d : Dev) : Dev := { d with hif := { d.hif with rings := updWhere (fun r => r.slice == n) f d.hif.rings } }

theorem Dev.ring_updRings (n r : Nat) (f : Ring → Ring) (hf : ∀ x : Ring, (f x).slice = x.slice ∧ (f x).num = x.num) (hd : f { slice := n, num := r } = { slice := n, num := r }) :
    (d.updRings n f).ring n r = f (d.ring n r) := by
  unfold Dev.ring Dev.updRings
  rw [find_updWhere_wider]
  · cases d.hif.rings.find? (fun x => x.slice == n && x.num == r) with
    | none => exact hd.symm
    | some x => rfl
  · intro x hx
    simp only [Bool.and_eq_true] at hx
    exact hx.1
  · intro x _
    rw [(hf x).1, (hf x).2]

/-- What a stopping slice leaves in the host's rings. -/
def Ring.unfetched (r : Ring) : Ring := { r with fetched := [], ddtStall := false, flowStall := false }

/-- The slice that a stopping command begins with. -/
def Slice.stopping (cmd : SliceCmd) (q : Bool) (x : Slice) : Slice := { x with state := .draining, prev := x.state, cmd := some cmd, squash := q }

theorem Dev.stop_keeps (n : Nat) (cmd : SliceCmd) (q : Bool) :
    (d.stop c n cmd q).slice n = (d.slice n).stopping cmd q
      ∧ ∀ r, (d.stop c n cmd q).ring n r = (d.ring n r).unfetched := by
  have hsteady : (d.stop c n cmd q).steady = ((d.updSlice n (Slice.stopping cmd q)).updRings n Ring.unfetched).steady := by
    unfold Dev.stop
    dsimp only
    split
    · exact Dev.squashAll_steady ..
    · exact Dev.drainStart_steady ..
  have hslice : (d.updSlice n (Slice.stopping cmd q)).slice n = (d.slice n).stopping cmd q := Dev.slice_updSlice _ _ _ (fun _ h => h)
  refine ⟨(Dev.slice_congr (congrArg Steady.slices hsteady) n).trans hslice, fun r => ?_⟩
  exact (Dev.ring_congr (congrArg Steady.rings hsteady) ..).trans (Dev.ring_updRings _ n r Ring.unfetched (fun _ => ⟨rfl, rfl⟩) rfl)

/-! ### What a write of HIF_SLICE_CMD does (R390, R393, R407) -/

/-- The states in which a stopping command is listed (R390). -/
def SliceCmd.stops : SliceCmd → SliceState → Bool
  | .freeze, st => st == .bound
  | .reset, st => st == .bound || st == .frozen
  | _, st => st == .bound || st == .frozen || st == .saved

theorem Dev.stopCmd_idle {n : Nat} (cmd : SliceCmd) (q : Bool) (hc : (d.slice n).cmd = none) (hw : d.changing (fun w => w == .slice n) = false) :
    d.stopCmd c n cmd q = .took (if cmd.stops (d.slice n).state then d.stop c n cmd q else d.sliceEnd c n SlRes.badState) := by
  unfold Dev.stopCmd
  dsimp only
  rw [if_neg (by simp [hc]), if_neg (by simp [hc, hw]), apply_ite WOut.took]
  cases cmd <;> rfl
theorem Dev.stopCmd_again {n : Nat} {cmd : SliceCmd} (hc : (d.slice n).cmd = some cmd) (hs : (d.slice n).state = .draining) (hq : (d.slice n).squash = false) :
    d.stopCmd c n cmd true = .took ((d.updSlice n (fun x => { x with squash := true })).squashAll c n) := by
  unfold Dev.stopCmd
  exact if_pos ⟨hc, hq, rfl, hs⟩
theorem sliceCmdW_freeze (q : Bool) (ext : Option SliceExt) : sliceCmdW c (packW [(0, 2), (4, b2n q)]) ext d = d.stopCmd c d.migSlice .freeze q := by
  cases q <;> rfl
theorem sliceCmdW_reset (q : Bool) (ext : Option SliceExt) : sliceCmdW c (packW [(0, 4), (4, b2n q)]) ext d = d.stopCmd c d.migSlice .reset q := by
  cases q <;> rfl
theorem sliceCmdW_remove (q : Bool) (ext : Option SliceExt) : sliceCmdW c (packW [(0, 5), (4, b2n q)]) ext d = d.stopCmd c d.migSlice .remove q := by
  cases q <;> rfl
theorem sliceCmdW_bind (ext : Option SliceExt) (hc : (d.slice d.migSlice).cmd = none) (hw : d.changing (fun w => w == .slice d.migSlice) = false) :
    sliceCmdW c 1#32 ext d = .took (d.bind c d.migSlice) := by
  unfold sliceCmdW
  simp [hc, hw, fld]
theorem sliceCmdW_thaw (ext : Option SliceExt) (hc : (d.slice d.migSlice).cmd = none) (hw : d.changing (fun w => w == .slice d.migSlice) = false) :
    sliceCmdW c 3#32 ext d = .took (if (d.slice d.migSlice).state = .frozen then (d.updSlice d.migSlice (Slice.moved .bound)).sliceEnd c d.migSlice 0
      else d.sliceEnd c d.migSlice SlRes.badState) := by
  unfold sliceCmdW
  simp only [hc, hw, fld]
  rfl
end

/-! ### The rings of a slice are destroyed (R394) -/

section
variable (c : Ctx) (d : Dev)

theorem Dev.mirroring_sends {f : Dev → Dev} (h : ∀ e : Dev, (f e).slices = e.slices ∧ (f e).hif = e.hif) :
    (d.mirroring f).slices = d.slices ∧ (d.mirroring f).hif = d.hif := by
  unfold Dev.mirroring
  split
  · exact h d
  · exact ⟨rfl, rfl⟩
theorem Dev.sendRings_keeps (l : List Ring) (n : Nat) :
    (l.foldl (fun (a : Dev) r => a.sendRing n r.num) d).slices = d.slices ∧ (l.foldl (fun (a : Dev) r => a.sendRing n r.num) d).hif = d.hif :=
  ⟨foldl_keep Dev.slices _ (fun _ _ => Dev.sendPeer_slices ..) .., foldl_keep Dev.hif _ (fun _ _ => Dev.sendPeer_hif ..) ..⟩
theorem Dev.destroyRings_keeps (n : Nat) :
    (d.destroyRings n).slices = d.slices ∧ (d.destroyRings n).hif.rings = (d.updRings n Ring.absent).hif.rings := by
  have hsteady : ((((d.jnl.owed.filter (fun o => o.slice == n)).map (fun o => o.slot)).foldl (fun a k => a.discardEntry k) d)).steady = d.steady :=
    foldl_keep Dev.steady _ (fun a k => a.discardEntry_steady k) ..
  unfold Dev.destroyRings
  dsimp only
  generalize List.foldl _ d _ = e at hsteady ⊢
  obtain ⟨hslices, hhif⟩ := Dev.mirroring_sends { e with
    hif := { e.hif with rings := updWhere (fun r => r.slice == n) Ring.absent e.hif.rings, barriers := e.hif.barriers.filter (fun b => b.slice != n) }
    jnl := { e.jnl with mirrorWait := e.jnl.mirrorWait.filter (fun w => w.slice != n) } } (fun x => x.sendRings_keeps (x.hif.rings.filter (fun r => r.slice == n)) n)
  refine ⟨hslices.trans (congrArg Steady.slices hsteady), (congrArg Hif.rings hhif).trans ?_⟩
  show updWhere _ _ e.hif.rings = _
  rw [show e.hif.rings = d.hif.rings from congrArg Steady.rings hsteady]
  rfl

/-- The end of a drain that destroys the rings. -/
theorem Dev.destroyed_keeps (n : Nat) (f : Slice → Slice) (hf : ∀ x : Slice, x.num = n → (f x).num = n) :
    (((d.destroyRings n).updSlice n f).sliceEnd c n 0).slice n = (f (d.slice n)).ended 0
      ∧ ∀ r, (((d.destroyRings n).updSlice n f).sliceEnd c n 0).ring n r = (d.ring n r).absent := by
  obtain ⟨hslices, hrings⟩ := d.destroyRings_keeps n
  obtain ⟨hend, hring, -⟩ := ((d.destroyRings n).updSlice n f).sliceEnd_keeps c n 0
  refine ⟨?_, fun r => ?_⟩
  · rw [hend, Dev.slice_updSlice _ _ _ hf, Dev.slice_congr hslices]
  · exact (Dev.ring_congr (hring.trans hrings) ..).trans (Dev.ring_updRings d n r Ring.absent (fun _ => ⟨rfl, rfl⟩) rfl)

theorem sliceDrain_ends {k : Nat} (hs : (d.slice k).state = .draining) (hw : d.warning = false) (hd : d.drained k = true) :
    sliceDrainOp k c d = match (d.slice k).cmd with
      | some .freeze => (d.updSlice k (Slice.moved .frozen)).sliceEnd c k 0
      | some .reset => ((d.destroyRings k).updSlice k (Slice.moved .bound)).sliceEnd c k 0
      | some .remove => ((d.destroyRings k).updSlice k (fun x => { x with state := .retaining, since := c.now })).sliceEnd c k 0
      | _ => d := by
  unfold sliceDrainOp
  dsimp only
  rw [if_neg (by simp [hs, hw, hd])]
  rfl
end

/-! ### The outcomes, as the obligation words them -/

/-- A command of the selected slice ended with this state and this result. -/
def SliceEnded (s : State) (o : Host.Outcome State Fault Refusal) (st : SliceState) (res : Nat) : Prop :=
  ∃ u, o = .next u ∧ DevOnly s u ∧ (u.dev.slice s.dev.migSlice).state = st ∧ (u.dev.slice s.dev.migSlice).cmd = none
    ∧ (u.dev.slice s.dev.migSlice).result = res ∧ (res ≠ 0 ∨ s.dev.syncMirror = false → bit (u.dev.reg Off.hifSliceEvt) 0 = true)
/-- A stopping command of the selected slice began. -/
def SliceBegun (s : State) (o : Host.Outcome State Fault Refusal) (k : SliceCmd) (q : Bool) : Prop :=
  ∃ u, o = .next u ∧ DevOnly s u ∧ (u.dev.slice s.dev.migSlice).state = .draining ∧ (u.dev.slice s.dev.migSlice).cmd = some k
    ∧ (u.dev.slice s.dev.migSlice).squash = q ∧ (∀ r, (u.dev.ring s.dev.migSlice r).fetched = [])
    ∧ (∀ r, (u.dev.ring s.dev.migSlice r).accepted = (s.dev.ring s.dev.migSlice r).accepted)
/-- The command in progress turned to SQUASH. -/
def SliceTurned (s : State) (o : Host.Outcome State Fault Refusal) : Prop :=
  ∃ u, o = .next u ∧ DevOnly s u ∧ u.dev.slice s.dev.migSlice = { s.dev.slice s.dev.migSlice with squash := true } ∧ u.dev.hif.rings = s.dev.hif.rings

section
variable {s : State} {v : Word} (hm : HostMay s true Off.hifSliceCmd)
include hm

theorem sliceEnded_of_took {e : Dev} {st : SliceState} {res : Nat} (h : sliceCmdW s.ctx v none s.dev = .took (e.sliceEnd s.ctx s.dev.migSlice res))
    (hst : (e.slice s.dev.migSlice).state = st) (hsync : e.syncMirror = s.dev.syncMirror) : SliceEnded s (.next (s.sliceWrite v)) st res := by
  obtain ⟨hslice, -, hevt⟩ := e.sliceEnd_keeps s.ctx s.dev.migSlice res
  refine ⟨_, congrArg _ (State.sliceWrite_took hm h), DevOnly.of_dev .., ?_⟩
  dsimp only
  rw [hslice]
  exact ⟨hst, rfl, rfl, hsync ▸ hevt⟩

section
variable {cmd : SliceCmd} {q : Bool} (hv : sliceCmdW s.ctx v none s.dev = s.dev.stopCmd s.ctx s.dev.migSlice cmd q)
include hv

theorem sliceBegun_of_stops (hc : (s.dev.slice s.dev.migSlice).cmd = none) (hw : s.dev.changing (fun w => w == .slice s.dev.migSlice) = false)
    (h : cmd.stops (s.dev.slice s.dev.migSlice).state = true) : SliceBegun s (.next (s.sliceWrite v)) cmd q := by
  rw [Dev.stopCmd_idle s.ctx s.dev cmd q hc hw, if_pos h] at hv
  obtain ⟨hslice, hring⟩ := s.dev.stop_keeps s.ctx s.dev.migSlice cmd q
  refine ⟨_, congrArg _ (State.sliceWrite_took hm hv), DevOnly.of_dev .., ?_⟩
  dsimp only
  rw [hslice]
  exact ⟨rfl, rfl, rfl, fun r => by rw [hring r]; rfl, fun r => by rw [hring r]; rfl⟩
theorem sliceEnded_of_not_stops (hc : (s.dev.slice s.dev.migSlice).cmd = none) (hw : s.dev.changing (fun w => w == .slice s.dev.migSlice) = false)
    {st : SliceState} (hst : (s.dev.slice s.dev.migSlice).state = st) (h : cmd.stops st = false) : SliceEnded s (.next (s.sliceWrite v)) st 1 := by
  rw [Dev.stopCmd_idle s.ctx s.dev cmd q hc hw, if_neg (by rw [hst, h]; decide)] at hv
  exact sliceEnded_of_took hm hv hst rfl
end

theorem sliceTurned_of_again {cmd : SliceCmd} (hv : sliceCmdW s.ctx v none s.dev = s.dev.stopCmd s.ctx s.dev.migSlice cmd true)
    (hst : (s.dev.slice s.dev.migSlice).state = .draining) (hq : (s.dev.slice s.dev.migSlice).squash = false) (hc : (s.dev.slice s.dev.migSlice).cmd = some cmd) :
    SliceTurned s (.next (s.sliceWrite v)) := by
  rw [Dev.stopCmd_again s.ctx s.dev hc hst hq] at hv
  have hsteady := (s.dev.updSlice s.dev.migSlice (fun x => { x with squash := true })).squashAll_steady s.ctx s.dev.migSlice
  refine ⟨_, congrArg _ (State.sliceWrite_took hm hv), DevOnly.of_dev .., ?_, congrArg Steady.rings hsteady⟩
  exact (Dev.slice_congr (congrArg Steady.slices hsteady) _).trans (Dev.slice_updSlice _ _ _ (fun _ h => h))

section
variable (hc : (s.dev.slice s.dev.migSlice).cmd = none) (hw : s.dev.changing (fun w => w == .slice s.dev.migSlice) = false)
include hc hw

/-- BIND of a free number with a free PASID. -/
theorem sliceBind_binds (hst : (s.dev.slice s.dev.migSlice).state = .unbound) (hp : s.dev.pasidTaken s.dev.migSlice = false) :
    SliceEnded s (.next (s.sliceWrite 1#32)) .bound 0 ∧ ((s.sliceWrite 1#32).dev.slice s.dev.migSlice).pasid = s.dev.stagedPasid
      ∧ ((s.sliceWrite 1#32).dev.slice s.dev.migSlice).domain = s.dev.stagedDomain ∧ ((s.sliceWrite 1#32).dev.slice s.dev.migSlice).rings = fld (s.dev.reg Off.hifSliceRings) 15 0 := by
  have hv := sliceCmdW_bind s.ctx s.dev none hc hw
  unfold Dev.bind at hv
  dsimp only at hv
  rw [if_neg (by rw [hst]; decide), if_neg (by rw [hp]; decide)] at hv
  generalize hf : (fun (x : Slice) => ({ x with state := .bound, pasid := _, noPasid := _, domain := _, rings := _, weight := _, expiry := _, effWeight := _, effExpiry := _ } : Slice)) = f at hv
  have hslice : (s.dev.updSlice s.dev.migSlice f).slice s.dev.migSlice = f (s.dev.slice s.dev.migSlice) := Dev.slice_updSlice _ _ _ (fun x h => by rw [← hf]; exact h)
  obtain ⟨hend, -, -⟩ := (s.dev.updSlice s.dev.migSlice f).sliceEnd_keeps s.ctx s.dev.migSlice 0
  rw [hslice] at hend
  refine ⟨sliceEnded_of_took hm hv (by rw [hslice, ← hf]) rfl, ?_⟩
  rw [State.sliceWrite_took hm hv]
  dsimp only
  rw [hend, ← hf]
  exact ⟨rfl, rfl, rfl⟩
theorem sliceBind_taken (hst : (s.dev.slice s.dev.migSlice).state = .unbound) (hp : s.dev.pasidTaken s.dev.migSlice = true) :
    SliceEnded s (.next (s.sliceWrite 1#32)) .unbound 3 := by
  have hv := sliceCmdW_bind s.ctx s.dev none hc hw
  unfold Dev.bind at hv
  dsimp only at hv
  rw [if_neg (by rw [hst]; decide), if_pos hp] at hv
  exact sliceEnded_of_took hm hv hst rfl
theorem sliceBind_badState (hst : (s.dev.slice s.dev.migSlice).state ≠ .unbound) :
    SliceEnded s (.next (s.sliceWrite 1#32)) (s.dev.slice s.dev.migSlice).state 1 := by
  have hv := sliceCmdW_bind s.ctx s.dev none hc hw
  unfold Dev.bind at hv
  dsimp only at hv
  rw [if_pos hst] at hv
  exact sliceEnded_of_took hm hv rfl rfl
theorem sliceThaw_thaws (hst : (s.dev.slice s.dev.migSlice).state = .frozen) : SliceEnded s (.next (s.sliceWrite 3#32)) .bound 0 := by
  have hv := sliceCmdW_thaw s.ctx s.dev none hc hw
  rw [if_pos hst] at hv
  exact sliceEnded_of_took hm hv (congrArg Slice.state (Dev.slice_updSlice _ _ (Slice.moved .bound) (fun _ h => h))) rfl
theorem sliceThaw_badState (hst : (s.dev.slice s.dev.migSlice).state ≠ .frozen) :
    SliceEnded s (.next (s.sliceWrite 3#32)) (s.dev.slice s.dev.migSlice).state 1 := by
  have hv := sliceCmdW_thaw s.ctx s.dev none hc hw
  rw [if_neg hst] at hv
  exact sliceEnded_of_took hm hv rfl rfl
end
end

/-! ### The end of the retention (R107, R390) -/

section
variable {s : State} {k : Nat}

theorem retainElapsed_frees (hst : (s.dev.slice k).state = .retaining) (h : (s.dev.slice k).since + s.dev.ddtRetain ≤ s.st.toNat) :
    ∃ u, exec (.retainElapsed k) s = .next u ∧ DevOnly s u ∧ u.dev.slice k = { num := k, result := (s.dev.slice k).result }
      ∧ (s.dev.fab.pair.role ≠ .active → u.dev.regs = s.dev.regs) := by
  have hop : retainElapsedOp k s.ctx s.dev = (s.dev.updSlice k Slice.unbind).mirroring (Dev.sendSlice k) := if_pos ⟨hst, h⟩
  have hsends := (s.dev.updSlice k Slice.unbind).sendSlice_sends k
  have hslice : (s.dev.updSlice k Slice.unbind).slice k = (s.dev.slice k).unbind := Dev.slice_updSlice _ _ _ (fun _ h => h)
  refine ⟨_, exec_retainElapsed k s, DevOnly.of_dev .., ?_, fun _ => ?_⟩
  · dsimp only
    rw [hop, Dev.slice_congr hsends.sl, hslice, Slice.unbind, Dev.slice_num]
  · dsimp only
    rw [hop, hsends.regs]
    rfl
theorem retainElapsed_early (h : s.st.toNat < (s.dev.slice k).since + s.dev.ddtRetain) : exec (.retainElapsed k) s = .next s := by
  have hop : retainElapsedOp k s.ctx s.dev = s.dev := if_neg (fun hn => Nat.lt_irrefl _ (Nat.lt_of_lt_of_le h hn.2))
  rw [exec_retainElapsed, hop]
end

/-- Settles O32: a conjunct per command and state, by what the write does; then the end of a drain by the command in progress, and the retention. -/
theorem sliceCommands : Obligations.SliceCommands := by
  unfold Obligations.SliceCommands
  intro s
  dsimp only
  refine ⟨fun hm hc hw => ⟨fun hst hp => ?_, fun hst hp => ?_, fun hst => ?_, fun q hst => ?_, fun q hst => ?_, fun q hst => ?_, fun q hst => ?_, fun hst => ?_, fun hst => ?_⟩,
    fun hm hst hq => ⟨fun hc => ?_, fun hc => ?_, fun hc => ?_⟩, fun k hst hwarn hd => ⟨fun hc => ?_, fun hc => ?_, fun hc => ?_⟩, fun k hst => ⟨fun h => ?_, fun h => ?_⟩⟩
  · exact sliceBind_binds hm hc hw hst hp
  · exact sliceBind_taken hm hc hw hst hp
  · exact sliceBind_badState hm hc hw hst
  · have hstops : ∀ cmd : SliceCmd, cmd.stops (s.dev.slice s.dev.migSlice).state = true := by
      intro cmd
      rw [hst]
      cases cmd <;> rfl
    exact ⟨sliceBegun_of_stops hm (sliceCmdW_freeze ..) hc hw (hstops _), sliceBegun_of_stops hm (sliceCmdW_reset ..) hc hw (hstops _),
      sliceBegun_of_stops hm (sliceCmdW_remove ..) hc hw (hstops _)⟩
  · exact ⟨sliceEnded_of_not_stops hm (sliceCmdW_freeze s.ctx s.dev q none) hc hw hst rfl, sliceBegun_of_stops hm (sliceCmdW_reset ..) hc hw (by rw [hst]; rfl),
      sliceBegun_of_stops hm (sliceCmdW_remove ..) hc hw (by rw [hst]; rfl)⟩
  · exact ⟨sliceEnded_of_not_stops hm (sliceCmdW_freeze s.ctx s.dev q none) hc hw hst rfl, sliceEnded_of_not_stops hm (sliceCmdW_reset s.ctx s.dev q none) hc hw hst rfl,
      sliceBegun_of_stops hm (sliceCmdW_remove ..) hc hw (by rw [hst]; rfl)⟩
  · exact ⟨sliceEnded_of_not_stops hm (sliceCmdW_freeze s.ctx s.dev q none) hc hw hst rfl, sliceEnded_of_not_stops hm (sliceCmdW_reset s.ctx s.dev q none) hc hw hst rfl,
      sliceEnded_of_not_stops hm (sliceCmdW_remove s.ctx s.dev q none) hc hw hst rfl⟩
  · exact sliceThaw_thaws hm hc hw hst
  · exact sliceThaw_badState hm hc hw hst
  · exact sliceTurned_of_again hm (sliceCmdW_freeze ..) hst hq hc
  · exact sliceTurned_of_again hm (sliceCmdW_reset ..) hst hq hc
  · exact sliceTurned_of_again hm (sliceCmdW_remove ..) hst hq hc
  · have hop := sliceDrain_ends s.ctx s.dev hst hwarn hd
    simp only [hc] at hop
    obtain ⟨hslice, hrings, -⟩ := (s.dev.updSlice k (Slice.moved .frozen)).sliceEnd_keeps s.ctx k 0
    refine ⟨_, exec_sliceDrainDone k s, DevOnly.of_dev .., ?_⟩
    dsimp only
    rw [hop, hslice, Dev.slice_updSlice _ _ (Slice.moved .frozen) (fun _ h => h)]
    exact ⟨rfl, rfl, hrings⟩
  · have hop := sliceDrain_ends s.ctx s.dev hst hwarn hd
    simp only [hc] at hop
    obtain ⟨hslice, hring⟩ := s.dev.destroyed_keeps s.ctx k (Slice.moved .bound) (fun _ h => h)
    refine ⟨_, exec_sliceDrainDone k s, DevOnly.of_dev .., ?_⟩
    dsimp only
    rw [hop, hslice]
    exact ⟨rfl, rfl, fun r => by rw [hring r]; exact ⟨rfl, rfl⟩⟩
  · have hop := sliceDrain_ends s.ctx s.dev hst hwarn hd
    simp only [hc] at hop
    obtain ⟨hslice, hring⟩ := s.dev.destroyed_keeps s.ctx k (fun x => { x with state := .retaining, since := s.ctx.now }) (fun _ h => h)
    refine ⟨_, exec_sliceDrainDone k s, DevOnly.of_dev .., ?_⟩
    dsimp only
    rw [hop, hslice]
    exact ⟨rfl, rfl, fun r => by rw [hring r]; exact ⟨rfl, rfl⟩⟩
  · exact retainElapsed_frees hst h
  · exact retainElapsed_early h

end Sys2Proof.Machine

/-! A supply warning, the anchor flush and recovery (R114 to R116, R118, R119, R594, R596, R597). -/

namespace Sys2Proof.Machine

theorem exec_supplyWarning (p : Bool) (mv : Nat) (s : State) : exec (.supplyWarning p mv) s = .next { s with dev := supplyWarningOp p mv s.ctx s.dev } := rfl
theorem exec_anchorFlushStart (s : State) : exec .anchorFlushStart s = .next { s with dev := anchorFlushStartOp s.ctx s.dev } := rfl
theorem exec_anchorFlushDone (s : State) : exec .anchorFlushDone s = .next { s with dev := anchorFlushDoneOp s.ctx s.dev } := rfl
theorem exec_supplyWarningClear (mv : Nat) (s : State) : exec (.supplyWarningClear mv) s = .next { s with dev := supplyClearOp mv s.ctx s.dev } := rfl

section
variable (c : Ctx) (d : Dev)

/-! ### The phases that a warning cuts short (R114) -/

/-- A public-key phase that runs, with no readback of its own in progress. -/
def Item.inPhase (i : Item) : Bool := i.ds == .running && !i.readback && (i.pke == .engine || i.pke == .between)

theorem Item.back_not_inPhase (p : Bool) (i : Item) : (i.back p).inPhase = false := by
  cases p <;> rfl
theorem Dev.goBack_items (k : Nat) (p : Bool) : (d.goBack c k p).dsp.items = updWhere (fun i => i.slot == k) (Item.back p) d.dsp.items := by
  unfold Dev.goBack
  dsimp only
  rw [Dev.mirrorRec_dsp, ← Dev.unbind_items c k d]
  split <;> rfl
/-- When every item in a phase is among those that go back, none is in a phase afterwards. -/
theorem foldl_goBack_phases : ∀ (l : List Item) (d : Dev), (∀ i ∈ d.dsp.items, i.inPhase = true → i.slot ∈ l.map Item.slot) →
    ∀ i ∈ (l.foldl (fun (a : Dev) i => a.goBack c i.slot true) d).dsp.items, i.inPhase = false
  | [], d, h, i, hi => by
    by_contra hp
    exact absurd (h i hi (by simpa using hp)) List.not_mem_nil
  | x :: l, d, h, i, hi => by
    refine foldl_goBack_phases l (d.goBack c x.slot true) (fun y hy hp => ?_) i hi
    rw [Dev.goBack_items, updWhere, List.mem_map] at hy
    obtain ⟨z, hz, rfl⟩ := hy
    split at hp
    · rw [Item.back_not_inPhase] at hp
      cases hp
    · next hslot =>
      rw [if_neg hslot]
      rcases List.mem_cons.mp (h z hz hp) with heq | hmem
      · exact absurd (beq_iff_eq.mpr heq) hslot
      · exact hmem
theorem Dev.abortPhases_items : ∀ i ∈ (d.abortPhases c).dsp.items, i.inPhase = false := by
  refine foldl_goBack_phases c _ d (fun i hi hp => ?_)
  exact List.mem_map.mpr ⟨i, List.mem_filter.mpr ⟨hi, hp⟩, rfl⟩
theorem Dev.abortPhases_apart : (d.abortPhases c).apart = d.apart := foldl_keep Dev.apart _ (fun _ _ => Dev.goBack_apart ..) ..

/-! ### A warning comes into force (R114, R594, R596) -/

theorem Dev.abortOvertaken_apart : (d.abortOvertaken c).apart = d.apart := by
  unfold Dev.abortOvertaken
  split
  · rfl
  · split
    · rfl
    · exact Dev.evtBit_apart _ _ (by decide)

/-- The power's own part of a warning that begins. -/
def Pwr.warn (pfail : Bool) (mv now : Nat) (p : Pwr) : Pwr :=
  { p with warnCore := !pfail, warnPfail := pfail, warnSt := now, warnStage := p.stage, vmin := mv, warnCnt := p.warnCnt + 1 }
/-- The warning is in force, and no grove is at OP3. -/
def Dev.warn (pfail : Bool) (mv : Nat) (d : Dev) : Dev :=
  ((((d.onPwr (Pwr.warn pfail mv c.now)).abortOvertaken c).evtBit Off.pwrEvt 0).record c Trig.supplyWarning (toLe 1 (b2n pfail))).dropBoost

theorem Dev.warn_pwr (pfail : Bool) (mv : Nat) : (d.warn c pfail mv).pwr = { d.pwr.warn pfail mv c.now with groveOp := d.pwr.groveOp.map (fun x => min 2 x) } := by
  have hpwr : ((((d.onPwr (Pwr.warn pfail mv c.now)).abortOvertaken c).evtBit Off.pwrEvt 0).record c Trig.supplyWarning (toLe 1 (b2n pfail))).pwr = d.pwr.warn pfail mv c.now := by
    rw [Dev.record_pwr, Dev.evtBit_pwr]
    exact congrArg Apart.pwr (Dev.abortOvertaken_apart c (d.onPwr (Pwr.warn pfail mv c.now)))
  unfold Dev.warn Dev.dropBoost Dev.onPwr at *
  dsimp only
  rw [hpwr]
  rfl
theorem Dev.warn_bit (pfail : Bool) (mv : Nat) : bit ((d.warn c pfail mv).reg Off.pwrEvt) 0 = true := by
  unfold Dev.warn Dev.dropBoost
  rw [Dev.onPwr_reg, Dev.record_reg_ne _ _ _ _ (by decide) (by decide), Dev.evtBit_reg]
  exact bit_or_one _

/-- A PROMOTE or SAVE that is not committed is superseded, and the time pair is stored. -/
def Dev.superseded (d : Dev) : Dev := ((d.supersedeSlot).supersedeCfg).storePair c

theorem Dev.superseded_keeps : (d.superseded c).pwr = d.pwr ∧ (d.superseded c).regs = d.regs ∧ (d.superseded c).dsp = d.dsp := by
  unfold Dev.superseded Dev.storePair Dev.supersedeCfg Dev.supersedeSlot
  dsimp only
  (repeat' split) <;> exact ⟨rfl, rfl, rfl⟩
theorem Dev.superseded_promote : (d.superseded c).key.promote = none := by
  have hslot : d.supersedeSlot.key.promote = none := by
    unfold Dev.supersedeSlot
    split
    · rfl
    · next h => simpa using h
  unfold Dev.superseded Dev.storePair Dev.supersedeCfg
  (repeat' split) <;> exact hslot
theorem Dev.superseded_job : (d.superseded c).cfg.job = none := by
  have hcfg : d.supersedeSlot.supersedeCfg.cfg.job = none := by
    unfold Dev.supersedeCfg
    split
    · rfl
    · next h => simpa using h
  unfold Dev.superseded Dev.storePair
  (repeat' split) <;> exact hcfg

theorem supplyWarning_none (mv : Nat) (h : 900 ≤ mv) : supplyWarningOp false mv c d = d := by
  unfold supplyWarningOp
  exact if_pos (by simp [Nat.not_lt.mpr h])
section
variable {pfail : Bool} {mv : Nat} (hp : d.pwr.powered = true) (hlow : pfail = true ∨ mv < 900)
include hp hlow
theorem supplyWarning_comes : (!d.pwr.powered || (!pfail && !decide (mv < 900))) = false := by
  rcases hlow with h | h <;> simp [hp, h]
theorem supplyWarning_joins (hw : d.warning = true) :
    supplyWarningOp pfail mv c d = d.onPwr (fun p => { p with warnCore := p.warnCore || !pfail, warnPfail := p.warnPfail || pfail, vmin := min p.vmin mv }) := by
  unfold supplyWarningOp
  rw [if_neg (by rw [supplyWarning_comes d hp hlow]; decide), if_pos hw]
theorem supplyWarning_begins (hw : d.warning = false) :
    ∃ e : Dev, supplyWarningOp pfail mv c d = e ∧ e.pwr = (d.warn c pfail mv).pwr ∧ e.reg Off.pwrEvt = (d.warn c pfail mv).reg Off.pwrEvt
      ∧ e.key.promote = none ∧ e.cfg.job = none ∧ ∀ i ∈ e.dsp.items, i.inPhase = false := by
  refine ⟨_, rfl, ?_⟩
  unfold supplyWarningOp
  rw [if_neg (by rw [supplyWarning_comes d hp hlow]; decide), if_neg (by rw [hw]; decide)]
  obtain ⟨hpwr, hregs, hdsp⟩ := ((d.warn c pfail mv).abortPhases c).superseded_keeps c
  have hapart := (d.warn c pfail mv).abortPhases_apart c
  refine ⟨hpwr.trans (congrArg Apart.pwr hapart), ?_, Dev.superseded_promote .., Dev.superseded_job .., ?_⟩
  · exact (congrArg (RegFile.get · Off.pwrEvt) hregs).trans (congrArg Apart.pwrEvt hapart)
  · show ∀ i ∈ (((d.warn c pfail mv).abortPhases c).superseded c).dsp.items, i.inPhase = false
    rw [hdsp]
    exact (d.warn c pfail mv).abortPhases_items c
end

/-! ### The operations that the flush does not wait for (R115, R596) -/

theorem Dev.abortEnd_keeps (res : Nat) : (d.abortEnd res).steady = d.steady ∧ (d.abortEnd res).apart = d.apart :=
  ⟨Dev.evtBit_steady _ _ (by decide), Dev.evtBit_apart _ _ (by decide)⟩
theorem Dev.abortDone_keeps (g k : Nat) : (d.abortDone c g k).steady = d.steady ∧ (d.abortDone c g k).apart = d.apart := by
  unfold Dev.abortDone
  dsimp only
  rw [(Dev.abortEnd_keeps _ _).1, (Dev.abortEnd_keeps _ _).2]
  split
  · exact ⟨Dev.toOwed_steady .., Dev.toOwed_apart ..⟩
  · exact ⟨rfl, rfl⟩
/-- A clean readback after a phase that was cut short. -/
theorem abortReadback_clean_keeps (g : Nat) : (abortReadbackOp g true c d).steady = d.steady ∧ (abortReadbackOp g true c d).apart = d.apart := by
  have hread : ∀ alg, (if (d.engine g).readback then d.readbackEnd c g alg true else d).steady = d.steady
      ∧ (if (d.engine g).readback then d.readbackEnd c g alg true else d).apart = d.apart := by
    intro alg
    split <;> exact ⟨rfl, rfl⟩
  unfold abortReadbackOp
  dsimp only
  split
  · exact ⟨rfl, rfl⟩
  · split
    · exact hread _
    · rw [Dev.updEngine_steady, Dev.updEngine_apart, (Dev.abortDone_keeps ..).1, (Dev.abortDone_keeps ..).2]
      exact hread _

theorem Dev.grovesOff_keeps (l : List Nat) : (d.grovesOff c l).steady = d.steady ∧ (d.grovesOff c l).pwr.warnStage = d.pwr.warnStage := by
  constructor
  · refine foldl_keep Dev.steady _ (fun a g => ?_) ..
    split
    · exact Dev.groveSwitchOff_steady ..
    · rfl
  · refine foldl_keep (fun a : Dev => a.pwr.warnStage) _ (fun a g => ?_) ..
    split
    · rw [Dev.groveSwitchOff_pwr]
    · rfl
/-- Operations are given up, and the domains of the lanes with them: what the groves go off from. -/
theorem Dev.shed_eq : ∃ e : Dev, d.shed c = e.grovesOff c (List.range 12) ∧ e.steady = d.steady ∧ e.pwr.warnStage = d.pwr.warnStage := by
  refine ⟨_, rfl, ?_, ?_⟩
  · rw [Dev.onPwr_steady, foldl_keep Dev.steady _ (fun _ _ => Dev.goBack_steady ..)]
    split
    · exact (abortReadback_clean_keeps ..).1
    · rfl
  · show Pwr.warnStage (Apart.pwr (Dev.apart (List.foldl _ _ _))) = _
    rw [foldl_keep Dev.apart _ (fun _ _ => Dev.goBack_apart ..)]
    split
    · rw [(abortReadback_clean_keeps ..).2]
      rfl
    · rfl
theorem Dev.shed_keeps : (d.shed c).jnl.frame = d.jnl.frame ∧ (d.shed c).pwr.warnStage = d.pwr.warnStage ∧ ∀ g, g < 12 → (d.shed c).groveOn g = false := by
  obtain ⟨e, heq, hsteady, hstage⟩ := d.shed_eq c
  obtain ⟨hsteady1, hstage1⟩ := e.grovesOff_keeps c (List.range 12)
  rw [heq]
  refine ⟨congrArg Steady.jnl (hsteady1.trans hsteady), hstage1.trans hstage, fun g hg => ?_⟩
  exact (Dev.grovesOff_spec c (List.range 12) e).2.2 g (.inr (List.mem_range.mpr hg))

/-! ### The anchor flush (R115, R116, R119, R596) -/

theorem anchorFlushStart_waits (h : d.lanesPending c = true) : anchorFlushStartOp c d = d := if_pos (by simp [h])
theorem anchorFlushStart_idle (h : d.warning = false) : anchorFlushStartOp c d = d := if_pos (by simp [h])
theorem anchorFlushStart_starts (hw : d.warning = true) (hu : d.endpointUp = true) (hl : d.lanesPending c = false) :
    (∀ g, g < 12 → (anchorFlushStartOp c d).groveOn g = false)
      ∧ (8 < d.pwr.warnStage → d.jnl.recovering = false → d.jnl.flushBusy = false → d.jnl.flushDone = false →
        (anchorFlushStartOp c d).jnl.flushBusy = true ∧ (anchorFlushStartOp c d).jnl.flushStart = c.now)
      ∧ (d.pwr.warnStage ≤ 8 → (anchorFlushStartOp c d).jnl.flushBusy = d.jnl.flushBusy) := by
  obtain ⟨hframe, hstage, hoff⟩ := d.shed_keeps c
  have hrec : (d.shed c).jnl.recovering = d.jnl.recovering := (congrArg Jnl.recovering hframe :)
  have hbusy : (d.shed c).jnl.flushBusy = d.jnl.flushBusy := (congrArg Jnl.flushBusy hframe :)
  have hdone : (d.shed c).jnl.flushDone = d.jnl.flushDone := (congrArg Jnl.flushDone hframe :)
  unfold anchorFlushStartOp
  simp only [hw, hu, hl, hstage, hrec, hbusy, hdone]
  simp only [Bool.not_true, Bool.or_self, Bool.false_eq_true, if_false]
  split
  · next h =>
    simp only [Bool.and_eq_true, decide_eq_true_eq] at h
    exact ⟨hoff, fun _ _ _ _ => ⟨rfl, rfl⟩, fun hle => absurd h.1.1.1 (Nat.not_lt.mpr hle)⟩
  · next h =>
    refine ⟨hoff, fun h8 hr hb hd => absurd ?_ h, fun _ => hbusy⟩
    simp [h8, hr, hb, hd]

/-- The parts of the device that the evidence log's own work leaves alone. -/
structure BesideLog where
  jnl : Jnl
  key : Key
  acc : AccT
  pwr : Pwr
  cfg : Cfg

def Dev.besideLog (d : Dev) : BesideLog := { jnl := d.jnl, key := d.key, acc := d.acc, pwr := d.pwr, cfg := d.cfg }

@[simp] theorem Dev.evtBit_besideLog (off i : Nat) : (d.evtBit off i).besideLog = d.besideLog := by simp [Dev.besideLog]
@[simp] theorem Dev.evidenceAt_besideLog (st : DWord) (b : Bool) (t : Nat) (p : Bytes) : (d.evidenceAt st b t p).besideLog = d.besideLog := by simp [Dev.besideLog]
@[simp] theorem Dev.evidence_besideLog (t : Nat) (p : Bytes) : (d.evidence c t p).besideLog = d.besideLog := Dev.evidenceAt_besideLog ..
theorem Dev.commitCause_besideLog (q : EvCause) : (d.commitCause q).besideLog = d.besideLog := by
  unfold Dev.commitCause
  dsimp only
  split
  · rfl
  · split
    · simp [Dev.besideLog]
    · split
      · rfl
      · exact Dev.evtBit_besideLog ..
theorem Dev.appendNext_besideLog : (d.appendNext c).besideLog = d.besideLog := by
  unfold Dev.appendNext
  split
  · rfl
  · split
    · rfl
    · dsimp only
      split
      · exact Dev.commitCause_besideLog ..
      · rw [Dev.evidence_besideLog]
        exact Dev.commitCause_besideLog ..
@[simp] theorem Dev.appendAll_besideLog : ∀ (n : Nat) (d : Dev), (d.appendAll c n).besideLog = d.besideLog
  | 0, _ => rfl
  | n + 1, d => by
    unfold Dev.appendAll
    split
    · rfl
    · rw [Dev.appendAll_besideLog n, Dev.appendNext_besideLog]
theorem Dev.startFlush_flushTo : d.startFlush.erc.flushTo ≠ none ∧ d.startFlush.jnl = d.jnl := by
  unfold Dev.startFlush
  split
  · next h => exact ⟨Option.isSome_iff_ne_none.mp h, rfl⟩
  · exact ⟨nofun, rfl⟩

theorem anchorFlushDone_idle (h : d.jnl.flushBusy = false) : anchorFlushDoneOp c d = d := if_pos (by simp [h])
theorem anchorFlushDone_ends (h : d.jnl.flushBusy = true) :
    (anchorFlushDoneOp c d).jnl = { d.jnl with
      anchor := some (d.anchorOf c.now), flushDone := true, flushBusy := false, lastFlushUs := (c.now - d.jnl.flushStart) / nsUs, anchorRecs := (d.anchorOf c.now).count }
      ∧ (anchorFlushDoneOp c d).erc.flushTo ≠ none := by
  unfold anchorFlushDoneOp
  rw [if_neg (by simp [h])]
  refine ⟨?_, (Dev.startFlush_flushTo _).1⟩
  rw [(Dev.startFlush_flushTo _).2]
  exact congrArg BesideLog.jnl (Dev.appendAll_besideLog ..)
theorem Dev.anchorOf_recs (now : Nat) : (d.anchorOf now).recs.map (fun r => (r.slot, r.seq, r.st)) = d.jnl.recs.map (fun r => (r.slot, r.seq, r.st)) := by
  unfold Dev.anchorOf
  rw [List.map_map]
  refine List.map_congr_left (fun r _ => ?_)
  unfold Function.comp Dev.anchorRec
  dsimp only
  split
  · split <;> rfl
  · rfl

/-! ### The warning clears (R118, R597) -/

theorem Dev.groveWake_keeps (g : Nat) : (d.groveWake g).jnl = d.jnl ∧ (d.groveWake g).regs = d.regs ∧ (d.groveWake g).warning = d.warning ∧ (d.groveWake g).pwr.held = d.pwr.held := by
  unfold Dev.groveWake
  split <;> exact ⟨rfl, rfl, rfl, rfl⟩
/-- The groves that are enabled wake. -/
def Dev.wakeEnabled (d : Dev) : Dev := (List.range 12).foldl (fun (a : Dev) g => if bit (a.reg Off.pwrGroveEn) g then a.groveWake g else a) d

theorem Dev.wakeEnabled_keeps : d.wakeEnabled.jnl = d.jnl ∧ d.wakeEnabled.regs = d.regs ∧ d.wakeEnabled.warning = d.warning ∧ d.wakeEnabled.pwr.held = d.pwr.held := by
  refine ⟨foldl_keep Dev.jnl _ (fun a g => ?_) .., foldl_keep Dev.regs _ (fun a g => ?_) .., foldl_keep Dev.warning _ (fun a g => ?_) .., foldl_keep (fun a : Dev => a.pwr.held) _ (fun a g => ?_) ..⟩
  all_goals
    obtain ⟨hjnl, hregs, hwarn, hheld⟩ := a.groveWake_keeps g
    split
  · exact hjnl
  · rfl
  · exact hregs
  · rfl
  · exact hwarn
  · rfl
  · exact hheld
  · rfl
theorem Jnl.stopFlush_keeps (now : Nat) (j : Jnl) : (j.stopFlush now).recs = j.recs ∧ (j.stopFlush now).flushBusy = false ∧ (j.stopFlush now).flushDone = j.flushDone := by
  unfold Jnl.stopFlush
  split
  · exact ⟨rfl, rfl, rfl⟩
  · next h => exact ⟨rfl, by simpa using h, rfl⟩
/-- The journal after a warning: a flush that runs is stopped, and one that is done counts no more once start-up has passed stage 8. -/
def Dev.unflushed (d : Dev) : Jnl :=
  if d.past 8 && !d.jnl.recovering && d.jnl.flushDone then { d.jnl.stopFlush c.now with flushDone := false, dipFlush := true } else d.jnl.stopFlush c.now

theorem Dev.unflushed_facts : (d.unflushed c).recs = d.jnl.recs ∧ (d.unflushed c).flushBusy = false ∧ (d.past 8 = true → d.jnl.recovering = false → (d.unflushed c).flushDone = false) := by
  obtain ⟨hrecs, hbusy, hdone⟩ := Jnl.stopFlush_keeps c.now d.jnl
  unfold Dev.unflushed
  split
  · exact ⟨hrecs, hbusy, fun _ _ => rfl⟩
  · next h =>
    refine ⟨hrecs, hbusy, fun hpast hrec => hdone.trans ?_⟩
    simpa [hpast, hrec] using h

theorem supplyClear_idle (mv : Nat) (h : d.warning = false) : supplyClearOp mv c d = d := if_pos (by simp [h])
theorem supplyClear_clears (mv : Nat) (hw : d.warning = true) (hp : d.pwr.powered = true) (hheld : d.pwr.held = none) :
    (supplyClearOp mv c d).warning = false ∧ bit ((supplyClearOp mv c d).reg Off.pwrEvt) 1 = true ∧ (supplyClearOp mv c d).jnl = d.unflushed c := by
  unfold supplyClearOp
  rw [if_neg (by simp [hw, hp])]
  dsimp only
  generalize he : Dev.record c Trig.warnRecovered _ _ = e
  have hpwr : e.warning = false ∧ e.pwr.held = none := by
    unfold Dev.warning
    rw [← he, Dev.record_pwr, Dev.evtBit_pwr]
    exact ⟨rfl, hheld⟩
  have hjnl : e.jnl = d.unflushed c := by
    rw [← he, Dev.record_jnl, Dev.evtBit_jnl]
    rfl
  have hbit : bit (e.reg Off.pwrEvt) 1 = true := by
    rw [← he, Dev.record_reg_ne _ _ _ _ (by decide) (by decide), Dev.evtBit_reg]
    simp [bit]
  obtain ⟨hwjnl, hwregs, hwwarn, hwheld⟩ := e.wakeEnabled_keeps
  have hnone : e.wakeEnabled.applyHeld c = e.wakeEnabled := by
    unfold Dev.applyHeld
    rw [hwheld, hpwr.2]
  show (e.wakeEnabled.applyHeld c).warning = false ∧ bit ((e.wakeEnabled.applyHeld c).reg Off.pwrEvt) 1 = true ∧ (e.wakeEnabled.applyHeld c).jnl = d.unflushed c
  rw [hnone, hwwarn, hwjnl, Dev.reg, hwregs]
  exact ⟨hpwr.1, hbit, hjnl⟩
end

/-- Settles O54: the warning that comes or joins one in force, the flush's start and end, and the clearing, each by what its operation does. -/
theorem supplyWarnings : Obligations.SupplyWarnings := by
  unfold Obligations.SupplyWarnings
  intro s
  dsimp only
  refine ⟨fun p mv => ⟨fun hp hmv => ?_, fun hp hw hlow => ?_, fun hp hw hlow => ?_⟩, fun hw hu => ⟨fun hlt hrun => ?_, fun h => ?_⟩, fun hw => ?_, fun hb => ?_, fun hb => ?_,
    fun mv => ⟨fun hw => ?_, fun hw hp hheld => ?_⟩⟩
  · subst hp
    rw [exec_supplyWarning, supplyWarning_none s.ctx s.dev mv hmv]
  · obtain ⟨e, he, hpwr, hreg, hpromote, hjob, hitems⟩ := supplyWarning_begins s.ctx s.dev hp hlow hw
    refine ⟨_, exec_supplyWarning p mv s, DevOnly.of_dev .., ?_⟩
    dsimp only
    unfold Dev.warning
    rw [he, hpwr, hreg, Dev.warn_pwr]
    refine ⟨by simp [Pwr.warn], rfl, rfl, rfl, Dev.warn_bit .., fun x hx => ?_, hpromote, hjob, fun i hi hrun hread => ?_⟩
    · obtain ⟨y, -, rfl⟩ := List.mem_map.mp hx
      exact Nat.min_le_left ..
    · have h := hitems i hi
      simpa [Item.inPhase, hrun, hread] using h
  · rw [exec_supplyWarning, supplyWarning_joins s.ctx s.dev hp hlow hw]
    rfl
  · have hl : s.dev.lanesPending s.ctx = true := by
      obtain ⟨t, ht, hr⟩ := hrun
      simp only [Dev.lanesPending, Bool.and_eq_true, decide_eq_true_eq, List.any_eq_true]
      exact ⟨hlt, t, ht, Option.isSome_iff_ne_none.mpr hr⟩
    rw [exec_anchorFlushStart, anchorFlushStart_waits s.ctx s.dev hl]
  · have hl : s.dev.lanesPending s.ctx = false := by
      simp only [Dev.lanesPending, Bool.and_eq_false_iff, decide_eq_false_iff_not, List.any_eq_false]
      refine h.imp (fun hle => Nat.not_lt.mpr hle) (fun hnone t ht => ?_)
      rw [hnone t ht]
      decide
    exact ⟨_, exec_anchorFlushStart s, DevOnly.of_dev .., anchorFlushStart_starts s.ctx s.dev hw hu hl⟩
  · rw [exec_anchorFlushStart, anchorFlushStart_idle s.ctx s.dev hw]
  · obtain ⟨hjnl, hflush⟩ := anchorFlushDone_ends s.ctx s.dev hb
    refine ⟨_, s.dev.anchorOf s.ctx.now, exec_anchorFlushDone s, DevOnly.of_dev .., ?_⟩
    dsimp only
    rw [hjnl]
    exact ⟨rfl, rfl, rfl, rfl, Dev.anchorOf_recs .., rfl, hflush⟩
  · rw [exec_anchorFlushDone, anchorFlushDone_idle s.ctx s.dev hb]
  · rw [exec_supplyWarningClear, supplyClear_idle s.ctx s.dev mv hw]
  · obtain ⟨hwarn, hbit, hjnl⟩ := supplyClear_clears s.ctx s.dev mv hw hp hheld
    refine ⟨_, exec_supplyWarningClear mv s, DevOnly.of_dev .., hwarn, hbit, ?_⟩
    dsimp only
    rw [hjnl]
    exact s.dev.unflushed_facts s.ctx

end Sys2Proof.Machine

/-! Start-up stages 6 to 8 (R95, R120 to R122, R323, R376, R439, R600, R602, R607, R643, R647). -/

namespace Sys2Proof.Machine

theorem exec_configLoad (s : State) : exec .configLoad s = .next { s with dev := configLoadOp s.ctx s.dev } := rfl
theorem exec_timeRefStart (s : State) : exec .timeRefStart s = .next { s with dev := timeRefStartOp s.ctx s.dev } := rfl
theorem exec_journalRecovery (s : State) : exec .journalRecovery s = .next { s with dev := journalRecoveryOp s.ctx s.dev } := rfl

section
variable (c : Ctx) (d : Dev)

/-! ### Stages -/

theorem Dev.onStage_idle {n : Nat} (f : Dev → Dev) (h : d.stageDue n = false) : d.onStage n f = d := if_pos (by simp [h])
theorem Dev.onStage_waits {n : Nat} (f : Dev → Dev) (h : (stageDoms n).any d.domWaking = true) : d.onStage n f = d := by
  unfold Dev.onStage
  rw [if_pos h, ite_self]
theorem Dev.onStage_runs {n : Nat} (f : Dev → Dev) (h : d.stageRuns n = true) : d.onStage n f = f d := by
  unfold Dev.stageRuns at h
  simp only [Bool.and_eq_true, Bool.not_eq_true', List.any_eq_false, Bool.or_eq_true, not_or] at h
  obtain ⟨hdue, hdoms⟩ := h
  have hup : ¬ (stageDoms n).any d.domWaking = true := by
    rw [List.any_eq_true]
    rintro ⟨k, hk, hw⟩
    exact (hdoms k hk).1 hw
  have hsound : ¬ (stageDoms n).any (fun k => d.pwr.doms.any (fun x => x.num == k && x.fault)) = true := by
    rw [List.any_eq_true]
    rintro ⟨k, hk, hf⟩
    exact (hdoms k hk).2 hf
  unfold Dev.onStage
  rw [if_neg (by simp [hdue]), if_neg hup, if_neg hsound]
theorem Dev.stage_of_runs {n : Nat} (h : d.stageRuns n = true) : d.pwr.stage = n := by
  unfold Dev.stageRuns Dev.stageDue at h
  simp only [Bool.and_eq_true, beq_iff_eq] at h
  exact h.1.1.2

/-! ### Stage 6: the configuration and the key store (R323, R607) -/

theorem Dev.stageEnd_besideLog : d.stageEnd.besideLog = { d.besideLog with pwr := { d.pwr with stage := d.pwr.stage + 1 } } := Dev.evtBit_besideLog ..
@[simp] theorem Dev.evidenceNow_besideLog (t : Nat) (p : Bytes) : (d.evidenceNow c t p).besideLog = d.besideLog := by simp [Dev.evidenceNow]
@[simp] theorem Dev.moveBatt_besideLog : (d.moveBatt c).besideLog = d.besideLog := by
  unfold Dev.moveBatt
  dsimp only
  split
  · rfl
  · rw [Dev.evtBit_besideLog, foldl_keep Dev.besideLog _ (fun a e => by simp)]
    rfl
@[simp] theorem Dev.bootRecords_besideLog : (d.bootRecords c).besideLog = d.besideLog := by
  unfold Dev.bootRecords
  dsimp only
  rw [Dev.evidenceNow_besideLog, Dev.moveBatt_besideLog]
  split
  · exact Dev.evidenceNow_besideLog ..
  · rfl
@[simp] theorem Dev.reseedShroud_besideLog : (d.reseedShroud c).besideLog = d.besideLog := by
  have h : (d.mgmtNonce c).2.besideLog = d.besideLog := by simp [Dev.besideLog, Dev.mgmtNonce, Dev.mgmtBytes]
  unfold Dev.reseedShroud
  split
  · unfold Dev.besideLog at h ⊢
    exact h
  · rfl
@[simp] theorem Dev.stepRecords_besideLog : (d.stepRecords c).besideLog = d.besideLog := by
  unfold Dev.stepRecords
  split
  · dsimp only
    split
    · rfl
    · rw [foldl_keep Dev.besideLog _ (fun a k => by simp)]
      rfl
  · rfl

/-- The configuration in force: read again in full, or what a cold reset cleared of it. -/
def Dev.configured (d : Dev) : Dev := if d.pwr.cfgDue then d.loadConfig c else if d.pwr.cause = ResetKind.cold.code then d.reloadCold c else d
/-- The records of a power-up and of a finished transition. -/
def Dev.bootWork (d : Dev) : Dev := (if d.pwr.bootDue then (d.bootRecords c).reseedShroud c else d).stepRecords c
/-- Nothing of stage 6 is owed any more. -/
def Dev.nothingDue (d : Dev) : Dev := { d with pwr := { d.pwr with cfgDue := false, bootDue := false } }
/-- The key store judged by its check record. -/
def Dev.storeChecked (d : Dev) : Dev := { d with key := d.key.checkStore c.otp }

theorem Dev.bootWork_besideLog : (d.bootWork c).besideLog = d.besideLog := by
  unfold Dev.bootWork
  rw [Dev.stepRecords_besideLog]
  split <;> simp
theorem configLoad_runs (h : d.stageRuns 6 = true) : configLoadOp c d = (((d.configured c).storeChecked c).bootWork c).nothingDue.stageEnd := Dev.onStage_runs d _ h
/-- The stage leaves the access rules, the key store's own parts and the rest of power to what the configuration gave. -/
theorem configLoad_besideLog (h : d.stageRuns 6 = true) :
    (configLoadOp c d).besideLog = { ((d.configured c).storeChecked c).besideLog with
      pwr := { (d.configured c).pwr with cfgDue := false, bootDue := false, stage := (d.configured c).pwr.stage + 1 } } := by
  have hwork := ((d.configured c).storeChecked c).bootWork_besideLog c
  rw [configLoad_runs c d h, Dev.stageEnd_besideLog]
  generalize ((d.configured c).storeChecked c).bootWork c = e at hwork ⊢
  have hpwr : e.pwr = (d.configured c).pwr := congrArg BesideLog.pwr hwork
  have hdue : e.nothingDue.pwr = { e.pwr with cfgDue := false, bootDue := false } ∧ e.nothingDue.besideLog = { e.besideLog with pwr := e.nothingDue.pwr } := ⟨rfl, rfl⟩
  rw [hdue.2, hwork, hdue.1, hpwr]
theorem configLoad_event (h : d.stageRuns 6 = true) : bit ((configLoadOp c d).reg Off.pwrEvt) 2 = true := by
  rw [configLoad_runs c d h]
  exact Dev.evtBit_bit _ _ (by decide)
/-- Without a valid block the configuration is the default one. -/
theorem Dev.loadConfig_default (h : d.cfg.newest = none) : (d.loadConfig c).cfg.defaulted = true := by
  unfold Dev.loadConfig
  dsimp only
  rw [h]
  rfl
theorem Dev.configured_default (hc : d.pwr.cfgDue = true) (h : d.cfg.newest = none) : (d.configured c).cfg.defaulted = true := by
  unfold Dev.configured
  rw [if_pos hc]
  exact Dev.loadConfig_default c d h
theorem Dev.configured_kept (hc : d.pwr.cfgDue = false) (h : d.pwr.cause ≠ 1) : d.configured c = d := by
  unfold Dev.configured
  rw [if_neg (by rw [hc]; decide)]
  exact if_neg h

/-! ### Stage 7: the time references (R602, R643) -/

theorem Dev.newTimeNonce_pwr (h : d.mgmtDrbg = true) : (d.newTimeNonce c).pwr = d.pwr := by
  rw [Dev.newTimeNonce_issued c h, Dev.onTim_pwr]
  exact Dev.request_2_pwr d c 12 8 []
theorem timeRefStart_runs (h : d.stageRuns 7 = true) :
    (timeRefStartOp c d).pwr.stage = 8 ∧ (timeRefStartOp c d).tim.trefValid = false ∧ (timeRefStartOp c d).tim.trefSince = c.now
      ∧ (d.mgmtDrbg = true → (timeRefStartOp c d).tim.nonceLive = true ∧ (timeRefStartOp c d).tim.nonceIssued = c.now)
      ∧ (d.mgmtDrbg = false → (timeRefStartOp c d).tim.nonceLive = d.tim.nonceLive) := by
  have hstage := d.stage_of_runs h
  generalize he : d.onTim (fun t => { t with trefValid := false, trefSince := c.now }) = e
  have hop : timeRefStartOp c d = (if e.mgmtDrbg then e.newTimeNonce c else e).stageEnd := by
    rw [← he]
    exact Dev.onStage_runs d _ h
  have htim : e.tim = { d.tim with trefValid := false, trefSince := c.now } := by rw [← he]; rfl
  have hpwr : e.pwr = d.pwr := by rw [← he]; rfl
  have hdrbg : e.mgmtDrbg = d.mgmtDrbg := by rw [← he]; rfl
  have hend : ∀ x : Dev, x.stageEnd.tim = x.tim ∧ x.stageEnd.pwr.stage = x.pwr.stage + 1 := fun x => ⟨by simp [Dev.stageEnd], by simp [Dev.stageEnd]⟩
  rw [hop, (hend _).1, (hend _).2]
  by_cases hd : d.mgmtDrbg = true
  · rw [if_pos (hdrbg.trans hd), Dev.newTimeNonce_pwr c e (hdrbg.trans hd), Dev.newTimeNonce_tim c (hdrbg.trans hd), hpwr, htim, hstage]
    exact ⟨rfl, rfl, rfl, fun _ => ⟨rfl, rfl⟩, fun hn => absurd (hn.symm.trans hd) (by decide)⟩
  · rw [if_neg (by rw [hdrbg]; exact hd), hpwr, htim, hstage]
    exact ⟨rfl, rfl, rfl, fun hn => absurd hn hd, fun _ => rfl⟩

/-! ### Stage 8: what the table's start leaves alone (R121, R136) -/

/-- What recovery restores, and the roles and the stage beside it: what the table's start leaves alone. -/
structure Head where
  jnl    : Jnl
  rings  : List Ring
  slices : List Slice
  dsp    : Dsp
  pwr    : Pwr
  fab    : Fab

def Dev.head (d : Dev) : Head := { jnl := d.jnl, rings := d.hif.rings, slices := d.slices, dsp := d.dsp, pwr := d.pwr, fab := d.fab }

@[simp] theorem Dev.evtBit_head (off i : Nat) : (d.evtBit off i).head = d.head := by simp [Dev.head]
@[simp] theorem Dev.record_head (t : Nat) (p : Bytes) : (d.record c t p).head = d.head := by simp [Dev.head]
theorem Dev.ddtStallEnd_head : (d.ddtStallEnd c).head = d.head := by
  unfold Dev.ddtStallEnd
  split
  · rfl
  · rw [Dev.record_head, Dev.evtBit_head]
    rfl
theorem Dev.request_2_head (n len : Nat) (x : Bytes) : (d.request c n len x).2.head = d.head := by
  have hreseed : ∀ e : Dev, (e.dueReseed c n).head = e.head := by
    intro e
    unfold Dev.dueReseed
    dsimp only
    split
    · split <;> rfl
    · rfl
  unfold Dev.request
  dsimp only
  split
  · rw [Dev.evtBit_head]
    exact hreseed _
  · exact hreseed _
theorem Dev.startDdt_head : (d.startDdt c).head = d.head := by
  unfold Dev.startDdt
  dsimp only
  refine Eq.trans ?_ (d.ddtStallEnd_head c)
  split
  · have h := Dev.request_2_head c (d.ddtStallEnd c).emptyTable 12 8 []
    unfold Dev.head at h ⊢
    exact h
  · rfl
theorem Dev.ddtInsert_head {d e : Dev} {x : DdtEntry} (h : d.ddtInsert c x = some e) : e.head = d.head := by
  unfold Dev.ddtInsert at h
  dsimp only at h
  (repeat' split at h) <;> cases h <;> rfl
theorem Dev.recoverTable_head : (d.recoverTable c).head = d.head := by
  refine (foldl_keep Dev.head _ (fun a x => ?_) ..).trans (d.startDdt_head c)
  cases h : a.ddtInsert c x with
  | none => rfl
  | some e => exact Dev.ddtInsert_head c h
theorem Dev.finishRecovery_head : (d.finishRecovery c).head = { d.head with
    jnl := { d.jnl with flushDone := false, recovering := false }
    slices := d.slices.map (fun (s : Slice) => if s.state = SliceState.retaining then { s with since := c.now } else s) } := by
  have h := d.recoverTable_head c
  unfold Dev.finishRecovery
  rw [Dev.evtBit_head]
  generalize d.recoverTable c = e at h ⊢
  rw [← h, show d.jnl = e.jnl from (congrArg Head.jnl h).symm, show d.slices = e.slices from (congrArg Head.slices h).symm]
  rfl

/-! ### Stage 8: the anchor (R95, R120, R121, R647) -/

theorem mem_upsert_cases {α : Type} {p : α → Bool} {new : α} {f : α → α} {l : List α} {x : α} (h : x ∈ upsert p new f l) : x ∈ l ∨ ∃ y, x = f y := by
  unfold upsert at h
  split at h
  · obtain ⟨y, hy, rfl⟩ := List.mem_map.mp h
    split
    · exact .inr ⟨y, rfl⟩
    · exact .inl hy
  · rcases List.mem_append.mp h with h | h
    · exact .inl h
    · exact .inr ⟨new, List.mem_singleton.mp h⟩

/-- A ring that recovery leaves: not defined, or PARKED. -/
def Ring.atRest (r : Ring) : Prop := r.state = .absent ∨ r.state = .parked

/-- The rings of the anchor come back at rest, and nothing but the rings moves. -/
theorem foldl_ringBack : ∀ (l : List AnchorRing) (d : Dev), (∀ r ∈ d.hif.rings, r.atRest) →
    ∃ h : Hif, l.foldl (fun (x : Dev) r => x.updRing r.slice r.ring (fun _ => r.back)) d = { d with hif := h } ∧ ∀ r ∈ h.rings, r.atRest
  | [], d, hd => ⟨d.hif, rfl, hd⟩
  | a :: l, d, hd => by
    obtain ⟨h, heq, hrest⟩ := foldl_ringBack l (d.updRing a.slice a.ring (fun _ => a.back)) (fun r hr => by
      have hmem : r ∈ upsert (fun x => x.slice == a.slice && x.num == a.ring) { slice := a.slice, num := a.ring } (fun _ => a.back) d.hif.rings := hr
      rcases mem_upsert_cases hmem with hold | ⟨y, rfl⟩
      · exact hd r hold
      · exact .inr rfl)
    exact ⟨h, heq, hrest⟩

/-- The device as the anchor is decoded: its result is noted, and nothing is restored yet. -/
def Dev.decoded (d : Dev) : Dev := ({ d with jnl := { d.jnl with bootResult := d.jnl.anchorResult }, pwr := { d.pwr with jnlLost := false } }).emptyJournal

/-- From a valid anchor: every record in order, the slices that are bound, every ring at rest. -/
theorem Dev.fromAnchor_valid {a : Anchor} (ha : d.jnl.anchor = some a) (hf : d.jnl.flushDone = true) (hc : a.crcOk = true) :
    (d.fromAnchor c).jnl.bootResult = 1 ∧ (d.fromAnchor c).jnl.nextSeq = a.nextSeq ∧ (d.fromAnchor c).jnl.recs = a.recs.map (Rec.restored c.now)
      ∧ (∀ r ∈ (d.fromAnchor c).hif.rings, r.atRest) ∧ (∀ k ∈ (d.fromAnchor c).slices, k.state ≠ .unbound) ∧ (d.fromAnchor c).dsp.items = []
      ∧ (d.fromAnchor c).pwr.stage = d.pwr.stage ∧ (d.fromAnchor c).fab = d.fab ∧ (d.fromAnchor c).rng = d.rng := by
  have hres : d.jnl.anchorResult = 1 := by simp [Jnl.anchorResult, ha, hf, hc]
  have hfrom : d.fromAnchor c = d.decoded.restoreAnchor c.now a := by
    unfold Dev.fromAnchor Dev.decoded
    simp only [ha, hres]
  unfold Dev.restoreAnchor at hfrom
  dsimp only at hfrom
  obtain ⟨h, heq, hrest⟩ := foldl_ringBack _ { d.decoded with
    jnl := { d.decoded.jnl with
      recs := a.recs.map (Rec.restored c.now), fresh := a.fresh, completed := a.completed, owed := owedOf (a.recs.map (Rec.restored c.now)), nextSeq := a.nextSeq, anchorRecs := a.count, recoverOpen := true }
    slices := (a.slices.map (AnchorSlice.back c.now)).filter (fun s => s.state != .unbound) } (fun r hmem => by
      obtain ⟨x, -, rfl⟩ := List.mem_map.mp hmem
      exact .inl rfl)
  rw [hfrom, heq]
  exact ⟨hres, rfl, rfl, hrest, fun k hk => by simpa using (List.mem_filter.mp hk).2, rfl, rfl, rfl, rfl⟩
theorem Dev.fromAnchor_invalid {a : Anchor} (ha : d.jnl.anchor = some a) (h : d.jnl.flushDone = false ∨ a.crcOk = false) :
    d.fromAnchor c = ((d.decoded.renumber).evtBit Off.jnlEvt 1).evidence c Ev.anchorInvalid (anchorInvalid c.now d.jnl a) ∧ d.jnl.anchorResult = 2 := by
  have hres : d.jnl.anchorResult = 2 := by
    rcases h with h | h <;> simp [Jnl.anchorResult, ha, h]
  refine ⟨?_, hres⟩
  unfold Dev.fromAnchor Dev.decoded
  simp only [ha, hres]
theorem Dev.fromAnchor_none (ha : d.jnl.anchor = none) : d.fromAnchor c = d.decoded.renumber ∧ d.jnl.anchorResult = 0 := by
  have hres : d.jnl.anchorResult = 0 := by simp [Jnl.anchorResult, ha]
  refine ⟨?_, hres⟩
  unfold Dev.fromAnchor Dev.decoded
  simp only [ha, hres]
theorem Dev.renumber_keeps : d.renumber.jnl.recs = d.jnl.recs ∧ d.renumber.jnl.bootResult = d.jnl.bootResult
    ∧ d.renumber.jnl.nextSeq = (match d.jnl.hiStored with | none => 0 | some h => (h + 1) * 2 ^ 40)
    ∧ d.renumber.slices = d.slices ∧ d.renumber.dsp = d.dsp ∧ d.renumber.pwr = d.pwr ∧ d.renumber.fab = d.fab ∧ d.renumber.rng = d.rng := by
  unfold Dev.renumber
  cases d.jnl.hiStored with
  | none => exact ⟨rfl, rfl, rfl, rfl, rfl, rfl, rfl, rfl⟩
  | some h => exact ⟨rfl, rfl, rfl, rfl, rfl, rfl, rfl, rfl⟩

/-! ### Stage 8: the role afterwards (R439) -/

theorem Dev.roleAfter_unpaired (h : d.fab.pair.role = .unpaired) : d.roleAfter c = d := by
  unfold Dev.roleAfter
  simp only [h]
theorem Dev.toRole_fenced (h : d.fab.pair.role ≠ .fenced) :
    (d.toRole c .fenced).fab.pair.role = .fenced ∧ (d.toRole c .fenced).jnl = d.jnl ∧ (d.toRole c .fenced).pwr = d.pwr := by
  have hdone : ∀ (a : Dev) (w : MirrorChange), (a.changeDone w.of).pwr = a.pwr := by
    intro a w
    unfold Dev.changeDone
    split
    · exact Dev.hifEvent_pwr ..
    · exact Dev.evtBit_pwr ..
    · split
      · exact Dev.evtBit_pwr ..
      · rfl
    all_goals rfl
  have hall : ∀ a : Dev, a.changesAll.fab.pair.role = a.fab.pair.role ∧ a.changesAll.jnl = a.jnl ∧ a.changesAll.pwr = a.pwr := fun a =>
    ⟨foldl_keep (fun x : Dev => x.fab.pair.role) _ (fun x (w : MirrorChange) => by rw [(x.changeDone_keeps w.of).1]) .., a.changesAll_keeps.2.1, foldl_keep Dev.pwr _ hdone ..⟩
  unfold Dev.toRole
  dsimp only
  rw [if_neg h]
  simp only [Dev.evtBit_fab, Dev.evtBit_jnl, Dev.evtBit_pwr, Dev.record_fab, Dev.record_jnl, Dev.record_pwr]
  split
  · exact ⟨rfl, rfl, rfl⟩
  · exact hall _
theorem Dev.roleAfter_active (h : d.fab.pair.role = .active ∨ d.fab.pair.role = .activeAlone) :
    (d.roleAfter c).fab.pair.role = .fenced ∧ (d.roleAfter c).fab.pair.swapDue = some (.recover, c.now) ∧ (d.roleAfter c).jnl = d.jnl ∧ (d.roleAfter c).pwr = d.pwr := by
  have hrole : d.roleAfter c = (d.toRole c .fenced).onPair (fun q => { q with swapDue := some (.recover, c.now) }) := by
    unfold Dev.roleAfter
    rcases h with h | h <;> simp only [h]
  obtain ⟨hf, hjnl, hpwr⟩ := d.toRole_fenced c (by rcases h with h | h <;> rw [h] <;> decide)
  rw [hrole]
  exact ⟨hf, rfl, hjnl, hpwr⟩

/-- With nothing to dispatch again, no acceptance waits for the standby and nothing else moves. -/
theorem Dev.redispatch_empty (h : d.dsp.items = []) : (d.redispatch c).jnl = { d.jnl with mirrorWait := [] } ∧ (d.redispatch c).pwr = d.pwr ∧ (d.redispatch c).regs = d.regs := by
  have hab : d.abandonAll c = d := by
    unfold Dev.abandonAll
    rw [h]
    rfl
  unfold Dev.redispatch
  rw [hab]
  dsimp only
  rw [h]
  exact ⟨rfl, rfl, rfl⟩

/-! ### Stage 8: the end -/

/-- Start-up is over. -/
def Dev.started (d : Dev) : Dev := (d.stageEnd).evtBit Off.pwrEvt 3

theorem Dev.started_head : d.started.head = { d.head with pwr := { d.pwr with stage := d.pwr.stage + 1 } } := by
  unfold Dev.started Dev.stageEnd
  rw [Dev.evtBit_head, Dev.evtBit_head]
  rfl
theorem Dev.started_reg_ne {a : Nat} (h : a ≠ Off.pwrEvt) : d.started.reg a = d.reg a := by
  unfold Dev.started Dev.stageEnd
  rw [Dev.evtBit_reg_ne _ _ h, Dev.evtBit_reg_ne _ _ h]
  rfl

theorem journalRecovery_waits (hr : d.stageRuns 8 = true) (hl : d.pwr.jnlLost = true) (hg : d.mgmtDrbg = false) (hs : d.rng.state ≠ .noRandomness) :
    journalRecoveryOp c d = d := by
  unfold journalRecoveryOp
  rw [Dev.onStage_runs d _ hr]
  exact if_pos (by simp [hl, hg, hs])
theorem journalRecovery_restores (hr : d.stageRuns 8 = true) (hl : d.pwr.jnlLost = true) (hg : d.mgmtDrbg = true)
    (hf : (d.fromAnchor c).fab = d.fab) (hn : (d.fromAnchor c).rng = d.rng) (hp : d.fab.pair.role = .unpaired) :
    journalRecoveryOp c d = ((d.fromAnchor c).finishRecovery c).started := by
  have hdrbg : (d.fromAnchor c).mgmtDrbg = true := by
    unfold Dev.mgmtDrbg Dev.drbg at hg ⊢
    rwa [hn]
  unfold journalRecoveryOp
  rw [Dev.onStage_runs d _ hr]
  dsimp only
  rw [if_neg (by simp [hg]), if_pos (by simp [hl]), if_pos hl, Dev.roleAfter_unpaired c _ (by rw [hf]; exact hp), if_pos hdrbg]
  rfl
theorem journalRecovery_retained (hr : d.stageRuns 8 = true) (hl : d.pwr.jnlLost = false) (hrec : d.jnl.recovering = false) :
    ∃ e : Dev, e = ({ (d.roleAfter c) with jnl := { (d.roleAfter c).jnl with flushDone := false } }).evtBit Off.jnlEvt 0
      ∧ journalRecoveryOp c d = (if e.fab.pair.role = .unpaired then e.redispatch c else e).started := by
  refine ⟨_, rfl, ?_⟩
  unfold journalRecoveryOp
  rw [Dev.onStage_runs d _ hr]
  dsimp only
  rw [if_neg (by simp [hl]), if_neg (by simp [hl, hrec])]
  rfl

/-- What recovery from the anchor leaves: the stage is over, FLUSH_DONE is clear, the rest is what the anchor gave. -/
theorem Dev.recovered_head (hr : d.pwr.stage = 8) : (d.finishRecovery c).started.pwr.stage = 9 ∧ (d.finishRecovery c).started.jnl = { d.jnl with flushDone := false, recovering := false }
    ∧ (d.finishRecovery c).started.hif.rings = d.hif.rings ∧ (d.finishRecovery c).started.dsp = d.dsp
    ∧ (d.finishRecovery c).started.slices = d.slices.map (fun (s : Slice) => if s.state = SliceState.retaining then { s with since := c.now } else s) := by
  have hend := (d.finishRecovery c).started_head
  have hfin := d.finishRecovery_head c
  rw [hfin] at hend
  refine ⟨?_, congrArg Head.jnl hend, congrArg Head.rings hend, congrArg Head.dsp hend, congrArg Head.slices hend⟩
  rw [show (d.finishRecovery c).started.pwr = _ from congrArg Head.pwr hend, show (d.finishRecovery c).pwr = d.pwr from congrArg Head.pwr hfin]
  dsimp only
  rw [hr]
/-- With no record, only the table starts: what the journal had reported stays reported. -/
theorem Dev.recovered_reports (h : d.jnl.recs = []) {i : Nat} (hb : bit (d.reg Off.jnlEvt) i = true) : bit ((d.finishRecovery c).started.reg Off.jnlEvt) i = true := by
  have htable : d.recoverTable c = d.startDdt c := by
    unfold Dev.recoverTable
    rw [h]
    rfl
  rw [Dev.started_reg_ne _ (by decide)]
  unfold Dev.finishRecovery
  dsimp only
  rw [Dev.evtBit_reg]
  refine bit_or_left _ ?_
  show bit ((d.recoverTable c).reg Off.jnlEvt) i = true
  rw [htable, Dev.startDdt_reg_ne c d (by decide) (by decide) (by decide) (by decide)]
  exact hb
end

section
variable {s : State} (hr : s.dev.stageRuns 8 = true)
include hr

theorem recovery_valid (hl : s.dev.pwr.jnlLost = true) (hg : s.dev.mgmtDrbg = true) (hp : s.dev.fab.pair.role = .unpaired)
    {a : Anchor} (ha : s.dev.jnl.anchor = some a) (hf : s.dev.jnl.flushDone = true) (hc : a.crcOk = true) :
    ∃ u, exec .journalRecovery s = .next u ∧ DevOnly s u ∧ u.dev.pwr.stage = 9 ∧ u.dev.jnl.bootResult = 1
      ∧ u.dev.jnl.flushDone = false ∧ u.dev.jnl.nextSeq = a.nextSeq ∧ u.dev.jnl.recs = a.recs.map (Rec.restored s.st.toNat) ∧ (∀ r ∈ u.dev.hif.rings, r.state = .absent ∨ r.state = .parked)
      ∧ (∀ k ∈ u.dev.slices, k.state ≠ .unbound) ∧ u.dev.dsp.items = [] := by
  obtain ⟨hboot, hseq, hrecs, hrest, hbound, hitems, hst, hfab, hrng⟩ := s.dev.fromAnchor_valid s.ctx ha hf hc
  have hop := journalRecovery_restores s.ctx s.dev hr hl hg hfab hrng hp
  obtain ⟨hstage, hjnl, hrings, hdsp, hslices⟩ := (s.dev.fromAnchor s.ctx).recovered_head s.ctx (hst.trans (s.dev.stage_of_runs hr))
  refine ⟨_, exec_journalRecovery s, DevOnly.of_dev .., ?_⟩
  dsimp only
  rw [hop, hjnl, hrings, hdsp, hslices]
  refine ⟨hstage, hboot, rfl, hseq, hrecs, hrest, fun k hk => ?_, hitems⟩
  obtain ⟨x, hx, rfl⟩ := List.mem_map.mp hk
  split
  · exact hbound x hx
  · exact hbound x hx
theorem recovery_invalid (hl : s.dev.pwr.jnlLost = true) (hg : s.dev.mgmtDrbg = true) (hp : s.dev.fab.pair.role = .unpaired)
    {a : Anchor} (ha : s.dev.jnl.anchor = some a) (h : s.dev.jnl.flushDone = false ∨ a.crcOk = false) :
    ∃ u, exec .journalRecovery s = .next u ∧ DevOnly s u ∧ u.dev.pwr.stage = 9 ∧ u.dev.jnl.bootResult = 2
      ∧ u.dev.jnl.recs = [] ∧ u.dev.slices = [] ∧ u.dev.jnl.nextSeq = (match s.dev.jnl.hiStored with | none => 0 | some h => (h + 1) * 2 ^ 40) ∧ bit (u.dev.reg Off.jnlEvt) 1 = true := by
  obtain ⟨hfrom, hres⟩ := s.dev.fromAnchor_invalid s.ctx ha h
  obtain ⟨hrecs, hboot, hseq, hsl, hdsp0, hpwr, hfab, hrng⟩ := s.dev.decoded.renumber_keeps
  have hkeep : (s.dev.fromAnchor s.ctx).jnl = s.dev.decoded.renumber.jnl ∧ (s.dev.fromAnchor s.ctx).slices = [] ∧ (s.dev.fromAnchor s.ctx).pwr = s.dev.decoded.renumber.pwr
      ∧ (s.dev.fromAnchor s.ctx).fab = s.dev.fab ∧ (s.dev.fromAnchor s.ctx).rng = s.dev.rng ∧ bit ((s.dev.fromAnchor s.ctx).reg Off.jnlEvt) 1 = true := by
    rw [hfrom, Dev.evidence_reg_ne _ _ _ _ (by decide) (by decide)]
    simp only [Dev.evidence_jnl, Dev.evidence_slices, Dev.evidence_pwr, Dev.evidence_fab, Dev.evidence_rng, Dev.evtBit_jnl, Dev.evtBit_slices, Dev.evtBit_pwr, Dev.evtBit_fab, Dev.evtBit_rng]
    exact ⟨trivial, hsl, trivial, hfab, hrng, Dev.evtBit_bit _ _ (by decide)⟩
  obtain ⟨hkj, hks, hkp, hkf, hkr, hkb⟩ := hkeep
  have hop := journalRecovery_restores s.ctx s.dev hr hl hg hkf hkr hp
  obtain ⟨hstage, hjnl, hrings, hdsp, hslices⟩ := (s.dev.fromAnchor s.ctx).recovered_head s.ctx (by rw [hkp, hpwr]; exact s.dev.stage_of_runs hr)
  refine ⟨_, exec_journalRecovery s, DevOnly.of_dev .., ?_⟩
  dsimp only
  rw [hop, hjnl, hslices, hks, hkj]
  exact ⟨hstage, hboot.trans hres, hrecs, rfl, hseq, Dev.recovered_reports s.ctx _ (by rw [hkj]; exact hrecs) hkb⟩
theorem recovery_empty (hl : s.dev.pwr.jnlLost = true) (hg : s.dev.mgmtDrbg = true) (hp : s.dev.fab.pair.role = .unpaired) (ha : s.dev.jnl.anchor = none) :
    ∃ u, exec .journalRecovery s = .next u ∧ DevOnly s u ∧ u.dev.pwr.stage = 9 ∧ u.dev.jnl.bootResult = 0 ∧ u.dev.jnl.recs = [] ∧ u.dev.dsp.items = [] := by
  obtain ⟨hfrom, hres⟩ := s.dev.fromAnchor_none s.ctx ha
  obtain ⟨hrecs, hboot, hseq, hsl, hdsp0, hpwr, hfab, hrng⟩ := s.dev.decoded.renumber_keeps
  have hop := journalRecovery_restores s.ctx s.dev hr hl hg (by rw [hfrom]; exact hfab) (by rw [hfrom]; exact hrng) hp
  obtain ⟨hstage, hjnl, hrings, hdsp, hslices⟩ := (s.dev.fromAnchor s.ctx).recovered_head s.ctx (by rw [hfrom, hpwr]; exact s.dev.stage_of_runs hr)
  refine ⟨_, exec_journalRecovery s, DevOnly.of_dev .., ?_⟩
  dsimp only
  rw [hop, hjnl, hdsp]
  rw [hfrom] at hstage ⊢
  rw [hdsp0]
  exact ⟨hstage, hboot.trans hres, hrecs, rfl⟩
theorem recovery_fenced (hl : s.dev.pwr.jnlLost = false) (hrec : s.dev.jnl.recovering = false) (hp : s.dev.fab.pair.role = .active ∨ s.dev.fab.pair.role = .activeAlone) :
    ∃ u, exec .journalRecovery s = .next u ∧ DevOnly s u ∧ u.dev.pwr.stage = 9 ∧ u.dev.fab.pair.role = .fenced ∧ u.dev.fab.pair.swapDue = some (.recover, s.st.toNat)
      ∧ u.dev.jnl.recs = s.dev.jnl.recs ∧ u.dev.jnl.flushDone = false := by
  obtain ⟨e, he, hop⟩ := journalRecovery_retained s.ctx s.dev hr hl hrec
  obtain ⟨hrole, hswap, hjnl, hpwr⟩ := s.dev.roleAfter_active s.ctx hp
  have hfab : e.fab = (s.dev.roleAfter s.ctx).fab := by rw [he, Dev.evtBit_fab]
  have hjnl1 : e.jnl = { s.dev.jnl with flushDone := false } := by rw [he, Dev.evtBit_jnl, hjnl]
  have hpwr1 : e.pwr = s.dev.pwr := by rw [he, Dev.evtBit_pwr]; exact hpwr
  rw [if_neg (by rw [hfab, hrole]; decide)] at hop
  have hhead := e.started_head
  refine ⟨_, exec_journalRecovery s, DevOnly.of_dev .., ?_⟩
  dsimp only
  rw [hop, show e.started.pwr = _ from congrArg Head.pwr hhead, show e.started.fab = e.fab from congrArg Head.fab hhead, show e.started.jnl = e.jnl from congrArg Head.jnl hhead,
    hfab, hjnl1, hpwr1, s.dev.stage_of_runs hr]
  exact ⟨rfl, hrole, hswap, rfl, rfl⟩
theorem recovery_unpaired (hl : s.dev.pwr.jnlLost = false) (hrec : s.dev.jnl.recovering = false) (hp : s.dev.fab.pair.role = .unpaired) (hi : s.dev.dsp.items = []) :
    ∃ u, exec .journalRecovery s = .next u ∧ DevOnly s u ∧ u.dev.pwr.stage = 9 ∧ u.dev.jnl = { s.dev.jnl with flushDone := false, mirrorWait := [] }
      ∧ bit (u.dev.reg Off.jnlEvt) 0 = true := by
  obtain ⟨e, he, hop⟩ := journalRecovery_retained s.ctx s.dev hr hl hrec
  rw [Dev.roleAfter_unpaired s.ctx s.dev hp] at he
  have hfab : e.fab = s.dev.fab := by rw [he, Dev.evtBit_fab]
  have hjnl : e.jnl = { s.dev.jnl with flushDone := false } := by rw [he, Dev.evtBit_jnl]
  have hpwr : e.pwr = s.dev.pwr := by rw [he, Dev.evtBit_pwr]
  have hdsp : e.dsp = s.dev.dsp := by rw [he, Dev.evtBit_dsp]
  have hbit : bit (e.reg Off.jnlEvt) 0 = true := by
    rw [he]
    exact Dev.evtBit_bit _ _ (by decide)
  obtain ⟨hrj, hrp, hrr⟩ := e.redispatch_empty s.ctx (by rw [hdsp]; exact hi)
  rw [if_pos (by rw [hfab]; exact hp)] at hop
  have hhead := (e.redispatch s.ctx).started_head
  refine ⟨_, exec_journalRecovery s, DevOnly.of_dev .., ?_⟩
  dsimp only
  rw [hop, show (e.redispatch s.ctx).started.pwr = _ from congrArg Head.pwr hhead, show (e.redispatch s.ctx).started.jnl = _ from congrArg Head.jnl hhead, Dev.started_reg_ne _ (by decide),
    show (e.redispatch s.ctx).head.jnl = (e.redispatch s.ctx).jnl from rfl, hrj, hjnl, hrp, hpwr, s.dev.stage_of_runs hr]
  refine ⟨rfl, rfl, ?_⟩
  rw [Dev.reg, hrr]
  exact hbit
end

/-- Settles O58, stage by stage: the configuration and the key store's state, the references, and the journal from what the anchor or retained power gives. -/
theorem startUpEnd : Obligations.StartUpEnd := by
  unfold Obligations.StartUpEnd
  intro s
  dsimp only
  refine ⟨fun h => ?_, fun hr => ?_, fun h => ?_, fun hr => ?_, fun h => ?_, fun hr => ⟨fun hl hg hs => ?_, fun hl hg hp => ⟨fun a ha hf hc => ?_, fun a ha h => ?_, fun ha => ?_⟩,
    fun hl hrec => ⟨fun hp => ?_, fun hp hi => ?_⟩⟩⟩
  · rw [exec_configLoad, show configLoadOp s.ctx s.dev = s.dev from Dev.onStage_idle s.dev _ h]
  · have hlog := configLoad_besideLog s.ctx s.dev hr
    have hpwr : (configLoadOp s.ctx s.dev).pwr = _ := congrArg BesideLog.pwr hlog
    refine ⟨_, exec_configLoad s, DevOnly.of_dev .., ?_⟩
    dsimp only
    refine ⟨by rw [hpwr], by rw [hpwr], configLoad_event s.ctx s.dev hr, fun hc hn => ?_, fun hc hcause => ?_⟩
    · rw [show (configLoadOp s.ctx s.dev).cfg = (s.dev.configured s.ctx).cfg from congrArg BesideLog.cfg hlog]
      exact s.dev.configured_default s.ctx hc hn
    · rw [s.dev.configured_kept s.ctx hc hcause] at hlog hpwr
      have hkey : (configLoadOp s.ctx s.dev).key = s.dev.key.checkStore s.otp := congrArg BesideLog.key hlog
      rw [hpwr, hkey]
      refine ⟨?_, congrArg BesideLog.acc hlog, rfl, rfl⟩
      dsimp only
      rw [s.dev.stage_of_runs hr]
  · rw [exec_timeRefStart, show timeRefStartOp s.ctx s.dev = s.dev from Dev.onStage_idle s.dev _ h]
  · exact ⟨_, exec_timeRefStart s, DevOnly.of_dev .., timeRefStart_runs s.ctx s.dev hr⟩
  · have hop : journalRecoveryOp s.ctx s.dev = s.dev := by
      rcases h with h | h
      · exact Dev.onStage_idle s.dev _ h
      · exact Dev.onStage_waits s.dev _ (by simp [stageDoms, h])
    rw [exec_journalRecovery, hop]
  · rw [exec_journalRecovery, journalRecovery_waits s.ctx s.dev hr hl hg hs]
  · exact recovery_valid hr hl hg hp ha hf hc
  · exact recovery_invalid hr hl hg hp ha h
  · exact recovery_empty hr hl hg hp ha
  · exact recovery_fenced hr hl hrec hp
  · exact recovery_unpaired hr hl hrec hp hi

end Sys2Proof.Machine

/-! The halyard lease: its renewals and acknowledgements, what each role makes of them, and the swaps (R428 to R434, R440). -/

namespace Sys2Proof.Machine

/-! ### Messages on the pair links (R412, R413, R427) -/

/-- A message that one sealed frame holds is one piece. -/
theorem pieces_short {b : Bytes} (h : b.length ≤ 2032) : pieces b = [b] := by
  have hn : max 1 (ceilDiv b.length 2032) = 1 := by unfold ceilDiv; omega
  unfold pieces
  rw [hn]
  simp [bsub, h]

/-- A later moment of a session: the same peer and the same secret, the frame counter no lower. -/
structure Session.Later (x y : Session) : Prop where
  peer   : y.peer = x.peer
  unit   : y.unit = x.unit
  ext    : y.ext = x.ext
  frames : x.frames ≤ y.frames

theorem Session.Later.refl (x : Session) : x.Later x := ⟨rfl, rfl, rfl, Nat.le_refl _⟩
theorem Session.Later.trans {x y z : Session} (h : x.Later y) (g : y.Later z) : x.Later z :=
  ⟨g.peer.trans h.peer, g.unit.trans h.unit, g.ext.trans h.ext, h.frames.trans g.frames⟩

/-- A HALYARD message to the partner on a link, as a session seals it. -/
def Dev.linkFrame (d : Dev) (port : Nat) (msg : Bytes) (y : Session) : Tx :=
  .frame port (y.seal { port := port, src := d.nodeId, dst := d.partner, cls := 1, hops := 0, seq := y.frames % 2 ^ 32, boot := d.pwr.boots, payload := msg }).bytes

/-- A link message in a session: its frame leaves, and the session's counter steps. -/
def Dev.linkSent (port : Nat) (msg : Bytes) (x : Session) (d : Dev) : Dev :=
  { d with
    tx := d.linkFrame port msg x :: d.tx
    fab := { d.fab with sessions := updWhere (fun y => y.peer == x.peer) (fun y => { y with frames := y.frames + 1 }) d.fab.sessions } }

section
variable {d : Dev} {x : Session} {msg : Bytes}

theorem Dev.sendSealed_link (port : Nat) (hx : d.session? d.partner = some x) (hl : msg.length ≤ 2032) :
    d.sendSealed (some port) d.partner 1 msg = d.linkSent port msg x := by
  simp only [Dev.sendSealed, pieces_short hl, List.foldl_cons, List.foldl_nil, hx]
  rfl

theorem Dev.session_linkSent (port : Nat) (hx : d.session? d.partner = some x) :
    (d.linkSent port msg x).session? d.partner = some { x with frames := x.frames + 1 } := by
  have hp : x.peer = d.partner := by simpa using List.find?_some hx
  unfold Dev.session? at hx ⊢
  show (updWhere (fun y => y.peer == x.peer) (fun y : Session => { y with frames := y.frames + 1 }) d.fab.sessions).find? (fun y => y.peer == d.partner) = _
  rw [hp, find_updWhere _ _ (fun _ h => by exact h), hx]
  exact congrArg some (by rw [← hp])

/-- A message sent on several links leaves on each of them, in the session as it then stands. -/
theorem foldl_sendSealed_sends (hl : msg.length ≤ 2032) : ∀ (l : List Nat) (d : Dev) (x : Session), d.session? d.partner = some x → ∀ q ∈ l,
    ∃ y, x.Later y ∧ d.linkFrame q msg y ∈ (l.foldl (fun (a : Dev) p => a.sendSealed (some p) d.partner 1 msg) d).tx
  | [], _, _, _, _, hq => by cases hq
  | p :: l, d, x, hx, q, hq => by
    have hstep : d.sendSealed (some p) d.partner 1 msg = d.linkSent p msg x := Dev.sendSealed_link p hx hl
    rw [List.foldl_cons, hstep]
    rcases List.mem_cons.mp hq with rfl | hq
    · refine ⟨x, .refl x, ?_⟩
      exact List.foldlRecOn (motive := fun e : Dev => d.linkFrame q msg x ∈ e.tx) _ _ List.mem_cons_self (fun e he p _ => Dev.sendSealed_sent _ _ _ _ he)
    · obtain ⟨y, hy, hmem⟩ := foldl_sendSealed_sends hl l (d.linkSent p msg x) _ (Dev.session_linkSent p hx) q hq
      have hnext : x.Later { x with frames := x.frames + 1 } := ⟨rfl, rfl, rfl, Nat.le_succ _⟩
      exact ⟨y, hnext.trans hy, hmem⟩

/-- A HALYARD message leaves on each of the links it is for that is UP. -/
theorem Dev.sendLinks_sends {ports : List Nat} {q kind : Nat} {payload : Bytes} (hq : q ∈ ports) (hl : payload.length ≤ 2031) (hon : d.fabOn = true)
    (hc : d.fab.conflict = false) (hx : d.session? d.partner = some x) (hup : d.portUp q = true) :
    ∃ y, x.Later y ∧ d.linkFrame q (toLe 1 kind ++ payload) y ∈ (d.sendLinks ports kind payload).tx := by
  have hlen : (toLe 1 kind ++ payload).length ≤ 2032 := by simp [toLe]; omega
  unfold Dev.sendLinks
  rw [if_neg (by simp [hon, hc])]
  exact foldl_sendSealed_sends hlen _ d x hx q (List.mem_filter.mpr ⟨hq, hup⟩)
end

section
variable (d : Dev) (ports : List Nat) (kind : Nat) (payload : Bytes)

theorem Dev.sendLinks_keeps {β : Type} (g : Dev → β) (h : ∀ (a : Dev) p n k b, g (a.sendSealed p n k b) = g a) : g (d.sendLinks ports kind payload) = g d := by
  unfold Dev.sendLinks
  split
  · rfl
  · exact foldl_keep g _ (fun a p => h a (some p) _ _ _) ..
theorem Dev.sendLinks_pair : (d.sendLinks ports kind payload).fab.pair = d.fab.pair :=
  d.sendLinks_keeps ports kind payload (fun x : Dev => x.fab.pair) (fun a => Dev.sendSealed_pair a)
theorem Dev.sendLinks_regs : (d.sendLinks ports kind payload).regs = d.regs := d.sendLinks_keeps ports kind payload Dev.regs (fun a => Dev.sendSealed_regs a)
end

/-! ### The renewal and its entry of the delay list (R163, R431) -/

theorem Dev.mem_delayList (d : Dev) (e : DelayEnt) : e ∈ d.delayList ↔ (∃ i ∈ d.dsp.items, e ∈ d.itemDelays i) ∨ e ∈ d.timerDelays := by
  rw [← List.mem_flatMap, ← List.mem_append]
  unfold Dev.delayList
  induction d.dsp.items.flatMap d.itemDelays ++ d.timerDelays with
  | nil => rfl
  | cons f t ih => rw [List.foldr_cons, mem_insertDelay, ih, List.mem_cons]

/-- The only entry for a renewal falls due 40 µs after the last one was sent. -/
theorem Dev.delayList_lease {d : Dev} {e : DelayEnt} (h : e ∈ d.delayList) (hu : e.use = .lease) : e.due = d.fab.pair.lastSent + 40000 := by
  rcases (d.mem_delayList e).mp h with ⟨i, -, hi⟩ | ht
  · have hno : e.use ≠ .lease := by
      unfold Dev.itemDelays at hi
      rcases List.mem_append.mp hi with hi | hi
      · rcases List.mem_append.mp hi with hi | hi
        · split at hi
          · split at hi
            · rw [List.mem_singleton.mp hi]; exact DelayUse.noConfusion
            · cases hi
          · cases hi
        · split at hi
          · rw [List.mem_singleton.mp hi]; exact DelayUse.noConfusion
          · cases hi
      · split at hi
        · rw [List.mem_singleton.mp hi]; exact DelayUse.noConfusion
        · cases hi
    exact absurd hu hno
  · unfold Dev.timerDelays at ht
    rcases List.mem_append.mp ht with ht | ht
    · rcases List.mem_append.mp ht with ht | ht
      · obtain ⟨g, -, rfl⟩ := List.mem_map.mp ht
        cases hu
      · split at ht
        · exact congrArg DelayEnt.due (List.mem_singleton.mp ht)
        · cases ht
    · obtain ⟨f, -, rfl⟩ := List.mem_map.mp ht
      cases hu
theorem Dev.nextDue_lease {d : Dev} {c : Ctx} {e : DelayEnt} (h : d.nextDue c = some e) (hu : e.use = .lease) :
    d.fab.pair.lastSent + 40000 ≤ c.now / 1000 * 1000 := by
  rw [← Dev.delayList_lease (List.mem_of_find?_eq_some h) hu]
  exact (Dev.nextDue_first h).1

section
variable {c : Ctx} {d : Dev}

/-- The renewal of a moment, sent. -/
def Dev.renewed (c : Ctx) (d : Dev) : Dev :=
  ((d.delayFire c (d.fab.pair.lastSent + 40000)).sendLinks d.pairPorts 1 (msgNum d.fab.pair.epoch ++ msgNum c.now)).onPair (fun q => { q with lastSent := c.now })

theorem leaseRenewalOp_fires (hr : d.fab.pair.role = .active ∨ d.fab.pair.role = .activeAlone) (hf : d.mayFire c .lease 0 = true) :
    leaseRenewalOp c d = d.renewed c := by
  have hacts : d.fab.pair.role.acts = true := by rcases hr with hr | hr <;> rw [hr] <;> rfl
  unfold leaseRenewalOp
  exact if_pos (by rw [hacts, hf]; rfl)
theorem leaseRenewalOp_waits (h : c.now / 1000 * 1000 < d.fab.pair.lastSent + 40000) : leaseRenewalOp c d = d := by
  have hf : d.mayFire c .lease 0 = false :=
    Dev.mayFire_false_of_next (fun e he hu => absurd (Dev.nextDue_lease he hu) (by omega))
  unfold leaseRenewalOp
  exact if_neg (by simp [hf])
theorem Dev.renewed_pair : (d.renewed c).fab.pair = { d.fab.pair with lastSent := c.now } := by
  unfold Dev.renewed
  rw [Dev.onPair_pair, Dev.sendLinks_pair]
  rfl
theorem Dev.renewed_regs : (d.renewed c).regs = d.regs := Dev.sendLinks_regs ..
theorem renewalAckOp_takes {sent : Nat} (peerSt : Nat) (hr : d.fab.pair.role = .active ∨ d.fab.pair.role = .activeAlone) (hs : sent ≤ c.now)
    (hl : d.fab.pair.lastAcked ≤ sent) : renewalAckOp d.fab.pair.epoch sent peerSt c d
      = d.onPair (fun q => { q with lastAcked := sent, leaseEnd := sent + 160000, offset := (c.now : Int) - peerSt }) := by
  have hacts : d.fab.pair.role.acts = true := by rcases hr with hr | hr <;> rw [hr] <;> rfl
  unfold renewalAckOp
  exact if_pos (by simp [hacts, hs, hl])

/-! ### The partner's renewals (R431, R434) -/

/-- A renewal is taken in, with the epoch and the holder that it shows, and acknowledged on its link. -/
def Dev.heardRenewal (c : Ctx) (port epoch holder peerSt : Nat) (d : Dev) : Dev :=
  (d.onPair (fun q => { q with epoch := epoch, holder := holder, heard := c.now, leaseEnd := c.now + 160000, offset := (c.now : Int) - peerSt })).sendLinks
    [port] 2 (msgNum epoch ++ msgNum peerSt ++ msgNum c.now)

theorem Dev.heardRenewal_pair (port epoch holder peerSt : Nat) : (d.heardRenewal c port epoch holder peerSt).fab.pair
    = { d.fab.pair with epoch := epoch, holder := holder, heard := c.now, leaseEnd := c.now + 160000, offset := (c.now : Int) - peerSt } :=
  Dev.sendLinks_pair ..

theorem renewalReceiveOp_known (port peerSt : Nat) (hr : d.fab.pair.role = .standby ∨ d.fab.pair.role = .syncing) :
    renewalReceiveOp port d.fab.pair.epoch peerSt c d = d.heardRenewal c port d.fab.pair.epoch d.fab.pair.holder peerSt := by
  unfold renewalReceiveOp
  rcases hr with hr | hr
  · simp only [hr, if_true]
    rfl
  · simp only [hr, Nat.lt_irrefl, if_false, if_true]
    rfl
theorem renewalReceiveOp_syncing {e : Nat} (port peerSt : Nat) (hr : d.fab.pair.role = .syncing) (he : d.fab.pair.epoch < e) :
    renewalReceiveOp port e peerSt c d = d.toRole c .fenced := by
  unfold renewalReceiveOp
  simp only [hr]
  exact if_pos he
theorem renewalReceiveOp_standby {e : Nat} (port peerSt : Nat) (hr : d.fab.pair.role = .standby) (he : d.fab.pair.epoch < e)
    (hn : ¬ (e = d.fab.pair.epoch + 1 ∧ d.fab.pair.holder = d.nodeId)) :
    renewalReceiveOp port e peerSt c d = (d.onPair (fun q => { q with epoch := e, holder := d.partner })).startSync c := by
  unfold renewalReceiveOp
  simp only [hr]
  rw [if_neg (by omega), if_neg hn, if_pos he]
theorem renewalReceiveOp_handed (port peerSt : Nat) (hr : d.fab.pair.role = .standby) (hh : d.fab.pair.holder = d.nodeId) :
    renewalReceiveOp port (d.fab.pair.epoch + 1) peerSt c d = d.heardRenewal c port (d.fab.pair.epoch + 1) d.partner peerSt := by
  unfold renewalReceiveOp
  simp only [hr]
  rw [if_neg (by omega), if_pos ⟨trivial, hh⟩]
  rfl

/-! ### Roles (R429, R430) -/

theorem Dev.changesAll_fab (d : Dev) : d.changesAll.fab = { d.fab with pair := { d.fab.pair with changes := [] } } :=
  foldl_keep Dev.fab _ (fun a (w : MirrorChange) => (a.changeDone_keeps w.of).1) ..

/-- A change of role: the role is the new one, and of the pair only the changes that wait may end with it. -/
theorem Dev.toRole_pair (c : Ctx) (r : Role) (d : Dev) : (∃ l, (d.toRole c r).fab.pair = { d.fab.pair with role := r, changes := l }) ∧ (d.toRole c r).jnl = d.jnl := by
  unfold Dev.toRole
  dsimp only
  split
  · next h => exact ⟨⟨d.fab.pair.changes, by rw [← h]⟩, rfl⟩
  · generalize hd2 : Dev.record c Trig.pairRole _ _ = d2
    have hpair : (∃ l, d2.fab.pair = { d.fab.pair with role := r, changes := l }) ∧ d2.jnl = d.jnl := by
      rw [← hd2, Dev.record_fab, Dev.record_jnl]
      split
      · exact ⟨⟨d.fab.pair.changes, rfl⟩, rfl⟩
      · exact ⟨⟨[], by rw [Dev.changesAll_fab]⟩, (Dev.changesAll_keeps _).2.1⟩
    cases r with
    | activeAlone | fenced => rw [Dev.evtBit_fab, Dev.evtBit_jnl]; exact hpair
    | unpaired | syncing | standby | active => exact hpair
theorem Dev.toRole_fenced_evt (h : d.fab.pair.role ≠ .fenced) : bit ((d.toRole c .fenced).reg Off.fabEvt) 6 = true := by
  unfold Dev.toRole
  dsimp only
  rw [if_neg h]
  exact Dev.evtBit_bit _ _ (by decide)

/-- SYNCING is entered with the journal empty, and the epoch stands. -/
theorem Dev.startSync_spec (c : Ctx) (d : Dev) :
    (d.startSync c).fab.pair.role = .syncing ∧ (d.startSync c).fab.pair.epoch = d.fab.pair.epoch ∧ (d.startSync c).jnl.recs = [] := by
  have hhead : ∀ e : Dev, (e.startDdt c).fab = e.fab ∧ (e.startDdt c).jnl = e.jnl := fun e =>
    ⟨congrArg Head.fab (e.startDdt_head c), congrArg Head.jnl (e.startDdt_head c)⟩
  have herase : (d.eraseMirrored c).fab = d.fab ∧ (d.eraseMirrored c).jnl.recs = [] :=
    ⟨(hhead _).1, by unfold Dev.eraseMirrored; rw [(hhead _).2]⟩
  obtain ⟨⟨l, hpair⟩, hjnl⟩ := (d.eraseMirrored c).toRole_pair c .syncing
  unfold Dev.startSync
  rw [Dev.onPair_pair, Dev.onPair_jnl, hpair, hjnl, herase.1]
  exact ⟨rfl, rfl, herase.2⟩

theorem Dev.handoverFail_role (d : Dev) : d.handoverFail.fab.pair.role = d.fab.pair.role := by
  unfold Dev.handoverFail
  dsimp only
  split
  · split
    · unfold Dev.pairEnd
      rw [Dev.evtBit_fab]
      rfl
    · rfl
  · rfl
theorem Dev.abandonAll_steady (c : Ctx) (d : Dev) : (d.abandonAll c).steady = d.steady := foldl_keep Dev.steady _ (fun _ _ => Dev.goBack_steady ..) ..

/-- FENCED is entered with every ring PARKED. -/
theorem Dev.fence_spec (h : d.fab.pair.role ≠ .fenced) : (d.fence c).fab.pair.role = .fenced ∧ bit ((d.fence c).reg Off.fabEvt) 6 = true
    ∧ ∀ r ∈ (d.fence c).hif.rings, r.state = .absent ∨ r.state = .parked := by
  have hrole : (d.abandonAll c).fab.pair.role ≠ .fenced := by
    rw [show (d.abandonAll c).fab.pair = d.fab.pair from congrArg Steady.pair (d.abandonAll_steady c)]
    exact h
  refine ⟨((d.abandonAll c).toRole_fenced c hrole).1, Dev.toRole_fenced_evt hrole, fun r hr => ?_⟩
  obtain ⟨x, -, rfl⟩ := List.mem_map.mp hr
  exact x.park_state

/-! ### Swaps (R428, R431, R432, R434) -/

theorem Pair.swapping_false {p : Pair} (h1 : p.swap = none) (h2 : p.swapDue = none) : p.swapping = false := by simp [Pair.swapping, h1, h2]

section
variable (hr : d.fab.pair.role = .standby)
include hr

theorem leaseGuardOp_due (hs : d.fab.pair.swapping = false) (h : d.fab.pair.leaseEnd + 40000 < c.now) : leaseGuardOp c d = d.issueSwap .takeover :=
  if_pos ⟨hr, hs, h⟩
theorem releaseReceiveOp_swaps (hs : d.fab.pair.swapping = false) : releaseReceiveOp c d = d.issueSwap .handover := if_pos ⟨hr, hs⟩
end
theorem leaseGuardOp_early (h : c.now ≤ d.fab.pair.leaseEnd + 40000) : leaseGuardOp c d = d :=
  if_neg (fun ⟨_, _, hl⟩ => absurd hl (Nat.not_lt.mpr h))

section
variable (hr : d.fab.pair.role = .active)
include hr

theorem ackMissingOp_due (hs : d.fab.pair.swapping = false) (h : d.fab.pair.lastAcked + 80000 ≤ c.now) : ackMissingOp c d = d.issueSwap .alone :=
  if_pos ⟨hr, hs, h⟩
theorem activeLeaseOp_due (h : d.fab.pair.leaseEnd ≤ c.now) : activeLeaseOp c d = d.handoverFail.fence c := if_pos ⟨hr, h⟩
end
theorem ackMissingOp_early (h : c.now < d.fab.pair.lastAcked + 80000) : ackMissingOp c d = d :=
  if_neg (fun ⟨_, _, hl⟩ => absurd hl (Nat.not_le.mpr h))
theorem activeLeaseOp_early (h : c.now < d.fab.pair.leaseEnd) : activeLeaseOp c d = d :=
  if_neg (fun ⟨_, hl⟩ => absurd hl (Nat.not_le.mpr h))

section
variable {k : SwapFor} {t : Nat} (hd : d.fab.pair.swapDue = some (k, t))
include hd

theorem witnessRetryOp_due (ht : t ≤ c.now) (h8 : d.past 8 = true) (hu : d.endpointUp = true) : witnessRetryOp c d = d.issueSwap k := by
  simp only [witnessRetryOp, hd]
  exact if_pos ⟨ht, h8, hu⟩
theorem witnessRetryOp_early (ht : c.now < t) : witnessRetryOp c d = d := by
  simp only [witnessRetryOp, hd]
  exact if_neg (fun ⟨hl, _⟩ => absurd hl (Nat.not_le.mpr ht))
end
end

/-! ### The commands -/

section
variable (s : State)

theorem exec_leaseRenewalTimer : exec .leaseRenewalTimer s = .next { s with dev := leaseRenewalOp s.ctx s.dev } := rfl
theorem exec_renewalReceive (port epoch peerSt : Nat) :
    exec (.renewalReceive port epoch peerSt) s = .next { s with dev := renewalReceiveOp port epoch peerSt s.ctx s.dev } := rfl
theorem exec_renewalAckReceive (epoch sent peerSt : Nat) :
    exec (.renewalAckReceive epoch sent peerSt) s = .next { s with dev := renewalAckOp epoch sent peerSt s.ctx s.dev } := rfl
theorem exec_leaseGuardExpiry : exec .leaseGuardExpiry s = .next { s with dev := leaseGuardOp s.ctx s.dev } := rfl
theorem exec_ackMissingTimeout : exec .ackMissingTimeout s = .next { s with dev := ackMissingOp s.ctx s.dev } := rfl
theorem exec_activeLeaseExpiry : exec .activeLeaseExpiry s = .next { s with dev := activeLeaseOp s.ctx s.dev } := rfl
theorem exec_releaseReceive : exec .releaseReceive s = .next { s with dev := releaseReceiveOp s.ctx s.dev } := rfl
theorem exec_witnessRetryTimer : exec .witnessRetryTimer s = .next { s with dev := witnessRetryOp s.ctx s.dev } := rfl
end

/-- Settles O40, role by role: renewals by `Dev.renewed` and `Dev.heardRenewal`, later epochs by the role that they lead to, the rest by which instant has come. -/
theorem pairLease : Obligations.PairLease := by
  unfold Obligations.PairLease
  intro s
  dsimp only
  refine ⟨fun hr => ⟨fun hnext hroom => ?_, fun h => ?_, fun sent peerSt hs hl => ?_⟩, fun hr port peerSt => ?_, fun hr port e peerSt he => ?_,
    fun hr => ⟨fun port e peerSt he hn => ?_, fun port peerSt hh => ?_, fun h1 h2 => ⟨fun h => ?_, fun h => ?_, ?_⟩⟩,
    fun hr => ⟨fun h1 h2 => ⟨fun h => ?_, fun h => ?_⟩, fun h => ?_, fun h => ?_⟩, fun k t hd => ⟨fun ht h8 hu => ?_, fun ht => ?_⟩⟩
  · have hf : s.dev.mayFire s.ctx .lease 0 = true := (Dev.mayFire_iff ..).mpr ⟨hnext, hroom⟩
    obtain ⟨e, he, hu, -⟩ := hnext
    refine ⟨Dev.nextDue_lease (c := s.ctx) he hu, _, exec_leaseRenewalTimer s, .of_dev .., ?_⟩
    dsimp only
    rw [leaseRenewalOp_fires hr hf]
    refine ⟨Dev.renewed_pair, Dev.renewed_regs, fun q hq x hon hc hx hup => ?_⟩
    obtain ⟨y, hy, hmem⟩ := Dev.sendLinks_sends (d := s.dev.delayFire s.ctx (s.dev.fab.pair.lastSent + 40000)) (kind := 1)
      (payload := msgNum s.dev.fab.pair.epoch ++ msgNum s.st.toNat) hq (by simp [msgNum, toLe]) hon hc hx hup
    exact ⟨y, hy.peer, hy.unit, hy.ext, hy.frames, by rw [List.append_assoc]; exact hmem⟩
  · rw [exec_leaseRenewalTimer, leaseRenewalOp_waits (c := s.ctx) h]
  · rw [exec_renewalAckReceive, renewalAckOp_takes peerSt hr hs hl]
    rfl
  · refine ⟨_, exec_renewalReceive s port _ peerSt, .of_dev .., ?_⟩
    dsimp only
    rw [renewalReceiveOp_known port peerSt hr]
    refine ⟨Dev.heardRenewal_pair .., fun x hon hc hx hup => ?_⟩
    obtain ⟨y, hy, hmem⟩ := Dev.sendLinks_sends
      (d := s.dev.onPair (fun q => { q with heard := s.st.toNat, leaseEnd := s.st.toNat + 160000, offset := (s.st.toNat : Int) - peerSt })) (kind := 2)
      (payload := msgNum s.dev.fab.pair.epoch ++ msgNum peerSt ++ msgNum s.st.toNat) (List.mem_singleton_self port) (by simp [msgNum, toLe]) hon hc hx hup
    exact ⟨y, hy.peer, hy.unit, hy.ext, hy.frames, by rw [List.append_assoc, List.append_assoc, ← List.append_assoc (msgNum _)]; exact hmem⟩
  · refine ⟨_, exec_renewalReceive s port e peerSt, .of_dev .., ?_⟩
    dsimp only
    have hne : s.dev.fab.pair.role ≠ .fenced := by rw [hr]; decide
    rw [renewalReceiveOp_syncing port peerSt hr he]
    exact ⟨(s.dev.toRole_fenced s.ctx hne).1, Dev.toRole_fenced_evt hne⟩
  · refine ⟨_, exec_renewalReceive s port e peerSt, .of_dev .., ?_⟩
    dsimp only
    rw [renewalReceiveOp_standby port peerSt hr he hn]
    exact Dev.startSync_spec ..
  · refine ⟨_, exec_renewalReceive s port _ peerSt, .of_dev .., ?_⟩
    dsimp only
    rw [renewalReceiveOp_handed port peerSt hr hh, Dev.heardRenewal_pair]
    exact ⟨hr, rfl, rfl⟩
  · rw [exec_leaseGuardExpiry, leaseGuardOp_due hr (Pair.swapping_false h1 h2) h]
    rfl
  · rw [exec_leaseGuardExpiry, leaseGuardOp_early h]
  · rw [exec_releaseReceive, releaseReceiveOp_swaps hr (Pair.swapping_false h1 h2)]
    rfl
  · rw [exec_ackMissingTimeout, ackMissingOp_due hr (Pair.swapping_false h1 h2) h]
    rfl
  · rw [exec_ackMissingTimeout, ackMissingOp_early h]
  · refine ⟨_, exec_activeLeaseExpiry s, .of_dev .., ?_⟩
    dsimp only
    rw [activeLeaseOp_due hr h]
    exact Dev.fence_spec (by rw [Dev.handoverFail_role, hr]; decide)
  · rw [exec_activeLeaseExpiry, activeLeaseOp_early h]
  · rw [exec_witnessRetryTimer, witnessRetryOp_due hd ht h8 hu]
    rfl
  · rw [exec_witnessRetryTimer, witnessRetryOp_early hd ht]

end Sys2Proof.Machine

/-! The delay list's deadlines and back-offs, thread tasks and histograms of the dispatch unit (R159, R163 to R171, R179, R180, R247). -/

namespace Sys2Proof.Machine

/-! ### The preemption rule (R159) -/

/-- The item of a slot is told to save its context. -/
def Dev.signalled (k : Nat) (d : Dev) : Dev := (d.bump Off.dspPreempts).updItem k (fun x => { x with preempt := true })

/-- The preemption rule signals one item, or none. -/
theorem Dev.tryPreempt_cases (c : Ctx) (g : Nat) (d : Dev) : d.tryPreempt c g = d ∨ ∃ k, d.tryPreempt c g = d.signalled k := by
  unfold Dev.tryPreempt
  dsimp only
  split
  · exact .inl rfl
  · split
    · split
      · exact .inl rfl
      · next v _ => exact .inr ⟨v.slot, rfl⟩
    · exact .inl rfl

section
variable (c : Ctx) (g : Nat) {d : Dev}

theorem Dev.tryPreempt_jnl : (d.tryPreempt c g).jnl = d.jnl := by
  rcases d.tryPreempt_cases c g with h | ⟨k, h⟩ <;> rw [h]
  rfl
theorem Dev.tryPreempt_dsp : ∃ l, (d.tryPreempt c g).dsp = { d.dsp with items := l } := by
  rcases d.tryPreempt_cases c g with h | ⟨k, h⟩ <;> rw [h]
  · exact ⟨d.dsp.items, rfl⟩
  · exact ⟨_, rfl⟩
/-- The rule changes nothing of an item but the signal. -/
theorem Dev.tryPreempt_item {slot : Nat} {j : Item} (hj : d.item? slot = some j) : ∃ p, (d.tryPreempt c g).item? slot = some { j with preempt := p } := by
  rcases d.tryPreempt_cases c g with h | ⟨k, h⟩ <;> rw [h]
  · exact ⟨j.preempt, hj⟩
  · by_cases hk : k = slot
    · subst hk
      exact ⟨true, Dev.item_updItem (d.bump Off.dspPreempts) _ hj (fun _ h => h)⟩
    · refine ⟨j.preempt, ?_⟩
      rw [← show d.item? slot = some { j with preempt := j.preempt } from hj]
      refine find_updWhere_other _ _ _ (fun x hx => ?_) (fun x hx => ?_) _ <;> rw [beq_iff_eq] at hx <;> rw [beq_eq_false_iff_ne]
      · exact fun h => hk (h.symm.trans hx)
      · exact fun h => hk (hx.symm.trans h)
end

/-! ### Deadlines and back-offs (R163, R164, R170, R171, R247) -/

/-- An entry that fires after its due tick is counted, once. -/
theorem Dev.delayFire_deferred (c : Ctx) (t : Nat) (d : Dev) :
    (d.delayFire c t).dsp.deferred = d.dsp.deferred + (if t + 999 < c.now / 1000 * 1000 then 1 else 0) := by
  have h : tickOf t < c.now / 1000 ↔ t + 999 < c.now / 1000 * 1000 := by unfold tickOf ceilDiv; omega
  simp only [Dev.delayFire, b2n, h, decide_eq_true_eq]

section
variable {c : Ctx} {d : Dev} {slot : Nat} {i : Item} (hi : d.item? slot = some i)
include hi

theorem deadlineExpiryOp_idle (hf : d.mayFire c .expiry slot = false) : deadlineExpiryOp slot c d = d := by
  simp [deadlineExpiryOp, hi, hf]

section
variable (hds : i.ds = .held ∨ i.ds = .pending ∨ i.ds = .placed) (hst : i.started = false) (hm : i.mark = none) (he : d.expires i = true)
  (ha : d.acked slot = true) (hf : d.mayFire c .expiry slot = true)
include hds hst hm he ha hf

theorem deadlineExpiryOp_fires : deadlineExpiryOp slot c d = (d.delayFire c (i.deadline + 1)).finishNow c slot 1 i.expirySub := by
  have hw : d.expiryWaits i = true := by rcases hds with h | h | h <;> simp [Dev.expiryWaits, h, hst, hm, he]
  simp [deadlineExpiryOp, hi, hw, ha, hf]
theorem deadlineExpiryOp_ends {r : Rec} (hr : d.rec? slot = some r) (hs : i.spillFrom = none) (hh : d.flowHeld i = false) :
    (deadlineExpiryOp slot c d).Ended slot 1 i.expirySub := by
  rw [deadlineExpiryOp_fires hi hds hst hm he ha hf]
  refine Dev.finishNow_ended (d := d.delayFire c (i.deadline + 1)) hi ?_ hh (Dev.owns_of_item (d := d.delayFire c (i.deadline + 1)) hi hr hs) c 1 i.expirySub
  rcases hds with h | h | h <;> rw [h] <;> decide
theorem deadlineExpiryOp_marks (hh : d.flowHeld i = true) :
    (deadlineExpiryOp slot c d).item? slot = some { i with mark := some (1, i.expirySub) } ∧ (deadlineExpiryOp slot c d).jnl = d.jnl := by
  have hne : i.ds ≠ .finished := by rcases hds with h | h | h <;> rw [h] <;> decide
  have hfin : (d.delayFire c (i.deadline + 1)).finishNow c slot 1 i.expirySub
      = (d.delayFire c (i.deadline + 1)).updItem slot (fun x => { x with mark := if x.mark.isSome then x.mark else some (1, i.expirySub) }) := by
    unfold Dev.finishNow
    simp only [show (d.delayFire c (i.deadline + 1)).item? slot = some i from hi]
    rw [if_neg hne, if_pos (show (d.delayFire c (i.deadline + 1)).flowHeld i = true from hh)]
  rw [deadlineExpiryOp_fires hi hds hst hm he ha hf, hfin]
  refine ⟨?_, rfl⟩
  rw [Dev.item_updItem (d.delayFire c (i.deadline + 1)) _ hi (fun _ h => by exact h), hm]
  rfl
end

section
variable {t : Nat} (ht : i.notBefore = some t)
include ht

theorem restartBackoffOp_idle (hf : d.mayFire c .backoff slot = false) : restartBackoffOp slot c d = d := by
  simp [restartBackoffOp, hi, ht, hf]
theorem restartBackoffOp_fires (hf : d.mayFire c .backoff slot = true) :
    restartBackoffOp slot c d = ((d.delayFire c t).updItem slot (fun x => { x with notBefore := none })).tryPreempt c i.grove := by
  simp [restartBackoffOp, hi, ht, hf]
/-- A back-off that ends: the item waits no longer, and is otherwise what it was. -/
theorem restartBackoffOp_spec (hf : d.mayFire c .backoff slot = true) : ∃ j, (restartBackoffOp slot c d).item? slot = some j ∧ j.notBefore = none ∧ j.ds = i.ds
    ∧ j.desc = i.desc ∧ (restartBackoffOp slot c d).jnl = d.jnl
    ∧ (restartBackoffOp slot c d).dsp.deferred = d.dsp.deferred + (if t + 999 < c.now / 1000 * 1000 then 1 else 0) := by
  rw [restartBackoffOp_fires hi ht hf, ← Dev.delayFire_deferred]
  obtain ⟨p, hp⟩ := Dev.tryPreempt_item c i.grove (Dev.item_updItem (d.delayFire c t) (fun x => { x with notBefore := none }) hi (fun _ h => h))
  obtain ⟨l, hl⟩ := Dev.tryPreempt_dsp c i.grove (d := (d.delayFire c t).updItem slot (fun x => { x with notBefore := none }))
  refine ⟨_, hp, rfl, rfl, rfl, Dev.tryPreempt_jnl .., ?_⟩
  rw [hl]
  rfl
end
end

/-! ### Thread tasks (R165 to R167, R591) -/

theorem mem_insertFw (f x : FwTask) : ∀ l : List FwTask, x ∈ insertFw f l ↔ x = f ∨ x ∈ l
  | [] => by simp [insertFw]
  | g :: t => by
    unfold insertFw
    split
    · exact List.mem_cons
    · rw [List.mem_cons, mem_insertFw f x t, List.mem_cons]
      exact or_left_comm

section
variable (c : Ctx) {d : Dev}

/-- With a pair in service a task of the class is ready, its deadline as R167 gives it. -/
theorem Dev.fwReady_task (cls : Nat) (hm : d.mgmtUp = true) : (d.fwReady c cls).dsp.items = d.dsp.items ∧ (d.fwReady c cls).dsp.fwTimers = d.dsp.fwTimers
    ∧ ∃ g ∈ (d.fwReady c cls).dsp.fw, g.id = d.dsp.fwNext ∧ g.cls = cls ∧ g.deadline = c.now + fwDeadline cls ∧ g.missed = false := by
  unfold Dev.fwReady
  rw [if_neg (by simp [hm])]
  exact ⟨rfl, rfl, _, (mem_insertFw ..).mpr (.inl rfl), rfl, rfl, rfl, rfl⟩

section
variable (hm : d.mgmtUp = true) (hu : d.endpointUp = true)
include hm hu

theorem firmwareTimerOp_dvfs {f : FwTimer} (hf : d.dsp.fwTimers.find? (fun f => f.cls == 0) = some f) (hfire : d.mayFire c .firmware 0 = true) :
    firmwareTimerOp 0 c d = ((d.delayFire c f.due).setFwTimer c 0 ((c.now / 100000 + 1) * 100000)).fwReady c 0 := by
  unfold firmwareTimerOp
  rw [hf]
  exact if_pos (by simp [hm, hu, hfire])
theorem firmwareTimerOp_wakes {task : Nat} (h1 : 1 ≤ task) (h5 : task < 5) (hf : d.dsp.fwTimers.find? (fun f => f.cls == task) = none) :
    firmwareTimerOp task c d = d.fwReady c task := by
  unfold firmwareTimerOp
  rw [hf]
  dsimp only
  rw [if_pos (by simp [h5, hm, hu]), if_neg (by omega)]
end

/-- A task past its deadline, counted and reported. -/
def Dev.taskMissed (f : FwTask) (d : Dev) : Dev :=
  ((({ d with dsp := { d.dsp with fw := updWhere (fun x => x.id == f.id) (fun x => { x with missed := true }) d.dsp.fw } }).bump Off.dspFwMiss).evtBit Off.dspEvt 6).record
    c Trig.fwMiss (toLe 1 f.cls ++ toLe 4 ((c.now - f.deadline) / nsUs))

section
variable {task : Nat} {f : FwTask} (hf : (d.fwAdvance c).dsp.fw.find? (fun f => f.id == task) = some f)
include hf

theorem fwTaskMissOp_first (hm : d.mgmtUp = true) (hd : f.deadline < c.now) (hmiss : f.missed = false) : fwTaskMissOp task c d = (d.fwAdvance c).taskMissed c f := by
  have hup : (d.fwAdvance c).mgmtUp = true := hm
  have hid : f.id = task := by simpa using List.find?_some hf
  unfold fwTaskMissOp
  simp only [hf]
  rw [if_pos (by simp [hmiss, hup, hd]), Dev.taskMissed, hid]
theorem fwTaskMissOp_again (hmiss : f.missed = true) : fwTaskMissOp task c d = d.fwAdvance c := by
  unfold fwTaskMissOp
  simp only [hf]
  exact if_neg (by simp [hmiss])
end

theorem Dev.taskMissed_spec {task : Nat} {f : FwTask} (hf : d.dsp.fw.find? (fun f => f.id == task) = some f) :
    (d.taskMissed c f).dsp.fw.find? (fun f => f.id == task) = some { f with missed := true }
      ∧ ((d.taskMissed c f).reg Off.dspFwMiss).toNat = min 0xFFFFFFFF ((d.reg Off.dspFwMiss).toNat + 1) ∧ bit ((d.taskMissed c f).reg Off.dspEvt) 6 = true := by
  have hid : f.id = task := by simpa using List.find?_some hf
  unfold Dev.taskMissed
  rw [hid]
  refine ⟨?_, ?_, ?_⟩
  · rw [Dev.record_dsp, Dev.evtBit_dsp, Dev.bump_dsp, find_updWhere _ _ (fun _ h => by exact h), hf, ← hid]
    rfl
  · rw [Dev.record_reg_ne _ _ _ _ (by decide) (by decide), Dev.evtBit_reg_ne _ _ (by decide), Dev.bump_toNat]
    rfl
  · rw [Dev.record_reg_ne _ _ _ _ (by decide) (by decide)]
    exact Dev.evtBit_bit _ _ (by decide)
end

/-! ### Histograms (R179) -/

section
variable (d : Dev)

/-- The histogram of a slice, cleared; and those of all. -/
def Dev.histCleared (n : Nat) (d : Dev) : Dev := d.updCnt n (fun k => { k with hist := [] })
def Dev.histsCleared (d : Dev) : Dev := { d with dsp := { d.dsp with counts := d.dsp.counts.map (fun (k : SliceCnt) => { k with hist := [] }) } }

theorem histCtrlW_clear : histCtrlW 1#32 d = .took (d.histCleared (fld (d.reg Off.dspSliceSel) 11 0)) := rfl
theorem histCtrlW_clearAll : histCtrlW 2#32 d = .took d.histsCleared := rfl
theorem Dev.histCleared_hist (n : Nat) : ((d.histCleared n).sliceCnt n).hist = [] := by
  unfold Dev.histCleared Dev.updCnt Dev.sliceCnt
  rw [find_upsert _ _ _ (by simp) (fun _ h => by exact h)]
  rfl
theorem Dev.histsCleared_hist (n : Nat) : (d.histsCleared.sliceCnt n).hist = [] := by
  unfold Dev.histsCleared Dev.sliceCnt
  rw [List.find?_map]
  cases d.dsp.counts.find? ((fun k : SliceCnt => k.num == n) ∘ fun k => { k with hist := [] }) <;> rfl
/-- Every bucket of the latch is the selected slice's. -/
theorem Dev.histLatch_getD (k : Nat) : d.histLatch.dsp.histLatch.getD k 0 = (d.sliceCnt (fld (d.reg Off.dspSliceSel) 11 0)).hist.getD k 0 := by
  unfold Dev.histLatch
  dsimp only
  generalize (d.sliceCnt (fld (d.reg Off.dspSliceSel) 11 0)).hist = l
  simp only [List.getD_eq_getElem?_getD, List.getElem?_append, List.getElem?_replicate]
  split
  · rfl
  · next h =>
    rw [List.getElem?_eq_none (by omega)]
    split <;> rfl
end

/-! ### The commands -/

section
variable (s : State)

theorem exec_deadlineExpiry (slot : Nat) : exec (.deadlineExpiry slot) s = .next { s with dev := deadlineExpiryOp slot s.ctx s.dev } := rfl
theorem exec_restartBackoffExpiry (slot : Nat) : exec (.restartBackoffExpiry slot) s = .next { s with dev := restartBackoffOp slot s.ctx s.dev } := rfl
theorem exec_firmwareTimer (task : Nat) : exec (.firmwareTimer task) s = .next { s with dev := firmwareTimerOp task s.ctx s.dev } := rfl
theorem exec_fwTaskDeadlineMiss (task : Nat) : exec (.fwTaskDeadlineMiss task) s = .next { s with dev := fwTaskMissOp task s.ctx s.dev } := rfl
theorem exec_sliceHistClear : exec .sliceHistClear s = .next { s with dev := s.dev.hostWrite s.ctx Off.dspSliceHistCtrl (histCtrlW 1#32) } := rfl
theorem exec_sliceHistClearAll : exec .sliceHistClearAll s = .next { s with dev := s.dev.hostWrite s.ctx Off.dspSliceHistCtrl (histCtrlW 2#32) } := rfl
theorem exec_sliceHistRead : exec .sliceHistRead s = .next
    { s with dev := s.dev.hostRead s.ctx Off.dspSliceHist (fun x => (BitVec.ofNat 64 (x.histLatch.dsp.histLatch.getD 0 0), x.histLatch)) } := rfl
end

/-- Settles O23, entry by entry of the delay list by whether it fires, then the tasks, then the histograms. -/
theorem dispatchTimers : Obligations.DispatchTimers := by
  unfold Obligations.DispatchTimers
  intro s
  dsimp only
  refine ⟨fun slot i hi hds hst hm he ha => ⟨fun hfire hs hr hh => ?_, fun hfire hh => ?_, fun hno => ?_⟩,
    fun slot i t hi ht => ⟨fun hfire => ?_, fun hno => ?_, fun htick hcount => ?_⟩,
    fun hm hu => ⟨fun f hf hfire => ?_, fun task h1 h5 hf => ?_⟩, fun task f hf hm hd => ⟨fun hmiss => ?_, fun hmiss => ?_⟩,
    fun hmay => ⟨?_, ?_⟩, fun hmay => ?_⟩
  · obtain ⟨r, hr⟩ := Option.isSome_iff_exists.mp hr
    exact ⟨_, exec_deadlineExpiry s slot, .of_dev .., deadlineExpiryOp_ends hi hds hst hm he ha ((Dev.mayFire_iff ..).mpr hfire) hr hs hh⟩
  · exact ⟨_, exec_deadlineExpiry s slot, .of_dev .., deadlineExpiryOp_marks hi hds hst hm he ha ((Dev.mayFire_iff ..).mpr hfire) hh⟩
  · rw [exec_deadlineExpiry, deadlineExpiryOp_idle hi (Bool.eq_false_iff.mpr (fun h => hno ((Dev.mayFire_iff ..).mp h)))]
  · obtain ⟨j, hj⟩ := restartBackoffOp_spec hi ht ((Dev.mayFire_iff s.ctx ..).mpr hfire)
    exact ⟨_, j, exec_restartBackoffExpiry s slot, .of_dev .., hj⟩
  · rw [exec_restartBackoffExpiry, restartBackoffOp_idle hi ht (Bool.eq_false_iff.mpr (fun h => hno ((Dev.mayFire_iff ..).mp h)))]
  · have hroom : s.dev.fireRoom s.ctx = false := by simp [Dev.fireRoom, htick, hcount]
    rw [exec_restartBackoffExpiry, restartBackoffOp_idle hi ht (Dev.mayFire_false_of_room hroom)]
  · refine ⟨_, exec_firmwareTimer s 0, .of_dev .., ?_⟩
    dsimp only
    rw [firmwareTimerOp_dvfs s.ctx hm hu hf ((Dev.mayFire_iff ..).mpr hfire)]
    obtain ⟨hitems, htimers, htask⟩ := Dev.fwReady_task s.ctx (d := (s.dev.delayFire s.ctx f.due).setFwTimer s.ctx 0 ((s.st.toNat / 100000 + 1) * 100000)) 0 hm
    refine ⟨hitems, htask, ?_⟩
    rw [State.ctx_now, htimers]
    exact ⟨_, List.mem_append_right _ (List.mem_singleton_self _), rfl, rfl⟩
  · refine ⟨_, exec_firmwareTimer s task, .of_dev .., ?_⟩
    dsimp only
    rw [firmwareTimerOp_wakes s.ctx hm hu h1 h5 hf]
    obtain ⟨hitems, -, htask⟩ := Dev.fwReady_task s.ctx task hm
    exact ⟨hitems, htask⟩
  · refine ⟨_, exec_fwTaskDeadlineMiss s task, .of_dev .., ?_⟩
    dsimp only
    rw [fwTaskMissOp_first s.ctx hf hm hd hmiss, ← Dev.fwAdvance_reg s.dev s.ctx]
    exact Dev.taskMissed_spec s.ctx hf
  · rw [exec_fwTaskDeadlineMiss, fwTaskMissOp_again s.ctx hf hmiss]
  · refine ⟨_, exec_sliceHistClear s, .of_dev .., ?_⟩
    dsimp only
    rw [hostWrite_own hmay rfl (histCtrlW_clear s.dev)]
    exact ⟨Dev.histCleared_hist .., rfl⟩
  · refine ⟨_, exec_sliceHistClearAll s, .of_dev .., ?_⟩
    dsimp only
    rw [hostWrite_own hmay rfl (histCtrlW_clearAll s.dev)]
    exact ⟨s.dev.histsCleared_hist, rfl⟩
  · refine ⟨_, exec_sliceHistRead s, .of_dev .., ?_⟩
    dsimp only
    rw [hostRead_ret hmay]
    exact ⟨by dsimp only; rw [Dev.histLatch_getD], fun k _ => s.dev.histLatch_getD k, rfl⟩

end Sys2Proof.Machine

/-! Placement, the start on a twin, the save of a context and its resumption (R153, R157, R161, R162, R557). -/

namespace Sys2Proof.Machine

/-! ### What leaves the items of the dispatch unit where they are -/

/-- From `d` to `e` the round robin stands, and an item has moved to no grove and changed its state, if at all, to finished. -/
structure Dev.StayPut (d e : Dev) : Prop where
  rr    : e.dsp.rr = d.dsp.rr
  items : ∀ j ∈ e.dsp.items, ∃ i ∈ d.dsp.items, i.slot = j.slot ∧ i.grove = j.grove ∧ (j.ds = i.ds ∨ j.ds = .finished)

section
variable {d e f : Dev}

theorem Dev.StayPut.trans (h : d.StayPut e) (k : e.StayPut f) : d.StayPut f := by
  refine ⟨k.rr.trans h.rr, fun x hx => ?_⟩
  obtain ⟨j, hj, hslot, hgrove, hds⟩ := k.items x hx
  obtain ⟨i, hi, hslot', hgrove', hds'⟩ := h.items j hj
  refine ⟨i, hi, hslot'.trans hslot, hgrove'.trans hgrove, ?_⟩
  rcases hds with hds | hds
  · rw [hds]
    exact hds'
  · exact .inr hds
theorem Dev.StayPut.of_subset (hrr : e.dsp.rr = d.dsp.rr) (hit : ∀ j ∈ e.dsp.items, j ∈ d.dsp.items) : d.StayPut e :=
  ⟨hrr, fun j hj => ⟨j, hit j hj, rfl, rfl, .inl rfl⟩⟩
theorem Dev.StayPut.of_dsp (h : e.dsp = d.dsp) : d.StayPut e := .of_subset (by rw [h]) (by rw [h]; exact fun _ hj => hj)
theorem Dev.StayPut.refl (d : Dev) : d.StayPut d := .of_dsp rfl
theorem Dev.StayPut.of_updWhere {p : Item → Bool} {u : Item → Item} (hrr : e.dsp.rr = d.dsp.rr) (hit : e.dsp.items = updWhere p u d.dsp.items)
    (hu : ∀ i, (u i).slot = i.slot ∧ (u i).grove = i.grove ∧ ((u i).ds = i.ds ∨ (u i).ds = .finished)) : d.StayPut e := by
  refine ⟨hrr, fun j hj => ?_⟩
  rw [hit, updWhere, List.mem_map] at hj
  obtain ⟨i, hi, rfl⟩ := hj
  refine ⟨i, hi, ?_⟩
  split
  · obtain ⟨hslot, hgrove, hds⟩ := hu i
    exact ⟨hslot.symm, hgrove.symm, hds⟩
  · exact ⟨rfl, rfl, .inl rfl⟩
theorem Dev.StayPut.updItem (n : Nat) (u : Item → Item) (hu : ∀ i, (u i).slot = i.slot ∧ (u i).grove = i.grove ∧ ((u i).ds = i.ds ∨ (u i).ds = .finished)) :
    d.StayPut (d.updItem n u) := .of_updWhere rfl rfl hu
theorem Dev.StayPut.foldl {α : Type} {u : Dev → α → Dev} (hu : ∀ a b, Dev.StayPut a (u a b)) (l : List α) : ∀ d : Dev, d.StayPut (l.foldl u d) := by
  induction l with
  | nil => exact .refl
  | cons b t ih => exact fun d => (hu d b).trans (ih (u d b))
end

/-! ### Items that finish (R98, R138, R152) -/

section
variable (d : Dev) (c : Ctx)

theorem Dev.unbind_rr (k : Nat) : (d.unbind c k).dsp.rr = d.dsp.rr := by unfold Dev.unbind; dsimp only; split <;> rfl
theorem Dev.flowPrune_rr (f : Option (Nat × Nat)) : (d.flowPrune f).dsp.rr = d.dsp.rr := by unfold Dev.flowPrune; split <;> [rfl; (split <;> rfl)]
theorem Dev.retire_rr (k : Nat) : (d.retire k).dsp.rr = d.dsp.rr := by unfold Dev.retire; split <;> rfl

theorem Dev.discardEntry_stayPut (k : Nat) : d.StayPut (d.discardEntry k) := by
  unfold Dev.discardEntry
  refine .of_subset ?_ (fun j hj => ?_)
  · rw [Dev.mirrorRec_dsp]
    exact Dev.retire_rr (d.updRec k _) k
  · rw [Dev.mirrorRec_dsp] at hj
    exact Dev.retire_items (d.updRec k _) hj
theorem Dev.owe_stayPut (k : Nat) (r : Rec) (st sub n : Nat) : d.StayPut (d.owe c k r st sub n) := by
  refine .of_updWhere ?_ (Dev.owe_items c k r st sub n d) (fun _ => ⟨rfl, rfl, .inr rfl⟩)
  unfold Dev.owe
  dsimp only
  rw [Dev.mirrorRec_dsp, Dev.countStatus_dsp, Dev.flowPrune_rr]
  exact Dev.unbind_rr d c k
theorem Dev.spillAnswer_stayPut (i : Item) (peer o st sub n : Nat) (out : Bytes) : d.StayPut (d.spillAnswer i peer o st sub n out) := by
  refine .of_subset ?_ (fun j hj => ?_)
  · simp [Dev.spillAnswer]
  · have h : j ∈ d.dsp.items ∧ j.slot ≠ i.slot := by simpa [Dev.spillAnswer] using hj
    exact h.1
theorem Dev.oweOne_stayPut (k st sub n : Nat) : d.StayPut (d.oweOne c k st sub n) := by
  unfold Dev.oweOne
  dsimp only
  split
  · exact (Dev.StayPut.of_subset (Dev.unbind_rr d c k) (by rw [Dev.unbind_items]; exact fun _ hj => hj)).trans (Dev.spillAnswer_stayPut ..)
  · split
    · exact .refl d
    · split
      · exact (d.owe_stayPut c ..).trans (Dev.discardEntry_stayPut ..)
      · exact d.owe_stayPut c ..
theorem Dev.cascade_stayPut : ∀ (n : Nat) (d : Dev), d.StayPut (d.cascade c n)
  | 0, d => .refl d
  | n + 1, d => by
    unfold Dev.cascade
    split
    · exact .refl d
    · split
      · exact .refl d
      · exact (d.oweOne_stayPut c ..).trans (Dev.cascade_stayPut n _)
theorem Dev.toOwed_stayPut (k st sub n : Nat) : d.StayPut (d.toOwed c k st sub n) := (d.oweOne_stayPut c ..).trans (Dev.cascade_stayPut c ..)
theorem Dev.finishNow_stayPut (k st sub : Nat) : d.StayPut (d.finishNow c k st sub) := by
  unfold Dev.finishNow
  split
  · exact d.toOwed_stayPut c ..
  · split
    · exact .refl d
    · split
      · exact .updItem _ _ (fun _ => ⟨rfl, rfl, .inl rfl⟩)
      · exact d.toOwed_stayPut c ..

/-! ### Step B, step C and the preemption rule (R158, R159, R381) -/

theorem Dev.takeUp_dsp (g : Nat) : (d.takeUp g).dsp = d.dsp := by
  unfold Dev.takeUp
  split
  · dsimp only
    split <;> rfl
  · rfl
theorem Dev.noteRefs_dsp (i : Item) : (d.noteRefs i).dsp = d.dsp := by unfold Dev.noteRefs; split <;> rfl
theorem Dev.stepBFail_stayPut (k st sub : Nat) : d.StayPut (d.stepBFail c k st sub) := by
  have h : d.StayPut ((d.bump Off.keyLoadFail).finishNow c k st sub) := (Dev.StayPut.of_dsp (Dev.bump_dsp ..)).trans (Dev.finishNow_stayPut ..)
  unfold Dev.stepBFail
  dsimp only
  split
  · exact h.trans (.of_dsp (Dev.evtBit_dsp ..))
  · exact h
theorem Dev.runStepB_stayPut (k : Nat) : d.StayPut (d.runStepB c k) := by
  unfold Dev.runStepB
  split
  · exact .refl d
  · next i _ =>
    split
    · exact .refl d
    · have htake : d.StayPut (d.takeUp i.grove) := .of_dsp (d.takeUp_dsp i.grove)
      refine htake.trans ?_
      dsimp only
      split
      · exact Dev.stepBFail_stayPut ..
      · split
        · exact .of_updWhere rfl rfl (fun _ => ⟨rfl, rfl, .inl rfl⟩)
        · exact .refl _
      · refine .trans ?_ (.of_dsp (Dev.noteRefs_dsp _ i))
        exact .of_updWhere rfl rfl (fun _ => ⟨rfl, rfl, .inl rfl⟩)
theorem Dev.stepC_stayPut (p : Item → Bool) : d.StayPut (d.stepC c p) := by
  unfold Dev.stepC
  split
  · exact .refl d
  · exact .foldl (fun a _ => a.finishNow_stayPut c ..) _ d
theorem Dev.pumpKeys_stayPut (g : Nat) : d.StayPut (d.pumpKeys c g) :=
  (Dev.StayPut.foldl (fun a (i : Item) => a.runStepB_stayPut c i.slot) _ d).trans (Dev.stepC_stayPut ..)
theorem Dev.tryPreempt_stayPut (g : Nat) : d.StayPut (d.tryPreempt c g) := by
  rcases d.tryPreempt_cases c g with h | ⟨k, h⟩ <;> rw [h]
  · exact .refl d
  · exact (Dev.StayPut.of_dsp (Dev.bump_dsp ..)).trans (.updItem _ _ (fun _ => ⟨rfl, rfl, .inl rfl⟩))

/-! ### Placement (R153) -/

theorem Dev.raiseOp_dsp (g : Nat) : (d.raiseOp g).dsp = d.dsp := by
  unfold Dev.raiseOp
  dsimp only
  split <;> rfl
/-- An item that joins a grove is PLACED there, or finished by step B. -/
theorem Dev.placeOn_spec (g : Nat) (i : Item) : (d.placeOn c g i).dsp.rr = g
    ∧ ∀ j ∈ (d.placeOn c g i).dsp.items, j.slot = i.slot → j.grove = g ∧ (j.ds = .placed ∨ j.ds = .finished) := by
  unfold Dev.placeOn
  dsimp only
  generalize hd : Dev.updItem _ _ _ = d0
  have h : d0.StayPut (((d0.raiseOp g).pumpKeys c g).tryPreempt c g) :=
    ((Dev.StayPut.of_dsp (Dev.raiseOp_dsp ..)).trans (Dev.pumpKeys_stayPut ..)).trans (Dev.tryPreempt_stayPut ..)
  have hput : ∀ x ∈ d0.dsp.items, x.slot = i.slot → x.grove = g ∧ x.ds = .placed := by
    subst hd
    intro x hx hs
    obtain ⟨y, -, rfl⟩ := List.mem_map.mp hx
    by_cases hy : y.slot == i.slot
    · simp only [hy, if_true, and_self]
    · rw [if_neg hy] at hs
      exact absurd (beq_iff_eq.mpr hs) hy
  refine ⟨h.rr.trans (by rw [← hd]; rfl), fun j hj hs => ?_⟩
  obtain ⟨x, hx, hslot, hgrove, hds⟩ := h.items j hj
  obtain ⟨hg, hp⟩ := hput x hx (hslot.trans hs)
  rw [← hgrove, ← hp]
  exact ⟨hg, hds⟩
end

theorem itemPlacementOp_places {d : Dev} (c : Ctx) {i : Item} {g : Nat} (hw : d.warning = false) (hl : d.locked = false) (hr : d.roleActs = true)
    (hp : d.past 8 = true) (hh : d.pwr.halted = false)
    (hi : d.firstByKey (d.heads.filter (fun i => (d.chooseGrove i).isSome || (d.spillPeer i).isSome)) = some i) (hs : d.spillPeer i = none)
    (hg : d.chooseGrove i = some g) : itemPlacementOp c d = d.placeOn c g i := by
  unfold itemPlacementOp
  simp [hw, hl, hr, hp, hh, hi, hs, hg]

/-! ### A start on a twin (R157, R195, R98) -/

section
variable {d : Dev} (c : Ctx) {i : Item}

theorem Dev.request_2_item (n len : Nat) (x : Bytes) (k : Nat) : (d.request c n len x).2.item? k = d.item? k := by
  unfold Dev.item?
  rw [Dev.request_2_dsp]
theorem Dev.drawFor_lan_jnl : (d.drawFor c i).lan = d.lan ∧ (d.drawFor c i).jnl = d.jnl := by
  unfold Dev.drawFor
  split
  · exact ⟨Dev.request_2_lan .., Dev.request_2_jnl ..⟩
  · exact ⟨rfl, rfl⟩
/-- Step C changes nothing of an item but its randomness. -/
theorem Dev.drawFor_item (hi : d.item? i.slot = some i) : ∃ x, (d.drawFor c i).item? i.slot = some { i with rnd := x } := by
  unfold Dev.drawFor
  split
  · refine ⟨some (d.request c i.grove (Desc.drawLen i.desc) (if Desc.op i.desc = 0x0A01 then verbData i.desc i.input else [])).1, ?_⟩
    exact Dev.item_updItem _ _ ((Dev.request_2_item ..).trans hi) (fun _ h => by exact h)
  · exact ⟨i.rnd, hi⟩
theorem Dev.countStart_eq : ∃ l, d.countStart c i = { d with dsp := { d.dsp with counts := l } } := by
  unfold Dev.countStart
  split
  · exact ⟨d.dsp.counts, rfl⟩
  · exact ⟨_, rfl⟩
/-- A start draws what the item needs and counts it; the twins, the records and the item stand until the twin takes it. -/
theorem Dev.drawFor_countStart (hi : d.item? i.slot = some i) : ((d.drawFor c i).countStart c i).lan = d.lan ∧ ((d.drawFor c i).countStart c i).jnl = d.jnl
    ∧ ∃ x, ((d.drawFor c i).countStart c i).item? i.slot = some { i with rnd := x } := by
  obtain ⟨l, hl⟩ := Dev.countStart_eq (d := d.drawFor c i) c (i := i)
  rw [hl]
  obtain ⟨hlan, hjnl⟩ := Dev.drawFor_lan_jnl (d := d) c (i := i)
  exact ⟨hlan, hjnl, Dev.drawFor_item c hi⟩

/-- What a start comes to: the twin runs the item, from this moment, and its record is IN_SERVICE. -/
structure Dev.Started (t : Nat) (i : Item) (r : Rec) (e : Dev) : Prop where
  twin : (e.twin t).running = some i.slot
  item : ∃ j, e.item? i.slot = some j ∧ j.ds = .running ∧ j.twin = some t ∧ j.runSt = c.now ∧ j.started = true ∧ j.desc = i.desc
  record : r.st = .accepted → e.rec? i.slot = some { r with st := .inService }

theorem Dev.Started.tryPreempt {t : Nat} {r : Rec} (h : Dev.Started c t i r d) (g : Nat) : Dev.Started c t i r (d.tryPreempt c g) := by
  obtain ⟨j, hj, hrest⟩ := h.item
  obtain ⟨p, hp⟩ := Dev.tryPreempt_item c g hj
  refine ⟨?_, ⟨_, hp, hrest⟩, ?_⟩
  · unfold Dev.twin
    rw [Dev.tryPreempt_lan]
    exact h.twin
  · unfold Dev.rec?
    rw [Dev.tryPreempt_jnl]
    exact h.record

theorem Dev.recStart_lan_dsp (k : Nat) : (d.recStart k).lan = d.lan ∧ (d.recStart k).dsp = d.dsp := ⟨Dev.mirrorRec_lan .., Dev.mirrorRec_dsp ..⟩
theorem Dev.recStart_rec {r : Rec} {k : Nat} (hr : d.rec? k = some r) (hst : r.st = .accepted) :
    (d.recStart k).rec? k = some { r with st := .inService } := by
  have h := Dev.rec_updRec d (fun r => if r.st == .accepted then { r with st := .inService } else r) hr (fun x hx => by split <;> exact hx)
  rw [if_pos (by rw [hst]; rfl)] at h
  rw [← h]
  unfold Dev.recStart Dev.rec?
  rw [Dev.mirrorRec_jnl]

section
variable {t : Nat} {tw : Twin} (ht : d.lan.twins.find? (fun x => x.num == t) = some tw) (hi : d.item? i.slot = some i)
include ht hi

theorem Dev.startOn_started {r : Rec} (hr : d.rec? i.slot = some r) (hpke : i.pke = .none) : Dev.Started c t i r (d.startOn c t i) := by
  obtain ⟨hlan, hjnl, x, hx⟩ := Dev.drawFor_countStart c hi
  unfold Dev.startOn
  simp only [hpke, show (PkePhase.none == PkePhase.between) = false from rfl, Bool.false_eq_true, if_false]
  generalize (d.drawFor c i).countStart c i = d1 at hlan hjnl hx
  rw [← hlan] at ht
  refine ⟨?_, ?_, fun hst => Dev.recStart_rec ?_ hst⟩
  · unfold Dev.twin
    rw [(Dev.recStart_lan_dsp _).1]
    exact congrArg Twin.running (Dev.twin_updTwin (d1.updGrove i.grove _) _ ht (fun _ h => by exact h))
  · unfold Dev.item?
    rw [(Dev.recStart_lan_dsp _).2]
    exact ⟨_, Dev.item_updItem _ _ hx (fun _ h => by exact h), rfl, rfl, rfl, rfl, rfl⟩
  · unfold Dev.rec? at hr ⊢
    rw [← hjnl] at hr
    exact hr

/-- A twin that resumes its SUSPENDED item (R162). -/
theorem Dev.resumeOn_spec : ((d.resumeOn c t i).twin t).running = some i.slot
    ∧ (d.resumeOn c t i).item? i.slot = some { i with ds := .running, ctxSlot := none, runSt := c.now } :=
  ⟨congrArg Twin.running (Dev.twin_updTwin (d.updGrove i.grove (Grove.takeReserve 8)) _ ht (fun _ h => by exact h)),
    Dev.item_updItem _ _ hi (fun _ h => by exact h)⟩

/-- The save of a preempted item (R161, R259). -/
theorem contextSaveOp_spec {k : Nat} (hrun : tw.running = some i.slot) (hp : i.preempt = true) (hw : d.warning = false)
    (hk : (List.range 8).find? (fun k => !(d.ctxOn t).contains k) = some k) : ((contextSaveOp t c d).twin t).running = none
    ∧ (contextSaveOp t c d).item? i.slot = some { i with ds := .suspended, ctxSlot := some k, preempt := false, doneNs := i.doneNs + (c.now - i.runSt) }
    ∧ (contextSaveOp t c d).jnl = d.jnl := by
  have hb : (d.twin t).running.bind d.item? = some i := by simp [Dev.twin, ht, hrun, hi]
  unfold contextSaveOp
  simp only [hb, hk]
  rw [if_pos (by simp [hp, hw])]
  exact ⟨congrArg Twin.running (Dev.twin_updTwin (d.addBusy t (c.now - i.runSt)) _ ht (fun _ h => by exact h)),
    Dev.item_updItem _ _ hi (fun _ h => by exact h), rfl⟩
end

/-! ### The dispatch of a twin (R157, R170, R557, R565) -/

theorem Dev.readInput_stageDenied (m : Nat) (go : Dev → Dev) (h : d.stageDenied c m i = none) : d.readInput c m i go = go d := by
  unfold Dev.readInput
  rw [h]
/-- Where the rules deny the read of the input, the item finishes ACCESS_DENIED (R557). -/
theorem Dev.readInput_ended (m : Nat) (go : Dev → Dev) (h : (d.stageDenied c m i).isSome = true) (hi : d.item? i.slot = some i) {r : Rec}
    (hr : d.rec? i.slot = some r) (hf : i.ds ≠ .finished) (hs : i.spillFrom = none) (hh : d.flowHeld i = false) :
    (d.readInput c m i go).Ended i.slot 0x30 0x21 := by
  obtain ⟨a, ha⟩ := Option.isSome_iff_exists.mp h
  have hdsp : (d.readDenied c m a).dsp = d.dsp := Dev.violation_dsp ..
  have hjnl : (d.readDenied c m a).jnl = d.jnl := Dev.violation_jnl ..
  have hi' : (d.readDenied c m a).item? i.slot = some i := by rw [← hi, Dev.item?, hdsp]; rfl
  have hr' : (d.readDenied c m a).rec? i.slot = some r := by rw [← hr, Dev.rec?, hjnl]; rfl
  unfold Dev.readInput
  rw [ha]
  refine Dev.finishNow_ended hi' hf ?_ (Dev.owns_of_item hi' hr' hs) c 0x30 0x21
  rw [← hh, Dev.flowHeld, hdsp]
  rfl

section
variable {t : Nat} (bad : List Nat) (hlt : t < 96) (hfree : (d.twin t).free = true) (hon : d.dispatchOn = true) (hrel : d.waitingRelease t = none)
  (hnext : d.nextFor t = some i)
include hlt hfree hon hrel hnext

theorem twinDispatchOp_resumes (hds : i.ds = .suspended) : twinDispatchOp t bad c d = (d.resumeOn c t i).tryPreempt c (t / 8) := by
  unfold twinDispatchOp
  simp [hlt, hfree, hon, hrel, hnext, hds]
theorem twinDispatchOp_starts (hds : i.ds = .placed) (hdue : i.started = true ∨ d.expires i = false ∨ c.now ≤ i.deadline)
    (hbad : ∀ k ∈ bad, i.keys.length ≤ k) : twinDispatchOp t bad c d = d.readInput c Mst.lane i (fun e => (e.startOn c t i).tryPreempt c (t / 8)) := by
  have hexp : (!i.started && d.expires i && decide (i.deadline < c.now)) = false := by
    rcases hdue with h | h | h
    · simp [h]
    · simp [h]
    · simp [Nat.not_lt.mpr h]
  have hkeys : bad.any (fun k => decide (k < i.keys.length)) = false := by simpa using hbad
  unfold twinDispatchOp
  simp [hlt, hfree, hon, hrel, hnext, hds, hexp, hkeys]
end
end

/-! ### The commands -/

section
variable (s : State)

theorem exec_itemPlacement : exec .itemPlacement s = .next { s with dev := itemPlacementOp s.ctx s.dev } := rfl
theorem exec_twinDispatch (t : Nat) (bad : List Nat) : exec (.twinDispatch t bad) s = .next { s with dev := twinDispatchOp t bad s.ctx s.dev } := rfl
theorem exec_contextSaveDone (t : Nat) : exec (.contextSaveDone t) s = .next { s with dev := contextSaveOp t s.ctx s.dev } := rfl
end

theorem Dev.twin_free {d : Dev} {t : Nat} {tw : Twin} (ht : d.lan.twins.find? (fun x => x.num == t) = some tw) (hst : tw.state = .inService)
    (hrun : tw.running = none) (hlev : tw.main.level = tw.check.level) : (d.twin t).free = true := by
  simp [Dev.twin, ht, Twin.free, hst, hrun, hlev]

/-- Settles O22, by the placement, the dispatch of a free twin (a start, a denied read or a resumption) and the save. -/
theorem itemStarts : Obligations.ItemStarts := by
  unfold Obligations.ItemStarts
  intro s
  refine ⟨fun i g hw hl hr hp hh hi hs hg => ?_, fun t bad tw i r hlt ht hst hrun hlev _ hon hrel hnext hi hr => ?_,
    fun t tw i k ht hrun hi hp hw hk => ⟨_, exec_contextSaveDone s t, .of_dev .., contextSaveOp_spec s.ctx ht hi hrun hp hw hk⟩⟩
  · have hop := itemPlacementOp_places s.ctx hw hl hr hp hh hi hs hg
    obtain ⟨hrr, hput⟩ := Dev.placeOn_spec s.dev s.ctx g i
    rw [← hop] at hrr hput
    exact ⟨_, exec_itemPlacement s, .of_dev .., hrr, hput, hop⟩
  · have hfree := Dev.twin_free ht hst hrun hlev
    refine ⟨fun hds hdue hpke hbad => ?_, fun hds => ?_⟩
    · have hop := twinDispatchOp_starts s.ctx bad hlt hfree hon hrel hnext hds hdue hbad
      refine ⟨fun hread => ?_, fun hdeny hs hh => ⟨_, exec_twinDispatch s t bad, .of_dev .., ?_⟩⟩
      · have h := (Dev.startOn_started s.ctx ht hi hr hpke).tryPreempt s.ctx (t / 8)
        rw [Dev.readInput_stageDenied s.ctx _ _ hread] at hop
        rw [← hop] at h
        obtain ⟨j, hj, hjds, hjtwin, hjst, hjstarted, hjdesc⟩ := h.item
        exact ⟨_, j, exec_twinDispatch s t bad, .of_dev .., h.twin, hj, hjds, hjtwin, hjst, hjstarted, hjdesc, h.record⟩
      · dsimp only
        rw [hop]
        exact Dev.readInput_ended s.ctx _ _ hdeny hi hr (by rw [hds]; decide) hs hh
    · have hop := twinDispatchOp_resumes s.ctx bad hlt hfree hon hrel hnext hds
      obtain ⟨htwin, hitem⟩ := Dev.resumeOn_spec s.ctx ht hi
      obtain ⟨p, hp⟩ := Dev.tryPreempt_item s.ctx (t / 8) hitem
      rw [← hop] at hp
      refine ⟨_, _, exec_twinDispatch s t bad, .of_dev .., ?_, hp, rfl, rfl, rfl, rfl⟩
      unfold Dev.twin
      rw [hop, Dev.tryPreempt_lan]
      exact htwin

end Sys2Proof.Machine

/-! A lane's check that fails on the result of an engine (R246, R253, R310, R312). -/

namespace Sys2Proof.Machine

/-- PK_PUBLIC_KEY of an X25519 key in its release phase on twin 0, with what engine 0 handed over, the last bit inverted. -/
def wrongPubItem : Item :=
  { slot := 1, seq := 1, slice := 7, ring := 3, desc := [0x21, 8] ++ zeros 74 ++ [0x11] ++ zeros 51, input := [], acceptSt := 0, deadline := 9000, key := 9000
    keys := [{ dom := 0, slot := 1, gen := 1, attr := { alg := 0x91, part := 2 }, mat := asymMat 0x11 2 256 [] [] (zeros 32) }], keysOk := true
    ds := .running, started := true, twin := some 0, pke := .release, engPub := zeros 31 ++ [1] }
/-- Twin 0, which runs it. -/
def releasingTwin : Twin := { num := 0, state := .inService, running := some 1 }
/-- Grove 0 with this twin and with its engine, both in service; nothing has been found to mismatch before. -/
def wrongPub : State := { State.reset with st := 2000, dev := {
  lan := { groves := [{ num := 0, state := .inService }], twins := [releasingTwin] }
  pke := { engines := [{ num := 0, state := .inService }] }
  dsp := { items := [wrongPubItem] }
  jnl := { recs := [{ slot := 1, seq := 1, reqId := 6, slice := 7, ring := 3, st := .inService }] } } }

/-- Step F1 finds the wrong bit in the principal lane. -/
theorem wrongPub_f1Fails : f1Fails wrongPubItem false releasingTwin.main = true := by decide

/-- The mismatch takes the item back to PLACED in grove 0, and the engine's entering the clearing takes the PLACED public-key items
of the grove on to the device pending list (R312), this one with them. -/
theorem wrongPub_pending : ∃ u, exec (.releaseCompare 0 {} {} false) wrongPub = .next u ∧ (u.dev.item? 1).map Item.ds = some .pending :=
  ⟨_, rfl, by decide⟩

/-- Refutes O24: an item whose engine result a lane's check rejects does not stay PLACED where the engine is of its own grove: as the
engine leaves service, the item goes on to the device pending list. -/
theorem not_releaseCompare : ¬ Obligations.ReleaseCompare := by
  unfold Obligations.ReleaseCompare
  intro h
  obtain ⟨-, hcompare, -⟩ := h wrongPub 0 releasingTwin wrongPubItem rfl rfl rfl rfl
  obtain ⟨-, -, -, hf1⟩ := hcompare {} {} rfl
  have hunsound : ¬(f1Fails wrongPubItem false releasingTwin.main = false ∧ f1Fails wrongPubItem true releasingTwin.check = false) :=
    fun hsound => by simp [wrongPub_f1Fails] at hsound
  obtain ⟨⟨u, j, hu, -, -, -, -, -, -, hj, hplaced, -⟩, -⟩ := hf1 { num := 0, state := .inService } false hunsound (by decide) rfl
  obtain ⟨u', hu', hpending⟩ := wrongPub_pending
  rw [hu] at hu'
  cases hu'
  simp [show u.dev.item? 1 = some j from hj, hplaced] at hpending

end Sys2Proof.Machine

/-! The clearing of twins, groves and engines: what its tests, its commands and an abort leave behind (R253 to R258, R283, R311, R313 to R315, R318). -/

namespace Sys2Proof.Machine

/-! ### Units by their numbers -/

section
variable {d e : Dev}

theorem Dev.twin_of_find {t : Nat} {x : Twin} (h : d.lan.twins.find? (fun y => y.num == t) = some x) : d.twin t = x := by
  rw [Dev.twin, h]
  rfl
theorem Dev.engine_of_find {g : Nat} {x : Engine} (h : d.pke.engines.find? (fun y => y.num == g) = some x) : d.engine g = x := by
  rw [Dev.engine, h]
  rfl
theorem Dev.twin_congr (h : e.lan.twins = d.lan.twins) (t : Nat) : e.twin t = d.twin t := by
  rw [Dev.twin, h]
  rfl
theorem Dev.engine_congr (h : e.pke.engines = d.pke.engines) (g : Nat) : e.engine g = d.engine g := by
  rw [Dev.engine, h]
  rfl
/-- A number that no unit is listed under reads as a GATED unit, so a unit in any other state is listed. -/
theorem Dev.find_grove {g : Nat} (h : (d.grove g).state ≠ .gated) : d.lan.groves.find? (fun y => y.num == g) = some (d.grove g) := by
  unfold Dev.grove at h ⊢
  cases hf : d.lan.groves.find? (fun y => y.num == g) with
  | none => exact absurd (by rw [hf]; rfl) h
  | some x => rfl
theorem Dev.find_engine {g : Nat} (h : (d.engine g).state ≠ .gated) : d.pke.engines.find? (fun y => y.num == g) = some (d.engine g) := by
  unfold Dev.engine at h ⊢
  cases hf : d.pke.engines.find? (fun y => y.num == g) with
  | none => exact absurd (by rw [hf]; rfl) h
  | some x => rfl
theorem Dev.find_updTwin (t k : Nat) (f : Twin → Twin) (hf : ∀ x : Twin, (f x).num = x.num) : (d.updTwin k f).lan.twins.find? (fun y => y.num == t)
    = if t = k then (d.lan.twins.find? (fun y => y.num == t)).map f else d.lan.twins.find? (fun y => y.num == t) := by
  split
  · next h =>
    subst h
    exact find_updWhere _ f (fun x hx => by rwa [hf x]) _
  · next h =>
    refine find_updWhere_other _ _ f (fun x hx => ?_) (fun x hx => ?_) _
    · rw [beq_iff_eq.mp hx]
      exact beq_false_of_ne h
    · rw [hf x, beq_iff_eq.mp hx]
      exact beq_false_of_ne (Ne.symm h)
/-- Whether a twin is listed is a matter of the twins' numbers. -/
theorem Dev.find_twin_of_nums {t : Nat} {x : Twin} (h : e.lan.twins.map Twin.num = d.lan.twins.map Twin.num)
    (hx : d.lan.twins.find? (fun y => y.num == t) = some x) : ∃ y, e.lan.twins.find? (fun y => y.num == t) = some y := by
  have hmem : t ∈ e.lan.twins.map Twin.num := by
    have hxt := List.find?_some hx
    rw [h, ← beq_iff_eq.mp hxt]
    exact List.mem_map_of_mem (List.mem_of_find?_eq_some hx)
  obtain ⟨y, hy, hyt⟩ := List.mem_map.mp hmem
  exact Option.isSome_iff_exists.mp (List.find?_isSome.mpr ⟨y, hy, beq_iff_eq.mpr hyt⟩)
end

/-! ### A unit's record, and the items of a twin that leaves service, leave the list of twins -/

section
variable (d : Dev) (c : Ctx)

@[simp] theorem Dev.startFlush_lan : d.startFlush.lan = d.lan := by unfold Dev.startFlush; split <;> rfl
@[simp] theorem Dev.startFlush_pke : d.startFlush.pke = d.pke := by unfold Dev.startFlush; split <;> rfl
@[simp] theorem Dev.startFlush_reg (a : Nat) : d.startFlush.reg a = d.reg a := by unfold Dev.startFlush; split <;> rfl
@[simp] theorem Dev.recordUnit_lan (kind n : Nat) (old new : UnitState) : (d.recordUnit c kind n old new).lan = d.lan := by
  unfold Dev.recordUnit
  split <;> simp
@[simp] theorem Dev.recordUnit_pke (kind n : Nat) (old new : UnitState) : (d.recordUnit c kind n old new).pke = d.pke := by
  unfold Dev.recordUnit
  split <;> simp
theorem Dev.recordUnit_reg_ne {a : Nat} (kind n : Nat) (old new : UnitState) (h1 : a ≠ Off.ercLost) (h2 : a ≠ Off.ercEvt) :
    (d.recordUnit c kind n old new).reg a = d.reg a := by
  unfold Dev.recordUnit
  split <;> simp [Dev.record_reg_ne _ _ _ _ h1 h2]

/-- The numbers of the twins, in the order of their list. -/
def Dev.twinNums (d : Dev) : List Nat := d.lan.twins.map Twin.num

theorem Twin.letGo_num (slot : Nat) (masks : List MaskRun) (t : Twin) : (t.letGo slot masks).num = t.num := by
  unfold Twin.letGo
  dsimp only
  split <;> rfl
@[simp] theorem Dev.unbind_twinNums (k : Nat) : (d.unbind c k).twinNums = d.twinNums := by
  have hmap : ∀ m, (d.lan.twins.map (Twin.letGo k m)).map Twin.num = d.twinNums := fun m => by
    rw [List.map_map]
    exact List.map_congr_left (fun t _ => Twin.letGo_num k m t)
  unfold Dev.unbind
  dsimp only
  split <;> exact hmap _
theorem Dev.twinNums_congr {d e : Dev} (h : e.lan = d.lan) : e.twinNums = d.twinNums := by rw [Dev.twinNums, h]; rfl
theorem Dev.retire_lan (k : Nat) : (d.retire k).lan = d.lan := by unfold Dev.retire; split <;> rfl
theorem Dev.discardEntry_lan (k : Nat) : (d.discardEntry k).lan = d.lan := by
  unfold Dev.discardEntry
  rw [Dev.mirrorRec_lan]
  exact Dev.retire_lan (d.updRec k _) k
theorem Dev.spillAnswer_lan (i : Item) (peer o st sub n : Nat) (out : Bytes) : (d.spillAnswer i peer o st sub n out).lan = d.lan :=
  Dev.sendPeer_lan d peer 4 2 _
@[simp] theorem Dev.owe_twinNums (k : Nat) (r : Rec) (st sub n : Nat) : (d.owe c k r st sub n).twinNums = d.twinNums :=
  (Dev.twinNums_congr (Dev.owe_lan c st sub n r d)).trans (Dev.unbind_twinNums ..)
@[simp] theorem Dev.oweOne_twinNums (k st sub n : Nat) : (d.oweOne c k st sub n).twinNums = d.twinNums := by
  unfold Dev.oweOne
  dsimp only
  split
  · exact (Dev.twinNums_congr (Dev.spillAnswer_lan ..)).trans (Dev.unbind_twinNums ..)
  · split
    · rfl
    · split
      · exact (Dev.twinNums_congr (Dev.discardEntry_lan ..)).trans (Dev.owe_twinNums ..)
      · exact Dev.owe_twinNums ..
@[simp] theorem Dev.cascade_twinNums : ∀ (n : Nat) (d : Dev), (d.cascade c n).twinNums = d.twinNums
  | 0, _ => rfl
  | n + 1, d => by
    unfold Dev.cascade
    split
    · rfl
    · split
      · rfl
      · rw [Dev.cascade_twinNums n, Dev.oweOne_twinNums]
@[simp] theorem Dev.toOwed_twinNums (k st sub n : Nat) : (d.toOwed c k st sub n).twinNums = d.twinNums := by
  unfold Dev.toOwed
  rw [Dev.cascade_twinNums, Dev.oweOne_twinNums]
@[simp] theorem Dev.finishNow_twinNums (k st sub : Nat) : (d.finishNow c k st sub).twinNums = d.twinNums := by
  unfold Dev.finishNow
  split
  · exact Dev.toOwed_twinNums ..
  · split
    · rfl
    · split
      · rfl
      · exact Dev.toOwed_twinNums ..
@[simp] theorem Dev.goBack_twinNums (k : Nat) (p : Bool) : (d.goBack c k p).twinNums = d.twinNums := by
  unfold Dev.goBack
  dsimp only
  rw [Dev.twinNums_congr (Dev.mirrorRec_lan ..)]
  split <;> exact Dev.unbind_twinNums d c k
@[simp] theorem Dev.restart_twinNums (k : Nat) (p : Bool) (t : Option Nat) : (d.restart c k p t).twinNums = d.twinNums := by
  unfold Dev.restart
  split
  · rfl
  · split
    · exact Dev.finishNow_twinNums ..
    · exact Dev.goBack_twinNums (d.bump Off.lanRestarts) c k p

/-- A twin that goes to the clearing is there, and its tests are to come, whatever became of its items. -/
theorem Dev.twinLeaves_clearing {t : Nat} {x : Twin} (p : Bool) (hx : d.lan.twins.find? (fun y => y.num == t) = some x) :
    ((d.twinLeaves c t .clearing p).twin t).state = .clearing ∧ ((d.twinLeaves c t .clearing p).twin t).passed = false := by
  unfold Dev.twinLeaves
  extract_lets old d1 d2 d3
  have hnums : d1.twinNums = d.twinNums := foldl_keep Dev.twinNums _ (fun a k => Dev.restart_twinNums a c k p (some t)) _ d
  obtain ⟨y, hy⟩ := Dev.find_twin_of_nums hnums hx
  have h2 : d2.twin t = { (y.lanes (fun _ l => l.noCtx)) with state := .clearing, passed := false, draining := false, running := none } :=
    Dev.twin_updTwin _ _ hy (fun _ h => h)
  have h3 : d3.lan = d2.lan := by
    unfold d3
    split
    · rfl
    · exact Dev.recordUnit_lan ..
  have hend : (if UnitState.clearing = .clearing ∧ old ≠ .clearing then d3.evtBit Off.lanEvt 1 else d3).lan = d2.lan := by
    split
    · rw [Dev.evtBit_lan, h3]
    · exact h3
  rw [Dev.twin_congr (congrArg Lan.twins hend), h2]
  exact ⟨rfl, rfl⟩
/-- One that had been in no clearing reports its entry. -/
theorem Dev.twinLeaves_clearing_evt {t : Nat} (p : Bool) (h : (d.twin t).state ≠ .clearing) : bit ((d.twinLeaves c t .clearing p).reg Off.lanEvt) 1 = true := by
  unfold Dev.twinLeaves
  dsimp only
  rw [if_pos ⟨rfl, h⟩]
  exact Dev.evtBit_bit _ _ (by decide)
/-- A twin with no item leaves the engines as they are. -/
theorem Dev.twinLeaves_idle_pke {t : Nat} (new : UnitState) (p : Bool) (h : d.onTwin t = []) : (d.twinLeaves c t new p).pke = d.pke := by
  unfold Dev.twinLeaves
  rw [h]
  dsimp only [List.foldl_nil]
  split <;> split <;> simp
end

/-! ### What the tests of a clearing leave (R253 to R255, R258, R311) -/

/-- The state after the tests: one that passed waits in CLEARING for the next epoch, or is HELD (R253, R258). -/
def UnitState.tested (ok hold : Bool) : UnitState := if ok then (if hold then .held else .clearing) else .failed
def Twin.tested (us : Nat) (ok hold : Bool) (x : Twin) : Twin := { x with state := .tested ok hold, passed := ok && !hold, testUs := us }
def Engine.tested (us : Nat) (ok hold : Bool) (x : Engine) : Engine :=
  { x with state := .tested ok hold, passed := ok && !hold, testUs := us, zeroFail := x.zeroFail && !ok }
def Grove.tested (ok hold : Bool) (x : Grove) : Grove := { x with state := .tested ok hold, passed := ok && !hold }
/-- READMIT_HOLD (R258). -/
def Dev.readmitHold (d : Dev) : Bool := bit (d.reg Off.lanClearCtrl) 0
/-- A unit's result is recorded, and a failure raises its event. -/
def Dev.noteTests (c : Ctx) (kind n evt : Nat) (ok : Bool) (d : Dev) : Dev :=
  let e := if UnitState.tested ok d.readmitHold = .clearing then d else d.recordUnit c kind n .clearing (.tested ok d.readmitHold)
  if ok then e else e.evtBit evt 3

section
variable (d : Dev) (c : Ctx)

theorem Dev.twinTested_eq (t us : Nat) (ok : Bool) :
    d.twinTested c t us ok = (d.updTwin t (Twin.tested us ok d.readmitHold)).noteTests c 0 t Off.lanEvt ok := rfl
theorem Dev.engineTested_eq (g us : Nat) (ok : Bool) :
    d.engineTested c g us ok = (d.updEngine g (Engine.tested us ok d.readmitHold)).noteTests c 2 g Off.pkeEvt ok := rfl
theorem Dev.groveTested_eq (g : Nat) (ok : Bool) : d.groveTested c g ok =
    (d.updGrove g (Grove.tested (ok && !(d.grove g).byThresh) d.readmitHold)).noteTests c 1 g Off.lanEvt (ok && !(d.grove g).byThresh) := rfl

@[simp] theorem Dev.noteTests_lan (kind n evt : Nat) (ok : Bool) : (d.noteTests c kind n evt ok).lan = d.lan := by
  unfold Dev.noteTests
  dsimp only
  split <;> split <;> simp
@[simp] theorem Dev.noteTests_pke (kind n evt : Nat) (ok : Bool) : (d.noteTests c kind n evt ok).pke = d.pke := by
  unfold Dev.noteTests
  dsimp only
  split <;> split <;> simp
theorem Dev.noteTests_hold (kind n : Nat) {evt : Nat} (ok : Bool) (h : Off.lanClearCtrl ≠ evt) : (d.noteTests c kind n evt ok).readmitHold = d.readmitHold := by
  have hrec : (d.recordUnit c kind n .clearing (.tested ok d.readmitHold)).reg Off.lanClearCtrl = d.reg Off.lanClearCtrl :=
    Dev.recordUnit_reg_ne d c kind n _ _ (by decide) (by decide)
  unfold Dev.noteTests Dev.readmitHold at *
  dsimp only
  split <;> split <;> simp [Dev.evtBit_reg_ne _ _ h, hrec]
theorem Dev.noteTests_failed (kind n evt : Nat) : bit ((d.noteTests c kind n evt false).reg evt) 3 = true := Dev.evtBit_bit _ _ (by decide)

theorem Dev.twinTested_hold (t us : Nat) (ok : Bool) : (d.twinTested c t us ok).readmitHold = d.readmitHold := by
  rw [Dev.twinTested_eq, Dev.noteTests_hold _ c 0 t ok (by decide)]
  rfl
theorem Dev.twinTested_groves (t us : Nat) (ok : Bool) : (d.twinTested c t us ok).lan.groves = d.lan.groves := by
  rw [Dev.twinTested_eq, Dev.noteTests_lan]
  rfl
theorem Dev.find_twinTested (t k us : Nat) (ok : Bool) : (d.twinTested c k us ok).lan.twins.find? (fun y => y.num == t)
    = if t = k then (d.lan.twins.find? (fun y => y.num == t)).map (Twin.tested us ok d.readmitHold) else d.lan.twins.find? (fun y => y.num == t) := by
  rw [Dev.twinTested_eq, Dev.noteTests_lan]
  exact Dev.find_updTwin t k _ (fun _ => rfl)
theorem Dev.twin_twinTested {t : Nat} {x : Twin} (us : Nat) (ok : Bool) (hx : d.lan.twins.find? (fun y => y.num == t) = some x) :
    (d.twinTested c t us ok).twin t = x.tested us ok d.readmitHold :=
  Dev.twin_of_find (by rw [Dev.find_twinTested, if_pos rfl, hx]; rfl)
theorem Dev.twinTested_failed (t us : Nat) : bit ((d.twinTested c t us false).reg Off.lanEvt) 3 = true := by
  rw [Dev.twinTested_eq]
  exact Dev.noteTests_failed ..
theorem Dev.engine_engineTested {g : Nat} {x : Engine} (us : Nat) (ok : Bool) (hx : d.pke.engines.find? (fun y => y.num == g) = some x) :
    (d.engineTested c g us ok).engine g = x.tested us ok d.readmitHold := by
  rw [Dev.engineTested_eq, Dev.engine_congr (congrArg Pke.engines (Dev.noteTests_pke ..))]
  exact Dev.engine_updEngine _ _ hx (fun _ h => h)
theorem Dev.engineTested_lan (g us : Nat) (ok : Bool) : (d.engineTested c g us ok).lan = d.lan := by
  rw [Dev.engineTested_eq, Dev.noteTests_lan]
  rfl
theorem Dev.engineTested_hold (g us : Nat) (ok : Bool) : (d.engineTested c g us ok).readmitHold = d.readmitHold := by
  rw [Dev.engineTested_eq, Dev.noteTests_hold _ c 2 g ok (by decide)]
  rfl
theorem Dev.engineTested_failed (g us : Nat) : bit ((d.engineTested c g us false).reg Off.pkeEvt) 3 = true := by
  rw [Dev.engineTested_eq]
  exact Dev.noteTests_failed ..
theorem Dev.grove_groveTested {g : Nat} {x : Grove} (ok : Bool) (hx : d.lan.groves.find? (fun y => y.num == g) = some x) :
    (d.groveTested c g ok).grove g = x.tested (ok && !x.byThresh) d.readmitHold := by
  rw [Dev.groveTested_eq, Dev.grove_congr (congrArg Lan.groves (Dev.noteTests_lan ..)), Dev.grove_of_find hx]
  exact Dev.grove_updGrove _ _ hx (fun _ h => h)
theorem Dev.groveTested_twins (g : Nat) (ok : Bool) : (d.groveTested c g ok).lan.twins = d.lan.twins := by
  rw [Dev.groveTested_eq, Dev.noteTests_lan]
  rfl
theorem Dev.groveTested_failed {g : Nat} {x : Grove} {ok : Bool} (hx : d.lan.groves.find? (fun y => y.num == g) = some x) (h : (ok && !x.byThresh) = false) :
    bit ((d.groveTested c g ok).reg Off.lanEvt) 3 = true := by
  rw [Dev.groveTested_eq, Dev.grove_of_find hx, h]
  exact Dev.noteTests_failed ..

/-! ### A grove's tests cover its twins and its engine (R254, R255) -/

/-- The twins of a list are tested, each by its own bits. -/
def Dev.twinsTested (c : Ctx) (x : ClearTests) (us : Nat) (l : List Nat) (d : Dev) : Dev := l.foldl (fun a t => a.twinTested c t us (testsTwin x t)) d
/-- The twins of a grove, and the engine of one, that its tests cover: those in the clearing that have not passed. -/
def Dev.twinsDue (d : Dev) (g : Nat) : List Nat := (twinsOf g).filter (fun t => (d.twin t).state == .clearing && !(d.twin t).passed)
def Dev.engineDue (d : Dev) (g : Nat) : Bool := (d.engine g).state == .clearing && !(d.engine g).passed
/-- The twins, the engine and the mask generator of a grove are tested. -/
def Dev.groveUnitsTested (c : Ctx) (g : Nat) (x : ClearTests) (us : Nat) (d : Dev) : Dev :=
  let e := d.twinsTested c x us (d.twinsDue g)
  (if d.engineDue g then e.engineTested c g us (testsEngine x) else e).updGrove g (Grove.mgenTested x.mgen)
/-- The tests of a grove that are its own, or are of what it needs one of. -/
def Dev.groveOk (d : Dev) (g : Nat) (x : ClearTests) : Bool :=
  x.mgen && x.cache && x.sram && (twinsOf g).any (fun t => testsTwin x t) && (!d.engineDue g || testsEngine x)

variable (x : ClearTests) (us : Nat)

theorem Dev.twinsTested_hold (l : List Nat) : (d.twinsTested c x us l).readmitHold = d.readmitHold :=
  foldl_keep Dev.readmitHold _ (fun a t => a.twinTested_hold c t us (testsTwin x t)) l d
theorem Dev.twinsTested_groves (l : List Nat) : (d.twinsTested c x us l).lan.groves = d.lan.groves :=
  foldl_keep (fun e : Dev => e.lan.groves) _ (fun a t => a.twinTested_groves c t us (testsTwin x t)) l d
theorem Dev.find_twinsTested (t : Nat) (l : List Nat) : ∀ d : Dev, (d.twinsTested c x us l).lan.twins.find? (fun y => y.num == t)
    = if t ∈ l then (d.lan.twins.find? (fun y => y.num == t)).map (Twin.tested us (testsTwin x t) d.readmitHold) else d.lan.twins.find? (fun y => y.num == t) := by
  induction l with
  | nil => exact fun _ => (if_neg (by simp)).symm
  | cons k l ih =>
    intro d
    have hstep := ih (d.twinTested c k us (testsTwin x k))
    rw [Dev.twinTested_hold, Dev.find_twinTested] at hstep
    refine hstep.trans ?_
    by_cases htk : t = k
    · subst htk
      simp only [if_true, List.mem_cons, true_or, Option.map_map]
      exact ite_self _
    · simp only [htk, if_false, List.mem_cons, false_or]

theorem Grove.mgenTested_keeps (ok : Bool) (y : Grove) : (y.mgenTested ok).num = y.num ∧ (y.mgenTested ok).byThresh = y.byThresh := by
  have hsettle : ∀ z : Grove, z.settle.num = z.num ∧ z.settle.byThresh = z.byThresh := by
    intro z
    unfold Grove.settle
    dsimp only
    split <;> split <;> exact ⟨rfl, rfl⟩
  unfold Grove.mgenTested
  split
  · exact ⟨rfl, rfl⟩
  · split
    · exact hsettle _
    · exact ⟨rfl, rfl⟩

theorem Dev.groveUnitsTested_hold (g : Nat) : (d.groveUnitsTested c g x us).readmitHold = d.readmitHold := by
  have hengine : ∀ e : Dev, (if d.engineDue g then e.engineTested c g us (testsEngine x) else e).readmitHold = e.readmitHold := by
    intro e
    split
    · exact Dev.engineTested_hold ..
    · rfl
  exact (hengine _).trans (Dev.twinsTested_hold ..)
theorem Dev.groveUnitsTested_twins (g : Nat) : (d.groveUnitsTested c g x us).lan.twins = (d.twinsTested c x us (d.twinsDue g)).lan.twins := by
  show (if d.engineDue g then Dev.engineTested c g us (testsEngine x) _ else _).lan.twins = _
  split
  · rw [Dev.engineTested_lan]
  · rfl
theorem Dev.find_groveUnitsTested {g : Nat} {y : Grove} (hy : d.lan.groves.find? (fun z => z.num == g) = some y) :
    (d.groveUnitsTested c g x us).lan.groves.find? (fun z => z.num == g) = some (y.mgenTested x.mgen) := by
  have hgroves : (if d.engineDue g then (d.twinsTested c x us (d.twinsDue g)).engineTested c g us (testsEngine x) else d.twinsTested c x us (d.twinsDue g)).lan.groves
      = d.lan.groves := by
    split
    · rw [Dev.engineTested_lan, Dev.twinsTested_groves]
    · rw [Dev.twinsTested_groves]
  refine (find_updWhere _ (Grove.mgenTested x.mgen) (fun z hz => by rwa [(Grove.mgenTested_keeps _ z).1]) _).trans ?_
  rw [hgroves, hy]
  rfl

end

section
variable {d : Dev} (c : Ctx) (x : ClearTests) (us : Nat)

/-- What a grove in the clearing needs to pass (R249, R254, R255). -/
theorem Dev.groveOk_iff (g : Nat) (byThresh : Bool) : (d.groveOk g x && !byThresh) = true ↔ x.mgen = true ∧ x.cache = true ∧ x.sram = true
    ∧ (∃ t ∈ twinsOf g, testsTwin x t = true) ∧ ((d.engine g).state = .clearing ∧ (d.engine g).passed = false → testsEngine x = true) ∧ byThresh = false := by
  have heng : (!d.engineDue g || testsEngine x) = true ↔ ((d.engine g).state = .clearing ∧ (d.engine g).passed = false → testsEngine x = true) := by
    have hdue : d.engineDue g = true ↔ (d.engine g).state = .clearing ∧ (d.engine g).passed = false := by simp [Dev.engineDue]
    rw [← hdue]
    cases d.engineDue g <;> simp
  simp only [Dev.groveOk, Bool.and_eq_true, List.any_eq_true, heng, Bool.not_eq_true', and_assoc]

section
variable {g : Nat} {y : Grove} (hy : d.lan.groves.find? (fun z => z.num == g) = some y)
include hy

theorem Dev.grove_afterTests : ((d.groveUnitsTested c g x us).groveTested c g (d.groveOk g x)).grove g
    = (y.mgenTested x.mgen).tested (d.groveOk g x && !y.byThresh) d.readmitHold := by
  rw [Dev.grove_groveTested _ c _ (Dev.find_groveUnitsTested d c x us hy), Dev.groveUnitsTested_hold, (Grove.mgenTested_keeps _ y).2]
theorem Dev.grove_afterTests_failed (h : ¬ (d.groveOk g x && !y.byThresh) = true) :
    bit (((d.groveUnitsTested c g x us).groveTested c g (d.groveOk g x)).reg Off.lanEvt) 3 = true := by
  refine Dev.groveTested_failed _ c (Dev.find_groveUnitsTested d c x us hy) ?_
  rw [(Grove.mgenTested_keeps _ y).2]
  exact Bool.eq_false_of_not_eq_true h
end
/-- A twin that its grove's tests cover. -/
theorem Dev.twin_afterTests {g t : Nat} {tw : Twin} (ok : Bool) (ht : t ∈ twinsOf g) (hf : d.lan.twins.find? (fun y => y.num == t) = some tw)
    (hs : tw.state = .clearing) (hp : tw.passed = false) : (((d.groveUnitsTested c g x us).groveTested c g ok).twin t).state = .tested (testsTwin x t) d.readmitHold := by
  have hdue : t ∈ d.twinsDue g := List.mem_filter.mpr ⟨ht, by simp [Dev.twin_of_find hf, hs, hp]⟩
  have hfind := Dev.find_twinsTested c x us t (d.twinsDue g) d
  rw [if_pos hdue, hf] at hfind
  rw [Dev.twin_congr (Dev.groveTested_twins _ c g ok), Dev.twin_congr (Dev.groveUnitsTested_twins d c x us g), Dev.twin_of_find hfind]
  rfl
end

/-! ### CLEARING_TESTS_DONE -/

section
variable (d : Dev) (c : Ctx) (x : ClearTests) (us : Nat)

theorem clearingTestsOp_twin {t : Nat} {tw : Twin} (ht : t < 96) (hf : d.lan.twins.find? (fun x => x.num == t) = some tw) (hs : tw.state = .clearing)
    (hp : tw.passed = false) (hg : (d.grove (t / 8)).state ≠ .clearing) (hon : d.groveOn (t / 8) = true) (h1 : d.domWaking (2 * t) = false)
    (h2 : d.domWaking (2 * t + 1) = false) : clearingTestsOp (.twin t) x us c d = d.twinTested c t us (testsTwin x t) := by
  unfold clearingTestsOp
  dsimp only
  exact if_pos (by simp [Dev.twin_of_find hf, ht, hs, hp, hg, hon, h1, h2])
theorem clearingTestsOp_engine {g : Nat} {e : Engine} (hg : g < 12) (hf : d.pke.engines.find? (fun x => x.num == g) = some e) (hs : e.state = .clearing)
    (hp : e.passed = false) (hgr : (d.grove g).state ≠ .clearing) (hon : d.groveOn g = true) (hw : d.domWaking (192 + g) = false) :
    clearingTestsOp (.engine g) x us c d = d.engineTested c g us (testsEngine x) := by
  unfold clearingTestsOp
  dsimp only
  exact if_pos (by simp [Dev.engine_of_find hf, hg, hs, hp, hgr, hon, hw])
theorem clearingTestsOp_grove {g : Nat} {y : Grove} (hg : g < 12) (hf : d.lan.groves.find? (fun x => x.num == g) = some y) (hs : y.state = .clearing)
    (hp : y.passed = false) (hh : y.testsHeld = false) (hon : d.groveOn g = true) :
    clearingTestsOp (.grove g) x us c d = (d.groveUnitsTested c g x us).groveTested c g (d.groveOk g x) := by
  unfold clearingTestsOp
  dsimp only
  exact if_pos (by simp [Dev.grove_of_find hf, hg, hs, hp, hh, hon])
end

/-! ### LAN_CLEAR_CMD (R256, R257) -/

/-- The word that CLEAR of a twin, and of a grove, writes. -/
def twinClearWord (t : Nat) : Word := packW [(0, t % 128), (12, 1)]
def groveClearWord (g : Nat) : Word := packW [(0, g % 128), (8, 1), (12, 1)]

theorem twinClearWord_fields {t : Nat} (h : t < 128) : fld (twinClearWord t) 6 0 = t ∧ bit (twinClearWord t) 8 = false ∧ fld (twinClearWord t) 13 12 = 1 := by
  revert t
  decide
theorem groveClearWord_fields {g : Nat} (h : g < 12) : fld (groveClearWord g) 6 0 = g ∧ bit (groveClearWord g) 8 = true ∧ fld (groveClearWord g) 13 12 = 1 := by
  revert g
  decide

section
variable {d : Dev} (c : Ctx)

theorem Dev.clearCmdEnd_evt (r : Nat) (d : Dev) : bit ((d.clearCmdEnd r).reg Off.lanEvt) 7 = true := Dev.evtBit_bit _ _ (by decide)
theorem Dev.clearCmdEnd_lan (r : Nat) (d : Dev) : (d.clearCmdEnd r).lan = { d.lan with cmdBusy := none, cmdResult := r } := Dev.evtBit_lan ..
theorem Dev.clearCmdEnd_twins (r : Nat) (d : Dev) : (d.clearCmdEnd r).lan.twins = d.lan.twins := by rw [Dev.clearCmdEnd_lan]
theorem Dev.clearCmdEnd_twin (r t : Nat) (d : Dev) : (d.clearCmdEnd r).twin t = d.twin t := Dev.twin_congr (Dev.clearCmdEnd_twins r d) t
theorem Dev.clearCmdEnd_pke (r : Nat) (d : Dev) : (d.clearCmdEnd r).pke = d.pke := Dev.evtBit_pke ..
theorem Dev.clearCmdEnd_reg_lanEvt (r : Nat) (d : Dev) : (d.clearCmdEnd r).reg Off.lanEvt = d.reg Off.lanEvt ||| (1#32 <<< 7) := Dev.evtBit_reg ..
/-- A command that ends as it is written leaves its result and its event. -/
theorem Dev.clearCmdEnd_idle {d : Dev} (r : Nat) (h : d.lan.cmdBusy = none) :
    (d.clearCmdEnd r).lan = { d.lan with cmdResult := r } ∧ bit ((d.clearCmdEnd r).reg Off.lanEvt) 7 = true :=
  ⟨(Dev.clearCmdEnd_lan r d).trans (by rw [← h]), d.clearCmdEnd_evt r⟩

section
variable (hb : d.lan.cmdBusy = none)
include hb

theorem lanClearCmdW_twin_absent {t : Nat} (h : 96 ≤ t) (ht : t < 128) : lanClearCmdW c (twinClearWord t) d = .took (d.clearCmdEnd 2) := by
  obtain ⟨hn, hbit, hcmd⟩ := twinClearWord_fields ht
  unfold lanClearCmdW
  simp only [hn, hbit, hcmd, hb, Option.isSome_none, Bool.false_eq_true, if_false]
  exact if_pos (.inr (by omega))

/-- CLEAR of a twin, by the state that the twin is in. -/
theorem lanClearCmdW_twin {t : Nat} (ht : t < 96) : lanClearCmdW c (twinClearWord t) d =
    match (d.twin t).state with
    | .clearing | .gated => .took (d.clearCmdEnd 1)
    | .inService => .took { d.updTwin t (fun x => { x with draining := true }) with
        lan := { (d.updTwin t (fun x => { x with draining := true })).lan with cmdBusy := some (.twin t) } }
    | .held => .took (d.clearCmdEnd 0)
    | .failed => .took ((((d.twinLeaves c t .clearing false).clearCmdEnd 0).domWake (2 * t)).domWake (2 * t + 1)) := by
  obtain ⟨hn, hbit, hcmd⟩ := twinClearWord_fields (show t < 128 by omega)
  unfold lanClearCmdW clearRefused
  simp only [hn, hbit, hcmd, hb, Option.isSome_none, Bool.false_eq_true, if_false, ne_eq, not_true_eq_false, false_or, Bool.false_and,
    show ¬ 95 < t by omega]
  cases (d.twin t).state <;> rfl

section
variable {g : Nat} (hg : g < 12) (hs : (d.grove g).state = .inService)
include hg hs

/-- CLEAR of a grove in service: refused for the last one in service, else it drains. -/
theorem lanClearCmdW_grove_last (h : d.lan.groves.any (fun x => x.num != g && x.state == .inService) = false) :
    lanClearCmdW c (groveClearWord g) d = .took (d.clearCmdEnd 3) := by
  obtain ⟨hn, hbit, hcmd⟩ := groveClearWord_fields hg
  unfold lanClearCmdW clearRefused
  simp [hn, hbit, hcmd, hb, hs, h, show ¬ 11 < g by omega]
theorem lanClearCmdW_grove_drains (h : d.lan.groves.any (fun x => x.num != g && x.state == .inService) = true) (hi : d.groveItems g .placed = []) :
    lanClearCmdW c (groveClearWord g) d = .took { d.updGrove g (fun x => { x with draining := true }) with
      lan := { (d.updGrove g (fun x => { x with draining := true })).lan with cmdBusy := some (.grove g) } } := by
  obtain ⟨hn, hbit, hcmd⟩ := groveClearWord_fields hg
  have hun : (d.updGrove g (fun x => { x with draining := true })).unplace c g (fun _ => true) = d.updGrove g (fun x => { x with draining := true }) := by
    have hnone : (d.updGrove g (fun x => { x with draining := true })).groveItems g .placed = [] := hi
    rw [Dev.unplace, hnone]
    rfl
  unfold lanClearCmdW clearRefused
  simp [hn, hbit, hcmd, hb, hs, h, hun, show ¬ 11 < g by omega]
end
end

/-! ### CLEAR_DRAIN_DONE -/

theorem Dev.gateDrained_none (h : d.lan.groves.all (fun g => !g.draining) = true) : d.gateDrained c = d := by
  have hdrain : ∀ g, (d.grove g).draining = false := by
    intro g
    unfold Dev.grove
    cases hf : d.lan.groves.find? (fun y => y.num == g) with
    | none => rfl
    | some x => exact (Bool.not_eq_true' _).mp (List.all_eq_true.mp h x (List.mem_of_find?_eq_some hf))
  exact List.foldl_fixed' (fun g => if_neg (by simp [hdrain g])) _

/-- A twin that has drained enters the clearing, and its command ends. -/
theorem clearDrainOp_twin {t : Nat} {x : Twin} (hb : d.lan.cmdBusy = some (.twin t)) (hx : d.lan.twins.find? (fun y => y.num == t) = some x)
    (hs : x.state = .inService) (hi : d.onTwin t = []) (hg : d.lan.groves.all (fun g => !g.draining) = true) (hp : d.pke.clearBusy = none) :
    clearDrainOp c d = (d.twinLeaves c t .clearing false).clearCmdEnd 0 := by
  have hlan : d.lanDrained c = (d.twinLeaves c t .clearing false).clearCmdEnd 0 := by
    unfold Dev.lanDrained
    simp [hb, Dev.twin_of_find hx, hs, hi]
  have hidle : ((d.twinLeaves c t .clearing false).clearCmdEnd 0).pke.clearBusy = none := by
    rw [Dev.clearCmdEnd_pke, d.twinLeaves_idle_pke c .clearing false hi, hp]
  rw [clearDrainOp, Dev.gateDrained_none c hg, hlan, Dev.pkeDrained, hidle]

/-! ### PKE_CLEAR_CMD and PKE_ABORT_CMD (R311, R313 to R315) -/

theorem pkeClearW_clearing {v : Word} (hb : d.pke.clearBusy = none) (hc : fld v 13 12 = 1) (hg : fld v 3 0 < 12) (hs : (d.engine (fld v 3 0)).state = .clearing) :
    pkeClearW c v d = .took (d.pkeClearEnd 1) := by
  unfold pkeClearW
  simp [hb, hc, hs, show ¬ 11 < fld v 3 0 by omega]
theorem pkeClearW_inService {v : Word} (hb : d.pke.clearBusy = none) (hc : fld v 13 12 = 1) (hg : fld v 3 0 < 12) (hs : (d.engine (fld v 3 0)).state = .inService) :
    pkeClearW c v d = .took { d.updEngine (fld v 3 0) (fun e => { e with draining := true }) with
      pke := { (d.updEngine (fld v 3 0) (fun e => { e with draining := true })).pke with clearBusy := some (fld v 3 0) } } := by
  unfold pkeClearW
  simp [hb, hc, hs, show ¬ 11 < fld v 3 0 by omega]
theorem Dev.pkeClearEnd_idle (r : Nat) (h : d.pke.clearBusy = none) :
    (d.pkeClearEnd r).pke = { d.pke with clearResult := r } ∧ bit ((d.pkeClearEnd r).reg Off.pkeEvt) 6 = true :=
  ⟨(Dev.evtBit_pke ..).trans (by rw [← h]), Dev.evtBit_bit _ _ (by decide)⟩

theorem Dev.abortEnd_idle (r : Nat) (h : d.pke.abort = none) :
    (d.abortEnd r).pke = { d.pke with abortResult := r } ∧ bit ((d.abortEnd r).reg Off.pkeEvt) 4 = true :=
  ⟨(Dev.evtBit_pke ..).trans (by rw [← h]), Dev.evtBit_bit _ _ (by decide)⟩

/-- An engine phase is cut short: the operand RAM is cleared, and the abort waits for the readback (R313, R314). -/
def Dev.abortStarts (c : Ctx) (i : Item) (d : Dev) : Dev :=
  let e := (d.updItem i.slot (fun x => { x with readback := true })).updEngine i.grove (fun e => { e with ram := [], readback := true, after := e.item })
  { e with pke := { e.pke with abort := some (i.slot, i.grove), abortSt := c.now } }

section
variable {v : Word} (hv : bit v 0 = true) (ha : d.pke.abort = none)
include hv ha

theorem pkeAbortW_unknown (h : d.abortItem = none) : pkeAbortW c v d = .took (d.abortEnd 1) := by
  unfold pkeAbortW
  simp [hv, ha, h]

section
variable {i : Item} (hi : d.abortItem = some i)
include hi

theorem pkeAbortW_refused (hw : d.warning = true ∨ d.locked = true) (hu : Desc.usesEngine i.desc = true) : pkeAbortW c v d = .took (d.abortEnd 4) := by
  have hcond : ((d.warning || d.locked) && Desc.usesEngine i.desc) = true := by
    rcases hw with hw | hw <;> simp [hw, hu]
  unfold pkeAbortW
  simp [hv, ha, hi, hcond]

section
variable (hw : d.warning = false) (hl : d.locked = false)
include hw hl

theorem pkeAbortW_finished (hds : i.ds = .finished) : pkeAbortW c v d = .took (d.abortEnd 1) := by
  unfold pkeAbortW
  simp [hv, ha, hi, hw, hl, hds]
/-- Of an item that has not finished, the phase decides. -/
theorem pkeAbortW_phase (hds : i.ds ≠ .finished) : pkeAbortW c v d =
    match i.pke with
    | .none => .took (d.abortEnd 2)
    | .between | .release => .took (d.abortEnd 3)
    | .engine => .took (d.abortStarts c i) := by
  unfold pkeAbortW
  simp only [hv, ha, hi, hw, hl, hds, Bool.not_true, Bool.false_eq_true, if_false, Option.isSome_none, Bool.or_false, Bool.false_and]
  cases i.pke <;> rfl
end
end
end

theorem Dev.abortStarts_engine {i : Item} {e : Engine} (he : d.pke.engines.find? (fun x => x.num == i.grove) = some e) :
    (d.abortStarts c i).engine i.grove = { e with ram := [], readback := true, after := e.item } :=
  Dev.engine_updEngine (d.updItem i.slot (fun x => { x with readback := true })) (fun e => { e with ram := [], readback := true, after := e.item }) he (fun _ h => h)
end

/-! ### The commands -/

section
variable (s : State)

theorem exec_clearingTestsDone (unit : ClrUnit) (x : ClearTests) (us : Nat) : exec (.clearingTestsDone unit x.toTwinTests x.toGroveTests x.toEngineTests us) s
    = .next { s with dev := clearingTestsOp unit x us s.ctx s.dev } := rfl
theorem exec_clearDrainDone : exec .clearDrainDone s = .next { s with dev := clearDrainOp s.ctx s.dev } := rfl

variable {s} {e : Dev}

/-- A command that writes a register by the register's own rule, which takes the write. -/
theorem next_hostWrite {off : Nat} {f : Dev → WOut} (hm : HostMay s true off) (hs : fwServed off = false) (hf : f s.dev = .took e) :
    (.next { s with dev := s.dev.hostWrite s.ctx off f } : Host.Outcome State Fault Refusal) = .next { s with dev := e } := by
  rw [hostWrite_own hm hs hf]
theorem exec_twinClear {t : Nat} (hm : HostMay s true Off.lanClearCmd) (h : lanClearCmdW s.ctx (twinClearWord t) s.dev = .took e) :
    exec (.twinClear t) s = .next { s with dev := e } :=
  next_hostWrite hm (by decide) h
theorem exec_groveClear {g : Nat} (hm : HostMay s true Off.lanClearCmd) (h : lanClearCmdW s.ctx (groveClearWord g) s.dev = .took e) :
    exec (.groveClear g) s = .next { s with dev := e } :=
  next_hostWrite hm (by decide) h
theorem exec_readmitHoldWrite (v : Word) (hm : HostMay s true Off.lanClearCtrl) :
    exec (.readmitHoldWrite v) s = .next { s with dev := s.dev.setReg Off.lanClearCtrl (v &&& 1#32) } :=
  next_hostWrite (f := readmitHoldW v) hm (by decide) rfl
theorem exec_pkeClear {v : Word} (hm : HostMay s true Off.pkeClearCmd) (h : pkeClearW s.ctx v s.dev = .took e) :
    exec (.pkeClear v) s = .next { s with dev := e } :=
  next_hostWrite hm (by decide) h
theorem exec_pkeAbort {v : Word} (hm : HostMay s true Off.pkeAbortCmd) (h : pkeAbortW s.ctx v s.dev = .took e) :
    exec (.pkeAbort v) s = .next { s with dev := e } :=
  next_hostWrite hm (by decide) h
end

/-! ### The clauses of O26 -/

section
variable {s : State}

/-- A CLEAR that ends as it is written. -/
theorem twinClear_ends {t r : Nat} (hm : HostMay s true Off.lanClearCmd) (hb : s.dev.lan.cmdBusy = none)
    (h : lanClearCmdW s.ctx (twinClearWord t) s.dev = .took (s.dev.clearCmdEnd r)) :
    ∃ u, exec (.twinClear t) s = .next u ∧ DevOnly s u ∧ u.dev.lan = { s.dev.lan with cmdResult := r } ∧ bit (u.dev.reg Off.lanEvt) 7 = true :=
  ⟨_, exec_twinClear hm h, .of_dev .., Dev.clearCmdEnd_idle r hb⟩

theorem twinClear_inService {t : Nat} {tw : Twin} (hm : HostMay s true Off.lanClearCmd) (hb : s.dev.lan.cmdBusy = none) (ht : t < 96)
    (hf : s.dev.lan.twins.find? (fun x => x.num == t) = some tw) (hs : tw.state = .inService) :
    ∃ u, exec (.twinClear t) s = .next u ∧ DevOnly s u ∧ u.dev.twin t = { tw with draining := true } ∧ u.dev.lan.cmdBusy = some (.twin t)
      ∧ u.dev.regs = s.dev.regs := by
  have hw := lanClearCmdW_twin s.ctx hb ht
  rw [Dev.twin_of_find hf, hs] at hw
  exact ⟨_, exec_twinClear hm hw, .of_dev .., Dev.twin_updTwin s.dev (fun x => { x with draining := true }) hf (fun _ h => h), rfl, rfl⟩

theorem twinClear_failed {t : Nat} {tw : Twin} (hm : HostMay s true Off.lanClearCmd) (hb : s.dev.lan.cmdBusy = none) (ht : t < 96)
    (hf : s.dev.lan.twins.find? (fun x => x.num == t) = some tw) (hs : tw.state = .failed) :
    ∃ u, exec (.twinClear t) s = .next u ∧ DevOnly s u ∧ (u.dev.twin t).state = .clearing ∧ (u.dev.twin t).passed = false ∧ u.dev.lan.cmdResult = 0
      ∧ u.dev.lan.cmdBusy = none ∧ bit (u.dev.reg Off.lanEvt) 7 = true := by
  have hw := lanClearCmdW_twin s.ctx hb ht
  rw [Dev.twin_of_find hf, hs] at hw
  obtain ⟨hst, hpassed⟩ := s.dev.twinLeaves_clearing s.ctx false hf
  have hlan := (s.dev.twinLeaves s.ctx t .clearing false).clearCmdEnd_lan 0
  have hevt := (s.dev.twinLeaves s.ctx t .clearing false).clearCmdEnd_evt 0
  rw [← Dev.clearCmdEnd_twin 0] at hst hpassed
  refine ⟨_, exec_twinClear hm hw, .of_dev .., ?_⟩
  generalize (s.dev.twinLeaves s.ctx t .clearing false).clearCmdEnd 0 = e at *
  exact ⟨hst, hpassed, congrArg Lan.cmdResult hlan, congrArg Lan.cmdBusy hlan, hevt⟩

theorem groveClear_drains {g : Nat} (hm : HostMay s true Off.lanClearCmd) (hb : s.dev.lan.cmdBusy = none) (hg : g < 12) (hs : (s.dev.grove g).state = .inService)
    (h : s.dev.lan.groves.any (fun x => x.num != g && x.state == .inService) = true) (hi : s.dev.groveItems g .placed = []) :
    ∃ u, exec (.groveClear g) s = .next u ∧ DevOnly s u ∧ u.dev.grove g = { s.dev.grove g with draining := true } ∧ u.dev.lan.cmdBusy = some (.grove g)
      ∧ u.dev.regs = s.dev.regs :=
  ⟨_, exec_groveClear hm (lanClearCmdW_grove_drains s.ctx hb hg hs h hi), .of_dev ..,
    Dev.grove_updGrove s.dev (fun x => { x with draining := true }) (Dev.find_grove (by rw [hs]; nofun)) (fun _ h => h), rfl, rfl⟩

theorem clearDrainDone_twin {t : Nat} {tw : Twin} (hb : s.dev.lan.cmdBusy = some (.twin t)) (hf : s.dev.lan.twins.find? (fun x => x.num == t) = some tw)
    (hs : tw.state = .inService) (hi : s.dev.onTwin t = []) (hg : s.dev.lan.groves.all (fun g => !g.draining) = true) (hp : s.dev.pke.clearBusy = none) :
    ∃ u, exec .clearDrainDone s = .next u ∧ DevOnly s u ∧ (u.dev.twin t).state = .clearing ∧ u.dev.lan.cmdBusy = none ∧ u.dev.lan.cmdResult = 0
      ∧ bit (u.dev.reg Off.lanEvt) 7 = true ∧ bit (u.dev.reg Off.lanEvt) 1 = true := by
  have hlan := (s.dev.twinLeaves s.ctx t .clearing false).clearCmdEnd_lan 0
  have hentry := s.dev.twinLeaves_clearing_evt s.ctx (t := t) false (by rw [Dev.twin_of_find hf, hs]; nofun)
  refine ⟨_, exec_clearDrainDone s, .of_dev .., ?_⟩
  dsimp only
  rw [clearDrainOp_twin s.ctx hb hf hs hi hg hp]
  refine ⟨?_, congrArg Lan.cmdBusy hlan, congrArg Lan.cmdResult hlan, Dev.clearCmdEnd_evt 0 _, ?_⟩
  · rw [Dev.clearCmdEnd_twin]
    exact (s.dev.twinLeaves_clearing s.ctx false hf).1
  · rw [Dev.clearCmdEnd_reg_lanEvt]
    exact bit_or_left _ hentry

/-- An abort that ends as it is written. -/
theorem pkeAbort_ends {v : Word} {r : Nat} (hm : HostMay s true Off.pkeAbortCmd) (ha : s.dev.pke.abort = none) (h : pkeAbortW s.ctx v s.dev = .took (s.dev.abortEnd r)) :
    ∃ u, exec (.pkeAbort v) s = .next u ∧ DevOnly s u ∧ u.dev.pke = { s.dev.pke with abortResult := r } ∧ bit (u.dev.reg Off.pkeEvt) 4 = true :=
  ⟨_, exec_pkeAbort hm h, .of_dev .., Dev.abortEnd_idle r ha⟩
end

/-- Settles O26: a unit's tests by `Dev.twinTested_eq` and its like, a grove's with the fold over its twins; CLEAR of a twin by the state it is in
(a HELD one stays, log entry 43), of a grove by the others in service; an abort by the phase of its item. -/
theorem clearingRows : Obligations.ClearingRows := by
  unfold Obligations.ClearingRows
  intro s held after
  refine ⟨fun t tw x us ht hf hs hp hg hon h1 h2 => ?_, fun g e x us hg hf hs hp hgr hon hw => ?_, fun g y x us hg hf hs hp hh hon => ?_,
    fun hm hb => ⟨fun t tw ht hf => ?_, fun t hlo hhi => ?_, fun g hg hs => ⟨fun hlast => ?_, groveClear_drains hm hb hg hs⟩⟩,
    fun t tw hb hf hs hi hg hp => clearDrainDone_twin hb hf hs hi hg hp, fun v hm => exec_readmitHoldWrite v hm,
    fun v g hm hb hc hv hg => ?_, fun v hm hv ha => ?_⟩
  · refine ⟨_, exec_clearingTestsDone s (.twin t) x us, .of_dev .., ?_⟩
    dsimp only
    rw [clearingTestsOp_twin _ _ x us ht hf hs hp hg hon h1 h2, Dev.twin_twinTested _ _ us _ hf]
    refine ⟨rfl, rfl, rfl, fun hno => ?_⟩
    rw [hno]
    exact Dev.twinTested_failed ..
  · intro ok
    refine ⟨_, exec_clearingTestsDone s (.engine g) x us, .of_dev .., ?_⟩
    dsimp only
    rw [clearingTestsOp_engine _ _ x us hg hf hs hp hgr hon hw, Dev.engine_engineTested _ _ us _ hf]
    refine ⟨rfl, rfl, rfl, rfl, fun hno => ?_⟩
    rw [show testsEngine x = false from hno]
    exact Dev.engineTested_failed ..
  · intro eng ok
    refine ⟨_, exec_clearingTestsDone s (.grove g) x us, .of_dev .., ?_⟩
    dsimp only
    have hok : (s.dev.groveOk g x && !y.byThresh) = true ↔ ok := Dev.groveOk_iff x g y.byThresh
    rw [clearingTestsOp_grove _ _ x us hg hf hs hp hh hon, Dev.grove_afterTests s.ctx x us hf]
    refine ⟨fun h => ?_, fun h => ?_, fun h => ?_, fun t ht tw htw hts htp => Dev.twin_afterTests s.ctx x us _ ht htw hts htp⟩
    · rw [hok.mpr h]
      exact ⟨rfl, rfl⟩
    · rw [Bool.eq_false_of_not_eq_true (mt hok.mp h)]
      exact ⟨rfl, rfl, Dev.grove_afterTests_failed s.ctx x us hf (mt hok.mp h)⟩
    · rw [h]
      rfl
  · have hw := lanClearCmdW_twin s.ctx hb ht
    rw [Dev.twin_of_find hf] at hw
    refine ⟨twinClear_inService hm hb ht hf, twinClear_failed hm hb ht hf, fun hs => twinClear_ends hm hb ?_, fun hs => twinClear_ends hm hb ?_⟩
    · rcases hs with hs | hs <;> rw [hw, hs]
    · rw [hw, hs]
  · exact twinClear_ends hm hb (lanClearCmdW_twin_absent s.ctx hb hlo hhi)
  · exact ⟨_, exec_groveClear hm (lanClearCmdW_grove_last s.ctx hb hg hs hlast), .of_dev .., Dev.clearCmdEnd_idle 3 hb⟩
  · subst hv
    refine ⟨fun hs => ?_, fun hs => ?_⟩
    · exact ⟨_, exec_pkeClear hm (pkeClearW_clearing s.ctx hb hc hg hs), .of_dev .., Dev.pkeClearEnd_idle 1 hb⟩
    · refine ⟨_, exec_pkeClear hm (pkeClearW_inService s.ctx hb hc hg hs), .of_dev .., rfl, ?_, rfl⟩
      exact congrArg Engine.draining (Dev.engine_updEngine s.dev (fun e => { e with draining := true }) (Dev.find_engine (by rw [hs]; nofun)) (fun _ h => h))
  · refine ⟨fun hi => pkeAbort_ends hm ha (pkeAbortW_unknown s.ctx hv ha hi), fun i hi => ⟨fun hw hu => pkeAbort_ends hm ha (pkeAbortW_refused s.ctx hv ha hi hw hu),
      fun hw hl => ⟨fun hds => pkeAbort_ends hm ha (pkeAbortW_finished s.ctx hv ha hi hw hl hds), fun hds hp => pkeAbort_ends hm ha ?_,
        fun hds hp => pkeAbort_ends hm ha ?_, fun e hds hp he => ?_⟩⟩⟩
    · rw [pkeAbortW_phase s.ctx hv ha hi hw hl hds, hp]
    · rcases hp with hp | hp <;> rw [pkeAbortW_phase s.ctx hv ha hi hw hl hds, hp]
    · have hstarts := pkeAbortW_phase s.ctx hv ha hi hw hl hds
      rw [hp] at hstarts
      exact ⟨_, exec_pkeAbort hm hstarts, .of_dev .., rfl, rfl, Dev.abortStarts_engine s.ctx he, rfl⟩

end Sys2Proof.Machine

/-! The commands of a key slot, and the end of a PROMOTE (R336, R342 to R346, R362, R363, R437). -/

namespace Sys2Proof.Machine

/-! ### Slots by their numbers (R336, R347) -/

/-- A slot that is put is found as it was put, while one of its halves holds a key. -/
theorem Key.slot?_putSlot (k : Key) (x : Slot) :
    (k.putSlot x).slot? x.dom x.num = if x.act.isNone && x.sap.isNone then none else some x := by
  have hrest : (k.slots.filter (fun y => !(y.dom == x.dom && y.num == x.num))).find? (fun y => y.dom == x.dom && y.num == x.num) = none :=
    List.find?_eq_none.mpr fun y hy hyx => by
      rw [List.mem_filter, hyx] at hy
      cases hy.2
  unfold Key.putSlot Key.slot?
  dsimp only
  split
  · exact hrest
  · rw [List.find?_append, hrest, List.find?_singleton, if_pos (by simp), Option.none_or]

/-- A slot that is found has the numbers that it was looked for by. -/
theorem Key.slot?_nums {k : Key} {dom num : Nat} {x : Slot} (h : k.slot? dom num = some x) : x.dom = dom ∧ x.num = num := by
  simpa using List.find?_some h

/-! ### A slot changed, and mirrored (R437) -/

section
variable (c : Ctx) (dom num : Nat) (d : Dev)

/-- Whether or not its acknowledgement is waited for, a change of a slot leaves the key store as it is. -/
theorem Dev.slotChanged_key (promoted : Bool) : (d.slotChanged c dom num (.slot promoted)).key = d.key := by
  have hs := d.sendSlot_sends dom num
  unfold Dev.slotChanged Dev.awaitAck
  split
  · exact hs.key
  · cases promoted with
    | false => exact hs.key
    | true => exact (Dev.evtBit_key _ Off.keyEvt 0).trans hs.key

/-- A change that is no PROMOTE's is no event. -/
theorem Dev.slotChanged_regs : (d.slotChanged c dom num (.slot false)).regs = d.regs := by
  have hs := d.sendSlot_sends dom num
  unfold Dev.slotChanged Dev.awaitAck
  split <;> exact hs.regs

/-- A PROMOTE's is one, at once where no acknowledgement is waited for. -/
theorem Dev.slotChanged_promoted (h : d.syncMirror = false) : bit ((d.slotChanged c dom num (.slot true)).reg Off.keyEvt) 0 = true := by
  have hs := d.sendSlot_sends dom num
  unfold Dev.slotChanged Dev.awaitAck
  rw [if_neg (by rw [hs.sync, h]; decide)]
  exact Dev.evtBit_bit _ _ (by decide)
end

/-! ### What a write of KEY_SLOT_CMD does -/

/-- The copies in the caches of a key that a slot holds, or held. -/
def Slot.copies (x : Slot) (h : Option Half) (e : CacheEnt) : Bool := h.any (fun y => e.dom == x.dom && e.slot == x.num && e.gen == y.attr.gen)

/-- The key store with a change of a slot made: the command is done, and the slot mirrored. -/
def Dev.slotPut (c : Ctx) (x : Slot) (k : Key) (d : Dev) : Dev :=
  ({ d with key := { k with slotResult := 0 } }).slotChanged c x.dom x.num (.slot false)

/-- A half with the staged window (R345), and a cache entry with it. -/
def Half.windowed (d : Dev) (h : Half) : Half := { h with attr := { h.attr with nb := d.reg64 Off.keyWinNbLo, na := d.reg64 Off.keyWinNaLo } }
def CacheEnt.windowed (d : Dev) (e : CacheEnt) : CacheEnt := { e with attr := { e.attr with nb := d.reg64 Off.keyWinNbLo, na := d.reg64 Off.keyWinNaLo } }

/-- Nothing bars the commands on the slot that the selectors name: no PROMOTE, no change that waits for its mirror, no response
in force; its custodians' ceremony is open, where it needs one. -/
structure Dev.SlotOpen (d : Dev) (x : Slot) : Prop where
  promote    : d.key.promote = none
  changing   : d.changing MirrorOf.isSlot = false
  unlocked   : d.locked = false
  selected   : d.cmdSlot = some x
  custodians : x.custOnly = false ∨ d.domainCer x.dom = true

section
variable (c : Ctx) {d : Dev} {x : Slot}

/-- During a PROMOTE (R363). -/
theorem slotCmdW_busy (v : Word) (h : d.key.promote.isSome = true) : slotCmdW c v d = .viol := by
  unfold slotCmdW
  rw [h]
  rfl

theorem Dev.SlotOpen.notBusy (ho : d.SlotOpen x) : ¬ (d.key.promote.isSome || d.changing MirrorOf.isSlot) = true := by
  rw [ho.promote, ho.changing]
  decide
theorem Dev.SlotOpen.notBarred (ho : d.SlotOpen x) : ¬ (x.custOnly && !d.domainCer x.dom) = true := by
  rcases ho.custodians with h | h <;> simp [h]

theorem slotCmdW_promote (ho : d.SlotOpen x) {v : Word} (hv : fld v 2 0 = 1) (hlo : 3 ≤ fld v 11 8) (hhi : fld v 11 8 ≤ 8)
    (hw : d.warning = false) (hs : x.sap.isSome = true) :
    slotCmdW c v d = .took { d with key := { d.key with promote := some (x.dom, x.num, fld v 11 8) } } := by
  unfold slotCmdW
  dsimp only
  rw [if_neg ho.notBusy, hv, if_neg (by omega), ho.unlocked, if_neg (by decide), ho.selected]
  dsimp only
  rw [if_neg ho.notBarred, if_pos rfl, if_neg (by simp [Option.isSome_iff_ne_none.mp hs]), hw]
  rfl

/-- The other commands act at once. -/
theorem slotCmdW_do (ho : d.SlotOpen x) {v : Word} (hlo : 2 ≤ fld v 2 0) (hhi : fld v 2 0 ≤ 5) :
    slotCmdW c v d = .took (d.slotDo c (fld v 2 0) (bit v 4) x) := by
  unfold slotCmdW
  dsimp only
  rw [if_neg ho.notBusy, if_neg (by omega), ho.unlocked, if_neg (by decide), ho.selected]
  dsimp only
  rw [if_neg ho.notBarred, if_neg (by omega)]

theorem Dev.slotDo_delete (d : Dev) (x : Slot) (half : Bool) : d.slotDo c 3 half x
    = d.slotPut c x ((d.key.putSlot { x with act := none, sap := none }).supersede (fun e => x.copies x.act e || x.copies x.sap e)) := rfl
theorem Dev.slotDo_discard (half : Bool) (h : x.sap.isSome = true) : d.slotDo c 2 half x
    = d.slotPut c x ((d.key.putSlot { x with sap := none }).supersede (x.copies x.sap)) :=
  if_neg (by simp [Option.isSome_iff_ne_none.mp h])
theorem Dev.slotDo_setWindow (half : Bool) {h : Half} (hs : x.sap = some h) : d.slotDo c 4 half x
    = d.slotPut c x { d.key.putSlot { x with sap := some (h.windowed d) } with cache := updWhere (x.copies x.sap) (CacheEnt.windowed d) d.key.cache } := by
  unfold Dev.slotDo
  rw [hs]
  rfl
theorem Dev.slotDo_info (d : Dev) (x : Slot) (half : Bool) : d.slotDo c 5 half x
    = { d.loadInfo (if half then x.sap else x.act) with key := { (d.loadInfo (if half then x.sap else x.act)).key with slotResult := 0 } } := rfl
/-- Without a sapling, the commands on one end NO_SAPLING (R363). -/
theorem Dev.slotDo_noSapling {cmd : Nat} (half : Bool) (hc : cmd = 2 ∨ cmd = 4) (hs : x.sap = none) :
    d.slotDo c cmd half x = { d with key := { d.key with slotResult := 1 } } := by
  unfold Dev.slotDo
  rw [hs]
  rcases hc with rfl | rfl <;> rfl

/-- The information of a key (R346) and its generation: the key store's other fields stand. -/
theorem Dev.loadInfo_key (h : Half) (d : Dev) : ∃ w, (d.loadInfo (some h)).key = { d.key with info := w, infoGen := BitVec.ofNat 32 h.attr.gen } := by
  unfold Dev.loadInfo
  dsimp only
  generalize packW _ = w
  refine ⟨w, ?_⟩
  rw [apply_ite Dev.key, Dev.setReg64_key, Dev.setReg64_key, ite_self]
end

/-! ### The commands at work -/

section
variable {s : State} {x : Slot}

/-- The word that SLOT_PROMOTE writes: its own command, and the length as given. -/
theorem promoteWord_cmd (v : Word) : fld (v &&& 0xFFFFFFF8#32 ||| 1#32) 2 0 = 1 := by
  unfold fld
  rw [BitVec.toNat_or, BitVec.toNat_and, Nat.shiftRight_zero, Nat.or_mod_two_pow, Nat.and_mod_two_pow]
  simp
theorem promoteWord_len (v : Word) : fld (v &&& 0xFFFFFFF8#32 ||| 1#32) 11 8 = fld v 11 8 := by
  rw [← fld_and_of_full v 0xFFFFFFF8#32 (by decide)]
  unfold fld
  rw [BitVec.toNat_or, Nat.shiftRight_or_distrib]
  simp

theorem exec_slotPromote (ho : s.dev.SlotOpen x) (hm : HostMay s true Off.keySlotCmd) {v : Word} (hlo : 3 ≤ fld v 11 8) (hhi : fld v 11 8 ≤ 8)
    (hw : s.dev.warning = false) (hs : x.sap.isSome = true) :
    exec (.slotPromote v) s = .next { s with dev := { s.dev with key := { s.dev.key with promote := some (x.dom, x.num, fld v 11 8) } } } := by
  have hlen := promoteWord_len v
  have h := slotCmdW_promote s.ctx ho (promoteWord_cmd v) (hlen.symm ▸ hlo) (hlen.symm ▸ hhi) hw hs
  rw [hlen] at h
  exact next_hostWrite hm (by decide) h
theorem exec_slotDiscard (ho : s.dev.SlotOpen x) (hm : HostMay s true Off.keySlotCmd) :
    exec .slotDiscard s = .next { s with dev := s.dev.slotDo s.ctx 2 false x } :=
  next_hostWrite hm (by decide) (slotCmdW_do (v := 2#32) s.ctx ho (by decide) (by decide))
theorem exec_slotDelete (ho : s.dev.SlotOpen x) (hm : HostMay s true Off.keySlotCmd) :
    exec .slotDelete s = .next { s with dev := s.dev.slotDo s.ctx 3 false x } :=
  next_hostWrite hm (by decide) (slotCmdW_do (v := 3#32) s.ctx ho (by decide) (by decide))
theorem exec_slotSetWindow (ho : s.dev.SlotOpen x) (hm : HostMay s true Off.keySlotCmd) :
    exec .slotSetWindow s = .next { s with dev := s.dev.slotDo s.ctx 4 false x } :=
  next_hostWrite hm (by decide) (slotCmdW_do (v := 4#32) s.ctx ho (by decide) (by decide))
theorem exec_slotInfo (ho : s.dev.SlotOpen x) (hm : HostMay s true Off.keySlotCmd) (half : Bool) :
    exec (.slotInfo half) s = .next { s with dev := s.dev.slotDo s.ctx 5 half x } := by
  cases half with
  | false => exact next_hostWrite hm (by decide) (slotCmdW_do (v := 5#32) s.ctx ho (by decide) (by decide))
  | true => exact next_hostWrite hm (by decide) (slotCmdW_do (v := 0x15#32) s.ctx ho (by decide) (by decide))
theorem exec_promoteDone (ok : Bool) (s : State) : exec (.promoteDone ok) s = .next { s with dev := promoteDoneOp ok s.ctx s.dev } := rfl

/-- A command that changes the slot of its numbers, and is no PROMOTE's end. -/
theorem slotPut_ends {i : Instr} {k : Key} (h : exec i s = .next { s with dev := s.dev.slotPut s.ctx x k }) :
    ∃ u, exec i s = .next u ∧ DevOnly s u ∧ u.dev.key.slot? x.dom x.num = k.slot? x.dom x.num ∧ u.dev.key.slotResult = 0 ∧ u.dev.regs = s.dev.regs := by
  have hkey : (s.dev.slotPut s.ctx x k).key = { k with slotResult := 0 } := Dev.slotChanged_key ..
  have hslot := congrArg (fun y : Key => y.slot? x.dom x.num) hkey
  exact ⟨_, h, .of_dev .., hslot, congrArg Key.slotResult hkey, Dev.slotChanged_regs ..⟩

theorem slotDiscard_ends (ho : s.dev.SlotOpen x) (hm : HostMay s true Off.keySlotCmd) (hs : x.sap.isSome = true) :
    ∃ u, exec .slotDiscard s = .next u ∧ DevOnly s u ∧ u.dev.key.slot? x.dom x.num = (if x.act.isSome then some { x with sap := none } else none)
      ∧ u.dev.key.slotResult = 0 ∧ u.dev.regs = s.dev.regs := by
  obtain ⟨u, hu, honly, hslot, hrest⟩ := slotPut_ends ((exec_slotDiscard ho hm).trans (by rw [Dev.slotDo_discard s.ctx false hs]))
  refine ⟨u, hu, honly, (hslot.trans (Key.slot?_putSlot s.dev.key { x with sap := none })).trans ?_, hrest⟩
  cases x.act <;> rfl

theorem slotDelete_ends (ho : s.dev.SlotOpen x) (hm : HostMay s true Off.keySlotCmd) :
    ∃ u, exec .slotDelete s = .next u ∧ DevOnly s u ∧ u.dev.key.slot? x.dom x.num = none ∧ u.dev.key.slotResult = 0 ∧ u.dev.regs = s.dev.regs := by
  obtain ⟨u, hu, honly, hslot, hrest⟩ := slotPut_ends ((exec_slotDelete ho hm).trans (by rw [Dev.slotDo_delete]))
  exact ⟨u, hu, honly, hslot.trans (Key.slot?_putSlot s.dev.key { x with act := none, sap := none }), hrest⟩

theorem slotSetWindow_ends (ho : s.dev.SlotOpen x) (hm : HostMay s true Off.keySlotCmd) {h : Half} (hs : x.sap = some h) :
    ∃ u, exec .slotSetWindow s = .next u ∧ DevOnly s u ∧ u.dev.key.slot? x.dom x.num = some { x with sap := some (h.windowed s.dev) }
      ∧ u.dev.key.slotResult = 0 ∧ u.dev.regs = s.dev.regs := by
  obtain ⟨u, hu, honly, hslot, hrest⟩ := slotPut_ends ((exec_slotSetWindow ho hm).trans (by rw [Dev.slotDo_setWindow s.ctx false hs]))
  refine ⟨u, hu, honly, (hslot.trans (Key.slot?_putSlot s.dev.key { x with sap := some (h.windowed s.dev) })).trans ?_, hrest⟩
  exact if_neg (by simp)

theorem slotInfo_ends (ho : s.dev.SlotOpen x) (hm : HostMay s true Off.keySlotCmd) {half : Bool} {h : Half} (hh : (if half then x.sap else x.act) = some h) :
    ∃ u, exec (.slotInfo half) s = .next u ∧ DevOnly s u ∧ u.dev.key.slotResult = 0 ∧ u.dev.key.infoGen = BitVec.ofNat 32 h.attr.gen
      ∧ u.dev.key.slots = s.dev.key.slots := by
  obtain ⟨w, hkey⟩ := s.dev.loadInfo_key h
  have hgen := congrArg Key.infoGen hkey
  have hslots := congrArg Key.slots hkey
  refine ⟨_, exec_slotInfo ho hm half, .of_dev .., ?_⟩
  rw [Dev.slotDo_info, hh]
  exact ⟨rfl, hgen, hslots⟩

/-- Every write of KEY_SLOT_CMD during a PROMOTE is a violation (R363). -/
theorem next_slotCmd_busy (v : Word) (hm : HostMay s true Off.keySlotCmd) (h : s.dev.key.promote.isSome = true) :
    (.next { s with dev := s.dev.hostWrite s.ctx Off.keySlotCmd (slotCmdW s.ctx v) } : Host.Outcome State Fault Refusal)
      = .next { s with dev := s.dev.ruleViolation s.ctx Off.keySlotCmd } := by
  rw [hostWrite_own_viol hm (by decide) (slotCmdW_busy s.ctx v h)]
end

/-! ### The end of a PROMOTE (R342, R343) -/

/-- A PROMOTE at its end: its slot, which holds a sapling. -/
structure Dev.Promoting (d : Dev) (dom num len : Nat) (x : Slot) (h : Half) : Prop where
  promote : d.key.promote = some (dom, num, len)
  slot    : d.key.slot? dom num = some x
  sapling : x.sap = some h

/-- The sapling's check value is the one that the host staged. -/
def Dev.kcvAgrees (d : Dev) (len : Nat) (h : Half) : Prop := kcv 0 len h.attr.alg h.mat = (toLe 8 (d.reg64 Off.keyExpKcvLo)).take len

/-- A PROMOTE that failed its test operation, with its event. -/
def Dev.promoteFailed (c : Ctx) (dom num : Nat) (h : Half) (d : Dev) : Dev :=
  (({ d with key := { d.key with promote := none, slotResult := 3 } } : Dev).evtBit Off.keyEvt 3).evidence c Ev.keyTestFailed
    (toLe 2 dom ++ toLe 2 num ++ toLe 4 h.attr.gen)

section
variable (c : Ctx) {d : Dev} {dom num len : Nat} {x : Slot} {h : Half} (hp : d.Promoting dom num len x h)
include hp

theorem promoteDoneOp_mismatch (ok : Bool) (hk : ¬ d.kcvAgrees len h) :
    promoteDoneOp ok c d = { d with key := { d.key with promote := none, slotResult := 2 } } := by
  unfold promoteDoneOp
  simp only [hp.promote, hp.slot, hp.sapling]
  exact if_pos hk
theorem promoteDoneOp_waits (ok : Bool) (hk : d.kcvAgrees len h) (hw : d.pairTestWaits h = true) : promoteDoneOp ok c d = d := by
  unfold promoteDoneOp
  simp only [hp.promote, hp.slot, hp.sapling]
  exact (if_neg (not_not_intro hk)).trans (if_pos hw)
theorem promoteDoneOp_tested (ok : Bool) (hk : d.kcvAgrees len h) (hw : d.pairTestWaits h = false) :
    promoteDoneOp ok c d = if ok then d.promoteCommit c x else d.promoteFailed c dom num h := by
  unfold promoteDoneOp
  simp only [hp.promote, hp.slot, hp.sapling]
  refine ((if_neg (not_not_intro hk)).trans (if_neg (by rw [hw]; decide))).trans ?_
  cases ok <;> rfl

/-- The commit: the sapling is ACTIVE, and no half is a sapling. -/
theorem Dev.promoteCommit_spec : (d.promoteCommit c x).key.slot? dom num = some { x with act := some h, sap := none }
    ∧ (d.promoteCommit c x).key.promote = none ∧ (d.promoteCommit c x).key.slotResult = 0
    ∧ (d.syncMirror = false → bit ((d.promoteCommit c x).reg Off.keyEvt) 0 = true) := by
  obtain ⟨rfl, rfl⟩ := Key.slot?_nums hp.slot
  refine ⟨?_, congrArg Key.promote (Dev.slotChanged_key ..), congrArg Key.slotResult (Dev.slotChanged_key ..), fun hsync => Dev.slotChanged_promoted _ _ _ _ hsync⟩
  refine (congrArg (fun k : Key => k.slot? x.dom x.num) (Dev.slotChanged_key ..)).trans ?_
  refine (Key.slot?_putSlot d.key { x with act := x.sap, sap := none }).trans ?_
  rw [hp.sapling]
  rfl
end

theorem Dev.promoteFailed_spec (c : Ctx) (dom num : Nat) (h : Half) (d : Dev) :
    (d.promoteFailed c dom num h).key = { d.key with promote := none, slotResult := 3 } ∧ bit ((d.promoteFailed c dom num h).reg Off.keyEvt) 3 = true := by
  unfold Dev.promoteFailed
  refine ⟨(Dev.evidence_key ..).trans (Dev.evtBit_key ..), ?_⟩
  rw [Dev.evidence_reg_ne _ _ _ _ (by decide) (by decide)]
  exact Dev.evtBit_bit _ _ (by decide)

/-- Settles O28: the commands by what `slotCmdW` makes of their words, a changed slot by `Key.slot?_putSlot`; the end of a PROMOTE by its checks. A
pairwise test that waits for its engine leaves all as it was (log entry 85). -/
theorem slotCommands : Obligations.SlotCommands := by
  unfold Obligations.SlotCommands
  dsimp only
  refine fun s => ⟨fun x hm hpro hch hlock hsel hcus _ => ?_, fun hm hpro i hi => ?_, fun dom num len x h hpro hslot hsap => ?_⟩
  · have ho : s.dev.SlotOpen x := ⟨hpro, hch, hlock, hsel, hcus⟩
    refine ⟨fun v hlo hhi hw hs => exec_slotPromote ho hm hlo hhi hw hs, fun hs => ?_, ?_, fun h hs => ?_, fun half h hh => ?_, fun half hh => ?_, fun hs i hi => ?_⟩
    · obtain ⟨u, hu, honly, hslot, hres, hregs⟩ := slotDiscard_ends ho hm hs
      exact ⟨u, hu, honly, hslot, hres, fun _ => hregs⟩
    · obtain ⟨u, hu, honly, hslot, hres, hregs⟩ := slotDelete_ends ho hm
      exact ⟨u, hu, honly, hslot, hres, fun _ => hregs⟩
    · obtain ⟨u, hu, honly, hslot, hres, hregs⟩ := slotSetWindow_ends ho hm hs
      exact ⟨u, hu, honly, hres, fun _ => hregs, hslot⟩
    · exact slotInfo_ends ho hm hh
    · rw [exec_slotInfo ho hm, Dev.slotDo_info, hh]
      rfl
    · simp only [List.mem_cons, List.not_mem_nil, or_false] at hi
      rcases hi with rfl | rfl
      · rw [exec_slotDiscard ho hm, Dev.slotDo_noSapling s.ctx false (.inl rfl) hs]
      · rw [exec_slotSetWindow ho hm, Dev.slotDo_noSapling s.ctx false (.inr rfl) hs]
  · simp only [List.mem_cons, List.not_mem_nil, or_false] at hi
    rcases hi with rfl | rfl | rfl | rfl | rfl <;> exact next_slotCmd_busy _ hm hpro
  · have hp : s.dev.Promoting dom num len x h := ⟨hpro, hslot, hsap⟩
    refine ⟨fun hk ok => ?_, fun hk => ⟨fun hw ok => ?_, fun hw => ⟨?_, ?_⟩⟩⟩
    · rw [exec_promoteDone, promoteDoneOp_mismatch s.ctx hp ok hk]
    · rw [exec_promoteDone, promoteDoneOp_waits s.ctx hp ok hk hw]
    · rw [exec_promoteDone, promoteDoneOp_tested s.ctx hp true hk hw]
      exact ⟨_, rfl, .of_dev .., Dev.promoteCommit_spec s.ctx hp⟩
    · rw [exec_promoteDone, promoteDoneOp_tested s.ctx hp false hk hw]
      exact ⟨_, rfl, .of_dev .., Dev.promoteFailed_spec ..⟩

end Sys2Proof.Machine

/-! What the end of an item, a lock and an alarm leave of the entropy block (R138, R368, R379, R475, R476, R480). -/

namespace Sys2Proof.Machine

/-- The entropy block and its event register. -/
def Dev.noise (d : Dev) : Rng × Word := (d.rng, d.reg Off.rngEvt)

theorem Dev.noise_of {d e : Dev} (hr : e.rng = d.rng) (hw : e.reg Off.rngEvt = d.reg Off.rngEvt) : e.noise = d.noise := Prod.ext hr hw
theorem Dev.rng_of_noise {d e : Dev} (h : e.noise = d.noise) : e.rng = d.rng := congrArg Prod.fst h
theorem Dev.rngEvt_of_noise {d e : Dev} (h : e.noise = d.noise) : e.reg Off.rngEvt = d.reg Off.rngEvt := congrArg Prod.snd h

section
variable (d : Dev) (c : Ctx)

/-! ### Tables, counters, events, messages -/

theorem Dev.bump_noise {off : Nat} (h : Off.rngEvt ≠ off) : (d.bump off).noise = d.noise := Dev.noise_of rfl (Dev.bump_reg_ne d h)
theorem Dev.evtBit_noise {off : Nat} (i : Nat) (h : Off.rngEvt ≠ off) : (d.evtBit off i).noise = d.noise := Dev.noise_of (Dev.evtBit_rng ..) (Dev.evtBit_reg_ne d i h)
@[simp] theorem Dev.evidence_noise (t : Nat) (p : Bytes) : (d.evidence c t p).noise = d.noise :=
  Dev.noise_of (Dev.evidence_rng ..) (Dev.evidence_reg_ne d c t p (by decide) (by decide))
@[simp] theorem Dev.startFlush_noise : d.startFlush.noise = d.noise := by
  unfold Dev.startFlush
  split <;> rfl
@[simp] theorem Dev.mirrorRec_noise (k : Nat) : (d.mirrorRec k).noise = d.noise := by
  unfold Dev.mirrorRec
  split
  · exact Dev.noise_of (Dev.sendPeer_rng ..) (Dev.sendPeer_reg ..)
  · rfl

/-! ### To OWED (R98, R138, R152) -/

@[simp] theorem Dev.unbind_noise (k : Nat) : (d.unbind c k).noise = d.noise := by
  unfold Dev.unbind
  dsimp only
  split <;> rfl
@[simp] theorem Dev.countStatus_noise (st sub : Nat) : (d.countStatus st sub).noise = d.noise := by
  unfold Dev.countStatus
  split
  · rw [Dev.evtBit_noise _ _ (by decide), Dev.bump_noise _ (by decide)]
  · split
    · rw [Dev.evtBit_noise _ _ (by decide), Dev.bump_noise _ (by decide)]
    · split
      · rw [Dev.bump_noise _ (by decide)]
      · rfl
@[simp] theorem Dev.flowPrune_noise (f : Option (Nat × Nat)) : (d.flowPrune f).noise = d.noise := by
  unfold Dev.flowPrune
  split
  · rfl
  · split <;> rfl
@[simp] theorem Dev.discardEntry_noise (k : Nat) : (d.discardEntry k).noise = d.noise := by
  unfold Dev.discardEntry
  rw [Dev.mirrorRec_noise]
  show (Dev.retire k (d.updRec k _)).noise = d.noise
  unfold Dev.retire
  split <;> rfl
@[simp] theorem Dev.spillAnswer_noise (i : Item) (peer o st sub n : Nat) (out : Bytes) : (d.spillAnswer i peer o st sub n out).noise = d.noise :=
  Dev.noise_of (Dev.sendPeer_rng d peer 4 2 _) (Dev.sendPeer_reg d peer 4 2 _ _)
@[simp] theorem Dev.owe_noise (k : Nat) (r : Rec) (st sub n : Nat) : (d.owe c k r st sub n).noise = d.noise := by
  unfold Dev.owe
  dsimp only
  rw [Dev.mirrorRec_noise, Dev.countStatus_noise, Dev.flowPrune_noise]
  have h := Dev.unbind_noise d c k
  generalize d.unbind c k = e at h ⊢
  exact h
@[simp] theorem Dev.oweOne_noise (k st sub n : Nat) : (d.oweOne c k st sub n).noise = d.noise := by
  unfold Dev.oweOne
  dsimp only
  split
  · rw [Dev.spillAnswer_noise, Dev.unbind_noise]
  · split
    · rfl
    · split
      · rw [Dev.discardEntry_noise, Dev.owe_noise]
      · exact Dev.owe_noise ..
@[simp] theorem Dev.cascade_noise : ∀ (n : Nat) (d : Dev), (d.cascade c n).noise = d.noise
  | 0, _ => rfl
  | n + 1, d => by
    unfold Dev.cascade
    split
    · rfl
    · split
      · rfl
      · rw [Dev.cascade_noise n, Dev.oweOne_noise]
@[simp] theorem Dev.toOwed_noise (k st sub n : Nat) : (d.toOwed c k st sub n).noise = d.noise := (Dev.cascade_noise ..).trans (Dev.oweOne_noise ..)
@[simp] theorem Dev.finishNow_noise (k st sub : Nat) : (d.finishNow c k st sub).noise = d.noise := by
  unfold Dev.finishNow
  split
  · exact Dev.toOwed_noise ..
  · split
    · rfl
    · split
      · rfl
      · exact Dev.toOwed_noise ..
/-- The items that wait at step C complete, and the entropy block is as it was (R381). -/
theorem Dev.stepC_noise (p : Item → Bool) : (d.stepC c p).noise = d.noise := by
  unfold Dev.stepC
  split
  · rfl
  · exact foldl_keep Dev.noise _ (fun a i => Dev.finishNow_noise a c (Item.slot i) _ _) _ d

/-! ### A lock (R475, R507) -/

@[simp] theorem Dev.supersedeCers_noise (all : Bool) : (d.supersedeCers c all).noise = d.noise := by
  have hend : ∀ (a : Dev) (n : Nat) (q : Bool) (r : Nat), (a.cerEnd c n q r).noise = a.noise := by
    intro a n q r
    unfold Dev.cerEnd
    extract_lets k d0 d1
    have h1 : d1.noise = a.noise := by
      refine (Dev.evtBit_noise _ _ (by decide)).trans ?_
      show d0.noise = _
      unfold d0
      split <;> rfl
    split
    · exact (Dev.evidence_noise ..).trans h1
    · exact h1
  unfold Dev.supersedeCers
  refine foldl_keep Dev.noise _ (fun a n => ?_) _ d
  dsimp only
  split
  · exact hend ..
  · rfl
@[simp] theorem Dev.mgmtResume_noise (n : Nat) : (d.mgmtResume c n).noise = d.noise := by
  unfold Dev.mgmtResume
  split <;> rfl
@[simp] theorem Dev.dbgReset_noise : (d.dbgReset c).noise = d.noise := by
  unfold Dev.dbgReset
  split
  · rfl
  · rw [Dev.evtBit_noise _ _ (by decide)]
    exact (Dev.mgmtResume_noise ..).trans (Dev.mgmtResume_noise ..)
@[simp] theorem Dev.supersedeSlot_noise : d.supersedeSlot.noise = d.noise := by
  unfold Dev.supersedeSlot
  split <;> rfl
@[simp] theorem Dev.supersedeSave_noise : d.supersedeSave.noise = d.noise := rfl
@[simp] theorem Dev.abortOvertaken_noise : (d.abortOvertaken c).noise = d.noise := by
  unfold Dev.abortOvertaken
  split
  · rfl
  · split
    · rfl
    · exact Dev.evtBit_noise _ _ (by decide)
@[simp] theorem Dev.unsap_noise (i : Item) : (d.unsap i).noise = d.noise := by
  unfold Dev.unsap
  split <;> rfl
@[simp] theorem Dev.overtake_noise (st sub : Nat) : (d.overtake c st sub).noise = d.noise := by
  unfold Dev.overtake
  refine foldl_keep Dev.noise _ (fun a i => ?_) _ d
  dsimp only
  split
  · rfl
  · split
    · rfl
    · exact (Dev.mirrorRec_noise ..).trans (Dev.unsap_noise ..)
@[simp] theorem Dev.decideItems_noise (st sub : Nat) : (d.decideItems c st sub).noise = d.noise := by
  unfold Dev.decideItems
  extract_lets live order hif d1
  refine (foldl_keep Dev.noise _ (fun a i => ?_) order d1).trans rfl
  split
  · rfl
  · split
    · rfl
    · exact Dev.toOwed_noise ..
@[simp] theorem Dev.lockActions_noise (src st : Nat) : (d.lockActions c src st).noise = d.noise := by
  unfold Dev.lockActions
  dsimp only
  rw [Dev.startFlush_noise, Dev.evtBit_noise _ _ (by decide), Dev.dbgReset_noise, Dev.supersedeCers_noise, Dev.supersedeSave_noise, Dev.supersedeSlot_noise,
    Dev.decideItems_noise, Dev.overtake_noise, Dev.abortOvertaken_noise]
  rfl
end

/-! ### An alarm in NO_RANDOMNESS (R379, R480) -/

/-- The block is in NO_RANDOMNESS for this cause: no block counts, and no DRBG serves. -/
structure Rng.Lost (cause : Nat) (r : Rng) : Prop where
  state   : r.state = .noRandomness
  cause   : r.cause = cause
  testsOk : r.testsOk = false
  drbgs   : r.drbgs.all (fun g => !g.serves) = true

section
variable {d : Dev} (c : Ctx) {cause : Nat} (h : d.rng.Lost cause)
include h

/-- An erasure leaves the state, which only RESTART or a power-on ends. -/
theorem Dev.rngZeroise_lost : (d.rngZeroise c).rng.Lost cause := by
  have heq : d.rngZeroise c = d.rngErase := by
    unfold Dev.rngZeroise
    rw [h.state]
  rw [heq]
  exact { h with drbgs := by simp [Dev.rngErase, Drbg.erased, Drbg.serves] }
theorem Dev.zeroise_lost (src : Nat) : (d.zeroise c src).rng.Lost cause := by
  have herase : (d.zeroiseErase c).rng.Lost cause := by
    unfold Dev.zeroiseErase
    extract_lets e e1 d1 lan key d2
    have he : e1.rng = d.rng := by
      unfold e1
      split
      · rfl
      · exact Dev.evtBit_rng ..
    have h1 : d1.rng.Lost cause := Dev.rngZeroise_lost c (he.symm ▸ h)
    rw [Dev.evtBit_rng, Dev.rng_of_noise (Dev.supersedeCers_noise d2 c true)]
    exact h1
  unfold Dev.zeroise
  extract_lets d1 tmp d2
  have hrng : ∀ x : Dev, x.noise = d2.noise → x.rng.Lost cause := fun x hx => (Dev.rng_of_noise hx).symm ▸ herase
  split
  · exact hrng _ (by simp only [Dev.startFlush_noise, Dev.decideItems_noise, Dev.overtake_noise, Dev.abortOvertaken_noise])
  · exact hrng _ (Dev.lockActions_noise ..)
theorem Dev.alarm_lost (src : Nat) : (d.alarm c src).rng.Lost cause := by
  unfold Dev.alarm
  extract_lets d0 t cls d1 e fresh tmp d2 d3 d4 d5
  have h1 : d1.rng = d.rng := by
    show d0.rng = d.rng
    unfold d0 Dev.closeEvent
    split
    · split
      · split
        · rfl
        · exact Dev.evidenceAt_rng ..
      · rfl
    · rfl
  have h4 : d4.rng = d.rng := by
    have h3 : d3.rng = d.rng := by
      unfold d3
      split
      · exact (Dev.evtBit_rng ..).trans h1
      · exact h1
    unfold d4
    split <;> exact h3
  have h5 : d5.rng.Lost cause := by
    unfold d5
    split
    · exact Dev.zeroise_lost c (h4.symm ▸ h) _
    · split
      · rw [Dev.rng_of_noise (Dev.lockActions_noise d4 c _ _)]
        exact h4.symm ▸ h
      · exact h4.symm ▸ h
  split
  · rw [Dev.evidence_rng, h1]
    exact h
  · rw [Dev.record_rng]
    exact h5
end

end Sys2Proof.Machine

/-! The entropy block from STARTUP to NO_RANDOMNESS (R365 to R369, R373 to R378, R381, R385). -/

namespace Sys2Proof.Machine

/-! ### Sources by their numbers -/

@[simp] theorem Source.feed_num (l : List Bool) (s : Source) : (s.feed l).num = s.num := foldl_keep Source.num (fun x b => x.sample b) (fun _ _ => rfl) l s
@[simp] theorem Source.feed_fails (l : List Bool) (s : Source) : (s.feed l).fails = s.fails := foldl_keep Source.fails (fun x b => x.sample b) (fun _ _ => rfl) l s

/-- The number of a source that is found by it. -/
theorem Dev.source_num_of_find {d : Dev} {n : Nat} {k : Source} (h : d.rng.sources.find? (fun x => x.num == n) = some k) : k.num = n := by
  simpa using List.find?_some h
theorem Dev.source_of_find {d : Dev} {n : Nat} {k : Source} (h : d.rng.sources.find? (fun x => x.num == n) = some k) : d.source n = k := by
  rw [Dev.source, h]
  rfl
theorem Dev.source_congr {d e : Dev} (h : e.rng.sources = d.rng.sources) (n : Nat) : e.source n = d.source n := by rw [Dev.source, h]; rfl

section
variable {d : Dev} {n : Nat} {k : Source} (f : Source → Source)

theorem Dev.find_updSource (h : d.rng.sources.find? (fun x => x.num == n) = some k) (hf : ∀ x : Source, (f x).num = x.num) :
    (d.updSource n f).rng.sources.find? (fun x => x.num == n) = some (f k) := by
  refine (find_updWhere _ _ (fun x hx => ?_) _).trans (by rw [h]; rfl)
  rwa [hf]
theorem Dev.source_updSource (h : d.rng.sources.find? (fun x => x.num == n) = some k) (hf : ∀ x : Source, (f x).num = x.num) :
    (d.updSource n f).source n = f k := Dev.source_of_find (Dev.find_updSource f h hf)
end

/-- The DRBG of a number is found in the list of DRBGs alone. -/
theorem Dev.drbg_congr {d e : Dev} (h : e.rng.drbgs = d.rng.drbgs) (n : Nat) : e.drbg n = d.drbg n := by rw [Dev.drbg, h]; rfl
theorem Dev.drbg_of_find {d : Dev} {n : Nat} {g : Drbg} (h : d.rng.drbgs.find? (fun x => x.num == n) = some g) : d.drbg n = g := by
  rw [Dev.drbg, h]
  rfl

/-! ### NO_RANDOMNESS is entered (R378, R381) -/

/-- DRBGs that stop serve nothing (R377). -/
theorem Rng.stopAll_idle (r : Rng) : r.stopAll.drbgs.all (fun g => !g.serves) = true := by
  simp only [Rng.stopAll, List.all_map, List.all_eq_true, Function.comp_apply]
  intro g _
  cases hg : g.state <;> simp [Drbg.serves, hg]

section
variable (d : Dev) (c : Ctx)

theorem Dev.stage5Done_noise : d.stage5Done.noise = d.noise := by
  unfold Dev.stage5Done
  split
  · exact Dev.evtBit_noise _ _ (by decide)
  · rfl
/-- The end of a RESTART is told of in RNG_CMD_STAT and by its own event. -/
theorem Dev.restartEnd_lost {cause : Nat} (res : Nat) (h : d.rng.Lost cause) : (d.restartEnd res).rng.Lost cause := by
  unfold Dev.restartEnd
  split
  · rw [Dev.evtBit_rng]
    exact { h with }
  · exact h
theorem Dev.restartEnd_evt (res : Nat) {i : Nat} (h : bit (d.reg Off.rngEvt) i = true) : bit ((d.restartEnd res).reg Off.rngEvt) i = true := by
  unfold Dev.restartEnd
  split
  · rw [Dev.evtBit_reg]
    exact bit_or_left _ h
  · exact h

theorem Dev.enterNoRandomness_lost (cause src : Nat) :
    (d.enterNoRandomness c cause src).rng.Lost cause ∧ bit ((d.enterNoRandomness c cause src).reg Off.rngEvt) 2 = true := by
  unfold Dev.enterNoRandomness
  extract_lets d1 d2
  have h1 : d1.rng.Lost cause := ⟨rfl, rfl, rfl, Rng.stopAll_idle d.rng⟩
  have h2 : d2.rng.Lost cause := by
    unfold d2
    rw [Dev.evtBit_rng]
    refine Dev.alarm_lost c ?_ _
    rw [Dev.evidence_rng]
    exact h1
  have hnoise : (((d2.restartEnd 2).stage5Done).stepC c (fun _ => true)).noise = (d2.restartEnd 2).noise := (Dev.stepC_noise ..).trans (Dev.stage5Done_noise _)
  rw [Dev.rng_of_noise hnoise, Dev.rngEvt_of_noise hnoise]
  exact ⟨d2.restartEnd_lost 2 h2, d2.restartEnd_evt 2 (Dev.evtBit_bit _ _ (by decide))⟩
end

/-- What the obligation says of a command that enters NO_RANDOMNESS. -/
theorem enterNoRandomness_ends {s : State} {o : Host.Outcome State Fault Refusal} {d : Dev} {cause src : Nat}
    (h : o = .next { s with dev := d.enterNoRandomness s.ctx cause src }) :
    ∃ u, o = .next u ∧ DevOnly s u ∧ u.dev.rng.state = .noRandomness ∧ u.dev.rng.cause = cause ∧ u.dev.rng.testsOk = false
      ∧ u.dev.rng.drbgs.all (fun g => !g.serves) = true ∧ bit (u.dev.reg Off.rngEvt) 2 = true := by
  obtain ⟨⟨hstate, hcause, htests, hdrbgs⟩, hevt⟩ := Dev.enterNoRandomness_lost d s.ctx cause src
  exact ⟨_, h, .of_dev .., hstate, hcause, htests, hdrbgs, hevt⟩

/-! ### STARTUP (R369, R375, R376) -/

section
variable (c : Ctx) {d : Dev}

theorem startupTestsOp_passes {samples : List (List Bool)} (hs : d.rng.state = .startup) (ho : d.rng.settled = true)
    (hall : ∀ x ∈ d.rng.sources, x.starting = true → (samples.getD x.num []).length = 4096 ∧ x.clean (samples.getD x.num []) = true) :
    startupTestsOp samples c d = d.onRng (fun r => { r with
      testsOk := true
      sources := r.sources.map (fun (x : Source) => if x.starting then { x.feed (samples.getD x.num []) with state := .ok } else x) }) := by
  have hpass : d.rng.sources.all (fun x => !x.starting || x.passes (samples.getD x.num [])) = true := by
    rw [List.all_eq_true]
    intro x hx
    cases hst : x.starting with
    | false => rfl
    | true =>
      obtain ⟨hlen, hclean⟩ := hall x hx hst
      simp only [Source.passes, hlen, hclean, beq_self_eq_true, Bool.and_self, Bool.not_true, Bool.or_true]
  unfold startupTestsOp
  dsimp only
  rw [if_pos (by rw [hs, ho, hpass]; rfl)]
  simp only [Dev.onRng, hs, beq_self_eq_true, Bool.or_true]

theorem startupTimeoutOp_late (hs : d.rng.state = .startup) (ht : d.rng.startSt + 200000000 ≤ c.now) :
    startupTimeoutOp c d = d.enterNoRandomness c 1 0xFF := if_pos (by simp [hs]; exact ht)
theorem katFailureOp_on (hs : d.rng.state = .running ∨ d.rng.state = .startup) : katFailureOp c d = d.enterNoRandomness c 3 0xFF := by
  unfold katFailureOp
  rcases hs with hs | hs <;> rw [hs]
end

/-! ### Conditioned blocks (R367, R368, R373, R374) -/

section
variable (c : Ctx) {d : Dev} {n : Nat} {k : Source}

/-- The samples of a source are no part of what the next block goes by. -/
theorem Dev.blockFor_updSource (f : Source → Source) : (d.updSource n f).blockFor = d.blockFor := rfl

section
variable {samples : List Bool} (hk : d.rng.sources.find? (fun x => x.num == n) = some k) (hok : k.state = .ok) (hlen : samples.length = 1024)
  (hclean : k.clean samples = true) (ht : d.rng.testsOk = true) (hr : d.rng.state = .running)
include hk hok hlen hclean ht hr

/-- In RUNNING a block of an OK source goes to the DRBG whose turn it is, else into the pool. -/
theorem blockConditionedOp_drbg {m : Nat} (hb : d.blockFor = some m) :
    blockConditionedOp n samples c d = (d.updSource n (Source.feed samples)).giveBlock c m (conditioned samples) := by
  unfold blockConditionedOp
  dsimp only
  rw [Dev.source_of_find hk, if_pos (by simp [hok, hlen, hclean]), if_pos (by simp [ht, hr]), Dev.blockFor_updSource, hb]
theorem blockConditionedOp_pool (hb : d.blockFor = none) :
    blockConditionedOp n samples c d = (d.updSource n (Source.feed samples)).onRng (Rng.poolBlock (conditioned samples)) := by
  unfold blockConditionedOp
  dsimp only
  rw [Dev.source_of_find hk, if_pos (by simp [hok, hlen, hclean]), if_pos (by simp [ht, hr]), Dev.blockFor_updSource, hb]
end

/-- A full pool gives up its oldest block. -/
theorem Rng.poolBlock_pool {r : Rng} (b : Bytes) (h : r.pool.length ≤ 16) :
    (r.poolBlock b).pool = (if r.pool.length = 16 then r.pool.drop 1 else r.pool) ++ [b] := by
  show (r.pool ++ [b]).drop (r.pool.length - 15) = _
  split
  · next hfull => rw [hfull, List.drop_append_of_le_length (by omega)]
  · rw [Nat.sub_eq_zero_of_le (by omega), List.drop_zero]

/-- What a DRBG makes of a block: it is instantiated, or reseeded. -/
def Drbg.takeBlock (now : Nat) (b : Bytes) (g : Drbg) : Drbg := if g.state = .uninst then g.instantiate now b else g.reseed now b

/-- A grove's DRBG takes a block in RUNNING: nothing else of the entropy block moves. -/
theorem Dev.giveBlock_running {m : Nat} {g : Drbg} (b : Bytes) (hm : m < 12) (hr : d.rng.state = .running) (hg : d.rng.drbgs.find? (fun x => x.num == m) = some g) :
    (d.giveBlock c m b).drbg m = g.takeBlock c.now b ∧ (d.giveBlock c m b).rng.sources = d.rng.sources ∧ (d.giveBlock c m b).rng.pool = d.rng.pool := by
  have hrng : (d.giveBlock c m b).rng = (d.updDrbg m (if g.state = .uninst then Drbg.instantiate c.now b else Drbg.reseed c.now b)).rng := by
    unfold Dev.giveBlock
    extract_lets g' d1 d2 d3
    have h2 : d2.rng = d1.rng := by
      unfold d2
      split <;> rfl
    have h3 : d3 = d2 := if_neg (by omega)
    have hrun : d3.rng.state = .running := by
      rw [h3, h2]
      exact hr
    rw [hrun]
    show d3.rng = _
    rw [h3, h2]
    unfold d1 g'
    rw [Dev.drbg_of_find hg]
  refine ⟨?_, by rw [hrng]; rfl, by rw [hrng]; rfl⟩
  rw [Dev.drbg_congr (congrArg Rng.drbgs hrng)]
  unfold Drbg.takeBlock
  split <;> exact Dev.drbg_updDrbg _ _ hg (fun x hx => hx)

/-- A DRBG that took a block serves, its requests and its age counted anew. -/
theorem Drbg.takeBlock_fresh (now : Nat) (b : Bytes) (g : Drbg) :
    (g.takeBlock now b).state = .serving ∧ (g.takeBlock now b).reqs = 0 ∧ (g.takeBlock now b).seedSt = now := by
  unfold Drbg.takeBlock
  split <;> exact ⟨rfl, rfl, rfl⟩
end

/-! ### Health failures and reruns (R375, R377) -/

/-- The source has taken the samples that fail it; the failure is counted, reported and stamped. -/
def Dev.failureStamped (c : Ctx) (n : Nat) (h : HealthKind) (samples : List Bool) (d : Dev) : Dev :=
  ((d.updSource n (Source.feed samples)).noteHealth c n h).onRng (fun r => { r with failSt := d.stamp c, lastFail := some c.now })
/-- The rerun that follows: every DRBG stops, the pool is empty, and the source's tests begin anew. -/
def Dev.rerunBegins (n : Nat) (startup : Bool) (d : Dev) : Dev :=
  (d.updSource n (fun x => { x.anew with state := .retest })).onRng (fun r =>
    { r.stopAll with state := .retest, retestSrc := n, retestFromStartup := startup, testsOk := false })

section
variable {d : Dev} {n : Nat} (startup : Bool)

theorem Dev.rerunBegins_rng : (d.rerunBegins n startup).rng = { (d.updSource n (fun x => { x.anew with state := .retest })).rng.stopAll with
    state := .retest, retestSrc := n, retestFromStartup := startup, testsOk := false } := Dev.onRng_rng ..
theorem Dev.rerunBegins_reg (off : Nat) : (d.rerunBegins n startup).reg off = d.reg off := rfl
theorem Dev.rerunBegins_source {k : Source} (hk : d.rng.sources.find? (fun x => x.num == n) = some k) : (d.rerunBegins n startup).source n = { k.anew with state := .retest } := by
  refine (Dev.source_congr ?_ n).trans (Dev.source_updSource (fun x => { x.anew with state := .retest }) hk (fun _ => rfl))
  rw [Dev.rerunBegins_rng]
  rfl
end

section
variable (c : Ctx) {d : Dev} {n : Nat} {k : Source} {h : HealthKind} {samples : List Bool}

section
variable (hn : n < 24) (hk : d.rng.sources.find? (fun x => x.num == n) = some k) (hok : k.state = .ok) (hre : k.reattach = false) (hf : k.failsBy h samples = true)
include hn hk hok hre hf

theorem healthFailureOp_running (hr : d.rng.state = .running) (hl : d.rng.lastFail = none) :
    healthFailureOp n h samples c d = (d.failureStamped c n h samples).rerunBegins n false := by
  unfold healthFailureOp
  simp only [Dev.source_of_find hk, hok, hre, hf, hr, hl]
  rw [if_neg (by simp; omega)]
  rfl
theorem healthFailureOp_retest (hr : d.rng.state = .retest) :
    healthFailureOp n h samples c d = ((d.failureStamped c n h samples).updSource n (fun x => { x with state := .failed })).enterNoRandomness c 2 n := by
  unfold healthFailureOp
  simp only [Dev.source_of_find hk, hok, hre, hf, hr]
  rw [if_neg (by simp; omega)]
  rfl
end

theorem Dev.noteHealth_rng : (d.noteHealth c n h).rng = (d.updSource n (fun x => { x with lastFail := healthCode h, fails := x.fails + 1 })).rng :=
  (Dev.record_rng ..).trans (Dev.evtBit_rng ..)
theorem Dev.noteHealth_evt : bit ((d.noteHealth c n h).reg Off.rngEvt) 0 = true := by
  unfold Dev.noteHealth
  rw [Dev.record_reg_ne _ _ _ _ (by decide) (by decide)]
  exact Dev.evtBit_bit _ _ (by decide)

/-- The source after the failure: its samples taken, the failure counted. -/
theorem Dev.failureStamped_source (hk : d.rng.sources.find? (fun x => x.num == n) = some k) :
    (d.failureStamped c n h samples).rng.sources.find? (fun x => x.num == n) = some { k.feed samples with lastFail := healthCode h, fails := k.fails + 1 } := by
  have hfed := Dev.find_updSource (Source.feed samples) hk (Source.feed_num samples)
  have hnoted := Dev.find_updSource (fun x : Source => { x with lastFail := healthCode h, fails := x.fails + 1 }) hfed (fun _ => rfl)
  rw [Source.feed_fails] at hnoted
  unfold Dev.failureStamped
  rw [Dev.onRng_rng, Dev.noteHealth_rng]
  exact hnoted
theorem Dev.failureStamped_failSt : (d.failureStamped c n h samples).rng.failSt = d.stamp c := by
  unfold Dev.failureStamped
  rw [Dev.onRng_rng]
theorem Dev.failureStamped_evt : bit ((d.failureStamped c n h samples).reg Off.rngEvt) 0 = true := by
  unfold Dev.failureStamped
  rw [Dev.onRng_reg]
  exact Dev.noteHealth_evt c

theorem rerunPassOp_passes (hs : d.rng.state = .retest) (hsrc : d.rng.retestSrc = n) (hk : d.rng.sources.find? (fun x => x.num == n) = some k) (hst : k.state = .retest)
    (hlen : samples.length = 4096) (hclean : k.clean samples = true) :
    rerunPassOp n samples c d = ((d.updSource n (fun x => { x.feed samples with state := .ok })).onRng (fun r => { r with testsOk := true })).evtBit Off.rngEvt 1 :=
  if_pos ⟨hs, hsrc, by rw [Dev.source_of_find hk, hst], by rw [Dev.source_of_find hk]; simp [Source.passes, hlen, hclean]⟩
end

/-! ### The commands -/

section
variable (s : State)

theorem exec_oscSettled : exec .oscSettled s = .next { s with dev := oscSettledOp s.ctx s.dev } := rfl
theorem exec_startupTestsPass (samples : List (List Bool)) : exec (.startupTestsPass samples) s = .next { s with dev := startupTestsOp samples s.ctx s.dev } := rfl
theorem exec_startupTimeout : exec .startupTimeout s = .next { s with dev := startupTimeoutOp s.ctx s.dev } := rfl
theorem exec_katFailure : exec .katFailure s = .next { s with dev := katFailureOp s.ctx s.dev } := rfl
theorem exec_blockConditioned (n : Nat) (samples : List Bool) : exec (.blockConditioned n samples) s = .next { s with dev := blockConditionedOp n samples s.ctx s.dev } := rfl
theorem exec_healthFailure (n : Nat) (h : HealthKind) (samples : List Bool) :
    exec (.healthFailure n h samples) s = .next { s with dev := healthFailureOp n h samples s.ctx s.dev } := rfl
theorem exec_rerunPass (n : Nat) (samples : List Bool) : exec (.rerunPass n samples) s = .next { s with dev := rerunPassOp n samples s.ctx s.dev } := rfl
end

/-- Settles O30: STARTUP by its tests and its bound, blocks by whose turn it is, a failure by the state that it finds. Each way into NO_RANDOMNESS is
`Dev.enterNoRandomness`, whose alarm and whose completed items leave the block as it put it. How samples are packed is the model's choice (log entry 86). -/
theorem entropyStates : Obligations.EntropyStates := by
  unfold Obligations.EntropyStates
  dsimp only
  refine fun s => ⟨fun hs => ?_, fun samples hs ho hall => ?_, fun n k samples hk hok hlen hclean ht hr => ⟨fun hb hpool => ?_, fun m g hm hb hg => ?_⟩,
    fun n k h samples hn hk hok hre hf => ⟨fun hr hl => ?_, fun hr => ?_⟩, fun n k samples hs hsrc hk hst hlen hclean => ?_, fun hs => ?_, fun hs ht => ?_⟩
  · rw [exec_oscSettled, oscSettledOp, if_pos hs]
    rfl
  · refine ⟨_, exec_startupTestsPass s samples, .of_dev .., ?_⟩
    dsimp only
    rw [startupTestsOp_passes s.ctx hs ho hall]
    exact ⟨rfl, hs, rfl⟩
  · refine ⟨_, exec_blockConditioned s n samples, .of_dev .., ?_⟩
    dsimp only
    rw [blockConditionedOp_pool s.ctx hk hok hlen hclean ht hr hb]
    exact ⟨Dev.source_updSource _ hk (Source.feed_num samples), Rng.poolBlock_pool _ hpool, rfl, rfl⟩
  · obtain ⟨hdrbg, hsources, hpool⟩ := Dev.giveBlock_running s.ctx (d := s.dev.updSource n (Source.feed samples)) (conditioned samples) hm hr hg
    obtain ⟨hserving, hreqs, hseed⟩ := g.takeBlock_fresh s.ctx.now (conditioned samples)
    refine ⟨_, exec_blockConditioned s n samples, .of_dev .., ?_⟩
    dsimp only
    rw [blockConditionedOp_drbg s.ctx hk hok hlen hclean ht hr hb, hdrbg]
    exact ⟨(Dev.source_congr hsources n).trans (Dev.source_updSource _ hk (Source.feed_num samples)), rfl, hserving, hreqs, hseed, hpool⟩
  · have hfailed := Dev.failureStamped_source s.ctx (h := h) (samples := samples) hk
    refine ⟨_, exec_healthFailure s n h samples, .of_dev .., ?_⟩
    dsimp only
    rw [healthFailureOp_running s.ctx hn hk hok hre hf hr hl, Dev.rerunBegins_source false hfailed, Dev.rerunBegins_rng, Dev.rerunBegins_reg]
    exact ⟨rfl, rfl, rfl, rfl, rfl, rfl, rfl, Rng.stopAll_idle _, Dev.failureStamped_failSt s.ctx (d := s.dev) (n := n) (h := h) (samples := samples), Dev.failureStamped_evt s.ctx⟩
  · exact enterNoRandomness_ends ((exec_healthFailure s n h samples).trans (by rw [healthFailureOp_retest s.ctx hn hk hok hre hf hr]))
  · refine ⟨_, exec_rerunPass s n samples, .of_dev .., ?_⟩
    dsimp only
    rw [rerunPassOp_passes s.ctx hs hsrc hk hst hlen hclean]
    refine ⟨?_, ?_, ?_, Dev.evtBit_bit _ _ (by decide)⟩
    · rw [Dev.source_congr (congrArg Rng.sources (Dev.evtBit_rng ..))]
      exact Dev.source_updSource _ hk (fun x => Source.feed_num samples x)
    · rw [Dev.evtBit_rng]
      rfl
    · rw [Dev.evtBit_rng]
      exact hs
  · exact enterNoRandomness_ends ((exec_katFailure s).trans (by rw [katFailureOp_on s.ctx hs]))
  · exact enterNoRandomness_ends ((exec_startupTimeout s).trans (by rw [startupTimeoutOp_late s.ctx hs ht]))

end Sys2Proof.Machine

/-! Reseeds by age, RESTART, raw noise and the reseed limits (R365, R371, R372, R375, R376, R383, R385, R386). -/

namespace Sys2Proof.Machine

/-! ### Reseeds by age (R372, R373) -/

/-- An empty pool gives nothing. -/
theorem Dev.drainPool_empty (c : Ctx) {d : Dev} (h : d.rng.pool = []) : ∀ n, d.drainPool c n = d
  | 0 => rfl
  | n + 1 => by
    unfold Dev.drainPool
    rw [h]

section
variable {c : Ctx} {d : Dev} {n : Nat} {g : Drbg}

theorem Dev.delayFire_rng (due : Nat) : (d.delayFire c due).rng = d.rng := rfl
/-- The entry has fired: the DRBG's age is due. -/
theorem Dev.drbg_ageDue (due : Nat) (hg : d.rng.drbgs.find? (fun x => x.num == n) = some g) :
    ((d.delayFire c due).updDrbg n (fun x => { x with ageDue := true })).drbg n = { g with ageDue := true } :=
  Dev.drbg_updDrbg _ _ (by rw [Dev.delayFire_rng]; exact hg) (fun _ hx => hx)

theorem drbgReseedTimerOp_fires (hn : n < 13) (hg : d.rng.drbgs.find? (fun x => x.num == n) = some g) (hs : g.serves = true)
    (ha : g.ageDue = false) (hp : d.rng.pool = []) (hf : d.mayFire c .reseed n = true) :
    drbgReseedTimerOp n c d = (d.delayFire c (g.seedSt + fld (d.reg Off.rngReseedCtrl) 31 16 * nsMs)).updDrbg n (fun x => { x with ageDue := true }) := by
  have hempty : ∀ due f, ((d.delayFire c due).updDrbg n f).rng.pool = [] := fun _ _ => hp
  unfold drbgReseedTimerOp
  dsimp only
  rw [Dev.drbg_of_find hg, if_pos (by simp [hn, hs, ha, hf]), Dev.drainPool_empty c (hempty _ _)]
end

/-! ### RESTART (R375, R385) -/

section
variable (c : Ctx) {d : Dev}

theorem rngCtrlW_refused (hb : d.rng.cmdBusy = false) (hs : d.rng.state ≠ .noRandomness) :
    rngCtrlW c 1#32 d = .took ((d.onRng (fun r => { r with cmdResult := 1 })).evtBit Off.rngEvt 5) := by
  unfold rngCtrlW
  rw [if_neg (by decide), if_neg (by simp [hb]), if_pos hs]
theorem rngCtrlW_restarts (hb : d.rng.cmdBusy = false) (hs : d.rng.state = .noRandomness) :
    rngCtrlW c 1#32 d = .took ((d.rngErase.rngBegin c).onRng (fun r => { r with cmdBusy := true })) := by
  unfold rngCtrlW
  rw [if_neg (by decide), if_neg (by simp [hb]), if_neg (not_not_intro hs)]
end

/-! ### RNG_RAW_CTRL (R383, R386) -/

/-- A mask with none of the bits of a field leaves the field. -/
theorem fld_or_of_clear {hi lo : Nat} (v m : Word) (h : fld m hi lo = 0) : fld (v ||| m) hi lo = fld v hi lo := by
  unfold fld at *
  rw [BitVec.toNat_or, Nat.shiftRight_or_distrib, Nat.or_mod_two_pow, h, Nat.or_zero]

/-- The words that the two commands write: the source as given, EN set or clear. -/
theorem rawEnableWord_src (v : Word) : fld (v ||| 0x100#32) 4 0 = fld v 4 0 := fld_or_of_clear v _ (by decide)
theorem rawEnableWord_en (v : Word) : bit (v ||| 0x100#32) 8 = true := by simp [bit]
theorem rawDisableWord_src (v : Word) : fld (v &&& 0xFFFFFEFF#32) 4 0 = fld v 4 0 := fld_and_of_full v _ (by decide)
theorem rawDisableWord_en (v : Word) : bit (v &&& 0xFFFFFEFF#32) 8 = false := by simp [bit]

/-- A source that was raw, back at its start-up test: its health tests begin anew (log entry 86). -/
def Source.rawLeft (k : Source) : Source := if k.state == .raw then { k.anew with state := .startup, reattach := true } else k
/-- A source that is on, detached. -/
def Source.detached (k : Source) : Source := if k.state == .off then k else { k with state := .raw, reattach := false }

theorem Source.rawLeft_num (k : Source) : k.rawLeft.num = k.num := by
  unfold Source.rawLeft
  split <;> rfl
theorem Source.detached_num (k : Source) : k.detached.num = k.num := by
  unfold Source.detached
  split <;> rfl

/-- Raw mode off, with a word in RNG_RAW_CTRL. -/
def Dev.rawOff (w : Word) (d : Dev) : Dev := ((d.updSource (fld (d.reg Off.rngRawCtrl) 4 0) Source.rawLeft).setReg Off.rngRawCtrl w).onRng (fun r => { r with rawOn := false })
/-- Raw mode on for a source, the buffer empty. -/
def Dev.rawBegin (n : Nat) (w : Word) (d : Dev) : Dev :=
  ((d.setReg Off.rngRawCtrl w).onRng (fun r => { r with rawOn := true, raw := [], rawOverflow := false })).updSource n Source.detached

section
variable (c : Ctx) {d : Dev} {v : Word}

theorem rawCtrlW_barred (h : c.otp.testsAllowed = false) : rawCtrlW c v d = .viol := if_pos (by simp [Otp.rawAllowed, h])
theorem rawCtrlW_enable (h : c.otp.testsAllowed = true) (hn : fld v 4 0 ≤ 23) (hv : bit v 8 = true) (ho : bit (d.reg Off.rngRawCtrl) 8 = false) :
    rawCtrlW c v d = .took (d.rawBegin (fld v 4 0) (v &&& 0x11F#32)) := by
  have hleave : d.rawLeave = d := if_neg (by rw [ho]; decide)
  unfold rawCtrlW
  dsimp only
  rw [if_neg (by simp [Otp.rawAllowed, h]), if_neg (by omega), if_neg (by simp [hv]), if_neg (by simp [ho]), hleave]
  rfl
theorem rawCtrlW_disable (h : c.otp.testsAllowed = true) (hn : fld v 4 0 ≤ 23) (hv : bit v 8 = false) (ho : bit (d.reg Off.rngRawCtrl) 8 = true) :
    rawCtrlW c v d = .took (d.rawOff (v &&& 0x11F#32)) := by
  have hleave : d.rawLeave = d.updSource (fld (d.reg Off.rngRawCtrl) 4 0) Source.rawLeft := if_pos ho
  unfold rawCtrlW
  dsimp only
  rw [if_neg (by simp [Otp.rawAllowed, h]), if_neg (by omega), if_pos (by simp [hv]), hleave]
  rfl
end

/-- A source whose 4,096 samples pass is attached again (R376, R383). -/
theorem rawReattachOp_passes (c : Ctx) {d : Dev} {n : Nat} {k : Source} {samples : List Bool} (hk : d.rng.sources.find? (fun x => x.num == n) = some k)
    (hr : k.reattach = true) (hlen : samples.length = 4096) (hclean : k.clean samples = true) :
    rawReattachOp n samples c d = d.updSource n (fun x => { x.feed samples with state := .ok, reattach := false }) :=
  if_pos (by rw [Dev.source_of_find hk]; simp [hr, Source.passes, hlen, hclean])

/-! ### RNG_RAW_DATA (R365, R383) -/

/-- One sample of a detached source through its tests. -/
def Dev.rawSample (c : Ctx) (n : Nat) (d : Dev) (b : Bool) : Dev :=
  let d1 := d.updSource n (fun x => x.sample b)
  (d1.source n).fault.elim d1 (fun h => d1.noteHealth c n h)

section
variable (c : Ctx) {n : Nat}

/-- Samples that fail no test go through the source and touch nothing else of what is read. -/
theorem Dev.rawSample_fold : ∀ (samples : List Bool) {d : Dev} {k : Source}, d.rng.sources.find? (fun x => x.num == n) = some k → k.clean samples = true →
    (samples.foldl (Dev.rawSample c n) d).rng.sources.find? (fun x => x.num == n) = some (k.feed samples)
      ∧ (samples.foldl (Dev.rawSample c n) d).rng.raw = d.rng.raw ∧ (samples.foldl (Dev.rawSample c n) d).regs = d.regs
  | [], _, _, hk, _ => ⟨hk, rfl, rfl⟩
  | b :: t, d, k, hk, hclean => by
    obtain ⟨hfault, hrest⟩ : (k.sample b).fault.isNone = true ∧ (k.sample b).clean t = true := by simpa [Source.clean] using hclean
    have hk1 : (d.updSource n (fun x => x.sample b)).rng.sources.find? (fun x => x.num == n) = some (k.sample b) := Dev.find_updSource _ hk (fun _ => rfl)
    have hone : d.rawSample c n b = d.updSource n (fun x => x.sample b) := by
      unfold Dev.rawSample
      dsimp only
      rw [Dev.source_of_find hk1, Option.isNone_iff_eq_none.mp hfault]
      rfl
    rw [List.foldl_cons, hone]
    exact Dev.rawSample_fold t hk1 hrest

variable {d : Dev} {samples : List Bool}

theorem Dev.rawTake_barred (h : c.otp.testsAllowed = false) : d.rawTake samples c = (0, d) := if_pos (by simp [Otp.rawAllowed, h])
/-- What a read returns and takes, once the source's samples are in the buffer. -/
theorem Dev.rawTake_allowed (h : c.otp.testsAllowed = true) : d.rawTake samples c
    = (BitVec.ofNat 64 (((d.rawFill c samples).rng.raw.take 32).foldr (fun b a => b2n b + 2 * a) 0), (d.rawFill c samples).onRng (fun r => { r with raw := r.raw.drop 32 })) :=
  if_neg (by simp [Otp.rawAllowed, h])
theorem Dev.rawFill_off (h : d.rng.rawOn = false) : d.rawFill c samples = d := if_pos (by simp [h])
theorem Dev.rawFill_clean {k : Source} (h : d.rng.rawOn = true) (hk : d.rng.sources.find? (fun x => x.num == fld (d.reg Off.rngRawCtrl) 4 0) = some k)
    (hclean : k.clean samples = true) (hroom : d.rng.raw.length + samples.length ≤ 4096) :
    (d.rawFill c samples).source k.num = k.feed samples ∧ (d.rawFill c samples).rng.raw = d.rng.raw ++ samples ∧ (d.rawFill c samples).regs = d.regs := by
  obtain ⟨hfind, hraw, hregs⟩ := Dev.rawSample_fold c samples hk hclean
  have hfill : d.rawFill c samples = (samples.foldl (Dev.rawSample c (fld (d.reg Off.rngRawCtrl) 4 0)) d).onRng (Rng.rawPut samples) := if_neg (by simp [h])
  rw [hfill, Dev.source_num_of_find hk]
  refine ⟨Dev.source_of_find hfind, ?_, hregs⟩
  rw [Dev.onRng_rng]
  show (_ ++ samples).take 4096 = _
  rw [hraw, List.take_of_length_le (by rw [List.length_append]; exact hroom)]
end

/-! ### RNG_RESEED_CTRL (R371, R372, R386) -/

/-- A DRBG that serves has reached a limit of requests. -/
def Drbg.past (limit : Nat) (g : Drbg) : Bool := g.serves && decide (limit ≤ g.reqs)
/-- The limits stored, and every DRBG past the new one STARVED. -/
def Dev.reseedLimits (v : Word) (d : Dev) : Dev :=
  (d.setReg Off.rngReseedCtrl (v &&& 0xFFFF001F#32)).onRng (fun r => { r with drbgs := updWhere (Drbg.past (2 ^ fld v 4 0)) (fun g => { g with state := .starved }) r.drbgs })

section
variable {d : Dev} {v : Word}

theorem reseedCtrlW_valid (h1 : 16 ≤ fld v 4 0) (h2 : fld v 4 0 ≤ 20) (h3 : 1 ≤ fld v 31 16) (h4 : fld v 31 16 ≤ 60000) :
    reseedCtrlW v d = .took (if d.rng.drbgs.any (Drbg.past (2 ^ fld v 4 0)) then (d.reseedLimits v).evtBit Off.rngEvt 4 else d.reseedLimits v) :=
  if_neg (by omega)
theorem reseedCtrlW_invalid (h : fld v 4 0 < 16 ∨ 20 < fld v 4 0 ∨ fld v 31 16 < 1 ∨ 60000 < fld v 31 16) : reseedCtrlW v d = .drop := if_pos h

/-- The limits and the DRBGs after the write, and STARVED where one is past the limit. -/
theorem reseedCtrlW_spec {e : Dev} (he : e = if d.rng.drbgs.any (Drbg.past (2 ^ fld v 4 0)) then (d.reseedLimits v).evtBit Off.rngEvt 4 else d.reseedLimits v) :
    e.reg Off.rngReseedCtrl = v &&& 0xFFFF001F#32
      ∧ ((∃ g ∈ d.rng.drbgs, g.serves = true ∧ 2 ^ fld v 4 0 ≤ g.reqs) → bit (e.reg Off.rngEvt) 4 = true)
      ∧ e.rng.drbgs = d.rng.drbgs.map (fun (g : Drbg) => if g.serves && decide (2 ^ fld v 4 0 ≤ g.reqs) then { g with state := .starved } else g) := by
  have hreg : (d.reseedLimits v).reg Off.rngReseedCtrl = v &&& 0xFFFF001F#32 := (Dev.onRng_reg ..).trans (Dev.reg_setReg ..)
  subst he
  split
  · exact ⟨(Dev.evtBit_reg_ne _ _ (by decide)).trans hreg, fun _ => Dev.evtBit_bit _ _ (by decide), by rw [Dev.evtBit_rng]; rfl⟩
  · next hno =>
    refine ⟨hreg, fun ⟨g, hg, hs, hl⟩ => absurd (List.any_eq_true.mpr ⟨g, hg, ?_⟩) hno, rfl⟩
    rw [Drbg.past, hs, decide_eq_true hl]
    rfl
end

/-! ### The commands -/

section
variable (s : State)

theorem exec_drbgReseedTimer (n : Nat) : exec (.drbgReseedTimer n) s = .next { s with dev := drbgReseedTimerOp n s.ctx s.dev } := rfl
theorem exec_rngRestart : exec .rngRestart s = .next { s with dev := s.dev.hostWrite s.ctx Off.rngCtrl (rngCtrlW s.ctx 1#32) } := rfl
theorem exec_rawModeEnable (v : Word) : exec (.rawModeEnable v) s = .next { s with dev := s.dev.hostWrite s.ctx Off.rngRawCtrl (rawCtrlW s.ctx (v ||| 0x100#32)) } := rfl
theorem exec_rawModeDisable (v : Word) : exec (.rawModeDisable v) s = .next { s with dev := s.dev.hostWrite s.ctx Off.rngRawCtrl (rawCtrlW s.ctx (v &&& 0xFFFFFEFF#32)) } := rfl
theorem exec_rawSourceReattach (n : Nat) (samples : List Bool) : exec (.rawSourceReattach n samples) s = .next { s with dev := rawReattachOp n samples s.ctx s.dev } := rfl
theorem exec_rawDataRead (samples : List Bool) : exec (.rawDataRead samples) s = .next { s with dev := s.dev.hostRead s.ctx Off.rngRawData (Dev.rawTake samples s.ctx) } := rfl
theorem exec_reseedCtrlWrite (v : Word) : exec (.reseedCtrlWrite v) s = .next { s with dev := s.dev.hostWrite s.ctx Off.rngReseedCtrl (reseedCtrlW v) } := rfl
end

section
variable {s : State} {v : Word} {samples : List Bool}

/-- A write of RNG_RAW_CTRL where no tests are allowed is a violation (R383). -/
theorem exec_rawMode_barred (hm : HostMay s true Off.rngRawCtrl) (h : s.otp.testsAllowed = false) :
    exec (.rawModeEnable v) s = .next { s with dev := s.dev.ruleViolation s.ctx Off.rngRawCtrl }
      ∧ exec (.rawModeDisable v) s = .next { s with dev := s.dev.ruleViolation s.ctx Off.rngRawCtrl } := by
  rw [exec_rawModeEnable, exec_rawModeDisable, hostWrite_own_viol hm (by decide) (rawCtrlW_barred s.ctx h), hostWrite_own_viol hm (by decide) (rawCtrlW_barred s.ctx h)]
  exact ⟨rfl, rfl⟩
theorem exec_rawModeEnable_begins (hm : HostMay s true Off.rngRawCtrl) (h : s.otp.testsAllowed = true) (hn : fld v 4 0 ≤ 23) (ho : bit (s.dev.reg Off.rngRawCtrl) 8 = false) :
    exec (.rawModeEnable v) s = .next { s with dev := s.dev.rawBegin (fld v 4 0) ((v ||| 0x100#32) &&& 0x11F#32) } := by
  have hw := rawCtrlW_enable s.ctx (d := s.dev) h ((rawEnableWord_src v).symm ▸ hn) (rawEnableWord_en v) ho
  rw [rawEnableWord_src] at hw
  exact next_hostWrite hm (by decide) hw
theorem exec_rawModeDisable_ends (hm : HostMay s true Off.rngRawCtrl) (h : s.otp.testsAllowed = true) (hn : fld v 4 0 ≤ 23) (ho : bit (s.dev.reg Off.rngRawCtrl) 8 = true) :
    exec (.rawModeDisable v) s = .next { s with dev := s.dev.rawOff ((v &&& 0xFFFFFEFF#32) &&& 0x11F#32) } :=
  (exec_rawModeDisable s v).trans (next_hostWrite hm (by decide) (rawCtrlW_disable s.ctx h ((rawDisableWord_src v).symm ▸ hn) (rawDisableWord_en v) ho))

theorem exec_rawDataRead_allowed (hm : HostMay s false Off.rngRawData) (h : s.otp.testsAllowed = true) :
    exec (.rawDataRead samples) s = .next { s with dev := { (s.dev.rawFill s.ctx samples).onRng (fun r => { r with raw := r.raw.drop 32 }) with
      rdata := BitVec.ofNat 64 (((s.dev.rawFill s.ctx samples).rng.raw.take 32).foldr (fun b a => b2n b + 2 * a) 0) } } := by
  rw [exec_rawDataRead, hostRead_ret hm, Dev.rawTake_allowed s.ctx h]
end

/-- Settles O31, command by command: the timer's entry of the delay list, RESTART by the state that it finds, raw mode and its reads by the life-cycle
state, a write of RNG_RESEED_CTRL by its ranges. That a source leaving raw mode begins its tests anew is the model's choice (log entry 86). -/
theorem entropyCommands : Obligations.EntropyCommands := by
  unfold Obligations.EntropyCommands
  refine fun s => ⟨fun n g hn hg hs ha hp hdue hroom => ?_, fun hm hb => ⟨fun hs => ?_, fun hs => ?_⟩,
    fun v hm => ⟨exec_rawMode_barred hm, fun k ha hn ho hk hoff => ?_, fun k ha hn ho hk hraw => ?_⟩, fun n k samples hk hr hlen hclean => ?_,
    fun hm => ⟨fun samples ha => ?_, fun samples ha hoff => ?_, fun samples k ha hon hk hclean hroom => ?_⟩, fun v hm => ⟨fun h1 h2 h3 h4 => ?_, fun h => ?_⟩⟩
  · refine ⟨_, exec_drbgReseedTimer s n, .of_dev .., ?_⟩
    dsimp only
    rw [drbgReseedTimerOp_fires hn hg hs ha hp ((Dev.mayFire_iff ..).mpr ⟨hdue, hroom⟩)]
    exact ⟨Dev.drbg_ageDue _ hg, (Dev.updDrbg_regs ..).trans (Dev.delayFire_regs ..)⟩
  · refine ⟨_, (exec_rngRestart s).trans (next_hostWrite hm (by decide) (rngCtrlW_refused s.ctx hb hs)), .of_dev .., ?_, Dev.evtBit_bit _ _ (by decide)⟩
    rw [Dev.evtBit_rng]
    rfl
  · exact ⟨_, (exec_rngRestart s).trans (next_hostWrite hm (by decide) (rngCtrlW_restarts s.ctx hb hs)), .of_dev .., rfl, rfl, rfl, rfl⟩
  · refine ⟨_, exec_rawModeEnable_begins hm ha hn ho, .of_dev .., rfl, rfl, ?_, Dev.reg_setReg ..⟩
    refine (Dev.source_updSource Source.detached hk Source.detached_num).trans ?_
    exact if_neg (by simp [hoff])
  · refine ⟨_, exec_rawModeDisable_ends hm ha hn ho, .of_dev .., rfl, ?_⟩
    refine (Dev.source_updSource Source.rawLeft hk Source.rawLeft_num).trans ?_
    exact if_pos (by simp [hraw])
  · refine ⟨_, exec_rawSourceReattach s n samples, .of_dev .., ?_⟩
    dsimp only
    rw [rawReattachOp_passes s.ctx hk hr hlen hclean]
    exact ⟨Dev.source_updSource _ hk (fun x => Source.feed_num samples x), rfl⟩
  · rw [exec_rawDataRead, hostRead_ret hm, Dev.rawTake_barred s.ctx ha]
  · have hfill : s.dev.rawFill s.ctx samples = s.dev := Dev.rawFill_off s.ctx hoff
    refine ⟨_, exec_rawDataRead_allowed hm ha, .of_dev .., ?_⟩
    rw [hfill]
    exact ⟨rfl, rfl, rfl⟩
  · obtain ⟨hsource, hraw, hregs⟩ := Dev.rawFill_clean s.ctx hon hk hclean hroom
    refine ⟨_, exec_rawDataRead_allowed hm ha, .of_dev .., ?_, congrArg (List.drop 32) hraw, hsource, hregs⟩
    dsimp only
    rw [hraw]
  · exact ⟨_, (exec_reseedCtrlWrite s v).trans (next_hostWrite hm (by decide) (reseedCtrlW_valid h1 h2 h3 h4)), .of_dev .., reseedCtrlW_spec rfl⟩
  · rw [exec_reseedCtrlWrite, hostWrite_own_drop hm (by decide) (reseedCtrlW_invalid h)]

end Sys2Proof.Machine

/-! Migration of a slice: PREPARE, SAVE and RESTORE (R390, R396, R397, R399, R400, R402 to R404, R407). -/

namespace Sys2Proof.Machine

/-! ### Octets and register pairs (R8, R10) -/

theorem le_lt (b : Bytes) : ∀ n off : Nat, le b off n < 256 ^ n
  | 0, _ => by simp [le]
  | n + 1, off => by
    have hbyte := (b.getD off 0).isLt
    have hrest := le_lt b n (off + 1)
    rw [le, pow_succ]
    omega

section
variable (c : Ctx) (d : Dev)

theorem Dev.reg64_setReg64 (off : Nat) {v : Nat} (h : v < 2 ^ 64) : (d.setReg64 off v).reg64 off = v := by
  unfold Dev.reg64 Dev.setReg64
  rw [Dev.reg_setReg, Dev.reg_setReg_ne _ _ (by omega), Dev.reg_setReg, loW, hiW, BitVec.toNat_ofNat, BitVec.toNat_ofNat]
  omega

/-! ### What messages, slice events and key loads leave alone (R403, R407, R437) -/

/-- The slices, the rings and the table stand; of the registers only HIF_SLICE_EVT may differ; what was sent stays sent. -/
structure Dev.KeepsSlices (d e : Dev) : Prop where
  slices : e.slices = d.slices
  rings  : e.hif.rings = d.hif.rings
  ddt    : e.ddt = d.ddt
  reg    : ∀ o, o ≠ Off.hifSliceEvt → e.reg o = d.reg o
  sent   : ∀ t ∈ d.tx, t ∈ e.tx

theorem Dev.KeepsSlices.refl : d.KeepsSlices d := ⟨rfl, rfl, rfl, fun _ _ => rfl, fun _ h => h⟩
theorem Dev.KeepsSlices.trans {d e f : Dev} (h : d.KeepsSlices e) (g : e.KeepsSlices f) : d.KeepsSlices f :=
  ⟨g.slices.trans h.slices, g.rings.trans h.rings, g.ddt.trans h.ddt, fun o ho => (g.reg o ho).trans (h.reg o ho), fun t ht => g.sent t (h.sent t ht)⟩
theorem Dev.KeepsSlices.slice {d e : Dev} (h : d.KeepsSlices e) (n : Nat) : e.slice n = d.slice n := Dev.slice_congr h.slices n
theorem Dev.KeepsSlices.ring {d e : Dev} (h : d.KeepsSlices e) (n r : Nat) : e.ring n r = d.ring n r := Dev.ring_congr h.rings n r

theorem foldl_keepsSlices {α : Type} (f : Dev → α → Dev) (h : ∀ (a : Dev) (x : α), a.KeepsSlices (f a x)) : ∀ (l : List α) (d : Dev), d.KeepsSlices (l.foldl f d)
  | [], d => .refl d
  | x :: l, d => (h d x).trans (foldl_keepsSlices f h l (f d x))

theorem Dev.sendPeer_keepsSlices (n k m : Nat) (p : Bytes) : d.KeepsSlices (d.sendPeer n k m p) where
  slices := Dev.sendPeer_slices ..
  rings := congrArg Hif.rings (Dev.sendPeer_hif ..)
  ddt := Dev.sendPeer_ddt ..
  reg _ _ := Dev.sendPeer_reg ..
  sent _ h := Dev.sendPeer_sent _ _ _ _ h
theorem Dev.evtBit_keepsSlices (i : Nat) : d.KeepsSlices (d.evtBit Off.hifSliceEvt i) where
  slices := Dev.evtBit_slices ..
  rings := Dev.evtBit_rings ..
  ddt := Dev.evtBit_ddt ..
  reg _ h := Dev.evtBit_reg_ne _ _ h
  sent _ h := Dev.evtBit_sent _ _ _ h
theorem Dev.mirroring_keepsSlices {f : Dev → Dev} (h : d.KeepsSlices (f d)) : d.KeepsSlices (d.mirroring f) := by
  unfold Dev.mirroring
  split
  · exact h
  · exact .refl d
theorem Dev.awaitAck_keepsSlices (n : Nat) : d.KeepsSlices (d.awaitAck c (.slice n)) := by
  unfold Dev.awaitAck
  split
  · exact ⟨rfl, rfl, rfl, fun _ _ => rfl, fun _ h => h⟩
  · exact d.evtBit_keepsSlices 0
theorem Dev.prefetch_keepsSlices (h : Nat) : d.KeepsSlices (d.prefetch c h) := by
  unfold Dev.prefetch
  split
  · dsimp only
    split
    · exact .refl d
    · split
      · exact ⟨rfl, rfl, rfl, fun _ _ => rfl, fun _ h => h⟩
      · exact .refl d
  · exact .refl d
theorem Dev.sliceEnd_keepsSlices (n res : Nat) : (d.updSlice n (Slice.ended res)).KeepsSlices (d.sliceEnd c n res) := by
  rw [Dev.sliceEnd_eq]
  split
  · exact (Dev.mirroring_keepsSlices _ (Dev.sendPeer_keepsSlices ..)).trans (Dev.awaitAck_keepsSlices ..)
  · exact Dev.evtBit_keepsSlices ..
theorem Dev.sliceEnd_reg (n res : Nat) {o : Nat} (h : o ≠ Off.hifSliceEvt) : (d.sliceEnd c n res).reg o = d.reg o := (d.sliceEnd_keepsSlices c n res).reg o h
theorem Dev.sliceEnd_slice (n res : Nat) : (d.sliceEnd c n res).slice n = (d.slice n).ended res := (d.sliceEnd_keeps c n res).1

/-! ### What a write of HIF_SLICE_CMD does (R397, R402, R407) -/

section
variable {c d} (ext : Option SliceExt) (hc : (d.slice d.migSlice).cmd = none) (hw : d.changing (fun w => w == .slice d.migSlice) = false)
include hc hw

theorem sliceCmdW_prepare : sliceCmdW c 7#32 ext d = .took (d.prepare c d.migSlice) := by
  unfold sliceCmdW
  simp [hc, hw, fld]
theorem sliceCmdW_save (x : SliceExt) : sliceCmdW c 6#32 (some x) d = .took (d.save c d.migSlice x.peer) := by
  unfold sliceCmdW
  simp [hc, hw, fld]
theorem sliceCmdW_restore (x : SliceExt) : sliceCmdW c 8#32 (some x) d = .took (d.restore c d.migSlice x.image) := by
  unfold sliceCmdW
  simp [hc, hw, fld]
end

/-! ### PREPARE (R390, R396) -/

/-- The slice that PREPARE leaves: the staged binding of the device, and a nonce issued now. -/
def Slice.prepared (d : Dev) (nonce : DWord) (now : Nat) (x : Slice) : Slice :=
  { x with state := .prepared, pasid := d.stagedPasid, noPasid := d.stagedNoPasid, domain := d.stagedDomain, nonce := nonce, nonceSt := now }

section
variable {d} {n : Nat} (hs : (d.slice n).state = .unbound)
include hs
theorem Dev.prepare_serving (hg : d.mgmtDrbg = true) : d.prepare c n =
    (((d.mgmtNonce c).2.updSlice n (Slice.prepared d (d.mgmtNonce c).1 c.now)).setReg64 Off.hifMigNonceLo (d.mgmtNonce c).1.toNat).sliceEnd c n 0 := by
  unfold Dev.prepare
  rw [if_neg (by simp [hs]), if_neg (by simp [hg])]
  rfl
theorem Dev.prepare_noEntropy (hg : d.mgmtDrbg = false) : d.prepare c n = d.sliceEnd c n SlRes.noEntropy := by
  unfold Dev.prepare
  rw [if_neg (by simp [hs]), if_pos (by simp [hg])]
end

theorem Dev.mgmtNonce_toNat : (d.mgmtNonce c).1.toNat = le ((d.request c 12 8 []).1.bytes 8) 0 8 :=
  BitVec.toNat_ofNat .. |>.trans (Nat.mod_eq_of_lt (le_lt _ 8 0))

/-! ### SAVE (R397, R399, R400) -/

/-- The unit ID of the target, as HIF_MIG_TARGET_UID holds it. -/
def Dev.migTarget (d : Dev) : Bytes := (List.range 4).flatMap (fun i => toLe 4 (d.reg (Off.hifMigTargetUid + 4 * i)).toNat)

/-- The slice that an agreed SAVE leaves, and the slice of a SAVE that failed at its end. -/
def Slice.savingWith (image : Bytes) (x : Slice) : Slice := { x with state := .saving, prev := x.state, cmd := some .save, image := image }
def Slice.reverted (x : Slice) : Slice := { x with state := x.prev }

section
variable {c d} {n : Nat} {p : PeerAnswer}

theorem Dev.save_badState (h1 : (d.slice n).state ≠ .frozen) (h2 : (d.slice n).state ≠ .saved) : d.save c n p = d.sliceEnd c n SlRes.badState :=
  if_pos (.inl ⟨h1, h2⟩)
section
variable (hs : (d.slice n).state = .frozen) (hb : d.saveBlocked n = false) (hl : d.locked = false)
include hs hb hl
theorem Dev.save_refused {r : Nat} (h : d.saveInput c (d.slice n) p d.migTarget (toLe 8 (d.reg64 Off.hifMigNonceLo)) = .error r) :
    d.save c n p = d.sliceEnd c n r := by
  unfold Dev.migTarget at h
  unfold Dev.save
  dsimp only
  rw [if_neg (by simp [hs, hb]), if_neg (by simp [hl]), h]
theorem Dev.save_agreed {k : Bytes} (hm : fld (d.reg Off.hifMigCtrl) 1 0 = 1)
    (h : d.saveInput c (d.slice n) p d.migTarget (toLe 8 (d.reg64 Off.hifMigNonceLo)) = .ok k) :
    ∃ image, d.save c n p = (d.useDrbg c 12 64).updSlice n (Slice.savingWith image) := by
  unfold Dev.migTarget at h
  unfold Dev.save
  dsimp only
  rw [if_neg (by simp [hs, hb]), if_neg (by simp [hl]), h]
  exact ⟨_, congrArg (Dev.updSlice n _) (if_pos hm)⟩
end

section
variable {x : Slice} {uid nonce : Bytes} (hm : fld (d.reg Off.hifMigCtrl) 1 0 = 1) (hg : d.mgmtDrbg = true)
include hm hg
theorem Dev.saveInput_noNode (hu : d.migPeer = none) : d.saveInput c x p uid nonce = .error SlRes.noPeer := by
  unfold Dev.saveInput
  simp [hm, hg, hu]
theorem Dev.saveInput_node {u : Nat} (hu : d.migPeer = some u) : d.saveInput c x p uid nonce =
    if !p.reachable || !p.certOk then .error SlRes.noPeer else if u ≠ le uid 0 16 then .error SlRes.badTarget else .ok (fabricInput unitIdBytes uid nonce) := by
  unfold Dev.saveInput
  simp only [hm, hg, hu, if_true]
  rfl
theorem Dev.saveInput_noPeer (h : p.reachable = false ∨ d.migPeer = none) : d.saveInput c x p uid nonce = .error SlRes.noPeer := by
  cases hu : d.migPeer with
  | none => exact Dev.saveInput_noNode hm hg hu
  | some u =>
    have hr : p.reachable = false := h.resolve_right (by simp [hu])
    rw [Dev.saveInput_node hm hg hu, if_pos (by simp [hr])]
section
variable (hr : p.reachable = true) (ho : p.certOk = true) {u : Nat} (hu : d.migPeer = some u)
include hr ho hu
theorem Dev.saveInput_badTarget (h : u ≠ le uid 0 16) : d.saveInput c x p uid nonce = .error SlRes.badTarget := by
  rw [Dev.saveInput_node hm hg hu, if_neg (by simp [hr, ho]), if_pos h]
theorem Dev.saveInput_agreed (h : u = le uid 0 16) : d.saveInput c x p uid nonce = .ok (fabricInput unitIdBytes uid nonce) := by
  rw [Dev.saveInput_node hm hg hu, if_neg (by simp [hr, ho]), if_neg (not_not_intro h)]
end
end

section
variable (hs : (d.slice n).state = .saving) (hw : d.warning = false)
include hs hw
theorem saveDone_fits (h : (d.image c (d.slice n)).1 ≤ le (d.slice n).image 8 4) : saveDoneOp n c d =
    ((d.emit (.dma (BitVec.ofNat 64 (le (d.slice n).image 0 8)) (d.image c (d.slice n)).2)).updSlice n (Slice.moved .saved)).sliceEnd c n 0 := by
  unfold saveDoneOp
  dsimp only
  rw [if_pos ⟨hs, hw⟩]
  exact if_neg (Nat.not_lt.mpr h)
theorem saveDone_tooSmall (h : le (d.slice n).image 8 4 < (d.image c (d.slice n)).1) : saveDoneOp n c d =
    ((d.setReg Off.hifMigNeed (BitVec.ofNat 32 (d.image c (d.slice n)).1)).updSlice n Slice.reverted).sliceEnd c n SlRes.tooSmall := by
  unfold saveDoneOp
  dsimp only
  rw [if_pos ⟨hs, hw⟩]
  exact if_pos h
end
end

/-! ### RESTORE (R402 to R404) -/

/-- The slice that RESTORE leaves: the nonce is used up, and the image is kept with its body in the clear where no check failed. -/
def Slice.restoringWith (fail : Option Nat) (image : Bytes) (x : Slice) : Slice :=
  { x with state := .restoring, prev := .unbound, cmd := some .restore, nonce := 0, pendingResult := fail.getD 0, image := if fail.isNone then image else [] }

theorem Dev.restore_prepared {n : Nat} (r : DmaRead) (hs : (d.slice n).state = .prepared) :
    d.restore c n r = d.updSlice n (Slice.restoringWith (d.restoreFail c (d.slice n) r) (d.openImage c (d.slice n) r.data)) := by
  unfold Dev.restore
  exact if_neg (by simp [hs])
theorem Dev.restore_badState {n : Nat} (r : DmaRead) (hs : (d.slice n).state ≠ .prepared) : d.restore c n r = d.sliceEnd c n SlRes.badState := if_pos hs

/-! ### The rings of an image (R402) -/

/-- A property of a ring that a change of any ring of its slice keeps. -/
theorem Dev.ring_updRing_holds {d : Dev} (P : Ring → Prop) {s n m : Nat} {f : Ring → Ring} (hf : ∀ x : Ring, x.slice = s → x.num = m → (f x).slice = s ∧ (f x).num = m)
    (hP : ∀ x, P x → P (f x)) (h : P (d.ring s n)) : P ((d.updRing s m f).ring s n) := by
  by_cases hn : n = m
  · subst hn
    rw [Dev.ring_updRing _ _ _ _ hf]
    exact hP _ h
  · rwa [Dev.ring_updRing_ne _ _ (.inr hn) hf]

theorem imageRing_parked {n : Nat} {b : Bytes} {r : Ring} (h : imageRing n b = some r) : r.slice = n ∧ r.state = .parked := by
  unfold imageRing at h
  split at h
  · cases h
  · cases h
    exact ⟨rfl, rfl⟩
theorem imageRings_parked {n : Nat} {b : Bytes} {r : Ring} (h : r ∈ imageRings n b) : r.slice = n ∧ r.state = .parked := by
  obtain ⟨i, -, hi⟩ := List.mem_filterMap.mp h
  exact imageRing_parked hi

/-- The rings of an image, put in their places. -/
def Dev.putRings (n : Nat) (l : List Ring) (d : Dev) : Dev := l.foldl (fun (a : Dev) r => a.updRing n r.num (fun _ => r)) d
/-- A chain of an image, put at its ring. -/
def Dev.putChain (n : Nat) (d : Dev) (k : Bytes) : Dev :=
  d.updRing n (byteAt k 0 % 16) (fun r => { r with chains := r.chains ++ [{ gid := byteAt k 1, members := [], earlier := byteAt k 2 }] })

theorem Dev.putRings_keeps_parked (n m : Nat) : ∀ (l : List Ring) (d : Dev), (∀ r ∈ l, r.slice = n ∧ r.state = .parked) → (d.ring n m).state = .parked →
    ((d.putRings n l).ring n m).state = .parked
  | [], _, _, h => h
  | r :: l, d, hl, h => by
    obtain ⟨hr, hl⟩ := List.forall_mem_cons.mp hl
    exact Dev.putRings_keeps_parked n m l _ hl (Dev.ring_updRing_holds (fun x => x.state = .parked) (fun _ _ _ => ⟨hr.1, rfl⟩) (fun _ _ => hr.2) h)
theorem Dev.putRings_parked (n : Nat) : ∀ (l : List Ring) (d : Dev), (∀ r ∈ l, r.slice = n ∧ r.state = .parked) →
    ∀ r ∈ l, ((d.putRings n l).ring n r.num).state = .parked
  | [], _, _ => fun _ h => absurd h List.not_mem_nil
  | r :: l, d, hl => by
    obtain ⟨hr, hl⟩ := List.forall_mem_cons.mp hl
    refine List.forall_mem_cons.mpr ⟨Dev.putRings_keeps_parked n r.num l _ hl ?_, Dev.putRings_parked n l _ hl⟩
    rw [Dev.ring_updRing _ _ _ _ (fun _ _ _ => ⟨hr.1, rfl⟩)]
    exact hr.2
theorem Dev.putChains_keeps_parked (n m : Nat) (l : List Bytes) (d : Dev) (h : (d.ring n m).state = .parked) : ((l.foldl (Dev.putChain n) d).ring n m).state = .parked :=
  List.foldlRecOn (motive := fun e : Dev => (e.ring n m).state = .parked) l _ h
    (fun _ he _ _ => Dev.ring_updRing_holds (fun x => x.state = .parked) (fun _ h1 h2 => ⟨h1, h2⟩) (fun _ h => h) he)

/-! ### The end of RESTORE (R390, R402 to R404) -/

/-- The slice that an image gives. -/
def Slice.bound (b : Bytes) (x : Slice) : Slice :=
  { x with
    state := .bound, rings := le b 52 2, weight := byteAt b 54, expiry := byteAt b 55, effWeight := byteAt b 54, effExpiry := byteAt b 55
    origin := some (le b 48 2 % 4096), keyRefs := (List.range (imgRefs b)).map (fun i => BitVec.ofNat 64 (le b (1152 + 4 * imgChains b + 8 * i) 8)) }

theorem Dev.bindImage_eq (n : Nat) (b : Bytes) : d.bindImage n b =
    (((List.range (imgChains b)).map (fun i => bsub b (1152 + 4 * i) 4)).foldl (Dev.putChain n) (d.putRings n (imageRings n b))).updSlice n (Slice.bound b) := rfl
theorem Dev.bindImage_slice (n : Nat) (b : Bytes) : ∃ x, (d.bindImage n b).slice n = Slice.bound b x :=
  ⟨_, (congrArg (fun e : Dev => e.slice n) (d.bindImage_eq n b)).trans (Dev.slice_updSlice _ _ _ (fun _ h => h))⟩
theorem Dev.bindImage_parked (n : Nat) (b : Bytes) : ∀ r ∈ imageRings n b, ((d.bindImage n b).ring n r.num).state = .parked := by
  intro r hr
  rw [Dev.bindImage_eq]
  exact Dev.putChains_keeps_parked n r.num _ _ (Dev.putRings_parked n _ d (fun _ h => imageRings_parked h) r hr)
theorem Dev.bindImage_ddt (n : Nat) (b : Bytes) : (d.bindImage n b).ddt = d.ddt := by
  rw [Dev.bindImage_eq, Dev.updSlice_ddt, foldl_keep Dev.ddt (Dev.putChain n) (fun _ _ => rfl)]
  exact foldl_keep Dev.ddt (fun (a : Dev) (r : Ring) => a.updRing n r.num (fun _ => r)) (fun _ _ => rfl) ..

/-- The rings of a slice, mirrored, and the keys that a slice's references name, loaded. -/
def Dev.tellRings (n : Nat) (l : List Ring) (d : Dev) : Dev := d.mirroring (fun (x : Dev) => l.foldl (fun (a : Dev) r => a.sendRing n r.num) x)
def Dev.loadRefs (c : Ctx) (n : Nat) (d : Dev) : Dev := (d.slice n).keyRefs.foldl (fun (a : Dev) h => a.prefetch c h.toNat) d

theorem Dev.tellRings_keepsSlices (n : Nat) (l : List Ring) : d.KeepsSlices (d.tellRings n l) :=
  Dev.mirroring_keepsSlices _ (foldl_keepsSlices (fun (a : Dev) (r : Ring) => a.sendRing n r.num) (fun _ _ => Dev.sendPeer_keepsSlices ..) l d)
theorem Dev.loadRefs_keepsSlices (n : Nat) : d.KeepsSlices (d.loadRefs c n) :=
  foldl_keepsSlices (fun (a : Dev) (h : DWord) => a.prefetch c h.toNat) (fun _ _ => Dev.prefetch_keepsSlices ..) _ d

section
variable {c d} {n : Nat} (hs : (d.slice n).state = .restoring)
include hs
theorem restoreDone_fails (hp : (d.slice n).pendingResult ≠ 0) :
    restoreDoneOp n c d = (d.updSlice n Slice.unbind).sliceEnd c n (d.slice n).pendingResult := by
  unfold restoreDoneOp
  dsimp only
  rw [if_neg (by simp [hs]), if_pos hp]

/-- A RESTORE that succeeds: the slice that the image gives, its rings mirrored, the command's end, then the key loads. -/
theorem restoreDone_binds {d1 : Dev} (hp : (d.slice n).pendingResult = 0) (hr : d.ringsDefined + (imageRings n (d.slice n).image).length ≤ 16384)
    (hi : d.insertAll c (imageDdt c.now n (d.slice n).image) = some d1) :
    restoreDoneOp n c d = (((d1.bindImage n (d.slice n).image).tellRings n (imageRings n (d.slice n).image)).sliceEnd c n 0).loadRefs c n := by
  unfold restoreDoneOp
  dsimp only
  rw [if_neg (by simp [hs]), if_neg (by simp [hp]), if_neg (by omega), hi]
  rfl
end
end

/-! ### The commands -/

section
variable {s : State}

section
variable (hm : HostMay s true Off.hifSliceCmd) (hc : (s.dev.slice s.dev.migSlice).cmd = none) (hw : s.dev.changing (fun w => w == .slice s.dev.migSlice) = false)
include hm hc hw
theorem exec_slicePrepare : exec .slicePrepare s = .next { s with dev := s.dev.prepare s.ctx s.dev.migSlice } :=
  next_hostWrite (f := sliceCmdW s.ctx 7#32 none) hm (by decide) (sliceCmdW_prepare none hc hw)
theorem exec_sliceSave (p : PeerAnswer) : exec (.sliceSave p) s = .next { s with dev := s.dev.save s.ctx s.dev.migSlice p } :=
  next_hostWrite (f := sliceCmdW s.ctx 6#32 (some { peer := p })) hm (by decide) (sliceCmdW_save hc hw _)
theorem exec_sliceRestore (data : Bytes) (read : DmaEnd) :
    exec (.sliceRestore data read) s = .next { s with dev := s.dev.restore s.ctx s.dev.migSlice (dmaRead data read) } :=
  next_hostWrite (f := sliceCmdW s.ctx 8#32 (some { image := dmaRead data read })) hm (by decide) (sliceCmdW_restore hc hw _)
end
variable (s)
theorem exec_prepareExpiry (k : Nat) : exec (.prepareExpiry k) s = .next { s with dev := prepareExpiryOp k s.ctx s.dev } := rfl
theorem exec_saveDone (k : Nat) : exec (.saveDone k) s = .next { s with dev := saveDoneOp k s.ctx s.dev } := rfl
theorem exec_restoreDone (k : Nat) : exec (.restoreDone k) s = .next { s with dev := restoreDoneOp k s.ctx s.dev } := rfl
end

/-! ### What each command comes to -/

section
variable {s : State} {n : Nat}

/-- A command that ends by the end of the slice's command. -/
theorem slice_ends {o : Host.Outcome State Fault Refusal} {e f : Dev} {st : SliceState} {res : Nat} (ho : o = .next { s with dev := e }) (he : e = f.sliceEnd s.ctx n res)
    (hst : (f.slice n).state = st) : ∃ u, o = .next u ∧ DevOnly s u ∧ (u.dev.slice n).state = st ∧ (u.dev.slice n).result = res := by
  refine ⟨_, ho, .of_dev .., ?_⟩
  dsimp only
  rw [he, Dev.sliceEnd_slice]
  exact ⟨hst, rfl⟩

section
variable (hm : HostMay s true Off.hifSliceCmd) (hc : (s.dev.slice s.dev.migSlice).cmd = none) (hw : s.dev.changing (fun w => w == .slice s.dev.migSlice) = false)
include hm hc hw

theorem slicePrepare_serving (hs : (s.dev.slice s.dev.migSlice).state = .unbound) (hg : s.dev.mgmtDrbg = true) :
    ∃ u, exec .slicePrepare s = .next u ∧ DevOnly s u
      ∧ u.dev.slice s.dev.migSlice = (Slice.prepared s.dev (s.dev.mgmtNonce s.ctx).1 s.st.toNat (s.dev.slice s.dev.migSlice)).ended 0
      ∧ u.dev.reg64 Off.hifMigNonceLo = (s.dev.mgmtNonce s.ctx).1.toNat := by
  refine ⟨_, exec_slicePrepare hm hc hw, .of_dev .., ?_, ?_⟩
  · have hslices : (s.dev.mgmtNonce s.ctx).2.slices = s.dev.slices := Dev.request_2_slices ..
    dsimp only
    rw [Dev.prepare_serving s.ctx hs hg, Dev.sliceEnd_slice, Dev.slice_congr (Dev.setReg64_slices ..),
      Dev.slice_updSlice _ _ (Slice.prepared _ _ _) (fun _ h => h), Dev.slice_congr hslices]
    rfl
  · dsimp only
    rw [Dev.prepare_serving s.ctx hs hg, Dev.reg64, Dev.sliceEnd_reg _ _ _ _ (by decide), Dev.sliceEnd_reg _ _ _ _ (by decide)]
    exact Dev.reg64_setReg64 _ _ (s.dev.mgmtNonce s.ctx).1.isLt

theorem sliceSave_badState (p : PeerAnswer) (h1 : (s.dev.slice s.dev.migSlice).state ≠ .frozen) (h2 : (s.dev.slice s.dev.migSlice).state ≠ .saved) :
    ∃ u, exec (.sliceSave p) s = .next u ∧ DevOnly s u ∧ (u.dev.slice s.dev.migSlice).state = (s.dev.slice s.dev.migSlice).state
      ∧ (u.dev.slice s.dev.migSlice).result = 1 ∧ bit (u.dev.reg Off.hifSliceEvt) 0 = true := by
  obtain ⟨hslice, -, hevt⟩ := s.dev.sliceEnd_keeps s.ctx s.dev.migSlice SlRes.badState
  refine ⟨_, exec_sliceSave hm hc hw p, .of_dev .., ?_⟩
  dsimp only
  rw [Dev.save_badState h1 h2, hslice]
  exact ⟨rfl, rfl, hevt (.inl (by decide))⟩

/-- SAVE of a FROZEN slice by the FABRIC method, by what the peer is. -/
theorem sliceSave_fabric (p : PeerAnswer) (hs : (s.dev.slice s.dev.migSlice).state = .frozen) (hb : s.dev.saveBlocked s.dev.migSlice = false) (hl : s.dev.locked = false)
    (hf : fld (s.dev.reg Off.hifMigCtrl) 1 0 = 1) (hg : s.dev.mgmtDrbg = true) :
    (p.reachable = true → p.certOk = true → s.dev.migPeer = some (le s.dev.migTarget 0 16) →
      ∃ u, exec (.sliceSave p) s = .next u ∧ DevOnly s u ∧ (u.dev.slice s.dev.migSlice).state = .saving ∧ (u.dev.slice s.dev.migSlice).cmd = some .save
        ∧ (u.dev.slice s.dev.migSlice).prev = .frozen) ∧
    (∀ other, p.reachable = true → p.certOk = true → s.dev.migPeer = some other → other ≠ le s.dev.migTarget 0 16 →
      ∃ u, exec (.sliceSave p) s = .next u ∧ DevOnly s u ∧ (u.dev.slice s.dev.migSlice).state = .frozen ∧ (u.dev.slice s.dev.migSlice).result = 6) ∧
    (p.reachable = false ∨ s.dev.migPeer = none →
      ∃ u, exec (.sliceSave p) s = .next u ∧ DevOnly s u ∧ (u.dev.slice s.dev.migSlice).state = .frozen ∧ (u.dev.slice s.dev.migSlice).result = 5) := by
  refine ⟨fun hr ho hu => ?_, fun other hr ho hu hne => ?_, fun h => ?_⟩
  · obtain ⟨image, hsave⟩ := Dev.save_agreed hs hb hl hf (Dev.saveInput_agreed (c := s.ctx) hf hg hr ho hu rfl)
    refine ⟨_, exec_sliceSave hm hc hw p, .of_dev .., ?_⟩
    dsimp only
    rw [hsave, Dev.slice_updSlice _ _ (Slice.savingWith image) (fun _ h => h), Dev.slice_congr (Dev.useDrbg_slices ..)]
    exact ⟨rfl, rfl, hs⟩
  · exact slice_ends (exec_sliceSave hm hc hw p) (Dev.save_refused hs hb hl (Dev.saveInput_badTarget hf hg hr ho hu hne)) hs
  · exact slice_ends (exec_sliceSave hm hc hw p) (Dev.save_refused hs hb hl (Dev.saveInput_noPeer hf hg h)) hs

theorem sliceRestore_prepared (data : Bytes) (read : DmaEnd) (hs : (s.dev.slice s.dev.migSlice).state = .prepared) :
    ∃ u, exec (.sliceRestore data read) s = .next u ∧ DevOnly s u ∧ u.dev.slice s.dev.migSlice =
      (s.dev.slice s.dev.migSlice).restoringWith (s.dev.restoreFail s.ctx (s.dev.slice s.dev.migSlice) (dmaRead data read))
        (s.dev.openImage s.ctx (s.dev.slice s.dev.migSlice) (dmaRead data read).data) := by
  refine ⟨_, exec_sliceRestore hm hc hw data read, .of_dev .., ?_⟩
  dsimp only
  rw [Dev.restore_prepared s.ctx s.dev _ hs]
  exact Dev.slice_updSlice _ _ (Slice.restoringWith _ _) (fun _ h => h)
end

theorem prepareExpiry_frees (hs : (s.dev.slice n).state = .prepared) (h : (s.dev.slice n).nonceSt + 60000000000 ≤ s.st.toNat) :
    ∃ u, exec (.prepareExpiry n) s = .next u ∧ DevOnly s u ∧ u.dev.slice n = { num := n, result := (s.dev.slice n).result } ∧ bit (u.dev.reg Off.hifSliceEvt) 1 = true := by
  have hop : prepareExpiryOp n s.ctx s.dev = (s.dev.updSlice n Slice.unbind).evtBit Off.hifSliceEvt 1 := if_pos ⟨hs, h⟩
  refine ⟨_, exec_prepareExpiry s n, .of_dev .., ?_⟩
  dsimp only
  rw [hop, (Dev.evtBit_keepsSlices _ 1).slice, Dev.slice_updSlice _ _ Slice.unbind (fun _ h => h), Slice.unbind, Dev.slice_num]
  exact ⟨rfl, Dev.evtBit_bit _ _ (by decide)⟩

section
variable (hs : (s.dev.slice n).state = .saving) (hw : s.dev.warning = false)
include hs hw
theorem saveDone_saves (h : (s.dev.image s.ctx (s.dev.slice n)).1 ≤ le (s.dev.slice n).image 8 4) :
    ∃ u, exec (.saveDone n) s = .next u ∧ DevOnly s u ∧ (u.dev.slice n).state = .saved ∧ (u.dev.slice n).result = 0
      ∧ Tx.dma (BitVec.ofNat 64 (le (s.dev.slice n).image 0 8)) (s.dev.image s.ctx (s.dev.slice n)).2 ∈ u.dev.tx := by
  refine ⟨_, exec_saveDone s n, .of_dev .., ?_⟩
  dsimp only
  rw [saveDone_fits hs hw h, Dev.sliceEnd_slice, Dev.slice_updSlice _ _ (Slice.moved .saved) (fun _ h => h)]
  exact ⟨rfl, rfl, (Dev.sliceEnd_keepsSlices ..).sent _ List.mem_cons_self⟩
theorem saveDone_needs (h : le (s.dev.slice n).image 8 4 < (s.dev.image s.ctx (s.dev.slice n)).1) :
    ∃ u, exec (.saveDone n) s = .next u ∧ DevOnly s u ∧ (u.dev.slice n).state = (s.dev.slice n).prev ∧ (u.dev.slice n).result = 4
      ∧ u.dev.reg Off.hifMigNeed = BitVec.ofNat 32 (s.dev.image s.ctx (s.dev.slice n)).1 := by
  refine ⟨_, exec_saveDone s n, .of_dev .., ?_⟩
  dsimp only
  rw [saveDone_tooSmall hs hw h, Dev.sliceEnd_slice, Dev.slice_updSlice _ _ Slice.reverted (fun _ h => h), Dev.sliceEnd_reg _ _ _ _ (by decide)]
  exact ⟨rfl, rfl, Dev.reg_setReg ..⟩
end

section
variable (hs : (s.dev.slice n).state = .restoring)
include hs
theorem restoreDone_unbinds (hp : (s.dev.slice n).pendingResult ≠ 0) :
    ∃ u, exec (.restoreDone n) s = .next u ∧ DevOnly s u ∧ (u.dev.slice n).state = .unbound ∧ (u.dev.slice n).result = (s.dev.slice n).pendingResult
      ∧ u.dev.hif.rings = s.dev.hif.rings ∧ u.dev.ddt = s.dev.ddt := by
  have hkeep := (s.dev.updSlice n Slice.unbind).sliceEnd_keepsSlices s.ctx n (s.dev.slice n).pendingResult
  refine ⟨_, exec_restoreDone s n, .of_dev .., ?_⟩
  dsimp only
  rw [restoreDone_fails hs hp, Dev.sliceEnd_slice, Dev.slice_updSlice _ _ Slice.unbind (fun _ h => h)]
  exact ⟨rfl, rfl, hkeep.rings, hkeep.ddt⟩

/-- What an image gives stands through the mirroring, the end of the command and the key loads. -/
theorem restoreDone_bound {d1 : Dev} (hp : (s.dev.slice n).pendingResult = 0) (hr : s.dev.ringsDefined + (imageRings n (s.dev.slice n).image).length ≤ 16384)
    (hi : s.dev.insertAll s.ctx (imageDdt s.st.toNat n (s.dev.slice n).image) = some d1) :
    ∃ u, exec (.restoreDone n) s = .next u ∧ DevOnly s u ∧ (∃ x, u.dev.slice n = (Slice.bound (s.dev.slice n).image x).ended 0)
      ∧ (∀ r ∈ imageRings n (s.dev.slice n).image, (u.dev.ring n r.num).state = .parked) ∧ u.dev.ddt = d1.ddt := by
  have hop := restoreDone_binds (c := s.ctx) hs hp hr hi
  generalize (s.dev.slice n).image = b at hop ⊢
  have htold := (d1.bindImage n b).tellRings_keepsSlices n (imageRings n b)
  generalize (d1.bindImage n b).tellRings n (imageRings n b) = e at hop htold
  have hend := e.sliceEnd_keepsSlices s.ctx n 0
  have hload := (e.sliceEnd s.ctx n 0).loadRefs_keepsSlices s.ctx n
  rw [← hop] at hload
  obtain ⟨x, hx⟩ := d1.bindImage_slice n b
  refine ⟨_, exec_restoreDone s n, .of_dev .., ⟨x, ?_⟩, fun r hr => ?_, ?_⟩
  · exact (hload.slice n).trans (by rw [Dev.sliceEnd_slice, htold.slice, hx])
  · exact (congrArg Ring.state (((hload.ring ..).trans (hend.ring ..)).trans (htold.ring ..))).trans (d1.bindImage_parked n b r hr)
  · exact ((hload.ddt.trans hend.ddt).trans htold.ddt).trans (d1.bindImage_ddt n b)
end
end

/-- Settles O33: a conjunct per command by what its write does, then the end of PREPARE's time, of SAVE by the buffer's length, and of RESTORE by its checks. -/
theorem sliceMigration : Obligations.SliceMigration := by
  unfold Obligations.SliceMigration
  intro s
  dsimp only
  refine ⟨fun hm hc hw => ⟨fun hs hg => ?_, fun hs hg => ?_, fun p h1 h2 => sliceSave_badState hm hc hw p h1 h2,
      fun p hs hb hl hf hg => sliceSave_fabric hm hc hw p hs hb hl hf hg, fun data read => ⟨fun hs => ?_, fun hs => ?_⟩⟩,
    fun k => ⟨prepareExpiry_frees, fun hs hw => ⟨saveDone_saves hs hw, saveDone_needs hs hw⟩, restoreDone_unbinds, fun d1 hs hp hr hi => ?_⟩⟩
  · obtain ⟨u, hu, honly, hslice, hnonce⟩ := slicePrepare_serving hm hc hw hs hg
    refine ⟨u, hu, honly, ?_⟩
    rw [hslice, hnonce, Dev.mgmtNonce_toNat]
    exact ⟨rfl, rfl, rfl, rfl, rfl, rfl⟩
  · exact slice_ends (exec_slicePrepare hm hc hw) (Dev.prepare_noEntropy s.ctx hs hg) hs
  · obtain ⟨u, hu, honly, hslice⟩ := sliceRestore_prepared hm hc hw data read hs
    refine ⟨u, hu, honly, ?_⟩
    rw [hslice]
    exact ⟨rfl, rfl, rfl, rfl, fun h => if_pos (by rw [h]; rfl)⟩
  · exact slice_ends (exec_sliceRestore hm hc hw data read) (Dev.restore_badState s.ctx s.dev _ hs) rfl
  · obtain ⟨u, hu, honly, ⟨x, hslice⟩, hrings, hddt⟩ := restoreDone_bound hs hp hr hi
    refine ⟨u, hu, honly, ?_⟩
    rw [hslice]
    exact ⟨rfl, rfl, rfl, rfl, rfl, rfl, hrings, hddt⟩

end Sys2Proof.Machine

/-! What no step undoes: a programmed fuse (R519, R521, R528, R530), and the canonical form of the memory (R564, R578). -/

namespace Sys2Proof.Machine

/-! ### Programmed bits are kept -/

theorem bitsKept.refl {n : Nat} (a : BitVec n) : bitsKept a a := BitVec.and_self

theorem bitsKept.trans {n : Nat} {a b c : BitVec n} (h : bitsKept a b) (g : bitsKept b c) : bitsKept a c := by
  unfold bitsKept at *
  rw [← h, BitVec.and_assoc, g]

theorem bitsKept_or {n : Nat} (a b : BitVec n) : bitsKept a (a ||| b) := by
  refine BitVec.eq_of_getLsbD_eq fun i _ => ?_
  rw [BitVec.getLsbD_and, BitVec.getLsbD_or]
  cases a.getLsbD i <;> rfl

theorem recsKept.refl : ∀ l : List Word, recsKept l l
  | [] => trivial
  | a :: as => ⟨.refl a, recsKept.refl as⟩

theorem recsKept.trans : ∀ {a b c : List Word}, recsKept a b → recsKept b c → recsKept a c
  | [], _, _, _, _ => trivial
  | _ :: _, _ :: _, _ :: _, ⟨h, hs⟩, ⟨g, gs⟩ => ⟨h.trans g, recsKept.trans hs gs⟩

theorem recsKept_append (l new : List Word) : recsKept l (l ++ new) := by
  induction l with
  | nil => trivial
  | cons a as ih => exact ⟨.refl a, ih⟩

/-- The last record takes more bits. -/
theorem recsKept_last (m : Word) (l : List Word) : recsKept l (l.dropLast ++ (l.getLast?.toList).map (fun w => w ||| m)) := by
  induction l with
  | nil => trivial
  | cons a as ih =>
    cases as with
    | nil => exact ⟨bitsKept_or a m, trivial⟩
    | cons b bs =>
      rw [List.dropLast_cons_cons, List.getLast?_cons_cons]
      exact ⟨.refl a, ih⟩

/-! ### What changes the fuses -/

namespace Otp.Kept
theorem refl (a : Otp) : a.Kept a := ⟨.refl _, .refl _, .refl _, fun _ _ => .refl _⟩
theorem trans {a b c : Otp} (h : a.Kept b) (g : b.Kept c) : a.Kept c :=
  ⟨h.copyA.trans g.copyA, h.copyB.trans g.copyB, h.recs.trans g.recs, fun i j => (h.words i j).trans (g.words i j)⟩
/-- Operations that keep the programmed bits keep them one after the other. -/
theorem foldl {α β : Type} (fuses : α → Otp) (f : α → β → α) (h : ∀ x b, (fuses x).Kept (fuses (f x b))) :
    ∀ (l : List β) (x : α), (fuses x).Kept (fuses (l.foldl f x))
  | [], _ => refl _
  | b :: l, x => (h x b).trans (foldl fuses f h l (f x b))
end Otp.Kept

/-- The fuse port sets bits of one word. -/
theorem Otp.word_program (o : Otp) (g w : Nat) (v : Word) : (o.program g w v).word g w = o.word g w ||| v := by
  simp [Otp.program, Otp.word]

/-- The fuse port leaves every other word. -/
theorem Otp.word_program_ne {g w g' w' : Nat} (h : (g', w') ≠ (g, w)) (o : Otp) (v : Word) : (o.program g w v).word g' w' = o.word g' w' := by
  have hne : ¬ (g = g' ∧ w = w') := by rintro ⟨rfl, rfl⟩; exact h rfl
  have hrest : (o.words.filter (fun x => !(x.1 == g && x.2.1 == w))).find? (fun x => x.1 == g' && x.2.1 == w')
      = o.words.find? (fun x => x.1 == g' && x.2.1 == w') := by
    rw [List.find?_filter]
    congr 1
    funext x
    simp only [Bool.and_eq_true, beq_iff_eq, Bool.decide_and, Bool.not_eq_true', Bool.and_eq_false_iff, beq_eq_false_iff_ne, ne_eq]
    grind
  simp only [Otp.program, Otp.word, List.find?_cons]
  rw [hrest, show (g == g' && w == w') = false by simpa using hne]

theorem Otp.program_kept (o : Otp) (g w : Nat) (v : Word) : o.Kept (o.program g w v) where
  copyA := .refl _
  copyB := .refl _
  recs := .refl _
  words i j := by
    by_cases h : (i, j) = (g, w)
    · cases h
      rw [Otp.word_program]
      exact bitsKept_or ..
    · rw [Otp.word_program_ne h]
      exact .refl _

theorem Otp.wipeGroup_kept (o : Otp) (g : Nat) : o.Kept (o.wipeGroup g) :=
  Otp.Kept.foldl id _ (fun a w => a.program_kept g w _) _ o

theorem Otp.lcStep_kept (o : Otp) (t : LcState) (k : Nat) : o.Kept (o.lcStep t k) := by
  unfold Otp.lcStep
  dsimp only
  split
  · exact (o.wipeGroup_kept 1).trans (Otp.wipeGroup_kept _ 3)
  · split
    · exact ⟨bitsKept_or .., .refl _, .refl _, fun _ _ => .refl _⟩
    · split
      · exact ⟨.refl _, bitsKept_or .., .refl _, fun _ _ => .refl _⟩
      · exact .refl o

theorem Otp.flagStep_kept (o : Otp) (k : Nat) : o.Kept (o.flagStep k) :=
  ⟨.refl _, .refl _, recsKept_last _ _, fun _ _ => .refl _⟩

theorem lcRun_kept (t : LcState) (fail : Option Nat) (k : Nat) (x : Otp × Dev × Bool) : x.1.Kept (lcRun t fail k x).1 := by
  obtain ⟨o, d, stuck⟩ := x
  unfold lcRun
  dsimp only
  split
  · exact .refl o
  · split
    · exact .refl o
    · exact (o.lcStep_kept t k).trans (Otp.flagStep_kept _ k)

theorem lcResume_kept (fail : Option Nat) (o : Otp) (d : Dev) : o.Kept (lcResume fail o d).1 := by
  unfold lcResume
  split
  · exact .refl o
  · exact Otp.Kept.foldl Prod.fst _ (fun x k => lcRun_kept _ fail k x) _ (o, d, false)

theorem lifecycleStage_kept (fail : Option Nat) (c : Ctx) (d : Dev) : c.otp.Kept (lifecycleStage fail c d).1 := by
  unfold lifecycleStage
  split
  · exact .refl _
  · dsimp only
    generalize (if c.otp.integrityLost then d.alarm c 0x09 else d) = e
    split <;> exact lcResume_kept fail c.otp e

/-- A transition that starts adds a progress record (R528). -/
theorem goLatch_kept {o : Otp} {s : State} (ho : s.otp = o) (before : Option (Nat × Nat)) : o.Kept (s.goLatch before).otp := by
  subst ho
  unfold State.goLatch
  split
  · split
    · exact .refl _
    · exact ⟨.refl _, .refl _, recsKept_append .., fun _ _ => .refl _⟩
  · exact .refl _

theorem lcGo_kept (v : Word) (s : State) : s.otp.Kept (s.lcGo v).otp := goLatch_kept (by rfl) _

theorem writeWord_kept (off : Nat) (v : Word) (s : State) : s.otp.Kept (s.writeWord off v).otp := by
  unfold State.writeWord
  split
  · exact lcGo_kept v s
  · split <;> exact .refl _

theorem writeBar0_kept (off bits : Nat) (v : DWord) (s : State) : s.otp.Kept (s.writeBar0 off bits v).otp := by
  unfold State.writeBar0
  split
  · exact .refl _
  · split
    · exact writeWord_kept ..
    · split
      · exact (writeWord_kept ..).trans (writeWord_kept ..)
      · exact .refl _

theorem debugWord_kept (off : Nat) (v : Word) (s : State) : s.otp.Kept (s.debugWord off v).otp := by
  unfold State.debugWord
  dsimp only
  split
  · exact .refl _
  · exact goLatch_kept (by rfl) _

/-! ### Every step -/

/-- Every command that can blow fuses keeps those that are blown. -/
theorem exec_kept {c : Instr} {s t : State} (h : exec c s = .next t) : s.otp.Kept t.otp := by
  cases hb : blowsFuses c with
  | false =>
    obtain ⟨u, hu, hr⟩ := exec_reached c s
    cases hu.symm.trans h
    rw [hr.otp hb]
    exact .refl _
  | true =>
    cases c with
    | registerWrite bar off bits v =>
      change execRegisterWrite bar off bits v s = _ at h
      unfold execRegisterWrite at h
      split at h
      · cases h; exact writeBar0_kept ..
      · split at h
        · cases h; exact .refl _
        · split at h <;> cases h <;> exact .refl _
    | smbusBlockWrite off v =>
      change execSmbusBlockWrite off v s = _ at h
      unfold execSmbusBlockWrite at h
      split at h
      · cases h; exact .refl _
      · cases h; exact writeBar0_kept ..
    | debugAccess w addr data core =>
      change execDebugAccess w addr data core s = _ at h
      unfold execDebugAccess at h
      split at h
      · cases h; exact .refl _
      · dsimp only at h
        split at h
        · split at h
          · cases h
            exact Otp.Kept.foldl State.otp _ (fun t i => debugWord_kept _ _ t) _ { s with dev := debugAccessOp w addr data s.mem s.ctx s.dev }
          · split at h <;> cases h <;> exact .refl _
        · cases h; exact .refl _
    | lcGo v => cases h; exact lcGo_kept v s
    | lifecycleDecode f => cases h; exact lifecycleStage_kept f s.ctx s.dev
    | fuseProgram g w v =>
      change Host.Outcome.next _ = Host.Outcome.next t at h
      injection h with h
      subst h
      split
      · exact s.otp.program_kept g w v
      · exact .refl _
    | _ => cases hb

/-- Settles O5: an idle step leaves the fuses, a command keeps them by `exec_kept`. -/
theorem fusesOnlyBlown : Obligations.FusesOnlyBlown := by
  unfold Obligations.FusesOnlyBlown
  intro s t h
  unfold step at h
  split at h
  · cases h
    unfold State.idle
    dsimp only
    split <;> exact .refl _
  · next c rest _ => exact exec_kept (s := { s with pending := rest }) h

/-! ### The memory -/

theorem losePower_memOk {s : State} (h : s.memOk = true) : s.losePower.memOk = true := by
  unfold State.losePower
  split
  · exact Memory.wf_keep _ h
  · exact h

/-- Every command that can change the addressed memory leaves it in canonical form. -/
theorem exec_memOk {c : Instr} {s t : State} (hm : s.memOk = true) (h : exec c s = .next t) : t.memOk = true := by
  cases hb : changesMemory c with
  | false =>
    obtain ⟨u, hu, hr⟩ := exec_reached c s
    cases hu.symm.trans h
    unfold State.memOk
    rw [hr.mem hb]
    exact hm
  | true =>
    cases c with
    | debugAccess w addr data core =>
      change execDebugAccess w addr data core s = _ at h
      unfold execDebugAccess at h
      split at h
      · cases h; exact hm
      · dsimp only at h
        split at h
        · split at h
          · cases h
            unfold State.memOk
            rw [(foldl_onward (fun (t : State) i => t.debugWord (addr + 4 * i) (wordOf data (4 * i))) (fun _ _ => debugWord_onward ..) _ _).mem]
            exact hm
          · split at h
            · cases h; exact Memory.wf_writeBytes _ _ hm
            · cases h; exact hm
        · cases h; exact hm
    | ddr5Training ok =>
      cases h
      unfold State.memOk
      dsimp only
      split
      · exact Memory.wf_keep _ hm
      · exact hm
    | powerLoss => cases h; exact losePower_memOk hm
    | powerOnReset v => cases h; exact losePower_memOk hm
    | _ => cases hb

/-- Settles O6: an idle step leaves the memory, a command keeps its form by `exec_memOk`. -/
theorem memoryCanonical : Obligations.MemoryCanonical := by
  unfold Obligations.MemoryCanonical
  intro s t hm h
  unfold step at h
  split at h
  · cases h
    unfold State.idle
    dsimp only
    unfold State.memOk
    split <;> exact hm
  · next c rest _ => exact exec_memOk (s := { s with pending := rest }) hm h

/-- Settles O1: `step` of a queue that is not empty is `exec` of its front. -/
theorem stepRunsFront : Obligations.StepRunsFront := fun _ _ _ => rfl

end Sys2Proof.Machine

/-! Committing access rules, the fence and the violation latch (R546, R550 to R554, R559, R563). -/

namespace Sys2Proof.Machine

/-! ### What a command on the device leaves -/

/-- What a command leaves whose operation gives `e`. -/
theorem onDev_gives {s : State} {f : Ctx → Dev → Dev} {e : Dev} (h : f s.ctx s.dev = e) : s.onDev f = .next { s with dev := e } := by rw [← h]; rfl
/-- A command whose condition does not hold. -/
theorem onDev_idle {s : State} {f : Ctx → Dev → Dev} (h : f s.ctx s.dev = s.dev) : s.onDev f = .next s := onDev_gives h

/-- What a command leaves whose host write is taken. -/
theorem onDev_took {s : State} {off : Nat} {f : Ctx → Dev → WOut} {e : Dev} (hm : HostMay s true off) (hs : fwServed off = false) (hf : f s.ctx s.dev = .took e) :
    s.onDev (fun c d => d.hostWrite c off (f c)) = .next { s with dev := e } := next_hostWrite hm hs hf
/-- What a command leaves whose host write is reported. -/
theorem onDev_viol {s : State} {off : Nat} {f : Ctx → Dev → WOut} (hm : HostMay s true off) (hs : fwServed off = false) (hf : f s.ctx s.dev = .viol) :
    s.onDev (fun c d => d.hostWrite c off (f c)) = .next { s with dev := s.dev.ruleViolation s.ctx off } :=
  onDev_gives (f := fun c d => d.hostWrite c off (f c)) (hostWrite_own_viol hm hs hf)

/-! ### The commit -/

theorem Region.fits_iff (r : Region) : r.fits = true ↔ 12 ≤ r.size ∧ r.size ≤ 40 ∧ r.base % 2 ^ r.size = 0 := by
  simp [Region.fits, and_assoc]

theorem AccT.badRegion_none {a : AccT} (h : ∀ i, i < 64 → bit (a.staged.getD i {}).cfg 0 = true → (a.staged.getD i {}).fits = true) : a.badRegion = none := by
  simp only [AccT.badRegion, List.find?_range_eq_none, Bool.not_eq_true', Bool.and_eq_false_imp, Bool.not_eq_false']
  exact h

theorem AccT.badRegion_first {a : AccT} {i : Nat} (hi : i < 64) (he : bit (a.staged.getD i {}).cfg 0 = true) (hb : (a.staged.getD i {}).fits = false)
    (h : ∀ j, j < i → bit (a.staged.getD j {}).cfg 0 = true → (a.staged.getD j {}).fits = true) : a.badRegion = some i := by
  simp only [AccT.badRegion, List.find?_range_eq_some, List.mem_range, Bool.not_eq_true', Bool.and_eq_false_imp, Bool.not_eq_false']
  exact ⟨by rw [he, hb]; rfl, hi, h⟩

theorem Dev.accCommit_good {d : Dev} (h : d.acc.badRegion = none) : d.accCommit
    = { d with acc := { d.acc with committed := d.acc.staged, older := some d.acc.committed, epoch := (d.acc.epoch + 1) % 65536, result := 0 } } := by
  simp only [Dev.accCommit, h]

theorem Dev.accCommit_bad {d : Dev} {i : Nat} (h : d.acc.badRegion = some i) :
    d.accCommit = ({ d with acc := { d.acc with result := 1, badRgn := i } } : Dev).evtBit Off.accEvt 1 := by
  simp only [Dev.accCommit, h]

/-- A commit or a discard while a commit is replicated is reported. -/
theorem accCommitW_busy {d : Dev} {v : Word} (h : d.acc.older ≠ none) (hv : fld v 1 0 ≠ 0) : accCommitW v d = .viol :=
  if_pos ⟨Option.isSome_iff_ne_none.mpr h, hv⟩
theorem accCommitW_commit {d : Dev} (h : d.acc.older = none) : accCommitW 1#32 d = .took d.accCommit := by
  simp [accCommitW, h, bit]
theorem accCommitW_discard {d : Dev} (h : d.acc.older = none) : accCommitW 2#32 d = .took { d with acc := { d.acc with staged := d.acc.committed } } := by
  simp [accCommitW, h, bit]

/-! ### The fence, and the gates -/

theorem commitReplicatedOp_last (c : Ctx) {d : Dev} (h : d.acc.older ≠ none) :
    commitReplicatedOp c d = ({ d with acc := { d.acc with older := none } } : Dev).evtBit Off.accEvt 1 := if_pos (Option.isSome_iff_ne_none.mpr h)
theorem commitReplicatedOp_idle (c : Ctx) {d : Dev} (h : d.acc.older = none) : commitReplicatedOp c d = d := by simp [commitReplicatedOp, h]

theorem accFenceW_starts {d : Dev} (h : d.acc.fence = false) : accFenceW 1#32 d = .took { d with acc := { d.acc with fence := true, fenceEpoch := d.acc.epoch } } := by
  simp [accFenceW, h, bit]
theorem accFenceW_busy {d : Dev} (h : d.acc.fence = true) : accFenceW 1#32 d = .viol := by simp [accFenceW, h, bit]

theorem AccT.gatesHold_iff (a : AccT) : a.gatesHold = true ↔ a.older = none ∨ a.fenceEpoch ≠ a.epoch := by simp [AccT.gatesHold]

theorem accFenceDoneOp_ends (c : Ctx) {d : Dev} (hf : d.acc.fence = true) (h : d.acc.gatesHold = true) :
    accFenceDoneOp c d = ({ d with acc := { d.acc with fence := false } } : Dev).evtBit Off.accEvt 2 := if_pos (by rw [hf, h]; rfl)
theorem accFenceDoneOp_waits (c : Ctx) {d : Dev} (h : d.acc.gatesHold = false) : accFenceDoneOp c d = d := if_neg (by simp [h])

/-- Settles O51: COMMIT by its first bad region, DISCARD and the fence by the commit and the fence in progress, the latch by its VALID bit. -/
theorem accessRules : Obligations.AccessRules := by
  unfold Obligations.AccessRules
  intro s
  dsimp only
  simp only [← Region.fits_iff, Bool.not_eq_true]
  refine ⟨fun hm => ⟨fun ho => ⟨?_, ?_⟩, fun ho => ⟨fun hall => ?_, fun i hi he hb hj => ?_, ?_⟩⟩, fun ho => ?_, fun ho => ?_, fun hm => ⟨fun hf => ?_, fun hf => ?_⟩,
    fun hf => ⟨fun hg => ?_, fun ho he => ?_⟩, fun hm => ?_⟩
  · exact onDev_viol (f := fun _ => accCommitW 1#32) hm (by decide) (accCommitW_busy ho (by decide))
  · exact onDev_viol (f := fun _ => accCommitW 2#32) hm (by decide) (accCommitW_busy ho (by decide))
  · exact onDev_took (f := fun _ => accCommitW 1#32) hm (by decide) ((accCommitW_commit ho).trans (congrArg _ (Dev.accCommit_good (AccT.badRegion_none hall))))
  · refine ⟨_, onDev_took (f := fun _ => accCommitW 1#32) hm (by decide) ((accCommitW_commit ho).trans (congrArg _ (Dev.accCommit_bad (AccT.badRegion_first hi he hb hj)))), .of_dev .., ?_, ?_⟩
    · exact Dev.evtBit_acc ..
    · exact Dev.evtBit_bit _ _ (by decide)
  · exact onDev_took (f := fun _ => accCommitW 2#32) hm (by decide) (accCommitW_discard ho)
  · refine ⟨_, onDev_gives (commitReplicatedOp_last s.ctx ho), .of_dev .., ?_, ?_⟩
    · exact Dev.evtBit_acc ..
    · exact Dev.evtBit_bit _ _ (by decide)
  · exact onDev_idle (commitReplicatedOp_idle s.ctx ho)
  · exact onDev_took (f := fun _ => accFenceW 1#32) hm (by decide) (accFenceW_starts hf)
  · exact onDev_viol (f := fun _ => accFenceW 1#32) hm (by decide) (accFenceW_busy hf)
  · refine ⟨_, onDev_gives (accFenceDoneOp_ends s.ctx hf ((AccT.gatesHold_iff _).mpr hg)), .of_dev .., ?_, ?_⟩
    · exact Dev.evtBit_acc ..
    · exact Dev.evtBit_bit _ _ (by decide)
  · exact onDev_idle (accFenceDoneOp_waits s.ctx (Bool.eq_false_iff.mpr (by rw [Ne, AccT.gatesHold_iff]; tauto)))
  · refine ⟨_, onDev_took (f := fun _ => violStatW 1#32) hm (by decide) rfl, .of_dev .., ?_, ?_⟩
    · exact Dev.clrReg_acc ..
    · exact Dev.reg_setReg ..

end Sys2Proof.Machine

/-! SMBus accesses (R590, R642): what the wake of a write in STANDBY rests on. -/

namespace Sys2Proof.Machine

/-! ### What a write in STANDBY leaves of the supply -/

/-- What decides whether a reset that is signalled acts at once: main power, and a supply warning (R594, R599). -/
def Dev.supply (d : Dev) : Bool × Bool := (d.pwr.powered, d.warning)

section
variable (d : Dev) (c : Ctx)

theorem Dev.supply_of_pwr {d e : Dev} (h : e.pwr = d.pwr) : e.supply = d.supply := by simp only [Dev.supply, Dev.warning, h]
theorem Dev.supply_of_apart {d e : Dev} (h : e.apart = d.apart) : e.supply = d.supply := Dev.supply_of_pwr (congrArg Apart.pwr h)
theorem Dev.groveSwitchOff_supply (g : Nat) : (d.groveSwitchOff c g).supply = d.supply :=
  (show _ = (d.groveLeaves c g .gated).supply from rfl).trans (Dev.supply_of_apart (Dev.groveLeaves_gated_apart d c g))
theorem Dev.grovesOff_supply (l : List Nat) : (d.grovesOff c l).supply = d.supply :=
  foldl_keep Dev.supply _ (fun a g => by
    split
    · exact a.groveSwitchOff_supply c g
    · rfl) l d
theorem Dev.enterStandby_supply : (d.enterStandby c).supply = d.supply :=
  (show _ = (d.grovesOff c (List.range 12)).supply from rfl).trans (d.grovesOff_supply c _)
theorem Dev.groveWake_supply (g : Nat) : (d.groveWake g).supply = d.supply := by
  unfold Dev.groveWake
  split <;> rfl
theorem Dev.groveEnable_supply (g : Nat) : (d.groveEnable g).supply = d.supply := by
  unfold Dev.groveEnable
  split
  · split <;> rfl
  · exact d.groveWake_supply g
theorem Dev.groveDisable_supply (g : Nat) : (d.groveDisable c g).supply = d.supply := by
  unfold Dev.groveDisable
  split
  · split
    · exact Dev.supply_of_apart (Dev.unplace_apart ..)
    · exact d.groveSwitchOff_supply c g
  · rfl
end

section
variable {c : Ctx} {v : Word} {d e : Dev}

theorem groveEnW_supply (h : groveEnW c v d = .took e) : e.supply = d.supply := by
  injection h with h
  subst h
  refine foldl_keep Dev.supply _ (fun a g => ?_) _ _
  split
  · rfl
  · split
    · exact a.groveEnable_supply g
    · exact a.groveDisable_supply c g

theorem pwrCmdW_supply (h : pwrCmdW c v d = .took e) : e.supply = d.supply := by
  have hfin : ∀ res, (((d.onPwr (fun p => { p with cmdResult := res })).evtBit Off.pwrEvt 7).supply = d.supply) := fun res => by
    simp [Dev.supply, Dev.warning]
  unfold pwrCmdW at h
  dsimp only at h
  split at h
  · injection h with h; subst h; exact hfin 2
  · split at h
    · injection h with h; subst h; exact hfin 1
    · injection h with h; subst h; exact (Dev.enterStandby_supply ..).trans (hfin 0)

theorem pwrW_supply {off : Nat} (h : pwrW c off v d = .took e) : e.supply = d.supply := by
  unfold pwrW at h
  split at h
  · exact pwrCmdW_supply h
  · split at h
    · exact groveEnW_supply h
    · repeat' split at h
      all_goals cases h
      all_goals rfl

/-- A register that answers in STANDBY leaves the supply (R590). -/
theorem regW_supply {off : Nat} (ho : smbusStandby off = true) (h : regW c off v d = .took e) : e.supply = d.supply := by
  simp only [smbusStandby, Bool.or_eq_true, beq_iff_eq] at ho
  rcases ho with (rfl | hp) | rfl
  · cases h
  · simp only [regW, hp] at h
    exact pwrW_supply h
  · cases h
end

/-! ### Commands on the bus -/

section
variable {s : State} {off : Nat}

/-- The wake of a part that stands by: start-up begins at stage 1 (R590). -/
theorem wake_begins {c : Ctx} {d : Dev} (hp : d.pwr.powered = true) (hw : d.warning = false) :
    (d.signalReset c .wake).pwr.stage = 1 ∧ (d.signalReset c .wake).pwr.standby = false ∧ (d.signalReset c .wake).pwr.cause = 7 := by
  obtain ⟨hstage, _, hstandby, hcause, _⟩ := d.resetTo_begun c .wake (by decide)
  rw [Dev.signalReset_now c .wake hp hw]
  exact ⟨hstage, hstandby, hcause⟩

theorem smbusBlockWrite_awake (v : Word) (h : s.dev.pwr.standby = false) :
    exec (.smbusBlockWrite off v) s = exec (.registerWrite 0 off 32 (v.setWidth 64)) s := if_neg (by simp [h])

theorem smbusBlockWrite_wakes (v : Word) (hp : s.dev.pwr.powered = true) (hs : s.dev.pwr.standby = true) (hw : s.dev.warning = false) :
    ∃ u, exec (.smbusBlockWrite off v) s = .next u ∧ DevOnly s u ∧ u.dev.pwr.stage = 1 ∧ u.dev.pwr.standby = false ∧ u.dev.pwr.cause = 7 := by
  refine ⟨_, (if_pos (by simp [hp, hs]) : execSmbusBlockWrite off v s = _), .of_dev .., ?_⟩
  dsimp only
  generalize he : (if (smbusStandby off && off % 4 == 0) = true then _ else _) = e
  have hsup : e.supply = s.dev.supply := by
    split at he
    · next ho =>
      split at he
      · next x hx =>
        subst he
        exact regW_supply (Bool.and_eq_true_iff.mp ho).1 hx
      · subst he; rfl
    · subst he; rfl
  exact wake_begins ((congrArg Prod.fst hsup).trans hp) ((congrArg Prod.snd hsup).trans hw)

theorem smbusReadOp_awake {c : Ctx} {d : Dev} (hp : d.pwr.powered = true) (hs : d.pwr.standby = false) :
    smbusReadOp off c d = { hostReadOp off 32 c d with
      rdata := ((hostReadOp off 32 c d).rdata.setWidth 32).setWidth 64, tx := .smbus ((hostReadOp off 32 c d).rdata.setWidth 32) :: (hostReadOp off 32 c d).tx } := by
  simp [smbusReadOp, hp, hs, loW, Dev.emit]

/-- A read in STANDBY answers from the state before the wake (log entry 66). -/
theorem smbusReadOp_standby {c : Ctx} {d : Dev} (hp : d.pwr.powered = true) (hs : d.pwr.standby = true) :
    smbusReadOp off c d = ((({ d.signalReset c .wake with
      rdata := (if smbusStandby off && off % 4 == 0 then d.readReg c off else 0#32).setWidth 64 } : Dev)).emit
        (.smbus (if smbusStandby off && off % 4 == 0 then d.readReg c off else 0#32))) := by
  simp only [smbusReadOp, hp, hs, Bool.not_true, Bool.false_eq_true, if_false, if_true]

end

/-- Settles O60: outside STANDBY a command is the host's access; in STANDBY its wake is `wake_begins`, after a write that leaves the supply. -/
theorem smbusAccesses : Obligations.SmbusAccesses := by
  unfold Obligations.SmbusAccesses
  intro s off v
  dsimp only
  refine ⟨smbusBlockWrite_awake v, fun hp hs => ⟨_, rfl, onDev_gives (smbusReadOp_awake hp hs)⟩, fun hp => onDev_idle (by simp [smbusReadOp, hp]),
    fun hp hs hw => ⟨smbusBlockWrite_wakes v hp hs hw, ?_⟩⟩
  obtain ⟨hstage, hstandby, hcause⟩ := wake_begins (c := s.ctx) hp hw
  refine ⟨_, onDev_gives (smbusReadOp_standby hp hs), .of_dev .., hstage, hstandby, hcause, fun ho ha => ?_, fun ho => ?_⟩
  · simp [ho, ha, Dev.emit]
  · simp [ho, Dev.emit]

end Sys2Proof.Machine

/-! Transition requests and GO (R523 to R529), boundary scan, memory test mode and the fuse port (R517, R519, R533, R540). -/

namespace Sys2Proof.Machine

/-! ### Test access port -/

section
variable {d : Dev}

theorem Dev.onJtag_powered (h : d.pwr.powered = true) (code : Nat) (f : Dev → Dev) : d.onJtag code f = { f d with lcs := { (f d).lcs with jtag := code } } := if_pos h
theorem Dev.onJtag_dead (h : d.pwr.powered = false) (code : Nat) (f : Dev → Dev) : d.onJtag code f = d := if_neg (by simp [h])

/-- An instruction of the port while the part is powered, and without power. -/
theorem jtag_answers {s : State} (hp : s.dev.pwr.powered = true) (code : Nat) (f : Ctx → Dev → Dev) :
    s.onDev (fun c d => d.onJtag code (f c)) = .next { s with dev := { f s.ctx s.dev with lcs := { (f s.ctx s.dev).lcs with jtag := code } } } :=
  onDev_gives (f := fun c d => d.onJtag code (f c)) (Dev.onJtag_powered hp ..)
theorem jtag_dead {s : State} (hp : s.dev.pwr.powered = false) (code : Nat) (f : Ctx → Dev → Dev) : s.onDev (fun c d => d.onJtag code (f c)) = .next s :=
  onDev_idle (f := fun c d => d.onJtag code (f c)) (Dev.onJtag_dead hp ..)

/-- What the bypass register shifts out: 0 unless BYPASS was selected before (R540). -/
theorem bypass_out (l : Lcs) : b2n (l.jtag == Jtag.bypass && l.bypass) = if l.jtag = 0 ∧ l.bypass = true then 1 else 0 := by
  simp [b2n, Jtag.bypass]

theorem idcode_fields (c : Ctx) (d : Dev) : idcode c d % 2 ^ 12 = 0x9C7 ∧ idcode c d / 2 ^ 12 % 2 ^ 16 = 0x7160 := by
  unfold idcode
  omega

theorem memTestOp_enters {c : Ctx} (hp : d.pwr.powered = true) (ht : c.otp.testsAllowed = true) (hr : d.ringsDefined = 0) :
    memTestOp true c d = { d with lcs := { d.lcs with memTest := true } } := if_pos (by simp [hp, ht, hr])
theorem memTestOp_barred {c : Ctx} (ht : c.otp.testsAllowed = false) : memTestOp true c d = d := if_neg (by simp [ht])
end

/-! ### The fuse port -/

theorem fuseProgram_sets {s : State} {g w : Nat} (v : Word) (hb : s.otp.state = .blank) (ht : s.otp.inTransition = false) (ho : s.otp.openRec = none)
    (hp : s.dev.pwr.powered = true) (hw : 4 * w < fuseBytes g) : exec (.fuseProgram g w v) s = .next { s with otp := s.otp.program g w v } :=
  congrArg Host.Outcome.next (if_pos (by simp [hb, ht, ho, hp, hw]))

theorem fuseProgram_barred {s : State} {g w : Nat} {v : Word} (h : s.otp.state ≠ .blank ∨ s.otp.inTransition = true) : exec (.fuseProgram g w v) s = .next s :=
  congrArg Host.Outcome.next (if_neg (by rcases h with h | h <;> simp [h]))

/-- Settles O50: each instruction of the port by `Dev.onJtag`, memory test mode by its conditions, the fuse port by `Otp.word_program`. -/
theorem testPort : Obligations.TestPort := by
  unfold Obligations.TestPort
  intro s
  dsimp only
  refine ⟨fun hp => ⟨fun b => ?_, ?_, fun p q => ?_, fun p => ?_, ?_, ?_⟩, fun hp c hc => ?_, fun hp ht hr => onDev_gives (memTestOp_enters hp ht hr), onDev_idle rfl,
    fun ht => onDev_idle (memTestOp_barred ht), fun g w v => ⟨fun hb ht ho hp hw => ?_, fuseProgram_barred⟩⟩
  · rw [← bypass_out]
    exact jtag_answers hp Jtag.bypass (fun _ => Dev.bypassBit b)
  · exact ⟨idcode s.ctx s.dev, jtag_answers hp Jtag.idcode (fun c d => d.emit (.tdo 32 (idcode c d))), idcode_fields s.ctx s.dev⟩
  · exact jtag_answers hp Jtag.sample (fun _ d => { d.scanPins p with lcs := { (d.scanPins p).lcs with preload := q } })
  · exact jtag_answers hp Jtag.extest (fun _ => Dev.scanPins p)
  · exact jtag_answers hp Jtag.clamp (fun _ => Dev.selectBypass)
  · exact jtag_answers hp Jtag.highz (fun _ => Dev.selectBypass)
  · rcases hc with ⟨b, rfl⟩ | rfl | ⟨p, q, rfl⟩ | ⟨p, rfl⟩ | rfl | rfl 
    exacts [jtag_dead hp Jtag.bypass (fun _ => Dev.bypassBit b), jtag_dead hp Jtag.idcode (fun c d => d.emit (.tdo 32 (idcode c d))),
      jtag_dead hp Jtag.sample (fun _ d => { d.scanPins p with lcs := { (d.scanPins p).lcs with preload := q } }), jtag_dead hp Jtag.extest (fun _ => Dev.scanPins p),
      jtag_dead hp Jtag.clamp (fun _ => Dev.selectBypass), jtag_dead hp Jtag.highz (fun _ => Dev.selectBypass)]
  · exact ⟨_, fuseProgram_sets v hb ht ho hp hw, rfl, rfl, rfl, rfl, s.otp.word_program g w v, fun g' w' h => s.otp.word_program_ne h v, rfl, rfl, rfl⟩

/-! ### Transition requests -/

/-- The checks of a request in the order of R524, as one condition each. -/
theorem lcRequestFail_eq (c : Ctx) (r : DmaRead) (d : Dev) : lcRequestFail c r d =
    if !(r.refused == false && r.failed == false && decide (48 ≤ r.data.length) && le r.data 0 2 == 1 && (le r.data 2 2 == 2 || le r.data 2 2 == 3) && allZero (bsub r.data 30 18)) then 1
    else if !(le r.data 4 4 == (if le r.data 2 2 = 2 then 96 else 3309) && decide (48 + le r.data 4 4 ≤ r.data.length) && d.nymjorSig c r.data) then 2
    else if !(unitIdIs r.data 8 && le r.data 24 4 == c.otp.counter) then 3
    else if !(byteAt r.data 28 == c.otp.state.code && !c.otp.inTransition && decide (byteAt r.data 28 < 5) && (byteAt r.data 29 == byteAt r.data 28 + 1 || byteAt r.data 29 == 5)) then 4
    else if 64 ≤ c.otp.counter then 5 else 0 := by
  unfold lcRequestFail svcSigLen pathOk
  refine if_congr ?_ rfl (if_congr ?_ rfl (if_congr ?_ rfl (if_congr ?_ rfl rfl)))
  · simp [or_assoc]
  · simp [or_assoc]
  · simp
  · simp [imp_iff_not_or, or_assoc]

/-! ### What the reset of a transition leaves of the controller's state -/

section
variable (d : Dev) (c : Ctx)

theorem Dev.commitCause_lcs (q : EvCause) : (d.commitCause q).lcs = d.lcs := by
  unfold Dev.commitCause
  dsimp only
  split
  · rfl
  · split
    · exact Dev.evt_lcs ..
    · split
      · rfl
      · exact Dev.evtBit_lcs ..
theorem Dev.appendNext_lcs : (d.appendNext c).lcs = d.lcs := by
  unfold Dev.appendNext
  split
  · rfl
  · split
    · rfl
    · dsimp only
      split
      · exact Dev.commitCause_lcs ..
      · exact (Dev.evidence_lcs ..).trans (Dev.commitCause_lcs ..)
theorem Dev.appendAll_lcs : ∀ (n : Nat) (d : Dev), (d.appendAll c n).lcs = d.lcs
  | 0, _ => rfl
  | n + 1, d => by
    unfold Dev.appendAll
    split
    · rfl
    · exact (Dev.appendAll_lcs n _).trans (d.appendNext_lcs c)

theorem Dev.rawLeave_lcs : d.rawLeave.lcs = d.lcs := by
  unfold Dev.rawLeave
  dsimp only
  split <;> rfl
theorem Dev.cerEnd_lcs (n : Nat) (q : Bool) (r : Nat) : (d.cerEnd c n q r).lcs = d.lcs := by
  unfold Dev.cerEnd
  extract_lets k d0 d1
  have h1 : d1.lcs = d.lcs := by
    show ((d0.updCer n _).evtBit Off.cusEvt 3).lcs = _
    rw [Dev.evtBit_lcs]
    unfold d0
    split <;> rfl
  split
  · exact (Dev.evidence_lcs ..).trans h1
  · exact h1
/-- Closing the debug scope changes the scope alone (R539). -/
theorem Dev.dbgReset_lcs : (d.dbgReset c).lcs = { d.lcs with scope := 0, expiry := if d.lcs.scope = 0 then d.lcs.expiry else 0 } := by
  by_cases h : d.lcs.scope = 0
  · rw [Dev.dbgReset_closed h, if_pos h, ← h]
  · rw [(Dev.dbgReset_open h).1, if_neg h]
theorem Dev.closing_report : (d.closing c).lcs.report = d.lcs.report := by
  unfold Dev.closing
  refine (foldl_keep (fun a : Dev => a.lcs.report) _ (fun a n => ?_) _ _).trans ?_
  · split
    · exact congrArg Lcs.report (Dev.cerEnd_lcs ..)
    · rfl
  · rw [Dev.dbgReset_lcs, Dev.rawLeave_lcs]
    exact congrArg (fun a => a.lcs.report) (d.abandonAll_apart c)
theorem Dev.resetTo_lcs (k : ResetKind) : (d.resetTo c k).lcs = (d.closing c).lcs.restarted := by
  dsimp only [Dev.resetTo, Dev.closing]
end

/-! ### GO -/

/-- The request that GO asks for is the one accepted, and nothing holds the transition back (R527). -/
def Dev.goHeld (d : Dev) : Prop := d.ringsDefined ≠ 0 ∨ d.fab.pair.role ≠ .unpaired ∨ d.warning = true

section
variable {c : Ctx} {d : Dev} {v : Word} {t n : Nat}

theorem lcGoRefused_none (h : d.lcs.reqLoaded = none) : d.lcGoRefused c v = 1 := by simp only [Dev.lcGoRefused, h]
theorem lcGoRefused_other (h : d.lcs.reqLoaded = some (t, n)) (hv : fld v 2 0 ≠ t ∨ fld v 15 8 ≠ n) : d.lcGoRefused c v = 2 := by
  simp only [Dev.lcGoRefused, h, if_pos hv]
theorem lcGoRefused_held (h : d.lcs.reqLoaded = some (t, n)) (ht : fld v 2 0 = t) (hn : fld v 15 8 = n) (hb : d.goHeld) : d.lcGoRefused c v = 3 := by
  unfold Dev.goHeld at hb
  simp only [Dev.lcGoRefused, h, ht, hn, ne_eq, not_true_eq_false, or_self, if_false]
  exact if_pos (by tauto)
theorem lcGoRefused_starts (h : d.lcs.reqLoaded = some (t, n)) (ht : fld v 2 0 = t) (hn : fld v 15 8 = n) (hb : ¬ d.goHeld) (hs : c.otp.state ≠ .blank) :
    d.lcGoRefused c v = 0 := by
  unfold Dev.goHeld at hb
  simp only [Dev.lcGoRefused, h, ht, hn, ne_eq, not_true_eq_false, or_self, if_false]
  exact if_neg (by tauto)

/-- The write may act: outside FIELD and FIELD_RETURN, or in the ceremony of the class (R526). -/
def GoMay (c : Ctx) (v : Word) (d : Dev) : Prop := ¬ (c.otp.state = .field ∨ c.otp.state = .fieldReturn) ∨ d.quorum Off.lcsGo v = true

theorem lcGoW_unguarded (hg : c.otp.state = .field ∨ c.otp.state = .fieldReturn) (hq : d.quorum Off.lcsGo v = false) : lcGoW c v d = .viol := by
  unfold lcGoW
  exact if_pos ⟨hg, hq⟩
theorem lcGoW_refused {r : Nat} (hg : GoMay c v d) (hv : bit v 31 = true) (hr : d.lcGoRefused c v = r) (h0 : r ≠ 0) :
    lcGoW c v d = .took { d.setReg Off.lcsGo (v &&& 0x8000FF07#32) with lcs := { d.lcs with goResult := r } } := by
  subst hr
  unfold lcGoW
  rw [if_neg (by unfold GoMay at hg; grind), if_neg (by simp [hv]), if_pos h0]
  rfl

/-- What the write leaves before the fuses are programmed and the part restarts. -/
def Dev.goStarts (c : Ctx) (v : Word) (d : Dev) : Dev :=
  (({ d.setReg Off.lcsGo (v &&& 0x8000FF07#32) with
      lcs := { d.lcs with goResult := 0, reqLoaded := none, report := some (c.otp.state.code, fld v 2 0) } } : Dev).dbgReset c).evidence c Ev.lifecycle
    (toLe 1 c.otp.state.code ++ toLe 1 (fld v 2 0) ++ toLe 1 0)

theorem lcGoW_starts (hg : GoMay c v d) (hv : bit v 31 = true) (hr : d.lcGoRefused c v = 0) : lcGoW c v d = .took (d.goStarts c v) := by
  unfold lcGoW
  rw [if_neg (by unfold GoMay at hg; grind), if_neg (by simp [hv]), if_neg (by simp [hr])]
  rfl

theorem Dev.goStarts_report : (d.goStarts c v).lcs.report = some (c.otp.state.code, fld v 2 0) := by
  unfold Dev.goStarts
  rw [Dev.evidence_lcs, Dev.dbgReset_lcs]
end

section
variable {s : State} {v : Word}

/-- A GO whose write starts no transition. -/
theorem lcGo_starts_none {e : Dev} (h : s.dev.hostWrite s.ctx Off.lcsGo (lcGoW s.ctx v) = e) (hr : e.lcs.report = s.dev.lcs.report) :
    exec (.lcGo v) s = .next { s with dev := e } := by
  subst h
  show Host.Outcome.next (State.goLatch s.dev.lcs.report { s with dev := s.dev.hostWrite s.ctx Off.lcsGo (lcGoW s.ctx v) }) = _
  rw [goLatch_of_eq hr]

theorem lcGo_unguarded (hm : HostMay s true Off.lcsGo) (hg : s.otp.state = .field ∨ s.otp.state = .fieldReturn) (hq : s.dev.quorum Off.lcsGo v = false) :
    exec (.lcGo v) s = .next { s with dev := s.dev.ruleViolation s.ctx Off.lcsGo } :=
  lcGo_starts_none (hostWrite_own_viol hm (by decide) (lcGoW_unguarded hg hq)) (congrArg Lcs.report (Dev.ruleViolation_lcs ..))

theorem lcGo_ends (hm : HostMay s true Off.lcsGo) (hg : GoMay s.ctx v s.dev) (hv : bit v 31 = true) {r : Nat} (hr : s.dev.lcGoRefused s.ctx v = r) (h0 : r ≠ 0) :
    ∃ u, exec (.lcGo v) s = .next u ∧ DevOnly s u ∧ u.dev.lcs = { s.dev.lcs with goResult := r } ∧ u.dev.reg Off.lcsGo = v &&& 0x8000FF07#32 :=
  ⟨_, lcGo_starts_none (hostWrite_own hm (by decide) (lcGoW_refused hg hv hr h0)) rfl, .of_dev .., rfl, Dev.reg_setReg ..⟩

/-- A GO that starts a transition: the fuses of its record, and the part again at stage 1 (R528, R529). -/
theorem lcGo_begins (hm : HostMay s true Off.lcsGo) (hg : GoMay s.ctx v s.dev) (hv : bit v 31 = true) (hr : s.dev.lcGoRefused s.ctx v = 0) (hn : s.dev.lcs.report = none) :
    exec (.lcGo v) s = .next { s with
      otp := { s.otp with recs := s.otp.recs ++ [(1#32 <<< (fld v 2 0 - 1)) ||| 0x300#32] }
      dev := ((s.dev.goStarts s.ctx v).appendAll s.ctx 64).resetTo s.ctx .transition } := by
  have hw := hostWrite_own hm (by decide) (lcGoW_starts hg hv hr)
  show Host.Outcome.next (State.goLatch s.dev.lcs.report { s with dev := s.dev.hostWrite s.ctx Off.lcsGo (lcGoW s.ctx v) }) = _
  rw [hw, hn]
  simp only [State.goLatch, Dev.goStarts_report, reduceCtorEq, if_false]
  rfl

theorem Lcs.restarted_report (l : Lcs) : l.restarted.report = l.report ∧ l.restarted.reqLoaded = none := ⟨rfl, rfl⟩
theorem Pwr.restarted_transition (p : Pwr) : (p.restarted .transition).stage = 1 ∧ (p.restarted .transition).cause = 2 := ⟨rfl, rfl⟩

/-- The reset of a transition: stage 1 with the transition as its cause. -/
theorem resetTo_transition (c : Ctx) (d : Dev) : (d.resetTo c .transition).pwr.stage = 1 ∧ (d.resetTo c .transition).pwr.cause = 2
    ∧ (d.resetTo c .transition).lcs.report = d.lcs.report ∧ (d.resetTo c .transition).lcs.reqLoaded = none := by
  obtain ⟨hstage, hcause⟩ := (d.closing c).pwr.restarted_transition
  obtain ⟨hreport, hreq⟩ := (d.closing c).lcs.restarted_report
  rw [Dev.resetTo_pwr, Dev.resetTo_lcs]
  exact ⟨hstage, hcause, hreport.trans (d.closing_report c), hreq⟩
end

/-- Settles O48: LOAD by the checks in their order, GO by the first reason that holds it back, else by `lcGo_begins`. -/
theorem lifeCycleSteps : Obligations.LifeCycleSteps := by
  unfold Obligations.LifeCycleSteps
  intro s
  dsimp only
  refine ⟨fun data read hm => ?_, fun v hm => ⟨lcGo_unguarded hm, fun hg hv => ⟨fun hn => lcGo_ends hm hg hv (lcGoRefused_none hn) (by decide), fun t n hl =>
    ⟨fun h => lcGo_ends hm hg hv (lcGoRefused_other hl h) (by decide), fun ht hn hb => lcGo_ends hm hg hv (lcGoRefused_held hl ht hn hb) (by decide), fun ht hn hb hs hr => ?_⟩⟩⟩⟩
  · refine ⟨_, onDev_took (f := fun c => lcLoadW c (dmaRead data read)) hm (by decide) rfl, .of_dev .., Dev.evtBit_bit _ _ (by decide), ?_⟩
    rw [Dev.evtBit_lcs, lcRequestFail_eq]
    rfl
  · obtain ⟨hstage, hcause, hreport, hreq⟩ := resetTo_transition s.ctx ((s.dev.goStarts s.ctx v).appendAll s.ctx 64)
    refine ⟨_, lcGo_begins hm hg hv (lcGoRefused_starts hl ht hn hb hs) hr, rfl, rfl, rfl, by rw [ht], hstage, hcause, ?_, hreq⟩
    rw [hreport, Dev.appendAll_lcs, Dev.goStarts_report, ht]
    rfl

end Sys2Proof.Machine

/-! The evidence engine and its EXPORT, the event recorder (R493 to R500, R502 to R512). -/

namespace Sys2Proof.Machine

/-- A saturating count, and the smaller of the two. -/
theorem sat_eq_min (m v : Nat) : sat m v = min m v := by
  unfold sat
  split <;> omega

/-- The two lowest bits after they are set. -/
theorem fld_or_three (v : Word) : fld (v ||| 0b11#32) 1 0 = 3 := by
  have h : ∀ a, a < 4 → a ||| 3 = 3 := by decide
  unfold fld
  rw [BitVec.toNat_or, Nat.shiftRight_zero, Nat.or_mod_two_pow]
  exact h _ (Nat.mod_lt _ (by decide))

/-! ### One cause of the queue -/

section
variable {e : Evl} {d : Dev} (q : EvCause)

theorem Evl.full_eq_false (h : e.recs.length < 65536) : e.full = false := decide_eq_false (by omega)

/-- The OVERFLOW record of the last index (R500). -/
def EvCause.overflow (q : EvCause) (link : Bytes) : EvRecord :=
  { typ := Ev.overflow, stamp := q.stamp, payload := padTo 28 (toLe 2 q.typ ++ zeros 2 ++ toLe 8 q.stamp.toNat), recon := false, repeats := 1, link := link }

theorem Dev.commitCause_next {q : EvCause} (h : d.evl.recs.length < 65535) (hm : d.evl.matchesLast q = false) :
    d.commitCause q = ({ d with evl := d.evl.push q.typ q.stamp q.recon (d.evl.fillPayload q) 0 } : Dev).evtBit Off.evlEvt 0 := by
  simp [Dev.commitCause, Evl.full_eq_false (e := d.evl) (by omega), show d.evl.recs.length ≠ 65535 by omega, hm]
theorem Dev.commitCause_repeat {q : EvCause} (h : d.evl.recs.length < 65536) (hl : d.evl.recs.length ≠ 65535) (hm : d.evl.matchesLast q = true) :
    d.commitCause q = { d with evl := d.evl.repeatLast } := by
  simp [Dev.commitCause, Evl.full_eq_false h, hl, hm]
theorem Dev.commitCause_last (h : d.evl.recs.length = 65535) :
    d.commitCause q = ({ d with evl := { d.evl with recs := q.overflow d.evl.nextLink :: d.evl.recs } } : Dev).evt Off.evlEvt 0b11#32 := by
  simp [Dev.commitCause, Evl.full_eq_false (e := d.evl) (by omega), h, Evl.push, EvCause.overflow]
theorem Dev.commitCause_full (h : 65536 ≤ d.evl.recs.length) : d.commitCause q = { d with evl := d.evl.overflowMore q } := by
  simp [Dev.commitCause, Evl.full, h]

/-- An EXPORT record never matches the last one (R496). -/
theorem Evl.matchesLast_exported {q : EvCause} (h : q.typ = Ev.exported) : e.matchesLast q = false := by
  unfold Evl.matchesLast
  split
  · rfl
  · split
    · rfl
    · next r l _ hr =>
      rw [if_neg (by rw [h]; decide), h]
      simp [show r.typ ≠ Ev.exported from fun hx => hr (.inl hx)]
end

section
variable {s : State}

/-- What is left in the queue once its oldest cause is taken. -/
def Dev.withQueue (t : List EvCause) (d : Dev) : Dev := { d with evl := { d.evl with queue := t } }

theorem evidenceAppend_holds (h : s.dev.evl.queue = [] ∨ s.dev.evl.exporting = true ∨ s.dev.endpointUp = false) : exec .evidenceAppend s = .next s := by
  refine onDev_idle (f := fun c d => if d.endpointUp then d.appendNext c else d) ?_
  split
  · next hu =>
    unfold Dev.appendNext
    split
    · rfl
    · next hq => exact if_pos (by simpa [hq, hu] using h)
  · rfl

theorem evidenceAppend_takes {q : EvCause} {t : List EvCause} {x : Dev} (hu : s.dev.endpointUp = true) (hq : s.dev.evl.queue = q :: t) (hx : s.dev.evl.exporting = false)
    (h : (s.dev.withQueue t).commitCause q = x) (hl : x.evl.lost = 0) : exec .evidenceAppend s = .next { s with dev := x } := by
  subst h
  refine onDev_gives (f := fun c d => if d.endpointUp then d.appendNext c else d) ?_
  rw [if_pos hu]
  unfold Dev.appendNext
  split
  · next h => cases hq.symm.trans h
  · next h =>
    cases hq.symm.trans h
    rw [if_neg (by simp [hx])]
    exact if_pos hl
end

/-! ### EXPORT -/

section
variable {c : Ctx} {d : Dev} {v : Word}

theorem Dev.exportEnd_spec (r : Nat) (d : Dev) : (d.exportEnd r).evl = { d.evl with exporting := false, expResult := r } ∧ bit ((d.exportEnd r).reg Off.evlEvt) 2 = true :=
  ⟨Dev.evtBit_evl .., Dev.evtBit_bit _ _ (by decide)⟩

/-- The EXPORT cause of a log (R511). -/
def Dev.exportCause (c : Ctx) (d : Dev) : EvCause :=
  { typ := Ev.exported, stamp := d.stamp c, payload := padTo 28 (toLe 8 (d.reg64 Off.evlExportNonceLo) ++ toLe 4 (d.evl.recs.length + 1)) }

/-- An EXPORT that begins with nothing in the queue. -/
def Dev.exportBegins (c : Ctx) (d : Dev) : Dev :=
  let e := d.commitCause (d.exportCause c)
  ({ e with evl := { e.evl with exporting := true } } : Dev).fwReady c 3

theorem exportW_viol (h : d.quorum Off.evlExportCmd v = false ∨ d.evl.exporting = true) (hv : bit v 0 = true) : exportW c v d = .viol := by
  unfold exportW
  rcases h with h | h <;> simp [h, hv]

/-- A write that ends at once, with the first reason that holds (R512). -/
theorem exportW_ends (hq : d.quorum Off.evlExportCmd v = true) (hx : d.evl.exporting = false) (hv : bit v 0 = true) {r : Nat}
    (h : (r = 1 ∧ c.otp.root = 0) ∨ (r = 2 ∧ c.otp.root ≠ 0 ∧ d.erc.flushTo ≠ none) ∨ (r = 4 ∧ c.otp.root ≠ 0 ∧ d.erc.flushTo = none ∧ d.mgmtUp = false)) :
    exportW c v d = .took (d.exportEnd r) := by
  simp only [exportW, hq, hx, hv, Bool.not_true, Bool.false_eq_true, if_false]
  rcases h with ⟨rfl, h0⟩ | ⟨rfl, h0, hf⟩ | ⟨rfl, h0, hf, hm⟩
  · exact if_pos h0
  · rw [if_neg h0, if_pos (Option.isSome_iff_ne_none.mpr hf)]
  · simp [h0, hf, hm]

theorem exportW_begins (hq : d.quorum Off.evlExportCmd v = true) (hx : d.evl.exporting = false) (hv : bit v 0 = true) (h0 : c.otp.root ≠ 0) (hf : d.erc.flushTo = none)
    (hm : d.mgmtUp = true) (he : d.evl.queue = []) (hl : d.evl.recs.length < 65535) : exportW c v d = .took (d.exportBegins c) := by
  have hall : d.appendAll c 64 = d := by simp [Dev.appendAll, he]
  simp only [exportW, hq, hx, hv, hf, hm, h0, hall, Evl.full_eq_false (e := d.evl) (by omega), Bool.not_true, Bool.false_eq_true, if_false, Option.isSome_none]
  rfl

theorem Dev.exportBegins_evl (hl : d.evl.recs.length < 65535) : ∃ r, (d.exportBegins c).evl = { d.evl with exporting := true, recs := r :: d.evl.recs } ∧ r.typ = 0x70 ∧ r.link = d.evl.nextLink := by
  unfold Dev.exportBegins
  dsimp only
  rw [Dev.fwReady_evl, Dev.commitCause_next hl (Evl.matchesLast_exported rfl)]
  dsimp only
  rw [Dev.evtBit_evl]
  exact ⟨_, rfl, rfl, rfl⟩

theorem exportDoneOp_idle {b : Bool} (h : d.evl.exporting = false) : exportDoneOp b c d = d := if_pos (by simp [h])
theorem exportDoneOp_refused (h : d.evl.exporting = true) : exportDoneOp true c d = d.exportEnd 3 := by simp [exportDoneOp, h]
theorem exportDoneOp_written (h : d.evl.exporting = true) :
    exportDoneOp false c d = (d.emit (.dma (BitVec.ofNat 64 (d.reg64 Off.evlExportAddrLo)) (d.summary c))).exportEnd 0 := by simp [exportDoneOp, h]
end

/-- Settles O46: a cause by the state of the log, the merge by its time, EXPORT by the first reason that ends it. -/
theorem evidenceLog : Obligations.EvidenceLog := by
  unfold Obligations.EvidenceLog
  intro s
  dsimp only
  refine ⟨evidenceAppend_holds, fun q t hu hq hx hl => ⟨fun hn hm => ?_, fun r l h5 h6 hr hm => ?_, fun h5 => ?_, fun r l h6 hr => ?_⟩, fun hu => ⟨fun ht => ?_, fun ht => ?_⟩,
    fun v hm hv => ⟨fun h => ?_, fun hq hx => ⟨fun h0 => ?_, fun h0 hf => ?_, fun h0 hf hu => ?_, fun h0 hf hu he hl => ?_⟩⟩, fun b => ⟨fun h => onDev_idle (exportDoneOp_idle h), fun h => ?_⟩⟩
  · have hev := Dev.evtBit_evl ({ s.dev with evl := ({ s.dev.evl with queue := t } : Evl).push q.typ q.stamp q.recon (({ s.dev.evl with queue := t } : Evl).fillPayload q) 0 }) Off.evlEvt 0
    exact ⟨_, _, evidenceAppend_takes hu hq hx (Dev.commitCause_next (d := s.dev.withQueue t) hn hm) ((congrArg Evl.lost hev).trans hl), .of_dev .., hev, rfl, rfl, rfl, rfl, Dev.evtBit_bit _ _ (by decide)⟩
  · refine evidenceAppend_takes hu hq hx (x := { s.dev with evl := { s.dev.evl with queue := t, recs := { r with repeats := min 0xFFFFFFFF (r.repeats + 1) } :: l } }) ((Dev.commitCause_repeat (d := s.dev.withQueue t) h6 h5 hm).trans ?_) hl
    simp only [Evl.repeatLast, Dev.withQueue, hr, sat_eq_min]
  · have hev := Dev.evt_evl ({ s.dev with evl := { s.dev.evl with queue := t, recs := q.overflow s.dev.evl.nextLink :: s.dev.evl.recs } }) Off.evlEvt 0b11#32
    refine ⟨_, _, evidenceAppend_takes hu hq hx (Dev.commitCause_last (d := s.dev.withQueue t) q h5) ((congrArg Evl.lost hev).trans hl), .of_dev .., hev, rfl, rfl, ?_⟩
    rw [Dev.evt_reg]
    exact fld_or_three _
  · have hev : (s.dev.withQueue t).evl.overflowMore q = { s.dev.evl with
        queue := t
        recs := { r with repeats := min 0xFFFFFFFF (r.repeats + 1), payload := padTo 28 (toLe 2 q.typ ++ zeros 2 ++ toLe 8 q.stamp.toNat) } :: l } := by
      simp only [Evl.overflowMore, Dev.withQueue, hr, sat_eq_min]
    exact ⟨_, _, evidenceAppend_takes hu hq hx (Dev.commitCause_full (d := s.dev.withQueue t) q h6) (by dsimp only; rw [hev]; exact hl), .of_dev .., hev⟩
  · refine ⟨_, onDev_gives (f := mergeFlushOp) (if_pos (Bool.and_eq_true_iff.mpr ⟨hu, decide_eq_true ht⟩)), .of_dev .., rfl, fun r hr => ?_, List.length_map _, rfl⟩
    obtain ⟨x, _, rfl⟩ := List.mem_map.mp hr
    rfl
  · exact onDev_idle (f := mergeFlushOp) (if_neg (fun h => absurd (of_decide_eq_true (Bool.and_eq_true_iff.mp h).2) (Nat.not_le.mpr ht)))
  · exact onDev_viol (f := fun c => exportW c v) hm (by decide) (exportW_viol h hv)
  · exact ⟨_, onDev_took (f := fun c => exportW c v) hm (by decide) (exportW_ends hq hx hv (.inl ⟨rfl, h0⟩)), .of_dev .., Dev.exportEnd_spec ..⟩
  · exact ⟨_, onDev_took (f := fun c => exportW c v) hm (by decide) (exportW_ends hq hx hv (.inr (.inl ⟨rfl, h0, hf⟩))), .of_dev .., Dev.exportEnd_spec ..⟩
  · exact ⟨_, onDev_took (f := fun c => exportW c v) hm (by decide) (exportW_ends hq hx hv (.inr (.inr ⟨rfl, h0, hf, hu⟩))), .of_dev .., Dev.exportEnd_spec ..⟩
  · obtain ⟨r, hr⟩ := Dev.exportBegins_evl (c := s.ctx) hl
    exact ⟨_, r, onDev_took (f := fun c => exportW c v) hm (by decide) (exportW_begins hq hx hv h0 hf hu he hl), .of_dev .., hr⟩
  · cases b with
    | true => exact ⟨_, onDev_gives (exportDoneOp_refused h), .of_dev .., (Dev.exportEnd_spec 3 _).1, (Dev.exportEnd_spec 3 _).2, nofun⟩
    | false => exact ⟨_, onDev_gives (exportDoneOp_written h), .of_dev .., (Dev.exportEnd_spec 0 _).1, (Dev.exportEnd_spec 0 _).2, fun _ => Dev.evtBit_sent _ _ _ List.mem_cons_self⟩

end Sys2Proof.Machine

/-! The event recorder: records, flushes and the clear (R502 to R509). -/

namespace Sys2Proof.Machine

section
variable {c : Ctx} {d : Dev} {trig : Nat} {det : Bytes}

/-- A detail of 32 bytes is stored as it is (R503). -/
theorem detail_whole (h : det.length = 32) : (padTo 32 det).take 32 = det := by
  unfold padTo
  rw [List.take_append_of_le_length (by omega), List.take_of_length_le (by omega)]

/-- The new record joins the last one: the same trigger and detail, within COALESCE of its last occurrence (R506). -/
def Dev.Coalesces (c : Ctx) (trig : Nat) (det : Bytes) (d : Dev) (r : ErRecord) : Prop :=
  r.trig = trig ∧ r.detail = det ∧ fld (d.reg Off.ercCtrl) 19 0 * 1000 ≠ 0 ∧ c.now ≤ r.lastNs + fld (d.reg Off.ercCtrl) 19 0 * 1000

theorem Dev.record_again (hd : det.length = 32) {r : ErRecord} {l : List ErRecord} (hr : d.erc.ring = r :: l) (h : d.Coalesces c trig det r) :
    d.record c trig det = { d with erc := { d.erc with ring := { r with count := min 0xFFFFFFFF (r.count + 1), last := d.stamp c, lastNs := c.now } :: l } } := by
  unfold Dev.record
  simp only [detail_whole hd, hr, ← sat_eq_min]
  exact if_pos h

/-- A record of its own, whatever becomes of the oldest. -/
theorem Dev.record_fresh (hd : det.length = 32) (h : ∀ r ∈ d.erc.ring.head?, ¬ d.Coalesces c trig det r) :
    ∃ r, (d.record c trig det).erc = { d.erc with seq := d.erc.seq + 1, ring := r :: d.erc.ring.take 1023 } ∧ r.trig = trig ∧ r.detail = det ∧ r.first = d.stamp c
      ∧ r.flushed = false ∧ bit ((d.record c trig det).reg Off.ercEvt) 0 = true := by
  have hfresh : ∀ (x : ErRecord) (b : Bool), let e : Dev := { d with erc := { d.erc with seq := d.erc.seq + 1, ring := x :: d.erc.ring.take 1023 } }
      (((if b then e.bump Off.ercLost else e).evtBit Off.ercEvt 0).erc = e.erc) ∧ bit (((if b then e.bump Off.ercLost else e).evtBit Off.ercEvt 0).reg Off.ercEvt) 0 = true :=
    fun x b => ⟨(Dev.evtBit_erc ..).trans (by split <;> rfl), Dev.evtBit_bit _ _ (by decide)⟩
  unfold Dev.Coalesces at h
  unfold Dev.record
  simp only [detail_whole hd]
  split
  · next r l hr =>
    rw [if_neg (h r (by rw [hr]; rfl))]
    exact ⟨_, (hfresh ..).1, rfl, rfl, rfl, rfl, (hfresh ..).2⟩
  · exact ⟨_, (hfresh ..).1, rfl, rfl, rfl, rfl, (hfresh ..).2⟩

/-! ### Commands -/

theorem ercCmdW_flush (h : d.erc.flushTo = none) : ercCmdW c 1#32 d = .took (({ d with erc := { d.erc with flushTo := some d.erc.seq } } : Dev).fwReady c 3) := by
  simp [ercCmdW, h, bit, Dev.startFlush]
theorem ercCmdW_busy (h : d.erc.flushTo ≠ none) : ercCmdW c 1#32 d = .viol := if_pos ⟨by decide, Option.isSome_iff_ne_none.mpr h⟩
theorem ercCmdW_mark : ercCmdW c 2#32 d = .took (d.record c 0x0F (toLe 4 (d.reg Off.ercMark).toNat)) := rfl

theorem recorderFlushDoneOp_ends {n : Nat} (h : d.erc.flushTo = some n) (hp : d.pwr.powered = true) (hh : d.pwr.held = none) :
    recorderFlushDoneOp c d = ({ d with erc := d.erc.flushCopy n } : Dev).evtBit Off.ercEvt 1 := by
  have hend : d.flushEnd = ({ d with erc := d.erc.flushCopy n } : Dev).evtBit Off.ercEvt 1 := by simp only [Dev.flushEnd, h]
  unfold recorderFlushDoneOp Dev.applyHeld
  rw [if_neg (by simp [h, hp]), hend, Dev.evtBit_pwr, hh]
theorem recorderFlushDoneOp_idle (h : d.erc.flushTo = none) : recorderFlushDoneOp c d = d := if_pos (by simp [h])

/-- After the copy every record up to its start is marked. -/
theorem Erc.flushCopy_marked (e : Erc) (n : Nat) : ∀ r ∈ (e.flushCopy n).ring, r.seq % 2 ^ 40 ≤ n → r.flushed = true := by
  intro r hr hn
  obtain ⟨x, _, hx⟩ := List.mem_map.mp hr
  dsimp only at hx
  split at hx
  · subst hx; rfl
  · next h =>
    subst hx
    by_contra hf
    exact h (by rw [Bool.not_eq_true] at hf; simp only [hf, hn, decide_true, Bool.not_false, Bool.and_self])

/-- What the clear erases; the sequence goes on (R509). -/
def Erc.cleared (e : Erc) : Erc := { e with ring := [], mram := [], wrapped := false, flushTo := none }
def Dev.recorderCleared (c : Ctx) (d : Dev) : Dev :=
  let e := d.evidence c Ev.recorderCleared (toLe 2 d.erc.ring.length ++ toLe 2 d.erc.mram.length)
  ({ e with erc := e.erc.cleared } : Dev).evtBit Off.ercEvt 2

theorem ercClearW_viol {v : Word} (hq : d.quorum Off.ercClear v = false) : ercClearW c v d = .viol := if_pos (by simp [hq])
theorem ercClearW_clears {v : Word} (hq : d.quorum Off.ercClear v = true) (hv : bit v 0 = true) : ercClearW c v d = .took (d.recorderCleared c) := by
  unfold ercClearW
  rw [if_neg (by simp [hq]), if_neg (by simp [hv])]
  rfl
theorem Dev.recorderCleared_erc : (d.recorderCleared c).erc = d.erc.cleared := by
  unfold Dev.recorderCleared
  rw [Dev.evtBit_erc]
  exact congrArg Erc.cleared (Dev.evidence_erc ..)
theorem Dev.recorderCleared_queue (h : d.evl.queue.length < 32) : ∃ q, (d.recorderCleared c).evl.queue = d.evl.queue ++ [q] ∧ q.typ = 0x71 := by
  unfold Dev.recorderCleared
  rw [Dev.evtBit_evl]
  dsimp only [Dev.evidence, Dev.evidenceAt]
  rw [if_pos h]
  exact ⟨_, rfl, rfl⟩
end

/-- Settles O47: a record by whether it coalesces, a flush by whether one runs, the clear by its ceremony. -/
theorem eventRecorder : Obligations.EventRecorder := by
  unfold Obligations.EventRecorder
  intro s
  dsimp only
  refine ⟨fun trig det hd => ⟨fun r l hr h1 h2 h3 h4 => Dev.record_again hd hr ⟨h1, h2, h3, h4⟩, fun h => Dev.record_fresh hd h⟩, fun hm => ⟨fun h => ?_, fun h => ?_, ?_⟩,
    fun n h hp hh => ?_, fun h => onDev_idle (recorderFlushDoneOp_idle h), fun v hm hv => ⟨fun hq => ?_, fun hq => ?_⟩⟩
  · exact onDev_took (f := fun c => ercCmdW c 1#32) hm (by decide) (ercCmdW_flush h)
  · exact onDev_viol (f := fun c => ercCmdW c 1#32) hm (by decide) (ercCmdW_busy h)
  · exact onDev_took (f := fun c => ercCmdW c 2#32) hm (by decide) ercCmdW_mark
  · have herc := Dev.evtBit_erc ({ s.dev with erc := s.dev.erc.flushCopy n }) Off.ercEvt 1
    refine ⟨_, onDev_gives (recorderFlushDoneOp_ends h hp hh), .of_dev .., ?_⟩
    dsimp only
    rw [herc]
    exact ⟨rfl, List.length_map _, Dev.evtBit_bit _ _ (by decide), s.dev.erc.flushCopy_marked n, rfl⟩
  · exact onDev_viol (f := fun c => ercClearW c v) hm (by decide) (ercClearW_viol hq)
  · exact ⟨_, onDev_took (f := fun c => ercClearW c v) hm (by decide) (ercClearW_clears hq hv), .of_dev .., Dev.recorderCleared_erc, Dev.evtBit_bit _ _ (by decide), Dev.recorderCleared_queue⟩

end Sys2Proof.Machine

/-! Cards in the custodian ports (R445, R446, R454, R464). -/

namespace Sys2Proof.Machine

/-! ### A card port -/

theorem Dev.cardPort_of_find {d : Dev} {n : Nat} {p : CardPort} (h : d.cus.ports.find? (fun x => x.num == n) = some p) : d.cardPort n = p := by
  simp [Dev.cardPort, h]

theorem Dev.updCard_cers (d : Dev) (n : Nat) (f : CardPort → CardPort) : (d.updCard n f).cus.cers = d.cus.cers := rfl

theorem Dev.cardPort_updCard {d : Dev} {n : Nat} {p : CardPort} {f : CardPort → CardPort} (h : d.cus.ports.find? (fun x => x.num == n) = some p)
    (hf : ∀ x, (f x).num = x.num) : (d.updCard n f).cardPort n = f p := by
  unfold Dev.cardPort Dev.updCard
  rw [find_updWhere _ _ (fun x hx => by rw [hf]; exact hx), h]
  rfl

theorem Dev.cardPort_updCard_ne {d : Dev} {n m : Nat} {f : CardPort → CardPort} (hm : m ≠ n) (hf : ∀ x, (f x).num = x.num) :
    (d.updCard n f).cardPort m = d.cardPort m := by
  unfold Dev.cardPort Dev.updCard
  rw [find_updWhere_other _ _ _ (fun x hx => by simp only [beq_iff_eq] at hx ⊢; simpa [hx] using hm)
    (fun x hx => by simp only [beq_iff_eq] at hx; simpa [hf, hx] using hm.symm)]

/-- A command that makes port `n` what `f` makes of it keeps every other port, and changes no ceremony and no key. -/
theorem card_goes {s : State} {o : Host.Outcome State Fault Refusal} {e : Dev} {n : Nat} {p q : CardPort} {f : CardPort → CardPort}
    (h : s.dev.cus.ports.find? (fun x => x.num == n) = some p) (ho : o = .next { s with dev := e })
    (hc : e.cus = (s.dev.updCard n f).cus) (hk : e.key = s.dev.key) (hf : ∀ x, (f x).num = x.num) (hq : f p = q) :
    ∃ u, o = .next u ∧ DevOnly s u ∧ u.dev.cardPort n = q ∧ u.dev.cus.cers = s.dev.cus.cers ∧ u.dev.key = s.dev.key
      ∧ ∀ m, m ≠ n → u.dev.cardPort m = s.dev.cardPort m := by
  have hport : ∀ m, e.cardPort m = (s.dev.updCard n f).cardPort m := fun m => by simp only [Dev.cardPort, hc]
  exact ⟨_, ho, DevOnly.of_dev s e, (hport n).trans ((Dev.cardPort_updCard h hf).trans hq), by rw [hc, Dev.updCard_cers], hk,
    fun m hm => (hport m).trans (Dev.cardPort_updCard_ne hm hf)⟩

/-! ### The challenges that are presented -/

/-- A device to which only messages were added. -/
theorem emitAll_keeps {α β : Type} (g : Dev → β) (t : α → Tx) (h : ∀ d x, g (Dev.emit x d) = g d) (l : List α) (d : Dev) :
    g (l.foldl (fun a k => a.emit (t k)) d) = g d := foldl_keep g (fun a k => a.emit (t k)) (fun d k => h d (t k)) l d

theorem emitAll_sent {α : Type} (t : α → Tx) {x : Tx} : ∀ (l : List α) (d : Dev), x ∈ d.tx → x ∈ (l.foldl (fun a k => a.emit (t k)) d).tx
  | [], _, h => h
  | k :: l, d, h => emitAll_sent t l (d.emit (t k)) (List.mem_cons_of_mem _ h)

theorem emitAll_sends {α : Type} (t : α → Tx) {k : α} {l : List α} (h : k ∈ l) (d : Dev) : t k ∈ (l.foldl (fun a k => a.emit (t k)) d).tx := by
  induction l generalizing d with
  | nil => cases h
  | cons x l ih =>
    rcases List.mem_cons.mp h with rfl | h
    · exact emitAll_sent t l _ List.mem_cons_self
    · exact ih h _

/-! ### What each command does to its port -/

theorem cardInsertOp_inserts {d : Dev} {n : Nat} (c : Ctx) (hu : d.endpointUp = true) (hn : n < 2) (hp : (d.cardPort n).present = false) :
    cardInsertOp n c d = (d.updCard n (fun p => { p with present := true, trying := if d.cardOn n then some false else none })).evtBit Off.cusEvt 0 := by
  simp [cardInsertOp, hu, hn, hp]

theorem cardAtrOp_active {d : Dev} {n : Nat} (c : Ctx) (h : (d.cardPort n).trying ≠ none) :
    cardAtrOp n true c d = (d.cus.cers.filter (fun k => k.state == CerState.collecting)).foldl (fun a k => a.emit (.card n k.challenge))
      (d.updCard n (fun p => { p with state := .active, classB := p.trying.getD false, trying := none })) := by
  simp [cardAtrOp, h]

theorem cardAtrOp_unsupported {d : Dev} {n : Nat} (c : Ctx) (h : (d.cardPort n).trying ≠ none) :
    cardAtrOp n false c d = d.updCard n (fun p => { p with state := .unsupported, trying := none }) := by
  simp [cardAtrOp, h]

theorem cardAtrOp_untried {d : Dev} {n : Nat} (t1 : Bool) (c : Ctx) (h : (d.cardPort n).trying = none) : cardAtrOp n t1 c d = d := by
  simp [cardAtrOp, h]

theorem cardAtrTimeoutOp_untried {d : Dev} {n : Nat} (c : Ctx) (h : (d.cardPort n).trying = none) : cardAtrTimeoutOp n c d = d := by
  simp [cardAtrTimeoutOp, h]

theorem cardAtrTimeoutOp_classC {d : Dev} {n : Nat} (c : Ctx) (h : (d.cardPort n).trying = some false) :
    cardAtrTimeoutOp n c d = d.updCard n (fun p => { p with trying := some true }) := by
  simp [cardAtrTimeoutOp, h]

theorem cardAtrTimeoutOp_classB {d : Dev} {n : Nat} (c : Ctx) (h : (d.cardPort n).trying = some true) :
    cardAtrTimeoutOp n c d = d.updCard n (fun p => { p with state := .fault, trying := none }) := by
  simp [cardAtrTimeoutOp, h]

theorem cardRemoveOp_removes {d : Dev} {n : Nat} (c : Ctx) (h : (d.cardPort n).present = true) :
    cardRemoveOp n c d = (d.updCard n (fun p => { p with state := .empty, present := false, trying := none })).evtBit Off.cusEvt 0 := if_pos h

/-- Settles O43, a command at a time: each changes its port alone, and an ATR with T=1 sends every challenge that is out. -/
theorem cardPorts : Obligations.CardPorts := by
  intro s n p hn hp
  have hport := Dev.cardPort_of_find hp
  subst hport
  have hinsert := fun hu ha => onDev_gives (f := cardInsertOp n) (cardInsertOp_inserts s.ctx hu hn ha)
  have hactive := fun ht => onDev_gives (f := cardAtrOp n true) (cardAtrOp_active s.ctx ht)
  have hremove := fun ha => onDev_gives (f := cardRemoveOp n) (cardRemoveOp_removes s.ctx ha)
  refine ⟨fun hu ha => ?_, fun ht => ⟨?_, ?_, ?_⟩, fun ht => ⟨?_, ?_⟩, fun ht => ?_, fun ht => ?_, fun ha => ⟨?_, ?_⟩⟩
  · exact card_goes hp (hinsert hu ha) (Dev.evtBit_cus ..) (Dev.evtBit_key ..) (fun _ => rfl) rfl
  · exact card_goes hp (hactive ht) (emitAll_keeps Dev.cus _ (fun _ _ => rfl) _ _) (emitAll_keeps Dev.key _ (fun _ _ => rfl) _ _) (fun _ => rfl) rfl
  · exact ⟨_, hactive ht,
      fun k hk hc => emitAll_sends (fun k : Ceremony => Tx.card n k.challenge) (List.mem_filter.mpr ⟨hk, by simp [hc]⟩) _⟩
  · exact card_goes hp (onDev_gives (f := cardAtrOp n false) (cardAtrOp_unsupported s.ctx ht)) rfl rfl (fun _ => rfl) rfl
  · exact onDev_idle (f := cardAtrOp n true) (cardAtrOp_untried true s.ctx ht)
  · exact onDev_idle (f := cardAtrTimeoutOp n) (cardAtrTimeoutOp_untried s.ctx ht)
  · exact card_goes hp (onDev_gives (f := cardAtrTimeoutOp n) (cardAtrTimeoutOp_classC s.ctx ht)) rfl rfl (fun _ => rfl) rfl
  · exact card_goes hp (onDev_gives (f := cardAtrTimeoutOp n) (cardAtrTimeoutOp_classB s.ctx ht)) rfl rfl (fun _ => rfl) rfl
  · exact card_goes hp (hremove ha) (Dev.evtBit_cus ..) (Dev.evtBit_key ..) (fun _ => rfl) rfl
  · exact ⟨_, hremove ha, Dev.evtBit_bit _ _ (by omega)⟩

end Sys2Proof.Machine

/-! The unlock and its token (R458, R486 to R489, R491, R492). -/

namespace Sys2Proof.Machine

/-! ### The unlock -/

/-- A latched source asks for a vendor token. -/
def Tmp.asksVendor (t : Tmp) : Prop := ∃ i, i < 32 ∧ t.latched.getLsbD i = true ∧ alarmVendor i = true

theorem Tmp.asksVendor_iff (t : Tmp) : (List.range 32).any (fun i => t.latched.getLsbD i && alarmVendor i) = true ↔ t.asksVendor := by
  simp [Tmp.asksVendor]

section
variable {t : Tmp} {st : StoreState}

theorem Tmp.unlockFail_unlocked (h : t.lock = false) : t.unlockFail st = some 1 := by simp [Tmp.unlockFail, h]

theorem Tmp.unlockFail_firing (h : t.lock = true) (ha : t.latched &&& t.active ≠ 0#32) : t.unlockFail st = some 2 := by
  simp [Tmp.unlockFail, h, ha]

theorem Tmp.unlockFail_token (h : t.lock = true) (ha : t.latched &&& t.active = 0#32) (hv : t.asksVendor) (hm : t.tokenMask = none) :
    t.unlockFail st = some 3 := by
  simp only [Tmp.unlockFail, t.asksVendor_iff.mpr hv]
  simp [h, ha, hm]

/-- The token that a latched source asks for is there. -/
theorem Tmp.vendor_given (h : ¬ t.asksVendor ∨ t.tokenMask ≠ none) :
    ((List.range 32).any (fun i => t.latched.getLsbD i && alarmVendor i) && t.tokenMask.isNone) = false := by
  rw [Bool.and_eq_false_iff, ← Bool.not_eq_true, t.asksVendor_iff]
  exact h.imp id (fun hm => Option.isNone_eq_false_iff.mpr (Option.isSome_iff_ne_none.mpr hm))

theorem Tmp.unlockFail_store (h : t.lock = true) (ha : t.latched &&& t.active = 0#32) (hv : ¬ t.asksVendor ∨ t.tokenMask ≠ none)
    (hz : t.zeroised = true) (hs : st ≠ .ready) : t.unlockFail st = some 4 := by
  simp only [Tmp.unlockFail, Tmp.vendor_given hv]
  simp [h, ha, hz, hs]

theorem Tmp.unlockFail_none (h : t.lock = true) (ha : t.latched &&& t.active = 0#32) (hv : ¬ t.asksVendor ∨ t.tokenMask ≠ none)
    (hz : t.zeroised = false ∨ st = .ready) : t.unlockFail st = none := by
  simp only [Tmp.unlockFail, Tmp.vendor_given hv]
  rcases hz with hz | hz <;> simp [h, ha, hz]

end

section
variable {s : State} {v : Word}

/-- The record of an unlock leaves the event that it told. -/
theorem Dev.tmpEvt_evidence_bit (d : Dev) (c : Ctx) (t : Nat) (p : Bytes) {i : Nat} (h : i < 32) :
    bit (((d.evtBit Off.tmpEvt i).evidence c t p).reg Off.tmpEvt) i = true := by
  rw [Dev.evidence_reg_ne _ c t p (by decide) (by decide)]
  exact Dev.evtBit_bit _ _ h

/-- A refusal is told in TMP_UNLOCK's result and as an event, and changes nothing else of the block. -/
theorem tamperUnlock_refused {r : Nat} (hm : HostMay s true Off.tmpUnlock) (hv : bit v 0 = true) (hq : s.dev.quorum Off.tmpUnlock v = true)
    (h : s.dev.tmp.unlockFail s.dev.key.store = some r) :
    ∃ u, exec (.tamperUnlock v) s = .next u ∧ DevOnly s u ∧ u.dev.tmp = { s.dev.tmp with unlockResult := r } ∧ bit (u.dev.reg Off.tmpEvt) 4 = true := by
  have ht : tmpUnlockW s.ctx v s.dev
      = .took ((({ s.dev with tmp := { s.dev.tmp with unlockResult := r } } : Dev).evtBit Off.tmpEvt 4).evidence s.ctx Ev.unlockRefused (toLe 1 r)) := by
    simp [tmpUnlockW, hq, hv, h]
  refine ⟨_, onDev_took (f := fun c => tmpUnlockW c v) hm (by decide) ht, .of_dev .., ?_, ?_⟩
  · exact (Dev.evidence_tmp ..).trans (Dev.evtBit_tmp ..)
  · exact Dev.tmpEvt_evidence_bit _ _ _ _ (by decide)

/-- What an unlock leaves, before its record. -/
def Dev.unlocked (d : Dev) : Dev :=
  { d with tmp := { d.tmp with lock := false, zeroised := false, latched := 0, tokenMask := none, unlockResult := 0, resume := true } }

/-- The record of an unlock: what was latched, whether it took one token or two approvals, and the ceremony. -/
def Dev.unlockPayload (d : Dev) : Bytes :=
  toLe 3 d.tmp.latched.toNat ++ toLe 1 (if (List.range 32).any (fun i => d.tmp.latched.getLsbD i && alarmVendor i) then 2 else 1)
    ++ toLe 8 ((d.openCer? 2).elim 0 (fun k => k.id.toNat))

theorem tmpUnlockW_unlocks {c : Ctx} {d : Dev} (hv : bit v 0 = true) (hq : d.quorum Off.tmpUnlock v = true) (h : d.tmp.unlockFail d.key.store = none) :
    tmpUnlockW c v d = .took ((d.unlocked.evtBit Off.tmpEvt 3).evidence c Ev.unlock d.unlockPayload) := by
  simp only [tmpUnlockW, hq, hv, h, Bool.not_true, Bool.false_eq_true, if_false]
  rfl

theorem tamperUnlock_unlocks (hm : HostMay s true Off.tmpUnlock) (hv : bit v 0 = true) (hq : s.dev.quorum Off.tmpUnlock v = true)
    (h : s.dev.tmp.unlockFail s.dev.key.store = none) :
    ∃ u, exec (.tamperUnlock v) s = .next u ∧ DevOnly s u ∧ bit (u.dev.reg Off.tmpEvt) 3 = true
      ∧ u.dev.tmp = { s.dev.tmp with lock := false, zeroised := false, latched := 0, tokenMask := none, unlockResult := 0, resume := true } := by
  have ht := tmpUnlockW_unlocks (c := s.ctx) hv hq h
  refine ⟨_, onDev_took (f := fun c => tmpUnlockW c v) hm (by decide) ht, .of_dev .., ?_, ?_⟩
  · exact Dev.tmpEvt_evidence_bit _ _ _ _ (by decide)
  · exact (Dev.evidence_tmp ..).trans (Dev.evtBit_tmp ..)

end

/-! ### The nonce and the token -/

section
variable {s : State}

theorem Dev.mgmtNonce_tmp (c : Ctx) (d : Dev) : (d.mgmtNonce c).2.tmp = d.tmp := Dev.request_2_tmp ..

theorem tmpNewNonce_drawn (hm : HostMay s true Off.tmpTokenCtrl) (hg : s.dev.mgmtDrbg = true) :
    ∃ u, exec .tmpNewNonce s = .next u ∧ DevOnly s u
      ∧ u.dev.tmp = { s.dev.tmp with nonce := (s.dev.mgmtNonce s.ctx).1, nonceSt := s.st.toNat, nonceLive := true, tokenMask := none } := by
  have hn : s.dev.newUnlockNonce s.ctx = { (s.dev.mgmtNonce s.ctx).2 with
      tmp := { s.dev.tmp with nonce := (s.dev.mgmtNonce s.ctx).1, nonceSt := s.st.toNat, nonceLive := true, tokenMask := none } } := by
    simp only [Dev.newUnlockNonce, hg, if_true, Dev.mgmtNonce_tmp]
    rfl
  exact ⟨_, onDev_took (f := fun c d => .took (d.newUnlockNonce c)) hm (by decide) (congrArg WOut.took hn), .of_dev .., rfl⟩

theorem tmpNewNonce_undrawn (hm : HostMay s true Off.tmpTokenCtrl) (hg : s.dev.mgmtDrbg = false) :
    exec .tmpNewNonce s = .next { s with dev := { s.dev with tmp := { s.dev.tmp with tokenStat := 5 } } } :=
  onDev_took (f := fun c d => .took (d.newUnlockNonce c)) hm (by decide) (congrArg WOut.took (if_neg (by simp [hg])))

/-- What a token changes of the block, by the first check that fails. -/
def Tmp.tokenTold (t : Tmp) (b : Bytes) : Option Nat → Tmp
  | some k => { t with tokenStat := k }
  | none => { t with tokenStat := 2, tokenMask := some (BitVec.ofNat 32 (le b 32 4)) }

theorem tmpTokenGo_told {data : Bytes} {read : DmaEnd} {f : Option Nat} {t : Tmp} (hm : HostMay s true Off.tmpTokenCtrl)
    (h : vendorTokenFail s.ctx (dmaRead data read) s.dev = f) (ht : s.dev.tmp.tokenTold (dmaRead data read).data f = t) :
    ∃ u, exec (.tmpTokenGo data read) s = .next u ∧ DevOnly s u ∧ u.dev.tmp = t ∧ bit (u.dev.reg Off.tmpEvt) 6 = true := by
  have hg : tmpTokenGoW s.ctx (dmaRead data read) s.dev = .took (({ s.dev with tmp := t } : Dev).evtBit Off.tmpEvt 6) := by
    rw [tmpTokenGoW, h, ← ht]
    cases f <;> rfl
  exact ⟨_, onDev_took (f := fun c => tmpTokenGoW c (dmaRead data read)) hm (by decide) hg, .of_dev .., Dev.evtBit_tmp .., Dev.evtBit_bit _ _ (by decide)⟩

end

/-! ### The order of a token's checks -/

/-- The form of a vendor token, its signature's length with it. -/
def vendorForm (r : DmaRead) : Prop :=
  r.refused = false ∧ r.failed = false ∧ le r.data 0 2 = 1 ∧ (le r.data 2 2 = 2 ∨ le r.data 2 2 = 3) ∧ le r.data 4 4 = (if le r.data 2 2 = 2 then 96 else 3309)
    ∧ 48 + (if le r.data 2 2 = 2 then 96 else 3309) ≤ r.data.length ∧ le r.data 36 12 = 0
/-- The token answers this device's nonce. -/
def Tmp.tokenBound (t : Tmp) (b : Bytes) : Prop := unitIdIs b 8 = true ∧ le b 24 8 = t.nonce.toNat
/-- The nonce stands, and is not older than 600 s. -/
def Tmp.nonceFresh (t : Tmp) (now : Nat) : Prop := t.nonceLive = true ∧ now ≤ t.nonceSt + 600000000000
/-- The token's mask names every latched source that asks for one. -/
def Tmp.maskCovers (t : Tmp) (b : Bytes) : Prop := ∀ i, i < 32 → t.latched.getLsbD i = true → alarmVendor i = true → le b 32 4 / 2 ^ i % 2 = 1

open Classical in
/-- A vendor token's checks, in their order. -/
theorem vendorTokenFail_eq (c : Ctx) (r : DmaRead) (d : Dev) : vendorTokenFail c r d
    = if ¬ vendorForm r then some 3 else if ¬ d.tmp.tokenBound r.data then some 4 else if ¬ d.tmp.nonceFresh c.now then some 5
      else if ¬ d.tmp.maskCovers r.data then some 6 else if d.nymjorSig c r.data then none else some 3 := by
  have hform : (!(!r.refused && !r.failed && le r.data 0 2 == 1 && (le r.data 2 2 == 2 || le r.data 2 2 == 3)
      && le r.data 4 4 == (if le r.data 2 2 = 2 then 96 else 3309) && decide (48 + (if le r.data 2 2 = 2 then 96 else 3309) ≤ r.data.length)
      && le r.data 36 12 == 0)) = true ↔ ¬ vendorForm r := by
    simp only [vendorForm, Bool.not_eq_true', ← Bool.not_eq_true, Bool.and_eq_true, Bool.or_eq_true, beq_iff_eq, decide_eq_true_eq, and_assoc]
  have hbound : (!unitIdIs r.data 8 || le r.data 24 8 != d.tmp.nonce.toNat) = true ↔ ¬ d.tmp.tokenBound r.data := by
    simp [Tmp.tokenBound, imp_iff_not_or]
  have hfresh : (!d.tmp.nonceLive || decide (d.tmp.nonceSt + 600 * nsS < c.now)) = true ↔ ¬ d.tmp.nonceFresh c.now := by
    simp [Tmp.nonceFresh, imp_iff_not_or, nsS]
  have hmask : ((List.range 32).filter (fun i => d.tmp.latched.getLsbD i && alarmVendor i)).any (fun i => le r.data 32 4 / 2 ^ i % 2 == 0) = true
      ↔ ¬ d.tmp.maskCovers r.data := by
    simp [Tmp.maskCovers, and_assoc]
  simp only [vendorTokenFail, hform, hbound, hfresh, hmask]
  cases d.nymjorSig c r.data <;> rfl

/-- Settles O45: the unlock by the first reason that `Tmp.unlockFail` finds, the token by the order of `vendorTokenFail_eq`. -/
theorem tamperUnlock : Obligations.TamperUnlock := by
  intro s
  refine ⟨fun v hm hv => ⟨fun hq => ?_, fun hq => ⟨fun hl => ?_, fun hl => ⟨fun ha => ?_, fun ha => ⟨fun hn ht => ?_, fun hg => ⟨fun hz hs => ?_, fun hz => ?_⟩⟩⟩⟩⟩,
    fun hm => ⟨tmpNewNonce_drawn hm, tmpNewNonce_undrawn hm, fun data read => ?_⟩⟩
  · exact onDev_viol (f := fun c => tmpUnlockW c v) hm (by decide) (by simp [tmpUnlockW, hq])
  · exact tamperUnlock_refused hm hv hq (Tmp.unlockFail_unlocked hl)
  · exact tamperUnlock_refused hm hv hq (Tmp.unlockFail_firing hl ha)
  · exact tamperUnlock_refused hm hv hq (Tmp.unlockFail_token hl ha hn ht)
  · exact tamperUnlock_refused hm hv hq (Tmp.unlockFail_store hl ha hg hz hs)
  · exact tamperUnlock_unlocks hm hv hq (Tmp.unlockFail_none hl ha hg hz)
  · have hfail := vendorTokenFail_eq s.ctx (dmaRead data read) s.dev
    have hform := fun (h : vendorForm (dmaRead data read)) => hfail.trans (if_neg (not_not.mpr h))
    have hbound := fun h (hb : s.dev.tmp.tokenBound (dmaRead data read).data) => (hform h).trans (if_neg (not_not.mpr hb))
    have hfresh := fun h hb (hl : s.dev.tmp.nonceFresh s.st.toNat) => (hbound h hb).trans (if_neg (not_not.mpr hl))
    have hmask := fun h hb hl (hk : s.dev.tmp.maskCovers (dmaRead data read).data) => (hfresh h hb hl).trans (if_neg (not_not.mpr hk))
    refine ⟨fun hf => ?_, fun hf hb => ?_, fun hf hb hl => ?_, fun hf hb hl hk => ?_, fun hf hb hl hk => ?_⟩
    · exact tmpTokenGo_told (f := some 3) hm (hfail.trans (if_pos hf)) rfl
    · exact tmpTokenGo_told (f := some 4) hm ((hform hf).trans (if_pos hb)) rfl
    · exact tmpTokenGo_told (f := some 5) hm ((hbound hf hb).trans (if_pos hl)) rfl
    · exact tmpTokenGo_told (f := some 6) hm ((hfresh hf hb hl).trans (if_pos hk)) rfl
    · refine tmpTokenGo_told hm (hmask hf hb hl hk) ?_
      cases s.dev.nymjorSig s.ctx (dmaRead data read).data <;> rfl

end Sys2Proof.Machine

/-! A life-cycle decode that finds the state word broken while debug has halted a management pair (R475, R522, R539). -/

namespace Sys2Proof.Machine

/-- Stage 2 is due, the fuses' copy A has a bit above its first group that is not full, and debug has halted management pair 1 under
an open scope. -/
def brokenHalted : State := { State.reset with
  otp := { copyA := 0x0100FFFFFF }
  dev := {
    pwr := { stage := 2, powered := true, mgmtOk := [true, false], mgmtHalt := [false, true] }
    lcs := { scope := 2, expiry := 1 } } }

/-- The alarm of the broken state word locks the part: the lock closes the debug scope, and pair 1 resumes. -/
theorem brokenHalted_resumes : ∃ u, exec (.lifecycleDecode none) brokenHalted = .next u ∧ u.dev.pwr.mgmtHalt = [false, false] := ⟨_, rfl, by decide⟩

/-- Refutes O57: stage 2 without an open transition changes more of the power block than its stage, where the state word is broken and
the lock that this brings on ends a debug halt. -/
theorem not_startUpStages : ¬ Obligations.StartUpStages := by
  unfold Obligations.StartUpStages
  intro h
  obtain ⟨-, hdecode, -⟩ := h brokenHalted
  obtain ⟨u, hu, -, hpwr, -⟩ := ((hdecode none).2 (by decide)).1 (by decide)
  obtain ⟨u', hu', hresumed⟩ := brokenHalted_resumes
  rw [hu] at hu'
  cases hu'
  rw [hpwr] at hresumed
  exact absurd hresumed (by decide)

end Sys2Proof.Machine

/-! Frames and learned routes (R409, R411, R412, R417 to R419, R443, R444). -/

namespace Sys2Proof.Machine

/-! ### What a route that is learned changes -/

/-- Nothing changes but the routes, their places in the table, and what was drawn freely. -/
def Dev.RoutesOnly (d e : Dev) : Prop :=
  ∃ routes occ evicted rng, e = { d with fab := { d.fab with routes := routes, occ := occ, evicted := evicted }, rng := rng }

theorem Dev.RoutesOnly.refl (d : Dev) : d.RoutesOnly d := ⟨d.fab.routes, d.fab.occ, d.fab.evicted, d.rng, rfl⟩

theorem Dev.routeInsert_routesOnly (r : Route) (d : Dev) : d.RoutesOnly (d.routeInsert r) := by
  unfold Dev.routeInsert
  dsimp only
  split
  · exact ⟨_, _, _, d.rng, rfl⟩
  · split
    · exact .refl d
    · split
      · exact .refl d
      · exact ⟨_, _, _, _, rfl⟩

theorem Dev.learn_routesOnly (c : Ctx) (src cls port hops : Nat) (d : Dev) : d.RoutesOnly (d.learn c src cls port hops) := by
  unfold Dev.learn
  dsimp only
  split
  · split
    · exact .refl d
    · exact Dev.routeInsert_routesOnly ..
  · split
    · exact ⟨_, d.fab.occ, d.fab.evicted, d.rng, rfl⟩
    · exact .refl d

section
variable {c : Ctx} {d : Dev} {src cls port hops : Nat}

/-- A route that is known takes the place of the old one where it came by the same port, is shorter, or the old one is 1 ms old. -/
theorem Dev.learn_known {x : Route} (h : d.fab.routes.find? (fun x => x.node == src && x.cls == cls) = some x) :
    (d.learn c src cls port hops).fab.routes.find? (fun x => x.node == src && x.cls == cls)
      = some (if x.port = port ∨ hops < x.hops ∨ x.st + 1000000 ≤ c.now then { node := src, cls := cls, port := port, hops := hops, st := c.now } else x) := by
  unfold Dev.learn
  simp only [h]
  split
  · exact (find_updWhere _ _ (fun _ _ => by simp) _).trans (by rw [h]; rfl)
  · exact h

/-- A route that is new has a place of its own. -/
theorem Dev.learn_new (h : d.fab.routes.find? (fun x => x.node == src && x.cls == cls) = none)
    (ho : (occInsert d.fab.hashKey 4096 (src, cls) d.fab.occ).occ ≠ none) (hl : d.fab.large = false) :
    (d.learn c src cls port hops).fab.routes = d.fab.routes ++ [{ node := src, cls := cls, port := port, hops := hops, st := c.now }] := by
  obtain ⟨o, ho⟩ := Option.ne_none_iff_exists'.mp ho
  simp only [Dev.learn, h, hl, Dev.routeInsert, ho, Bool.false_and, Bool.false_eq_true, if_false]

/-- A large fabric's port that is full learns no new route. -/
theorem Dev.learn_full (h : d.fab.routes.find? (fun x => x.node == src && x.cls == cls) = none) (hl : d.fab.large = true)
    (hf : 256 ≤ (d.fab.routes.filter (fun x => x.port == port)).length) : d.learn c src cls port hops = d := by
  simp only [Dev.learn, h, hl, hf, decide_true, Bool.and_self, if_true]

end

/-! ### What a flood sends -/

theorem foldl_floodAt_mem {skip : Option Nat} {f : Frame} {t : Tx} : ∀ {l : List Nat} {d : Dev}, t ∈ (l.foldl (Dev.floodAt skip f) d).tx →
    t ∈ d.tx ∨ ∃ n, d.portUp n = true ∧ skip ≠ some n ∧ t = Tx.frame n f.bytes
  | [], _, h => .inl h
  | k :: l, d, h => by
    rcases foldl_floodAt_mem (l := l) (d := d.floodAt skip f k) h with h | ⟨n, hup, hs, ht⟩
    · unfold Dev.floodAt at h
      split at h
      next hk =>
        simp only [Bool.and_eq_true, bne_iff_ne] at hk
        rcases List.mem_cons.mp h with h | h
        · exact .inr ⟨k, hk.1, hk.2, h⟩
        · exact .inl h
      next => exact .inl h
    · rw [(d.floodAt_onlySends skip f k).portUp n] at hup
      exact .inr ⟨n, hup, hs, ht⟩

/-- A flood leaves on the UP ports but one, and on no other. -/
theorem Dev.floodOut_mem_iff {skip : Option Nat} {f : Frame} {d : Dev} {n : Nat} (h8 : n < 8) :
    Tx.frame n f.bytes ∈ (d.floodOut skip f).tx ↔ (skip ≠ some n ∧ d.portUp n = true) ∨ Tx.frame n f.bytes ∈ d.tx := by
  constructor
  · intro h
    rcases foldl_floodAt_mem h with h | ⟨m, hup, hs, ht⟩
    · exact .inr h
    · obtain ⟨rfl, -⟩ := Tx.frame.inj ht
      exact .inl ⟨hs, hup⟩
  · rintro (⟨hs, hup⟩ | h)
    · exact Dev.floodOut_sends skip f h8 hup hs
    · exact (Dev.floodOut_onlySends skip f d).sent _ h

/-! ### A frame that arrives -/

theorem onFrame_none {port : Nat} {bytes : Bytes} (g : Frame → Ctx → Dev → Dev) (c : Ctx) (d : Dev) (h : Frame.ofBytes port bytes = none) :
    onFrame port bytes g c d = d := by simp only [onFrame, h]
theorem onFrame_some {port : Nat} {bytes : Bytes} {f : Frame} (g : Frame → Ctx → Dev → Dev) (c : Ctx) (d : Dev) (h : Frame.ofBytes port bytes = some f) :
    onFrame port bytes g c d = g f c d := by simp only [onFrame, h]

section
variable {c : Ctx} {d : Dev} {f : Frame} (hon : d.fabOn = true) (hup : d.portUp f.port = true)
include hon hup

theorem frameReceiveOp_unknown (h : 5 < f.cls) : frameReceiveOp f c d = d.bump Off.fabDropped := by simp [frameReceiveOp, hon, hup, h]

theorem frameReceiveOp_bound (h : f.cls = 1 ∨ f.cls = 2) : frameReceiveOp f c d = d := by
  rcases h with h | h <;> simp [frameReceiveOp, hon, hup, h, clsRouted]

/-- A frame of a routed class teaches its route, and goes onward where it is no flood that was seen, and for another device. -/
theorem frameReceiveOp_routed (h : f.cls = 0 ∨ f.cls = 3 ∨ f.cls = 4 ∨ f.cls = 5) : frameReceiveOp f c d
    = let e := d.learn c f.src f.cls f.port f.hops
      let (new, e2) := if f.flood then e.floodNew f.src f.boot f.seq else (true, e)
      if !new || f.dst = d.nodeId then e2 else e2.forward f := by
  have hcls : ¬ 5 < f.cls := by omega
  have hrouted : clsRouted f.cls = true := by
    unfold clsRouted
    rcases h with h | h | h | h <;> rw [h] <;> rfl
  simp only [frameReceiveOp, hon, hup, hcls, hrouted, Bool.not_true, Bool.or_self, Bool.false_eq_true, if_false]

theorem frameReceiveOp_here (h : f.cls = 0 ∨ f.cls = 3 ∨ f.cls = 4 ∨ f.cls = 5) (hf : f.flood = false) (hd : f.dst = d.nodeId) :
    frameReceiveOp f c d = d.learn c f.src f.cls f.port f.hops := by
  rw [frameReceiveOp_routed hon hup h]
  simp [hf, hd]

theorem frameReceiveOp_onward (h : f.cls = 0 ∨ f.cls = 3 ∨ f.cls = 4 ∨ f.cls = 5) (hf : f.flood = false) (hd : f.dst ≠ d.nodeId) :
    frameReceiveOp f c d = (d.learn c f.src f.cls f.port f.hops).forward f := by
  rw [frameReceiveOp_routed hon hup h]
  simp [hf, hd]

/-- A flood that was seen before teaches its route and goes nowhere. -/
theorem frameReceiveOp_seen (h : f.cls = 0 ∨ f.cls = 3 ∨ f.cls = 4 ∨ f.cls = 5) (hf : f.flood = true) {w : Flood}
    (hw : d.fab.floods.find? (fun x => x.src == f.src) = some w) (hs : f.boot < w.boot ∨ (f.boot = w.boot ∧ f.seq = w.high)) :
    frameReceiveOp f c d = d.learn c f.src f.cls f.port f.hops := by
  rw [frameReceiveOp_routed hon hup h]
  obtain ⟨routes, occ, evicted, rng, he⟩ := d.learn_routesOnly c f.src f.cls f.port f.hops
  have hseen : (d.learn c f.src f.cls f.port f.hops).floodNew f.src f.boot f.seq = (false, d.learn c f.src f.cls f.port f.hops) := by
    have hw' : (d.learn c f.src f.cls f.port f.hops).fab.floods.find? (fun x => x.src == f.src) = some w := by rw [he]; exact hw
    unfold Dev.floodNew
    simp only [hw']
    rcases hs with hs | ⟨hb, hs⟩
    · rw [if_neg (by omega), if_pos hs]
    · rw [if_neg (by omega), if_neg (by omega), hs]
      simp
  simp [hf, hseen]

end

/-! ### A frame that goes onward -/

section
variable {d : Dev} {f : Frame}

theorem Dev.forward_past (h : d.maxHops < f.hops + 1) : d.forward f = d.bump Off.fabDropped := if_pos h

/-- By a learned route. -/
theorem Dev.forward_learned {p : Nat} (h : f.hops + 1 ≤ d.maxHops) (hc : d.fab.conflict = false) (hl : d.learned f.dst f.cls = some p) :
    d.forward f = d.emit (.frame p { f with port := p, hops := f.hops + 1 }.bytes) := by
  unfold Dev.forward
  rw [if_neg (by omega), if_neg (by simp [hc]), hl]
  rfl

/-- As a flood of this device, with its next sequence. -/
def Frame.flooded (d : Dev) (f : Frame) : Frame := { f with hops := f.hops + 1, seq := (d.fab.floodSeq + 1) % 2 ^ 32, flood := true }
/-- The next flood is taken, and counted. -/
def Dev.floodCounted (d : Dev) : Dev := ({ d with fab := { d.fab with floodSeq := (d.fab.floodSeq + 1) % 2 ^ 32 } } : Dev).bump Off.fabFlooded

theorem Dev.floodCounted_seq (d : Dev) : d.floodCounted.fab.floodSeq = (d.fab.floodSeq + 1) % 2 ^ 32 := rfl
theorem Dev.floodCounted_count (d : Dev) : d.floodCounted.reg Off.fabFlooded = BitVec.ofNat 32 (min 0xFFFFFFFF ((d.reg Off.fabFlooded).toNat + 1)) := by
  rw [Dev.floodCounted, Dev.bump, Dev.bumpBy, Dev.reg_setReg, sat_eq_min]
  rfl
theorem Dev.floodOnward_seq (d : Dev) (a : Option Nat) (g : Frame) : (d.floodCounted.floodOut a g).fab.floodSeq = (d.fab.floodSeq + 1) % 2 ^ 32 :=
  (congrArg Fab.floodSeq (Dev.floodOut_fab ..)).trans d.floodCounted_seq
theorem Dev.floodOnward_count (d : Dev) (a : Option Nat) (g : Frame) :
    (d.floodCounted.floodOut a g).reg Off.fabFlooded = BitVec.ofNat 32 (min 0xFFFFFFFF ((d.reg Off.fabFlooded).toNat + 1)) :=
  (Dev.floodOut_reg ..).trans d.floodCounted_count
theorem Dev.floodCounted_tx (d : Dev) : d.floodCounted.tx = d.tx := rfl
theorem Dev.floodCounted_portUp (d : Dev) (n : Nat) : d.floodCounted.portUp n = d.portUp n := rfl

theorem Dev.forward_flood (h : f.hops + 1 ≤ d.maxHops) (hc : d.fab.conflict = false) (hf : f.flood = false) (hl : d.learned f.dst f.cls = none) :
    d.forward f = d.floodCounted.floodOut (some f.port) (f.flooded d) := by
  unfold Dev.forward
  rw [if_neg (by omega), if_neg (by simp [hc]), hl]
  simp only [hf, Bool.false_eq_true, if_false]
  rfl

end

/-- What a learned route leaves alone. -/
structure Dev.SameHops (d e : Dev) : Prop where
  maxHops  : e.maxHops = d.maxHops
  conflict : e.fab.conflict = d.fab.conflict
  floodSeq : e.fab.floodSeq = d.fab.floodSeq
  portUp   : e.portUp = d.portUp
  regs     : e.regs = d.regs
  tx       : e.tx = d.tx

theorem Dev.RoutesOnly.sameHops {d e : Dev} (h : d.RoutesOnly e) : d.SameHops e := by
  obtain ⟨routes, occ, evicted, rng, rfl⟩ := h
  exact ⟨rfl, rfl, rfl, rfl, rfl, rfl⟩

section
variable {d e : Dev} (he : d.SameHops e) (f : Frame)
include he

theorem Dev.SameHops.flooded_eq : f.flooded e = f.flooded d := by rw [Frame.flooded, he.floodSeq, Frame.flooded]

theorem Dev.SameHops.flood_seq (a : Option Nat) : (e.floodCounted.floodOut a f).fab.floodSeq = (d.fab.floodSeq + 1) % 2 ^ 32 := by
  rw [Dev.floodOnward_seq, he.floodSeq]

theorem Dev.SameHops.flood_count (a : Option Nat) :
    (e.floodCounted.floodOut a f).reg Off.fabFlooded = BitVec.ofNat 32 (min 0xFFFFFFFF ((d.reg Off.fabFlooded).toNat + 1)) := by
  rw [Dev.floodOnward_count, Dev.reg, he.regs, Dev.reg]

/-- The flood leaves on every UP port but the one that the frame came by. -/
theorem Dev.SameHops.flood_mem {p n : Nat} (h8 : n < 8) : Tx.frame n f.bytes ∈ (e.floodCounted.floodOut (some p) f).tx
    ↔ (n ≠ p ∧ d.portUp n = true) ∨ Tx.frame n f.bytes ∈ d.tx := by
  have hne : some p ≠ some n ↔ n ≠ p := by rw [ne_eq, Option.some.injEq, eq_comm]
  rw [Dev.floodOut_mem_iff h8, Dev.floodCounted_portUp, Dev.floodCounted_tx, he.portUp, he.tx, hne]

end

/-! ### Ageing, and the flush -/

theorem Fab.dropRoutes_all (f : Fab) : (f.dropRoutes (fun _ => true)).routes = [] := by simp [Fab.dropRoutes]
theorem Fab.mem_dropRoutes {p : Route → Bool} {f : Fab} {x : Route} : x ∈ (f.dropRoutes p).routes ↔ x ∈ f.routes ∧ ¬ p x = true := by
  simp [Fab.dropRoutes]

theorem routeFlush_age (v : Word) : fld (v ||| 0x80000000#32) 15 0 = fld v 15 0 := fld_or_of_clear v _ (by decide)
theorem routeFlush_kept (v : Word) : (v ||| 0x80000000#32) &&& 0xFFFF#32 = v &&& 0xFFFF#32 := by
  rw [BitVec.and_or_distrib_right, show (0x80000000#32) &&& 0xFFFF#32 = 0#32 by decide, BitVec.or_zero]
theorem routeFlush_flushes (v : Word) : bit (v ||| 0x80000000#32) 31 = true := by simp [bit]

theorem routeCtrlW_flush {v : Word} {d : Dev} (h1 : 10 ≤ fld v 15 0) (h2 : fld v 15 0 ≤ 60000) : routeCtrlW (v ||| 0x80000000#32) d
    = .took (let e := d.setReg Off.fabRouteCtrl (v &&& 0xFFFF#32); { e with fab := e.fab.dropRoutes (fun _ => true) }) := by
  unfold routeCtrlW
  rw [routeFlush_age, routeFlush_kept, if_neg (by omega)]
  exact congrArg WOut.took (if_pos (routeFlush_flushes v))

theorem routeCtrlW_range {v : Word} {d : Dev} (h : fld v 15 0 < 10 ∨ 60000 < fld v 15 0) : routeCtrlW (v ||| 0x80000000#32) d = .drop := by
  unfold routeCtrlW
  rw [routeFlush_age, if_pos h]

/-! ### The obligation -/

/-- What is said of the device that a flood leaves, said of the state. -/
theorem flood_told {s : State} {o : Host.Outcome State Fault Refusal} {e : Dev} {k : Nat} {w : Word} {b : Bytes} {p : Nat → Prop} (ho : o = .next { s with dev := e })
    (hseq : e.fab.floodSeq = k) (hcount : e.reg Off.fabFlooded = w) (hsent : ∀ n, n < 8 → (Tx.frame n b ∈ e.tx ↔ p n)) :
    ∃ u, o = .next u ∧ DevOnly s u ∧ u.dev.fab.floodSeq = k ∧ u.dev.reg Off.fabFlooded = w ∧ ∀ n, n < 8 → (Tx.frame n b ∈ u.dev.tx ↔ p n) :=
  ⟨_, ho, .of_dev .., hseq, hcount, hsent⟩

section
variable {s : State} {port : Nat} {bytes : Bytes} {f : Frame} (hb : Frame.ofBytes port bytes = some f)
include hb

/-- What FRAME_RECEIVE makes of a frame. -/
theorem frameReceive_gives {e : Dev} (h : frameReceiveOp f s.ctx s.dev = e) : exec (.frameReceive port bytes) s = .next { s with dev := e } :=
  onDev_gives (f := onFrame port bytes frameReceiveOp) ((onFrame_some _ _ _ hb).trans h)

/-- A frame of a routed class for another device. -/
theorem frameReceive_onward (hon : s.dev.fabOn = true) (hup : s.dev.portUp port = true) (hr : f.cls = 0 ∨ f.cls = 3 ∨ f.cls = 4 ∨ f.cls = 5)
    (hf : f.flood = false) (hd : f.dst ≠ s.dev.nodeId) (hh : f.hops + 1 ≤ s.dev.maxHops) (hc : s.dev.fab.conflict = false) :
    let e := s.dev.learn s.ctx f.src f.cls port f.hops
    let out := e.fab.routes.find? (fun x => x.node == f.dst && x.cls == f.cls && s.dev.portUp x.port)
    let on := { f with hops := f.hops + 1, seq := (s.dev.fab.floodSeq + 1) % 2 ^ 32, flood := true }
    (∀ q, out = some q → exec (.frameReceive port bytes) s = .next { s with dev := e.emit (.frame q.port { f with port := q.port, hops := f.hops + 1 }.bytes) }) ∧
    (out = none → ∃ u, exec (.frameReceive port bytes) s = .next u ∧ DevOnly s u ∧ u.dev.fab.floodSeq = (s.dev.fab.floodSeq + 1) % 2 ^ 32
      ∧ u.dev.reg Off.fabFlooded = BitVec.ofNat 32 (min 0xFFFFFFFF ((s.dev.reg Off.fabFlooded).toNat + 1))
      ∧ ∀ n, n < 8 → (Tx.frame n on.bytes ∈ u.dev.tx ↔ (n ≠ port ∧ s.dev.portUp n = true) ∨ Tx.frame n on.bytes ∈ s.dev.tx)) := by
  obtain rfl := Frame.ofBytes_port hb
  have he := (s.dev.learn_routesOnly s.ctx f.src f.cls f.port f.hops).sameHops
  have hfwd := frameReceive_gives hb (frameReceiveOp_onward (c := s.ctx) hon hup hr hf hd)
  generalize s.dev.learn s.ctx f.src f.cls f.port f.hops = e at he hfwd ⊢
  have hlearned : e.learned f.dst f.cls = (e.fab.routes.find? (fun x => x.node == f.dst && x.cls == f.cls && s.dev.portUp x.port)).map Route.port := by
    rw [Dev.learned, he.portUp]
  rw [← he.maxHops] at hh
  rw [← he.conflict] at hc
  refine ⟨fun q hq => ?_, fun hq => ?_⟩
  · rw [hq] at hlearned
    rw [hfwd, Dev.forward_learned hh hc hlearned]
  · rw [hq] at hlearned
    have hsent := Dev.forward_flood hh hc hf hlearned
    rw [he.flooded_eq, Frame.flooded] at hsent
    have hseq := he.flood_seq
    generalize (s.dev.fab.floodSeq + 1) % 2 ^ 32 = k at hsent hseq ⊢
    rw [hfwd, hsent]
    exact flood_told rfl (hseq _ _) (he.flood_count _ _) (fun n h8 => he.flood_mem _ h8)

end

/-- Settles O36, by the class of the frame and where it is bound. -/
theorem fabricFrames : Obligations.FabricFrames := by
  intro s port bytes
  refine ⟨fun hb => onDev_idle (f := onFrame port bytes frameReceiveOp) (onFrame_none _ _ _ hb), fun f hb hon hup => ?_, fun node cls => ?_, fun v hm => ⟨fun h1 h2 => ?_, fun hv => ?_⟩⟩
  · have honward := fun hr hf hd => frameReceive_onward hb hon hup hr hf hd
    obtain rfl := Frame.ofBytes_port hb
    refine ⟨fun hx => ?_, fun hr => ⟨fun hf hd => ⟨?_, fun x => Dev.learn_known, Dev.learn_new, Dev.learn_full⟩, fun hf hd => ⟨fun hh => ?_, honward hr hf hd⟩,
      fun w hf hw hs => ?_⟩, fun hx => ?_⟩
    · exact frameReceive_gives hb (frameReceiveOp_unknown hon hup hx)
    · exact frameReceive_gives hb (frameReceiveOp_here hon hup hr hf hd)
    · rw [frameReceive_gives hb (frameReceiveOp_onward hon hup hr hf hd), Dev.forward_past]
      rw [(s.dev.learn_routesOnly s.ctx f.src f.cls f.port f.hops).sameHops.maxHops]
      exact hh
    · exact frameReceive_gives hb (frameReceiveOp_seen hon hup hr hf hw (hs.imp_right fun ⟨hboot, hseq, _⟩ => ⟨hboot, hseq⟩))
    · exact frameReceive_gives hb (frameReceiveOp_bound hon hup hx)
  · refine ⟨_, onDev_gives (f := routeAgeOp node cls) rfl, .of_dev .., rfl, fun x => ?_⟩
    refine Fab.mem_dropRoutes.trans ?_
    simp only [Bool.and_eq_true, beq_iff_eq, decide_eq_true_eq, and_assoc]
    rfl
  · exact ⟨_, onDev_took (f := fun _ => routeCtrlW (v ||| 0x80000000#32)) hm (by decide) (routeCtrlW_flush h1 h2), .of_dev .., Fab.dropRoutes_all _, Dev.reg_setReg ..⟩
  · exact onDev_idle (f := fun c d => d.hostWrite c Off.fabRouteCtrl (routeCtrlW (v ||| 0x80000000#32))) (hostWrite_own_drop hm (by decide) (routeCtrlW_range hv))

end Sys2Proof.Machine

/-! Ceremony commands and their ends (R451, R452, R454, R456, R462, R464). -/

namespace Sys2Proof.Machine

/-! ### A ceremony slot -/

/-- Slot `n` holds `k`. -/
def Dev.HasCer (d : Dev) (n : Nat) (k : Ceremony) : Prop := d.cus.cers.find? (fun x => x.num == n) = some k

section
variable {d e : Dev} {n : Nat} {k : Ceremony} (h : d.HasCer n k)
include h

theorem Dev.HasCer.cer : d.cer n = k := by
  unfold Dev.cer
  rw [show d.cus.cers.find? (fun c => c.num == n) = some k from h]
  rfl

theorem Dev.HasCer.num : k.num = n := by simpa using List.find?_some h

theorem Dev.HasCer.of_cers (he : e.cus.cers = d.cus.cers) : e.HasCer n k := by
  unfold Dev.HasCer
  rw [he]
  exact h

theorem Dev.HasCer.upd {f : Ceremony → Ceremony} (hf : ∀ x : Ceremony, x.num = n → (f x).num = n) : (d.updCer n f).HasCer n (f k) :=
  (find_updWhere _ _ (fun x hx => by simpa using hf x (by simpa using hx)) _).trans (by rw [show d.cus.cers.find? (fun x => x.num == n) = some k from h]; rfl)

/-- A slot with a result and nothing else changed. -/
theorem Dev.HasCer.result (r : Nat) : (d.cerResult n r).HasCer n { k with result := r } := h.upd (fun _ hx => hx)

end

/-! ### The end of a ceremony -/

/-- CUS_EVT with more bits. -/
theorem Dev.evtBit_keeps_bit {off i : Nat} (j : Nat) {d : Dev} (h : bit (d.reg off) i = true) : bit ((d.evtBit off j).reg off) i = true := by
  rw [Dev.evtBit_reg]
  exact bit_or_left _ h

theorem Dev.cerEnd_cusEvt (c : Ctx) (n : Nat) (q : Bool) (r : Nat) (d : Dev) : (d.cerEnd c n q r).reg Off.cusEvt = d.reg Off.cusEvt ||| (1#32 <<< 3) := by
  unfold Dev.cerEnd
  extract_lets k d0 d1
  have hd1 : d1.reg Off.cusEvt = d.reg Off.cusEvt ||| (1#32 <<< 3) := by
    unfold d1 d0
    rw [Dev.evtBit_reg, Dev.updCer_reg]
    split <;> rfl
  split
  · rw [Dev.evidence_reg_ne _ _ _ _ (by decide) (by decide), hd1]
  · exact hd1

theorem Dev.cerEnd_cers (c : Ctx) (n : Nat) (q : Bool) (r : Nat) (d : Dev) : (d.cerEnd c n q r).cus = (d.updCer n (Ceremony.idle r)).cus := by
  unfold Dev.cerEnd
  extract_lets k d0 d1
  have hd1 : d1.cus = (d.updCer n (Ceremony.idle r)).cus := by
    unfold d1 d0
    rw [Dev.evtBit_cus]
    split <;> rfl
  split
  · rw [Dev.evidence_cus, hd1]
  · exact hd1

section
variable {d : Dev} {n : Nat} {k : Ceremony} (h : d.HasCer n k) (c : Ctx) (q : Bool) (r : Nat)
include h

theorem Dev.HasCer.ended : (d.cerEnd c n q r).HasCer n (k.idle r) := Dev.HasCer.of_cers (h.upd (f := Ceremony.idle r) (fun _ hx => hx)) (congrArg Cus.cers (d.cerEnd_cers c n q r))

end

theorem Dev.cerEnd_done (c : Ctx) (n : Nat) (q : Bool) (r : Nat) (d : Dev) : bit ((d.cerEnd c n q r).reg Off.cusEvt) 3 = true := by
  rw [Dev.cerEnd_cusEvt, ← Dev.evtBit_reg]
  exact Dev.evtBit_bit _ _ (by decide)
theorem Dev.cerEnd_keeps_bit {i : Nat} (c : Ctx) (n : Nat) (q : Bool) (r : Nat) {d : Dev} (h : bit (d.reg Off.cusEvt) i = true) :
    bit ((d.cerEnd c n q r).reg Off.cusEvt) i = true := by
  rw [Dev.cerEnd_cusEvt]
  exact bit_or_left _ h

/-! ### A command, with its firmware task -/

/-- A task of firmware leaves all but the task lists alone. -/
structure Dev.TaskOnly (d w : Dev) : Prop where
  regs : w.regs = d.regs
  cus  : w.cus = d.cus
  key  : w.key = d.key
  rng  : w.rng = d.rng
  fab  : w.fab = d.fab
  tmp  : w.tmp = d.tmp
  pwr  : w.pwr = d.pwr

theorem Dev.TaskOnly.refl (d : Dev) : d.TaskOnly d := ⟨rfl, rfl, rfl, rfl, rfl, rfl, rfl⟩
theorem Dev.fwReady_taskOnly (c : Ctx) (k : Nat) (d : Dev) : d.TaskOnly (d.fwReady c k) :=
  ⟨d.fwReady_regs c k, d.fwReady_cus c k, d.fwReady_key c k, d.fwReady_rng c k, d.fwReady_fab c k, d.fwReady_tmp c k, d.fwReady_pwr c k⟩

section
variable {d w : Dev} (h : d.TaskOnly w)
include h

theorem Dev.TaskOnly.reg (o : Nat) : w.reg o = d.reg o := by rw [Dev.reg, h.regs, Dev.reg]
theorem Dev.TaskOnly.mgmtUp : w.mgmtUp = d.mgmtUp := by rw [Dev.mgmtUp, h.pwr, Dev.mgmtUp]
theorem Dev.TaskOnly.mgmtDrbg : w.mgmtDrbg = d.mgmtDrbg := by rw [Dev.mgmtDrbg, Dev.drbg, h.rng, Dev.mgmtDrbg, Dev.drbg]
theorem Dev.TaskOnly.hasCer {n : Nat} {k : Ceremony} (hk : d.HasCer n k) : w.HasCer n k := hk.of_cers (congrArg Cus.cers h.cus)
theorem Dev.TaskOnly.windowEnd (k : Ceremony) : w.windowEnd k = d.windowEnd k := by rw [Dev.windowEnd, h.reg, Dev.windowEnd]
theorem Dev.TaskOnly.beginFail (k : Ceremony) (r : DmaRead) : w.beginFail k r = d.beginFail k r := by
  unfold Dev.beginFail Dev.locked
  rw [h.mgmtUp, h.tmp, h.cus, h.mgmtDrbg]
theorem Dev.TaskOnly.judgeApproval (k : Ceremony) (resp : Bytes) (loc : Bool) : w.judgeApproval k resp loc = d.judgeApproval k resp loc := by
  unfold Dev.judgeApproval Dev.cerRecords Dev.firstEnrol Dev.scope
  rw [h.cus]
theorem Dev.TaskOnly.isReplica (n : Nat) : w.isReplica n = d.isReplica n := by rw [Dev.isReplica, h.fab, Dev.isReplica]
theorem Dev.TaskOnly.nonce (c : Ctx) : (w.mgmtNonce c).1 = (d.mgmtNonce c).1 := Dev.mgmtNonce_1_congr c h.rng

/-- What is drawn next is the same too. -/
theorem Dev.TaskOnly.request_rng (c : Ctx) (n len : Nat) (x : Bytes) : (w.request c n len x).2.rng = (d.request c n len x).2.rng := by
  have hdrbg : ∀ m, w.drbg m = d.drbg m := fun m => by rw [Dev.drbg, h.rng, Dev.drbg]
  have hlim : w.stretchLimit = d.stretchLimit := by rw [Dev.stretchLimit, h.reg, Dev.stretchLimit]
  have hreseed : ∀ a b : Dev, a.rng = b.rng → (a.dueReseed c n).rng = (b.dueReseed c n).rng := by
    intro a b hab
    unfold Dev.dueReseed Dev.drbg
    rw [hab]
    dsimp only
    split
    · split
      · simp only [Dev.updDrbg]
      · exact hab
    · exact hab
  have hsettled : ∀ a b : Dev, a.rng = b.rng → ∀ f, (a.updDrbg n f).rng = (b.updDrbg n f).rng := fun a b hab f => by simp only [Dev.updDrbg, hab]
  have hd1 := hsettled _ _ (hreseed ((w.updDrbg n (fun g => { (g.generate len w.rng.ctr x).2 with reqs := g.reqs + 1 })).draw)
    ((d.updDrbg n (fun g => { (g.generate len d.rng.ctr x).2 with reqs := g.reqs + 1 })).draw) (by simp only [Dev.draw, Dev.updDrbg, h.rng])) (Drbg.settle d.stretchLimit)
  unfold Dev.request
  dsimp only
  rw [hlim, hdrbg]
  split <;> split <;> simpa only [Dev.evtBit_rng] using hd1

end

/-! ### BEGIN -/

theorem Dev.cerBegin_fails {c : Ctx} {n f : Nat} {r : DmaRead} {d : Dev} (h : d.beginFail (d.cer n) r = f) (hf : f ≠ 0) : d.cerBegin c n r = d.cerResult n f := by
  unfold Dev.cerBegin
  dsimp only
  rw [h, if_pos hf]

/-- A ceremony as BEGIN makes it of a slot, from two nonces and the bytes of its key pair, before its quorum is known. -/
def Ceremony.begun (k : Ceremony) (now : Nat) (r : DmaRead) (id nonce : DWord) (eph : Bytes) : Ceremony :=
  { k with
    state := .collecting, cls := fld k.cfg 3 0, action := fld k.cfg 7 4, domain := if bit k.cfg 31 then none else some (fld k.cfg 25 16)
    param := r.data.take k.paramLen, id := id, nonce := nonce, eph := eph, beginSt := now, first := none, apps := [], result := 0 }
/-- The device once BEGIN has drawn its two nonces. -/
def Dev.cerDrawn (c : Ctx) (d : Dev) : Dev := ((d.mgmtNonce c).2.mgmtNonce c).2
/-- The ceremony with its quorum. -/
def Dev.cerBegun (c : Ctx) (k : Ceremony) (r : DmaRead) (d : Dev) : Ceremony :=
  let k1 := k.begun c.now r (d.mgmtNonce c).1 ((d.mgmtNonce c).2.mgmtNonce c).1 ((d.cerDrawn c).mgmtBytes c 64).1
  { k1 with required := (d.cerNeeds k1).1, localMin := (d.cerNeeds k1).2 }

theorem Dev.present_cus (k : Ceremony) (d : Dev) : (d.present k).cus = d.cus := emitAll_keeps Dev.cus (fun p : CardPort => Tx.card p.num k.challenge) (fun _ _ => rfl) _ _

theorem Dev.cerBegin_begins {c : Ctx} {n : Nat} {r : DmaRead} {d : Dev} (hf : d.beginFail (d.cer n) r = 0) :
    d.cerBegin c n r = ((((d.cerDrawn c).mgmtBytes c 64).2).updCer n (fun _ => d.cerBegun c (d.cer n) r)).present (d.cerBegun c (d.cer n) r) := by
  unfold Dev.cerBegin
  dsimp only
  rw [hf, if_neg (by decide)]
  rfl

/-- The slot after a BEGIN that starts. -/
theorem Dev.HasCer.begins {c : Ctx} {n : Nat} {k : Ceremony} {r : DmaRead} {d : Dev} (h : d.HasCer n k) (hf : d.beginFail k r = 0) :
    (d.cerBegin c n r).HasCer n (d.cerBegun c k r) := by
  rw [← h.cer] at hf
  rw [Dev.cerBegin_begins hf, h.cer]
  have hdrawn : ((d.cerDrawn c).mgmtBytes c 64).2.HasCer n k := h.of_cers (congrArg Cus.cers
    ((Dev.request_2_cus _ _ _ _ _).trans ((Dev.request_2_cus _ _ _ _ _).trans (Dev.request_2_cus _ _ _ _ _))))
  exact (hdrawn.upd (f := fun _ => d.cerBegun c k r) (fun _ _ => h.num)).of_cers (congrArg Cus.cers (Dev.present_cus ..))

/-- BEGIN's reasons, in their order. -/
theorem Dev.beginFail_out {k : Ceremony} {r : DmaRead} {d : Dev} (h : d.mgmtUp = false) : d.beginFail k r = 5 := by simp [Dev.beginFail, h]
theorem Dev.beginFail_state {k : Ceremony} {r : DmaRead} {d : Dev} (h : d.mgmtUp = true) (hs : k.state ≠ .idle) : d.beginFail k r = 1 := by
  simp [Dev.beginFail, h, hs]

section
variable {k : Ceremony} {r : DmaRead} {d : Dev} (hu : d.mgmtUp = true) (hs : k.state = .idle)
include hu hs

theorem Dev.beginFail_locked (hl : d.locked = true) (hc : fld k.cfg 3 0 ∉ [2, 4, 7, 8]) : d.beginFail k r = 6 := by
  simp [Dev.beginFail, hu, hs, hl, cerInLock, List.contains_eq_mem, hc]

theorem Dev.beginFail_param (hl : d.locked = false) (hr : r.refused = true ∨ r.failed = true ∨ parmOk k.cfg k.paramLen r.data = false) : d.beginFail k r = 2 := by
  simp [Dev.beginFail, hu, hs, hl, hr]

variable (hl : d.locked = false) (hr : r.refused = false) (hf : r.failed = false) (hp : parmOk k.cfg k.paramLen r.data = true)
include hl hr hf hp

/-- Another slot holds the class and the scope. -/
def Dev.cerHeld (d : Dev) (k : Ceremony) : Prop :=
  ∃ x ∈ d.cus.cers, x.state ≠ .idle ∧ x.cls = fld k.cfg 3 0 ∧ x.domain = if bit k.cfg 31 then none else some (fld k.cfg 25 16)

omit hu hs hl hr hf hp in
theorem Dev.cerHeld_iff : (d.cus.cers.any (fun x => x.state != .idle && x.cls == fld k.cfg 3 0 && x.domain == if bit k.cfg 31 then none else some (fld k.cfg 25 16))) = true
    ↔ d.cerHeld k := by
  simp [Dev.cerHeld, and_assoc]

theorem Dev.beginFail_held (hh : d.cerHeld k) : d.beginFail k r = 3 := by
  unfold Dev.beginFail
  simp only [hu, hs, hl, hr, hf, hp, Dev.cerHeld_iff.mpr hh]
  rfl

theorem Dev.beginFail_free (hh : ¬ d.cerHeld k) : d.beginFail k r = if d.mgmtDrbg then 0 else 4 := by
  unfold Dev.beginFail
  simp only [hu, hs, hl, hr, hf, hp, Bool.eq_false_iff.mpr (mt Dev.cerHeld_iff.mp hh)]
  cases d.mgmtDrbg <;> rfl

end

/-! ### What a domain's change tells -/

/-- A message that tells of a change leaves ceremonies, keys and CUS_EVT alone. -/
structure Dev.Tells (d e : Dev) : Prop where
  cus    : e.cus = d.cus
  key    : e.key = d.key
  cusEvt : e.reg Off.cusEvt = d.reg Off.cusEvt

theorem Dev.Tells.refl (d : Dev) : d.Tells d := ⟨rfl, rfl, rfl⟩
theorem Dev.Tells.trans {a b c : Dev} (h : a.Tells b) (g : b.Tells c) : a.Tells c := ⟨g.cus.trans h.cus, g.key.trans h.key, g.cusEvt.trans h.cusEvt⟩

theorem Dev.sendPeer_tells (n k m : Nat) (p : Bytes) (d : Dev) : d.Tells (d.sendPeer n k m p) := ⟨d.sendPeer_cus .., d.sendPeer_key .., d.sendPeer_reg ..⟩

theorem Dev.setRepl_tells (r : Repl) (st : Nat) (d : Dev) : d.Tells (d.setRepl r st) := by
  unfold Dev.setRepl
  dsimp only
  split
  · exact ⟨Dev.evtBit_cus .., Dev.evtBit_key .., Dev.evtBit_reg_ne _ _ (by decide)⟩
  · exact ⟨rfl, rfl, rfl⟩

theorem Dev.replSend_tells (kind : ReplKind) (r : Repl) (d : Dev) : d.Tells (d.replSend kind r) := by
  unfold Dev.replSend
  dsimp only
  split
  · split
    · exact .refl d
    · exact (Dev.sendPeer_tells ..).trans (Dev.setRepl_tells ..)
  · exact Dev.setRepl_tells ..

theorem Dev.foldl_replSend_tells (kind : ReplKind) : ∀ (l : List Repl) (d : Dev), d.Tells (l.foldl (fun a r => a.replSend kind r) d)
  | [], d => .refl d
  | r :: l, d => (d.replSend_tells kind r).trans (Dev.foldl_replSend_tells kind l (d.replSend kind r))

theorem Dev.replicate_tells (dom : Nat) (kind : ReplKind) (d : Dev) : d.Tells (d.replicate dom kind) := Dev.foldl_replSend_tells kind _ d

theorem Dev.domainChanged_tells (c : Ctx) (n : Nat) {w : MirrorOf} (hw : w = .write ∨ w = .domain) (d : Dev) : d.Tells (d.domainChanged c n w) := by
  have hsent : d.Tells (d.mirroring (Dev.sendDomain n)) := by
    unfold Dev.mirroring Dev.sendDomain Dev.mirrorSend
    split
    · exact Dev.sendPeer_tells ..
    · exact .refl d
  refine hsent.trans ?_
  unfold Dev.domainChanged Dev.awaitAck
  split
  · exact ⟨rfl, rfl, rfl⟩
  · rcases hw with rfl | rfl <;> exact .refl _

/-! ### The actions at quorum -/

theorem Key.domain_updDomain (k : Key) (n : Nat) {f : Domain → Domain} (hf : ∀ x, (f x).num = x.num) : (k.updDomain n f).domain n = f (k.domain n) := by
  unfold Key.updDomain Key.domain
  rw [find_upsert _ _ _ (by simp) (fun x hx => by rw [hf]; exact hx)]
  rfl

/-- A load of a domain's DMK, as a ceremony gives it. -/
def Dev.dmkLoaded (d : Dev) (k : Ceremony) : Dev :=
  { d with key := d.key.updDomain (k.domain.getD 0) (fun x => { x with state := .active, gen := le k.param 16 4, dmk := k.dmk }) }

/-- What a load's check value decides. -/
theorem Dev.dmkInstall_load {c : Ctx} {d : Dev} {k : Ceremony} (ha : k.action = 1) (hs : d.key.store = .ready) (hr : d.isReplica (k.domain.getD 0) = false)
    (he : (d.key.domain (k.domain.getD 0)).state = .empty) : d.dmkInstall c k
    = if (kcv 2 5 0x13 k.dmk).take 5 = bsub k.param 8 5
      then (0, ((d.dmkLoaded k).replicate (k.domain.getD 0) .copy).domainChanged c (k.domain.getD 0) .write) else (10, d) := by
  unfold Dev.dmkInstall
  simp only [ha, hs, hr, he]
  split_ifs <;> simp_all [Dev.dmkLoaded]

theorem Dev.dmkInstall_cers (c : Ctx) (d : Dev) (k : Ceremony) : (d.dmkInstall c k).2.cus = d.cus ∧ (d.dmkInstall c k).2.reg Off.cusEvt = d.reg Off.cusEvt := by
  unfold Dev.dmkInstall
  dsimp only
  split
  · exact ⟨rfl, rfl⟩
  · split
    · exact ⟨rfl, rfl⟩
    · split
      · have h := (Dev.replicate_tells (k.domain.getD 0) .copy (d.dmkLoaded k)).trans (Dev.domainChanged_tells c (k.domain.getD 0) (.inl rfl) _)
        exact ⟨h.cus, h.cusEvt⟩
      · have h := fun e : Dev => Dev.domainChanged_tells c (k.domain.getD 0) (.inl rfl) e
        exact ⟨(h _).cus, (h _).cusEvt⟩

theorem Dev.enrolApply_cers (c : Ctx) (d : Dev) (k : Ceremony) :
    (d.enrolApply c k).2.cus.cers = d.cus.cers ∧ (d.enrolApply c k).2.reg Off.cusEvt = d.reg Off.cusEvt := by
  constructor <;> (unfold Dev.enrolApply; extract_lets; split <;> rfl)

/-- What a ceremony of an action form does at its quorum. -/
def Dev.atQuorum (c : Ctx) (k : Ceremony) (d : Dev) : Nat × Dev := if k.action = 4 then d.enrolApply c k else d.dmkInstall c k

theorem Dev.atQuorum_cers (c : Ctx) (k : Ceremony) (d : Dev) :
    (d.atQuorum c k).2.cus.cers = d.cus.cers ∧ (d.atQuorum c k).2.reg Off.cusEvt = d.reg Off.cusEvt := by
  unfold Dev.atQuorum
  split
  · exact d.enrolApply_cers c k
  · exact (d.dmkInstall_cers c k).imp (congrArg Cus.cers) id

section
variable {c : Ctx} {n : Nat} {k : Ceremony} {d : Dev} (h : d.HasCer n k)
include h

theorem Dev.HasCer.quorum_short (hq : k.quorumMet = false) : d.cerQuorum c n = d := by
  simp [Dev.cerQuorum, h.cer, hq]

theorem Dev.HasCer.quorum_opens (hq : k.quorumMet = true) (ha : k.action = 0 ∨ (k.action = 3 ∧ d.isReplica (k.domain.getD 0) = false)) :
    d.cerQuorum c n = (d.updCer n (fun x => { x with state := .opened, openSt := c.now, result := 0 })).evtBit Off.cusEvt 2 := by
  unfold Dev.cerQuorum
  simp only [h.cer, hq]
  rcases ha with ha | ⟨ha, hr⟩
  · simp [ha]
  · simp [ha, hr]

theorem Dev.HasCer.quorum_replica (hq : k.quorumMet = true) (ha : k.action = 3) (hr : d.isReplica (k.domain.getD 0) = true) :
    d.cerQuorum c n = d.cerEnd c n true CerRes.badState := by
  unfold Dev.cerQuorum
  simp only [h.cer, hq]
  simp [ha, hr]

theorem Dev.HasCer.quorum_acts (hq : k.quorumMet = true) (h0 : k.action ≠ 0) (h3 : k.action ≠ 3) :
    d.cerQuorum c n = (d.atQuorum c k).2.cerEnd c n true (d.atQuorum c k).1 := by
  unfold Dev.cerQuorum
  simp only [h.cer, hq]
  rw [if_neg (by decide), if_neg (by simp [h0, h3])]
  rfl

/-- Whatever the quorum does, it leaves the events that are told. -/
theorem Dev.HasCer.quorum_keeps_bit {i : Nat} (hb : bit (d.reg Off.cusEvt) i = true) : bit ((d.cerQuorum c n).reg Off.cusEvt) i = true := by
  cases hq : k.quorumMet with
  | false => rwa [h.quorum_short hq]
  | true =>
    have hopen := fun ha => h.quorum_opens (c := c) hq ha
    have hstay : bit (((d.updCer n (fun x => { x with state := .opened, openSt := c.now, result := 0 })).evtBit Off.cusEvt 2).reg Off.cusEvt) i = true :=
      Dev.evtBit_keeps_bit 2 hb
    by_cases h0 : k.action = 0
    · rwa [hopen (.inl h0)]
    · by_cases h3 : k.action = 3
      · cases hr : d.isReplica (k.domain.getD 0) with
        | false => rwa [hopen (.inr ⟨h3, hr⟩)]
        | true =>
          rw [h.quorum_replica hq h3 hr]
          exact Dev.cerEnd_keeps_bit c n true _ hb
      · rw [h.quorum_acts hq h0 h3]
        exact Dev.cerEnd_keeps_bit c n true _ (by rw [(d.atQuorum_cers c k).2]; exact hb)

theorem Dev.HasCer.quorum_acted (hq : k.quorumMet = true) (h0 : k.action ≠ 0) (h3 : k.action ≠ 3) :
    (d.cerQuorum c n).HasCer n (k.idle (d.atQuorum c k).1) ∧ bit ((d.cerQuorum c n).reg Off.cusEvt) 3 = true := by
  rw [h.quorum_acts hq h0 h3]
  exact ⟨(h.of_cers (d.atQuorum_cers c k).1).ended c true _, Dev.cerEnd_done ..⟩

/-- A load at its quorum: the domain is ACTIVE with the DMK whose check value agrees, else nothing changes. -/
theorem Dev.HasCer.quorum_load (hq : k.quorumMet = true) (ha : k.action = 1) (hs : d.key.store = .ready) (hr : d.isReplica (k.domain.getD 0) = false)
    (he : (d.key.domain (k.domain.getD 0)).state = .empty) :
    if (kcv 2 5 0x13 k.dmk).take 5 = bsub k.param 8 5 then
      (d.cerQuorum c n).HasCer n (k.idle 0)
        ∧ (d.cerQuorum c n).key.domain (k.domain.getD 0) = { d.key.domain (k.domain.getD 0) with state := .active, gen := le k.param 16 4, dmk := k.dmk }
    else (d.cerQuorum c n).HasCer n (k.idle 10) ∧ (d.cerQuorum c n).key.domain (k.domain.getD 0) = d.key.domain (k.domain.getD 0) := by
  have h0 : k.action ≠ 0 := by omega
  have h3 : k.action ≠ 3 := by omega
  have hended := (h.quorum_acted (c := c) hq h0 h3).1
  have hkey : (d.cerQuorum c n).key = (d.atQuorum c k).2.key := by rw [h.quorum_acts hq h0 h3, Dev.cerEnd_key]
  have hquorum : d.atQuorum c k = _ := (if_neg (by omega)).trans (Dev.dmkInstall_load (c := c) ha hs hr he)
  rw [hkey]
  split
  next hk =>
    rw [hquorum, if_pos hk] at hended ⊢
    refine ⟨hended, ?_⟩
    have htell := (Dev.replicate_tells (k.domain.getD 0) .copy (d.dmkLoaded k)).trans (Dev.domainChanged_tells c (k.domain.getD 0) (.inl rfl) _)
    exact (congrArg (fun x : Key => x.domain (k.domain.getD 0)) htell.key).trans (Key.domain_updDomain _ _ (fun _ => rfl))
  next hk =>
    rw [hquorum, if_neg hk] at hended ⊢
    exact ⟨hended, rfl⟩

end

/-- What a quorum comes to, for a ceremony whose last approval was told. -/
theorem Dev.HasCer.quorum_ends {c : Ctx} {n : Nat} {k : Ceremony} {d : Dev} (h : d.HasCer n k) (h0 : k.result = 0) :
    (k.quorumMet = false → (d.cerQuorum c n).cer n = k) ∧
    (k.quorumMet = true →
      (k.action = 0 ∨ (k.action = 3 ∧ d.isReplica (k.domain.getD 0) = false) →
        (d.cerQuorum c n).cer n = { k with state := .opened, openSt := c.now } ∧ bit ((d.cerQuorum c n).reg Off.cusEvt) 2 = true) ∧
      (k.action = 1 ∨ k.action = 2 ∨ k.action = 4 → ∃ r, (d.cerQuorum c n).cer n = k.idle r ∧ bit ((d.cerQuorum c n).reg Off.cusEvt) 3 = true) ∧
      (k.action = 1 → d.key.store = .ready → d.isReplica (k.domain.getD 0) = false → (d.key.domain (k.domain.getD 0)).state = .empty →
        if (kcv 2 5 0x13 k.dmk).take 5 = bsub k.param 8 5 then
          (d.cerQuorum c n).cer n = k.idle 0
            ∧ (d.cerQuorum c n).key.domain (k.domain.getD 0) = { d.key.domain (k.domain.getD 0) with state := .active, gen := le k.param 16 4, dmk := k.dmk }
        else (d.cerQuorum c n).cer n = k.idle 10 ∧ (d.cerQuorum c n).key.domain (k.domain.getD 0) = d.key.domain (k.domain.getD 0))) := by
  refine ⟨fun hq => ?_, fun hq => ⟨fun ha => ?_, fun ha => ?_, fun ha hs hr he => ?_⟩⟩
  · rw [h.quorum_short hq, h.cer]
  · rw [h.quorum_opens hq ha]
    refine ⟨?_, Dev.evtBit_bit _ _ (by decide)⟩
    have hopened := (h.upd (f := fun x => { x with state := .opened, openSt := c.now, result := 0 }) (fun _ hx => hx)).of_cers
      (congrArg Cus.cers (Dev.evtBit_cus _ Off.cusEvt 2))
    rw [hopened.cer, h0]
  · obtain ⟨hidle, htold⟩ := h.quorum_acted (c := c) hq (by omega) (by omega)
    exact ⟨_, hidle.cer, htold⟩
  · have hload := h.quorum_load (c := c) hq ha hs hr he
    split
    next hk =>
      rw [if_pos hk] at hload
      exact ⟨hload.1.cer, hload.2⟩
    next hk =>
      rw [if_neg hk] at hload
      exact ⟨hload.1.cer, hload.2⟩

/-! ### Approvals -/

/-- A ceremony with one more approval counted. -/
def Ceremony.counts (now : Nat) (a : Approval) (k : Ceremony) : Ceremony := { k with apps := k.apps ++ [a], first := some (k.first.getD now), result := 0 }
/-- The device that has counted it. -/
def Dev.counted (c : Ctx) (n : Nat) (a : Approval) (d : Dev) : Dev := (d.updCer n (Ceremony.counts c.now a)).evtBit Off.cusEvt 1

section
variable {c : Ctx} {n : Nat} {k : Ceremony} {d : Dev} (h : d.HasCer n k)
include h

theorem Dev.HasCer.counted (a : Approval) : (d.counted c n a).HasCer n (k.counts c.now a) :=
  (h.upd (f := Ceremony.counts c.now a) (fun _ hx => hx)).of_cers (congrArg Cus.cers (Dev.evtBit_cus _ Off.cusEvt 1))

theorem Dev.HasCer.approve_late {resp : Bytes} {loc : Bool} (hl : d.windowEnd k < c.now) :
    d.approve c n resp loc = (d.cerEnd c n false CerRes.windowExpired).evtBit Off.cusEvt 1 := by
  unfold Dev.approve
  dsimp only
  rw [h.cer, if_pos hl]

theorem Dev.HasCer.approve_error {resp : Bytes} {loc : Bool} {r : Nat} (hw : c.now ≤ d.windowEnd k) (hj : d.judgeApproval k resp loc = .error r) :
    d.approve c n resp loc = (d.cerResult n r).evtBit Off.cusEvt 1 := by
  unfold Dev.approve
  dsimp only
  rw [h.cer, if_neg (by omega), hj]

theorem Dev.HasCer.approve_ok {resp : Bytes} {loc : Bool} {a : Approval} (hw : c.now ≤ d.windowEnd k) (hj : d.judgeApproval k resp loc = .ok a) :
    d.approve c n resp loc = (d.counted c n a).cerQuorum c n := by
  unfold Dev.approve
  dsimp only
  rw [h.cer, if_neg (by omega), hj]
  rfl

end

theorem Dev.judgeApproval_unknown {d : Dev} {k : Ceremony} {resp : Bytes} {loc : Bool} (h : ∀ r ∈ d.cerRecords k, r.id ≠ le resp 0 8) :
    d.judgeApproval k resp loc = .error 7 := by
  have hnone : (d.cerRecords k).find? (fun r => r.id == le resp 0 8) = none := List.find?_eq_none.mpr (fun r hr => by simpa using h r hr)
  unfold Dev.judgeApproval
  dsimp only
  rw [hnone]

/-- An approval that is too short or not signed is BAD_APPROVAL, with a record of its custodian or none. -/
theorem Dev.judgeApproval_unsigned {d : Dev} {k : Ceremony} {resp : Bytes} {loc : Bool} (h : resp.length < 300 ∨ k.approvalSig resp = false) :
    d.judgeApproval k resp loc = .error 7 := by
  unfold Dev.judgeApproval
  dsimp only
  split
  · rfl
  · exact if_pos (h.elim .inl fun hs => .inr (.inr (.inl hs)))

/-- One custodian counts once. -/
theorem Dev.judgeApproval_again {d : Dev} {k : Ceremony} {resp : Bytes} {loc : Bool} {a : Approval} (ha : a ∈ k.apps) (hid : a.id = le resp 0 8) (b : Approval) :
    d.judgeApproval k resp loc ≠ .ok b := by
  have hdup : k.apps.any (fun a => a.id == le resp 0 8) = true := List.any_eq_true.mpr ⟨a, ha, by simpa using hid⟩
  unfold Dev.judgeApproval
  dsimp only
  split
  · exact nofun
  · rw [if_pos hdup]
    split <;> exact nofun

/-! ### The commands -/

section
variable {s : State} {n : Nat} {k k' : Ceremony} {o : Host.Outcome State Fault Refusal} {e : Dev} (ho : o = .next { s with dev := e })
include ho

/-- A command that leaves the slot so. -/
theorem cer_ends (h : e.HasCer n k') : ∃ u, o = .next u ∧ DevOnly s u ∧ u.dev.cer n = k' := ⟨_, ho, .of_dev .., h.cer⟩

/-- A command that ends the ceremony. -/
theorem cer_done {c : Ctx} {w : Dev} {q : Bool} {r : Nat} (hw : w.HasCer n k) (he : e = w.cerEnd c n q r) :
    ∃ u, o = .next u ∧ DevOnly s u ∧ u.dev.cer n = k.idle r ∧ bit (u.dev.reg Off.cusEvt) 3 = true := by
  subst he
  exact ⟨_, ho, .of_dev .., (hw.ended c q r).cer, Dev.cerEnd_done ..⟩

/-- An approval that the window no longer takes ends the ceremony, and is told. -/
theorem cer_late {c : Ctx} {w : Dev} {q : Bool} {r : Nat} (hw : w.HasCer n k) (he : e = (w.cerEnd c n q r).evtBit Off.cusEvt 1) :
    ∃ u, o = .next u ∧ DevOnly s u ∧ u.dev.cer n = k.idle r ∧ bit (u.dev.reg Off.cusEvt) 3 = true := by
  subst he
  exact ⟨_, ho, .of_dev .., ((hw.ended c q r).of_cers (congrArg Cus.cers (Dev.evtBit_cus ..))).cer, Dev.evtBit_keeps_bit 1 (Dev.cerEnd_done ..)⟩

/-- An approval that is rejected is told. -/
theorem cer_rejected {w : Dev} {r : Nat} (hw : w.HasCer n k) (he : e = (w.cerResult n r).evtBit Off.cusEvt 1) :
    ∃ u, o = .next u ∧ DevOnly s u ∧ bit (u.dev.reg Off.cusEvt) 1 = true ∧ u.dev.cer n = { k with result := r } := by
  subst he
  exact ⟨_, ho, .of_dev .., Dev.evtBit_bit _ _ (by decide), ((hw.result r).of_cers (congrArg Cus.cers (Dev.evtBit_cus ..))).cer⟩

end

section
variable {s : State} {n : Nat} {k : Ceremony} {o : Host.Outcome State Fault Refusal} {w : Dev} {a : Approval} {resp : Bytes} {loc : Bool}
  (ht : s.dev.TaskOnly w) (h : s.dev.HasCer n k) (ho : o = .next { s with dev := w.approve s.ctx n resp loc }) (hw : s.st.toNat ≤ s.dev.windowEnd k)
include ht h ho hw

/-- An approval that comes in the window, judged and rejected. -/
theorem approve_rejected {r : Nat} (hj : s.dev.judgeApproval k resp loc = .error r) :
    ∃ u, o = .next u ∧ DevOnly s u ∧ bit (u.dev.reg Off.cusEvt) 1 = true ∧ u.dev.cer n = { k with result := r } :=
  cer_rejected ho (ht.hasCer h) ((ht.hasCer h).approve_error (by rw [ht.windowEnd]; exact hw) (by rw [ht.judgeApproval, hj]))

/-- An approval that comes in the window, judged and counted: what its quorum comes to. -/
theorem approve_counted (hj : s.dev.judgeApproval k resp loc = .ok a) :
    ∃ u, o = .next u ∧ DevOnly s u ∧ bit (u.dev.reg Off.cusEvt) 1 = true ∧
      let k1 := k.counts s.st.toNat a
      let m := s.dev.key.domain (k.domain.getD 0)
      (k1.quorumMet = false → u.dev.cer n = k1) ∧
      (k1.quorumMet = true →
        (k.action = 0 ∨ (k.action = 3 ∧ s.dev.isReplica (k.domain.getD 0) = false) →
          u.dev.cer n = { k1 with state := .opened, openSt := s.st.toNat } ∧ bit (u.dev.reg Off.cusEvt) 2 = true) ∧
        (k.action = 1 ∨ k.action = 2 ∨ k.action = 4 → ∃ r, u.dev.cer n = k1.idle r ∧ bit (u.dev.reg Off.cusEvt) 3 = true) ∧
        (k.action = 1 → s.dev.key.store = .ready → s.dev.isReplica (k.domain.getD 0) = false → m.state = .empty →
          if (kcv 2 5 0x13 k1.dmk).take 5 = bsub k.param 8 5 then
            u.dev.cer n = k1.idle 0 ∧ u.dev.key.domain (k.domain.getD 0) = { m with state := .active, gen := le k.param 16 4, dmk := k1.dmk }
          else u.dev.cer n = k1.idle 10 ∧ u.dev.key.domain (k.domain.getD 0) = m)) := by
  have hcer := (ht.hasCer h).counted (c := s.ctx) a
  rw [(ht.hasCer h).approve_ok (by rw [ht.windowEnd]; exact hw) (by rw [ht.judgeApproval, hj])] at ho
  have hkey : (w.counted s.ctx n a).key = s.dev.key := (Dev.evtBit_key ..).trans ht.key
  have hrep : ∀ m, (w.counted s.ctx n a).isReplica m = s.dev.isReplica m := fun m => by
    rw [Dev.isReplica, Dev.counted, Dev.evtBit_fab, Dev.updCer_fab, ht.fab, Dev.isReplica]
  have hends := hcer.quorum_ends (c := s.ctx) rfl
  rw [hkey, hrep] at hends
  exact ⟨_, ho, .of_dev .., hcer.quorum_keeps_bit (Dev.evtBit_bit _ _ (by decide)), hends⟩

end

/-- What SUBMIT, END and ABANDON leave of a device, by the slot's state. -/
def Dev.cerSubmitted (c : Ctx) (n : Nat) (k : Ceremony) (r : DmaRead) (d : Dev) : Dev :=
  if k.state ≠ .collecting then d.cerResult n CerRes.badState
  else if r.refused ∨ r.failed then (d.cerResult n CerRes.badApproval).evtBit Off.cusEvt 1
  else d.approve c n r.data false
def Dev.cerClosed (c : Ctx) (n : Nat) (k : Ceremony) (d : Dev) : Dev := if k.state = .opened then d.cerEnd c n true 0 else d.cerResult n CerRes.badState
def Dev.cerAbandoned (c : Ctx) (n : Nat) (k : Ceremony) (d : Dev) : Dev :=
  if k.state = .idle then d.cerResult n CerRes.badState else d.cerEnd c n (k.state == .opened) CerRes.abandoned

section
variable {s : State} {n : Nat} {k : Ceremony} (h : s.dev.HasCer n k) (hm : HostMay s true Off.cusCerCmd) (hn : fld (s.dev.reg Off.cusCerSel) 1 0 = n)
include hm hn

theorem ceremonyBegin_gives (r : DmaRead) : exec (.ceremonyBegin r) s = .next { s with dev := (s.dev.fwReady s.ctx 1).cerBegin s.ctx n r } :=
  onDev_took (f := fun c => cerCmdW c 1#32 (some r)) hm (by decide) (by rw [← hn]; rfl)

include h

theorem ceremonyBegin_fails {r : DmaRead} {f : Nat} (hf : s.dev.beginFail k r = f) (h0 : f ≠ 0) :
    ∃ u, exec (.ceremonyBegin r) s = .next u ∧ DevOnly s u ∧ u.dev.cer n = { k with result := f } := by
  have ht := s.dev.fwReady_taskOnly s.ctx 1
  have hk := ht.hasCer h
  rw [ceremonyBegin_gives hm hn r, Dev.cerBegin_fails (by rw [hk.cer, ht.beginFail]; exact hf) h0]
  exact cer_ends rfl (hk.result f)

theorem ceremonyBegin_begins {r : DmaRead} (hf : s.dev.beginFail k r = 0) :
    ∃ u, exec (.ceremonyBegin r) s = .next u ∧ DevOnly s u ∧ u.dev.cer n = (s.dev.fwReady s.ctx 1).cerBegun s.ctx k r :=
  cer_ends (ceremonyBegin_gives hm hn r) (((s.dev.fwReady_taskOnly s.ctx 1).hasCer h).begins (((s.dev.fwReady_taskOnly s.ctx 1).beginFail k r).trans hf))

variable (hu : s.dev.mgmtUp = true)
include hu

theorem ceremonySubmit_gives (data : Bytes) (read : DmaEnd) :
    exec (.ceremonySubmit data read) s = .next { s with dev := (s.dev.fwReady s.ctx 1).cerSubmitted s.ctx n k (dmaRead data read) } := by
  refine onDev_took (f := fun c => cerCmdW c 2#32 (some (dmaRead data read))) hm (by decide) ?_
  unfold cerCmdW
  dsimp only
  rw [hn, h.cer, (s.dev.fwReady_taskOnly s.ctx 1).mgmtUp, hu]
  rfl

theorem ceremonyEnd_gives : exec .ceremonyEnd s = .next { s with dev := (s.dev.fwReady s.ctx 1).cerClosed s.ctx n k } := by
  refine onDev_took (f := fun c => cerCmdW c 3#32 none) hm (by decide) ?_
  unfold cerCmdW
  dsimp only
  rw [hn, h.cer, (s.dev.fwReady_taskOnly s.ctx 1).mgmtUp, hu]
  rfl

theorem ceremonyAbandon_gives : exec .ceremonyAbandon s = .next { s with dev := (s.dev.fwReady s.ctx 1).cerAbandoned s.ctx n k } := by
  refine onDev_took (f := fun c => cerCmdW c 4#32 none) hm (by decide) ?_
  unfold cerCmdW
  dsimp only
  rw [hn, h.cer, (s.dev.fwReady_taskOnly s.ctx 1).mgmtUp, hu]
  rfl

end

/-- The answer of a card in a port that is ACTIVE. -/
theorem cardApproval_gives {s : State} {n port : Nat} {k : Ceremony} (h : s.dev.HasCer n k) (resp env : Bytes) (he : s.dev.endpointUp = true) (hu : s.dev.mgmtUp = true)
    (hk : k.state = .collecting) (hp : ∃ p ∈ s.dev.cus.ports, p.num = port ∧ p.state = .active) :
    exec (.cardApproval n port resp env) s = .next { s with dev := s.dev.approve s.ctx n (resp ++ env) true } := by
  obtain ⟨p, hp, hnum, hst⟩ := hp
  have hport : s.dev.cus.ports.any (fun p => p.num == port && p.state == CardState.active) = true := List.any_eq_true.mpr ⟨p, hp, by simp [hnum, hst]⟩
  exact onDev_gives (f := cardApprovalOp n port (resp ++ env)) (if_pos (by simp [he, hu, h.cer, hk, hport]))

/-- Settles O42. BEGIN goes by the order of `Dev.beginFail`, an approval by `Dev.judgeApproval` and what the quorum comes to, every other
command by the slot's state. -/
theorem ceremonies : Obligations.Ceremonies := by
  intro s n k hfind
  have h : s.dev.HasCer n k := hfind
  obtain rfl := h.num
  refine ⟨fun hm hn => ⟨fun r => ⟨fun hu => ?_, fun hs hu => ?_, fun hs hu => ⟨fun hl hc => ?_, fun hl hr => ?_, fun hl hr hf hp => ⟨fun hh => ?_, fun hh hg => ?_, fun hh hg => ?_⟩⟩⟩,
      fun hu => ⟨fun data read => ⟨fun hs => ?_, fun hs hr => ?_, fun hs hr hf hw => ?_⟩, fun hs => ?_, fun hs => ?_, fun hs => ?_, fun hs => ?_⟩⟩,
    fun port resp env he hu hs hp => ⟨fun hw => ?_, fun hw => ?_⟩, fun resp loc => ⟨Dev.judgeApproval_unknown, Dev.judgeApproval_unsigned, fun a => Dev.judgeApproval_again⟩,
    fun hs => ⟨fun hw => ?_, fun hw => ?_⟩, fun hs => ⟨fun hw => ?_, fun hw => ?_⟩⟩
  · exact ceremonyBegin_fails h hm hn (Dev.beginFail_out hu) (by decide)
  · exact ceremonyBegin_fails h hm hn (Dev.beginFail_state hu hs) (by decide)
  · exact ceremonyBegin_fails h hm hn (Dev.beginFail_locked hu hs hl hc) (by decide)
  · exact ceremonyBegin_fails h hm hn (Dev.beginFail_param hu hs hl hr) (by decide)
  · exact ceremonyBegin_fails h hm hn (Dev.beginFail_held hu hs hl hr hf hp hh) (by decide)
  · exact ceremonyBegin_fails h hm hn ((Dev.beginFail_free hu hs hl hr hf hp hh).trans (by rw [hg]; rfl)) (by decide)
  · obtain ⟨u, hu', hd, hc⟩ := ceremonyBegin_begins h hm hn (r := r) ((Dev.beginFail_free hu hs hl hr hf hp hh).trans (by rw [hg]; rfl))
    refine ⟨u, hu', hd, ?_⟩
    have ht := s.dev.fwReady_taskOnly s.ctx 1
    have hnonce : (((s.dev.fwReady s.ctx 1).mgmtNonce s.ctx).2.mgmtNonce s.ctx).1 = ((s.dev.mgmtNonce s.ctx).2.mgmtNonce s.ctx).1 :=
      Dev.mgmtNonce_1_congr s.ctx (ht.request_rng ..)
    rw [hc]
    exact ⟨rfl, rfl, rfl, rfl, ht.nonce s.ctx, hnonce, rfl, rfl, rfl, rfl, rfl⟩
  all_goals have ht := s.dev.fwReady_taskOnly s.ctx 1
  all_goals have hk := ht.hasCer h
  · exact cer_ends (ceremonySubmit_gives h hm hn hu data read) (by rw [Dev.cerSubmitted, if_pos hs]; exact hk.result _)
  · refine cer_ends (ceremonySubmit_gives h hm hn hu data read) ?_
    rw [Dev.cerSubmitted, if_neg (not_not.mpr hs), if_pos hr]
    exact (hk.result _).of_cers (congrArg Cus.cers (Dev.evtBit_cus ..))
  · have ho := ceremonySubmit_gives h hm hn hu data read
    rw [Dev.cerSubmitted, if_neg (not_not.mpr hs), if_neg (by simp [hr, hf])] at ho
    cases hj : s.dev.judgeApproval k (dmaRead data read).data false with
    | error r => exact approve_rejected ht h ho hw hj
    | ok a => exact approve_counted ht h ho hw hj
  · exact cer_done (ceremonyEnd_gives h hm hn hu) hk (if_pos hs)
  · exact cer_ends (ceremonyEnd_gives h hm hn hu) (by rw [Dev.cerClosed, if_neg hs]; exact hk.result _)
  · exact cer_done (ceremonyAbandon_gives h hm hn hu) hk (if_neg hs)
  · exact cer_ends (ceremonyAbandon_gives h hm hn hu) (by rw [Dev.cerAbandoned, if_pos hs]; exact hk.result _)
  · have ho := cardApproval_gives h resp env he hu hs hp
    cases hj : s.dev.judgeApproval k (resp ++ env) true with
    | error r => exact approve_rejected (.refl _) h ho hw hj
    | ok a => exact approve_counted (.refl _) h ho hw hj
  · exact cer_late (cardApproval_gives h resp env he hu hs hp) h (h.approve_late hw)
  · exact cer_done (onDev_gives (f := windowExpiryOp k.num) rfl) h (if_pos ⟨by rw [h.cer]; exact hs, by rw [h.cer]; exact hw⟩)
  · exact onDev_idle (f := windowExpiryOp k.num) (if_neg (by rw [h.cer]; rintro ⟨-, hlate⟩; exact absurd hlate (not_lt.mpr hw)))
  · exact cer_done (onDev_gives (f := openTimeoutOp k.num) rfl) h (if_pos ⟨by rw [h.cer]; exact hs, by rw [h.cer]; exact hw⟩)
  · exact onDev_idle (f := openTimeoutOp k.num) (if_neg (by rw [h.cer]; rintro ⟨-, hlate⟩; exact absurd hlate (not_le.mpr hw)))

end Sys2Proof.Machine

/-! What the end of an item, its going back and what follows its acceptance leave of the registers, the messages and the key cache
(R98, R112, R138, R246). -/

namespace Sys2Proof.Machine

/-- Registers that count what becomes of items. -/
def itemRegs : List Nat := [Off.lanIntfault, Off.lanEvt, Off.dspExpired, Off.dspEvt, Off.pkeAborts]

/-- What was sent stays sent, no register but those of `itemRegs` changes, and an empty key cache stays empty. -/
structure Dev.Passes (d e : Dev) : Prop where
  sent  : ∀ t ∈ d.tx, t ∈ e.tx
  reg   : ∀ off, off ∉ itemRegs → e.reg off = d.reg off
  cache : d.key.cache = [] → e.key.cache = []

theorem Dev.Passes.refl (d : Dev) : d.Passes d := ⟨fun _ h => h, fun _ _ => rfl, id⟩
theorem Dev.Passes.trans {a b c : Dev} (h : a.Passes b) (g : b.Passes c) : a.Passes c :=
  ⟨fun t ht => g.sent t (h.sent t ht), fun o ho => (g.reg o ho).trans (h.reg o ho), fun hc => g.cache (h.cache hc)⟩
/-- A step that leaves what was sent, the registers and the key cache alone. -/
theorem Dev.Passes.of_eq {d e : Dev} (ht : e.tx = d.tx) (hr : e.regs = d.regs) (hk : e.key.cache = d.key.cache) : d.Passes e :=
  ⟨fun t h => by rw [ht]; exact h, fun o _ => by rw [Dev.reg, hr, Dev.reg], fun h => by rw [hk, h]⟩

theorem foldl_passes {α : Type} (f : Dev → α → Dev) (h : ∀ a i, Dev.Passes a (f a i)) : ∀ (l : List α) (d : Dev), d.Passes (l.foldl f d)
  | [], d => .refl d
  | i :: l, d => (h d i).trans (foldl_passes f h l (f d i))

section
variable (d : Dev) (c : Ctx)

theorem Dev.bump_passes {off : Nat} (h : off ∈ itemRegs) : d.Passes (d.bump off) :=
  ⟨fun _ ht => ht, fun _ ho => Dev.bump_reg_ne d (fun he => ho (he ▸ h)), id⟩
theorem Dev.evtBit_passes {off : Nat} (i : Nat) (h : off ∈ itemRegs) : d.Passes (d.evtBit off i) :=
  ⟨fun _ ht => Dev.evtBit_sent _ off i ht, fun _ ho => Dev.evtBit_reg_ne d i (fun he => ho (he ▸ h)), fun hc => by rw [Dev.evtBit_key]; exact hc⟩
theorem Dev.sendPeer_passes (n k m : Nat) (p : Bytes) : d.Passes (d.sendPeer n k m p) :=
  ⟨fun _ ht => Dev.sendPeer_sent n k m p ht, fun _ _ => Dev.sendPeer_reg .., fun hc => by rw [Dev.sendPeer_key]; exact hc⟩
theorem Dev.mirrorRec_passes (k : Nat) : d.Passes (d.mirrorRec k) := by
  unfold Dev.mirrorRec
  split
  · exact Dev.sendPeer_passes ..
  · exact .refl d

/-! ### To OWED (R98, R138, R152) -/

theorem Dev.unbind_passes (k : Nat) : d.Passes (d.unbind c k) := by
  unfold Dev.unbind
  dsimp only
  split <;> exact .of_eq rfl rfl rfl
theorem Dev.countStatus_passes (st sub : Nat) : d.Passes (d.countStatus st sub) := by
  unfold Dev.countStatus
  split
  · exact (d.bump_passes (by decide)).trans (Dev.evtBit_passes _ _ (by decide))
  · split
    · exact (d.bump_passes (by decide)).trans (Dev.evtBit_passes _ _ (by decide))
    · split
      · exact d.bump_passes (by decide)
      · exact .refl d
theorem Dev.flowPrune_passes (f : Option (Nat × Nat)) : d.Passes (d.flowPrune f) := by
  unfold Dev.flowPrune
  split
  · exact .refl d
  · split <;> exact .of_eq rfl rfl rfl
theorem Dev.retire_passes (k : Nat) : d.Passes (d.retire k) := by
  unfold Dev.retire
  split <;> exact .of_eq rfl rfl rfl
theorem Dev.discardEntry_passes (k : Nat) : d.Passes (d.discardEntry k) := by
  unfold Dev.discardEntry
  extract_lets d1
  refine Dev.Passes.trans ?_ (Dev.mirrorRec_passes _ k)
  refine Dev.Passes.trans (b := d1) ?_ (.of_eq rfl rfl rfl)
  change d.Passes (Dev.retire k (d.updRec k _))
  refine Dev.Passes.trans ?_ (Dev.retire_passes _ k)
  exact .of_eq rfl rfl rfl
theorem Key.letGo_cache {k : Key} (n : Nat) (h : k.cache = []) : (k.letGo n).cache = [] := by simp [Key.letGo, h]
theorem Key.unpin_cache {k : Key} (n : Nat) (h : k.cache = []) : (k.unpin n).cache = [] := by simp [Key.unpin, h]
theorem Dev.spillAnswer_passes (i : Item) (peer o st sub n : Nat) (out : Bytes) : d.Passes (d.spillAnswer i peer o st sub n out) :=
  (d.sendPeer_passes peer 4 2 _).trans ⟨fun _ h => h, fun _ _ => rfl, Key.letGo_cache i.slot⟩
theorem Dev.owe_passes (k : Nat) (r : Rec) (st sub n : Nat) : d.Passes (d.owe c k r st sub n) := by
  unfold Dev.owe
  dsimp only
  refine (d.unbind_passes c k).trans (Dev.Passes.trans ?_ ((Dev.flowPrune_passes _ _).trans ((Dev.countStatus_passes _ st sub).trans (Dev.mirrorRec_passes _ k))))
  generalize d.unbind c k = e
  exact ⟨fun _ h => h, fun _ _ => rfl, Key.letGo_cache k⟩
theorem Dev.oweOne_passes (k st sub n : Nat) : d.Passes (d.oweOne c k st sub n) := by
  unfold Dev.oweOne
  dsimp only
  split
  · exact (d.unbind_passes c k).trans (Dev.spillAnswer_passes ..)
  · split
    · exact .refl d
    · split
      · exact (d.owe_passes c k _ st sub n).trans (Dev.discardEntry_passes ..)
      · exact Dev.owe_passes ..
theorem Dev.cascade_passes : ∀ (n : Nat) (d : Dev), d.Passes (d.cascade c n)
  | 0, d => .refl d
  | n + 1, d => by
    unfold Dev.cascade
    split
    · exact .refl d
    · split
      · exact .refl d
      · exact (Dev.oweOne_passes ..).trans (Dev.cascade_passes n _)
theorem Dev.toOwed_passes (k st sub n : Nat) : d.Passes (d.toOwed c k st sub n) := (d.oweOne_passes c k st sub n).trans (Dev.cascade_passes ..)
theorem Dev.finishNow_passes (k st sub : Nat) : d.Passes (d.finishNow c k st sub) := by
  unfold Dev.finishNow
  split
  · exact Dev.toOwed_passes ..
  · split
    · exact .refl d
    · split
      · exact .of_eq rfl rfl rfl
      · exact Dev.toOwed_passes ..

/-! ### Back, and after an acceptance -/

theorem Dev.goBack_passes (k : Nat) (p : Bool) : d.Passes (d.goBack c k p) := by
  unfold Dev.goBack
  refine Dev.Passes.trans ?_ (Dev.mirrorRec_passes _ k)
  split
  · exact (d.unbind_passes c k).trans ⟨fun _ h => h, fun _ _ => rfl, Key.unpin_cache k⟩
  · exact (d.unbind_passes c k).trans (.of_eq rfl rfl rfl)
theorem Dev.joinBarrier_passes (i : Item) : d.Passes (d.joinBarrier c i) := by
  unfold Dev.joinBarrier
  dsimp only
  split
  · exact Dev.finishNow_passes ..
  · split
    · split
      · exact Dev.finishNow_passes ..
      · split
        · exact Dev.finishNow_passes ..
        · exact .of_eq rfl rfl rfl
    · split
      · exact Dev.finishNow_passes ..
      · exact .of_eq rfl rfl rfl
theorem Dev.afterAccept_passes (k : Nat) : d.Passes (d.afterAccept c k) := by
  unfold Dev.afterAccept
  split
  · exact .refl d
  · dsimp only
    split
    · exact .refl d
    · split
      · exact Dev.finishNow_passes ..
      · split
        · exact Dev.cascade_passes ..
        · split
          · exact Dev.toOwed_passes ..
          · split
            · exact Dev.finishNow_passes ..
            · split
              · split
                · exact Dev.joinBarrier_passes ..
                · split
                  · exact Dev.toOwed_passes ..
                  · exact .refl d
              · split <;> exact .of_eq rfl rfl rfl

end

end Sys2Proof.Machine

/-! Spilled items at the peer and at the origin (R423 to R426). -/

namespace Sys2Proof.Machine

/-! ### A message of CONTROL -/

/-- Nothing changes but the flood sequence and what was sent, and what was sent stays sent. -/
def Dev.Announces (d e : Dev) : Prop := ∃ n t, e = { d with fab := { d.fab with floodSeq := n }, tx := t } ∧ ∀ x ∈ d.tx, x ∈ t

theorem Dev.Announces.refl (d : Dev) : d.Announces d := ⟨d.fab.floodSeq, d.tx, rfl, fun _ h => h⟩
theorem Dev.Announces.trans {a b c : Dev} (h : a.Announces b) (g : b.Announces c) : a.Announces c := by
  obtain ⟨n, t, rfl, ht⟩ := h
  obtain ⟨m, u, rfl, hu⟩ := g
  exact ⟨m, u, rfl, fun x hx => hu x (ht x hx)⟩

/-- What a message of CONTROL leaves alone. -/
structure Dev.Beside (d e : Dev) : Prop where
  regs     : e.regs = d.regs
  dsp      : e.dsp = d.dsp
  pwr      : e.pwr = d.pwr
  sessions : e.fab.sessions = d.fab.sessions
  lastOffer : e.fab.lastOffer = d.fab.lastOffer
  conflict : e.fab.conflict = d.fab.conflict
  portUp   : e.portUp = d.portUp
  sent     : ∀ x ∈ d.tx, x ∈ e.tx

theorem Dev.Announces.beside {d e : Dev} (h : d.Announces e) : d.Beside e := by
  obtain ⟨n, t, rfl, ht⟩ := h
  exact ⟨rfl, rfl, rfl, rfl, rfl, rfl, rfl, ht⟩
theorem Dev.Beside.fabOn {d e : Dev} (h : d.Beside e) : e.fabOn = d.fabOn := by
  simp only [Dev.fabOn, Dev.endpointUp, Dev.reg, h.regs, h.pwr]
theorem Dev.Beside.nodeId {d e : Dev} (h : d.Beside e) : e.nodeId = d.nodeId := by
  simp only [Dev.nodeId, Dev.reg, h.regs]

/-- The frame of a message of CONTROL, before its route is known. -/
def Dev.control (d : Dev) (node : Nat) (msg : Bytes) : Frame :=
  { port := 0, dst := node, src := d.nodeId, cls := 0, hops := 0, seq := 0, boot := d.pwr.boots, payload := msg }

theorem Dev.originate_control (node : Nat) (msg : Bytes) (d : Dev) : d.originate none node 0 none msg
    = match d.learned node 0 with
      | some p => d.sendFrame { d.control node msg with port := p }
      | none => ({ d with fab := { d.fab with floodSeq := (d.fab.floodSeq + 1) % 2 ^ 32 } } : Dev).floodOut none
          { d.control node msg with seq := (d.fab.floodSeq + 1) % 2 ^ 32, flood := true } := by
  unfold Dev.originate
  cases d.learned node 0 <;> rfl

theorem Dev.originate_announces (node : Nat) (msg : Bytes) (d : Dev) : d.Announces (d.originate none node 0 none msg) := by
  rw [Dev.originate_control]
  split
  · exact ⟨d.fab.floodSeq, _, rfl, fun _ h => List.mem_cons_of_mem _ h⟩
  · have h := Dev.floodOut_onlySends none { d.control node msg with seq := (d.fab.floodSeq + 1) % 2 ^ 32, flood := true }
      ({ d with fab := { d.fab with floodSeq := (d.fab.floodSeq + 1) % 2 ^ 32 } } : Dev)
    exact ⟨_, _, h.dev, h.sent⟩

/-- A message of CONTROL leaves by the learned route, or as a flood on every UP port. -/
theorem Dev.originate_leaves {d : Dev} {q : Nat} (node : Nat) (msg : Bytes) (h8 : q < 8) (hup : d.portUp q = true) :
    ∃ f : Frame, f.dst = node ∧ f.src = d.nodeId ∧ f.cls = 0 ∧ f.hops = 0 ∧ f.payload = msg ∧ Tx.frame f.port f.bytes ∈ (d.originate none node 0 none msg).tx := by
  rw [Dev.originate_control]
  split
  next p _ => exact ⟨{ d.control node msg with port := p }, rfl, rfl, rfl, rfl, rfl, List.mem_cons_self⟩
  next =>
    generalize (d.fab.floodSeq + 1) % 2 ^ 32 = n
    refine ⟨{ d.control node msg with port := q, seq := n, flood := true }, rfl, rfl, rfl, rfl, rfl, ?_⟩
    exact Dev.floodOut_sends none { d.control node msg with seq := n, flood := true } h8 hup (by simp)

theorem Dev.sendPeer_control {d : Dev} (hon : d.fabOn = true) (hc : d.fab.conflict = false) (node kind : Nat) (payload : Bytes) :
    d.sendPeer node 0 kind payload = d.originate none node 0 none (toLe 1 kind ++ payload) := by
  simp [Dev.sendPeer, hon, hc]

theorem Dev.sendPeer_announces (node kind : Nat) (payload : Bytes) (d : Dev) : d.Announces (d.sendPeer node 0 kind payload) := by
  unfold Dev.sendPeer
  dsimp only
  split
  · exact .refl d
  · exact Dev.originate_announces ..

/-! ### The offers that a device sends (R424) -/

/-- An offer to each of the peers that `l` lists. -/
def Dev.offerTo (msg : Bytes) (l : List Word) (d : Dev) : Dev := l.foldl (fun (a : Dev) w => a.sendPeer (fld w 9 0) 0 1 msg) d

theorem Dev.offerTo_announces (msg : Bytes) : ∀ (l : List Word) (d : Dev), d.Announces (d.offerTo msg l)
  | [], d => .refl d
  | w :: l, d => (d.sendPeer_announces (fld w 9 0) 1 msg).trans (Dev.offerTo_announces msg l _)

theorem Dev.offerTo_cons (msg : Bytes) (w : Word) (l : List Word) (d : Dev) : d.offerTo msg (w :: l) = (d.sendPeer (fld w 9 0) 0 1 msg).offerTo msg l := rfl

/-- A frame of CONTROL from `src` to `dst` is among what was sent. -/
def controlSent (src dst : Nat) (msg : Bytes) (tx : List Tx) : Prop :=
  ∃ f : Frame, f.dst = dst ∧ f.src = src ∧ f.cls = 0 ∧ f.hops = 0 ∧ f.payload = msg ∧ Tx.frame f.port f.bytes ∈ tx

theorem controlSent.mono {src dst : Nat} {msg : Bytes} {t u : List Tx} (h : controlSent src dst msg t) (hu : ∀ x ∈ t, x ∈ u) : controlSent src dst msg u := by
  obtain ⟨f, hd, hs, hcls, hh, hp, hf⟩ := h
  exact ⟨f, hd, hs, hcls, hh, hp, hu _ hf⟩

/-- Each peer listed is sent the offer. -/
theorem Dev.offerTo_sends {msg : Bytes} {w : Word} {q : Nat} (h8 : q < 8) {l : List Word} {d : Dev} (hw : w ∈ l) (hon : d.fabOn = true)
    (hc : d.fab.conflict = false) (hup : d.portUp q = true) : controlSent d.nodeId (fld w 9 0) (toLe 1 1 ++ msg) (d.offerTo msg l).tx := by
  induction l generalizing d with
  | nil => cases hw
  | cons x l ih =>
    rw [Dev.offerTo_cons]
    rcases List.mem_cons.mp hw with rfl | hw
    · have hleaves := Dev.originate_leaves (fld w 9 0) (toLe 1 1 ++ msg) h8 hup
      rw [← Dev.sendPeer_control hon hc] at hleaves
      exact controlSent.mono hleaves (Dev.offerTo_announces msg l _).beside.sent
    · have hb := (d.sendPeer_announces (fld x 9 0) 1 msg).beside
      rw [← hb.nodeId]
      exact ih hw (hb.fabOn.trans hon) (hb.conflict.trans hc) ((congrFun hb.portUp q).trans hup)

/-- The numbers of an offer: the credit, then each domain's generation. -/
def Dev.offerNums (d : Dev) : List Nat := d.spillCredit :: (d.key.domains.filter (fun m => m.state != .empty)).flatMap (fun m => [m.num, m.gen, b2n m.prevValid])
/-- The peers that are listed. -/
def Dev.offerPeers (d : Dev) : List Word := ((List.range 8).map (fun i => d.reg (Off.fabSpillPeer + 4 * i))).filter (fun w => bit w 31)

theorem spillOfferTimerOp_due {c : Ctx} {d : Dev} (hon : d.fabOn = true) (hc : d.fab.conflict = false) (hl : 0 < d.spillLimit) (ht : d.fab.lastOffer + 100000 ≤ c.now) :
    spillOfferTimerOp c d = ({ d with fab := { d.fab with lastOffer := c.now } } : Dev).offerTo (d.offerNums.flatMap msgNum) d.offerPeers := by
  unfold spillOfferTimerOp
  rw [if_pos (by simp [hon, hc, hl, ht, nsUs])]
  rfl

theorem spillOfferTimerOp_early {c : Ctx} {d : Dev} (ht : c.now < d.fab.lastOffer + 100000) : spillOfferTimerOp c d = d := by
  unfold spillOfferTimerOp
  rw [if_neg]
  simp only [Bool.and_eq_true, decide_eq_true_eq, nsUs]
  omega

theorem spillOfferOp_listed {peer : Nat} {o : SpillOffer} {c : Ctx} {d : Dev} (hon : d.fabOn = true) (hl : d.spillListed peer = true) :
    (spillOfferOp peer o c d).regs = d.regs ∧ ∃ x, (spillOfferOp peer o c d).fab.offers.find? (fun y => y.node == peer) = some x ∧ x.credit = o.credit ∧ x.gens = o.gens := by
  rw [spillOfferOp, if_pos (by simp [hon, hl])]
  exact ⟨rfl, _, find_upsert (fun x : Offer => x.node == peer) { node := peer } (fun x => { x with credit := o.credit, gens := o.gens }) (by simp) (fun _ hx => hx) _, rfl, rfl⟩

theorem Dev.mem_offerPeers {d : Dev} {i : Nat} (hi : i < 8) (h : bit (d.reg (Off.fabSpillPeer + 4 * i)) 31 = true) : d.reg (Off.fabSpillPeer + 4 * i) ∈ d.offerPeers :=
  List.mem_filter.mpr ⟨List.mem_map.mpr ⟨i, List.mem_range.mpr hi, rfl⟩, h⟩

/-! ### What a message to a peer changes of the fabric (R413) -/

/-- A session without its frame counter. -/
def Session.bare (x : Session) : Session := { x with frames := 0 }

/-- Nothing changes of the fabric's state but the flood sequence and the counters of the sessions. -/
def Fab.Speaks (f g : Fab) : Prop := ∃ n l, g = { f with floodSeq := n, sessions := l } ∧ l.map Session.bare = f.sessions.map Session.bare

theorem Fab.Speaks.refl (f : Fab) : f.Speaks f := ⟨f.floodSeq, f.sessions, rfl, rfl⟩
theorem Fab.Speaks.trans {a b c : Fab} (h : a.Speaks b) (g : b.Speaks c) : a.Speaks c := by
  obtain ⟨n, l, rfl, hl⟩ := h
  obtain ⟨m, k, rfl, hk⟩ := g
  exact ⟨m, k, rfl, hk.trans hl⟩

theorem Dev.originate_speaks (port : Option Nat) (dst cls : Nat) (x : Option Session) (payload : Bytes) (d : Dev) :
    d.fab.Speaks (d.originate port dst cls x payload).fab := by
  unfold Dev.originate
  extract_lets seq f shut g d1 fab
  have h1 : d.fab.Speaks d1.fab := by
    unfold d1
    split
    · exact .refl _
    · dsimp only [Dev.nextFlood]
      rw [Dev.floodOut_fab]
      exact ⟨_, d.fab.sessions, rfl, rfl⟩
  split
  · exact h1
  next x =>
    refine h1.trans ⟨d1.fab.floodSeq, _, rfl, ?_⟩
    unfold updWhere
    rw [List.map_map]
    refine List.map_congr_left fun y _ => ?_
    dsimp only [Function.comp]
    split <;> rfl

theorem Dev.sendSealed_speaks (port : Option Nat) (node cls : Nat) (msg : Bytes) (d : Dev) : d.fab.Speaks (d.sendSealed port node cls msg).fab := by
  unfold Dev.sendSealed
  generalize pieces msg = l
  induction l generalizing d with
  | nil => exact .refl _
  | cons p l ih =>
    rw [List.foldl_cons]
    refine Fab.Speaks.trans ?_ (ih _)
    cases d.session? node with
    | none => exact .refl _
    | some x => exact Dev.originate_speaks port node cls (some x) p d

/-- More messages wait. -/
def Fab.holding (l : List HeldMsg) (f : Fab) : Fab := { f with held := f.held ++ l }
theorem Fab.holding_nil (f : Fab) : f.holding [] = f := by rw [Fab.holding, List.append_nil]

/-- A message leaves, or it waits behind what waits already. -/
theorem Dev.sendPeer_speaks (node cls kind : Nat) (payload : Bytes) (d : Dev) : ∃ l, (d.fab.holding l).Speaks (d.sendPeer node cls kind payload).fab := by
  unfold Dev.sendPeer
  dsimp only
  split
  · exact ⟨[], by rw [Fab.holding_nil]; exact .refl _⟩
  · split
    · exact ⟨[], by rw [Fab.holding_nil]; exact Dev.originate_speaks ..⟩
    · split
      · exact ⟨[], by rw [Fab.holding_nil]; exact Dev.sendSealed_speaks ..⟩
      · split
        · exact ⟨[], by rw [Fab.holding_nil]; exact .refl _⟩
        · exact ⟨_, .refl _⟩

theorem Fab.Speaks.held {f g : Fab} {l : List HeldMsg} (h : (f.holding l).Speaks g) : ∀ x ∈ f.held, x ∈ g.held := by
  obtain ⟨n, s, rfl, -⟩ := h
  exact fun x hx => List.mem_append_left _ hx

theorem Dev.mirrorRec_speaks (k : Nat) (d : Dev) : ∃ l, (d.fab.holding l).Speaks (d.mirrorRec k).fab := by
  unfold Dev.mirrorRec
  split
  · exact Dev.sendPeer_speaks ..
  · exact ⟨[], by rw [Fab.holding_nil]; exact .refl _⟩

theorem Dev.goBack_speaks (c : Ctx) (slot : Nat) (p : Bool) (d : Dev) : ∃ l, (d.fab.holding l).Speaks (d.goBack c slot p).fab := by
  have hunbind : (d.unbind c slot).fab = d.fab := by
    unfold Dev.unbind
    dsimp only
    split <;> rfl
  rw [← hunbind]
  unfold Dev.goBack
  dsimp only
  split <;> exact Dev.mirrorRec_speaks ..

/-! ### Items at the origin (R426) -/

/-- The item of a slot is pending here, its record ACCEPTED again where it was IN_SERVICE. -/
structure Dev.RunsHere (d e : Dev) (slot : Nat) : Prop where
  item  : ∃ j, e.item? slot = some j ∧ j.spill = none ∧ j.ds = .pending
  again : ∀ r, d.rec? slot = some r → r.st = .inService → e.rec? slot = some { r with st := .accepted, spilled := false }

theorem Dev.goBack_recs (c : Ctx) (slot : Nat) (p : Bool) (d : Dev) : (d.goBack c slot p).jnl.recs
    = updWhere (fun r => r.slot == slot) (fun r => if r.st == .inService then { r with st := .accepted, spilled := false } else r) d.jnl.recs := by
  unfold Dev.goBack
  dsimp only
  rw [Dev.mirrorRec_jnl, ← Dev.unbind_jnl c slot d]
  split <;> rfl

theorem Dev.runLocally_runsHere (c : Ctx) {d : Dev} {slot : Nat} {i : Item} (h : d.item? slot = some i) : d.RunsHere (d.runLocally c slot) slot where
  item := ⟨i.back true, Dev.item_goBack c true h, rfl, rfl⟩
  again := fun r hr hs => by
    unfold Dev.runLocally Dev.rec?
    rw [Dev.goBack_recs, find_updWhere _ _ (fun x hx => by split <;> exact hx), show d.jnl.recs.find? (fun r => r.slot == slot) = some r from hr]
    simp [hs]

theorem Dev.spillLost_eq {c : Ctx} {d : Dev} {slot : Nat} {p : Nat × Nat} (h : (d.item? slot).bind (fun i => i.spill) = some p) :
    d.spillLost c slot = (((d.sendPeer p.1 4 3 (msgNum slot)).runLocally c slot).bump Off.fabSpillLost).evtBit Off.fabEvt 10 := by
  simp only [Dev.spillLost, h]

theorem Dev.RunsHere.of_eq {d a b : Dev} {slot : Nat} (h : d.RunsHere a slot) (hi : b.dsp.items = a.dsp.items) (hr : b.jnl.recs = a.jnl.recs) : d.RunsHere b slot := by
  obtain ⟨hitem, hagain⟩ := h
  unfold Dev.item? Dev.rec? at *
  exact ⟨by unfold Dev.item?; rw [hi]; exact hitem, by unfold Dev.rec?; rw [hr]; exact hagain⟩

/-- A spilled item that is lost: it runs here, its peer is told, and it is counted. -/
theorem Dev.spillLost_spec (c : Ctx) {d : Dev} {slot : Nat} {i : Item} {p : Nat × Nat} (h : d.item? slot = some i) (hp : i.spill = some p) :
    d.RunsHere (d.spillLost c slot) slot ∧ bit ((d.spillLost c slot).reg Off.fabEvt) 10 = true
      ∧ (∀ x ∈ (d.sendPeer p.1 4 3 (msgNum slot)).tx, x ∈ (d.spillLost c slot).tx)
      ∧ (∀ x ∈ (d.sendPeer p.1 4 3 (msgNum slot)).fab.held, x ∈ (d.spillLost c slot).fab.held)
      ∧ (d.spillLost c slot).reg Off.fabSpillLost = BitVec.ofNat 32 (min 0xFFFFFFFF ((d.reg Off.fabSpillLost).toNat + 1)) := by
  rw [Dev.spillLost_eq (by rw [h]; exact hp)]
  have hsend : (d.sendPeer p.1 4 3 (msgNum slot)).item? slot = some i := by rw [Dev.item?, Dev.sendPeer_dsp]; exact h
  refine ⟨?_, Dev.evtBit_bit _ _ (by decide), fun x hx => ?_, fun x hx => ?_, ?_⟩
  · have hruns := Dev.runLocally_runsHere c hsend
    refine Dev.RunsHere.of_eq ⟨hruns.item, fun r hr => hruns.again r ?_⟩ ?_ ?_
    · rw [Dev.rec?, Dev.sendPeer_jnl]
      exact hr
    · rw [Dev.evtBit_dsp]
      rfl
    · rw [Dev.evtBit_jnl]
      rfl
  · exact Dev.evtBit_sent _ _ _ ((Dev.goBack_passes _ c slot true).sent x hx)
  · rw [Dev.evtBit_fab]
    obtain ⟨l, hl⟩ := Dev.goBack_speaks c slot true (d.sendPeer p.1 4 3 (msgNum slot))
    exact hl.held x hx
  · rw [Dev.evtBit_reg_ne _ _ (by decide), Dev.bump, Dev.bumpBy, Dev.reg_setReg, sat_eq_min, Dev.runLocally, Dev.reg, (Dev.goBack_groves_regs ..).2, Dev.sendPeer_regs]
    rfl

theorem spillTimeoutOp_late {c : Ctx} {d : Dev} {slot : Nat} {i : Item} {p : Nat × Nat} (h : d.item? slot = some i) (hp : i.spill = some p)
    (ht : p.2 + fld (d.reg Off.fabSpillCtrl) 31 20 * 1000 ≤ c.now) : spillTimeoutOp slot c d = d.spillLost c slot := by
  unfold spillTimeoutOp
  rw [h, Option.bind_some, hp]
  exact if_pos ht

theorem spillTimeoutOp_early {c : Ctx} {d : Dev} {slot : Nat} {i : Item} {p : Nat × Nat} (h : d.item? slot = some i) (hp : i.spill = some p)
    (ht : c.now < p.2 + fld (d.reg Off.fabSpillCtrl) 31 20 * 1000) : spillTimeoutOp slot c d = d := by
  unfold spillTimeoutOp
  rw [h, Option.bind_some, hp]
  exact if_neg (not_le.mpr ht)

/-! ### A return at the origin (R426) -/

theorem spillPosts_iff {st : Nat} : spillPosts st = true ↔ st ∈ [0x00, 0x12, 0x13, 0x15, 0x16, 0x17] := by simp [spillPosts, List.contains_eq_mem]

/-- The output of a spilled item, as it is written. -/
def Dev.spillOutput (d : Dev) (i : Item) (out : Bytes) : Tx :=
  .output (d.tagOf i.slice) i.seq (BitVec.ofNat 64 (Desc.outPtr i.desc)) (Desc.outputSgl i.desc) out

section
variable {c : Ctx} {d : Dev} {slot : Nat} {i : Item} {p : Nat × Nat} {r : SpillRet} (h : d.item? slot = some i) (hp : i.spill = some p)
include h hp

theorem spillReturnOp_other {q : Nat} (hq : q ≠ p.1) : spillReturnOp q slot r c d = d := by
  unfold spillReturnOp
  simp only [h]
  exact if_neg (by simp [hp, hq.symm])

variable (hd : i.ds = .running) (hm : d.mayRelease c = true)
include hd hm

theorem spillReturnOp_local (hr : r.executed = false ∨ r.status ∉ [0x00, 0x12, 0x13, 0x15, 0x16, 0x17]) : spillReturnOp p.1 slot r c d = d.runLocally c slot := by
  unfold spillReturnOp
  simp only [h]
  rw [if_pos (by simp [hd, hp, hm]), if_neg]
  rintro ⟨he, hs⟩
  rcases hr with hr | hr
  · simp [hr] at he
  · exact hr (spillPosts_iff.mp hs)

variable (he : r.executed = true) (hs : r.status ∈ [0x00, 0x12, 0x13, 0x15, 0x16, 0x17])
include he hs

theorem spillReturnOp_refused (hr : r.refused = true) (ho : r.output ≠ []) : spillReturnOp p.1 slot r c d = d.toOwed c slot 0x30 0x02 0 := by
  unfold spillReturnOp
  simp only [h]
  rw [if_pos (by simp [hd, hp, hm]), if_pos ⟨he, spillPosts_iff.mpr hs⟩, if_pos ⟨hr, ho⟩]

theorem spillReturnOp_posts (hr : r.refused = false ∨ r.output = []) : spillReturnOp p.1 slot r c d
    = (if r.output.isEmpty then d else d.emit (d.spillOutput i r.output)).toOwed c slot r.status r.sub r.output.length := by
  unfold spillReturnOp
  simp only [h]
  rw [if_pos (by simp [hd, hp, hm]), if_pos ⟨he, spillPosts_iff.mpr hs⟩, if_neg (by rintro ⟨h1, h2⟩; rcases hr with hr | hr <;> simp_all)]
  rfl

end

/-! ### Items at the peer (R425) -/

/-- A spilled item as it joins the dispatch. -/
def Dev.spilledIn (c : Ctx) (m : SpillItem) (d : Dev) : Item :=
  { slot := d.spillSlot, seq := m.seq, slice := m.slice, ring := 0, desc := m.desc, input := m.input, staged := true, acceptSt := c.now,
    deadline := c.now + m.remaining, key := schedKey (c.now + m.remaining) c.now, ds := .pending, spillFrom := some (m.peer, m.slot), dom := m.domain }

theorem foldl_max_ge (l : List Nat) (a : Nat) : a ≤ l.foldl max a ∧ ∀ x ∈ l, x ≤ l.foldl max a := by
  induction l generalizing a with
  | nil => simp
  | cons y l ih =>
    obtain ⟨hle, hmem⟩ := ih (max a y)
    refine ⟨(le_max_left a y).trans hle, fun x hx => ?_⟩
    rcases List.mem_cons.mp hx with rfl | hx
    · exact (le_max_right a x).trans hle
    · exact hmem x hx

/-- The number that a spilled item gets is free. -/
theorem Dev.spillSlot_free (d : Dev) : ∀ j ∈ d.dsp.items, j.slot ≠ d.spillSlot := by
  intro j hj heq
  have hle := (foldl_max_ge (d.dsp.items.map (fun i => i.slot + 1)) 65536).2 (j.slot + 1) (List.mem_map.mpr ⟨j, hj, rfl⟩)
  change j.slot + 1 ≤ d.spillSlot at hle
  omega

section
variable {c : Ctx} {d : Dev} {m : SpillItem} (hon : d.fabOn = true) (hs : d.hasSession m.peer = true) (hp : d.past 8 = true) (hr : d.roleActs = true)
  (hw : d.warning = false)
include hon hs hp hr hw

theorem spillItemOp_joins (hl : d.locked = false) (hh : d.spillHeld < d.spillLimit) :
    spillItemOp m c d = { d with dsp := { d.dsp with items := d.dsp.items ++ [d.spilledIn c m] } } := by
  unfold spillItemOp
  rw [if_neg (by simp [hon, hs, hp, hr, hw, hh])]
  exact if_neg (by simp [hl])

theorem spillItemOp_full (hh : d.spillLimit ≤ d.spillHeld) : spillItemOp m c d = d := by
  unfold spillItemOp
  exact if_pos (by simp [hon, hs, hp, hr, hw, hh])

end

theorem spillCancelOp_drops {c : Ctx} {d : Dev} {peer slot : Nat} {i : Item} (h : d.dsp.items.find? (fun j => j.spillFrom == some (peer, slot)) = some i) :
    (spillCancelOp peer slot c d).dsp.items = d.dsp.items.filter (fun j => j.slot != i.slot) := by
  unfold spillCancelOp
  simp only [h, Dev.unbind_items]

theorem spillCancelOp_none {c : Ctx} {d : Dev} {peer slot : Nat} (h : ∀ j ∈ d.dsp.items, j.spillFrom ≠ some (peer, slot)) : spillCancelOp peer slot c d = d := by
  unfold spillCancelOp
  rw [List.find?_eq_none.mpr (fun j hj => by simpa using h j hj)]

/-- Settles O39, a command at a time. -/
theorem spillOver : Obligations.SpillOver := by
  intro s
  refine ⟨fun hon hc hl => ⟨fun ht => ?_, fun ht => ?_⟩, fun p o hon => ⟨fun hl => ?_, fun hl => ?_⟩, fun m hon hs hp hr hw hk => ⟨fun hh => ?_, fun hh => ?_⟩,
    fun slot i p hi hsp => ⟨fun ht => ?_, fun ht => ?_, fun r hd hm => ⟨fun he hs hf hrec => ⟨fun hr => ?_, fun hr ho => ?_⟩, fun hr => ?_⟩, fun r q hq => ?_⟩,
    fun p slot => ⟨fun i hi => ?_, fun hn => ?_⟩⟩
  · have hb := (Dev.offerTo_announces (s.dev.offerNums.flatMap msgNum) s.dev.offerPeers { s.dev with fab := { s.dev.fab with lastOffer := s.st.toNat } }).beside
    refine ⟨_, onDev_gives (f := spillOfferTimerOp) (spillOfferTimerOp_due hon hc hl ht), .of_dev .., hb.lastOffer, hb.regs, hb.dsp, hb.sessions, hb.sent, fun i q hi hb31 h8 hup => ?_⟩
    exact Dev.offerTo_sends (d := { s.dev with fab := { s.dev.fab with lastOffer := s.st.toNat } }) h8 (Dev.mem_offerPeers hi hb31) hon hc hup
  · exact onDev_idle (f := spillOfferTimerOp) (spillOfferTimerOp_early ht)
  · obtain ⟨hregs, x, hx, hcredit, hgens⟩ := spillOfferOp_listed (c := s.ctx) (o := o) hon hl
    exact ⟨_, x, onDev_gives (f := spillOfferOp p o) rfl, .of_dev .., hx, hcredit, hgens, hregs⟩
  · exact onDev_idle (f := spillOfferOp p o) (if_neg (by simp [hl]))
  · exact ⟨_, _, onDev_gives (f := spillItemOp m) (spillItemOp_joins hon hs hp hr hw hk hh), .of_dev .., rfl, rfl, rfl, rfl, rfl, rfl, s.dev.spillSlot_free⟩
  · exact onDev_idle (f := spillItemOp m) (spillItemOp_full hon hs hp hr hw hh)
  · obtain ⟨hruns, hevt, hsent, hheld, hlost⟩ := Dev.spillLost_spec s.ctx hi hsp
    exact ⟨_, onDev_gives (f := spillTimeoutOp slot) (spillTimeoutOp_late hi hsp ht), .of_dev .., ⟨hruns.item, hruns.again⟩, hevt, hsent, hheld, hlost⟩
  · exact onDev_idle (f := spillTimeoutOp slot) (spillTimeoutOp_early hi hsp ht)
  · have hown : s.dev.OwnItem slot := fun j hj => by rw [hi] at hj; cases hj; exact hf
    refine ⟨_, onDev_gives (f := spillReturnOp p.1 slot r) (spillReturnOp_posts hi hsp hd hm he hs hr), .of_dev .., ?_, fun ho => ?_⟩
    · split
      · exact Dev.toOwed_ended hrec hown s.ctx _ _ _
      · exact Dev.toOwed_ended (d := s.dev.emit _) hrec hown s.ctx _ _ _
    · rw [if_neg (by simpa using ho)]
      exact (Dev.toOwed_passes (s.dev.emit _) s.ctx slot _ _ _).sent _ List.mem_cons_self
  · have hown : s.dev.OwnItem slot := fun j hj => by rw [hi] at hj; cases hj; exact hf
    exact ⟨_, onDev_gives (f := spillReturnOp p.1 slot r) (spillReturnOp_refused hi hsp hd hm he hs hr ho), .of_dev .., Dev.toOwed_ended hrec hown s.ctx _ _ _⟩
  · have hruns := Dev.runLocally_runsHere s.ctx hi
    exact ⟨_, onDev_gives (f := spillReturnOp p.1 slot r) (spillReturnOp_local hi hsp hd hm hr), .of_dev .., ⟨hruns.item, hruns.again⟩, (Dev.goBack_groves_regs ..).2⟩
  · exact onDev_idle (f := spillReturnOp q slot r) (spillReturnOp_other hi hsp hq)
  · exact ⟨_, onDev_gives (f := spillCancelOp p slot) rfl, .of_dev .., spillCancelOp_drops hi⟩
  · exact onDev_idle (f := spillCancelOp p slot) (spillCancelOp_none hn)

end Sys2Proof.Machine

/-! Peer sessions and key-domain replication (R413, R420 to R422, R426). -/

namespace Sys2Proof.Machine

/-! ### What a message leaves of the sessions and the replications -/

section
variable {f g : Fab} (h : f.Speaks g)
include h

theorem Fab.Speaks.repls : g.repls = f.repls := by
  obtain ⟨n, l, rfl, -⟩ := h
  rfl
theorem Fab.Speaks.replicas : g.replicas = f.replicas := by
  obtain ⟨n, l, rfl, -⟩ := h
  rfl
theorem Fab.Speaks.held_eq : g.held = f.held := by
  obtain ⟨n, l, rfl, -⟩ := h
  rfl
theorem Fab.Speaks.bare : g.sessions.map Session.bare = f.sessions.map Session.bare := by
  obtain ⟨n, l, rfl, hl⟩ := h
  exact hl

end

/-- The sessions of two states of the fabric are the same but for their counters. -/
def Fab.SameSessions (f g : Fab) : Prop := g.sessions.map Session.bare = f.sessions.map Session.bare

theorem any_peer_bare (l : List Session) (q : Nat) : l.any (fun s => s.peer == q) = (l.map Session.bare).any (fun s => s.peer == q) := by
  rw [List.any_map]
  rfl

theorem Fab.SameSessions.hasSession {d e : Dev} (h : d.fab.SameSessions e.fab) (q : Nat) : e.hasSession q = d.hasSession q := by
  rw [Dev.hasSession, any_peer_bare, h, ← any_peer_bare, Dev.hasSession]

/-- A session stands, whatever its counter. -/
def Fab.stands (f : Fab) (x : Session) : Prop := x.bare ∈ f.sessions.map Session.bare

theorem Fab.stands.session {f : Fab} {x : Session} (h : f.stands x) : ∃ y ∈ f.sessions, y.peer = x.peer ∧ y.since = x.since ∧ y.unit = x.unit ∧ y.ext = x.ext := by
  obtain ⟨y, hy, he⟩ := List.mem_map.mp h
  simp only [Session.bare, Session.mk.injEq] at he
  obtain ⟨hpeer, hsince, -, hunit, hext⟩ := he
  exact ⟨y, hy, hpeer, hsince, hunit, hext⟩
theorem Fab.SameSessions.stands {f g : Fab} (h : f.SameSessions g) {x : Session} (hx : f.stands x) : g.stands x := by
  unfold Fab.stands
  rw [h]
  exact hx

theorem Dev.session?_of_has {d : Dev} {p : Nat} (h : d.hasSession p = true) : ∃ x, d.session? p = some x := by
  obtain ⟨x, hx, hp⟩ := List.any_eq_true.mp h
  exact Option.isSome_iff_exists.mp (List.find?_isSome.mpr ⟨x, hx, hp⟩)

/-! ### Replications that change their state (R422) -/

/-- The replications with the state of one of them set. -/
def replSet (st : Nat) (l : List Repl) (r : Repl) : List Repl := updWhere (fun x => x.domain == r.domain && x.index == r.index) (fun x => { x with state := st }) l

theorem Dev.setRepl_fab (r : Repl) (st : Nat) (d : Dev) : (d.setRepl r st).fab = { d.fab with repls := replSet st d.fab.repls r } := by
  unfold Dev.setRepl
  dsimp only
  split
  · rw [Dev.evtBit_fab]
    rfl
  · rfl

/-- A replication of the state stays as it is. -/
theorem replSet_keeps {st : Nat} {l : List Repl} {x : Repl} (q : Repl) (hx : x ∈ l) (hs : x.state = st) : x ∈ replSet st l q := by
  refine List.mem_map.mpr ⟨x, hx, ?_⟩
  split
  · rw [← hs]
  · rfl

theorem foldl_replSet_keeps {st : Nat} {x : Repl} (hs : x.state = st) (k : List Repl) {l : List Repl} (hx : x ∈ l) : x ∈ k.foldl (replSet st) l := by
  induction k generalizing l with
  | nil => exact hx
  | cons q k ih => exact ih (replSet_keeps q hx hs)

/-- Each replication whose turn comes has the state. -/
theorem foldl_replSet_sets {st : Nat} {r : Repl} {k l : List Repl} (hk : r ∈ k) (hl : r ∈ l) : { r with state := st } ∈ k.foldl (replSet st) l := by
  induction k generalizing l with
  | nil => cases hk
  | cons q k ih =>
    rw [List.foldl_cons]
    by_cases hq : (r.domain == q.domain && r.index == q.index) = true
    · exact foldl_replSet_keeps (st := st) rfl k (List.mem_map.mpr ⟨r, hl, if_pos hq⟩)
    · have hne : r ≠ q := fun h => hq (by simp [h])
      exact ih ((List.mem_cons.mp hk).resolve_left hne) (List.mem_map.mpr ⟨r, hl, if_neg hq⟩)

theorem foldl_setRepl_fab (st : Nat) (k : List Repl) (d : Dev) : (k.foldl (fun a r => a.setRepl r st) d).fab = { d.fab with repls := k.foldl (replSet st) d.fab.repls } := by
  induction k generalizing d with
  | nil => rfl
  | cons r k ih => rw [List.foldl_cons, ih, Dev.setRepl_fab, List.foldl_cons]

theorem foldl_setRepl_tells (st : Nat) : ∀ (k : List Repl) (d : Dev), d.Tells (k.foldl (fun a r => a.setRepl r st) d)
  | [], d => .refl d
  | r :: k, d => (d.setRepl_tells r st).trans (foldl_setRepl_tells st k _)

/-! ### A copy to a peer with a session (R421, R422) -/

theorem Dev.sendPeer_session {d : Dev} {node cls : Nat} (kind : Nat) (payload : Bytes) (h : d.hasSession node = true) (hc : 2 < cls) :
    d.fab.Speaks (d.sendPeer node cls kind payload).fab := by
  unfold Dev.sendPeer
  dsimp only
  split
  · exact .refl _
  · rw [if_neg (show cls ≠ 0 by omega), if_pos (by simp [h, hc])]
    exact Dev.sendSealed_speaks ..

/-- A copy on its way: the sessions but for their counters, and what waits, are the same; the state of the replication is COPYING. -/
theorem Dev.replSend_copying {d : Dev} {r : Repl} (kind : ReplKind) (hs : d.hasSession r.peer = true) :
    d.fab.SameSessions (d.replSend kind r).fab ∧ (d.replSend kind r).fab.held = d.fab.held
      ∧ (d.replSend kind r).fab.repls = if r.ended then d.fab.repls else replSet 1 d.fab.repls r := by
  obtain ⟨x, hx⟩ := Dev.session?_of_has hs
  unfold Dev.replSend
  simp only [hx]
  split
  · exact ⟨rfl, rfl, rfl⟩
  · rw [Dev.setRepl_fab]
    have hspeaks := Dev.sendPeer_session (replCode kind) ([r.domain, (d.key.domain r.domain).gen, (d.key.domain r.domain).prevGen, b2n (d.key.domain r.domain).prevValid].flatMap msgNum
      ++ (match kind with
          | .copy | .rollEnd => wrappedKeys x (d.key.domain r.domain)
          | _ => [])) hs (by decide : 2 < 3)
    exact ⟨hspeaks.bare, hspeaks.held_eq, congrArg (replSet 1 · r) hspeaks.repls⟩

/-- Every copy of a list goes to the peer, whose session stands. -/
theorem foldl_replSend_copying {p : Nat} (kind : ReplKind) {k : List Repl} (hp : ∀ r ∈ k, r.peer = p) {d : Dev} (hs : d.hasSession p = true) :
    d.fab.SameSessions (k.foldl (fun a r => a.replSend kind r) d).fab ∧ (k.foldl (fun a r => a.replSend kind r) d).fab.held = d.fab.held
      ∧ (k.foldl (fun a r => a.replSend kind r) d).fab.repls = (k.filter (fun r => !r.ended)).foldl (replSet 1) d.fab.repls := by
  induction k generalizing d with
  | nil => exact ⟨rfl, rfl, rfl⟩
  | cons r k ih =>
    obtain ⟨hsess, hheld, hrepls⟩ := Dev.replSend_copying (d := d) kind (show d.hasSession r.peer = true by rw [hp r List.mem_cons_self]; exact hs)
    obtain ⟨hsess2, hheld2, hrepls2⟩ := ih (fun q hq => hp q (List.mem_cons_of_mem _ hq)) ((hsess.hasSession p).trans hs)
    refine ⟨hsess2.trans hsess, hheld2.trans hheld, hrepls2.trans ?_⟩
    rw [hrepls]
    cases he : r.ended <;> simp [he]

/-! ### What stays of the fabric where no session and no replication is changed -/

/-- The sessions but for their counters, the replications and the replicas are the same. -/
structure Fab.Stays (f g : Fab) : Prop where
  sessions : f.SameSessions g
  repls    : g.repls = f.repls
  replicas : g.replicas = f.replicas

theorem Fab.Stays.refl (f : Fab) : f.Stays f := ⟨rfl, rfl, rfl⟩
theorem Fab.Stays.trans {a b c : Fab} (h : a.Stays b) (g : b.Stays c) : a.Stays c :=
  ⟨g.sessions.trans h.sessions, g.repls.trans h.repls, g.replicas.trans h.replicas⟩
theorem Fab.Speaks.stays {f g : Fab} {l : List HeldMsg} (h : (f.holding l).Speaks g) : f.Stays g := ⟨h.bare, h.repls, h.replicas⟩

theorem Dev.sendPeer_stays (node cls kind : Nat) (payload : Bytes) (d : Dev) : d.fab.Stays (d.sendPeer node cls kind payload).fab := by
  obtain ⟨l, hl⟩ := d.sendPeer_speaks node cls kind payload
  exact hl.stays
theorem Dev.goBack_stays (c : Ctx) (slot : Nat) (p : Bool) (d : Dev) : d.fab.Stays (d.goBack c slot p).fab := by
  obtain ⟨l, hl⟩ := d.goBack_speaks c slot p
  exact hl.stays
theorem Dev.spillLost_stays (c : Ctx) (slot : Nat) (d : Dev) : d.fab.Stays (d.spillLost c slot).fab := by
  unfold Dev.spillLost
  split
  · exact .refl _
  · rw [Dev.evtBit_fab]
    exact (Dev.sendPeer_stays ..).trans (Dev.goBack_stays c slot true _)
theorem foldl_spillLost_stays (c : Ctx) (l : List Item) (d : Dev) : d.fab.Stays (l.foldl (fun a i => a.spillLost c i.slot) d).fab := by
  induction l generalizing d with
  | nil => exact .refl _
  | cons i l ih => exact (d.spillLost_stays c i.slot).trans (ih _)
theorem Dev.domainChanged_stays (c : Ctx) (n : Nat) (d : Dev) : d.fab.Stays (d.domainChanged c n .domain).fab := by
  have hsent : d.fab.Stays (d.mirroring (Dev.sendDomain n)).fab := by
    unfold Dev.mirroring Dev.sendDomain Dev.mirrorSend
    split
    · exact Dev.sendPeer_stays ..
    · exact .refl _
  refine hsent.trans ?_
  unfold Dev.domainChanged Dev.awaitAck
  split
  · exact ⟨rfl, rfl, rfl⟩
  · exact .refl _
theorem Dev.cerEnd_fab (c : Ctx) (n : Nat) (q : Bool) (r : Nat) (d : Dev) : (d.cerEnd c n q r).fab = d.fab := by
  unfold Dev.cerEnd
  dsimp only
  split
  · rw [Dev.evidence_fab, Dev.evtBit_fab]
    split <;> rfl
  · rw [Dev.evtBit_fab]
    split <;> rfl

/-! ### The set-up of a session, and its exchange again (R413) -/

/-- The secret of an exchange, and its session. -/
def Dev.exchanged (c : Ctx) (p : Nat) (pub : Bytes) (d : Dev) : Session :=
  { peer := p, since := c.now, unit := (d.nodeUnit p).getD 0,
    ext := hmac 2 (zeros 48) (ecdh 2 48 (Curve.named 2) (ecPair 2 48 (Curve.named 2) (d.mgmtBytes c 64).1).1 pub) 48 }

theorem Dev.exchange_1 (c : Ctx) (p : Nat) (pub : Bytes) (d : Dev) : (d.exchange c p pub).1 = d.exchanged c p pub := rfl
theorem Dev.exchange_2_fab (c : Ctx) (p : Nat) (pub : Bytes) (d : Dev) : (d.exchange c p pub).2.fab = d.fab := Dev.request_2_fab ..
theorem Dev.exchange_2_key (c : Ctx) (p : Nat) (pub : Bytes) (d : Dev) : (d.exchange c p pub).2.key = d.key := Dev.request_2_key ..

/-- The state with the session of an exchange added. -/
def Dev.joined (c : Ctx) (p : Nat) (pub : Bytes) (d : Dev) : Dev :=
  { (d.exchange c p pub).2 with fab := { d.fab with sessions := d.fab.sessions ++ [d.exchanged c p pub] } }

/-- A BROKEN replication with a peer is sent again. -/
def brokenWith (p : Nat) (l : List Repl) : List Repl := l.filter (fun r => r.en && r.peer == p && r.state == ReplSt.broken)

theorem foldl_sendSealed_speaks (node : Nat) (l : List HeldMsg) (d : Dev) :
    d.fab.Speaks (l.foldl (fun (a : Dev) h => a.sendSealed (a.sendPort h.cls) node h.cls h.msg) d).fab := by
  induction l generalizing d with
  | nil => exact .refl _
  | cons h l ih => exact (Dev.sendSealed_speaks ..).trans (ih _)

theorem foldl_sendSealed_key (node : Nat) (l : List HeldMsg) (d : Dev) :
    (l.foldl (fun (a : Dev) h => a.sendSealed (a.sendPort h.cls) node h.cls h.msg) d).key = d.key := by
  induction l generalizing d with
  | nil => rfl
  | cons h l ih => rw [List.foldl_cons, ih, Dev.sendSealed_key]

/-- What waited for a peer leaves: it waits no more, and the sessions but for their counters are the same. -/
theorem Dev.sendHeld_spec (p : Nat) (d : Dev) : d.fab.Stays (d.sendHeld p).fab ∧ (d.sendHeld p).key = d.key ∧ ∀ h ∈ (d.sendHeld p).fab.held, h.node ≠ p := by
  have h := foldl_sendSealed_speaks p (d.fab.held.filter (fun h => h.node == p)) { d with fab := { d.fab with held := d.fab.held.filter (fun h => h.node != p) } }
  have hkey := foldl_sendSealed_key p (d.fab.held.filter (fun h => h.node == p)) { d with fab := { d.fab with held := d.fab.held.filter (fun h => h.node != p) } }
  refine ⟨⟨h.bare, h.repls, h.replicas⟩, hkey, fun x hx => ?_⟩
  rw [Dev.sendHeld, h.held_eq] at hx
  simpa using (List.mem_filter.mp hx).2

theorem sessionSetupOp_eq {c : Ctx} {d : Dev} {p : Nat} (pub : Bytes) (hon : d.fabOn = true) (hc : d.fab.conflict = false) (hm : d.mgmtDrbg = true)
    (hs : d.hasSession p = false) (hl : d.fab.sessions.length < 256) : sessionSetupOp p pub true c d
      = (brokenWith p ((d.joined c p pub).sendHeld p).fab.repls).foldl (fun a r => a.replSend .copy r) ((d.joined c p pub).sendHeld p) := by
  unfold sessionSetupOp
  rw [if_pos (by simp [hon, hc, hm, hs, hl])]
  simp only [Dev.exchange_2_fab]
  rfl

theorem Dev.hasSession_append (d : Dev) (x : Session) (q : Nat) : (d.fab.sessions ++ [x]).any (fun s => s.peer == q) = (d.hasSession q || x.peer == q) := by
  rw [List.any_append, List.any_cons, List.any_nil, Bool.or_false, Dev.hasSession]

/-- What a set-up comes to. -/
theorem sessionSetupOp_spec {c : Ctx} {d : Dev} {p : Nat} (pub : Bytes) (hon : d.fabOn = true) (hc : d.fab.conflict = false) (hm : d.mgmtDrbg = true)
    (hs : d.hasSession p = false) (hl : d.fab.sessions.length < 256) :
    (sessionSetupOp p pub true c d).fab.stands (d.exchanged c p pub)
      ∧ (∀ q, q ≠ p → (sessionSetupOp p pub true c d).hasSession q = d.hasSession q) ∧ (sessionSetupOp p pub true c d).key = d.key
      ∧ (∀ h ∈ (sessionSetupOp p pub true c d).fab.held, h.node ≠ p)
      ∧ ∀ r ∈ d.fab.repls, r.en = true → r.peer = p → r.state = 3 → r.ended = false → { r with state := 1 } ∈ (sessionSetupOp p pub true c d).fab.repls := by
  rw [sessionSetupOp_eq pub hon hc hm hs hl]
  obtain ⟨hstays, hkey, hheld⟩ := (d.joined c p pub).sendHeld_spec p
  have hp : ∀ r ∈ brokenWith p ((d.joined c p pub).sendHeld p).fab.repls, r.peer = p := fun r hr => by
    have hmine := (List.mem_filter.mp hr).2
    simp only [Bool.and_eq_true, beq_iff_eq] at hmine
    exact hmine.1.2
  have hhas : ∀ q, ((d.joined c p pub).sendHeld p).hasSession q = (d.hasSession q || p == q) := fun q =>
    (Fab.SameSessions.hasSession hstays.sessions q).trans (d.hasSession_append _ q)
  obtain ⟨hsess, hheld2, hrepls⟩ := foldl_replSend_copying .copy hp (d := (d.joined c p pub).sendHeld p) (by rw [hhas]; simp)
  have htells := Dev.foldl_replSend_tells .copy (brokenWith p ((d.joined c p pub).sendHeld p).fab.repls) ((d.joined c p pub).sendHeld p)
  refine ⟨?_, fun q hq => ?_, ?_, fun h hh => ?_, fun r hr hen hpeer hst he => ?_⟩
  · exact hsess.stands (hstays.sessions.stands (List.mem_map.mpr ⟨_, List.mem_append_right _ List.mem_cons_self, rfl⟩))
  · rw [hsess.hasSession, hhas]
    simp [hq.symm]
  · exact htells.key.trans (hkey.trans (Dev.exchange_2_key ..))
  · rw [hheld2] at hh
    exact hheld h hh
  · rw [hrepls]
    have hmem : r ∈ ((d.joined c p pub).sendHeld p).fab.repls := by rw [hstays.repls]; exact hr
    exact foldl_replSet_sets (List.mem_filter.mpr ⟨List.mem_filter.mpr ⟨hmem, by simp [hen, hpeer, hst]⟩, by simp [he]⟩) hmem

theorem sessionSetupOp_full {c : Ctx} {d : Dev} {p : Nat} (pub : Bytes) (sig : Bool) (h : 256 ≤ d.fab.sessions.length ∨ sig = false) : sessionSetupOp p pub sig c d = d := by
  unfold sessionSetupOp
  refine if_neg ?_
  rcases h with h | rfl
  · simp [h]
  · simp

/-- A session that is due is set up again. -/
theorem sessionRekeyOp_due {c : Ctx} {d : Dev} {p : Nat} (pub : Bytes) {x : Session} (hon : d.fabOn = true) (hm : d.mgmtDrbg = true)
    (hx : d.fab.sessions.find? (fun y => y.peer == p) = some x) (hdue : 2 ^ 48 ≤ x.frames ∨ x.since + 3600000000000 ≤ c.now) :
    (sessionRekeyOp p pub c d).fab.sessions.find? (fun y => y.peer == p) = some (d.exchanged c p pub) := by
  have hany : d.fab.sessions.any (fun s => s.peer == p && (decide (2 ^ 48 ≤ s.frames) || decide (s.since + 3600 * nsS ≤ c.now))) = true :=
    List.any_eq_true.mpr ⟨x, List.mem_of_find?_eq_some hx, by
      rw [Bool.and_eq_true, List.find?_some (p := fun y : Session => y.peer == p) hx, Bool.or_eq_true, decide_eq_true_eq, decide_eq_true_eq]
      exact ⟨rfl, hdue⟩⟩
  unfold sessionRekeyOp
  rw [if_pos (by rw [hon, hm, hany]; rfl)]
  change (updWhere (fun s : Session => s.peer == p) (fun _ => d.exchanged c p pub) (d.exchange c p pub).2.fab.sessions).find? (fun y => y.peer == p) = _
  rw [Dev.exchange_2_fab, find_updWhere (fun s : Session => s.peer == p) (fun _ => d.exchanged c p pub) (fun _ _ => beq_self_eq_true p), hx, Option.map_some]

/-! ### The break of a session (R413, R422, R426) -/

/-- The item of a slot is pending here, spilled no more. -/
def Dev.gone (d : Dev) (slot : Nat) : Prop := ∃ j, d.item? slot = some j ∧ j.spill = none ∧ j.ds = .pending

theorem Dev.spillLost_items (c : Ctx) (slot : Nat) (d : Dev) :
    (d.spillLost c slot).dsp.items = d.dsp.items ∨ (d.spillLost c slot).dsp.items = updWhere (fun i => i.slot == slot) (Item.back true) d.dsp.items := by
  unfold Dev.spillLost
  split
  · exact .inl rfl
  · right
    rw [Dev.evtBit_dsp]
    change (Dev.goBack c slot true _).dsp.items = _
    rw [Dev.goBack_items, Dev.sendPeer_dsp]

/-- The loss of another item leaves an item as it is. -/
theorem Dev.spillLost_item_ne (c : Ctx) {slot k : Nat} (h : slot ≠ k) (d : Dev) : (d.spillLost c slot).item? k = d.item? k := by
  unfold Dev.item?
  rcases d.spillLost_items c slot with he | he
  · rw [he]
  · rw [he, find_updWhere_other]
    · intro x hx
      rw [beq_iff_eq] at hx
      simp [hx, h.symm]
    · intro x hx
      rw [beq_iff_eq] at hx
      simp [Item.back, hx, h]

/-- An item that is gone stays so. -/
theorem Dev.gone.spillLost {d : Dev} {slot : Nat} (h : d.gone slot) (c : Ctx) (k : Nat) : (d.spillLost c k).gone slot := by
  by_cases hk : k = slot
  · subst hk
    obtain ⟨j, hj, hn, hd⟩ := h
    rw [Dev.spillLost, hj, Option.bind_some, hn]
    exact ⟨j, hj, hn, hd⟩
  · unfold Dev.gone
    rw [Dev.spillLost_item_ne c hk]
    exact h

theorem foldl_spillLost_gone_kept (c : Ctx) {slot : Nat} (l : List Item) {d : Dev} (h : d.gone slot) : (l.foldl (fun a i => a.spillLost c i.slot) d).gone slot := by
  induction l generalizing d with
  | nil => exact h
  | cons i l ih => exact ih (h.spillLost c i.slot)

/-- Each spilled item whose turn comes runs here. -/
theorem foldl_spillLost_gone (c : Ctx) {i : Item} {q : Nat × Nat} (hq : i.spill = some q) {l : List Item} {d : Dev} (hl : i ∈ l) (hi : d.item? i.slot = some i) :
    (l.foldl (fun a j => a.spillLost c j.slot) d).gone i.slot := by
  induction l generalizing d with
  | nil => cases hl
  | cons j l ih =>
    rw [List.foldl_cons]
    by_cases hj : j.slot = i.slot
    · rw [hj]
      exact foldl_spillLost_gone_kept c l (Dev.spillLost_spec c hi hq).1.item
    · exact ih ((List.mem_cons.mp hl).resolve_left (fun h => hj (by rw [h]))) ((Dev.spillLost_item_ne c hj d).trans hi)

/-- The state with the session of a peer ended and its replications BROKEN. -/
def Dev.parted (p : Nat) (d : Dev) : Dev :=
  (d.fab.repls.filter (fun r => r.en && r.peer == p)).foldl (fun a r => a.setRepl r ReplSt.broken)
    { d with fab := { d.fab with sessions := d.fab.sessions.filter (fun s => s.peer != p) } }

theorem Dev.parted_fab (p : Nat) (d : Dev) : (d.parted p).fab = { d.fab with
    sessions := d.fab.sessions.filter (fun s => s.peer != p), repls := (d.fab.repls.filter (fun r => r.en && r.peer == p)).foldl (replSet 3) d.fab.repls } :=
  foldl_setRepl_fab ..

theorem foldl_setRepl_dsp (st : Nat) (k : List Repl) (d : Dev) : (k.foldl (fun a r => a.setRepl r st) d).dsp = d.dsp := by
  induction k generalizing d with
  | nil => rfl
  | cons r k ih =>
    rw [List.foldl_cons, ih, Dev.setRepl]
    dsimp only
    split
    · rw [Dev.evtBit_dsp]
    · rfl

theorem sessionBreakOp_eq {c : Ctx} {d : Dev} {p : Nat} (h : d.hasSession p = true) :
    sessionBreakOp p c d = ((d.parted p).dsp.items.filter (fun i => i.spill.any (fun q => q.1 == p))).foldl (fun a i => a.spillLost c i.slot) (d.parted p) := if_pos h

theorem Dev.parted_hasSession (p : Nat) (d : Dev) (q : Nat) : (d.parted p).hasSession q = (d.hasSession q && q != p) := by
  rw [Dev.hasSession, Dev.parted_fab, List.any_filter, Dev.hasSession, Bool.eq_iff_iff, Bool.and_eq_true, List.any_eq_true, List.any_eq_true]
  constructor
  · rintro ⟨x, hx, h⟩
    rw [Bool.and_eq_true, beq_iff_eq] at h
    obtain ⟨hne, rfl⟩ := h
    exact ⟨⟨x, hx, beq_self_eq_true _⟩, hne⟩
  · rintro ⟨⟨x, hx, h⟩, hne⟩
    obtain rfl := beq_iff_eq.mp h
    exact ⟨x, hx, by rw [hne, h]; rfl⟩

/-! ### Replication as it arrives (R420 to R422) -/

/-- Unwrapping changes a message's keys alone. -/
theorem unwrapKeys_same {x : Session} {m k : ReplMsg} (h : unwrapKeys x m = some k) :
    k.kind = m.kind ∧ k.peer = m.peer ∧ k.domain = m.domain ∧ k.gen = m.gen ∧ k.prevGen = m.prevGen ∧ k.prevValid = m.prevValid := by
  have hkeys : (kwUnwrap x.transport m.dmk).bind (fun k => if m.prevValid then (kwUnwrap x.transport m.prevDmk).map (fun p => { m with dmk := k, prevDmk := p })
      else some { m with dmk := k, prevDmk := [] }) = some k → k.kind = m.kind ∧ k.peer = m.peer ∧ k.domain = m.domain ∧ k.gen = m.gen ∧ k.prevGen = m.prevGen ∧ k.prevValid = m.prevValid := by
    intro hk
    obtain ⟨y, -, hy⟩ := Option.bind_eq_some_iff.mp hk
    split at hy
    · obtain ⟨z, -, rfl⟩ := Option.map_eq_some_iff.mp hy
      exact ⟨rfl, rfl, rfl, rfl, rfl, rfl⟩
    · obtain rfl := Option.some.inj hy
      exact ⟨rfl, rfl, rfl, rfl, rfl, rfl⟩
  unfold unwrapKeys at h
  split at h
  · exact hkeys h
  · exact hkeys h
  · obtain rfl := Option.some.inj h
    exact ⟨rfl, rfl, rfl, rfl, rfl, rfl⟩

/-- A message of a kind without keys is as it is. -/
theorem unwrapKeys_plain {x : Session} {m : ReplMsg} (hc : m.kind ≠ .copy) (hr : m.kind ≠ .rollEnd) : unwrapKeys x m = some m := by
  unfold unwrapKeys
  split
  next h => exact absurd h hc
  next h => exact absurd h hr
  next => rfl

theorem replicateReceiveOp_closed {c : Ctx} {d : Dev} {m : ReplMsg} (h : (d.session? m.peer).bind (fun x => unwrapKeys x m) = none) : replicateReceiveOp m c d = d := by
  unfold replicateReceiveOp
  rw [h]

/-- The replications that a message of the replica speaks of. -/
def replMine (m : ReplMsg) (r : Repl) : Bool := r.en && r.domain == m.domain && r.peer == m.peer && !r.ended

section
variable {c : Ctx} {d : Dev} {m k : ReplMsg} (hk : (d.session? m.peer).bind (fun x => unwrapKeys x m) = some k) (hon : d.fabOn = true)
include hk hon

theorem replicateReceiveOp_ack (h : k.kind = .ack) : replicateReceiveOp m c d = (d.fab.repls.filter (replMine k)).foldl (fun a r => a.setRepl r ReplSt.current) d := by
  unfold replicateReceiveOp
  rw [hk]
  simp only [hon, h]
  rfl

theorem replicateReceiveOp_ended (h : k.kind = .ended) : replicateReceiveOp m c d =
    let d1 := (d.fab.repls.filter (replMine k)).foldl (fun a r => a.setRepl r ReplSt.broken) d
    { d1 with fab := { d1.fab with repls := updWhere (replMine k) (fun r => { r with ended := true }) d1.fab.repls } } := by
  unfold replicateReceiveOp
  rw [hk]
  simp only [hon, h]
  rfl

variable (hl : d.locked = false) (hst : d.key.store = .ready)
include hl hst

/-- A message of the source is applied, and acknowledged. -/
theorem replicateReceiveOp_applies (ha : k.kind ≠ .ack) (he : k.kind ≠ .ended) (hr : d.fab.replicas.any (fun r => r.domain == k.domain && r.src == k.peer) = true) :
    replicateReceiveOp m c d = ((d.replApply k).domainChanged c k.domain .domain).sendPeer k.peer 3 (replCode .ack) (msgNum k.domain) := by
  unfold replicateReceiveOp
  rw [hk]
  simp only [hon, hl, hst, hr]
  cases hkind : k.kind with
  | ack => exact absurd hkind ha
  | ended => exact absurd hkind he
  | copy | rollEnd | retirePrev | erase => rfl

/-- The state with a copy installed. -/
def Dev.withCopy (k : ReplMsg) (d : Dev) : Dev :=
  { d with key := d.key.updDomain k.domain (installCopy k), fab := { d.fab with replicas := d.fab.replicas ++ [({ domain := k.domain, src := k.peer } : ReplicaOf)] } }

variable (hcopy : k.kind = .copy) (hr : d.fab.replicas.any (fun r => r.domain == k.domain && r.src == k.peer) = false)
include hcopy hr

theorem replicateReceiveOp_unloaded (h : d.replicaLoad k.domain k.peer = none ∨ (d.key.domain k.domain).state ≠ .empty) : replicateReceiveOp m c d = d := by
  unfold replicateReceiveOp
  rw [hk]
  simp only [hon, hl, hst, hr, hcopy]
  rcases h with h | h
  · simp [h]
  · cases d.replicaLoad k.domain k.peer with
    | none => rfl
    | some x => simp [h]

theorem replicateReceiveOp_copies {x : Ceremony} (hx : d.replicaLoad k.domain k.peer = some x) (he : (d.key.domain k.domain).state = .empty) :
    replicateReceiveOp m c d = (((d.withCopy k).cerEnd c x.num true 0).domainChanged c k.domain .domain).sendPeer k.peer 3 (replCode .ack) (msgNum k.domain) := by
  unfold replicateReceiveOp
  rw [hk]
  simp only [hon, hl, hst, hr, hcopy, hx, he, bne_self_eq_false, Bool.or_self, Bool.not_true, Bool.false_eq_true, if_false, ne_eq, not_true_eq_false]
  rfl

end

/-- The change of a domain and its acknowledgement leave the keys and the replicas as they are. -/
theorem Dev.toldSource (c : Ctx) (k : ReplMsg) (d : Dev) :
    ((d.domainChanged c k.domain .domain).sendPeer k.peer 3 (replCode .ack) (msgNum k.domain)).key = d.key
      ∧ ((d.domainChanged c k.domain .domain).sendPeer k.peer 3 (replCode .ack) (msgNum k.domain)).fab.replicas = d.fab.replicas :=
  ⟨((d.domainChanged_tells c k.domain (.inr rfl)).trans (Dev.sendPeer_tells ..)).key, ((d.domainChanged_stays c k.domain).trans (Dev.sendPeer_stays ..)).replicas⟩

theorem Key.domain_num (k : Key) (n : Nat) : (k.domain n).num = n := by
  unfold Key.domain
  cases h : k.domains.find? (fun x => x.num == n) with
  | none => rfl
  | some x => simpa using List.find?_some (p := fun x : Domain => x.num == n) h

theorem Key.domain_supersede (p : CacheEnt → Bool) (k : Key) (n : Nat) : (k.supersede p).domain n = k.domain n := rfl

theorem Key.domain_retirePrev (k : Key) (n : Nat) : ((k.retirePrev (k.domain n)).domain n).prevValid = false := by
  unfold Key.retirePrev
  rw [Key.domain_supersede, Key.domain_num, Key.domain_updDomain k n (f := fun x => { x with prevValid := false, retiring := true }) (fun _ => rfl)]

theorem Key.domain_eraseDomain (k : Key) (n : Nat) : ((k.eraseDomain n).domain n).state = .empty := by
  unfold Key.eraseDomain
  rw [Key.domain_supersede, Key.domain_updDomain _ n (f := fun m => { num := m.num, slotQuota := m.slotQuota, extQuota := m.extQuota }) (fun _ => rfl)]

theorem Key.slots_eraseDomain (k : Key) (n : Nat) : ∀ s ∈ (k.eraseDomain n).slots, s.dom ≠ n := by
  intro s hs
  change s ∈ k.slots.filter (fun s => s.dom != n) at hs
  simpa using (List.mem_filter.mp hs).2

/-! ### What each message comes to -/

section
variable {c : Ctx} {d : Dev} {m k : ReplMsg} (hk : (d.session? m.peer).bind (fun x => unwrapKeys x m) = some k) (hon : d.fabOn = true)
include hk hon

theorem replicateReceiveOp_ack_spec (h : k.kind = .ack) : (replicateReceiveOp m c d).key = d.key
    ∧ ∀ r ∈ d.fab.repls, replMine k r = true → { r with state := 2 } ∈ (replicateReceiveOp m c d).fab.repls := by
  rw [replicateReceiveOp_ack hk hon h]
  refine ⟨(foldl_setRepl_tells ..).key, fun r hr hm => ?_⟩
  rw [foldl_setRepl_fab]
  exact foldl_replSet_sets (List.mem_filter.mpr ⟨hr, hm⟩) hr

theorem replicateReceiveOp_ended_spec (h : k.kind = .ended) : (replicateReceiveOp m c d).key = d.key
    ∧ ∀ r ∈ d.fab.repls, replMine k r = true → { r with state := 3, ended := true } ∈ (replicateReceiveOp m c d).fab.repls := by
  rw [replicateReceiveOp_ended hk hon h]
  refine ⟨(foldl_setRepl_tells ..).key, fun r hr hm => ?_⟩
  dsimp only
  rw [foldl_setRepl_fab]
  exact List.mem_map.mpr ⟨{ r with state := 3 }, foldl_replSet_sets (List.mem_filter.mpr ⟨hr, hm⟩) hr, if_pos hm⟩

variable (hl : d.locked = false) (hst : d.key.store = .ready)
include hl hst

theorem replicateReceiveOp_copy_spec {x : Ceremony} (hcopy : k.kind = .copy) (hr : d.fab.replicas.any (fun r => r.domain == k.domain && r.src == k.peer) = false)
    (hx : d.replicaLoad k.domain k.peer = some x) (he : (d.key.domain k.domain).state = .empty) :
    (replicateReceiveOp m c d).isReplica k.domain = true ∧ (replicateReceiveOp m c d).key.domain k.domain = installCopy k (d.key.domain k.domain) := by
  rw [replicateReceiveOp_copies hk hon hl hst hcopy hr hx he]
  obtain ⟨hkey, hrepl⟩ := Dev.toldSource c k ((d.withCopy k).cerEnd c x.num true 0)
  constructor
  · rw [Dev.isReplica, hrepl, Dev.cerEnd_fab]
    exact List.any_eq_true.mpr ⟨_, List.mem_append_right _ List.mem_cons_self, beq_self_eq_true _⟩
  · rw [hkey, Dev.cerEnd_key]
    exact Key.domain_updDomain _ _ (fun _ => rfl)

variable (hr : d.fab.replicas.any (fun r => r.domain == k.domain && r.src == k.peer) = true)
include hr

theorem replicateReceiveOp_erase_spec (h : k.kind = .erase) : (replicateReceiveOp m c d).isReplica k.domain = false
    ∧ ((replicateReceiveOp m c d).key.domain k.domain).state = .empty ∧ ∀ s ∈ (replicateReceiveOp m c d).key.slots, s.dom ≠ k.domain := by
  rw [replicateReceiveOp_applies hk hon hl hst (by rw [h]; decide) (by rw [h]; decide) hr]
  obtain ⟨hkey, hrepl⟩ := Dev.toldSource c k (d.replApply k)
  rw [Dev.isReplica, hrepl, hkey, Dev.replApply]
  simp only [h]
  exact ⟨by simp, Key.domain_eraseDomain .., Key.slots_eraseDomain _ _⟩

theorem replicateReceiveOp_retire_spec (h : k.kind = .retirePrev) : ((replicateReceiveOp m c d).key.domain k.domain).prevValid = false := by
  rw [replicateReceiveOp_applies hk hon hl hst (by rw [h]; decide) (by rw [h]; decide) hr, (Dev.toldSource c k (d.replApply k)).1, Dev.replApply]
  simp only [h]
  exact Key.domain_retirePrev ..

theorem replicateReceiveOp_roll_spec (h : k.kind = .rollEnd) (hg : (d.key.domain k.domain).gen ≠ k.gen) (hs : (d.key.domain k.domain).state ≠ .rolling) :
    (replicateReceiveOp m c d).key.domain k.domain = { d.key.domain k.domain with state := .rolling, newGen := k.gen, newDmk := k.dmk } := by
  rw [replicateReceiveOp_applies hk hon hl hst (by rw [h]; decide) (by rw [h]; decide) hr, (Dev.toldSource c k (d.replApply k)).1, Dev.replApply]
  simp only [h]
  rw [if_neg (by rintro (h | h); exacts [hg h, hs h])]
  exact Key.domain_updDomain _ _ (fun _ => rfl)

end

/-! ### The obligation -/

/-- Settles O38, a command at a time. -/
theorem fabricSessions : Obligations.FabricSessions := by
  intro s p pub
  refine ⟨fun hon hm => ⟨fun hc hs => ⟨fun hl => ?_, fun hl => ?_⟩, fun x hx hdue => ?_⟩, ?_, fun hs => ?_, fun hs => ?_, fun m0 h => ?_,
    fun m x hx hp hon => ?_⟩
  · obtain ⟨hstands, hothers, hkey, hheld, hrepls⟩ := sessionSetupOp_spec (c := s.ctx) pub hon hc hm hs hl
    exact ⟨_, onDev_gives (f := sessionSetupOp p pub true) rfl, .of_dev .., hstands.session, hothers, hkey, hheld,
      fun r hr hen hpeer hst he => ⟨_, hrepls r hr hen hpeer hst he, rfl, rfl, rfl⟩⟩
  · exact onDev_idle (f := sessionSetupOp p pub true) (sessionSetupOp_full pub true (.inl hl))
  · exact ⟨_, onDev_gives (f := sessionRekeyOp p pub) rfl, .of_dev .., sessionRekeyOp_due pub hon hm hx hdue⟩
  · exact onDev_idle (f := sessionSetupOp p pub false) (sessionSetupOp_full pub false (.inr rfl))
  · have hstays := foldl_spillLost_stays s.ctx ((s.dev.parted p).dsp.items.filter (fun i => i.spill.any (fun q => q.1 == p))) (s.dev.parted p)
    rw [← sessionBreakOp_eq hs] at hstays
    have hhas := fun q => (Fab.SameSessions.hasSession hstays.sessions q).trans (s.dev.parted_hasSession p q)
    refine ⟨_, onDev_gives (f := sessionBreakOp p) rfl, .of_dev .., by simp [hhas], fun q hq => by simp [hhas, hq], fun r hr hen hpeer => ?_, fun i hi hsp => ?_⟩
    · refine ⟨{ r with state := 3 }, ?_, rfl, rfl, rfl⟩
      change _ ∈ (sessionBreakOp p s.ctx s.dev).fab.repls
      rw [hstays.repls, Dev.parted_fab]
      exact foldl_replSet_sets (List.mem_filter.mpr ⟨hr, by simp [hen, hpeer]⟩) hr
    · have hdsp : (s.dev.parted p).dsp = s.dev.dsp := foldl_setRepl_dsp ..
      obtain ⟨q, hq⟩ : ∃ q, i.spill = some q := Option.ne_none_iff_exists'.mp (fun hn => by simp [hn] at hsp)
      change (sessionBreakOp p s.ctx s.dev).gone i.slot
      rw [sessionBreakOp_eq hs]
      refine foldl_spillLost_gone s.ctx hq (List.mem_filter.mpr ⟨?_, hsp⟩) ?_
      · rw [hdsp]
        exact List.mem_of_find?_eq_some hi
      · rw [Dev.item?, hdsp]
        exact hi
  · exact onDev_idle (f := sessionBreakOp p) (if_neg (by simp [hs]))
  · exact onDev_idle (f := replicateReceiveOp m0) (replicateReceiveOp_closed h)
  · subst hp
    have hplain : m.kind ≠ .copy → m.kind ≠ .rollEnd → (s.dev.session? m.peer).bind (fun x => unwrapKeys x m) = some m := fun hc hr => by
      rw [hx, Option.bind_some, unwrapKeys_plain hc hr]
    have hmine : ∀ r : Repl, r.en = true → r.domain = m.domain → r.peer = m.peer → r.ended = false → replMine m r = true := fun r hen hd hp he => by
      simp [replMine, hen, hd, hp, he]
    refine ⟨fun hack => ?_, fun hend => ?_, fun hl hst => ⟨fun hcopy hr => ⟨fun h => ?_, fun hload he => ?_⟩, fun hr => ⟨fun her => ?_, fun hret => ?_, fun hroll hg hns => ?_⟩⟩⟩
    · obtain ⟨hkey, hrepls⟩ := replicateReceiveOp_ack_spec (c := s.ctx) (hplain (by rw [hack]; decide) (by rw [hack]; decide)) hon hack
      exact ⟨_, onDev_gives (f := replicateReceiveOp m) rfl, .of_dev .., hkey, fun r hr hen hd hp he => ⟨_, hrepls r hr (hmine r hen hd hp he), rfl, rfl, rfl⟩⟩
    · obtain ⟨hkey, hrepls⟩ := replicateReceiveOp_ended_spec (c := s.ctx) (hplain (by rw [hend]; decide) (by rw [hend]; decide)) hon hend
      exact ⟨_, onDev_gives (f := replicateReceiveOp m) rfl, .of_dev .., hkey, fun r hr hen hd hp he => ⟨_, hrepls r hr (hmine r hen hd hp he), rfl, rfl, rfl, rfl⟩⟩
    · refine onDev_idle (f := replicateReceiveOp m) ?_
      cases hu : unwrapKeys x m with
      | none => exact replicateReceiveOp_closed (by rw [hx, Option.bind_some, hu])
      | some k =>
        obtain ⟨hkind, hpeer, hdom, -⟩ := unwrapKeys_same hu
        exact replicateReceiveOp_unloaded (by rw [hx, Option.bind_some, hu]) hon hl hst (hkind.trans hcopy) (by rw [hdom, hpeer]; exact hr) (by rw [hdom, hpeer]; exact h)
    · cases hu : unwrapKeys x m with
      | none => exact ⟨s, onDev_idle (f := replicateReceiveOp m) (replicateReceiveOp_closed (by rw [hx, Option.bind_some, hu])), .of_dev s s.dev, rfl⟩
      | some k =>
        obtain ⟨hkind, hpeer, hdom, hgen, hpgen, hpval⟩ := unwrapKeys_same hu
        obtain ⟨y, hy⟩ := Option.ne_none_iff_exists'.mp hload
        obtain ⟨hrepl, hinst⟩ := replicateReceiveOp_copy_spec (c := s.ctx) (by rw [hx, Option.bind_some, hu]) hon hl hst (hkind.trans hcopy) (by rw [hdom, hpeer]; exact hr)
          (by rw [hdom, hpeer]; exact hy) (by rw [hdom]; exact he)
        rw [hdom] at hrepl hinst
        rw [installCopy, hgen, hpgen, hpval] at hinst
        exact ⟨_, onDev_gives (f := replicateReceiveOp m) rfl, .of_dev .., hrepl, hinst⟩
    · obtain ⟨hrepl, hstate, hslots⟩ := replicateReceiveOp_erase_spec (c := s.ctx) (hplain (by rw [her]; decide) (by rw [her]; decide)) hon hl hst hr her
      exact ⟨_, onDev_gives (f := replicateReceiveOp m) rfl, .of_dev .., hrepl, hstate, hslots⟩
    · exact ⟨_, onDev_gives (f := replicateReceiveOp m) rfl, .of_dev ..,
        replicateReceiveOp_retire_spec (hplain (by rw [hret]; decide) (by rw [hret]; decide)) hon hl hst hr hret⟩
    · cases hu : unwrapKeys x m with
      | none => exact ⟨s, onDev_idle (f := replicateReceiveOp m) (replicateReceiveOp_closed (by rw [hx, Option.bind_some, hu])), .of_dev s s.dev, rfl⟩
      | some k =>
        obtain ⟨hkind, hpeer, hdom, hgen, -⟩ := unwrapKeys_same hu
        have hspec := replicateReceiveOp_roll_spec (c := s.ctx) (m := m) (k := k) (by rw [hx, Option.bind_some, hu]) hon hl hst (by rw [hdom, hpeer]; exact hr)
          (hkind.trans hroll) (by rw [hdom, hgen]; exact hg) (by rw [hdom]; exact hns)
        rw [hdom, hgen] at hspec
        exact ⟨_, onDev_gives (f := replicateReceiveOp m) rfl, .of_dev .., hspec⟩

end Sys2Proof.Machine

/-! Detections, responses and the battery (R467, R469 to R471, R473 to R476, R480, R482 to R484). -/

namespace Sys2Proof.Machine

/-! ### What a response leaves of the tamper state (R475, R476) -/

/-- The tamper state but for the sources that fire, the ceremonies and TMP_EVT are the same, and an empty key cache stays empty. -/
structure Dev.Settles (d e : Dev) : Prop where
  tmp   : ∃ a, e.tmp = { d.tmp with active := a }
  cus   : e.cus = d.cus
  evt   : e.reg Off.tmpEvt = d.reg Off.tmpEvt
  cache : d.key.cache = [] → e.key.cache = []

theorem Dev.Settles.trans {a b c : Dev} (h : a.Settles b) (g : b.Settles c) : a.Settles c := by
  obtain ⟨x, hx⟩ := h.tmp
  obtain ⟨y, hy⟩ := g.tmp
  exact ⟨⟨y, by rw [hy, hx]⟩, g.cus.trans h.cus, g.evt.trans h.evt, fun hc => g.cache (h.cache hc)⟩
theorem Dev.Settles.of_eq {d e : Dev} (ht : e.tmp = d.tmp) (hu : e.cus = d.cus) (hr : e.reg Off.tmpEvt = d.reg Off.tmpEvt) (hk : e.key.cache = d.key.cache) : d.Settles e :=
  ⟨⟨d.tmp.active, ht⟩, hu, hr, fun h => by rw [hk, h]⟩
theorem Dev.Settles.refl (d : Dev) : d.Settles d := .of_eq rfl rfl rfl rfl
/-- Work on items leaves the tamper state alone. -/
theorem Dev.Passes.settles {d e : Dev} (h : d.Passes e) (ha : e.apart = d.apart) : d.Settles e :=
  ⟨⟨d.tmp.active, congrArg Apart.tmp ha⟩, congrArg Apart.cus ha, h.reg _ (by decide), h.cache⟩

theorem foldl_settles {α : Type} (f : Dev → α → Dev) (h : ∀ a i, Dev.Settles a (f a i)) (l : List α) (d : Dev) : d.Settles (l.foldl f d) := by
  induction l generalizing d with
  | nil => exact .refl d
  | cons i l ih => exact (h d i).trans (ih _)

section
variable (c : Ctx) (d : Dev)

theorem Dev.evtBit_settles {off : Nat} (i : Nat) (h : Off.tmpEvt ≠ off) : d.Settles (d.evtBit off i) :=
  .of_eq (Dev.evtBit_tmp ..) (Dev.evtBit_cus ..) (Dev.evtBit_reg_ne _ _ h) (congrArg Key.cache (Dev.evtBit_key ..))
theorem Dev.startFlush_settles : d.Settles d.startFlush := by
  unfold Dev.startFlush
  split <;> exact .of_eq rfl rfl rfl rfl
theorem Dev.abortOvertaken_settles : d.Settles (d.abortOvertaken c) := by
  unfold Dev.abortOvertaken
  split
  · exact .refl d
  · split
    · exact .refl d
    · refine Dev.Settles.trans ?_ (Dev.evtBit_settles _ _ (by decide))
      exact .of_eq rfl rfl rfl rfl
theorem Dev.unsap_settles (i : Item) : d.Settles (d.unsap i) := by
  unfold Dev.unsap
  split <;> exact .of_eq rfl rfl rfl rfl
omit d in
theorem Dev.Settles.unsapped {a b : Dev} (h : a.Settles b) (i : Item) (k : Nat) (f : Item → Item) : a.Settles ((b.unsap i).updItem k f) :=
  (h.trans (b.unsap_settles i)).trans (.of_eq rfl rfl rfl rfl)
theorem Dev.overtake_settles (st sub : Nat) : d.Settles (d.overtake c st sub) := by
  unfold Dev.overtake
  refine foldl_settles _ (fun a i => ?_) _ d
  dsimp only
  split
  · exact .refl a
  next r _ =>
    split
    · exact .refl a
    · refine Dev.Settles.trans ?_ ((Dev.mirrorRec_passes _ i.slot).settles (Dev.mirrorRec_apart ..))
      refine Dev.Settles.unsapped ?_ i _ _
      exact .of_eq rfl rfl rfl rfl
theorem Dev.decideItems_settles (st sub : Nat) : d.Settles (d.decideItems c st sub) := by
  unfold Dev.decideItems
  extract_lets live order hif d1
  have h1 : d.Settles d1 := .of_eq rfl rfl rfl rfl
  refine h1.trans (foldl_settles _ (fun a i => ?_) order d1)
  split
  · exact .refl a
  · split
    · exact .refl a
    · exact (Dev.toOwed_passes a c i.slot _ _ _).settles (Dev.toOwed_apart ..)
theorem Dev.supersedeSlot_settles : d.Settles d.supersedeSlot := by
  unfold Dev.supersedeSlot
  split <;> exact .of_eq rfl rfl rfl rfl
theorem Dev.supersedeSave_settles : d.Settles d.supersedeSave := .of_eq rfl rfl rfl rfl
theorem Dev.mgmtResume_settles (n : Nat) : d.Settles (d.mgmtResume c n) := by
  unfold Dev.mgmtResume
  split
  · exact ⟨⟨_, rfl⟩, d.fwAdvance_cus c, d.fwAdvance_reg c _, fun h => (congrArg Key.cache (d.fwAdvance_key c)).trans h⟩
  · exact .refl d
theorem Dev.dbgReset_settles : d.Settles (d.dbgReset c) := by
  unfold Dev.dbgReset
  split
  · exact .refl d
  · refine Dev.Settles.trans (((d.mgmtResume_settles c 0).trans (Dev.mgmtResume_settles c _ 1)).trans ?_) (Dev.evtBit_settles _ _ (by decide))
    exact .of_eq rfl rfl rfl rfl

/-! ### The ceremonies that a response ends (R462) -/

theorem Dev.cerEnd_tmp (n : Nat) (q : Bool) (r : Nat) : (d.cerEnd c n q r).tmp = d.tmp := by
  unfold Dev.cerEnd
  dsimp only
  split
  · rw [Dev.evidence_tmp, Dev.evtBit_tmp]
    split <;> rfl
  · rw [Dev.evtBit_tmp]
    split <;> rfl
theorem Dev.cerEnd_tmpEvt (n : Nat) (q : Bool) (r : Nat) : (d.cerEnd c n q r).reg Off.tmpEvt = d.reg Off.tmpEvt := by
  unfold Dev.cerEnd
  extract_lets k d0 d1
  have hd1 : d1.reg Off.tmpEvt = d.reg Off.tmpEvt := by
    unfold d1 d0
    rw [Dev.evtBit_reg_ne _ _ (by decide), Dev.updCer_reg]
    split <;> rfl
  split
  · rw [Dev.evidence_reg_ne _ _ _ _ (by decide) (by decide), hd1]
  · exact hd1

/-- One step of it: the slot ends SUPERSEDED, unless it is idle or permitted. -/
def Dev.supersedeCer (c : Ctx) (all : Bool) (d : Dev) (n : Nat) : Dev :=
  if (d.cer n).state != .idle && (all || !cerInLock (d.cer n).cls) then d.cerEnd c n ((d.cer n).state == .opened) Cer.superseded else d

theorem Dev.supersedeCers_eq (all : Bool) : d.supersedeCers c all = (List.range 4).foldl (Dev.supersedeCer c all) d := rfl

theorem Dev.supersedeCers_tmp (all : Bool) : (d.supersedeCers c all).tmp = d.tmp := by
  refine foldl_keep Dev.tmp _ (fun a n => ?_) _ d
  dsimp only
  split
  · exact Dev.cerEnd_tmp ..
  · rfl
theorem Dev.supersedeCers_tmpEvt (all : Bool) : (d.supersedeCers c all).reg Off.tmpEvt = d.reg Off.tmpEvt := by
  refine foldl_keep (fun a : Dev => a.reg Off.tmpEvt) _ (fun a n => ?_) _ d
  dsimp only
  split
  · exact Dev.cerEnd_tmpEvt ..
  · rfl
theorem Dev.supersedeCers_key (all : Bool) : (d.supersedeCers c all).key = d.key := by
  refine foldl_keep Dev.key _ (fun a n => ?_) _ d
  dsimp only
  split
  · exact Dev.cerEnd_key ..
  · rfl

end

/-- The end of another slot leaves a slot as it is. -/
theorem Dev.HasCer.cerEnd_ne {d : Dev} {n m : Nat} {k : Ceremony} (h : d.HasCer n k) (hm : m ≠ n) (c : Ctx) (q : Bool) (r : Nat) : (d.cerEnd c m q r).HasCer n k := by
  refine Dev.HasCer.of_cers (d := d.updCer m (Ceremony.idle r)) ?_ (congrArg Cus.cers (d.cerEnd_cers c m q r))
  refine (find_updWhere_other _ _ _ (fun x hx => ?_) (fun x hx => ?_) _).trans h
  · rw [beq_iff_eq] at hx
    simp [hx, hm.symm]
  · rw [beq_iff_eq] at hx
    simp [Ceremony.idle, hx, hm]

/-- A slot that is not superseded in its turn, or whose turn it is not, stays as it is. -/
theorem Dev.HasCer.supersedeCer_kept {d : Dev} {n m : Nat} {k : Ceremony} (h : d.HasCer n k) (c : Ctx) (all : Bool) (hm : m ≠ n ∨ k.state = .idle) :
    (d.supersedeCer c all m).HasCer n k := by
  unfold Dev.supersedeCer
  split
  next hc =>
    by_cases hmn : m = n
    · subst hmn
      rw [h.cer, hm.resolve_left (fun hne => hne rfl)] at hc
      cases hc
    · exact h.cerEnd_ne hmn c _ _
  next => exact h

theorem Dev.HasCer.supersedeCer_ends {d : Dev} {n : Nat} {k : Ceremony} (h : d.HasCer n k) (c : Ctx) (all : Bool) (hs : k.state ≠ .idle)
    (hc : (all || !cerInLock k.cls) = true) : (d.supersedeCer c all n).HasCer n (k.idle 15) := by
  unfold Dev.supersedeCer
  rw [h.cer, if_pos (by rw [hc, Bool.and_true]; exact bne_iff_ne.mpr hs)]
  exact h.ended c _ 15

theorem foldl_supersedeCer_idle (c : Ctx) (all : Bool) {n : Nat} {k : Ceremony} (hs : k.state = .idle) (l : List Nat) {d : Dev} (h : d.HasCer n k) :
    (l.foldl (Dev.supersedeCer c all) d).HasCer n k := by
  induction l generalizing d with
  | nil => exact h
  | cons m l ih => exact ih (h.supersedeCer_kept c all (.inr hs))

/-- Each slot whose turn comes, and whose class is not permitted, ends SUPERSEDED. -/
theorem foldl_supersedeCer_ends (c : Ctx) (all : Bool) {n : Nat} {k : Ceremony} (hs : k.state ≠ .idle) (hc : (all || !cerInLock k.cls) = true) {l : List Nat}
    {d : Dev} (hn : n ∈ l) (h : d.HasCer n k) : (l.foldl (Dev.supersedeCer c all) d).HasCer n (k.idle 15) := by
  induction l generalizing d with
  | nil => cases hn
  | cons m l ih =>
    rw [List.foldl_cons]
    by_cases hm : m = n
    · subst hm
      exact foldl_supersedeCer_idle c all rfl l (h.supersedeCer_ends c all hs hc)
    · exact ih ((List.mem_cons.mp hn).resolve_left (fun he => hm he.symm)) (h.supersedeCer_kept c all (.inl hm))

/-! ### LOCK and ZEROISE (R475, R476) -/

section
variable (c : Ctx) (src st : Nat) (d : Dev)

/-- The state in which LOCK is in force, before the ceremonies are ended. -/
def Dev.lockBegun (d : Dev) : Dev :=
  (((({ d with tmp := { d.tmp with lock := true, resume := false } } : Dev).abortOvertaken c).overtake c st src).decideItems c st src).supersedeSlot.supersedeSave

theorem Dev.lockActions_eq : d.lockActions c src st = (((((d.lockBegun c src st).supersedeCers c false).dbgReset c).evtBit Off.tmpEvt 1).startFlush) := rfl

theorem Dev.lockBegun_settles : ({ d with tmp := { d.tmp with lock := true, resume := false } } : Dev).Settles (d.lockBegun c src st) :=
  (((((Dev.abortOvertaken_settles c _).trans (Dev.overtake_settles c _ st src)).trans (Dev.decideItems_settles c _ st src)).trans (Dev.supersedeSlot_settles _)).trans
    (Dev.supersedeSave_settles _))

theorem Dev.lockActions_tmp : ∃ a, (d.lockActions c src st).tmp = { d.tmp with lock := true, resume := false, active := a } := by
  obtain ⟨x, hx⟩ := (d.lockBegun_settles c src st).tmp
  obtain ⟨y, hy⟩ := (Dev.dbgReset_settles c ((d.lockBegun c src st).supersedeCers c false)).tmp
  obtain ⟨z, hz⟩ := (Dev.startFlush_settles ((((d.lockBegun c src st).supersedeCers c false).dbgReset c).evtBit Off.tmpEvt 1)).tmp
  exact ⟨z, by rw [Dev.lockActions_eq, hz, Dev.evtBit_tmp, hy, Dev.supersedeCers_tmp, hx]⟩

theorem Dev.lockActions_tmpEvt : (d.lockActions c src st).reg Off.tmpEvt = d.reg Off.tmpEvt ||| (1#32 <<< 1) := by
  rw [Dev.lockActions_eq, (Dev.startFlush_settles _).evt, Dev.evtBit_reg, (Dev.dbgReset_settles c _).evt, Dev.supersedeCers_tmpEvt, (d.lockBegun_settles c src st).evt]
  rfl

theorem Dev.lockActions_cache (h : d.key.cache = []) : (d.lockActions c src st).key.cache = [] := by
  rw [Dev.lockActions_eq]
  refine (Dev.startFlush_settles _).cache ?_
  rw [Dev.evtBit_key]
  refine (Dev.dbgReset_settles c _).cache ?_
  rw [Dev.supersedeCers_key]
  exact (d.lockBegun_settles c src st).cache h

/-- LOCK ends every ceremony of a class that is not permitted in it. -/
theorem Dev.HasCer.lockActions {d : Dev} {n : Nat} {k : Ceremony} (h : d.HasCer n k) (hn : n < 4) (hs : k.state ≠ .idle) (hc : k.cls ∉ [2, 4, 7, 8]) :
    (d.lockActions c src st).HasCer n (k.idle 15) := by
  have hbegun : (d.lockBegun c src st).HasCer n k := h.of_cers (congrArg Cus.cers (d.lockBegun_settles c src st).cus)
  have hended := foldl_supersedeCer_ends c false hs (by simp [cerInLock, List.contains_eq_mem, hc]) (List.mem_range.mpr hn) hbegun
  refine hended.of_cers (congrArg Cus.cers ?_)
  rw [Dev.lockActions_eq, (Dev.startFlush_settles _).cus, Dev.evtBit_cus, (Dev.dbgReset_settles c _).cus, Dev.supersedeCers_eq]

/-! ### The erasures of ZEROISE (R359, R476) -/

/-- What the entropy block's erasure leaves alone. -/
theorem Dev.rngZeroise_settles : d.Settles (d.rngZeroise c) := by
  unfold Dev.rngZeroise
  dsimp only
  split <;> exact .of_eq rfl rfl rfl rfl
theorem Dev.rngZeroise_drbgs : ∀ g ∈ (d.rngZeroise c).rng.drbgs, g.state = .uninst := by
  have hmap : ∀ g ∈ d.rng.drbgs.map Drbg.erased, g.state = .uninst := fun g hg => by
    obtain ⟨x, -, rfl⟩ := List.mem_map.mp hg
    rfl
  unfold Dev.rngZeroise
  dsimp only
  split <;> exact hmap

/-- The state with the key material and the DRBGs erased, before the ceremonies are ended. -/
def Dev.erasedKeys (c : Ctx) (d : Dev) : Dev :=
  let e := d.eraseBbkek
  let d1 := (if e.key.bbkek = d.key.bbkek ∧ e.key.store = d.key.store then e else e.evtBit Off.keyEvt 5).rngZeroise c
  { d1 with
    key := { d1.key with cache := [], loads := [] }
    lan := { d1.lan with groves := d1.lan.groves.map (fun (g : Grove) => g.noSeeds), twins := d1.lan.twins.map (fun (t : Twin) => t.lanes (fun _ l => l.noCtx)) } }

theorem Dev.zeroiseErase_eq : d.zeroiseErase c = ((d.erasedKeys c).supersedeCers c true).evtBit Off.tmpEvt 2 := rfl

theorem Dev.erasedKeys_tmp : (d.erasedKeys c).tmp = d.tmp := by
  have hrng : ∀ e : Dev, (e.rngZeroise c).tmp = e.tmp := fun e => by
    unfold Dev.rngZeroise
    dsimp only
    split <;> rfl
  refine (hrng _).trans ?_
  split
  · rfl
  · rw [Dev.evtBit_tmp]
    rfl

theorem Dev.zeroiseErase_tmp : (d.zeroiseErase c).tmp = d.tmp := by
  rw [Dev.zeroiseErase_eq, Dev.evtBit_tmp, Dev.supersedeCers_tmp, Dev.erasedKeys_tmp]
theorem Dev.erasedKeys_tmpEvt : (d.erasedKeys c).reg Off.tmpEvt = d.reg Off.tmpEvt := by
  refine (Dev.rngZeroise_settles c _).evt.trans ?_
  split
  · rfl
  · exact Dev.evtBit_reg_ne _ _ (by decide)
theorem Dev.zeroiseErase_tmpEvt : (d.zeroiseErase c).reg Off.tmpEvt = d.reg Off.tmpEvt ||| (1#32 <<< 2) := by
  rw [Dev.zeroiseErase_eq, Dev.evtBit_reg, Dev.supersedeCers_tmpEvt, Dev.erasedKeys_tmpEvt]
theorem Dev.zeroiseErase_cache : (d.zeroiseErase c).key.cache = [] := by
  rw [Dev.zeroiseErase_eq, Dev.evtBit_key, Dev.supersedeCers_key]
  rfl
theorem Dev.zeroiseErase_drbgs : ∀ g ∈ (d.zeroiseErase c).rng.drbgs, g.state = .uninst := by
  rw [Dev.zeroiseErase_eq, Dev.evtBit_rng, Dev.rng_of_noise (Dev.supersedeCers_noise ..)]
  exact Dev.rngZeroise_drbgs c _

/-- The rest of a ZEROISE response where LOCK stands already. -/
def Dev.decided (c : Ctx) (src : Nat) (d : Dev) : Dev := (((d.abortOvertaken c).overtake c 0x32 src).decideItems c 0x32 src).startFlush

theorem Dev.decided_settles : d.Settles (d.decided c src) :=
  (((d.abortOvertaken_settles c).trans (Dev.overtake_settles c _ 0x32 src)).trans (Dev.decideItems_settles c _ 0x32 src)).trans (Dev.startFlush_settles _)

/-- The state whose erasures are done. -/
def Dev.zeroising (c : Ctx) (d : Dev) : Dev := { d.zeroiseErase c with tmp := { (d.zeroiseErase c).tmp with zeroised := true } }

theorem Dev.zeroise_eq : d.zeroise c src = if d.tmp.lock then (d.zeroising c).decided c src else (d.zeroising c).lockActions c src 0x32 := rfl

theorem Dev.zeroise_tmp : ∃ a r, (d.zeroise c src).tmp = { d.tmp with lock := true, zeroised := true, resume := r, active := a } := by
  have htmp : (d.zeroising c).tmp = { d.tmp with zeroised := true } := congrArg (fun t : Tmp => { t with zeroised := true }) (Dev.zeroiseErase_tmp c d)
  rw [Dev.zeroise_eq]
  split
  next hl =>
    obtain ⟨x, hx⟩ := ((d.zeroising c).decided_settles c src).tmp
    exact ⟨x, d.tmp.resume, by rw [hx, htmp, ← hl]⟩
  next =>
    obtain ⟨x, hx⟩ := Dev.lockActions_tmp c src 0x32 (d.zeroising c)
    exact ⟨x, false, by rw [hx, htmp]⟩

/-- A bit of TMP_EVT that the erasures set, or find set, stays set. -/
theorem Dev.zeroise_evt {i : Nat} (h : bit (d.reg Off.tmpEvt ||| (1#32 <<< 2)) i = true) : bit ((d.zeroise c src).reg Off.tmpEvt) i = true := by
  have hevt : bit ((d.zeroising c).reg Off.tmpEvt) i = true := (congrArg (bit · i) (d.zeroiseErase_tmpEvt c)).trans h
  rw [Dev.zeroise_eq]
  split
  · rw [((d.zeroising c).decided_settles c src).evt]
    exact hevt
  · rw [Dev.lockActions_tmpEvt]
    exact bit_or_left _ hevt

theorem Dev.zeroise_cache : (d.zeroise c src).key.cache = [] := by
  rw [Dev.zeroise_eq]
  split
  · exact ((d.zeroising c).decided_settles c src).cache (d.zeroiseErase_cache c)
  · exact Dev.lockActions_cache c src 0x32 _ (d.zeroiseErase_cache c)

theorem Dev.zeroise_drbgs : ∀ g ∈ (d.zeroise c src).rng.drbgs, g.state = .uninst := by
  rw [Dev.zeroise_eq]
  split
  · have hnoise : ((d.zeroising c).decided c src).noise = (d.zeroising c).noise := by
      unfold Dev.decided
      rw [Dev.startFlush_noise, Dev.decideItems_noise, Dev.overtake_noise, Dev.abortOvertaken_noise]
    rw [Dev.rng_of_noise hnoise]
    exact d.zeroiseErase_drbgs c
  · rw [Dev.rng_of_noise (Dev.lockActions_noise ..)]
    exact d.zeroiseErase_drbgs c

theorem Dev.zeroise_bbkek : (d.zeroise c src).key.bbkekVal = [] ∧ (d.zeroise c src).key.bbkek ≠ .valid := by
  have h := d.zeroise_lasting c src
  rw [Dev.eraseBbkek_lasting] at h
  refine ⟨congrArg Lasting.bbkekVal h, fun hv => ?_⟩
  have hb : (d.zeroise c src).key.bbkek = if d.lasting.bbkek = .absent then .absent else .erased := congrArg Lasting.bbkek h
  rw [hv] at hb
  split at hb <;> cases hb

end

/-! ### The detection that opens an event (R473, R480) -/

/-- The event of a first detection. -/
def Dev.firstSeen (c : Ctx) (src : Nat) (d : Dev) : AlarmEvent := { st := c.now, stamp := d.stamp c, counts := [(src, 1)] }

/-- The tamper state as a first detection leaves it. -/
def Dev.seenTmp (c : Ctx) (src : Nat) (d : Dev) : Tmp :=
  { d.tmp with
    counts := bumpAt src d.tmp.counts, active := if alarmMomentary src then d.tmp.active else d.tmp.active ||| (1#32 <<< src)
    event := some (d.firstSeen c src), lastSt := d.stamp c, latched := if 2 ≤ d.tmp.classes.getD src 0 then d.tmp.latched ||| (1#32 <<< src) else d.tmp.latched,
    tokenMask := if decide (2 ≤ d.tmp.classes.getD src 0) && !d.tmp.latched.getLsbD src then none else d.tmp.tokenMask }

/-- The device as a first detection leaves it, before its class is carried out. -/
def Dev.seen (c : Ctx) (src : Nat) (d : Dev) : Dev :=
  let e := ({ d with tmp := d.seenTmp c src } : Dev).evtBit Off.tmpEvt 0
  if d.tmp.classes.getD src 0 = 1 then e.setReg Off.tmpNotify (e.reg Off.tmpNotify ||| (1#32 <<< src)) else e

/-- The device with the class of the detection carried out. -/
def Dev.carriedOut (c : Ctx) (src : Nat) (d : Dev) : Dev :=
  if d.tmp.classes.getD src 0 = 3 ∧ (d.tmp.lock = false ∨ d.tmp.zeroised = false) then (d.seen c src).zeroise c ((d.firstSeen c src).lead d.tmp)
  else if d.tmp.classes.getD src 0 = 2 ∧ d.tmp.lock = false then (d.seen c src).lockActions c ((d.firstSeen c src).lead d.tmp) 0x31 else d.seen c src

/-- What a detection outside an open event comes to, its source not latched. -/
theorem Dev.alarm_opens {c : Ctx} {src : Nat} {d : Dev} (he : d.tmp.event = none) (hl : d.tmp.latched.getLsbD src = false) :
    ∃ p, d.alarm c src = (d.carriedOut c src).record c Trig.tamper p := by
  refine ⟨toLe 1 ((d.firstSeen c src).cls d.tmp) ++ toLe 4 (d.firstSeen c src).mask, ?_⟩
  unfold Dev.alarm Dev.carriedOut Dev.seen Dev.seenTmp Dev.firstSeen
  simp only [he, hl, Option.isNone_none, Bool.and_false, Bool.false_eq_true, if_false, if_true]

section
variable (c : Ctx) (src : Nat) (d : Dev)

theorem Dev.seen_keeps : (d.seen c src).tmp = d.seenTmp c src ∧ (d.seen c src).key = d.key ∧ (d.seen c src).cus = d.cus := by
  unfold Dev.seen
  extract_lets e
  have htmp : e.tmp = d.seenTmp c src := Dev.evtBit_tmp ..
  have hkey : e.key = d.key := Dev.evtBit_key ..
  have hcus : e.cus = d.cus := Dev.evtBit_cus ..
  split <;> exact ⟨htmp, hkey, hcus⟩

/-- A first detection is an event. -/
theorem Dev.seen_evt : bit ((d.seen c src).reg Off.tmpEvt) 0 = true := by
  unfold Dev.seen
  dsimp only
  split
  · rw [Dev.reg_setReg_ne _ _ (by decide)]
    exact Dev.evtBit_bit _ _ (by decide)
  · exact Dev.evtBit_bit _ _ (by decide)

theorem Dev.seen_notify (h : d.tmp.classes.getD src 0 = 1) : (d.seen c src).reg Off.tmpNotify = d.reg Off.tmpNotify ||| (1#32 <<< src) := by
  unfold Dev.seen
  rw [if_pos h, Dev.reg_setReg, Dev.evtBit_reg_ne _ _ (by decide)]
  rfl

/-- Whatever its class, a detection is counted and opens its event. -/
theorem Dev.carriedOut_tmp : ∃ a r l z, (d.carriedOut c src).tmp = { d.seenTmp c src with active := a, resume := r, lock := l, zeroised := z } := by
  unfold Dev.carriedOut
  split
  · obtain ⟨a, r, h⟩ := (d.seen c src).zeroise_tmp c ((d.firstSeen c src).lead d.tmp)
    exact ⟨a, r, true, true, by rw [h, (d.seen_keeps c src).1]⟩
  · split
    · obtain ⟨a, h⟩ := (d.seen c src).lockActions_tmp c ((d.firstSeen c src).lead d.tmp) 0x31
      exact ⟨a, false, true, _, by rw [h, (d.seen_keeps c src).1]⟩
    · exact ⟨_, _, _, _, (d.seen_keeps c src).1⟩
theorem Dev.carriedOut_evt : bit ((d.carriedOut c src).reg Off.tmpEvt) 0 = true := by
  unfold Dev.carriedOut
  split
  · exact Dev.zeroise_evt c _ _ (bit_or_left _ (d.seen_evt c src))
  · split
    · rw [Dev.lockActions_tmpEvt]
      exact bit_or_left _ (d.seen_evt c src)
    · exact d.seen_evt c src

end

section
variable {c : Ctx} {src : Nat} {d : Dev}

theorem Dev.carriedOut_minor (h : d.tmp.classes.getD src 0 ≤ 1) : d.carriedOut c src = d.seen c src := by
  unfold Dev.carriedOut
  rw [if_neg (by omega), if_neg (by omega)]

theorem Dev.carriedOut_lock (h : d.tmp.classes.getD src 0 = 2) (hl : d.tmp.lock = false) :
    d.carriedOut c src = (d.seen c src).lockActions c ((d.firstSeen c src).lead d.tmp) 0x31 := by
  unfold Dev.carriedOut
  rw [if_neg (by omega), if_pos ⟨h, hl⟩]

theorem Dev.carriedOut_zeroise (h : d.tmp.classes.getD src 0 = 3) (hl : d.tmp.lock = false ∨ d.tmp.zeroised = false) :
    d.carriedOut c src = (d.seen c src).zeroise c ((d.firstSeen c src).lead d.tmp) := by
  unfold Dev.carriedOut
  rw [if_pos ⟨h, hl⟩]

/-- Class 2 and class 3 leave LOCK in force. -/
theorem Dev.carriedOut_locked (h2 : 2 ≤ d.tmp.classes.getD src 0) (h3 : d.tmp.classes.getD src 0 ≤ 3) : (d.carriedOut c src).tmp.lock = true := by
  unfold Dev.carriedOut
  split
  · obtain ⟨a, r, h⟩ := (d.seen c src).zeroise_tmp c ((d.firstSeen c src).lead d.tmp)
    rw [h]
  · split
    · obtain ⟨a, h⟩ := (d.seen c src).lockActions_tmp c ((d.firstSeen c src).lead d.tmp) 0x31
      rw [h]
    next hz hl =>
      rw [(d.seen_keeps c src).1]
      change d.tmp.lock = true
      by_contra hlock
      have hlock : d.tmp.lock = false := Bool.eq_false_iff.mpr hlock
      rcases (by omega : d.tmp.classes.getD src 0 = 2 ∨ d.tmp.classes.getD src 0 = 3) with hcls | hcls
      · exact hl ⟨hcls, hlock⟩
      · exact hz ⟨hcls, .inl hlock⟩

end

/-! ### On the battery (R482) -/

theorem Dev.battAlarm_spec {src : Nat} (d : Dev) :
    let e := d.battAlarm src
    let cls := d.tmp.classes.getD src 0
    e.regs = d.regs ∧ e.tmp.lock = (d.tmp.lock || decide (2 ≤ cls)) ∧ e.tmp.zeroised = (d.tmp.zeroised || decide (cls = 3)) ∧
      (2 ≤ cls → e.tmp.latched = d.tmp.latched ||| (1#32 <<< src)) ∧ (cls < 2 → e.tmp.latched = d.tmp.latched) ∧
      (cls = 3 → e.key.bbkekVal = [] ∧ e.key.bbkek ≠ .valid) ∧ (cls ≠ 3 → e.key = d.key) := by
  unfold Dev.battAlarm
  dsimp only
  generalize hcls : d.tmp.classes.getD src 0 = cls
  have hz : (d.tmp.zeroised || cls == 3) = (d.tmp.zeroised || decide (cls = 3)) := by rw [beq_eq_decide]
  split
  next h3 =>
    subst h3
    refine ⟨rfl, rfl, hz, fun _ => rfl, fun h => absurd h (by decide), fun _ => ⟨rfl, fun hv => ?_⟩, fun h => absurd rfl h⟩
    change (if d.key.bbkek = .absent then BbkekState.absent else .erased) = .valid at hv
    split at hv <;> cases hv
  next h3 =>
    exact ⟨rfl, rfl, hz, fun h => if_pos h, fun h => if_neg (by omega), fun h => absurd h h3, fun _ => rfl⟩

/-! ### The shroud's patterns (R470) -/

theorem sum_pow_testBit (p0 p1 p2 p3 : Prop) [Decidable p0] [Decidable p1] [Decidable p2] [Decidable p3] :
    let v := BitVec.ofNat 4 ((([if p0 then 0 else 2 ^ 0, if p1 then 0 else 2 ^ 1, if p2 then 0 else 2 ^ 2, if p3 then 0 else 2 ^ 3]).foldl (· + ·) 0))
    (v.getLsbD 0 = true ↔ ¬ p0) ∧ (v.getLsbD 1 = true ↔ ¬ p1) ∧ (v.getLsbD 2 = true ↔ ¬ p2) ∧ (v.getLsbD 3 = true ↔ ¬ p3) := by
  by_cases h0 : p0 <;> by_cases h1 : p1 <;> by_cases h2 : p2 <;> by_cases h3 : p3 <;> simp [h0, h1, h2, h3]

theorem shroudPattern_ne_zero (v : DWord) (k : Nat) : ¬ shroudPattern v k = 0#16 ↔ ∃ i, i < 16 ∧ v.getLsbD (16 * k + i) = true := by
  constructor
  · intro h
    by_contra hn
    push Not at hn
    refine h (BitVec.eq_of_getLsbD_eq fun i hi => ?_)
    simp [shroudPattern, hi, Bool.eq_false_iff.mpr (hn i hi)]
  · rintro ⟨i, hi, hv⟩ h
    have hbit := congrArg (BitVec.getLsbD · i) h
    simp [shroudPattern, hi, hv] at hbit

/-- A pair is bad where its pattern is altered. -/
theorem shroudBad_bit (v : DWord) {k : Nat} (hk : k < 4) : (shroudBad v).getLsbD k = true ↔ ∃ i, i < 16 ∧ v.getLsbD (16 * k + i) = true := by
  obtain ⟨h0, h1, h2, h3⟩ := sum_pow_testBit (shroudPattern v 0 = 0#16) (shroudPattern v 1 = 0#16) (shroudPattern v 2 = 0#16) (shroudPattern v 3 = 0#16)
  rw [← shroudPattern_ne_zero]
  interval_cases k
  · exact h0
  · exact h1
  · exact h2
  · exact h3

/-! ### The monitors (R469, R471, R631) -/

theorem lastsLong_long {lo hi n : Nat} (free : Bool) (h : hi ≤ n) : lastsLong lo hi n free = true := by simp [lastsLong, h]
theorem lastsLong_short {lo hi n : Nat} (free : Bool) (h : n < lo) (hh : lo ≤ hi) : lastsLong lo hi n free = false := by
  have hhi : ¬ hi ≤ n := by omega
  have hlo : ¬ lo ≤ n := by omega
  simp [lastsLong, hhi, hlo]

section
variable (t : Tmp)

theorem sources_lid (ns : Nat) : (40000 ≤ ns → Detection.sources false t (.lid ns) = [2]) ∧ (ns < 20000 → Detection.sources false t (.lid ns) = []) := by
  constructor
  · intro h
    simp only [Detection.sources, Bool.false_eq_true, if_false]
    rw [lastsLong_long _ h]
    rfl
  · intro h
    simp only [Detection.sources, Bool.false_eq_true, if_false]
    rw [lastsLong_short _ h (by decide)]
    rfl
theorem sources_zeroiseReq (ns : Nat) : (1000 ≤ ns → Detection.sources false t (.zeroiseReq ns) = [0x0C]) ∧ (ns ≤ 200 → Detection.sources false t (.zeroiseReq ns) = []) := by
  constructor
  · intro h
    simp only [Detection.sources]
    rw [lastsLong_long _ h]
    rfl
  · intro h
    simp only [Detection.sources]
    rw [lastsLong_short _ (by omega) (by decide)]
    rfl
theorem sources_temps (a b : Nat) : (5 ∈ Detection.sources false t (.temps a b) ↔ a < 432 ∨ 1012 < a ∨ b < 432 ∨ 1012 < b)
    ∧ (4 ∈ Detection.sources false t (.temps a b) ↔ (a + 32 < b ∨ b + 32 < a) ∧ t.tempDiff = true) := by
  constructor
  · simp [Detection.sources, or_assoc]
  · simp [Detection.sources]

end

/-! ### The pattern period, the window and the pair (R470, R480, R484) -/

section
variable {c : Ctx} {d : Dev}

theorem shroudPatternOp_early {altered : DWord} (hp : d.pwr.powered = true) (h : c.now < d.tmp.patternSt + 50000) : shroudPatternOp altered c d = d :=
  if_pos (by simp [Dev.mainPower, hp, nsUs, h])

/-- The state with the next pattern driven. -/
def Dev.nextPattern (c : Ctx) (altered : DWord) (l : DWord) (d : Dev) : Dev :=
  { d with tmp := { d.tmp with lfsr := l, patternSt := c.now, badPattern := shroudBad altered } }

theorem shroudPatternOp_period {altered : DWord} (h : d.pwr.powered = false ∨ d.tmp.patternSt + 50000 ≤ c.now) :
    ∃ l, shroudPatternOp altered c d = if shroudBad altered &&& d.tmp.badPattern = 0#4 then d.nextPattern c altered l
      else if d.pwr.powered then (d.nextPattern c altered l).alarm c 1 else (d.nextPattern c altered l).battAlarm 1 := by
  refine ⟨BitVec.ofNat 64 (Config.freeNat d.tmp.lfsr.toNat 400), ?_⟩
  unfold shroudPatternOp Dev.mainPower
  rw [if_neg (by rcases h with h | h <;> simp [h, nsUs])]
  dsimp only
  rw [ite_not]
  rfl

theorem alarmWindowCloseOp_over {x : AlarmEvent} (hx : d.tmp.event = some x) (hp : d.pwr.powered = true) (h : x.st + 10000 < c.now) :
    ∃ p, alarmWindowCloseOp c d = ({ d with tmp := { d.tmp with event := none } } : Dev).evidenceAt x.stamp false Ev.tamperEvent p := by
  unfold alarmWindowCloseOp
  simp only [hx]
  rw [if_pos (by simp [Dev.mainPower, hp, AlarmEvent.over, nsUs, h]), Dev.closeEvent]
  simp only [hx]
  exact ⟨_, rfl⟩

theorem alarmWindowCloseOp_open {x : AlarmEvent} (hx : d.tmp.event = some x) (h : c.now ≤ x.st + 10000) : alarmWindowCloseOp c d = d := by
  unfold alarmWindowCloseOp
  simp only [hx]
  exact if_neg (by simp [AlarmEvent.over, nsUs, h])

theorem rtcPairTimerOp_due (hp : d.pwr.powered = true) (h : d.tmp.pair = none ∨ d.tmp.pairSt + 1000000000 ≤ c.now) : rtcPairTimerOp c d = d.storePair c :=
  if_pos (by rcases h with h | h <;> simp [Dev.mainPower, hp, nsS, h])
theorem rtcPairTimerOp_early (hn : d.tmp.pair ≠ none) (h : c.now < d.tmp.pairSt + 1000000000) : rtcPairTimerOp c d = d :=
  if_neg (by simp [nsS, h, hn])
theorem Dev.storePair_valid (h : d.tim.state = .acquiring ∨ d.tim.state = .locked ∨ d.tim.state = .holdover) :
    d.storePair c = { d with tmp := { d.tmp with pair := some (c.now, d.tmp.rtc), pairSt := c.now } } := by
  rcases h with h | h | h <;> simp only [Dev.storePair, h]
theorem Dev.storePair_invalid (h : d.tim.state = .unset ∨ d.tim.state = .freeRun) : d.storePair c = d := by
  rcases h with h | h <;> simp only [Dev.storePair, h]

end

/-- Settles O44, the class of a detection by `Dev.carriedOut`. -/
theorem tamperResponses : Obligations.TamperResponses := by
  intro s
  refine ⟨fun hp det => ?_, ⟨fun ns => sources_lid _ ns, fun a b => ?_, fun a b => sources_temps _ a b, fun mv ns => ?_, fun rail mv ns hr => ?_, fun hz gap => ?_,
      fun ppm => ?_, fun x => rfl, rfl, fun ns => sources_zeroiseReq _ ns, fun mv ms => ?_, fun us => ?_⟩,
    fun src _ he hl => ?_, fun src hs => ?_, fun x hx hp => ⟨fun h => ?_, fun h => ?_⟩, fun altered => ⟨fun k hk => shroudBad_bit altered hk, fun hp h => ?_, fun h => ?_⟩,
    fun v hm => ?_, fun det => ⟨fun hp => ?_, fun hp => ?_⟩, fun src _ => s.dev.battAlarm_spec, fun hp h => ⟨fun hv => ?_, fun hv => ?_⟩, fun hp hn h => ?_⟩
  · exact onDev_gives (f := alarmDetectionOp det) (if_pos hp)
  · rfl
  · simp [Detection.sources]
  · simp [Detection.sources, hr]
  · simp [Detection.sources]
  · simp [Detection.sources]
  · simp [Detection.sources]
  · simp [Detection.sources]
  · obtain ⟨p, halarm⟩ := Dev.alarm_opens (c := s.ctx) he hl
    obtain ⟨a, r, l, z, htmp⟩ := s.dev.carriedOut_tmp s.ctx src
    obtain ⟨hstmp, hskey, hscus⟩ := s.dev.seen_keeps s.ctx src
    have hevt : ((s.dev.carriedOut s.ctx src).record s.ctx Trig.tamper p).reg Off.tmpEvt = (s.dev.carriedOut s.ctx src).reg Off.tmpEvt := Dev.record_reg_ne _ _ _ _ (by decide) (by decide)
    simp only [halarm, Dev.record_tmp, Dev.record_key, Dev.record_cus, Dev.record_rng, hevt]
    refine ⟨by rw [htmp]; rfl, ⟨_, by rw [htmp]; rfl, rfl, rfl⟩, s.dev.carriedOut_evt s.ctx src, fun h => ?_, fun h => ?_, fun h2 h3 => ⟨Dev.carriedOut_locked h2 h3, ?_⟩,
      fun h hlock => ?_, fun h hlock => ?_⟩
    · rw [Dev.carriedOut_minor h, hstmp, hskey, hscus]
      exact ⟨rfl, rfl, if_neg (by omega), rfl, rfl⟩
    · rw [Dev.record_reg_ne _ _ _ _ (by decide) (by decide), Dev.carriedOut_minor (by omega)]
      exact Dev.seen_notify _ _ _ h
    · rw [htmp]
      exact if_pos h2
    · rw [Dev.carriedOut_lock h hlock]
      obtain ⟨a, hltmp⟩ := (s.dev.seen s.ctx src).lockActions_tmp s.ctx ((s.dev.firstSeen s.ctx src).lead s.dev.tmp) 0x31
      refine ⟨by rw [hltmp, hstmp]; rfl, ?_, fun n k hn hk hns hcls => ?_⟩
      · rw [Dev.lockActions_tmpEvt, ← Dev.evtBit_reg]
        exact Dev.evtBit_bit _ _ (by decide)
      · have hcer : (s.dev.seen s.ctx src).HasCer n k := Dev.HasCer.of_cers (d := s.dev) hk (congrArg Cus.cers hscus)
        have hended := (hcer.lockActions s.ctx ((s.dev.firstSeen s.ctx src).lead s.dev.tmp) 0x31 hn hns hcls).of_cers
          (e := ((s.dev.seen s.ctx src).lockActions s.ctx ((s.dev.firstSeen s.ctx src).lead s.dev.tmp) 0x31).record s.ctx Trig.tamper p) (congrArg Cus.cers (Dev.record_cus ..))
        rw [hended.cer]
        exact ⟨rfl, rfl⟩
    · rw [Dev.carriedOut_zeroise h hlock]
      obtain ⟨a, r, hztmp⟩ := (s.dev.seen s.ctx src).zeroise_tmp s.ctx ((s.dev.firstSeen s.ctx src).lead s.dev.tmp)
      obtain ⟨hval, hbbkek⟩ := (s.dev.seen s.ctx src).zeroise_bbkek s.ctx ((s.dev.firstSeen s.ctx src).lead s.dev.tmp)
      refine ⟨by rw [hztmp], hval, hbbkek, Dev.zeroise_cache .., Dev.zeroise_drbgs _ _ _, Dev.zeroise_evt _ _ _ ?_⟩
      rw [← Dev.evtBit_reg]
      exact Dev.evtBit_bit _ _ (by decide)
  · exact onDev_gives (f := alarmSourceClearOp src) (if_pos hs)
  · obtain ⟨p, hp⟩ := alarmWindowCloseOp_over (c := s.ctx) hx hp h
    exact ⟨p, onDev_gives hp⟩
  · exact onDev_idle (alarmWindowCloseOp_open hx h)
  · exact onDev_idle (f := shroudPatternOp altered) (shroudPatternOp_early hp h)
  · obtain ⟨l, hl⟩ := shroudPatternOp_period (c := s.ctx) (altered := altered) h
    exact ⟨l, onDev_gives (f := shroudPatternOp altered) hl⟩
  · by_cases hv : v = 0x2E500001#32
    · rw [if_pos hv]
      exact onDev_took (f := fun c => tmpCmdW c v) hm (by decide) (if_pos hv)
    · rw [if_neg hv]
      exact onDev_idle (f := fun c d => d.hostWrite c Off.tmpCmd (tmpCmdW c v)) (hostWrite_own_drop hm (by decide) (if_neg hv))
  · exact onDev_idle (f := batteryAlarmOp det) (if_pos hp)
  · exact onDev_gives (f := batteryAlarmOp det) (if_neg (by simp [Dev.mainPower, hp]))
  · exact onDev_gives ((rtcPairTimerOp_due hp h).trans (Dev.storePair_valid hv))
  · exact onDev_idle ((rtcPairTimerOp_due hp h).trans (Dev.storePair_invalid hv))
  · exact onDev_idle (rtcPairTimerOp_early hn h)

end Sys2Proof.Machine

/-! Witness swaps, pair commands and the copy (R428 to R430, R434, R435, R437 to R439, R443). -/

namespace Sys2Proof.Machine

/-! ### What stays sent, and what stays reported in FAB_EVT -/

/-- What was sent stays sent, and what FAB_EVT reports stays reported. -/
structure Dev.Reports (d e : Dev) : Prop where
  sent : ∀ t ∈ d.tx, t ∈ e.tx
  evt  : ∀ i, bit (d.reg Off.fabEvt) i = true → bit (e.reg Off.fabEvt) i = true

theorem Dev.Reports.refl (d : Dev) : d.Reports d := ⟨fun _ h => h, fun _ h => h⟩
theorem Dev.Reports.trans {a b c : Dev} (h : a.Reports b) (g : b.Reports c) : a.Reports c := ⟨fun t ht => g.sent t (h.sent t ht), fun i hi => g.evt i (h.evt i hi)⟩
theorem Dev.Reports.of_eq {d e : Dev} (ht : e.tx = d.tx) (hr : e.regs = d.regs) : d.Reports e :=
  ⟨fun t h => by rw [ht]; exact h, fun i h => by rw [Dev.reg, hr]; exact h⟩
/-- Work on items changes no register of the fabric. -/
theorem Dev.Passes.reports {d e : Dev} (h : d.Passes e) : d.Reports e := ⟨h.sent, fun i hi => by rw [h.reg _ (by decide)]; exact hi⟩

theorem foldl_reports {α : Type} (f : Dev → α → Dev) (h : ∀ a i, Dev.Reports a (f a i)) (l : List α) (d : Dev) : d.Reports (l.foldl f d) := by
  induction l generalizing d with
  | nil => exact .refl d
  | cons i l ih => exact (h d i).trans (ih _)

section
variable (c : Ctx) (d : Dev)

theorem Dev.evtBit_reports (off i : Nat) : d.Reports (d.evtBit off i) := by
  refine ⟨fun _ h => Dev.evtBit_sent _ off i h, fun j h => ?_⟩
  by_cases ho : Off.fabEvt = off
  · subst ho
    exact Dev.evtBit_keeps_bit i h
  · rw [Dev.evtBit_reg_ne _ _ ho]
    exact h
theorem Dev.emit_reports (t : Tx) : d.Reports (d.emit t) := ⟨fun _ h => List.mem_cons_of_mem _ h, fun _ h => h⟩
theorem Dev.onPair_reports (f : Pair → Pair) : d.Reports (d.onPair f) := .of_eq rfl rfl
theorem Dev.record_reports (t : Nat) (p : Bytes) : d.Reports (d.record c t p) :=
  ⟨fun _ h => Dev.record_sent _ c t p h, fun i h => by rw [Dev.record_reg_ne _ _ _ _ (by decide) (by decide)]; exact h⟩
theorem Dev.sendPeer_reports (n k m : Nat) (p : Bytes) : d.Reports (d.sendPeer n k m p) := (Dev.sendPeer_passes d n k m p).reports
theorem Dev.changeDone_reports (w : MirrorOf) : d.Reports (d.changeDone w) := by
  unfold Dev.changeDone Dev.hifEvent
  split
  · refine Dev.Reports.trans ?_ (Dev.evtBit_reports ..)
    exact .of_eq rfl rfl
  · exact Dev.evtBit_reports ..
  · split
    · exact Dev.evtBit_reports ..
    · exact .refl d
  all_goals exact .refl d
theorem Dev.changesAll_reports : d.Reports d.changesAll := by
  unfold Dev.changesAll
  refine Dev.Reports.trans ?_ (foldl_reports _ (fun a (w : MirrorChange) => a.changeDone_reports w.of) _ _)
  exact .of_eq rfl rfl
theorem Dev.pairEnd_reports (r : Nat) : d.Reports (d.pairEnd r) := (d.onPair_reports _).trans (Dev.evtBit_reports ..)
theorem Dev.handoverFail_reports : d.Reports d.handoverFail := by
  unfold Dev.handoverFail
  dsimp only
  split
  · split
    · exact (d.onPair_reports _).trans (Dev.pairEnd_reports ..)
    · exact d.onPair_reports _
  · exact .refl d

/-! ### A change of role (R429, R504) -/

/-- A change of role, before the event of the new role. -/
def Dev.reroled (c : Ctx) (r : Role) (d : Dev) : Dev :=
  let d1 := { d with fab := { d.fab with pair := { d.fab.pair with role := r } } }
  (if d1.fab.pair.changes.isEmpty then d1 else d1.changesAll).record c Trig.pairRole (toLe 1 d.fab.pair.role.code ++ toLe 1 r.code ++ toLe 6 d.fab.pair.epoch)

theorem Dev.toRole_eq (r : Role) : d.toRole c r = if d.fab.pair.role = r then d else match r with
    | .activeAlone => (d.reroled c r).evtBit Off.fabEvt 5
    | .fenced => (d.reroled c r).evtBit Off.fabEvt 6
    | _ => d.reroled c r := by
  cases r <;> rfl

theorem Dev.reroled_reports (r : Role) : d.Reports (d.reroled c r) := by
  unfold Dev.reroled
  refine Dev.Reports.trans ?_ (Dev.record_reports ..)
  split
  · exact .of_eq rfl rfl
  · refine Dev.Reports.trans ?_ (Dev.changesAll_reports _)
    exact .of_eq rfl rfl
theorem Dev.toRole_reports (r : Role) : d.Reports (d.toRole c r) := by
  rw [Dev.toRole_eq]
  split
  · exact .refl d
  · cases r with
    | activeAlone | fenced => exact (d.reroled_reports c _).trans (Dev.evtBit_reports ..)
    | unpaired | syncing | standby | active => exact d.reroled_reports c _

/-- A part of the state that the change leaves alone. -/
theorem Dev.toRole_keeps {β : Type} (g : Dev → β) (hrole : ∀ (a : Dev) p, g { a with fab := { a.fab with pair := p } } = g a) (hdone : ∀ (a : Dev) w, g (a.changeDone w) = g a)
    (hrec : ∀ (a : Dev) t p, g (a.record c t p) = g a) (hevt : ∀ (a : Dev) off i, g (a.evtBit off i) = g a) (r : Role) : g (d.toRole c r) = g d := by
  have hre : g (d.reroled c r) = g d := by
    unfold Dev.reroled
    rw [hrec]
    split
    · exact hrole d _
    · exact (foldl_keep g _ (fun a (w : MirrorChange) => hdone a w.of) _ _).trans ((hrole _ _).trans (hrole d _))
  rw [Dev.toRole_eq]
  split
  · rfl
  · cases r with
    | activeAlone | fenced => exact (hevt ..).trans hre
    | unpaired | syncing | standby | active => exact hre

theorem Dev.changeDone_rings (w : MirrorOf) : (d.changeDone w).hif.rings = d.hif.rings := by
  unfold Dev.changeDone
  split
  · exact Dev.hifEvent_rings ..
  · rw [Dev.evtBit_rings]
  · split
    · rw [Dev.evtBit_rings]
    · rfl
  all_goals rfl
theorem Dev.changeDone_ddt (w : MirrorOf) : (d.changeDone w).ddt = d.ddt := by
  unfold Dev.changeDone
  split
  · exact Dev.hifEvent_ddt ..
  · exact Dev.evtBit_ddt ..
  · split
    · exact Dev.evtBit_ddt ..
    · rfl
  all_goals rfl
theorem Dev.toRole_rings (r : Role) : (d.toRole c r).hif.rings = d.hif.rings :=
  d.toRole_keeps c (fun a => a.hif.rings) (fun _ _ => rfl) Dev.changeDone_rings (fun a t p => by rw [Dev.record_rings]) (fun a off i => by rw [Dev.evtBit_rings]) r
theorem Dev.toRole_ddt (r : Role) : (d.toRole c r).ddt = d.ddt :=
  d.toRole_keeps c Dev.ddt (fun _ _ => rfl) Dev.changeDone_ddt (fun _ _ _ => Dev.record_ddt ..) (fun _ _ _ => Dev.evtBit_ddt ..) r

/-- ACTIVE_ALONE is an event on entry. -/
theorem Dev.toRole_alone_evt (h : d.fab.pair.role ≠ .activeAlone) : bit ((d.toRole c .activeAlone).reg Off.fabEvt) 5 = true := by
  rw [Dev.toRole_eq, if_neg h]
  exact Dev.evtBit_bit _ _ (by decide)

/-! ### The end of a command -/

theorem Dev.pairEnd_pair (r : Nat) : (d.pairEnd r).fab.pair = { d.fab.pair with cmdBusy := false, cmdResult := r } := by
  unfold Dev.pairEnd
  rw [Dev.evtBit_fab]
  rfl
theorem Dev.pairEnd_evt (r : Nat) : bit ((d.pairEnd r).reg Off.fabEvt) 11 = true := Dev.evtBit_bit _ _ (by decide)
theorem Dev.pairEnd_jnl (r : Nat) : (d.pairEnd r).jnl = d.jnl := by
  unfold Dev.pairEnd
  rw [Dev.evtBit_jnl]
  rfl
theorem Dev.pairEnd_rings (r : Nat) : (d.pairEnd r).hif.rings = d.hif.rings := by
  unfold Dev.pairEnd
  rw [Dev.evtBit_rings]
  rfl

/-! ### Re-dispatch and takeover (R112, R113, R435) -/

theorem Dev.abandonAll_reports : d.Reports (d.abandonAll c) := (foldl_passes _ (fun a i => Dev.goBack_passes a c (Item.slot i) true) _ d).reports

/-- The flow of an item joins the table, where there is room. -/
theorem Dev.flowInsert_getD (f : Nat × Nat) : ((d.flowInsert c f).getD d).tx = d.tx ∧ ((d.flowInsert c f).getD d).regs = d.regs ∧ ((d.flowInsert c f).getD d).fab = d.fab := by
  unfold Dev.flowInsert
  dsimp only
  split
  · exact ⟨rfl, rfl, rfl⟩
  · split <;> exact ⟨rfl, rfl, rfl⟩

/-- Work that leaves the pair as it is. -/
structure Dev.Carries (d e : Dev) : Prop where
  pair    : e.fab.pair = d.fab.pair
  reports : d.Reports e

omit c d in
theorem Dev.Carries.refl (d : Dev) : d.Carries d := ⟨rfl, .refl d⟩
omit c d in
theorem Dev.Carries.trans {a b c : Dev} (h : a.Carries b) (g : b.Carries c) : a.Carries c := ⟨g.pair.trans h.pair, h.reports.trans g.reports⟩
omit c d in
theorem foldl_carries {α : Type} (f : Dev → α → Dev) (h : ∀ a i, Dev.Carries a (f a i)) (l : List α) (d : Dev) : d.Carries (l.foldl f d) := by
  induction l generalizing d with
  | nil => exact .refl d
  | cons i l ih => exact (h d i).trans (ih _)

theorem Dev.afterAccept_carries (k : Nat) : d.Carries (d.afterAccept c k) := ⟨congrArg Steady.pair (d.afterAccept_steady c k), (d.afterAccept_passes c k).reports⟩
theorem Dev.abandonAll_carries : d.Carries (d.abandonAll c) := ⟨congrArg Steady.pair (d.abandonAll_steady c), d.abandonAll_reports c⟩
theorem Dev.redispatch_carries : d.Carries (d.redispatch c) := by
  have hflow : ∀ (a : Dev) (i : Item), a.Carries (match i.flow? with | some k => (a.flowInsert c k).getD a | none => a) := fun a i => by
    split
    next k _ =>
      obtain ⟨htx, hregs, hfab⟩ := a.flowInsert_getD c k
      exact ⟨congrArg Fab.pair hfab, .of_eq htx hregs⟩
    next => exact .refl a
  unfold Dev.redispatch
  dsimp only
  refine Dev.Carries.trans (Dev.Carries.trans ?_ (foldl_carries _ hflow _ _)) (foldl_carries _ (fun a i => a.afterAccept_carries c (Item.slot i)) _ _)
  refine (d.abandonAll_carries c).trans ?_
  exact ⟨rfl, .of_eq rfl rfl⟩
theorem Dev.readSlot_carries (x : CqSlot) : d.Carries (d.readSlot c x) := by
  unfold Dev.readSlot Dev.retire
  dsimp only
  split
  · exact .refl d
  · split
    · exact ⟨rfl, .of_eq rfl rfl⟩
    · split <;> split <;> exact ⟨rfl, .of_eq rfl rfl⟩
/-- TAKEOVER leaves the pair as it is, and reports itself. -/
theorem Dev.takeover_carries (slots : List CqSlot) : d.Carries (d.takeover c slots) := by
  have hevt : ∀ a : Dev, a.Carries (a.evtBit Off.fabEvt 4) := fun a => ⟨by rw [Dev.evtBit_fab], Dev.evtBit_reports ..⟩
  unfold Dev.takeover
  dsimp only
  refine Dev.Carries.trans (Dev.Carries.trans (Dev.Carries.trans ?_ (foldl_carries _ (fun a x => a.readSlot_carries c x) slots _)) (Dev.redispatch_carries c _)) (hevt _)
  exact ⟨rfl, .of_eq rfl rfl⟩
theorem Dev.takeover_evt (slots : List CqSlot) : bit ((d.takeover c slots).reg Off.fabEvt) 4 = true := Dev.evtBit_bit _ _ (by decide)

theorem Dev.mirrorDone_carries (k : Nat) : d.Carries (d.mirrorDone c k) := by
  unfold Dev.mirrorDone
  split
  · exact .refl d
  next w _ =>
    dsimp only
    generalize he : Dev.updRing w.slice w.ring _ _ = e
    have h2 : d.Carries e := by
      rw [← he]
      exact ⟨rfl, .of_eq rfl rfl⟩
    split
    · exact h2
    · split
      · exact h2
      · split
        · exact h2.trans (Dev.afterAccept_carries ..)
        · exact h2
omit d in
theorem Dev.mirrorAll_carries (n : Nat) (d : Dev) : d.Carries (d.mirrorAll c n) := by
  induction n generalizing d with
  | zero => exact .refl d
  | succ n ih =>
    unfold Dev.mirrorAll
    split
    · exact .refl d
    · exact (Dev.mirrorDone_carries ..).trans (ih _)

/-! ### Messages to the partner -/

theorem Dev.sendLinks_carries (ports : List Nat) (kind : Nat) (payload : Bytes) : d.Carries (d.sendLinks ports kind payload) := by
  have hsent : ∀ (l : List Nat) (q : Nat) (a : Dev), ∀ t ∈ a.tx, t ∈ (l.foldl (fun (a : Dev) p => a.sendSealed (some p) q 1 (toLe 1 kind ++ payload)) a).tx := by
    intro l q
    induction l with
    | nil => exact fun _ _ h => h
    | cons p l ih => exact fun a t h => ih _ t (Dev.sendSealed_sent _ _ _ _ h)
  refine ⟨Dev.sendLinks_pair .., ?_, fun i h => by rw [Dev.reg, Dev.sendLinks_regs]; exact h⟩
  unfold Dev.sendLinks
  split
  · exact fun _ h => h
  · exact hsent _ _ d
theorem Dev.mirrorSend_carries (kind : Nat) (payload : Bytes) : d.Carries (d.mirrorSend kind payload) :=
  ⟨congrArg Steady.pair (Dev.sendPeer_steady ..), Dev.sendPeer_reports ..⟩
theorem Dev.sendCopy_carries : d.Carries d.sendCopy := by
  unfold Dev.sendCopy
  extract_lets d1 d2 d3 d4 d5 d6
  have h1 : d.Carries d1 := foldl_carries _ (fun a (m : Domain) => a.mirrorSend_carries _ _) _ d
  have h2 : d1.Carries d2 := foldl_carries _ (fun a (s : Slot) => a.mirrorSend_carries _ _) _ d1
  have h3 : d2.Carries d3 := foldl_carries _ (fun a (s : Slice) => a.mirrorSend_carries _ _) _ d2
  have h4 : d3.Carries d4 := foldl_carries _ (fun a (r : Ring) => a.mirrorSend_carries _ _) _ d3
  have h5 : d4.Carries d5 := foldl_carries _ (fun a (r : Rec) => a.mirrorSend_carries _ _) _ d4
  have h6 : d5.Carries d6 := (foldl_carries _ (fun a (e : DdtEntry) => a.mirrorSend_carries _ _) _ d5).trans (Dev.mirrorSend_carries ..)
  exact (((((h1.trans h2).trans h3).trans h4).trans h5).trans h6).trans (foldl_carries _ (fun a (r : Repl) => a.mirrorSend_carries _ _) _ d6)

/-! ### SYNCING is entered (R430, R438) -/

theorem Dev.request_2_reports (n len : Nat) (x : Bytes) : d.Reports (d.request c n len x).2 := by
  have htx : ∀ e : Dev, (e.dueReseed c n).tx = e.tx := fun e => by
    unfold Dev.dueReseed
    dsimp only
    split
    · split <;> rfl
    · rfl
  refine ⟨fun t ht => ?_, fun i h => by rw [Dev.request_2_reg_ne _ _ _ _ _ (by decide)]; exact h⟩
  unfold Dev.request
  dsimp only
  split
  · refine Dev.evtBit_sent _ _ _ ?_
    change t ∈ (Dev.dueReseed c n _).tx
    rw [htx]
    exact ht
  · change t ∈ (Dev.dueReseed c n _).tx
    rw [htx]
    exact ht
theorem Dev.startDdt_reports : d.Reports (d.startDdt c) := by
  have hstall : d.Reports (d.ddtStallEnd c) := by
    unfold Dev.ddtStallEnd
    split
    · exact .refl d
    · refine Dev.Reports.trans (Dev.Reports.trans ?_ (Dev.evtBit_reports ..)) (Dev.record_reports ..)
      exact .of_eq rfl rfl
  have hempty : (d.ddtStallEnd c).Reports (d.ddtStallEnd c).emptyTable := .of_eq rfl rfl
  have hkeys : ∀ (e : Dev) (x : DWord × Dev), e.Reports x.2 → e.Reports { x.2 with ddt := { x.2.ddt with hashKey := x.1.toNat } } := fun _ _ h => ⟨h.sent, h.evt⟩
  refine hstall.trans ?_
  unfold Dev.startDdt
  dsimp only
  split
  · exact hempty.trans (hkeys _ ((d.ddtStallEnd c).emptyTable.mgmtNonce c) (Dev.request_2_reports c (d.ddtStallEnd c).emptyTable 12 8 []))
  · exact hempty
theorem Dev.eraseMirrored_eq : ∃ e : Dev, d.eraseMirrored c = e.startDdt c ∧ e.tx = d.tx ∧ e.regs = d.regs ∧ e.fab = d.fab ∧ e.jnl.recs = [] ∧ ∀ r ∈ e.hif.rings, r.state = .absent := by
  refine ⟨_, rfl, rfl, rfl, rfl, rfl, fun r hr => ?_⟩
  obtain ⟨x, -, rfl⟩ := List.mem_map.mp hr
  rfl
theorem Dev.eraseMirrored_spec : (d.eraseMirrored c).fab = d.fab ∧ (d.eraseMirrored c).jnl.recs = [] ∧ (∀ r ∈ (d.eraseMirrored c).hif.rings, r.state = .absent) ∧ d.Reports (d.eraseMirrored c) := by
  obtain ⟨e, he, htx, hregs, hfab, hrecs, hrings⟩ := d.eraseMirrored_eq c
  have hhead := e.startDdt_head c
  have hjnl : (e.startDdt c).jnl = e.jnl := congrArg Head.jnl hhead
  have hhif : (e.startDdt c).hif.rings = e.hif.rings := congrArg Head.rings hhead
  rw [he, hjnl, hhif]
  exact ⟨(congrArg Head.fab hhead).trans hfab, hrecs, hrings, (Dev.Reports.of_eq htx hregs).trans (e.startDdt_reports c)⟩
theorem Dev.startSync_pair : ∃ l, (d.startSync c).fab.pair = { d.fab.pair with role := .syncing, changes := l, syncPct := 0, nextSeq := 0, swap := none, swapDue := none, heard := c.now } := by
  obtain ⟨⟨l, hpair⟩, -⟩ := (d.eraseMirrored c).toRole_pair c .syncing
  exact ⟨l, by rw [Dev.startSync, Dev.onPair_pair, hpair, (d.eraseMirrored_spec c).1]⟩
theorem Dev.startSync_reports : d.Reports (d.startSync c) :=
  ((d.eraseMirrored_spec c).2.2.2.trans (Dev.toRole_reports ..)).trans (Dev.onPair_reports ..)

end

/-! ### A swap that was won (R428, R430, R435) -/

/-- The epoch, the holder and the swap that is out are the same. -/
def Dev.SameEpoch (d e : Dev) : Prop := e.fab.pair.epoch = d.fab.pair.epoch ∧ e.fab.pair.holder = d.fab.pair.holder ∧ e.fab.pair.swap = d.fab.pair.swap

theorem Dev.SameEpoch.refl (d : Dev) : d.SameEpoch d := ⟨rfl, rfl, rfl⟩
theorem Dev.SameEpoch.trans {a b c : Dev} (h : a.SameEpoch b) (g : b.SameEpoch c) : a.SameEpoch c := ⟨g.1.trans h.1, g.2.1.trans h.2.1, g.2.2.trans h.2.2⟩
theorem Dev.Carries.sameEpoch {d e : Dev} (h : d.Carries e) : d.SameEpoch e := by
  unfold Dev.SameEpoch
  rw [h.pair]
  exact ⟨rfl, rfl, rfl⟩

section
variable (c : Ctx) (d : Dev)

theorem Dev.toRole_sameEpoch (r : Role) : d.SameEpoch (d.toRole c r) := by
  obtain ⟨⟨l, hpair⟩, -⟩ := d.toRole_pair c r
  unfold Dev.SameEpoch
  rw [hpair]
  exact ⟨rfl, rfl, rfl⟩
theorem Dev.toRole_role (r : Role) : (d.toRole c r).fab.pair.role = r := by
  obtain ⟨⟨l, hpair⟩, -⟩ := d.toRole_pair c r
  rw [hpair]
theorem Dev.pairEnd_sameEpoch (r : Nat) : d.SameEpoch (d.pairEnd r) := by
  unfold Dev.SameEpoch
  rw [Dev.pairEnd_pair]
  exact ⟨rfl, rfl, rfl⟩
theorem Dev.onPair_sameEpoch (f : Pair → Pair) (h : ∀ p, (f p).epoch = p.epoch ∧ (f p).holder = p.holder ∧ (f p).swap = p.swap) : d.SameEpoch (d.onPair f) := h d.fab.pair
theorem Dev.handoverFail_sameEpoch : d.SameEpoch d.handoverFail := by
  have hfail := d.onPair_sameEpoch (fun p => { p with handing := false, selfDemote := false }) (fun _ => ⟨rfl, rfl, rfl⟩)
  unfold Dev.handoverFail
  dsimp only
  split
  · split
    · exact hfail.trans (Dev.pairEnd_sameEpoch ..)
    · exact hfail
  · exact .refl d

/-- The next epoch, held by this device. -/
def Dev.nextEpoch (c : Ctx) (d : Dev) : Dev :=
  d.onPair (fun p => { p with swap := none, swapDue := none, epoch := p.epoch + 1, holder := d.nodeId, lastAcked := c.now, leaseEnd := c.now + 160 * nsUs })

theorem Dev.swapWon_sameEpoch (k : SwapFor) (slots : List CqSlot) : (d.nextEpoch c).SameEpoch (d.swapWon c k slots) := by
  unfold Dev.swapWon
  dsimp only
  change (d.nextEpoch c).SameEpoch (match k, d.fab.pair.role with
    | .activate, .unpaired => ((d.nextEpoch c).toRole c .activeAlone).pairEnd 0
    | .alone, .active | .alone, .fenced => (((d.nextEpoch c).handoverFail).toRole c .activeAlone).mirrorAll c (((d.nextEpoch c).handoverFail).toRole c .activeAlone).jnl.mirrorWait.length
    | .takeover, .standby => ((d.nextEpoch c).toRole c .activeAlone).takeover c slots
    | .handover, .standby => ((d.nextEpoch c).toRole c .active).takeover c slots
    | .recover, .fenced => ((d.nextEpoch c).toRole c .activeAlone).redispatch c
    | _, _ => d.nextEpoch c)
  generalize d.nextEpoch c = e
  have halone : e.SameEpoch ((e.handoverFail.toRole c .activeAlone).mirrorAll c (e.handoverFail.toRole c .activeAlone).jnl.mirrorWait.length) :=
    (e.handoverFail_sameEpoch.trans (Dev.toRole_sameEpoch ..)).trans (Dev.mirrorAll_carries ..).sameEpoch
  split
  · exact (e.toRole_sameEpoch c _).trans (Dev.pairEnd_sameEpoch ..)
  · exact halone
  · exact halone
  · exact (e.toRole_sameEpoch c _).trans (Dev.takeover_carries ..).sameEpoch
  · exact (e.toRole_sameEpoch c _).trans (Dev.takeover_carries ..).sameEpoch
  · exact (e.toRole_sameEpoch c _).trans (Dev.redispatch_carries ..).sameEpoch
  · exact .refl e

variable {c d}

/-- Work after ACTIVE_ALONE is entered keeps the role and its event. -/
theorem Dev.Carries.alone {e f : Dev} (h : (e.toRole c .activeAlone).Carries f) (hr : e.fab.pair.role ≠ .activeAlone) :
    f.fab.pair.role = .activeAlone ∧ bit (f.reg Off.fabEvt) 5 = true :=
  ⟨by rw [h.pair]; exact e.toRole_role c _, h.reports.evt 5 (Dev.toRole_alone_evt c e hr)⟩

/-- ACTIVATE, a takeover, an ACTIVE gone alone and a recovery end in ACTIVE_ALONE. -/
theorem Dev.swapWon_alone {k : SwapFor} (slots : List CqSlot) (h : (k = .activate ∧ d.fab.pair.role = .unpaired) ∨ (k = .takeover ∧ d.fab.pair.role = .standby)
    ∨ (k = .alone ∧ (d.fab.pair.role = .active ∨ d.fab.pair.role = .fenced)) ∨ (k = .recover ∧ d.fab.pair.role = .fenced)) :
    (d.swapWon c k slots).fab.pair.role = .activeAlone ∧ bit ((d.swapWon c k slots).reg Off.fabEvt) 5 = true := by
  have hrole : (d.nextEpoch c).fab.pair.role = d.fab.pair.role := rfl
  have hne : d.fab.pair.role ≠ .activeAlone := by
    rcases h with ⟨-, h⟩ | ⟨-, h⟩ | ⟨-, h | h⟩ | ⟨-, h⟩ <;> rw [h] <;> decide
  have halone : ∀ n, (((d.nextEpoch c).handoverFail.toRole c .activeAlone).mirrorAll c n).fab.pair.role = .activeAlone
      ∧ bit ((((d.nextEpoch c).handoverFail.toRole c .activeAlone).mirrorAll c n).reg Off.fabEvt) 5 = true := fun n =>
    (Dev.mirrorAll_carries c n _).alone (by rw [Dev.handoverFail_role]; exact hne)
  rcases h with ⟨rfl, h⟩ | ⟨rfl, h⟩ | ⟨rfl, h | h⟩ | ⟨rfl, h⟩
  · have hwon : d.swapWon c .activate slots = ((d.nextEpoch c).toRole c .activeAlone).pairEnd 0 := by
      simp only [Dev.swapWon, h]
      rfl
    rw [hwon, Dev.pairEnd_pair]
    exact ⟨Dev.toRole_role .., (Dev.pairEnd_reports _ 0).evt 5 (Dev.toRole_alone_evt c _ hne)⟩
  · have hwon : d.swapWon c .takeover slots = ((d.nextEpoch c).toRole c .activeAlone).takeover c slots := by
      simp only [Dev.swapWon, h]
      rfl
    rw [hwon]
    exact (Dev.takeover_carries ..).alone hne
  · simp only [Dev.swapWon, h]
    exact halone _
  · simp only [Dev.swapWon, h]
    exact halone _
  · have hwon : d.swapWon c .recover slots = ((d.nextEpoch c).toRole c .activeAlone).redispatch c := by
      simp only [Dev.swapWon, h]
      rfl
    rw [hwon]
    exact (Dev.redispatch_carries ..).alone hne

/-- A handover ends in ACTIVE. -/
theorem Dev.swapWon_handover (slots : List CqSlot) (h : d.fab.pair.role = .standby) :
    (d.swapWon c .handover slots).fab.pair.role = .active ∧ bit ((d.swapWon c .handover slots).reg Off.fabEvt) 4 = true := by
  have hwon : d.swapWon c .handover slots = ((d.nextEpoch c).toRole c .active).takeover c slots := by
    simp only [Dev.swapWon, h]
    rfl
  rw [hwon, (Dev.takeover_carries c _ slots).pair]
  exact ⟨Dev.toRole_role .., Dev.takeover_evt ..⟩
theorem Dev.swapWon_takeover_evt (slots : List CqSlot) (h : d.fab.pair.role = .standby) : bit ((d.swapWon c .takeover slots).reg Off.fabEvt) 4 = true := by
  simp only [Dev.swapWon, h]
  exact Dev.takeover_evt ..

/-! ### A swap that was lost (R430, R431) -/

/-- No swap is out. -/
def Dev.unswapped (d : Dev) : Dev := d.onPair (fun p => { p with swap := none, swapDue := none })

/-- The active stops where its swap is lost. -/
theorem Dev.swapLost_fences {k : SwapFor} (v : DWord) (h : k = .alone ∨ k = .recover) :
    (d.swapLost c k v).fab.pair.role = .fenced ∧ (d.swapLost c k v).fab.pair.swap = none := by
  have hfence : ∀ e : Dev, (e.fence c).fab.pair.role = .fenced ∧ (e.fence c).fab.pair.swap = e.fab.pair.swap := fun e =>
    ⟨(e.abandonAll c).toRole_role c .fenced, ((e.abandonAll_carries c).sameEpoch.trans ((e.abandonAll c).toRole_sameEpoch c .fenced)).2.2⟩
  have hlost : d.swapLost c k v = d.unswapped.handoverFail.fence c := by
    rcases h with rfl | rfl <;> rfl
  rw [hlost]
  exact ⟨(hfence _).1, (hfence _).2.trans (Dev.handoverFail_sameEpoch d.unswapped).2.2⟩

theorem Dev.swapLost_standby {k : SwapFor} (v : DWord) (h : k = .takeover ∨ k = .handover) : d.swapLost c k v
    = if d.fab.pair.role = .standby ∧ d.pairLinkUp = true then (d.unswapped.onPair (fun p => { p with epoch := v.toNat / 2 ^ 16, holder := v.toNat % 1024 })).startSync c else d.unswapped := by
  rcases h with rfl | rfl <;> rfl

theorem Dev.swapLost_swap (k : SwapFor) (v : DWord) : (d.swapLost c k v).fab.pair.swap = none := by
  have hstandby : ∀ k, k = .takeover ∨ k = .handover → (d.swapLost c k v).fab.pair.swap = none := fun k hk => by
    rw [Dev.swapLost_standby v hk]
    split
    · obtain ⟨l, hpair⟩ := Dev.startSync_pair c (d.unswapped.onPair (fun p => { p with epoch := v.toNat / 2 ^ 16, holder := v.toNat % 1024 }))
      rw [hpair]
    · rfl
  cases k with
  | activate => exact (Dev.pairEnd_sameEpoch d.unswapped PairRes.witness).2.2
  | alone => exact (Dev.swapLost_fences v (.inl rfl)).2
  | recover => exact (Dev.swapLost_fences v (.inr rfl)).2
  | takeover => exact hstandby _ (.inl rfl)
  | handover => exact hstandby _ (.inr rfl)

theorem witnessSwapOp_error {k : SwapFor} {slots : List CqSlot} (h : d.fab.pair.swap = some k) :
    witnessSwapOp .error slots c d = (d.onPair (fun p => { p with swap := none, swapDue := some (k, c.now + 1000000) })).evtBit Off.fabEvt 12 := by
  unfold witnessSwapOp
  simp only [h]
theorem witnessSwapOp_own {k : SwapFor} {slots : List CqSlot} (h : d.fab.pair.swap = some k) :
    witnessSwapOp (.found (witnessWord d.fab.pair.epoch d.fab.pair.holder)) slots c d = d.swapWon c k slots := by
  unfold witnessSwapOp
  simp only [h, if_true]
theorem witnessSwapOp_other {k : SwapFor} {slots : List CqSlot} {v : DWord} (h : d.fab.pair.swap = some k) (hv : v ≠ witnessWord d.fab.pair.epoch d.fab.pair.holder) :
    witnessSwapOp (.found v) slots c d = d.swapLost c k v := by
  unfold witnessSwapOp
  simp only [h]
  exact if_neg hv

/-! ### Pair commands (R430, R434, R438) -/

/-- A command has ended with a result. -/
structure Dev.PairEnded (e : Dev) (r : Nat) : Prop where
  result : e.fab.pair.cmdResult = r
  idle   : e.fab.pair.cmdBusy = false
  evt    : bit (e.reg Off.fabEvt) 11 = true

theorem Dev.pairEnd_ended (e : Dev) (r : Nat) : (e.pairEnd r).PairEnded r :=
  ⟨by rw [Dev.pairEnd_pair], by rw [Dev.pairEnd_pair], Dev.pairEnd_evt ..⟩
theorem Dev.pairEnd_role (e : Dev) (r : Nat) : (e.pairEnd r).fab.pair.role = e.fab.pair.role := by rw [Dev.pairEnd_pair]

section
variable (hb : d.fab.pair.cmdBusy = false)
include hb

theorem pairCmdW_activate : pairCmdW c 1#32 none d = .took (if d.fab.pair.role = .unpaired ∧ fld (d.reg Off.fabPairCtrl) 1 0 ≠ 0 then (d.issueSwap .activate).onPair (fun q => { q with cmdBusy := true })
    else d.pairEnd PairRes.badState) := by
  unfold pairCmdW
  dsimp only
  rw [if_neg (by simp [hb]), if_pos (by decide)]
  rfl
theorem pairCmdW_join (k : PairCompat) : pairCmdW c 2#32 (some k) d = .took (d.join c k) := by
  unfold pairCmdW
  dsimp only
  rw [if_neg (by simp [hb]), if_neg (by decide), if_pos (by decide)]
theorem pairCmdW_switchover : pairCmdW c 3#32 none d = .took (if d.fab.pair.role = .active ∧ d.fab.pair.handing = false then
    ((d.onPair (fun q => { q with cmdBusy := true, selfDemote := false })).handoverStart c).handoverGo c else d.pairEnd PairRes.badState) := by
  unfold pairCmdW
  dsimp only
  rw [if_neg (by simp [hb]), if_neg (by decide), if_neg (by decide), if_pos (by decide)]
theorem pairCmdW_leave : pairCmdW c 4#32 none d = .took (d.leave c) := by
  unfold pairCmdW
  dsimp only
  rw [if_neg (by simp [hb]), if_neg (by decide), if_neg (by decide), if_neg (by decide), if_pos (by decide)]

end

/-! ### SWITCHOVER (R434) -/

/-- The handover has begun. -/
theorem Dev.handoverStart_spec (e : Dev) : (e.handoverStart c).fab.pair = { e.fab.pair with handing := true } ∧ (e.handoverStart c).jnl.mirrorWait = e.jnl.mirrorWait
    ∧ Tx.witnessRead ∈ (e.handoverStart c).tx := by
  have hsteady := (e.onPair (fun p => { p with handing := true })).abandonAll_steady c
  exact ⟨congrArg Steady.pair hsteady, congrArg (fun t : Steady => t.jnl.mirrorWait) hsteady, List.mem_cons_self⟩

/-- The device as RELEASE leaves it. -/
def Dev.released (c : Ctx) (d : Dev) : Dev :=
  (((d.sendLinks d.pairPorts 3 (msgNum d.fab.pair.epoch)).shiftRecords (-d.fab.pair.offset)).onPair
    (fun q => { q with handing := false, selfDemote := false, leaseEnd := c.now + 160 * nsUs, heard := c.now })).toRole c .standby |>.parkRings

theorem Dev.handoverGo_releases {e : Dev} (hh : e.fab.pair.handing = true) (hw : e.jnl.mirrorWait = []) (hch : e.fab.pair.changes = []) (hr : e.fab.pair.role = .active)
    (hd : e.fab.pair.selfDemote = false) : e.handoverGo c = (e.released c).pairEnd 0 := by
  unfold Dev.handoverGo
  dsimp only
  rw [if_pos ⟨hh, hw, hch, hr⟩, if_neg (by simp [hd])]
  rfl
theorem Dev.handoverGo_waits {e : Dev} (h : ¬ (e.jnl.mirrorWait = [] ∧ e.fab.pair.changes = [])) : e.handoverGo c = e :=
  if_neg (fun ⟨_, hw, hch, _⟩ => h ⟨hw, hch⟩)

theorem Dev.released_spec (e : Dev) : (e.released c).fab.pair.role = .standby ∧ (e.released c).fab.pair.handing = false
    ∧ (∀ r ∈ (e.released c).hif.rings, r.state = .absent ∨ r.state = .parked) ∧ e.Reports (e.released c) := by
  unfold Dev.released
  generalize ha : Dev.onPair _ _ = a
  have hhand : a.fab.pair.handing = false := by
    rw [← ha]
    rfl
  have hrep : e.Reports a := by
    rw [← ha]
    refine (Dev.sendLinks_carries e e.pairPorts 3 (msgNum e.fab.pair.epoch)).reports.trans ?_
    exact .of_eq rfl rfl
  obtain ⟨⟨l, hpair⟩, -⟩ := a.toRole_pair c .standby
  refine ⟨a.toRole_role c .standby, ?_, fun r hr => ?_, (hrep.trans (a.toRole_reports c .standby)).trans (.of_eq rfl rfl)⟩
  · change (a.toRole c .standby).fab.pair.handing = false
    rw [hpair]
    exact hhand
  · obtain ⟨x, -, rfl⟩ := List.mem_map.mp hr
    exact x.park_state

/-! ### LEAVE (R430) -/

/-- The device out of its pair. -/
def Dev.left (c : Ctx) (d : Dev) : Dev := ((d.toRole c .unpaired).onPair (fun p => { p with swap := none, swapDue := none, syncPct := 0 })).pairEnd 0

theorem Dev.left_spec (e : Dev) : (e.left c).fab.pair.role = .unpaired ∧ (e.left c).PairEnded 0 ∧ (e.left c).jnl = e.jnl ∧ (e.left c).hif.rings = e.hif.rings := by
  refine ⟨?_, Dev.pairEnd_ended .., ?_, ?_⟩
  · rw [Dev.left, Dev.pairEnd_role]
    exact e.toRole_role c .unpaired
  · rw [Dev.left, Dev.pairEnd_jnl]
    exact (e.toRole_pair c .unpaired).2
  · rw [Dev.left, Dev.pairEnd_rings]
    exact e.toRole_rings c .unpaired

theorem Dev.leave_eq : d.leave c = match d.fab.pair.role with
    | .activeAlone => d.left c
    | .standby | .syncing | .fenced => (d.eraseMirrored c).left c
    | _ => d.pairEnd PairRes.badState := rfl

end

/-! ### JOIN (R430) -/

section
variable (c : Ctx) (d : Dev)

/-- The unit ID of the partner that this device is set for (R430). -/
def Dev.partnerUnit (d : Dev) : Nat := (List.range 4).foldl (fun a i => a + (d.reg (Off.fabPairUid + 4 * i)).toNat * 2 ^ (32 * i)) 0

theorem Dev.partnerUnit_eq : d.partnerUnit
    = (d.reg Off.fabPairUid).toNat + (d.reg (Off.fabPairUid + 4)).toNat * 2 ^ 32 + (d.reg (Off.fabPairUid + 8)).toNat * 2 ^ 64 + (d.reg (Off.fabPairUid + 12)).toNat * 2 ^ 96 := by
  have hsum : ∀ f : Nat → Nat, (List.range 4).foldl (fun a i => a + f i) 0 = f 0 + f 1 + f 2 + f 3 := fun f => by simp [List.range_succ]
  have hword : ∀ i off w, Off.fabPairUid + 4 * i = off → 32 * i = w → (d.reg (Off.fabPairUid + 4 * i)).toNat * 2 ^ (32 * i) = (d.reg off).toNat * 2 ^ w := by
    rintro i _ _ rfl rfl
    rfl
  refine (hsum (fun i => (d.reg (Off.fabPairUid + 4 * i)).toNat * 2 ^ (32 * i))).trans ?_
  rw [hword 0 Off.fabPairUid 0 rfl rfl, hword 1 (Off.fabPairUid + 4) 32 rfl rfl, hword 2 (Off.fabPairUid + 8) 64 rfl rfl, hword 3 (Off.fabPairUid + 12) 96 rfl rfl, pow_zero, Nat.mul_one]

/-- The partner that answered is that one, and its table, its life cycle and this device's key store are fit for the pair. -/
def Dev.compatible (c : Ctx) (d : Dev) (k : PairCompat) : Prop :=
  k.ddtSize = d.ddtLog2 ∧ k.ddtRetain = fld (d.reg Off.ddtRetain) 15 0 ∧ k.lcState = c.otp.state.code ∧ d.key.store = .ready ∧ k.unitId = d.partnerUnit

theorem Dev.compatible_iff (k : PairCompat) : (k.ddtSize == d.ddtLog2 && k.ddtRetain == fld (d.reg Off.ddtRetain) 15 0 && k.lcState == c.otp.state.code && d.key.store == .ready
    && k.unitId == d.partnerUnit) = true ↔ d.compatible c k := by
  simp only [Dev.compatible, Bool.and_eq_true, beq_iff_eq, and_assoc]

/-- The test swap with equal values. -/
def Dev.tested (k : PairCompat) (d : Dev) : Dev := d.emit (.cas (witnessWord k.epoch k.holder) (witnessWord k.epoch k.holder))

open Classical in
theorem Dev.join_eq (k : PairCompat) : d.join c k
    = if (d.fab.pair.role ≠ .unpaired ∧ d.fab.pair.role ≠ .fenced) ∨ d.pairMode = 0 then d.pairEnd 1
      else if k.reached = false ∨ d.pairLinkUp = false ∨ k.role ≠ 4 then d.pairEnd 3
      else if ¬ d.compatible c k then d.pairEnd 4
      else if k.atomicsOk = false then (d.tested k).pairEnd 6
      else (((d.tested k).onPair (fun p => { p with epoch := k.epoch, holder := k.holder })).startSync c).pairEnd 0 := by
  have hreach : (!k.reached || !d.pairLinkUp || k.role != Role.activeAlone.code) = true ↔ k.reached = false ∨ d.pairLinkUp = false ∨ k.role ≠ 4 := by
    simp [Role.code, or_assoc]
  have hsame := (iff_of_eq (Bool.not_eq_true' _)).trans (Bool.eq_false_iff.trans (not_congr (d.compatible_iff c k)))
  exact if_ctx_congr Iff.rfl (fun _ => rfl) (fun _ => if_ctx_congr hreach (fun _ => rfl) (fun _ => if_ctx_congr hsame (fun _ => rfl)
    (fun _ => if_ctx_congr (iff_of_eq (Bool.not_eq_true' _)) (fun _ => rfl) (fun _ => rfl))))

/-! ### The copy (R438) -/

/-- The lease of a copy that is complete. -/
def Dev.copied (c : Ctx) (d : Dev) : Dev :=
  (d.onPair (fun p => { p with syncPct := 100, heard := c.now, lastAcked := c.now, leaseEnd := c.now + 160 * nsUs })).evtBit Off.fabEvt 7

theorem Dev.copied_spec : (d.copied c).fab.pair.role = d.fab.pair.role ∧ (d.copied c).ddt = d.ddt ∧ (d.copied c).jnl = d.jnl ∧ bit ((d.copied c).reg Off.fabEvt) 7 = true := by
  unfold Dev.copied
  rw [Dev.evtBit_fab, Dev.evtBit_ddt, Dev.evtBit_jnl]
  exact ⟨rfl, rfl, rfl, Dev.evtBit_bit _ _ (by decide)⟩

theorem Dev.sendCopy_jnl : d.sendCopy.jnl = d.jnl := by
  have hsend : ∀ (a : Dev) kind payload, (a.mirrorSend kind payload).jnl = a.jnl := fun a kind payload => Dev.sendPeer_jnl ..
  unfold Dev.sendCopy
  extract_lets d1 d2 d3 d4 d5 d6
  have h1 : d1.jnl = d.jnl := foldl_keep Dev.jnl _ (fun a (m : Domain) => hsend a _ _) ..
  have h2 : d2.jnl = d1.jnl := foldl_keep Dev.jnl _ (fun a (s : Slot) => hsend a _ _) ..
  have h3 : d3.jnl = d2.jnl := foldl_keep Dev.jnl _ (fun a (s : Slice) => hsend a _ _) ..
  have h4 : d4.jnl = d3.jnl := foldl_keep Dev.jnl _ (fun a (r : Ring) => hsend a _ _) ..
  have h5 : d5.jnl = d4.jnl := foldl_keep Dev.jnl _ (fun a (r : Rec) => hsend a _ _) ..
  have h6 : d6.jnl = d5.jnl := (hsend _ _ _).trans (foldl_keep Dev.jnl _ (fun a (e : DdtEntry) => hsend a _ _) ..)
  have h7 : (d6.fab.repls.foldl (fun (a : Dev) r => a.sendRepl r) d6).jnl = d6.jnl := foldl_keep Dev.jnl _ (fun a (r : Repl) => hsend a _ _) ..
  rw [h7, h6, h5, h4, h3, h2, h1]

/-- The table of the new standby can be used. -/
def Dev.tableReady (d : Dev) : Dev := { d with ddt := { d.ddt with ready := true, initing := false, needKeys := false } }
/-- Synchronous mirroring is in force again. -/
def Dev.mirroredAgain (d : Dev) : Dev := { d with jnl := { d.jnl with degraded := false } }

variable {d}

theorem syncCopyOp_joiner (h : d.fab.pair.role = .syncing) : (syncCopyOp c d).fab.pair.role = .standby ∧ (syncCopyOp c d).ddt.ready = true
    ∧ bit ((syncCopyOp c d).reg Off.fabEvt) 7 = true := by
  have hop : syncCopyOp c d = (d.tableReady.toRole c .standby).copied c := by
    unfold syncCopyOp
    simp only [h]
    rfl
  obtain ⟨hrole, hddt, -, hevt⟩ := (d.tableReady.toRole c .standby).copied_spec c
  rw [hop, hrole, hddt, Dev.toRole_ddt]
  exact ⟨d.tableReady.toRole_role c .standby, rfl, hevt⟩

theorem syncCopyOp_source (h : d.fab.pair.role = .activeAlone) (hl : d.pairLinkUp = true) (h1 : d.fab.pair.swap = none) (h2 : d.fab.pair.swapDue = none) :
    (syncCopyOp c d).fab.pair.role = .active ∧ (syncCopyOp c d).jnl.degraded = false ∧ bit ((syncCopyOp c d).reg Off.fabEvt) 7 = true := by
  have hop : syncCopyOp c d = (d.mirroredAgain.toRole c .active).sendCopy.copied c := by
    unfold syncCopyOp
    simp only [h]
    rw [if_pos (by simp [hl, Pair.swapping_false h1 h2])]
    rfl
  obtain ⟨hrole, -, hjnl, hevt⟩ := (d.mirroredAgain.toRole c .active).sendCopy.copied_spec c
  rw [hop, hrole, hjnl, (Dev.sendCopy_carries _).pair, Dev.sendCopy_jnl, (d.mirroredAgain.toRole_pair c .active).2]
  exact ⟨d.mirroredAgain.toRole_role c .active, rfl, hevt⟩

theorem syncCopyOp_waits (h : d.fab.pair.role = .activeAlone) (hn : ¬ (d.pairLinkUp = true ∧ d.fab.pair.swap = none ∧ d.fab.pair.swapDue = none)) : syncCopyOp c d = d := by
  unfold syncCopyOp
  simp only [h]
  refine if_neg ?_
  rw [Bool.and_eq_true, Pair.swapping, Bool.not_eq_true', Bool.or_eq_false_iff, Option.isSome_eq_false_iff, Option.isSome_eq_false_iff, Option.isNone_iff_eq_none, Option.isNone_iff_eq_none]
  exact hn
theorem syncCopyOp_other (h : d.fab.pair.role ≠ .syncing) (h2 : d.fab.pair.role ≠ .activeAlone) : syncCopyOp c d = d := by
  unfold syncCopyOp
  cases hr : d.fab.pair.role with
  | syncing => exact absurd hr h
  | activeAlone => exact absurd hr h2
  | unpaired | standby | active | fenced => rfl

/-! ### Mirror updates (R128, R437) -/

theorem Dev.ddtInsert_getD (e : DdtEntry) : ((d.ddtInsert c e).getD d).fab = d.fab := by
  cases h : d.ddtInsert c e with
  | none => rfl
  | some x => exact congrArg Head.fab (Dev.ddtInsert_head c h)

/-- An update leaves the role and the epoch. -/
theorem Dev.mirrorApply_pair (m : MirrorMsg) : (d.mirrorApply c m).fab.pair.role = d.fab.pair.role ∧ (d.mirrorApply c m).fab.pair.epoch = d.fab.pair.epoch := by
  unfold Dev.mirrorApply
  split
  · exact ⟨rfl, rfl⟩
  · rw [Dev.ddtInsert_getD]
    exact ⟨rfl, rfl⟩
  · exact ⟨rfl, rfl⟩
  · split <;> exact ⟨rfl, rfl⟩
  all_goals exact ⟨rfl, rfl⟩

/-- A new record takes its slot. -/
theorem Dev.mirrorApply_record {slot : Nat} {h b : Bytes} (hn : d.rec? slot = none) (hf : (recOf slot h).st ≠ .free) :
    recOf slot h ∈ (d.mirrorApply c (.record slot h b)).jnl.recs := by
  unfold Dev.mirrorApply Dev.mirrorRecord
  dsimp only
  rw [hn]
  dsimp only
  rw [if_neg hf]
  exact List.mem_append_right _ List.mem_cons_self

/-- The acknowledgement of an update. -/
def Dev.confirmed (e : Nat) (d : Dev) : Dev := d.sendPeer d.partner 2 10 (msgNum e)
/-- How far a copy has come is noted. -/
def Dev.copying (n : Nat) (d : Dev) : Dev := (d.onPair (fun q => { q with syncPct := max q.syncPct n })).draw

theorem mirrorReceiveOp_standby {e : Nat} {m : MirrorMsg} (hr : d.fab.pair.role = .standby) (he : e = d.fab.pair.epoch) : mirrorReceiveOp e m c d = (d.mirrorApply c m).confirmed e := by
  unfold mirrorReceiveOp
  dsimp only
  rw [if_pos ⟨.inl hr, he⟩, if_neg (by rw [hr]; decide)]
  rfl
theorem mirrorReceiveOp_syncing {e : Nat} {m : MirrorMsg} (hr : d.fab.pair.role = .syncing) (he : e = d.fab.pair.epoch) :
    mirrorReceiveOp e m c d = ((d.mirrorApply c m).confirmed e).copying (Config.freeNat d.rng.ctr 600 % 100) := by
  unfold mirrorReceiveOp
  dsimp only
  rw [if_pos ⟨.inr hr, he⟩, if_pos hr]
  rfl
theorem mirrorReceiveOp_ignores {e : Nat} {m : MirrorMsg} (h : (d.fab.pair.role ≠ .standby ∧ d.fab.pair.role ≠ .syncing) ∨ e ≠ d.fab.pair.epoch) : mirrorReceiveOp e m c d = d := by
  refine if_neg ?_
  rintro ⟨hr | hr, he⟩
  · rcases h with h | h
    · exact h.1 hr
    · exact h he
  · rcases h with h | h
    · exact h.2 hr
    · exact h he

/-- The role, the epoch, the table, the replications and the records are those that the update gave. -/
structure Dev.Mirrored (d e : Dev) : Prop where
  role  : e.fab.pair.role = d.fab.pair.role
  epoch : e.fab.pair.epoch = d.fab.pair.epoch
  ddt   : e.ddt = d.ddt
  repls : e.fab.repls = d.fab.repls
  jnl   : e.jnl = d.jnl

theorem Dev.Mirrored.trans {a b c : Dev} (h : a.Mirrored b) (g : b.Mirrored c) : a.Mirrored c :=
  ⟨g.role.trans h.role, g.epoch.trans h.epoch, g.ddt.trans h.ddt, g.repls.trans h.repls, g.jnl.trans h.jnl⟩
theorem Dev.copying_mirrored (n : Nat) (d : Dev) : d.Mirrored (d.copying n) := ⟨rfl, rfl, rfl, rfl, rfl⟩
theorem Dev.confirmed_mirrored (e : Nat) (d : Dev) : d.Mirrored (d.confirmed e) := by
  have hpair : (d.confirmed e).fab.pair = d.fab.pair := congrArg Steady.pair (Dev.sendPeer_steady ..)
  exact ⟨by rw [hpair], by rw [hpair], Dev.sendPeer_ddt .., (Dev.sendPeer_stays ..).repls, Dev.sendPeer_jnl ..⟩

theorem mirrorReceiveOp_spec {e : Nat} {m : MirrorMsg} (hr : d.fab.pair.role = .standby ∨ d.fab.pair.role = .syncing) (he : e = d.fab.pair.epoch) :
    (d.mirrorApply c m).Mirrored (mirrorReceiveOp e m c d) := by
  have hack := (d.mirrorApply c m).confirmed_mirrored e
  rcases hr with hr | hr
  · rw [mirrorReceiveOp_standby c hr he]
    exact hack
  · rw [mirrorReceiveOp_syncing c hr he]
    exact hack.trans (Dev.copying_mirrored ..)

end

/-! ### The commands of the pair -/

section
variable {c : Ctx} {d : Dev}

/-- SWITCHOVER, begun: the command is busy, the device stops, and the witness word is read. -/
def Dev.switching (c : Ctx) (d : Dev) : Dev := (d.onPair (fun q => { q with cmdBusy := true, selfDemote := false })).handoverStart c

theorem Dev.switching_spec : (d.switching c).fab.pair = { d.fab.pair with cmdBusy := true, selfDemote := false, handing := true }
    ∧ (d.switching c).jnl.mirrorWait = d.jnl.mirrorWait ∧ Tx.witnessRead ∈ (d.switching c).tx := Dev.handoverStart_spec _

theorem Dev.switchover_idle (hr : d.fab.pair.role = .active) (hw : d.jnl.mirrorWait = []) (hch : d.fab.pair.changes = []) :
    let e := (d.switching c).handoverGo c
    Tx.witnessRead ∈ e.tx ∧ e.fab.pair.role = .standby ∧ e.fab.pair.handing = false ∧ e.PairEnded 0 ∧ ∀ r ∈ e.hif.rings, r.state = .absent ∨ r.state = .parked := by
  obtain ⟨hpair, hwait, hsent⟩ := Dev.switching_spec (c := c) (d := d)
  obtain ⟨hrole, hhand, hrings, hrep⟩ := Dev.released_spec (c := c) (d.switching c)
  dsimp only
  rw [Dev.handoverGo_releases (by rw [hpair]) (hwait.trans hw) (by rw [hpair]; exact hch) (by rw [hpair]; exact hr) (by rw [hpair]), Dev.pairEnd_rings]
  refine ⟨(Dev.pairEnd_reports _ 0).sent _ (hrep.sent _ hsent), by rw [Dev.pairEnd_pair]; exact hrole, by rw [Dev.pairEnd_pair]; exact hhand, Dev.pairEnd_ended _ 0, hrings⟩

theorem Dev.switchover_waits (hr : d.fab.pair.role = .active) (h : ¬ (d.jnl.mirrorWait = [] ∧ d.fab.pair.changes = [])) :
    let e := (d.switching c).handoverGo c
    Tx.witnessRead ∈ e.tx ∧ e.fab.pair.role = .active ∧ e.fab.pair.handing = true ∧ e.fab.pair.cmdBusy = true := by
  obtain ⟨hpair, hwait, hsent⟩ := Dev.switching_spec (c := c) (d := d)
  dsimp only
  rw [Dev.handoverGo_waits (by rw [hwait, hpair]; exact h), hpair]
  exact ⟨hsent, hr, rfl, rfl⟩

theorem Dev.leave_spec (h : ¬ (d.fab.pair.role = .unpaired ∨ d.fab.pair.role = .active)) :
    (d.leave c).fab.pair.role = .unpaired ∧ (d.leave c).PairEnded 0
      ∧ (d.fab.pair.role ≠ .activeAlone → (d.leave c).jnl.recs = [] ∧ ∀ r ∈ (d.leave c).hif.rings, r.state = .absent) := by
  obtain ⟨-, hrecs, hrings, -⟩ := d.eraseMirrored_spec c
  obtain ⟨hrole, hend, hjnl, hhif⟩ := Dev.left_spec (c := c) (d.eraseMirrored c)
  have hleft : ((d.eraseMirrored c).left c).jnl.recs = [] ∧ ∀ r ∈ ((d.eraseMirrored c).left c).hif.rings, r.state = .absent := by
    rw [hjnl, hhif]
    exact ⟨hrecs, hrings⟩
  rw [Dev.leave_eq]
  cases hr : d.fab.pair.role with
  | unpaired => exact absurd (.inl hr) h
  | active => exact absurd (.inr hr) h
  | activeAlone =>
    obtain ⟨hrole, hend, -⟩ := Dev.left_spec (c := c) d
    exact ⟨hrole, hend, fun hn => absurd rfl hn⟩
  | standby | syncing | fenced => exact ⟨hrole, hend, fun _ => hleft⟩

theorem Dev.leave_bad (h : d.fab.pair.role = .unpaired ∨ d.fab.pair.role = .active) : d.leave c = d.pairEnd 1 := by
  rw [Dev.leave_eq]
  rcases h with h | h <;> rw [h]

/-- JOIN, once the partner is known to be fit. -/
theorem Dev.joined_spec (k : PairCompat) : let e := (((d.tested k).onPair (fun p => { p with epoch := k.epoch, holder := k.holder })).startSync c).pairEnd 0
    Tx.cas (witnessWord k.epoch k.holder) (witnessWord k.epoch k.holder) ∈ e.tx ∧ e.PairEnded 0 ∧ e.fab.pair.role = .syncing ∧ e.fab.pair.epoch = k.epoch
      ∧ e.fab.pair.holder = k.holder ∧ e.jnl.recs = [] := by
  dsimp only
  generalize ha : (d.tested k).onPair _ = a
  have hsent : Tx.cas (witnessWord k.epoch k.holder) (witnessWord k.epoch k.holder) ∈ a.tx := by
    rw [← ha]
    exact List.mem_cons_self
  have hepoch : a.fab.pair.epoch = k.epoch ∧ a.fab.pair.holder = k.holder := by
    rw [← ha]
    exact ⟨rfl, rfl⟩
  obtain ⟨l, hpair⟩ := a.startSync_pair c
  refine ⟨(Dev.pairEnd_reports _ 0).sent _ ((a.startSync_reports c).sent _ hsent), Dev.pairEnd_ended _ 0, ?_, ?_, ?_, ?_⟩
  · rw [Dev.pairEnd_pair, hpair]
  · rw [Dev.pairEnd_pair, hpair]
    exact hepoch.1
  · rw [Dev.pairEnd_pair, hpair]
    exact hepoch.2
  · rw [Dev.pairEnd_jnl]
    exact (a.startSync_spec c).2.2

end

/-- Settles O41: swaps by their outcome and what they were for, commands by the role that they find. -/
theorem pairRoles : Obligations.PairRoles := by
  intro s
  refine ⟨fun k sl hk => ⟨?_, ?_, fun v hv => ?_⟩, fun hm hb => ⟨?_, ?_, ?_, fun k => ?_⟩, ?_, fun e m => ⟨fun hr he => ?_, fun hr he => ?_, fun h => ?_⟩⟩
  · refine ⟨_, onDev_gives (f := witnessSwapOp .error sl) (witnessSwapOp_error hk), .of_dev .., ?_, Dev.evtBit_bit _ _ (by decide)⟩
    dsimp only
    rw [Dev.evtBit_fab]
    rfl
  · obtain ⟨hepoch, hholder, hswap⟩ := s.dev.swapWon_sameEpoch s.ctx k sl
    refine ⟨_, onDev_gives (f := witnessSwapOp _ sl) (witnessSwapOp_own hk), .of_dev .., hepoch, hholder, hswap, Dev.swapWon_alone sl, fun h hr => ?_, fun h hr => ?_⟩
    · subst h
      exact (Dev.swapWon_handover sl hr).1
    · rcases h with rfl | rfl
      · exact Dev.swapWon_takeover_evt sl hr
      · exact (Dev.swapWon_handover sl hr).2
  · refine ⟨_, onDev_gives (f := witnessSwapOp _ sl) (witnessSwapOp_other hk hv), .of_dev .., Dev.swapLost_swap k v, fun h => ?_, fun h => (Dev.swapLost_fences v h).1, fun h hr => ⟨fun hl => ?_, fun hl => ?_⟩⟩
    · subst h
      have hlost : s.dev.swapLost s.ctx .activate v = s.dev.unswapped.pairEnd 5 := rfl
      dsimp only
      rw [hlost, Dev.pairEnd_pair]
      exact ⟨rfl, rfl, rfl⟩
    · dsimp only
      rw [Dev.swapLost_standby v h, if_pos ⟨hr, hl⟩]
      obtain ⟨l, hpair⟩ := Dev.startSync_pair s.ctx (s.dev.unswapped.onPair (fun p => { p with epoch := v.toNat / 2 ^ 16, holder := v.toNat % 1024 }))
      rw [hpair]
      exact ⟨rfl, rfl, rfl⟩
    · dsimp only
      rw [Dev.swapLost_standby v h, if_neg (by rw [hl]; simp)]
      rfl
  · refine ⟨_, onDev_took (f := fun c => pairCmdW c 1#32 none) hm (by decide) (pairCmdW_activate hb), .of_dev .., ?_⟩
    dsimp only
    split
    next h => exact ⟨rfl, rfl⟩
    next h =>
      have hend := Dev.pairEnd_ended s.dev 1
      exact ⟨⟨hend.result, hend.idle, hend.evt⟩, Dev.pairEnd_role ..⟩
  · refine ⟨_, onDev_took (f := fun c => pairCmdW c 3#32 none) hm (by decide) (pairCmdW_switchover hb), .of_dev .., ?_⟩
    dsimp only
    split
    next h =>
      split
      next hi =>
        obtain ⟨hsent, hrole, hhand, hend, hrings⟩ := Dev.switchover_idle (c := s.ctx) h.1 hi.1 hi.2
        exact ⟨hsent, hrole, hhand, ⟨hend.result, hend.idle, hend.evt⟩, hrings⟩
      next hi => exact Dev.switchover_waits h.1 hi
    next h =>
      have hend := Dev.pairEnd_ended s.dev 1
      exact ⟨⟨hend.result, hend.idle, hend.evt⟩, Dev.pairEnd_role ..⟩
  · refine ⟨_, onDev_took (f := fun c => pairCmdW c 4#32 none) hm (by decide) (pairCmdW_leave hb), .of_dev .., ?_⟩
    dsimp only
    split
    next h =>
      rw [Dev.leave_bad h]
      have hend := Dev.pairEnd_ended s.dev 1
      exact ⟨⟨hend.result, hend.idle, hend.evt⟩, Dev.pairEnd_role ..⟩
    next h =>
      obtain ⟨hrole, hend, hgone⟩ := Dev.leave_spec (c := s.ctx) h
      exact ⟨hrole, ⟨hend.result, hend.idle, hend.evt⟩, hgone⟩
  · refine ⟨_, onDev_took (f := fun c => pairCmdW c 2#32 (some k)) hm (by decide) (pairCmdW_join hb k), .of_dev .., ?_⟩
    have hended : ∀ (e : Dev) r, (e.pairEnd r).fab.pair.cmdResult = r ∧ (e.pairEnd r).fab.pair.cmdBusy = false ∧ bit ((e.pairEnd r).reg Off.fabEvt) 11 = true :=
      fun e r => ⟨(e.pairEnd_ended r).result, (e.pairEnd_ended r).idle, (e.pairEnd_ended r).evt⟩
    rw [← Dev.partnerUnit_eq]
    dsimp only
    rw [Dev.join_eq, Dev.pairMode]
    by_cases hbad : (s.dev.fab.pair.role ≠ .unpaired ∧ s.dev.fab.pair.role ≠ .fenced) ∨ fld (s.dev.reg Off.fabPairCtrl) 1 0 = 0
    · rw [if_pos hbad, if_pos hbad]
      exact ⟨hended .., Dev.pairEnd_role ..⟩
    · rw [if_neg hbad, if_neg hbad]
      split
      · exact ⟨hended .., Dev.pairEnd_role ..⟩
      · by_cases hc : s.dev.compatible s.ctx k
        · rw [if_neg (not_not.mpr hc)]
          split
          next hn => exact absurd hc hn
          next =>
            split
            · exact ⟨(Dev.pairEnd_reports _ 6).sent _ List.mem_cons_self, hended .., Dev.pairEnd_role ..⟩
            · obtain ⟨hsent, hend, hrole, hepoch, hholder, hrecs⟩ := Dev.joined_spec (c := s.ctx) (d := s.dev) k
              exact ⟨hsent, ⟨hend.result, hend.idle, hend.evt⟩, hrole, hepoch, hholder, hrecs⟩
        · rw [if_pos hc]
          split
          next => exact ⟨hended .., Dev.pairEnd_role ..⟩
          next hn => exact absurd (not_not.mp hn) hc
  · refine ⟨_, onDev_gives (f := syncCopyOp) rfl, .of_dev .., ?_⟩
    dsimp only
    cases hr : s.dev.fab.pair.role with
    | syncing => exact syncCopyOp_joiner s.ctx hr
    | activeAlone =>
      dsimp only
      split
      next h => exact syncCopyOp_source s.ctx hr h.1 h.2.1 h.2.2
      next h => rw [syncCopyOp_waits s.ctx hr h]
    | unpaired | standby | active | fenced => exact congrArg (fun d => { s with dev := d }) (syncCopyOp_other s.ctx (by rw [hr]; decide) (by rw [hr]; decide))
  · have hspec := mirrorReceiveOp_spec s.ctx (m := m) hr he
    obtain ⟨hrole, hepoch⟩ := s.dev.mirrorApply_pair s.ctx m
    refine ⟨_, onDev_gives (f := mirrorReceiveOp e m) rfl, .of_dev .., hspec.role.trans hrole, (hspec.epoch.trans hepoch).trans he.symm, fun k hm => ?_, fun dom idx en peer hm => ?_, fun slot h b hm hn hf => ?_⟩
    · subst hm
      exact congrArg Ddt.hashKey hspec.ddt
    · subst hm
      refine ⟨{ domain := dom, index := idx, en := en, peer := peer }, ?_, rfl, rfl, rfl, rfl⟩
      dsimp only
      rw [hspec.repls]
      exact List.mem_append_right _ List.mem_cons_self
    · subst hm
      dsimp only
      rw [hspec.jnl]
      exact Dev.mirrorApply_record s.ctx hn hf
  · exact onDev_gives (f := mirrorReceiveOp e m) (mirrorReceiveOp_standby s.ctx hr he)
  · exact onDev_idle (f := mirrorReceiveOp e m) (mirrorReceiveOp_ignores s.ctx h)

end Sys2Proof.Machine
